-- ==== Sys2Proof/Word.lean ====
section
/-!
DEFINITION. The machine words of the LV810: bytes, 64-bit register words and 32-byte command words.
-/
namespace Sys2Proof

/-- One byte of memory (R7: every multi-byte value is little-endian). -/
abbrev Byte := BitVec 8

/-- One register, scalar register or crumb (R82, R92): 64 bits; a 32-bit register uses the low half. -/
abbrev Word := BitVec 64

/-- One 32-byte command of a tile's command region (R118), bit 0 the least significant bit of word H. -/
abbrev CmdWord := BitVec 256

end Sys2Proof
end

