-- ==== Sys2Proof/Syntax.lean ====
section
/-!
DEFINITION. The commands of the LV810: one constructor per row of spec/opcode_table.json, with the operands that its sender or the
environment supplies. `t` is a physical tile by its PG_ID instance (R431), `fn` a PCIe function, `p` and `pol` polders, `sl` a slice
by its PG_ID instance, `ecc` the scratchpad upsets (address, kind: 0 single bit, 1 transient double, 2 lasting) that the
step meets (R94), `outcome` of an HBM read 0 clean, 1 corrected, 2 clean on the re-read, 3 lasting (R262).
-/
namespace Sys2Proof

/-- A command of the block (the row's rule stands after it). -/
inductive Instr where
  | commandFetch (t : Nat) (err : Nat)  -- COMMAND_FETCH, R86
  | moveLoad (t : Nat) (ecc : List (Nat × Nat))  -- MOVE_LOAD, R130
  | moveStore (t : Nat) (ecc : List (Nat × Nat))  -- MOVE_STORE, R130
  | mma (t : Nat) (ecc : List (Nat × Nat))  -- MMA, R134
  | mmz (t : Nat) (ecc : List (Nat × Nat))  -- MMZ, R134
  | vecMap (t : Nat) (ecc : List (Nat × Nat))  -- VEC_MAP, R140
  | vecReduce (t : Nat) (ecc : List (Nat × Nat))  -- VEC_REDUCE, R140
  | convL (t : Nat) (ecc : List (Nat × Nat))  -- CONV_L, R133
  | convS (t : Nat) (ecc : List (Nat × Nat))  -- CONV_S, R133
  | convV (t : Nat) (ecc : List (Nat × Nat))  -- CONV_V, R133
  | exchSend (t : Nat)  -- EXCH_SEND, R141
  | exchRecv (t : Nat)  -- EXCH_RECV, R141
  | waitb (t : Nat)  -- WAITB, R142
  | fbar (t : Nat)  -- FBAR, R143
  | kflag (t : Nat)  -- KFLAG, R144
  | kwait (t : Nat)  -- KWAIT, R144
  | loop (t : Nat)  -- LOOP, R145
  | alu (t : Nat)  -- ALU, R147
  | cmp (t : Nat)  -- CMP, R148
  | pbool (t : Nat)  -- PBOOL, R148
  | ldi (t : Nat)  -- LDI, R148
  | ldc (t : Nat) (ecc : List (Nat × Nat))  -- LDC, R149
  | stc (t : Nat)  -- STC, R149
  | amxr (t : Nat)  -- AMXR, R150
  | sqOpen (t : Nat)  -- SQ_OPEN, R283
  | sqPush (t : Nat) (ecc : List (Nat × Nat))  -- SQ_PUSH, R283
  | sqClose (t : Nat)  -- SQ_CLOSE, R283
  | sqPop (t : Nat)  -- SQ_POP, R284
  | atomAdd (t : Nat)  -- ATOM_ADD, R152
  | atomMin (t : Nat)  -- ATOM_MIN, R152
  | atomMax (t : Nat)  -- ATOM_MAX, R152
  | atomCas (t : Nat)  -- ATOM_CAS, R152
  | atomSwap (t : Nat)  -- ATOM_SWAP, R152
  | atomFinc (t : Nat)  -- ATOM_FINC, R152
  | lacq (t : Nat)  -- LACQ, R271
  | lrel (t : Nat)  -- LREL, R271
  | cntCount (t : Nat) (ecc : List (Nat × Nat))  -- CNT_COUNT, R153
  | cntMask (t : Nat) (ecc : List (Nat × Nat))  -- CNT_MASK, R153
  | cntHist (t : Nat) (ecc : List (Nat × Nat))  -- CNT_HIST, R153
  | snap (t : Nat) (ecc : List (Nat × Nat))  -- SNAP, R154
  | mark (t : Nat)  -- MARK, R155
  | halt (t : Nat)  -- HALT, R156
  | commandComplete (t : Nat) (eng : Nat) (ecc : List (Nat × Nat))  -- COMMAND_COMPLETE, R157
  | taskStart (t : Nat)  -- TASK_START, R116
  | taskStop (t : Nat)  -- TASK_STOP, R116
  | tileClear (t : Nat)  -- TILE_CLEAR, R112
  | clearComplete (t : Nat)  -- CLEAR_COMPLETE, R112
  | scratchpadWindowWrite (fn : Nat) (t : Nat) (addr : Nat) (data : List Byte)  -- SCRATCHPAD_WINDOW_WRITE, R117
  | tokenGrant (t : Nat) (vec : Bool) (ecc : List (Nat × Nat))  -- TOKEN_GRANT, R385
  | tokenIdleReturn (t : Nat) (vec : Bool)  -- TOKEN_IDLE_RETURN, R182
  | rampAdmission (pol : Nat) (die : Nat) (k : Nat)  -- RAMP_ADMISSION, R389
  | rampEnd (pol : Nat) (die : Nat)  -- RAMP_END, R389
  | exchSlot (t : Nat) (stream : Nat) (late : Bool) (ecc : List (Nat × Nat))  -- EXCH_SLOT, R219
  | exchLoafArrival (t : Nat) (stream : Nat) (idx : Nat)  -- EXCH_LOAF_ARRIVAL, R223
  | crossingSlot (die : Nat) (col : Nat) (retry : Bool)  -- CROSSING_SLOT, R220
  | xpCrossLate (t : Nat) (stream : Nat) (idx : Nat)  -- XP_CROSS_LATE, R223
  | handshakeCredit (t : Nat) (stream : Nat) (ecc : List (Nat × Nat))  -- HANDSHAKE_CREDIT, R226
  | sliceLoad (pol : Nat) (die : Nat) (kind : Nat) (pa : Nat) (len : Nat) (sram : Nat)  -- SLICE_LOAD, R252
  | sliceStore (pol : Nat) (die : Nat) (kind : Nat) (pa : Nat) (data : List Byte)  -- SLICE_STORE, R251
  | heldStore (t : Nat) (path : Nat)  -- HELD_STORE, R254
  | commit (t : Nat) (path : Nat)  -- COMMIT, R254
  | discard (t : Nat) (path : Nat)  -- DISCARD, R255
  | provFull (t : Nat) (path : Nat)  -- PROV_FULL, R256
  | wcbDrainAge (sl : Nat)  -- WCB_DRAIN_AGE, R253
  | nearInvalidate (die : Nat) (line : Nat)  -- NEAR_INVALIDATE, R241
  | sliceAtomic (t : Nat)  -- SLICE_ATOMIC, R268
  | lockOp (t : Nat)  -- LOCK_OP, R271
  | lockFree (sl : Nat)  -- LOCK_FREE, R272
  | hbmReadReturn (da : Nat) (outcome : Nat) (bad : List Nat)  -- HBM_READ_RETURN, R262
  | freshZeroDone (blk : Nat)  -- FRESH_ZERO_DONE, R258
  | scrubZeroBlock (stack : Nat)  -- SCRUB_ZERO_BLOCK, R261
  | patrolRead (stack : Nat) (outcome : Nat) (bad : List Nat)  -- PATROL_READ, R261
  | hbmTempSample (stack : Nat) (temp : Nat) (trip : Bool)  -- HBM_TEMP_SAMPLE, R266
  | sqTailArrival (t : Nat)  -- SQ_TAIL_ARRIVAL, R290
  | sqMiddleRefill (q : Nat) (err : Bool)  -- SQ_MIDDLE_REFILL, R280
  | sqSegmentRequest (q : Nat)  -- SQ_SEGMENT_REQUEST, R289
  | poolEmpty (q : Nat)  -- POOL_EMPTY, R289
  | sqFlush (q : Nat)  -- SQ_FLUSH, R290
  | kndPost (fn : Nat) (die : Nat)  -- KND_POST, R330
  | kflagAccept (t : Nat)  -- KFLAG_ACCEPT, R331
  | kndDataFlit (die : Nat)  -- KND_DATA_FLIT, R338
  | kndReady (die : Nat)  -- KND_READY, R337
  | kndArrive (die : Nat)  -- KND_ARRIVE, R337
  | kndDone (die : Nat)  -- KND_DONE, R342
  | kndShadowComplete (die : Nat) (slot : Nat)  -- KND_SHADOW_COMPLETE, R342
  | kndCommitComplete (die : Nat) (slot : Nat)  -- KND_COMMIT_COMPLETE, R342
  | kndAbortMsg (die : Nat)  -- KND_ABORT_MSG, R349
  | kndAbort (die : Nat) (pol : Nat)  -- KND_ABORT, R349
  | kndQuiesce (die : Nat) (pol : Nat) (frames : Nat)  -- KND_QUIESCE, R351
  | quiesceExpiry (die : Nat)  -- QUIESCE_EXPIRY, R351
  | kndDeadline (die : Nat) (slot : Nat)  -- KND_DEADLINE, R347
  | fbarArrival (t : Nat)  -- FBAR_ARRIVAL, R344
  | frameBarrierRelease (die : Nat) (slot : Nat)  -- FRAME_BARRIER_RELEASE, R344
  | barrierCompletion (die : Nat) (slot : Nat)  -- BARRIER_COMPLETION, R345
  | snapCopyComplete (t : Nat)  -- SNAP_COPY_COMPLETE, R417
  | lnkDataFlit (port : Nat) (crcOk : Bool) (hdr : Nat) (payload : List Byte) (piggy : Nat)  -- LNK_DATA_FLIT, R314
  | lnkCtlFlit (port : Nat) (crcOk : Bool) (body : List Byte)  -- LNK_CTL_FLIT, R301
  | lnkSignalDetect (port : Nat)  -- LNK_SIGNAL_DETECT, R305
  | fullTrainingEnd (port : Nat) (ok : Bool)  -- FULL_TRAINING_END, R305
  | retrainEnd (port : Nat) (ok : Bool) (lo : Nat) (hi : Nat)  -- RETRAIN_END, R306
  | lnkLockLoss (port : Nat)  -- LNK_LOCK_LOSS, R309
  | portRestored (port : Nat)  -- PORT_RESTORED, R311
  | lnkEnable (port : Nat) (en : Bool)  -- LNK_ENABLE, R305
  | lnkRetrain (port : Nat)  -- LNK_RETRAIN, R306
  | cblPrsntChange (port : Nat) (present : Bool)  -- CBL_PRSNT_CHANGE, R479
  | d2dFlit (link : Nat) (cls : Nat) (src : Nat) (dst : Nat) (seq : Nat) (bundle : Nat) (lanes : List Nat) (bad : Bool)  -- D2D_FLIT, R232
  | d2dSpareReq (link : Nat) (bundle : Nat) (lane : Nat)  -- D2D_SPARE_REQ, R233
  | d2dSpareTrained (link : Nat) (ok : Bool)  -- D2D_SPARE_TRAINED, R233
  | d2dSpareGo (link : Nat)  -- D2D_SPARE_GO, R233
  | d2dNoFlitTimeout (link : Nat)  -- D2D_NO_FLIT_TIMEOUT, R234
  | d2dFail (link : Nat)  -- D2D_FAIL, R234
  | d2dRouteNotice (die : Nat)  -- D2D_ROUTE_NOTICE, R236
  | d2dRouteSwitch (src : Nat) (dst : Nat)  -- D2D_ROUTE_SWITCH, R237
  | d2dRetrain (link : Nat)  -- D2D_RETRAIN, R239
  | linkRestored (link : Nat)  -- LINK_RESTORED, R239
  | armBeat  -- ARM_BEAT, R365
  | armFrame  -- ARM_FRAME, R365
  | disarm  -- DISARM, R366
  | armCtrlDiscard  -- ARM_CTRL_DISCARD, R364
  | armCtrlMulti (val : Nat)  -- ARM_CTRL_MULTI, R495
  | activation  -- ACTIVATION, R367
  | loadAbandon (pol : Nat)  -- LOAD_ABANDON, R212
  | activationComplete  -- ACTIVATION_COMPLETE, R370
  | rejoin (val : Nat)  -- REJOIN, R368
  | rejoinApply  -- REJOIN_APPLY, R368
  | tileReset (target : Nat)  -- TILE_RESET, R411
  | polderReset (target : Nat)  -- POLDER_RESET, R411
  | dieCoreReset (target : Nat)  -- DIE_CORE_RESET, R411
  | deviceCoreReset (ppr : List Nat)  -- DEVICE_CORE_RESET, R411
  | coldReset (ppr : List Nat)  -- COLD_RESET, R411
  | resetDone  -- RESET_DONE, R413
  | unitFence (page : Nat)  -- UNIT_FENCE, R406
  | unitUnfence (page : Nat)  -- UNIT_UNFENCE, R406
  | unitRepair (page : Nat)  -- UNIT_REPAIR, R407
  | repairDone (page : Nat) (pass : Bool)  -- REPAIR_DONE, R407
  | voteSweep (table : Nat) (index : Nat) (copies : List Nat) (ok : List Nat)  -- VOTE_SWEEP, R408
  | retirementMapWrite (die : Nat)  -- RETIREMENT_MAP_WRITE, R405
  | intakeEnable (p : Nat)  -- INTAKE_ENABLE, R439
  | intakeDisable (p : Nat)  -- INTAKE_DISABLE, R448
  | rqDoorbell (p : Nat) (tail : Nat)  -- RQ_DOORBELL, R440
  | nopReq (p : Nat) (entry : List Byte)  -- NOP, R440
  | load (p : Nat) (entry : List Byte)  -- LOAD, R201
  | loadDone (p : Nat) (readFail : Bool) (us : Nat) (timing : Nat)  -- LOAD_DONE, R210
  | loadAbort (die : Nat) (val : Nat)  -- LOAD_ABORT, R212
  | run (p : Nat) (entry : List Byte)  -- RUN, R442
  | step (p : Nat) (entry : List Byte)  -- STEP, R443
  | restore (p : Nat) (entry : List Byte) (bad : List Nat)  -- RESTORE, R420
  | copy (p : Nat) (entry : List Byte) (data : List Byte) (fails : Nat)  -- COPY, R444
  | resetReq (p : Nat) (entry : List Byte)  -- RESET, R445
  | badRequest (p : Nat) (entry : List Byte)  -- BAD_REQUEST, R440
  | recordBacklogDrain (p : Nat)  -- RECORD_BACKLOG_DRAIN, R446
  | ringFault (p : Nat)  -- RING_FAULT, R448
  | hostWindowReadComplete (t : Nat) (ok : Bool) (chunks : List (Nat × List Byte)) (ecc : List (Nat × Nat))  -- HOST_WINDOW_READ_COMPLETE, R449
  | flrPf  -- FLR_PF, R429
  | flrVf (n : Nat)  -- FLR_VF, R429
  | perstAssert  -- PERST_ASSERT, R429
  | perstDeassert  -- PERST_DEASSERT, R456
  | hotReset  -- HOT_RESET, R429
  | secondaryBusReset  -- SECONDARY_BUS_RESET, R429
  | pcieLinkDown  -- PCIE_LINK_DOWN, R429
  | d3hotEntry (fn : Nat)  -- D3HOT_ENTRY, R430
  | d0Entry (fn : Nat)  -- D0_ENTRY, R430
  | busMasterEnableChange (fn : Nat) (en : Bool)  -- BUS_MASTER_ENABLE_CHANGE, R430
  | registerWrite (fn : Nat) (off : Nat) (size : Nat) (val : Nat)  -- REGISTER_WRITE, R10
  | counterClear (page : Nat)  -- COUNTER_CLEAR, R437
  | gaugeLogPass (idx : Nat)  -- GAUGE_LOG_PASS, R392
  | mboxSend  -- MBOX_SEND, R452
  | mboxAbort  -- MBOX_ABORT, R452
  | mboxResponse (err : Nat) (data : List Byte)  -- MBOX_RESPONSE, R452
  | setEndpointId (binding : Nat) (eid : Nat)  -- SET_ENDPOINT_ID, R451
  | getEndpointId (binding : Nat)  -- GET_ENDPOINT_ID, R451
  | getMctpVersionSupport (binding : Nat) (typ : Nat)  -- GET_MCTP_VERSION_SUPPORT, R451
  | getMessageTypeSupport (binding : Nat)  -- GET_MESSAGE_TYPE_SUPPORT, R451
  | getEndpointUuid (binding : Nat)  -- GET_ENDPOINT_UUID, R451
  | pldmType0Request (binding : Nat) (cmd : Nat)  -- PLDM_TYPE0_REQUEST, R453
  | getPdr (binding : Nat) (handle : Nat)  -- GET_PDR, R453
  | getSensorReading (binding : Nat) (id : Nat)  -- GET_SENSOR_READING, R453
  | getStateSensorReadings (binding : Nat) (id : Nat)  -- GET_STATE_SENSOR_READINGS, R453
  | getNumericEffecterValue (binding : Nat) (id : Nat)  -- GET_NUMERIC_EFFECTER_VALUE, R453
  | setNumericEffecterValue (binding : Nat) (id : Nat) (val : Nat)  -- SET_NUMERIC_EFFECTER_VALUE, R453
  | pldmPowerDown  -- PLDM_POWER_DOWN, R458
  | fwUpdateTransfer (comp : Nat) (off : Nat) (data : List Byte)  -- FW_UPDATE_TRANSFER, R454
  | verifyComplete (comp : Nat) (sigOk : Bool) (svnOk : Bool) (ver : Nat)  -- VERIFY_COMPLETE, R454
  | getVersion (binding : Nat)  -- GET_VERSION, R455
  | getCapabilities (binding : Nat)  -- GET_CAPABILITIES, R455
  | negotiateAlgorithms (binding : Nat) (asym : Nat) (hash : Nat)  -- NEGOTIATE_ALGORITHMS, R455
  | getDigests (binding : Nat)  -- GET_DIGESTS, R455
  | getCertificate (binding : Nat) (slot : Nat) (off : Nat) (len : Nat)  -- GET_CERTIFICATE, R455
  | challenge (binding : Nat) (slot : Nat) (nonce : List Byte)  -- CHALLENGE, R455
  | getMeasurements (binding : Nat) (idx : Nat) (nonce : List Byte)  -- GET_MEASUREMENTS, R455
  | pwrCapWrite (val : Nat)  -- PWR_CAP_WRITE, R378
  | pwrShiftWrite (val : Nat)  -- PWR_SHIFT_WRITE, R378
  | hostLevelWrite (val : Nat)  -- HOST_LEVEL_WRITE, R376
  | capControlTick (watts : Nat)  -- CAP_CONTROL_TICK, R379
  | capUnmet  -- CAP_UNMET, R379
  | levelFall  -- LEVEL_FALL, R377
  | levelRise  -- LEVEL_RISE, R377
  | beatBoundary (vr : List Nat) (low : List Nat) (mean : List Nat)  -- BEAT_BOUNDARY, R26
  | currentRampRecover (die : Nat)  -- CURRENT_RAMP_RECOVER, R385
  | dieTempSample (die : Nat) (temp : Nat)  -- DIE_TEMP_SAMPLE, R382
  | vrTempSample (vr : Nat) (temp : Nat)  -- VR_TEMP_SAMPLE, R382
  | linkTempSample (die : Nat) (temp : Nat)  -- LINK_TEMP_SAMPLE, R382
  | thermalStep (reason : Nat) (unit : Nat)  -- THERMAL_STEP, R382
  | sensorFail (reason : Nat) (unit : Nat)  -- SENSOR_FAIL, R383
  | sensorRecover (reason : Nat) (unit : Nat)  -- SENSOR_RECOVER, R383
  | vrWarn (vr : Nat)  -- VR_WARN, R376
  | vrWarnHoldExpiry (vr : Nat)  -- VR_WARN_HOLD_EXPIRY, R376
  | inputLow (mv : Nat)  -- INPUT_LOW, R384
  | inputLowClear  -- INPUT_LOW_CLEAR, R384
  | inputUv  -- INPUT_UV, R384
  | thermtrip (reason : Nat) (unit : Nat)  -- THERMTRIP, R488
  | thermtripClear  -- THERMTRIP_CLEAR, R488
  | frameBoundary  -- FRAME_BOUNDARY, R28
  | frameLoad (val : Nat)  -- FRAME_LOAD, R321
  | devNodeWrite (val : Nat)  -- DEV_NODE_WRITE, R312
  | devTorusWrite (val : Nat)  -- DEV_TORUS_WRITE, R312
  | routeTableWrite (node : Nat) (entry : Nat)  -- ROUTE_TABLE_WRITE, R313
  | hotswapOn  -- HOTSWAP_ON, R484
  | hotswapUvlo  -- HOTSWAP_UVLO, R484
  | hotswapOvp  -- HOTSWAP_OVP, R484
  | ovpRecovery  -- OVP_RECOVERY, R484
  | hotswapOcp  -- HOTSWAP_OCP, R484
  | mateLastRelease  -- MATE_LAST_RELEASE, R484
  | stewardVerified (slot : Nat)  -- STEWARD_VERIFIED, R457
  | moduleEnRise  -- MODULE_EN_RISE, R486
  | moduleEnFall  -- MODULE_EN_FALL, R487
  | powerGood  -- POWER_GOOD, R486
  | bootDieFwDone (fallback : Bool)  -- BOOT_DIE_FW_DONE, R456
  | bootMemoryDone (ppr : List Nat)  -- BOOT_MEMORY_DONE, R456
  | bootLinksDone (ms : Nat)  -- BOOT_LINKS_DONE, R456
  | bootStageTimeout (reason : Nat) (ms : Nat)  -- BOOT_STAGE_TIMEOUT, R457
  | dbgHold (t : Nat)  -- DBG_HOLD, R462
  | dbgUnhold (t : Nat)  -- DBG_UNHOLD, R462
  | dbgStep (t : Nat)  -- DBG_STEP, R462
  | tracePolderHold (die : Nat) (pol : Nat)  -- TRACE_POLDER_HOLD, R465
  | tracePolderRelease (die : Nat) (pol : Nat)  -- TRACE_POLDER_RELEASE, R465
  | polderHoldApply  -- POLDER_HOLD_APPLY, R465
  | watchSample (die : Nat)  -- WATCH_SAMPLE, R468
  | traceRead (die : Nat)  -- TRACE_READ, R471
  | traceDump (die : Nat)  -- TRACE_DUMP, R471
  | traceDumpDone (die : Nat) (fail : Bool)  -- TRACE_DUMP_DONE, R471
  | traceAnchorCapture (die : Nat)  -- TRACE_ANCHOR_CAPTURE, R474
  | debugPortLock  -- DEBUG_PORT_LOCK, R472
  | debugPortDown  -- DEBUG_PORT_DOWN, R472
  | debugPortFrame  -- DEBUG_PORT_FRAME, R472
  | jtagBypass  -- JTAG_BYPASS, R473
  | jtagIdcode  -- JTAG_IDCODE, R473
  | jtagSamplePreload (pins : Nat)  -- JTAG_SAMPLE_PRELOAD, R473
  | jtagExtest (pins : Nat)  -- JTAG_EXTEST, R473
  | jtagRegisterAccess (write : Bool) (off : Nat) (size : Nat) (val : Nat)  -- JTAG_REGISTER_ACCESS, R473
  | vfEnableChange (en : Bool) (num : Nat)  -- VF_ENABLE_CHANGE, R428
  | barRead (fn : Nat) (off : Nat) (size : Nat)  -- BAR_READ, R434
  | mboxTimeout  -- MBOX_TIMEOUT, R452
  | vrWarnClear (vr : Nat)  -- VR_WARN_CLEAR, R376
deriving DecidableEq, Repr

end Sys2Proof
end

