-- ==== Sys2Proof/Decode.lean ====
section
/-!
DEFINITION. The decoder over the rows of spec/opcode_table.json that give bits: no row does (its commands arrive as register
accesses, flits, pins and events, not as words), so no word spells a command. The fields of the 64-byte tile commands, of request
entries and of descriptors are read where those commands act (Machine/Operands.lean, Machine/HostReq.lean).
-/
namespace Sys2Proof

/-- The command that a word spells by the table's bits. -/
def decodeTableWord (_nbits _w : Nat) : Option Instr := none

end Sys2Proof
end

