-- ==== Sys2Proof/Machine/Bits.lean ====
section
/-!
DEFINITION. Bit fields, sign extension, byte order and the sparse maps keyed by number that the state is made of.
-/
namespace Sys2Proof.Machine

/-- Bits `hi` down to `lo` of a number (R7: bit ranges are written [msb:lsb]). -/
def bitsOf (v hi lo : Nat) : Nat := (v >>> lo) % 2 ^ (hi + 1 - lo)

/-- One bit of a number. -/
def bitOf (v i : Nat) : Bool := v.testBit i

/-- A truth value as a bit. -/
def b2n (b : Bool) : Nat := if b then 1 else 0

/-- Field [hi:lo] of a register word. -/
def fld (v : Word) (hi lo : Nat) : Nat := bitsOf v.toNat hi lo

/-- The mask that covers [hi:lo]. -/
def fldMask (hi lo : Nat) : Word := BitVec.ofNat 64 ((2 ^ (hi + 1 - lo) - 1) * 2 ^ lo)

/-- The register word with field [hi:lo] set to `x` (the bits of `x` above the field are dropped). -/
def setFld (v : Word) (hi lo x : Nat) : Word :=
  (v &&& ~~~(fldMask hi lo)) ||| (BitVec.ofNat 64 (x * 2 ^ lo) &&& fldMask hi lo)

/-- An unsigned number of `w` bits read as two's complement. -/
def sext (w x : Nat) : Int := if bitOf x (w - 1) then (x % 2 ^ w : Nat) - (2 ^ w : Nat) else ((x % 2 ^ w : Nat) : Int)

/-- An integer reduced to `w` bits (R14: unsigned types wrap). -/
def toU (w : Nat) (x : Int) : Nat := (x % ((2 ^ w : Nat) : Int)).toNat

/-- The number a little-endian byte list spells (R7). -/
def leNat : List Byte → Nat
  | [] => 0
  | b :: bs => b.toNat + 256 * leNat bs

/-- The `n` little-endian bytes of a number (R7). -/
def natLE : Nat → Nat → List Byte
  | 0, _ => []
  | n + 1, x => BitVec.ofNat 8 x :: natLE n (x / 256)

/-- `n` zero bytes. -/
def zeros (n : Nat) : List Byte := List.replicate n 0

/-- The list cut or padded with zero bytes to exactly `n` bytes. -/
def padTo (n : Nat) (bs : List Byte) : List Byte := (bs ++ zeros (n - bs.length)).take n

/-- Ceiling division. -/
def ceilDiv (a b : Nat) : Nat := (a + (b - 1)) / b

/-- Saturating increment at `top`. -/
def satInc (x top : Nat) : Nat := if x < top then x + 1 else top

/-- A sparse map from numbers to `α`, kept in ascending key order; a key that is not listed holds a default the reader names. -/
abbrev SMap (α : Type) := List (Nat × α)

/-- The value listed at `k`, if any. -/
def mapFind? {α : Type} : SMap α → Nat → Option α
  | [], _ => none
  | (k', v) :: m, k => if k' = k then some v else mapFind? m k

/-- The value at `k`, `d` where none is listed. -/
def mapGet {α : Type} (m : SMap α) (k : Nat) (d : α) : α := (mapFind? m k).getD d

/-- The map with `v` at `k`. -/
def mapSet {α : Type} : SMap α → Nat → α → SMap α
  | [], k, v => [(k, v)]
  | (k', v') :: m, k, v =>
    if k < k' then (k, v) :: (k', v') :: m
    else if k' = k then (k, v) :: m
    else (k', v') :: mapSet m k v

/-- The map with every key that meets `p` taken out. -/
def mapDrop {α : Type} (m : SMap α) (p : Nat → Bool) : SMap α := m.filter (fun e => !p e.1)

end Sys2Proof.Machine
end

