-- ==== Sys2Proof/Machine/Mem.lean ====
section
/-!
DEFINITION. Memory as a list of cells in canonical form: addresses strictly rising, no cell zero. An unlisted byte reads as zero, which is what
a clear (R112), a fresh block (R258) and cold reset leave. Byte order is little-endian (R7).
-/
namespace Sys2Proof.Machine

/-- The cells are in canonical form: rising addresses, none zero. -/
def Memory.wf : List Host.Cell → Bool
  | [] => true
  | [(_, b)] => b != 0
  | (a, b) :: (a', b') :: m => b != 0 && decide (a < a') && Memory.wf ((a', b') :: m)

/-- The byte at an address. -/
def memGet : List Host.Cell → Nat → Byte
  | [], _ => 0
  | (k, b) :: m, a => if k = a then b else memGet m a

/-- The cells that `bs` at `a` gives: zero bytes give none. -/
def cellsOf : Nat → List Byte → List Host.Cell
  | _, [] => []
  | a, b :: bs => if b = 0 then cellsOf (a + 1) bs else (a, b) :: cellsOf (a + 1) bs

/-- Memory with `bs` written from address `a` upward. -/
def memWrite (m : List Host.Cell) (a : Nat) (bs : List Byte) : List Host.Cell :=
  m.filter (fun c => c.1 < a) ++ cellsOf a bs ++ m.filter (fun c => a + bs.length ≤ c.1)

/-- The `n` bytes from `a` of cells that all lie at or above `a`. -/
def memWalk : Nat → List Host.Cell → Nat → List Byte
  | 0, _, _ => []
  | n + 1, [], a => 0 :: memWalk n [] (a + 1)
  | n + 1, (k, b) :: m, a => if k = a then b :: memWalk n m (a + 1) else 0 :: memWalk n ((k, b) :: m) (a + 1)

/-- The `n` bytes from address `a`. -/
def memRead (m : List Host.Cell) (a n : Nat) : List Byte := memWalk n (m.filter (fun c => a ≤ c.1)) a

/-- Memory with every byte of [a, a + n) zero. -/
def memZero (m : List Host.Cell) (a n : Nat) : List Host.Cell := m.filter (fun c => c.1 < a || a + n ≤ c.1)

/-- The number that `n` little-endian bytes at `a` spell. -/
def memNat (m : List Host.Cell) (a n : Nat) : Nat := leNat (memRead m a n)

end Sys2Proof.Machine
end

