-- ==== Sys2Proof/Config.lean ====
section
/-!
DEFINITION. What an implementation fixes and the spec does not state, and the free values of the model: constants without a body,
of which nothing can be computed or proved. A claim about them holds for every value.
-/
namespace Sys2Proof.Config

/-- A value the spec leaves open, drawn with the state's counter of free values (log entry 2). -/
opaque freeValue : Nat → Nat

/-- A byte the spec leaves open, drawn with the state's counter of free values (log entry 2). -/
opaque freeByte : Nat → Byte

/-- The design current budget of a page's block, PG_AMP.budget (R437: "the block's design budget"), by page index. -/
opaque ampBudget : Nat → Nat

/-- Whether PG_AMP measures current on a page other than a TILE page (R437 PG_CAPS.amp), by page index. -/
opaque ampMeasured : Nat → Bool

/-- DEV_SERIAL (R457: fused). -/
opaque serial : Nat

/-- The version of a component in a flash slot as delivered (R454, R457), by component × 2 + slot. -/
opaque fwVersion : Nat → Nat

/-- The Vendor ID that PCI-SIG assigned (R428). -/
opaque vendorId : Nat

/-- The 32-bit JTAG IDCODE (R473). -/
opaque jtagIdcode : Nat

/-- The bytes of the Steward's management answers that the spec does not state (PDRs, UUID, certificates, digests, signatures and
the like), by kind, index and offset (R451 to R455). -/
opaque mgmtByte : Nat → Nat → Nat → Byte

/-- The length of a management answer's bytes that the spec does not state, by kind and index (R451 to R455). -/
opaque mgmtLen : Nat → Nat → Nat

end Sys2Proof.Config
end

