-- ==== Sys2Proof/Machine/TileState.lean ====
section
/-!
DEFINITION. The state of one tile (03_tile.md, 04_command_set.md, 05_matrix_vector.md, 16_debug_and_observation.md): the scalar core,
the command queue, walkers, segments, scoreboard, dispatch queues, bank arbiters, tokens, fingerprints and the exchange port.
Registers that only the host and counters use live in the register store of `State`.
-/
namespace Sys2Proof.Machine

/-- Task states (Table 3-4). -/
inductive TaskState where
  | idle | loaded | running | halted | faulted | stopped | clearing
deriving DecidableEq, Repr

/-- The code of a task state (Table 3-4). -/
def TaskState.code : TaskState → Nat
  | .idle => 0 | .loaded => 1 | .running => 2 | .halted => 3 | .faulted => 4 | .stopped => 5 | .clearing => 6

/-- A walker: space code, 40-bit base, 48-bit cursor, six 16-bit counts, six signed 40-bit strides (R98, R116). -/
structure Walker where
  space : Nat := 0
  base : Nat := 0
  cursor : Nat := 0
  counts : List Nat := [1, 1, 1, 1, 1, 1]
  strides : List Int := [0, 0, 0, 0, 0, 0]
deriving DecidableEq, Repr

/-- A segment pair (R96). -/
structure Segment where
  base : Nat := 0
  bound : Nat := 0
  rd : Bool := false
  wr : Bool := false
  atom : Bool := false
deriving DecidableEq, Repr

/-- A scoreboard entry (R102): its direction, space, span, and the command that holds it. -/
structure SbEntry where
  write : Bool
  mem : Bool
  lo : Nat
  hi : Nat
  index : Nat
  ord : Nat
deriving DecidableEq, Repr

/-- A crumb store buffer entry (R104). -/
structure Crumb where
  addr : Nat
  val : Word
  index : Nat
  ord : Nat
deriving DecidableEq, Repr

/-- An open hardware loop (R145): body first + 1 … last, iterations, current iteration, index register; `owed` while the iteration's
number has still to be written because the register is pending (R146). -/
structure LoopCtx where
  first : Nat
  last : Nat
  total : Nat
  iter : Nat
  sidx : Nat
  owed : Bool := false
deriving DecidableEq, Repr

/-- A command in a dispatch queue with what it captured at issue (R85, R88, R99): its word, its command index, the TILE_PROGRESS
value at its issue, the scalar and predicate registers and the walkers as they stood; `started` once its engine has begun it,
`done` the loaves an exchange or queue command has carried, `data` the bytes it has still to hand on or its register result, `fpLen` and
`fpCrc` the length and running CRC-32C of what it adds to the fingerprint (R414). -/
structure IssuedCmd where
  word : CmdWord
  index : Nat
  ord : Nat
  sregs : SMap Word := []
  preds : Nat := 1
  walkers : SMap Walker := []
  started : Bool := false
  finished : Bool := false
  done : Nat := 0
  data : List Byte := []
  fpLen : Nat := 0
  fpCrc : Nat := 0
deriving DecidableEq, Repr

/-- One store a mover path (0 load, 1 store) has still to hand to the slices (R254): polder address, bytes, the command. -/
structure OutStore where
  path : Nat
  addr : Nat
  bytes : List Byte
  ord : Nat
deriving DecidableEq, Repr

/-- An arbiter instance (R108): ages, parked owner, used counts, by requester index. -/
structure Arb where
  ages : SMap Nat := []
  parked : Option Nat := none
  used : SMap Nat := []
deriving DecidableEq, Repr

/-- What a spill-queue port has sent towards a queue's tail (R285, R290): die × 64 + queue, kind (0 OPEN, 1 PUSH loaf, 2 CLOSE), the
packet's generation, tag or last-loaf mark, the loaf, the command. -/
structure SqItem where
  q : Nat
  kind : Nat
  gen : Nat
  tag : Nat
  last : Bool
  bytes : List Byte
  ord : Nat
deriving DecidableEq, Repr

/-- The exchange port (07_exchange_and_time.md R225 to R227): credits granted and not yet used per stream, the guard's spans, and the loaves
sent and written per stream since the task's start. -/
structure XpPort where
  credits : SMap Nat := []
  guards : List SbEntry := []
  sent : SMap Nat := []
  rcvd : SMap Nat := []
deriving DecidableEq, Repr

/-- One tile. -/
structure Tile where
  task : TaskState := .idle
  stall : Nat := 0
  ctx : Nat := 0
  cmdrBase : Nat := 0
  cmdrLen : Nat := 0
  segs : List Segment := []
  arbCfg : Word := 0
  sregs : SMap Word := []
  preds : Nat := 1
  pendS : List (Nat × Nat) := []
  amxWait : List (Nat × Nat × Nat × Nat) := []
  walkers : SMap Walker := []
  queue : List (Nat × CmdWord) := []
  fetchNext : Nat := 0
  cmdIndex : Nat := 0
  progress : Nat := 0
  sb : List SbEntry := []
  crumbs : List Crumb := []
  loops : List LoopCtx := []
  beatRef : Nat := 0
  dq : SMap (List IssuedCmd) := []
  outs : List OutStore := []
  stopReq : Bool := false
  haltIssued : Bool := false
  fpItems : List (Nat × Nat × Nat) := []
  stepFps : List Nat := []
  fpFrame : Nat := 0
  fpStep : Nat := 0
  tokM : Nat := 0
  tokV : Nat := 0
  admitAt : Option Nat := none
  dbgStep : Bool := false
  brkSeen : Bool := false
  eccFrame : Nat := 0
  eccCount : Nat := 0
  fbarAt : Option Nat := none
  arbs : SMap Arb := []
  xp : XpPort := {}
  sqOut : List SqItem := []
  sqOpen : SMap (Nat × Nat) := []
deriving DecidableEq, Repr

/-- The tile after cold reset or a clear (R113, R185). -/
def Tile.cleared : Tile := {}

end Sys2Proof.Machine
end

