-- ==== Sys2Proof/Machine/DeviceState.lean ====
section
/-!
DEFINITION. The device-level state beside the register store: polders and the image each has loaded, INTAKEs and their backlogs,
PCIe functions, trace rings and the writes the device has sent to host memory.
-/
namespace Sys2Proof.Machine

/-- One posted write the device has sent to host memory through a function (R441, R446): the newest stands first in the log. -/
structure HostWrite where
  fn : Nat
  addr : Nat
  bytes : List Byte
deriving DecidableEq, Repr

/-- A record with its type and length as Table 15-8 gives them. -/
structure Record where
  recType : Nat
  length : Nat
  body : List Byte
deriving DecidableEq, Repr

/-- What an INTAKE holds beside its registers: the backlog of R446, the losses since the last LOST record, the request in progress,
and its result where that waits for the function (R430). -/
structure Intake where
  backlog : List Record := []
  lostPend : Nat := 0
  entry : Option (List Byte) := none
  result : Option Nat := none
deriving DecidableEq, Repr

/-- The PCIe function state that R428 to R430 name. -/
structure PcieFn where
  d3hot : Bool := false
  bme : Bool := false
  enabled : Bool := false
deriving DecidableEq, Repr

/-- A trace ring (R459, R470): the records by index, head, tail and fill, the drops since the last LOST record, the records written,
and a dump in progress (the records written when it started). -/
structure TraceRing where
  recs : SMap (List Byte) := []
  head : Nat := 0
  tail : Nat := 0
  fill : Nat := 0
  dropPend : Nat := 0
  seq : Nat := 0
  dumpTo : Option Nat := none
deriving DecidableEq, Repr

/-- A TILE_DIR entry as installed (R192). -/
structure TileDir where
  ptile : Nat
  segSet : Nat
  wlkCount : Nat
  cmdOff : Nat
  cmdLen : Nat
  wlkOff : Nat
  regOff : Nat
  regMask : Nat
deriving DecidableEq, Repr

/-- An exchange stream (R195). -/
structure Stream where
  id : Nat
  src : Nat
  dst : Nat
  bar : Nat
  firstBeat : Nat
  cycle : Nat
  period : Nat
  loaves : Nat
deriving DecidableEq, Repr

/-- A kneader declaration (R197). -/
structure KDecl where
  kslot : Nat
  desc : Nat
  kind : Nat
  fmt : Nat
  red : Nat
  bar : Nat
  first : Nat
  ptiles : Nat
  srcLo : Nat
  srcLen : Nat
  dstLo : Nat
  dstLen : Nat
  readyCount : Nat
  members : Nat
deriving DecidableEq, Repr

/-- A snapshot-set entry (R199). -/
structure SnapSet where
  set : Nat
  ptile : Nat
  lo : Nat
  len : Nat
deriving DecidableEq, Repr

/-- A link reservation as the image names it (R196): the port is a rank. -/
structure LinkResDecl where
  port : Nat
  dir : Nat
  bar : Nat
  firstBeat : Nat
  beats : Nat
  rate : Nat
deriving DecidableEq, Repr

/-- The image a polder has loaded (R201 phase 6): the header's task and step barrier, the digest, the final flags, the group of each column, its tables, and
the current profile by group as prologue and step entries of (beats, class). -/
structure Image where
  task : Nat := 0
  digest : Nat := 0
  flags : Nat := 0
  stepBar : Nat := 0
  groups : List Nat := []
  tiles : List TileDir := []
  streams : List Stream := []
  links : List LinkResDecl := []
  kneads : List KDecl := []
  snaps : List SnapSet := []
  profile : SMap (List (Nat × Nat) × List (Nat × Nat)) := []
deriving DecidableEq, Repr

/-- A load in progress (R201): its request's tag, the image's polder address and length, its lead die, and whether the host asked to abandon it. -/
structure LoadReq where
  tag : Nat
  addr : Nat
  length : Nat
  lead : Nat
  abort : Bool := false
deriving DecidableEq, Repr

/-- A die's snapshot window of a polder (R417, R418): tiles whose SNAP was issued and completed in this step window, and whether the open
slot has been unsealed for it. -/
structure SnapWin where
  issued : List Nat := []
  completed : List Nat := []
  opened : Bool := false
  busy : Bool := false
deriving DecidableEq, Repr

/-- One polder's run state beside its registers. `ramp` holds the admission timetables by die (physical tile, cycle), `running`
the beats at which running ramps began, by die; `gateAt` the beat of the last accepted STEP, `barRefs` the beat of each barrier's last release; `prot` the protected range as base and length. -/
structure Polder where
  image : Option Image := none
  loading : Option LoadReq := none
  stopped : Bool := false
  stopCause : Nat := 0
  xpFault : Bool := false
  seed : Nat := 0
  step : Nat := 0
  gate : Option Nat := none
  gateAt : Nat := 0
  heartbeat : Nat := 0
  stepFp : Nat := 0
  stepFpStep : Nat := 0
  barRefs : SMap Nat := []
  started : Nat := 0
  snaps : SMap SnapWin := []
  ramp : SMap (List (Nat × Nat)) := []
  running : SMap Nat := []
  prot : Option (Nat × Nat) := none
  flowEpoch : Nat := 0
  bindEpoch : Nat := 0
deriving DecidableEq, Repr

/-- The trace ring after cold reset. -/
def TraceRing.empty : TraceRing := {}

end Sys2Proof.Machine
end

