-- ==== Sys2Proof/Machine/MemState.lean ====
section
/-!
DEFINITION. The state of the shared-cache slices, the HBM controllers, the spill queues and the die-to-die fabric
(07_exchange_and_time.md, 08_memory_system.md, 09_spill_queues.md). Counters and plain status registers live in the register store.
-/
namespace Sys2Proof.Machine

/-- A committed write-combining entry (R251): line number DA >> 7, the line image with its byte mask (none = not written), the polder that
owns the field. -/
structure WcbEntry where
  line : Nat
  img : List (Option Byte)
  pol : Nat
deriving DecidableEq, Repr

/-- A held entry, or the PROV line it was moved to (R254): one per line and source; the source is a tile, its mover path (0 load,
1 store) and the command. -/
structure HeldEntry where
  line : Nat
  img : List (Option Byte)
  pol : Nat
  tile : Nat
  path : Nat
  ord : Nat
  prov : Bool
deriving DecidableEq, Repr

/-- Kinds of resident lines (R249); PROV lines are held entries with `prov`. -/
inductive LineKind where
  | home | near | pin
deriving DecidableEq, Repr

/-- A resident line: its kind, whether it is dirty, and, for a near copy, the bytes it copied. -/
structure LineSt where
  kind : LineKind
  dirty : Bool := false
  copy : List Byte := []
deriving DecidableEq, Repr

/-- A lock table entry (R269): HELD or BROKEN, with its DA, the owner's context and tile source ID, and the context a reset removed. -/
structure LockEntry where
  da : Nat
  broken : Bool := false
  ctx : Nat
  tile : Nat
  prev : Option Nat := none
deriving DecidableEq, Repr

/-- A slice (R249 to R256, R269). Lists run from oldest to newest; `stopped` holds after a graceful power-down (R274). -/
structure Slice where
  wcb : List WcbEntry := []
  held : List HeldEntry := []
  lines : SMap LineSt := []
  locks : SMap LockEntry := []
  stopped : Bool := false
deriving DecidableEq, Repr

/-- A store that waits for its fresh block to be zeroed (R258). `tile`, `path` and `ord` name its command; tile 0xFFFF is any other source. -/
structure WaitStore where
  line : Nat
  img : List (Option Byte)
  pol : Nat
  tile : Nat
  path : Nat
  ord : Nat
deriving DecidableEq, Repr

/-- A retired row of a stack's list (R264, R277): state 1 retired, 2 repaired, 3 repair failed; bit c of `poisoned` is column c. -/
structure RetiredRow where
  channel : Nat
  pc : Nat
  bank : Nat
  row : Nat
  state : Nat
  poisoned : Nat
deriving DecidableEq, Repr

/-- A stack controller: rows retired, corrected-error counts of rows in this patrol period, the next patrol line, whether it has stopped. -/
structure Stack where
  rows : List RetiredRow := []
  corr : SMap Nat := []
  patrol : Nat := 0
  tripped : Bool := false
deriving DecidableEq, Repr

/-- A loaf in a spill queue (R282): a header loaf with its packet's state, or a payload loaf; `bad` marks a lasting spillway error (R288). -/
structure SqLoaf where
  hdr : Bool
  closed : Bool := false
  bytes : List Byte
  bad : Bool := false
deriving DecidableEq, Repr

/-- A spill queue (R279 to R291). `segs` holds, per segment from oldest, the loaves put and taken; `openPkt` the open packet's payload
loaves so far and its tag; `asked` that it waits for a segment. -/
structure SqQueue where
  tail : List SqLoaf := []
  head : List SqLoaf := []
  mid : List SqLoaf := []
  segs : List (Nat × Nat) := []
  openPkt : Option (Nat × Nat) := none
  prod : Option Nat := none
  cons : Option Nat := none
  gen : Nat := 0
  error : Bool := false
  asked : Bool := false
deriving DecidableEq, Repr

/-- A pool that passed R287 at its activation. -/
structure SqPool where
  base : Nat
  fields : Nat
deriving DecidableEq, Repr

/-- A D2D link direction at one instance (R231 to R239): the last sequence accepted per origin, destination and class; flits that failed
once; lane errors of this frame; a sparing in progress (bundle, lane, spare, stage). -/
structure D2DLink where
  accepted : SMap Nat := []
  failedOnce : List Nat := []
  laneErr : SMap Nat := []
  sparing : Option (Nat × Nat × Nat × Nat) := none
  retraining : Bool := false
deriving DecidableEq, Repr

/-- A loaf on the exchange fabric (R217 to R226): stage 1 on its way to or in its source gateway, 2 held by a failed link, 3 on its way into the
receiving port; `dead` once its polder was stopped after it was sent (R223). -/
structure XLoaf where
  pol : Nat
  stream : Nat
  idx : Nat
  src : Nat
  dst : Nat
  handshake : Bool
  stage : Nat
  bytes : List Byte
  dead : Bool := false
deriving DecidableEq, Repr

end Sys2Proof.Machine
end

