-- ==== Sys2Proof/Machine/ModuleState.lean ====
section
/-!
DEFINITION. The state of power, current and thermal control and of the module hardware (13_power_current_thermal.md,
15_host_interface.md boot and management, 17_module_hardware.md).
-/
namespace Sys2Proof.Machine

/-- A throttle episode in progress (R392): its reason and unit, beginning beat, lowest ceiling, peak reading, and the time it has been active and
binding so far, in units of 1 / 720720 ns. -/
structure Episode where
  reason : Nat
  unit : Nat
  begin : Nat
  low : Nat
  peak : Nat
  time : Nat := 0
  bind : Nat := 0
deriving DecidableEq, Repr

/-- Power, current and thermal state beside the PWR, WEIR and GAUGE registers. Keys are reason × 65536 + unit. `ceil` holds ceilings (an unlisted one is
16), `hot` the units whose last reading was at or above the throttle point, `failed` the sensors that have failed; `logN` and `passed` count throttle
records written and passed; `lastRise` and `lastRampEnd` are the beats R377 counts from; `excessAt` and `excessFrame` the beat of a die's last
excess and the local frame of its last 0x0301, `overFrame` that of a polder's last 0x0302; `energy` the µJ below one mJ; `activeT` and `bindT` the
time by reason below one µs; `vrHold` the regulators whose warning has cleared. -/
structure Power where
  ceil : SMap Nat := []
  hot : List Nat := []
  failed : List Nat := []
  episodes : List Episode := []
  log : SMap (List Byte) := []
  logN : Nat := 0
  passed : Nat := 0
  lastRise : Option Nat := none
  lastRampEnd : Option Nat := none
  excessAt : SMap Nat := []
  excessFrame : SMap Nat := []
  overFrame : SMap Nat := []
  unmetPosted : Bool := false
  lowSeen : Bool := false
  vrHold : List Nat := []
  energy : Nat := 0
  activeT : SMap Nat := []
  bindT : SMap Nat := []
deriving DecidableEq, Repr

/-- A flash component (R454): the slot in use, the one to use after the next cold reset, the version written to a slot by an update (Config.fwVersion where none was), and the bytes transferred so far to
the slot not in use, by offset. -/
structure FlashComp where
  inUse : Nat := 0
  next : Nat := 0
  versions : SMap Nat := []
  staged : List Host.Cell := []
deriving DecidableEq, Repr

/-- What the Steward answers to a management request (R451 to R455). -/
inductive MgmtKind where
  | setEndpointId | getEndpointId | mctpVersions | messageTypes | endpointUuid | pldmBase | pdr | sensor | stateSensor | effecterValue | effecterSet
  | firmwareTransfer | verifyComplete | spdmVersion | spdmCapabilities | spdmAlgorithms | digests | certificate | challenge | measurements
deriving DecidableEq, Repr

/-- An answer of the Steward: the path (0 SMBus, 1 PCIe VDM, 2 mailbox, 3 DOE), whether it refuses the request, the values the spec states, and the
bytes whose format and contents it leaves to other standards. -/
structure MgmtAnswer where
  binding : Nat
  kind : MgmtKind
  refused : Bool := false
  values : List Nat := []
  bytes : List Byte := []
deriving DecidableEq, Repr

/-- The module outside the dies (R451 to R458, R472, R473, R484 to R488). `hotswap` is the input on; `ovp` and `ocpLatched` why it is held off; `mateLast`,
`moduleEn` and `perst` (asserted) the pins; `stewardOk` that Steward firmware has verified, from flash slot `slot`, `stewardFailed` that both slots failed; `railsOn` that the rails are on or come up;
`tripLog` the trips not yet reported; `retireMap` the map of retired columns by die; `eids` the endpoint ID of each binding; `mboxReq` and `mboxRsp` the mailbox buffers;
`algs` the paths on which SPDM algorithms were negotiated; `jtagOut` what JTAG shifts out, `bscan` the boundary-scan register, `driven` what EXTEST drives onto the pins; `dbgOut` the debug port's
frames, newest first, `dbgSeq` the next one's sequence, `dbgDie` the die of the last one, `dbgDrops` the drops reported by die, and `jtagRegs` whether the board
configuration enables register access over JTAG. -/
structure Module where
  hotswap : Bool := false
  ovp : Bool := false
  ocpLatched : Bool := false
  mateLast : Bool := false
  moduleEn : Bool := false
  stewardOk : Bool := false
  stewardFailed : Bool := false
  railsOn : Bool := false
  pwrGood : Bool := false
  thermtrip : Bool := false
  tripLog : List (Nat × Nat) := []
  perst : Bool := true
  portTrained : Bool := false
  fallback : Bool := false
  powerDown : Bool := false
  flash : SMap FlashComp := []
  slot : Nat := 0
  retireMap : SMap Nat := []
  eids : SMap Nat := []
  mboxReq : List Host.Cell := []
  mboxRsp : List Byte := []
  algs : List Nat := []
  jtagOut : Nat := 0
  bscan : Nat := 0
  driven : Option Nat := none
  dbgOut : List (List Byte) := []
  dbgSeq : Nat := 0
  dbgDie : Nat := 3
  dbgDrops : SMap Nat := []
  jtagRegs : Bool := false
deriving DecidableEq, Repr

end Sys2Proof.Machine
end

