-- ==== Sys2Proof/Machine/NetState.lean ====
section
/-!
DEFINITION. The state of the Ryulon ports, the flow tables and the kneaders (10_ryulon_links.md, 11_kneader.md).
Port state, width and moves live in LNK_STATUS and the other LNK registers.
-/
namespace Sys2Proof.Machine

/-- A DATA flit (Tables 10-2 and 10-3) without its link-level piggyback and CRC. -/
structure Flit where
  res : Bool
  vc : Nat := 0
  lseq : Nat := 0
  dst : Nat
  dstDie : Nat
  src : Nat
  srcDie : Nat
  ftid : Nat
  mtag : Nat := 0
  fseq : Nat := 0
  epoch : Nat := 0
  sgn : Nat := 0
  kword : Nat := 0
  payload : List Byte
deriving DecidableEq, Repr

/-- A kneader barrier message (Table 11-4). -/
structure KMsg where
  ftid : Nat
  type : Nat
  kslot : Nat
  desc : Nat
  phase : Nat
  inst : Nat
  origin : Nat
  reason : Nat
deriving DecidableEq, Repr

/-- A link reservation in force at a port's egress gate or ingress (R196, R318): polder, direction, barrier, window and rate. -/
structure LinkRes where
  pol : Nat
  recv : Bool
  bar : Nat
  firstBeat : Nat
  beats : Nat
  rate : Nat
deriving DecidableEq, Repr

/-- A flit in an egress gate: `own` from this device's kneader, not yet given its kind and flow number (R316, R318); else in transit. -/
structure GateFlit where
  own : Bool
  pol : Nat
  flit : Flit
deriving DecidableEq, Repr

/-- A port (R302 to R311, R318): the replay buffer with the next lseq to give; the lseq expected, an lseq that failed once, whether
later flits are being discarded; per class and vc (RES 0, RES 1, BE 0, BE 1) the credits held, the cumulative count seen from the peer and
the count returned to it; the egress gate and the allowance left in this beat; barrier messages not yet acknowledged, the next bseq to give and
the one expected; full trainings tried; `left` that its traffic no longer waits for it (R309). -/
structure Port where
  replay : List Flit := []
  nextSeq : Nat := 0
  expSeq : Nat := 0
  badSeq : Option Nat := none
  discarding : Bool := false
  credits : List Nat := [160, 160, 32, 32]
  credSeen : List Nat := [0, 0, 0, 0]
  returned : List Nat := [0, 0, 0, 0]
  gate : List GateFlit := []
  allowance : Nat := 0
  msgs : List (Nat × KMsg) := []
  nextBseq : Nat := 0
  expBseq : Nat := 0
  tries : Nat := 0
  present : Bool := false
  left : Bool := false
  dikePosted : Bool := false
  skewFrame : Option Nat := none
deriving DecidableEq, Repr

/-- A flow-table entry (R314). -/
structure FlowEntry where
  epoch : Nat
  expected : Nat
deriving DecidableEq, Repr

/-- A kneader descriptor (R329 to R331): the posted or installed contents and its counts. -/
structure KDesc where
  valid : Bool := false
  ready : Nat := 0
  done : Nat := 0
  kind : Nat := 0
  fmt : Nat := 0
  red : Nat := 0
  first : Nat := 0
  ptiles : Nat := 0
  srcLo : Nat := 0
  srcLen : Nat := 0
  dstLo : Nat := 0
  dstLen : Nat := 0
  root : Nat := 0
  readyCount : Nat := 0
  gx : Nat := 1
  gy : Nat := 1
  gz : Nat := 1
  shadow : Nat := 0
  members : Nat := 1
deriving DecidableEq, Repr

/-- A payload loaf with its four group scale bytes (R328). -/
structure KLoaf where
  bytes : List Byte
  scales : List Byte := []
deriving DecidableEq, Repr

/-- An instance (R331, R337, R338, R344), kept after its end until its slot's descriptor triggers again: `state` as KND_SLOT_STATUS shows it,
`half` 0 reduce, 1 gather, 2 chain, 3 relay, 4 none left, with `dim` the index of its dimension and `step` its ring step; `buf` the vector; `out`
gathered parts by position, or relayed parts by origin; `got` the payload and scale flits of the step in progress; `sent` whether this step has been sent; the phases
for which READY has been sent and seen; `wave` 0 none, 1 ARRIVE, 2 DONE with the index of its dimension and the (type, phase, origin) messages seen;
`arrived` the tiles at a frame barrier; `arriveAt` and `lagR` the beats R393 names; `doneAt` the beat at which a barrier completed; `frames` boundaries since the
trigger; `late` that 0x1247 was posted. -/
structure KInst where
  desc : Nat
  num : Nat
  state : Nat
  half : Nat := 4
  dim : Nat := 0
  step : Nat := 0
  buf : List KLoaf := []
  out : SMap (List KLoaf) := []
  got : List (Bool × List Byte) := []
  sent : Bool := false
  readySent : List Nat := []
  readySeen : List Nat := []
  wave : Nat := 0
  waveDim : Nat := 0
  seen : List (Nat × Nat × Nat) := []
  arrived : List Nat := []
  arriveAt : Nat := 0
  lagR : List Nat := []
  doneAt : Option Nat := none
  frames : Nat := 0
  late : Bool := false
deriving DecidableEq, Repr

/-- A kneader: descriptors by slot × 256 + index, the newest instance of each by the same key, flits, and messages with port and beat of arrival, not
yet acted on (those of instance n + 1 stay here, R337), and the quiesce that runs (polder, boundaries left). -/
structure Kneader where
  descs : SMap KDesc := []
  insts : SMap KInst := []
  inFlits : List Flit := []
  inMsgs : List (Nat × Nat × KMsg) := []
  quiesce : Option (Nat × Nat) := none
  strayPosted : Bool := false
deriving DecidableEq, Repr

end Sys2Proof.Machine
end

