-- ==== Sys2Proof/Machine/RegTable.lean ====
section
/-!
DEFINITION. The register layouts of the register pages (R9, R10, R437 and the register rules of every chapter): for each
block, each register's offset, its width, the register that selects its entry, and its fields with access code and reset value.
Reserved fields are not listed: they read 0 and ignore writes (R11).
-/
namespace Sys2Proof.Machine

/-- Access codes (R10, Table 0-3). -/
inductive Acc where
  | ro | rw | w1c | wo | st | lk
deriving DecidableEq, Repr

/-- One field of a register. -/
structure FieldSpec where
  hi : Nat
  lo : Nat
  acc : Acc
  rst : Nat
deriving DecidableEq, Repr

/-- One register: offset in its page, 64 bits wide or 32, the register and bits that select its entry, its fields. -/
structure RegSpec where
  off : Nat
  wide : Bool
  sel : Option (Nat × Nat × Nat)
  fields : List FieldSpec
deriving DecidableEq, Repr

/-- The block types of Table 15-13, the two PLD pages and the mailbox page told apart. -/
inductive Block where
  | dev | pwr | weir | gauge | pld | arm | intake | mbox | die | d2d | knd | lnk | hbmc | sc | sq | trace | tile
deriving DecidableEq, Repr

/-- Registers of the common page header (R437). -/
def regsHdr : List RegSpec := [
  ⟨0x0, false, none, [⟨15, 0, .ro, 0⟩, ⟨31, 16, .ro, 0⟩]⟩,  -- PG_ID: type, instance
  ⟨0x4, false, none, [⟨7, 0, .ro, 0⟩, ⟨15, 8, .ro, 1⟩, ⟨23, 16, .ro, 0xa1⟩]⟩,  -- PG_VERSION: minor, major, revision
  ⟨0x8, false, none, [⟨0, 0, .ro, 0⟩, ⟨1, 1, .ro, 0⟩, ⟨2, 2, .ro, 0⟩, ⟨3, 3, .ro, 0⟩]⟩,  -- PG_CAPS: vf_view, staged, counters, amp
  ⟨0xC, false, none, [⟨0, 0, .ro, 0⟩, ⟨1, 1, .ro, 0⟩, ⟨2, 2, .ro, 0⟩]⟩,  -- PG_STATUS: ready, err, sealed
  ⟨0x10, false, none, [⟨0, 0, .rw, 0⟩, ⟨1, 1, .wo, 0⟩]⟩,  -- PG_CTRL: cnt_freeze, cnt_clear
  ⟨0x14, false, none, [⟨11, 0, .ro, 0⟩, ⟨27, 16, .rw, 0⟩]⟩,  -- PG_AMP: budget, peak
  ⟨0x18, false, none, [⟨0, 0, .w1c, 0⟩, ⟨1, 1, .w1c, 0⟩, ⟨31, 16, .ro, 0⟩]⟩,  -- PG_ERR: err, more, last
  ⟨0x1C, false, none, [⟨15, 0, .ro, 0⟩, ⟨31, 16, .ro, 0⟩]⟩,  -- PG_ERR_FIRST: code, beat
  ⟨0x20, false, none, [⟨0, 0, .st, 0⟩]⟩,  -- PG_MODE_STAGE: sleep
  ⟨0x24, false, none, [⟨1, 0, .ro, 0⟩, ⟨2, 2, .ro, 0⟩, ⟨3, 3, .ro, 0⟩]⟩,  -- PG_MODE_ACT: part, stale, pending
  ⟨0x28, false, none, [⟨15, 0, .ro, 0⟩, ⟨31, 16, .ro, 0⟩]⟩,  -- PG_MODE_GEN: staged, active
  ⟨0x2C, false, none, [⟨5, 0, .lk, 0⟩, ⟨6, 6, .lk, 0⟩]⟩,  -- PG_OWNER: owner, bound
  ⟨0x30, true, none, [⟨63, 0, .rw, 0⟩]⟩,  -- PG_CNT0: count
  ⟨0x38, true, none, [⟨63, 0, .rw, 0⟩]⟩,  -- PG_CNT1: count
  ⟨0x40, true, none, [⟨63, 0, .rw, 0⟩]⟩,  -- PG_CNT2: count
  ⟨0x48, true, none, [⟨63, 0, .rw, 0⟩]⟩,  -- PG_CNT3: count
  ⟨0x50, true, none, [⟨63, 0, .rw, 0⟩]⟩,  -- PG_CNT4: count
  ⟨0x58, true, none, [⟨63, 0, .rw, 0⟩]⟩,  -- PG_CNT5: count
  ⟨0x60, false, none, [⟨31, 24, .rw, 0⟩, ⟨23, 16, .rw, 0⟩, ⟨15, 8, .rw, 0⟩, ⟨7, 0, .rw, 0⟩]⟩,  -- PG_CNT_SEL0: ev3, ev2, ev1, ev0
  ⟨0x64, false, none, [⟨15, 8, .rw, 0⟩, ⟨7, 0, .rw, 0⟩]⟩]  -- PG_CNT_SEL1: ev5, ev4

/-- Registers of the DEV page, part 0. -/
def regsDev0 : List RegSpec := [
  ⟨0x100, false, none, [⟨2, 0, .ro, 0⟩, ⟨15, 8, .ro, 0⟩, ⟨16, 16, .ro, 0⟩]⟩,  -- DEV_BOOT_STATUS: state, reason, fallback
  ⟨0x104, false, none, [⟨31, 0, .ro, 0⟩]⟩,  -- DEV_BOOT_TIME: ms
  ⟨0x108, false, none, [⟨15, 0, .ro, 0⟩, ⟨31, 16, .ro, 0⟩]⟩,  -- DEV_FW_VERSION: steward, die
  ⟨0x110, true, none, [⟨63, 0, .ro, 0⟩]⟩,  -- DEV_SERIAL: serial
  ⟨0x200, false, none, [⟨13, 0, .rw, 0⟩, ⟨16, 16, .rw, 0⟩]⟩,  -- DEV_NODE: node, valid
  ⟨0x204, false, none, [⟨5, 0, .rw, 1⟩, ⟨11, 6, .rw, 1⟩, ⟨17, 12, .rw, 1⟩]⟩,  -- DEV_TORUS: size_x, size_y, size_z
  ⟨0x208, true, none, [⟨47, 0, .ro, 0⟩]⟩,  -- DEV_FRAME: frame
  ⟨0x210, true, none, [⟨47, 0, .wo, 0⟩, ⟨63, 63, .wo, 0⟩]⟩,  -- DEV_FRAME_LOAD: value, go
  ⟨0x218, false, none, [⟨7, 0, .rw, 4⟩]⟩,  -- DEV_FRAME_CFG: skew_warn
  ⟨0x220, false, none, [⟨13, 0, .rw, 0⟩]⟩,  -- DEV_RT_SEL: node
  ⟨0x224, false, some (0x220, 13, 0), [⟨7, 0, .rw, 0⟩]⟩,  -- DEV_RT_DATA: entry
  ⟨0x300, true, none, [⟨15, 0, .ro, 0⟩, ⟨28, 16, .ro, 0⟩, ⟨47, 32, .ro, 0⟩, ⟨48, 48, .w1c, 0⟩]⟩,  -- DEV_FAULT_CONTEXT: context, tile, code, valid
  ⟨0x308, true, none, [⟨55, 0, .ro, 0⟩]⟩,  -- DEV_FAULT_BEAT: beat
  ⟨0x310, false, none, [⟨31, 0, .rw, 0⟩]⟩,  -- DEV_FAULT_LATER: count
  ⟨0x318, false, none, [⟨2, 0, .wo, 0⟩, ⟨18, 4, .wo, 0⟩, ⟨31, 31, .wo, 0⟩]⟩,  -- DEV_RESET_CTRL: domain, target, go
  ⟨0x31C, false, none, [⟨0, 0, .ro, 0⟩, ⟨3, 1, .ro, 0⟩, ⟨31, 16, .ro, 0⟩]⟩,  -- DEV_RESET_STATUS: busy, domain, result
  ⟨0x320, false, none, [⟨5, 0, .rw, 0⟩]⟩,  -- DEV_POLDER_SEL: polder
  ⟨0x328, true, some (0x320, 5, 0), [⟨63, 0, .ro, 0⟩]⟩,  -- DEV_HEARTBEAT: count
  ⟨0x330, false, some (0x320, 5, 0), [⟨31, 0, .ro, 0⟩]⟩,  -- DEV_STEP: value
  ⟨0x334, false, some (0x320, 5, 0), [⟨31, 0, .ro, 0⟩]⟩,  -- DEV_SEALED_STEP: value
  ⟨0x338, false, some (0x320, 5, 0), [⟨31, 0, .ro, 0⟩]⟩,  -- DEV_STEP_FP: value
  ⟨0x33C, false, some (0x320, 5, 0), [⟨31, 0, .ro, 0⟩]⟩,  -- DEV_STEP_FP_STEP: value
  ⟨0x340, false, none, [⟨14, 0, .rw, 0⟩]⟩,  -- DEV_UNIT_SEL: page
  ⟨0x344, false, some (0x340, 14, 0), [⟨1, 0, .wo, 0⟩, ⟨31, 31, .wo, 0⟩]⟩]  -- DEV_UNIT_CTRL: op, go

/-- Registers of the DEV page, part 1. -/
def regsDev1 : List RegSpec := [
  ⟨0x348, false, some (0x340, 14, 0), [⟨1, 0, .ro, 0⟩, ⟨2, 2, .ro, 0⟩, ⟨9, 8, .ro, 0⟩, ⟨31, 16, .ro, 0⟩]⟩,  -- DEV_UNIT_STATUS: part, stale, repair, lasting
  ⟨0x350, false, none, [⟨15, 0, .rw, 0xfa⟩]⟩,  -- DEV_VOTE_CFG: sweep_us
  ⟨0x354, false, none, [⟨15, 0, .ro, 0⟩, ⟨31, 16, .rw, 0⟩]⟩,  -- DEV_VOTE_STATUS: untrusted, diverged
  ⟨0x358, true, none, [⟨63, 0, .rw, 0⟩]⟩]  -- DEV_VOTE_REPAIRS: count

/-- Registers of the DEV page. -/
def regsDev : List RegSpec := regsDev0 ++ regsDev1

/-- Registers of the PWR page. -/
def regsPwr : List RegSpec := [
  ⟨0x100, false, none, [⟨7, 0, .rw, 0xf0⟩]⟩,  -- PWR_CAP: cap
  ⟨0x104, false, none, [⟨8, 0, .rw, 0⟩]⟩,  -- PWR_SHIFT: shift
  ⟨0x108, false, none, [⟨7, 0, .ro, 0xf0⟩, ⟨8, 8, .ro, 0⟩]⟩,  -- PWR_EFF_CAP: eff, stage2
  ⟨0x10C, false, none, [⟨15, 0, .ro, 0⟩, ⟨31, 16, .ro, 0⟩]⟩,  -- PWR_INPUT: power, volts
  ⟨0x110, false, none, [⟨10, 0, .rw, 0x19a⟩]⟩,  -- PWR_MODEL: fixed_w
  ⟨0x114, false, none, [⟨4, 0, .rw, 0x10⟩, ⟨15, 8, .rw, 0xb0⟩, ⟨23, 16, .rw, 0xa8⟩]⟩,  -- PWR_CFG: host_level, in_low, in_crit
  ⟨0x118, false, none, [⟨2, 0, .rw, 0⟩]⟩,  -- PWR_VR_SEL: vr
  ⟨0x11C, false, some (0x118, 2, 0), [⟨11, 0, .ro, 0⟩, ⟨19, 12, .ro, 0⟩, ⟨20, 20, .ro, 0⟩]⟩,  -- PWR_VR_VIEW: current, temp, warn
  ⟨0x120, false, none, [⟨7, 0, .rw, 0x73⟩, ⟨15, 8, .rw, 0x7d⟩]⟩,  -- PWR_VR_THERM: thr, lim
  ⟨0x128, true, none, [⟨63, 0, .rw, 0⟩]⟩]  -- PWR_ENERGY: mj

/-- Registers of the WEIR page. -/
def regsWeir : List RegSpec := [
  ⟨0x100, false, none, [⟨4, 0, .ro, 0x10⟩, ⟨5, 5, .ro, 0⟩, ⟨12, 8, .ro, 0x10⟩]⟩,  -- WEIR_LEVEL: n, rising, target
  ⟨0x104, false, none, [⟨9, 0, .ro, 0⟩, ⟨25, 16, .ro, 0⟩]⟩,  -- WEIR_REASONS: active, binding
  ⟨0x108, false, none, [⟨1, 0, .rw, 0⟩]⟩,  -- WEIR_DIE_SEL: die
  ⟨0x10C, false, some (0x108, 1, 0), [⟨11, 0, .rw, 0x4b0⟩]⟩,  -- WEIR_DIE_CFG: ceiling
  ⟨0x110, false, none, [⟨8, 0, .st, 0x171⟩, ⟨22, 16, .st, 0x40⟩]⟩,  -- WEIR_RAMP_CFG: budget, wave
  ⟨0x114, false, some (0x108, 1, 0), [⟨11, 0, .ro, 0⟩, ⟨27, 16, .rw, 0⟩]⟩,  -- WEIR_DIE_TOK: now, peak
  ⟨0x118, false, some (0x108, 1, 0), [⟨11, 0, .ro, 0⟩, ⟨27, 16, .rw, 0⟩]⟩,  -- WEIR_DIE_RISE: now, peak
  ⟨0x120, false, none, [⟨5, 0, .rw, 0⟩]⟩,  -- WEIR_ALLOT_SEL: polder
  ⟨0x124, false, some (0x120, 5, 0), [⟨11, 0, .st, 0x4b0⟩]⟩,  -- WEIR_ALLOT: allot
  ⟨0x128, false, some (0x120, 5, 0), [⟨31, 0, .rw, 0⟩]⟩,  -- WEIR_ALLOT_OVER: beats
  ⟨0x12C, false, some (0x120, 5, 0), [⟨15, 0, .ro, 0⟩, ⟨26, 16, .ro, 0⟩]⟩,  -- WEIR_RAMP_VIEW: intervals, tiles
  ⟨0x130, true, some (0x108, 1, 0), [⟨63, 0, .rw, 0⟩]⟩,  -- WEIR_RAMPS: count
  ⟨0x138, false, some (0x108, 1, 0), [⟨31, 0, .rw, 0⟩]⟩]  -- WEIR_EXCESS: beats

/-- Registers of the GAUGE page. -/
def regsGauge : List RegSpec := [
  ⟨0x100, false, none, [⟨1, 0, .rw, 0⟩]⟩,  -- GAUGE_DIE_SEL: die
  ⟨0x104, false, some (0x100, 1, 0), [⟨7, 0, .ro, 0⟩, ⟨15, 8, .rw, 0⟩, ⟨23, 16, .ro, 0⟩, ⟨31, 24, .rw, 0⟩]⟩,  -- GAUGE_TEMP: die_now, die_peak, link_now, link_peak
  ⟨0x108, false, none, [⟨7, 0, .rw, 0x64⟩, ⟨15, 8, .rw, 0x69⟩, ⟨23, 16, .rw, 0x64⟩, ⟨31, 24, .rw, 0x6c⟩]⟩,  -- GAUGE_THERM_CFG: die_thr, die_lim, link_thr, link_lim
  ⟨0x110, false, none, [⟨3, 0, .rw, 0⟩]⟩,  -- GAUGE_REASON_SEL: reason
  ⟨0x118, true, some (0x110, 3, 0), [⟨63, 0, .rw, 0⟩]⟩,  -- GAUGE_REASON_US: us
  ⟨0x120, true, some (0x110, 3, 0), [⟨63, 0, .rw, 0⟩]⟩,  -- GAUGE_REASON_BIND: us
  ⟨0x128, false, none, [⟨7, 0, .ro, 0⟩, ⟨24, 16, .ro, 0⟩, ⟨31, 31, .w1c, 0⟩]⟩,  -- GAUGE_LOG_STATUS: head, count, wrapped
  ⟨0x12C, false, none, [⟨7, 0, .rw, 0⟩]⟩,  -- GAUGE_LOG_SEL: idx
  ⟨0x130, false, some (0x12C, 7, 0), [⟨31, 0, .ro, 0⟩]⟩,  -- GAUGE_LOG_DATA0: word
  ⟨0x134, false, some (0x12C, 7, 0), [⟨31, 0, .ro, 0⟩]⟩,  -- GAUGE_LOG_DATA1: word
  ⟨0x138, false, some (0x12C, 7, 0), [⟨31, 0, .ro, 0⟩]⟩,  -- GAUGE_LOG_DATA2: word
  ⟨0x13C, false, some (0x12C, 7, 0), [⟨31, 0, .ro, 0⟩]⟩,  -- GAUGE_LOG_DATA3: word
  ⟨0x140, false, some (0x12C, 7, 0), [⟨31, 0, .ro, 0⟩]⟩,  -- GAUGE_LOG_DATA4: word
  ⟨0x144, false, some (0x12C, 7, 0), [⟨31, 0, .ro, 0⟩]⟩,  -- GAUGE_LOG_DATA5: word
  ⟨0x148, false, some (0x12C, 7, 0), [⟨31, 0, .ro, 0⟩]⟩,  -- GAUGE_LOG_DATA6: word
  ⟨0x14C, false, some (0x12C, 7, 0), [⟨31, 0, .ro, 0⟩]⟩,  -- GAUGE_LOG_DATA7: word
  ⟨0x150, false, none, [⟨5, 0, .rw, 0⟩]⟩,  -- GAUGE_LAG_SEL: polder
  ⟨0x158, true, some (0x150, 5, 0), [⟨63, 0, .rw, 0⟩]⟩,  -- GAUGE_LAG_INST: count
  ⟨0x160, true, some (0x150, 5, 0), [⟨63, 0, .rw, 0⟩]⟩,  -- GAUGE_LAG_WAIT: count
  ⟨0x168, true, some (0x150, 5, 0), [⟨63, 0, .rw, 0⟩]⟩,  -- GAUGE_LAG_HELD: count
  ⟨0x170, true, some (0x150, 5, 0), [⟨63, 0, .rw, 0⟩]⟩]  -- GAUGE_LAG_ORIG: count

/-- Registers of the PLD page. -/
def regsPld : List RegSpec := [
  ⟨0x100, false, none, [⟨10, 0, .rw, 0⟩, ⟨14, 12, .rw, 0⟩, ⟨15, 15, .rw, 0⟩]⟩,  -- PLD_BIND_SEL: index, table, autoinc
  ⟨0x104, false, some (0x100, 14, 0), [⟨5, 0, .st, 0⟩, ⟨6, 6, .st, 0⟩]⟩,  -- PLD_BIND: owner, bound
  ⟨0x108, false, some (0x100, 14, 0), [⟨5, 0, .ro, 0⟩, ⟨6, 6, .ro, 0⟩, ⟨7, 7, .ro, 0⟩, ⟨18, 8, .ro, 0⟩]⟩,  -- PLD_BIND_ACT: owner, bound, unavail, rank
  ⟨0x110, false, none, [⟨5, 0, .rw, 0⟩]⟩,  -- PLD_PT_SEL: polder
  ⟨0x114, false, some (0x110, 5, 0), [⟨15, 0, .st, 0⟩, ⟨16, 16, .st, 0⟩, ⟨17, 17, .rw, 0⟩]⟩,  -- PLD_PT_CFG: ftid, rotate, seal
  ⟨0x118, true, some (0x110, 5, 0), [⟨3, 0, .st, 0⟩, ⟨8, 4, .st, 0⟩, ⟨13, 9, .st, 0⟩, ⟨18, 14, .st, 1⟩, ⟨24, 19, .st, 1⟩, ⟨30, 25, .st, 1⟩]⟩,  -- PLD_PT_SLICE: ox, oy, oz, sx, sy, sz
  ⟨0x120, false, some (0x110, 5, 0), [⟨5, 0, .ro, 0⟩, ⟨6, 6, .ro, 0⟩, ⟨31, 16, .ro, 0⟩]⟩,  -- PLD_PT_STATUS: flow_epoch, sealed, bind_epoch
  ⟨0x128, true, some (0x110, 5, 0), [⟨47, 9, .ro, 0⟩]⟩,  -- PLD_PT_PROT: base
  ⟨0x130, false, some (0x110, 5, 0), [⟨31, 0, .ro, 0⟩]⟩,  -- PLD_PT_PROT_LEN: loaves
  ⟨0x140, false, none, [⟨5, 0, .rw, 0⟩]⟩,  -- PLD_SLU_SEL: entry
  ⟨0x148, true, some (0x140, 5, 0), [⟨1, 0, .st, 0⟩, ⟨7, 2, .st, 0⟩, ⟨13, 8, .st, 0⟩, ⟨17, 14, .st, 0⟩, ⟨28, 18, .st, 0⟩, ⟨36, 29, .st, 0⟩, ⟨63, 48, .st, 0⟩]⟩,  -- PLD_SLU_CFG: kind, owner, user, window, first_field, count_m1, ftid
  ⟨0x150, true, some (0x140, 5, 0), [⟨1, 0, .ro, 0⟩, ⟨7, 2, .ro, 0⟩, ⟨13, 8, .ro, 0⟩, ⟨17, 14, .ro, 0⟩, ⟨28, 18, .ro, 0⟩, ⟨36, 29, .ro, 0⟩, ⟨63, 48, .ro, 0⟩]⟩]  -- PLD_SLU_ACT: kind, owner, user, window, first_field, count_m1, ftid

/-- Registers of the ARM page. -/
def regsArm : List RegSpec := [
  ⟨0x100, false, none, [⟨0, 0, .wo, 0⟩, ⟨1, 1, .wo, 0⟩, ⟨2, 2, .wo, 0⟩, ⟨3, 3, .wo, 0⟩]⟩,  -- PLD_ARM_CTRL: arm_beat, arm_frame, disarm, discard
  ⟨0x104, false, none, [⟨1, 0, .ro, 0⟩, ⟨31, 16, .ro, 0⟩]⟩,  -- PLD_ARM_STATUS: state, result
  ⟨0x108, true, none, [⟨55, 0, .rw, 0⟩]⟩,  -- PLD_ARM_BEAT: beat
  ⟨0x110, true, none, [⟨47, 0, .rw, 0⟩]⟩,  -- PLD_ARM_FRAME: frame
  ⟨0x118, false, none, [⟨15, 0, .ro, 0⟩, ⟨31, 16, .ro, 0⟩]⟩,  -- PLD_GEN: staged, active
  ⟨0x11C, false, none, [⟨3, 0, .ro, 0⟩, ⟨18, 8, .ro, 0⟩, ⟨21, 19, .ro, 0⟩]⟩,  -- PLD_ARM_FAIL: reason, index, table
  ⟨0x120, true, none, [⟨55, 0, .ro, 0⟩]⟩,  -- PLD_LAST_ACT: beat
  ⟨0x128, false, none, [⟨15, 0, .ro, 0⟩]⟩,  -- PLD_STALE: count
  ⟨0x130, false, none, [⟨14, 0, .wo, 0⟩, ⟨21, 16, .wo, 0⟩, ⟨31, 31, .wo, 0⟩]⟩,  -- PLD_REJOIN: page, polder, go
  ⟨0x134, false, none, [⟨15, 0, .wo, 0⟩]⟩,  -- PLD_REJOIN_EPOCH: epoch
  ⟨0x138, false, none, [⟨15, 0, .ro, 0⟩]⟩]  -- PLD_REJOIN_STATUS: result

/-- Registers of the INTAKE page. -/
def regsIntake : List RegSpec := [
  ⟨0x100, false, none, [⟨0, 0, .rw, 0⟩]⟩,  -- INTAKE_CTRL: enable
  ⟨0x104, false, none, [⟨2, 0, .ro, 0⟩, ⟨15, 8, .ro, 0⟩, ⟨31, 16, .ro, 0⟩]⟩,  -- INTAKE_STATUS: state, opcode, halt_code
  ⟨0x108, true, none, [⟨63, 12, .rw, 0⟩]⟩,  -- INTAKE_RQ_BASE: base
  ⟨0x110, false, none, [⟨3, 0, .rw, 4⟩]⟩,  -- INTAKE_RQ_CFG: log2n
  ⟨0x114, false, none, [⟨31, 0, .rw, 0⟩]⟩,  -- INTAKE_RQ_TAIL: index
  ⟨0x118, false, none, [⟨31, 0, .ro, 0⟩]⟩,  -- INTAKE_RQ_HEAD: index
  ⟨0x11C, false, none, [⟨31, 0, .ro, 0⟩]⟩,  -- INTAKE_RQ_DONE: index
  ⟨0x120, true, none, [⟨63, 3, .rw, 0⟩]⟩,  -- INTAKE_TALLY: addr
  ⟨0x128, true, none, [⟨63, 12, .rw, 0⟩]⟩,  -- INTAKE_REC_BASE: base
  ⟨0x130, false, none, [⟨3, 0, .rw, 6⟩]⟩,  -- INTAKE_REC_CFG: log2n
  ⟨0x134, false, none, [⟨31, 0, .rw, 0⟩]⟩,  -- INTAKE_REC_HEAD: index
  ⟨0x138, false, none, [⟨31, 0, .ro, 0⟩]⟩,  -- INTAKE_REC_TAIL: index
  ⟨0x13C, false, none, [⟨6, 0, .ro, 0⟩, ⟨7, 7, .w1c, 0⟩, ⟨31, 16, .rw, 0⟩]⟩,  -- INTAKE_REC_STATUS: backlog, overflow, lost
  ⟨0x140, false, none, [⟨3, 0, .rw, 0⟩]⟩,  -- INTAKE_HWIN_SEL: win
  ⟨0x148, true, some (0x140, 3, 0), [⟨63, 12, .lk, 0⟩]⟩,  -- INTAKE_HWIN_BASE: base
  ⟨0x150, false, some (0x140, 3, 0), [⟨5, 0, .lk, 0⟩, ⟨6, 6, .lk, 0⟩, ⟨7, 7, .lk, 0⟩]⟩,  -- INTAKE_HWIN_CFG: log2size, rd, wr
  ⟨0x154, false, none, [⟨2, 0, .rw, 0⟩]⟩,  -- INTAKE_TILE_WIN: base
  ⟨0x158, true, none, [⟨63, 0, .ro, 0⟩]⟩,  -- INTAKE_SEED: seed
  ⟨0x160, false, none, [⟨31, 0, .ro, 0⟩]⟩,  -- INTAKE_VIEW_STEP: value
  ⟨0x164, false, none, [⟨31, 0, .ro, 0⟩]⟩,  -- INTAKE_VIEW_SEALED: value
  ⟨0x168, false, none, [⟨31, 0, .ro, 0⟩]⟩,  -- INTAKE_VIEW_FP: value
  ⟨0x16C, false, none, [⟨31, 0, .ro, 0⟩]⟩,  -- INTAKE_VIEW_FP_STEP: value
  ⟨0x170, true, none, [⟨63, 0, .ro, 0⟩]⟩]  -- INTAKE_VIEW_HEARTBEAT: count

/-- Registers of the MBOX page. -/
def regsMbox : List RegSpec := [
  ⟨0x100, false, none, [⟨0, 0, .wo, 0⟩, ⟨1, 1, .wo, 0⟩]⟩,  -- MBOX_CTRL: send, abort
  ⟨0x104, false, none, [⟨1, 0, .ro, 0⟩, ⟨15, 8, .ro, 0⟩, ⟨26, 16, .ro, 0⟩]⟩,  -- MBOX_STATUS: state, error, rsp_len
  ⟨0x108, false, none, [⟨10, 0, .rw, 0⟩]⟩]  -- MBOX_REQ_LEN: len

/-- Registers of the DIE page. -/
def regsDie : List RegSpec := [
  ⟨0x300, false, none, [⟨3, 0, .ro, 0⟩, ⟨4, 4, .ro, 0⟩, ⟨10, 5, .ro, 0⟩, ⟨26, 16, .ro, 0⟩]⟩,  -- DIE_LDR_STATUS: phase, lead, polder, tiles_done
  ⟨0x304, false, none, [⟨15, 0, .ro, 0⟩, ⟨21, 16, .ro, 0⟩]⟩,  -- DIE_LDR_LAST: result, polder
  ⟨0x308, true, none, [⟨63, 0, .rw, 0⟩]⟩,  -- DIE_LDR_LOADS: count
  ⟨0x310, true, none, [⟨63, 0, .rw, 0⟩]⟩,  -- DIE_LDR_REJECTS: count
  ⟨0x318, false, none, [⟨5, 0, .wo, 0⟩, ⟨31, 31, .wo, 0⟩]⟩,  -- DIE_LDR_ABORT: polder, go
  ⟨0x320, true, none, [⟨15, 0, .ro, 0xffff⟩, ⟨39, 16, .ro, 0xffffff⟩, ⟨44, 40, .ro, 0x1f⟩]⟩,  -- DIE_LDR_FLAGLOC: ptile, cmd_index, reason
  ⟨0x400, true, none, [⟨37, 0, .ro, 0⟩]⟩,  -- DIE_COL_STATUS: cols
  ⟨0x408, true, none, [⟨37, 0, .ro, 0⟩]⟩,  -- DIE_COL_PENDING: cols
  ⟨0x410, true, none, [⟨37, 0, .st, 0⟩]⟩,  -- DIE_COL_RETIRE: cols
  ⟨0x418, false, none, [⟨15, 0, .rw, 0x100⟩]⟩,  -- DIE_SPARE_CFG: corr_thresh
  ⟨0x420, false, none, [⟨5, 0, .rw, 0⟩]⟩,  -- DIE_SNAP_SEL: polder
  ⟨0x428, true, some (0x420, 5, 0), [⟨0, 0, .rw, 0⟩, ⟨47, 12, .rw, 0⟩]⟩,  -- DIE_SNAP_BASE: enable, base
  ⟨0x430, false, some (0x420, 5, 0), [⟨23, 0, .ro, 0⟩]⟩,  -- DIE_SNAP_NEED: pages
  ⟨0x434, false, some (0x420, 5, 0), [⟨0, 0, .ro, 0⟩, ⟨1, 1, .ro, 0⟩, ⟨2, 2, .ro, 0⟩, ⟨3, 3, .ro, 0⟩]⟩,  -- DIE_SNAP_STATUS: latest, latest_ok, other_ok, busy
  ⟨0x438, true, some (0x420, 5, 0), [⟨31, 0, .ro, 0⟩, ⟨63, 32, .ro, 0⟩]⟩,  -- DIE_SNAP_STEP: latest, other
  ⟨0x440, true, some (0x420, 5, 0), [⟨63, 0, .rw, 0⟩]⟩,  -- DIE_SNAP_COUNT: count
  ⟨0x448, false, none, [⟨15, 0, .rw, 0⟩, ⟨21, 16, .rw, 0⟩]⟩,  -- DIE_FP_SEL: ptile, polder
  ⟨0x44C, false, some (0x448, 21, 0), [⟨31, 0, .ro, 0⟩]⟩,  -- DIE_FP_FRAME: fp
  ⟨0x450, false, some (0x448, 21, 0), [⟨31, 0, .ro, 0⟩]⟩,  -- DIE_FP_STEP: fp
  ⟨0x458, false, none, [⟨15, 0, .rw, 0⟩, ⟨31, 16, .rw, 0⟩]⟩]  -- DIE_SRAM_ECC: corrected, lasting

/-- Registers of the D2D page. -/
def regsD2d : List RegSpec := [
  ⟨0x100, false, none, [⟨2, 0, .ro, 0⟩, ⟨11, 8, .ro, 0⟩, ⟨21, 16, .ro, 0⟩, ⟨24, 24, .ro, 0⟩]⟩,  -- D2D_STATUS: state, bundles, spares, detour
  ⟨0x104, false, none, [⟨7, 0, .rw, 0x10⟩, ⟨8, 8, .rw, 1⟩]⟩,  -- D2D_CFG: spare_thresh, auto_spare
  ⟨0x108, false, none, [⟨0, 0, .wo, 0⟩, ⟨1, 1, .wo, 0⟩]⟩,  -- D2D_CTRL: retrain, fail
  ⟨0x10C, false, none, [⟨2, 0, .rw, 0⟩]⟩,  -- D2D_BSEL: bundle
  ⟨0x110, false, some (0x10C, 2, 0), [⟨6, 0, .ro, 0x7f⟩, ⟨13, 7, .ro, 0x7f⟩, ⟨20, 14, .ro, 0x7f⟩, ⟨27, 21, .ro, 0x7f⟩, ⟨28, 28, .ro, 0⟩]⟩,  -- D2D_BMAP: spare0, spare1, spare2, spare3, retired
  ⟨0x118, true, none, [⟨63, 0, .rw, 0⟩]⟩,  -- D2D_REPLAYS: count
  ⟨0x120, true, none, [⟨63, 0, .rw, 0⟩]⟩,  -- D2D_XS_RETRY: count
  ⟨0x128, false, none, [⟨31, 0, .rw, 0⟩]⟩]  -- D2D_XS_LATE: count

/-- Registers of the KND page, part 0. -/
def regsKnd0 : List RegSpec := [
  ⟨0x100, false, none, [⟨15, 0, .ro, 0⟩, ⟨16, 16, .ro, 0⟩]⟩,  -- KND_STATUS: active, quiesce_busy
  ⟨0x104, false, none, [⟨5, 0, .rw, 0⟩]⟩,  -- KND_SLOT_SEL: slot
  ⟨0x108, false, some (0x104, 5, 0), [⟨15, 0, .lk, 0x40⟩, ⟨16, 16, .lk, 0⟩]⟩,  -- KND_SLOT_CFG: deadline, deadline_abort
  ⟨0x10C, false, some (0x104, 5, 0), [⟨2, 0, .ro, 0⟩, ⟨15, 8, .ro, 0⟩, ⟨17, 16, .ro, 0⟩, ⟨18, 18, .ro, 0⟩, ⟨23, 19, .ro, 0⟩]⟩,  -- KND_SLOT_STATUS: state, desc, phase, gather, step
  ⟨0x110, false, none, [⟨5, 0, .rw, 0⟩, ⟨15, 8, .rw, 0⟩]⟩,  -- KND_DESC_SEL: slot, desc
  ⟨0x120, false, none, [⟨31, 0, .rw, 0⟩]⟩,  -- KND_DESC_DATA0: word
  ⟨0x124, false, none, [⟨31, 0, .rw, 0⟩]⟩,  -- KND_DESC_DATA1: word
  ⟨0x128, false, none, [⟨31, 0, .rw, 0⟩]⟩,  -- KND_DESC_DATA2: word
  ⟨0x12C, false, none, [⟨31, 0, .rw, 0⟩]⟩,  -- KND_DESC_DATA3: word
  ⟨0x130, false, none, [⟨31, 0, .rw, 0⟩]⟩,  -- KND_DESC_DATA4: word
  ⟨0x134, false, none, [⟨31, 0, .rw, 0⟩]⟩,  -- KND_DESC_DATA5: word
  ⟨0x138, false, none, [⟨31, 0, .rw, 0⟩]⟩,  -- KND_DESC_DATA6: word
  ⟨0x13C, false, none, [⟨31, 0, .rw, 0⟩]⟩,  -- KND_DESC_DATA7: word
  ⟨0x140, false, none, [⟨31, 0, .rw, 0⟩]⟩,  -- KND_DESC_DATA8: word
  ⟨0x144, false, none, [⟨31, 0, .rw, 0⟩]⟩,  -- KND_DESC_DATA9: word
  ⟨0x148, false, none, [⟨31, 0, .rw, 0⟩]⟩,  -- KND_DESC_DATA10: word
  ⟨0x14C, false, none, [⟨31, 0, .rw, 0⟩]⟩,  -- KND_DESC_DATA11: word
  ⟨0x150, false, none, [⟨31, 0, .rw, 0⟩]⟩,  -- KND_DESC_DATA12: word
  ⟨0x154, false, none, [⟨31, 0, .rw, 0⟩]⟩,  -- KND_DESC_DATA13: word
  ⟨0x158, false, none, [⟨31, 0, .rw, 0⟩]⟩,  -- KND_DESC_DATA14: word
  ⟨0x15C, false, none, [⟨31, 0, .rw, 0⟩]⟩,  -- KND_DESC_DATA15: word
  ⟨0x160, false, none, [⟨0, 0, .wo, 0⟩]⟩,  -- KND_DESC_POST: go
  ⟨0x164, false, some (0x110, 15, 0), [⟨0, 0, .ro, 0⟩, ⟨1, 1, .ro, 0⟩, ⟨31, 16, .ro, 0⟩]⟩,  -- KND_DESC_STATUS: valid, busy, post_result
  ⟨0x168, false, some (0x110, 15, 0), [⟨31, 0, .ro, 0⟩]⟩]  -- KND_DESC_READY: count

/-- Registers of the KND page, part 1. -/
def regsKnd1 : List RegSpec := [
  ⟨0x16C, false, some (0x110, 15, 0), [⟨31, 0, .ro, 0⟩]⟩,  -- KND_DESC_DONE: count
  ⟨0x170, false, none, [⟨5, 0, .wo, 0⟩, ⟨31, 31, .wo, 0⟩]⟩,  -- KND_ABORT: polder, go
  ⟨0x174, false, none, [⟨5, 0, .wo, 0⟩, ⟨15, 8, .wo, 0⟩, ⟨31, 31, .wo, 0⟩]⟩,  -- KND_QUIESCE: polder, frames, go
  ⟨0x178, true, none, [⟨63, 0, .rw, 0⟩]⟩,  -- KND_COMMITS: count
  ⟨0x180, true, none, [⟨63, 0, .rw, 0⟩]⟩,  -- KND_ABORTS: count
  ⟨0x188, true, none, [⟨63, 0, .rw, 0⟩]⟩,  -- KND_TX_LOAVES: count
  ⟨0x190, true, none, [⟨63, 0, .rw, 0⟩]⟩,  -- KND_RX_LOAVES: count
  ⟨0x198, false, none, [⟨0, 0, .w1c, 0⟩, ⟨1, 1, .w1c, 0⟩, ⟨2, 2, .w1c, 0⟩, ⟨3, 3, .w1c, 0⟩, ⟨4, 4, .w1c, 0⟩, ⟨5, 5, .w1c, 0⟩, ⟨6, 6, .w1c, 0⟩]⟩,  -- KND_FLAGS: nan_in, inf_in, inv, ovf, unf, iovf, blk_nan
  ⟨0x19C, false, none, [⟨3, 0, .ro, 0⟩, ⟨15, 8, .ro, 0⟩, ⟨31, 16, .ro, 0⟩]⟩,  -- KND_ERR_INFO: slot, desc, code
  ⟨0x1A0, false, none, [⟨31, 0, .ro, 0⟩]⟩,  -- KND_ERR_INST: instance
  ⟨0x1A4, false, none, [⟨31, 0, .rw, 0⟩]⟩]  -- KND_STRAY: count

/-- Registers of the KND page. -/
def regsKnd : List RegSpec := regsKnd0 ++ regsKnd1

/-- Registers of the LNK page. -/
def regsLnk : List RegSpec := [
  ⟨0x100, false, none, [⟨2, 0, .ro, 0⟩, ⟨3, 3, .ro, 0⟩, ⟨4, 4, .ro, 0⟩, ⟨10, 8, .ro, 0⟩, ⟨11, 11, .ro, 0⟩, ⟨16, 16, .ro, 0⟩, ⟨17, 17, .ro, 0⟩, ⟨22, 18, .ro, 0⟩]⟩,  -- LNK_STATUS: state, width, half, role, pair, carrying, moved, via
  ⟨0x104, false, none, [⟨0, 0, .rw, 1⟩, ⟨1, 1, .wo, 0⟩, ⟨3, 2, .rw, 0⟩]⟩,  -- LNK_CTRL: enable, retrain, width_force
  ⟨0x108, false, none, [⟨7, 0, .rw, 8⟩, ⟨8, 8, .rw, 1⟩, ⟨11, 9, .rw, 3⟩]⟩,  -- LNK_CFG: degrade_thresh, auto_degrade, train_tries
  ⟨0x110, true, none, [⟨13, 0, .ro, 0⟩, ⟨15, 14, .ro, 0⟩, ⟨18, 16, .ro, 0⟩, ⟨19, 19, .ro, 0⟩, ⟨20, 20, .ro, 0⟩]⟩,  -- LNK_PEER: node, die, role, valid, pair
  ⟨0x118, false, none, [⟨2, 0, .rw, 0⟩]⟩,  -- LNK_LANE_SEL: lane
  ⟨0x11C, false, some (0x118, 2, 0), [⟨31, 0, .rw, 0⟩]⟩,  -- LNK_LANE_ERR: count
  ⟨0x120, true, none, [⟨63, 0, .rw, 0⟩]⟩,  -- LNK_FEC_CORR: count
  ⟨0x128, true, none, [⟨63, 0, .rw, 0⟩]⟩,  -- LNK_FEC_UNCORR: count
  ⟨0x130, true, none, [⟨63, 0, .rw, 0⟩]⟩,  -- LNK_REPLAYS: count
  ⟨0x138, true, none, [⟨63, 0, .rw, 0⟩]⟩,  -- LNK_TX_FLITS: count
  ⟨0x140, true, none, [⟨63, 0, .rw, 0⟩]⟩,  -- LNK_RX_FLITS: count
  ⟨0x148, false, none, [⟨31, 0, .rw, 0⟩]⟩,  -- LNK_DIKE_DROP: count
  ⟨0x14C, false, none, [⟨31, 0, .rw, 0⟩]⟩,  -- LNK_LATE: count
  ⟨0x150, true, none, [⟨63, 0, .rw, 0⟩]⟩,  -- LNK_RES_WAIT: cycles
  ⟨0x158, true, none, [⟨55, 0, .ro, 0⟩, ⟨61, 56, .ro, 0⟩]⟩,  -- LNK_FMARK_FRAME: value, cycle
  ⟨0x160, true, none, [⟨55, 0, .ro, 0⟩, ⟨61, 56, .ro, 0⟩]⟩,  -- LNK_FMARK_PBEAT: value, cycle
  ⟨0x168, true, none, [⟨55, 0, .ro, 0⟩, ⟨61, 56, .ro, 0⟩]⟩]  -- LNK_FMARK_LBEAT: value, cycle

/-- Registers of the HBMC page. -/
def regsHbmc : List RegSpec := [
  ⟨0x100, false, none, [⟨2, 0, .ro, 0⟩, ⟨6, 4, .ro, 0⟩, ⟨25, 16, .ro, 0⟩]⟩,  -- HBMC_STATUS: state, therm, ppr_pending
  ⟨0x104, false, none, [⟨7, 0, .ro, 0⟩, ⟨15, 8, .rw, 0⟩]⟩,  -- HBMC_TEMP: now, peak
  ⟨0x108, false, none, [⟨7, 0, .rw, 0x5c⟩, ⟨15, 8, .rw, 0x5f⟩]⟩,  -- HBMC_THERM_CFG: thr_c, lim_c
  ⟨0x110, true, none, [⟨31, 0, .rw, 0⟩, ⟨47, 32, .rw, 0⟩, ⟨63, 48, .rw, 0⟩]⟩,  -- HBMC_ECC_CNT: corrected, retried, uncorr
  ⟨0x118, false, none, [⟨9, 0, .rw, 0⟩]⟩,  -- HBMC_RETIRE_SEL: idx
  ⟨0x120, true, some (0x118, 9, 0), [⟨4, 0, .ro, 0⟩, ⟨5, 5, .ro, 0⟩, ⟨11, 6, .ro, 0⟩, ⟨25, 12, .ro, 0⟩, ⟨27, 26, .ro, 0⟩, ⟨35, 28, .ro, 0⟩]⟩,  -- HBMC_RETIRE_VIEW: channel, pc, bank, row, state, poisoned
  ⟨0x128, false, none, [⟨7, 0, .rw, 0x18⟩, ⟨15, 8, .rw, 8⟩]⟩,  -- HBMC_SCRUB_CFG: patrol_h, retire_thresh
  ⟨0x12C, false, none, [⟨14, 0, .ro, 0x4800⟩, ⟨23, 16, .ro, 0⟩]⟩,  -- HBMC_SCRUB_STATUS: fresh, patrol_pct
  ⟨0x130, false, none, [⟨14, 0, .rw, 0⟩]⟩,  -- HBMC_FRESH_SEL: block
  ⟨0x134, false, some (0x130, 14, 0), [⟨0, 0, .ro, 1⟩]⟩,  -- HBMC_FRESH_VIEW: fresh
  ⟨0x138, false, none, [⟨5, 0, .rw, 0⟩]⟩,  -- HBMC_KEY_SEL: slot
  ⟨0x13C, false, some (0x138, 5, 0), [⟨31, 0, .ro, 0⟩]⟩,  -- HBMC_KEY_GEN: gen
  ⟨0x140, true, none, [⟨63, 0, .rw, 0⟩]⟩,  -- HBMC_RD_BYTES: bytes
  ⟨0x148, true, none, [⟨63, 0, .rw, 0⟩]⟩]  -- HBMC_WR_BYTES: bytes

/-- Registers of the SC page. -/
def regsSc : List RegSpec := [
  ⟨0x100, false, none, [⟨6, 0, .ro, 0⟩, ⟨13, 8, .ro, 0⟩, ⟨24, 16, .ro, 0⟩]⟩,  -- SC_STATUS: wcb, held, pin
  ⟨0x104, false, none, [⟨9, 0, .rw, 0x200⟩, ⟨21, 16, .rw, 0x30⟩, ⟨28, 24, .rw, 0x10⟩]⟩,  -- SC_CFG: drain_age, high_water, prov_wait
  ⟨0x108, false, none, [⟨13, 0, .ro, 0⟩]⟩,  -- SC_PROV: lines
  ⟨0x10C, false, none, [⟨8, 0, .ro, 0⟩, ⟨24, 16, .ro, 0⟩]⟩,  -- SC_LOCK_STATUS: held, broken
  ⟨0x110, false, none, [⟨7, 0, .rw, 0⟩]⟩,  -- SC_LOCK_SEL: entry
  ⟨0x118, true, some (0x110, 7, 0), [⟨1, 0, .ro, 0⟩, ⟨63, 8, .ro, 0⟩]⟩,  -- SC_LOCK_VIEW: state, word
  ⟨0x120, true, some (0x110, 7, 0), [⟨47, 3, .ro, 0⟩]⟩,  -- SC_LOCK_ADDR: da
  ⟨0x128, false, some (0x110, 7, 0), [⟨0, 0, .wo, 0⟩]⟩,  -- SC_LOCK_CTRL: free
  ⟨0x130, true, none, [⟨63, 0, .rw, 0⟩]⟩,  -- SC_HITS: count
  ⟨0x138, true, none, [⟨63, 0, .rw, 0⟩]⟩,  -- SC_MISSES: count
  ⟨0x140, true, none, [⟨63, 0, .rw, 0⟩]⟩,  -- SC_FWD: count
  ⟨0x148, true, none, [⟨63, 0, .rw, 0⟩]⟩,  -- SC_PWAIT: count
  ⟨0x150, true, none, [⟨63, 0, .rw, 0⟩]⟩,  -- SC_ATOMICS: count
  ⟨0x160, false, none, [⟨4, 0, .rw, 0⟩, ⟨5, 5, .rw, 0⟩]⟩,  -- SC_ARB_SEL: req, bank
  ⟨0x168, true, some (0x160, 5, 0), [⟨63, 0, .rw, 0⟩]⟩,  -- SC_ARB_GRANTS: count
  ⟨0x170, true, some (0x160, 5, 0), [⟨63, 0, .rw, 0⟩]⟩,  -- SC_ARB_WAITS: count
  ⟨0x178, false, some (0x160, 5, 0), [⟨31, 0, .rw, 0⟩]⟩,  -- SC_ARB_MAXWAIT: count
  ⟨0x180, false, none, [⟨15, 0, .rw, 0⟩, ⟨31, 16, .rw, 0⟩]⟩]  -- SC_ECC_CNT: corrected, uncorr

/-- Registers of the SQ page. -/
def regsSq : List RegSpec := [
  ⟨0x100, false, none, [⟨3, 0, .rw, 0⟩]⟩,  -- SQ_Q_SEL: queue
  ⟨0x104, false, some (0x100, 3, 0), [⟨14, 0, .st, 0x4000⟩]⟩,  -- SQ_Q_CFG: max_segs
  ⟨0x108, false, some (0x100, 3, 0), [⟨0, 0, .wo, 0⟩]⟩,  -- SQ_Q_CTRL: flush
  ⟨0x10C, false, some (0x100, 3, 0), [⟨0, 0, .ro, 0⟩, ⟨1, 1, .ro, 0⟩, ⟨2, 2, .ro, 0⟩, ⟨3, 3, .ro, 0⟩, ⟨11, 8, .ro, 0⟩, ⟨15, 12, .ro, 0⟩, ⟨21, 16, .ro, 0⟩]⟩,  -- SQ_Q_STATUS: open, full, flush_busy, error, tail, head, gen
  ⟨0x110, false, some (0x100, 3, 0), [⟨12, 0, .ro, 0⟩, ⟨13, 13, .ro, 0⟩, ⟨28, 16, .ro, 0⟩, ⟨29, 29, .ro, 0⟩]⟩,  -- SQ_Q_ENDS: producer, prod_valid, consumer, cons_valid
  ⟨0x114, false, some (0x100, 3, 0), [⟨14, 0, .ro, 0⟩, ⟨31, 16, .ro, 0⟩]⟩,  -- SQ_Q_DEPTH: segs, packets
  ⟨0x118, true, some (0x100, 3, 0), [⟨63, 0, .rw, 0⟩]⟩,  -- SQ_Q_PKTS: count
  ⟨0x120, true, some (0x100, 3, 0), [⟨63, 0, .rw, 0⟩]⟩,  -- SQ_Q_POPS: count
  ⟨0x128, true, some (0x100, 3, 0), [⟨63, 0, .rw, 0⟩]⟩,  -- SQ_Q_PWAIT: count
  ⟨0x130, false, some (0x100, 3, 0), [⟨31, 0, .rw, 0⟩]⟩,  -- SQ_Q_LATE: count
  ⟨0x134, false, some (0x100, 3, 0), [⟨31, 0, .rw, 0⟩]⟩,  -- SQ_Q_TRUNC: count
  ⟨0x180, false, none, [⟨3, 0, .rw, 0⟩]⟩,  -- SQ_POOL_SEL: polder
  ⟨0x184, false, some (0x180, 3, 0), [⟨10, 0, .st, 0⟩, ⟨20, 16, .st, 0⟩, ⟨31, 24, .st, 0x10⟩]⟩,  -- SQ_POOL_CFG: base_field, fields, empty_wait
  ⟨0x188, false, some (0x180, 3, 0), [⟨16, 0, .ro, 0⟩, ⟨17, 17, .ro, 0⟩]⟩,  -- SQ_POOL_STATUS: free, enabled
  ⟨0x18C, false, some (0x180, 3, 0), [⟨16, 0, .rw, 0x1ffff⟩]⟩,  -- SQ_POOL_LOW: free
  ⟨0x190, false, some (0x180, 3, 0), [⟨31, 0, .rw, 0⟩]⟩,  -- SQ_POOL_EMPTY: count
  ⟨0x1A0, false, none, [⟨3, 0, .rw, 0⟩]⟩,  -- SQ_ARB_SEL: queue
  ⟨0x1A8, true, some (0x1A0, 3, 0), [⟨63, 0, .rw, 0⟩]⟩,  -- SQ_ARB_GRANTS: count
  ⟨0x1B0, true, some (0x1A0, 3, 0), [⟨63, 0, .rw, 0⟩]⟩,  -- SQ_ARB_WAITS: count
  ⟨0x1B8, false, some (0x1A0, 3, 0), [⟨31, 0, .rw, 0⟩]⟩]  -- SQ_ARB_MAXWAIT: count

/-- Registers of the TRACE page. -/
def regsTrace : List RegSpec := [
  ⟨0x100, false, none, [⟨0, 0, .rw, 0⟩, ⟨1, 1, .rw, 0⟩, ⟨2, 2, .rw, 0⟩, ⟨26, 16, .rw, 0x7fe⟩]⟩,  -- TRACE_CFG: enable, stop_full, port, kinds
  ⟨0x108, true, none, [⟨63, 0, .rw, 0xffffffffffffffff⟩]⟩,  -- TRACE_POLDERS: mask
  ⟨0x110, false, none, [⟨19, 0, .ro, 0⟩, ⟨20, 20, .ro, 0⟩, ⟨21, 21, .w1c, 0⟩, ⟨22, 22, .ro, 0⟩]⟩,  -- TRACE_STATUS: fill, stopped, wrapped, dump_busy
  ⟨0x114, false, none, [⟨18, 0, .ro, 0⟩]⟩,  -- TRACE_HEAD: index
  ⟨0x118, false, none, [⟨18, 0, .ro, 0⟩]⟩,  -- TRACE_TAIL: index
  ⟨0x120, true, none, [⟨63, 0, .rw, 0⟩]⟩,  -- TRACE_DROPS: count
  ⟨0x140, false, none, [⟨31, 0, .ro, 0⟩]⟩,  -- TRACE_RD_DATA0: word
  ⟨0x144, false, none, [⟨31, 0, .ro, 0⟩]⟩,  -- TRACE_RD_DATA1: word
  ⟨0x148, false, none, [⟨31, 0, .ro, 0⟩]⟩,  -- TRACE_RD_DATA2: word
  ⟨0x14C, false, none, [⟨31, 0, .ro, 0⟩]⟩,  -- TRACE_RD_DATA3: word
  ⟨0x150, false, none, [⟨31, 0, .ro, 0⟩]⟩,  -- TRACE_RD_DATA4: word
  ⟨0x154, false, none, [⟨31, 0, .ro, 0⟩]⟩,  -- TRACE_RD_DATA5: word
  ⟨0x158, false, none, [⟨31, 0, .ro, 0⟩]⟩,  -- TRACE_RD_DATA6: word
  ⟨0x15C, false, none, [⟨31, 0, .ro, 0⟩]⟩,  -- TRACE_RD_DATA7: word
  ⟨0x160, true, none, [⟨63, 12, .rw, 0⟩]⟩,  -- TRACE_DUMP_ADDR: base
  ⟨0x168, false, none, [⟨0, 0, .wo, 0⟩]⟩,  -- TRACE_DUMP_CTRL: go
  ⟨0x180, false, none, [⟨3, 0, .rw, 0⟩]⟩,  -- TRACE_WATCH_SEL: slot
  ⟨0x184, false, some (0x180, 3, 0), [⟨14, 0, .rw, 0⟩, ⟨15, 15, .rw, 0⟩, ⟨27, 16, .rw, 0⟩]⟩,  -- TRACE_WATCH_CFG: page, en, offset
  ⟨0x188, false, some (0x180, 3, 0), [⟨15, 0, .rw, 0x400⟩]⟩,  -- TRACE_WATCH_PERIOD: beats
  ⟨0x190, false, none, [⟨0, 0, .wo, 0⟩]⟩,  -- TRACE_ANCHOR_CTRL: capture
  ⟨0x198, true, none, [⟨55, 0, .ro, 0⟩]⟩,  -- TRACE_ANCHOR_FRAME: value
  ⟨0x1A0, true, none, [⟨55, 0, .ro, 0⟩]⟩,  -- TRACE_ANCHOR_BEAT: value
  ⟨0x1A8, false, none, [⟨1, 0, .ro, 0⟩]⟩,  -- TRACE_PORT_STATUS: state
  ⟨0x1B0, false, none, [⟨5, 0, .wo, 0⟩, ⟨8, 8, .wo, 0⟩, ⟨9, 9, .wo, 0⟩]⟩]  -- TRACE_HOLD: polder, hold, release

/-- Registers of the TILE page, part 0. -/
def regsTile0 : List RegSpec := [
  ⟨0x100, false, none, [⟨0, 0, .wo, 0⟩, ⟨1, 1, .wo, 0⟩]⟩,  -- TILE_TASK_CTRL: start, stop
  ⟨0x104, false, none, [⟨2, 0, .ro, 0⟩, ⟨11, 8, .ro, 0⟩]⟩,  -- TILE_TASK_STATUS: state, stall
  ⟨0x108, false, none, [⟨15, 0, .lk, 0⟩]⟩,  -- TILE_CTX: ctx
  ⟨0x110, true, none, [⟨47, 9, .lk, 0⟩]⟩,  -- TILE_CMDR_BASE: base
  ⟨0x118, false, none, [⟨23, 0, .lk, 0⟩]⟩,  -- TILE_CMDR_LEN: len
  ⟨0x11C, false, none, [⟨23, 0, .ro, 0⟩]⟩,  -- TILE_CMD_INDEX: index
  ⟨0x120, false, none, [⟨9, 0, .ro, 0⟩, ⟨25, 16, .ro, 0⟩]⟩,  -- TILE_Q_STATUS: fill, retained
  ⟨0x128, true, none, [⟨63, 0, .ro, 0⟩]⟩,  -- TILE_PROGRESS: issued
  ⟨0x130, false, none, [⟨7, 0, .rw, 1⟩, ⟨15, 8, .ro, 0⟩]⟩,  -- TILE_PRED: p, pend
  ⟨0x180, true, none, [⟨47, 12, .lk, 0⟩]⟩,  -- TILE_SEG0_BASE: base
  ⟨0x188, true, none, [⟨47, 12, .lk, 0⟩, ⟨48, 48, .lk, 0⟩, ⟨49, 49, .lk, 0⟩, ⟨50, 50, .lk, 0⟩]⟩,  -- TILE_SEG0_BOUND: bound, rd, wr, atom
  ⟨0x190, true, none, [⟨47, 12, .lk, 0⟩]⟩,  -- TILE_SEG1_BASE: base
  ⟨0x198, true, none, [⟨47, 12, .lk, 0⟩, ⟨48, 48, .lk, 0⟩, ⟨49, 49, .lk, 0⟩, ⟨50, 50, .lk, 0⟩]⟩,  -- TILE_SEG1_BOUND: bound, rd, wr, atom
  ⟨0x1A0, true, none, [⟨47, 12, .lk, 0⟩]⟩,  -- TILE_SEG2_BASE: base
  ⟨0x1A8, true, none, [⟨47, 12, .lk, 0⟩, ⟨48, 48, .lk, 0⟩, ⟨49, 49, .lk, 0⟩, ⟨50, 50, .lk, 0⟩]⟩,  -- TILE_SEG2_BOUND: bound, rd, wr, atom
  ⟨0x1B0, true, none, [⟨47, 12, .lk, 0⟩]⟩,  -- TILE_SEG3_BASE: base
  ⟨0x1B8, true, none, [⟨47, 12, .lk, 0⟩, ⟨48, 48, .lk, 0⟩, ⟨49, 49, .lk, 0⟩, ⟨50, 50, .lk, 0⟩]⟩,  -- TILE_SEG3_BOUND: bound, rd, wr, atom
  ⟨0x200, true, none, [⟨63, 0, .rw, 0⟩]⟩,  -- TILE_S0: value
  ⟨0x208, true, none, [⟨63, 0, .rw, 0⟩]⟩,  -- TILE_S1: value
  ⟨0x210, true, none, [⟨63, 0, .rw, 0⟩]⟩,  -- TILE_S2: value
  ⟨0x218, true, none, [⟨63, 0, .rw, 0⟩]⟩,  -- TILE_S3: value
  ⟨0x220, true, none, [⟨63, 0, .rw, 0⟩]⟩,  -- TILE_S4: value
  ⟨0x228, true, none, [⟨63, 0, .rw, 0⟩]⟩,  -- TILE_S5: value
  ⟨0x230, true, none, [⟨63, 0, .rw, 0⟩]⟩]  -- TILE_S6: value

/-- Registers of the TILE page, part 1. -/
def regsTile1 : List RegSpec := [
  ⟨0x238, true, none, [⟨63, 0, .rw, 0⟩]⟩,  -- TILE_S7: value
  ⟨0x240, true, none, [⟨63, 0, .rw, 0⟩]⟩,  -- TILE_S8: value
  ⟨0x248, true, none, [⟨63, 0, .rw, 0⟩]⟩,  -- TILE_S9: value
  ⟨0x250, true, none, [⟨63, 0, .rw, 0⟩]⟩,  -- TILE_S10: value
  ⟨0x258, true, none, [⟨63, 0, .rw, 0⟩]⟩,  -- TILE_S11: value
  ⟨0x260, true, none, [⟨63, 0, .rw, 0⟩]⟩,  -- TILE_S12: value
  ⟨0x268, true, none, [⟨63, 0, .rw, 0⟩]⟩,  -- TILE_S13: value
  ⟨0x270, true, none, [⟨63, 0, .rw, 0⟩]⟩,  -- TILE_S14: value
  ⟨0x278, true, none, [⟨63, 0, .rw, 0⟩]⟩,  -- TILE_S15: value
  ⟨0x280, true, none, [⟨63, 0, .rw, 0⟩]⟩,  -- TILE_S16: value
  ⟨0x288, true, none, [⟨63, 0, .rw, 0⟩]⟩,  -- TILE_S17: value
  ⟨0x290, true, none, [⟨63, 0, .rw, 0⟩]⟩,  -- TILE_S18: value
  ⟨0x298, true, none, [⟨63, 0, .rw, 0⟩]⟩,  -- TILE_S19: value
  ⟨0x2A0, true, none, [⟨63, 0, .rw, 0⟩]⟩,  -- TILE_S20: value
  ⟨0x2A8, true, none, [⟨63, 0, .rw, 0⟩]⟩,  -- TILE_S21: value
  ⟨0x2B0, true, none, [⟨63, 0, .rw, 0⟩]⟩,  -- TILE_S22: value
  ⟨0x2B8, true, none, [⟨63, 0, .rw, 0⟩]⟩,  -- TILE_S23: value
  ⟨0x2C0, true, none, [⟨63, 0, .rw, 0⟩]⟩,  -- TILE_S24: value
  ⟨0x2C8, true, none, [⟨63, 0, .rw, 0⟩]⟩,  -- TILE_S25: value
  ⟨0x2D0, true, none, [⟨63, 0, .rw, 0⟩]⟩,  -- TILE_S26: value
  ⟨0x2D8, true, none, [⟨63, 0, .rw, 0⟩]⟩,  -- TILE_S27: value
  ⟨0x2E0, true, none, [⟨63, 0, .rw, 0⟩]⟩,  -- TILE_S28: value
  ⟨0x2E8, true, none, [⟨63, 0, .rw, 0⟩]⟩,  -- TILE_S29: value
  ⟨0x2F0, true, none, [⟨63, 0, .rw, 0⟩]⟩]  -- TILE_S30: value

/-- Registers of the TILE page, part 2. -/
def regsTile2 : List RegSpec := [
  ⟨0x2F8, true, none, [⟨63, 0, .rw, 0⟩]⟩,  -- TILE_S31: value
  ⟨0x400, false, none, [⟨3, 0, .rw, 0⟩]⟩,  -- TILE_WLK_SEL: wlk
  ⟨0x408, false, some (0x400, 3, 0), [⟨2, 0, .rw, 0⟩]⟩,  -- TILE_WLK_CFG: space
  ⟨0x410, true, some (0x400, 3, 0), [⟨39, 0, .rw, 0⟩]⟩,  -- TILE_WLK_BASE: base
  ⟨0x418, true, some (0x400, 3, 0), [⟨47, 0, .rw, 0⟩]⟩,  -- TILE_WLK_CURSOR: cursor
  ⟨0x420, false, some (0x400, 3, 0), [⟨15, 0, .rw, 1⟩]⟩,  -- TILE_WLK_COUNT0: count
  ⟨0x424, false, some (0x400, 3, 0), [⟨15, 0, .rw, 1⟩]⟩,  -- TILE_WLK_COUNT1: count
  ⟨0x428, false, some (0x400, 3, 0), [⟨15, 0, .rw, 1⟩]⟩,  -- TILE_WLK_COUNT2: count
  ⟨0x42C, false, some (0x400, 3, 0), [⟨15, 0, .rw, 1⟩]⟩,  -- TILE_WLK_COUNT3: count
  ⟨0x430, false, some (0x400, 3, 0), [⟨15, 0, .rw, 1⟩]⟩,  -- TILE_WLK_COUNT4: count
  ⟨0x434, false, some (0x400, 3, 0), [⟨15, 0, .rw, 1⟩]⟩,  -- TILE_WLK_COUNT5: count
  ⟨0x440, true, some (0x400, 3, 0), [⟨39, 0, .rw, 0⟩]⟩,  -- TILE_WLK_STRIDE0: stride
  ⟨0x448, true, some (0x400, 3, 0), [⟨39, 0, .rw, 0⟩]⟩,  -- TILE_WLK_STRIDE1: stride
  ⟨0x450, true, some (0x400, 3, 0), [⟨39, 0, .rw, 0⟩]⟩,  -- TILE_WLK_STRIDE2: stride
  ⟨0x458, true, some (0x400, 3, 0), [⟨39, 0, .rw, 0⟩]⟩,  -- TILE_WLK_STRIDE3: stride
  ⟨0x460, true, some (0x400, 3, 0), [⟨39, 0, .rw, 0⟩]⟩,  -- TILE_WLK_STRIDE4: stride
  ⟨0x468, true, some (0x400, 3, 0), [⟨39, 0, .rw, 0⟩]⟩,  -- TILE_WLK_STRIDE5: stride
  ⟨0x600, false, none, [⟨4, 0, .ro, 0⟩, ⟨10, 8, .ro, 0⟩]⟩,  -- TILE_SB_STATUS: used, crumb
  ⟨0x604, false, none, [⟨4, 0, .rw, 0⟩]⟩,  -- TILE_SB_SEL: entry
  ⟨0x610, false, some (0x604, 4, 0), [⟨0, 0, .ro, 0⟩, ⟨1, 1, .ro, 0⟩, ⟨2, 2, .ro, 0⟩, ⟨31, 8, .ro, 0⟩]⟩,  -- TILE_SB_VIEW0: valid, write, space, cmd_index
  ⟨0x618, true, some (0x604, 4, 0), [⟨40, 0, .ro, 0⟩]⟩,  -- TILE_SB_VIEW1: lo
  ⟨0x620, true, some (0x604, 4, 0), [⟨40, 0, .ro, 0⟩]⟩,  -- TILE_SB_VIEW2: hi
  ⟨0x700, false, none, [⟨2, 0, .lk, 4⟩, ⟨14, 8, .lk, 0x40⟩, ⟨22, 16, .lk, 0x10⟩]⟩,  -- TILE_ARB_CFG: burst_max, window, quota
  ⟨0x704, false, none, [⟨3, 0, .rw, 0⟩, ⟨6, 4, .rw, 0⟩]⟩]  -- TILE_ARB_SEL: req, bank

/-- Registers of the TILE page, part 3. -/
def regsTile3 : List RegSpec := [
  ⟨0x708, true, some (0x704, 6, 0), [⟨63, 0, .rw, 0⟩]⟩,  -- TILE_ARB_GRANTS: count
  ⟨0x710, true, some (0x704, 6, 0), [⟨63, 0, .rw, 0⟩]⟩,  -- TILE_ARB_WAITS: count
  ⟨0x718, false, some (0x704, 6, 0), [⟨31, 0, .rw, 0⟩]⟩,  -- TILE_ARB_MAXWAIT: count
  ⟨0x720, false, none, [⟨15, 0, .rw, 0⟩, ⟨31, 16, .rw, 0⟩]⟩,  -- TILE_SP_ECC_CNT: corrected, uncorrected
  ⟨0x7F0, false, none, [⟨0, 0, .wo, 0⟩]⟩,  -- TILE_CLR_CTRL: start
  ⟨0x7F4, false, none, [⟨0, 0, .ro, 0⟩, ⟨31, 16, .ro, 0⟩]⟩,  -- TILE_CLR_STATUS: busy, cycles
  ⟨0x900, false, none, [⟨0, 0, .ro, 0⟩, ⟨1, 1, .ro, 0⟩, ⟨10, 8, .ro, 0⟩, ⟨19, 16, .ro, 0⟩]⟩,  -- TILE_MX_STATUS: busy, tok_held, queued, tok_class
  ⟨0x904, false, none, [⟨0, 0, .w1c, 0⟩, ⟨1, 1, .w1c, 0⟩, ⟨2, 2, .w1c, 0⟩, ⟨3, 3, .w1c, 0⟩, ⟨4, 4, .w1c, 0⟩, ⟨5, 5, .w1c, 0⟩]⟩,  -- TILE_MX_FLAGS: nan_in, inf_in, inv, ovf, iovf, blk_nan
  ⟨0x908, false, none, [⟨31, 0, .rw, 0⟩]⟩,  -- TILE_MX_NAN_CNT: count
  ⟨0x90C, false, none, [⟨31, 0, .rw, 0⟩]⟩,  -- TILE_MX_OVF_CNT: count
  ⟨0x910, true, none, [⟨63, 0, .rw, 0⟩]⟩,  -- TILE_MX_CHUNKS: count
  ⟨0x918, true, none, [⟨63, 0, .rw, 0⟩]⟩,  -- TILE_MX_BUSY: cycles
  ⟨0x920, true, none, [⟨63, 0, .rw, 0⟩]⟩,  -- TILE_MX_OPWAIT: cycles
  ⟨0x928, true, none, [⟨63, 0, .rw, 0⟩]⟩,  -- TILE_MX_TOKWAIT: cycles
  ⟨0x930, false, none, [⟨7, 0, .lk, 0x40⟩]⟩,  -- TILE_MX_CFG: idle_release
  ⟨0xA00, false, none, [⟨0, 0, .ro, 0⟩, ⟨1, 1, .ro, 0⟩, ⟨10, 8, .ro, 0⟩, ⟨19, 16, .ro, 0⟩]⟩,  -- TILE_VU_STATUS: busy, tok_held, queued, tok_class
  ⟨0xA04, false, none, [⟨0, 0, .w1c, 0⟩, ⟨1, 1, .w1c, 0⟩, ⟨2, 2, .w1c, 0⟩, ⟨3, 3, .w1c, 0⟩, ⟨4, 4, .w1c, 0⟩, ⟨5, 5, .w1c, 0⟩, ⟨6, 6, .w1c, 0⟩]⟩,  -- TILE_VU_FLAGS: nan_in, inf_in, inv, dz, ovf, unf, iovf
  ⟨0xA08, false, none, [⟨31, 0, .rw, 0⟩]⟩,  -- TILE_VU_NAN_CNT: count
  ⟨0xA0C, false, none, [⟨31, 0, .rw, 0⟩]⟩,  -- TILE_VU_OVF_CNT: count
  ⟨0xA10, true, none, [⟨63, 0, .rw, 0⟩]⟩,  -- TILE_VU_ELEMS: count
  ⟨0xA18, true, none, [⟨63, 0, .rw, 0⟩]⟩,  -- TILE_VU_BUSY: cycles
  ⟨0xA20, true, none, [⟨63, 0, .rw, 0⟩]⟩,  -- TILE_VU_TOKWAIT: cycles
  ⟨0xA28, false, none, [⟨7, 0, .lk, 0x40⟩]⟩,  -- TILE_VU_CFG: idle_release
  ⟨0xA80, false, none, [⟨31, 0, .rw, 0⟩]⟩]  -- TILE_CVV_AMAX0: amax

/-- Registers of the TILE page, part 4. -/
def regsTile4 : List RegSpec := [
  ⟨0xA84, false, none, [⟨31, 0, .rw, 0⟩]⟩,  -- TILE_CVV_AMAX1: amax
  ⟨0xA88, false, none, [⟨31, 0, .rw, 0⟩]⟩,  -- TILE_CVV_AMAX2: amax
  ⟨0xA8C, false, none, [⟨31, 0, .rw, 0⟩]⟩,  -- TILE_CVV_AMAX3: amax
  ⟨0xA90, false, none, [⟨0, 0, .w1c, 0⟩, ⟨1, 1, .w1c, 0⟩, ⟨2, 2, .w1c, 0⟩, ⟨3, 3, .w1c, 0⟩, ⟨4, 4, .w1c, 0⟩, ⟨5, 5, .w1c, 0⟩, ⟨6, 6, .w1c, 0⟩, ⟨7, 7, .w1c, 0⟩]⟩,  -- TILE_CVV_FLAGS: nan_in, inf_in, ovf, unf, inx, inv, blk_nan, amax_sat
  ⟨0xA94, false, none, [⟨31, 0, .rw, 0⟩]⟩,  -- TILE_CVV_NAN_CNT: count
  ⟨0xA98, false, none, [⟨31, 0, .rw, 0⟩]⟩,  -- TILE_CVV_OVF_CNT: count
  ⟨0xB00, false, none, [⟨0, 0, .st, 0⟩]⟩,  -- TILE_XP_CFG: mode
  ⟨0xB04, false, none, [⟨0, 0, .ro, 0⟩, ⟨1, 1, .ro, 0⟩, ⟨2, 2, .ro, 0⟩, ⟨6, 4, .ro, 0⟩, ⟨11, 8, .ro, 0⟩, ⟨27, 16, .ro, 0⟩]⟩,  -- TILE_XP_STATUS: mode_act, send_busy, recv_busy, ingress, guard, stream
  ⟨0xB08, true, none, [⟨63, 0, .rw, 0⟩]⟩,  -- TILE_XP_SENT: count
  ⟨0xB10, true, none, [⟨63, 0, .rw, 0⟩]⟩,  -- TILE_XP_RCVD: count
  ⟨0xB18, false, none, [⟨31, 0, .rw, 0⟩]⟩,  -- TILE_XP_DISCARD: count
  ⟨0xB20, true, none, [⟨63, 0, .rw, 0⟩]⟩,  -- TILE_XP_HSWAIT: cycles
  ⟨0xB28, false, none, [⟨15, 0, .ro, 0⟩, ⟨16, 16, .w1c, 0⟩, ⟨17, 17, .ro, 0⟩, ⟨29, 18, .ro, 0⟩]⟩,  -- TILE_XP_ERR: code, valid, side, stream
  ⟨0xB2C, false, none, [⟨15, 0, .ro, 0⟩]⟩,  -- TILE_XP_ERR_LOAF: loaf
  ⟨0xC00, false, none, [⟨0, 0, .ro, 0⟩, ⟨1, 1, .ro, 0⟩, ⟨11, 8, .ro, 0⟩, ⟨15, 12, .ro, 0⟩]⟩,  -- TILE_MV_STATUS: ld_busy, st_busy, ld_queued, st_queued
  ⟨0xC04, false, none, [⟨5, 0, .lk, 0x20⟩]⟩,  -- TILE_MV_CFG: max_out
  ⟨0xC08, true, none, [⟨63, 0, .rw, 0⟩]⟩,  -- TILE_MV_LD_LOAVES: count
  ⟨0xC10, true, none, [⟨63, 0, .rw, 0⟩]⟩,  -- TILE_MV_ST_LOAVES: count
  ⟨0xC18, true, none, [⟨63, 0, .rw, 0⟩]⟩,  -- TILE_MV_LD_WAIT: cycles
  ⟨0xC20, true, none, [⟨63, 0, .rw, 0⟩]⟩,  -- TILE_MV_ST_WAIT: cycles
  ⟨0xC28, false, none, [⟨15, 0, .ro, 0⟩, ⟨16, 16, .w1c, 0⟩, ⟨17, 17, .ro, 0⟩]⟩,  -- TILE_MV_ERR: code, valid, path
  ⟨0xC30, true, none, [⟨47, 0, .ro, 0⟩]⟩,  -- TILE_MV_ERR_ADDR: addr
  ⟨0xC80, false, none, [⟨31, 0, .rw, 0⟩]⟩,  -- TILE_CVL_AMAX0: amax
  ⟨0xC84, false, none, [⟨31, 0, .rw, 0⟩]⟩]  -- TILE_CVL_AMAX1: amax

/-- Registers of the TILE page, part 5. -/
def regsTile5 : List RegSpec := [
  ⟨0xC88, false, none, [⟨31, 0, .rw, 0⟩]⟩,  -- TILE_CVL_AMAX2: amax
  ⟨0xC8C, false, none, [⟨31, 0, .rw, 0⟩]⟩,  -- TILE_CVL_AMAX3: amax
  ⟨0xC90, false, none, [⟨0, 0, .w1c, 0⟩, ⟨1, 1, .w1c, 0⟩, ⟨2, 2, .w1c, 0⟩, ⟨3, 3, .w1c, 0⟩, ⟨4, 4, .w1c, 0⟩, ⟨5, 5, .w1c, 0⟩, ⟨6, 6, .w1c, 0⟩, ⟨7, 7, .w1c, 0⟩]⟩,  -- TILE_CVL_FLAGS: nan_in, inf_in, ovf, unf, inx, inv, blk_nan, amax_sat
  ⟨0xC94, false, none, [⟨31, 0, .rw, 0⟩]⟩,  -- TILE_CVL_NAN_CNT: count
  ⟨0xC98, false, none, [⟨31, 0, .rw, 0⟩]⟩,  -- TILE_CVL_OVF_CNT: count
  ⟨0xCC0, false, none, [⟨31, 0, .rw, 0⟩]⟩,  -- TILE_CVS_AMAX0: amax
  ⟨0xCC4, false, none, [⟨31, 0, .rw, 0⟩]⟩,  -- TILE_CVS_AMAX1: amax
  ⟨0xCC8, false, none, [⟨31, 0, .rw, 0⟩]⟩,  -- TILE_CVS_AMAX2: amax
  ⟨0xCCC, false, none, [⟨31, 0, .rw, 0⟩]⟩,  -- TILE_CVS_AMAX3: amax
  ⟨0xCD0, false, none, [⟨0, 0, .w1c, 0⟩, ⟨1, 1, .w1c, 0⟩, ⟨2, 2, .w1c, 0⟩, ⟨3, 3, .w1c, 0⟩, ⟨4, 4, .w1c, 0⟩, ⟨5, 5, .w1c, 0⟩, ⟨6, 6, .w1c, 0⟩, ⟨7, 7, .w1c, 0⟩]⟩,  -- TILE_CVS_FLAGS: nan_in, inf_in, ovf, unf, inx, inv, blk_nan, amax_sat
  ⟨0xCD4, false, none, [⟨31, 0, .rw, 0⟩]⟩,  -- TILE_CVS_NAN_CNT: count
  ⟨0xCD8, false, none, [⟨31, 0, .rw, 0⟩]⟩,  -- TILE_CVS_OVF_CNT: count
  ⟨0xE00, false, none, [⟨0, 0, .rw, 0⟩, ⟨1, 1, .wo, 0⟩, ⟨2, 2, .rw, 0⟩]⟩,  -- TILE_DBG_CTRL: hold, step, trace_en
  ⟨0xE04, false, none, [⟨0, 0, .ro, 0⟩, ⟨1, 1, .w1c, 0⟩, ⟨2, 2, .ro, 0⟩, ⟨31, 8, .ro, 0⟩]⟩,  -- TILE_DBG_STATUS: held, brk_hit, brk_last, index
  ⟨0xE08, false, none, [⟨0, 0, .rw, 0⟩, ⟨1, 1, .rw, 0⟩, ⟨2, 2, .rw, 0⟩, ⟨31, 8, .rw, 0⟩]⟩,  -- TILE_BRK0: en, kind, action, value
  ⟨0xE0C, false, none, [⟨0, 0, .rw, 0⟩, ⟨1, 1, .rw, 0⟩, ⟨2, 2, .rw, 0⟩, ⟨31, 8, .rw, 0⟩]⟩,  -- TILE_BRK1: en, kind, action, value
  ⟨0xE10, false, none, [⟨31, 0, .rw, 0⟩]⟩,  -- TILE_DBG_HITS: count
  ⟨0xE18, true, none, [⟨63, 0, .rw, 0⟩]⟩,  -- TILE_DBG_LATE: count
  ⟨0xE20, true, none, [⟨63, 0, .rw, 0⟩]⟩,  -- TILE_DBG_STEPS: count
  ⟨0xE40, false, none, [⟨1, 0, .rw, 0⟩]⟩,  -- TILE_FP_TRAP_CTRL: trap_sel
  ⟨0xE44, false, none, [⟨0, 0, .w1c, 0⟩, ⟨31, 16, .ro, 0⟩]⟩,  -- TILE_FP_TRAP_STATUS: rec_valid, later_cnt
  ⟨0xE50, false, none, [⟨31, 0, .ro, 0⟩]⟩,  -- TILE_FP_TRAP_REC0: rec
  ⟨0xE54, false, none, [⟨31, 0, .ro, 0⟩]⟩,  -- TILE_FP_TRAP_REC1: rec
  ⟨0xE58, false, none, [⟨31, 0, .ro, 0⟩]⟩]  -- TILE_FP_TRAP_REC2: rec

/-- Registers of the TILE page, part 6. -/
def regsTile6 : List RegSpec := [
  ⟨0xE5C, false, none, [⟨31, 0, .ro, 0⟩]⟩,  -- TILE_FP_TRAP_REC3: rec
  ⟨0xE60, false, none, [⟨31, 0, .ro, 0⟩]⟩,  -- TILE_FP_TRAP_REC4: rec
  ⟨0xE64, false, none, [⟨31, 0, .ro, 0⟩]⟩,  -- TILE_FP_TRAP_REC5: rec
  ⟨0xE68, false, none, [⟨31, 0, .ro, 0⟩]⟩,  -- TILE_FP_TRAP_REC6: rec
  ⟨0xE6C, false, none, [⟨31, 0, .ro, 0⟩]⟩,  -- TILE_FP_TRAP_REC7: rec
  ⟨0xE70, false, none, [⟨31, 0, .ro, 0⟩]⟩,  -- TILE_FP_TRAP_REC8: rec
  ⟨0xE74, false, none, [⟨31, 0, .ro, 0⟩]⟩,  -- TILE_FP_TRAP_REC9: rec
  ⟨0xE78, false, none, [⟨31, 0, .ro, 0⟩]⟩,  -- TILE_FP_TRAP_REC10: rec
  ⟨0xE7C, false, none, [⟨31, 0, .ro, 0⟩]⟩]  -- TILE_FP_TRAP_REC11: rec

/-- Registers of the TILE page. -/
def regsTile : List RegSpec := regsTile0 ++ regsTile1 ++ regsTile2 ++ regsTile3 ++ regsTile4 ++ regsTile5 ++ regsTile6

/-- The registers of a block's page: the common header (R437) and the block's own. -/
def blockRegs : Block → List RegSpec
  | .dev => regsHdr ++ regsDev
  | .pwr => regsHdr ++ regsPwr
  | .weir => regsHdr ++ regsWeir
  | .gauge => regsHdr ++ regsGauge
  | .pld => regsHdr ++ regsPld
  | .arm => regsHdr ++ regsArm
  | .intake => regsHdr ++ regsIntake
  | .mbox => regsHdr ++ regsMbox
  | .die => regsHdr ++ regsDie
  | .d2d => regsHdr ++ regsD2d
  | .knd => regsHdr ++ regsKnd
  | .lnk => regsHdr ++ regsLnk
  | .hbmc => regsHdr ++ regsHbmc
  | .sc => regsHdr ++ regsSc
  | .sq => regsHdr ++ regsSq
  | .trace => regsHdr ++ regsTrace
  | .tile => regsHdr ++ regsTile

/-- The register at an offset of a block's page (R431: an offset no table assigns has none). -/
def regAt (b : Block) (off : Nat) : Option RegSpec := (blockRegs b).find? (fun r => r.off == off)

/-- A register's value after cold reset (R9). -/
def RegSpecReset (r : RegSpec) : Word := r.fields.foldl (fun w f => setFld w f.hi f.lo f.rst) 0

end Sys2Proof.Machine
end

