-- ==== Sys2Proof/Machine/State.lean ====
section
/-!
DEFINITION. The state of the LV810 as plain data, the reasons a command can stop, and the state right after cold reset.
-/
namespace Sys2Proof.Machine

/-- Why a command stops with a fault. -/
inductive Fault where
  /-- The command names a tile, die, slice, port, polder, queue, stack or page that the device does not have, so no block receives it
  (Table 1-1, Table 1-7, Table 15-3). Raised by every meaning that takes an instance number. Safe: the hardware has no such unit. -/
  | noSuchUnit
deriving DecidableEq, Repr

/-- Why a command is refused. -/
inductive Refusal where
  /-- The command has no meaning in the model yet. Raised only by exec's arms. Safe. -/
  | notModelled (mnemonic : String)
deriving DecidableEq, Repr

/-- The LV810. Unlisted entries of every map are at their reset value. -/
structure State where
  /-- Register values, current or staged, by key (R9, R10, R363); an unlisted register is at its reset value. -/
  regs : SMap Word := []
  /-- Active values of registers with ST fields (R363). -/
  act : SMap Word := []
  /-- Keys of ST registers written since the last activation their page took (R363). -/
  staged : List Nat := []
  /-- Low halves held for 64-bit registers, and high halves captured by reads (R434). -/
  lowHeld : SMap Nat := []
  hiCap : SMap Nat := []
  /-- The data of the last BAR read (R434). -/
  readData : Nat := 0
  /-- The model's own counter of free values drawn. -/
  freeCtr : Nat := 0
  beat : Nat := 0
  frame : Nat := 0
  frameAt : Nat := 0
  frameLoad : Option Nat := none
  armB : Option Nat := none
  armF : Option Nat := none
  rejoin : Option (Nat × Nat × Nat) := none
  /-- Polder holds and releases that wait for their beat: polder, hold, beat (R465). -/
  holds : List (Nat × Bool × Nat) := []
  notTaken : Nat := 0
  recSeq : Nat := 0
  /-- Scratchpads: physical tile × 2^20 + address; unlisted bytes are 0 (R112). -/
  scr : List Host.Cell := []
  /-- HBM as its home slices present it, by DA; unlisted bytes are 0 (R258). -/
  hbm : List Host.Cell := []
  /-- Scratchpad bytes that hold an upset, with its kind (R94). -/
  upsets : List (Nat × Nat) := []
  tiles : SMap Tile := []
  pols : SMap Polder := []
  intakes : SMap Intake := []
  fns : SMap PcieFn := []
  numVfs : Nat := 0
  hostOut : List HostWrite := []
  /-- The Steward's answers, newest first. -/
  mgmtOut : List MgmtAnswer := []
  trace : SMap TraceRing := []
  slices : SMap Slice := []
  bridge : Slice := {}
  stackSt : SMap Stack := []
  /-- 2 MiB blocks whose fresh bit is clear (R258), and those being zeroed for a waiting store or atomic. -/
  clean : List Nat := []
  zeroing : List Nat := []
  waitSt : List WaitStore := []
  poison : List Nat := []
  inval : List (Nat × Nat) := []
  /-- The bytes that the last load served at a slice returned. -/
  loadData : List Byte := []
  sqs : SMap SqQueue := []
  pools : SMap SqPool := []
  d2d : SMap D2DLink := []
  /-- Route in force of each pair of dies (4 s + d): 0 the first of Table 7-8, 1 the other, 2 none. -/
  routes : SMap Nat := []
  /-- Dies that have recomputed their routes since the last change of a link, and pairs (4 s + d) without a route (R236, R237). -/
  notices : List Nat := []
  unreach : List Nat := []
  flight : List XLoaf := []
  ports : SMap Port := []
  /-- DATA flits that ports have sent, with the port; the newest stands first. -/
  sentFlits : List (Nat × Flit) := []
  /-- Flow tables by die, then flow (R314), and the next fseq of each flow sent (R317). -/
  flows : SMap (SMap FlowEntry) := []
  sendSeq : SMap Nat := []
  linkRes : SMap (List LinkRes) := []
  /-- Route table copies by die × 16384 + node (R313), and entries now untrusted by table × 65536 + index (R410). -/
  rt : SMap Nat := []
  untrusted : List Nat := []
  /-- Fabric tenant IDs that a copy of an untrusted polder entry holds, by polder (R410). -/
  badFtids : SMap (List Nat) := []
  kneaders : SMap Kneader := []
  power : Power := {}
  module : Module := {}
  /-- Polders whose LOAD waits for the loaders of its dies, in order of acceptance (R200, R212). -/
  loadWait : List Nat := []
  /-- Polders that a reset in progress covers (R317). -/
  inReset : List Nat := []
  /-- The target of the reset that DEV_RESET_STATUS shows busy (R413). -/
  resetTarget : Nat := 0
  pending : List Instr := []
deriving DecidableEq, Repr

/-- The state right after cold reset, before power-good (R9, R27, R30, R113, R258, R353, R374, R476): every register at its reset value,
memory empty, every resource unbound, every tile IDLE, every input pin as it reads while open (Table 17-7). -/
def State.reset : State := {}

end Sys2Proof.Machine
end

