-- ==== Sys2Proof/Machine/Ops.lean ====
section
/-!
DEFINITION. The named operations over registers, identifiers, bindings, error codes, records and trace that every meaning uses.
-/
namespace Sys2Proof.Machine

/-- What a meaning answers. -/
abbrev Out := Host.Outcome State Fault Refusal

/-- A free value of the spec's open values, and the state with the counter advanced (log entry 2). -/
def drawFree (s : State) : Nat × State := (Config.freeValue s.freeCtr, { s with freeCtr := s.freeCtr + 1 })

/-! Pages by index: PF BAR0 offset / 0x1000 (Tables 15-3 and 15-4). -/

/-- The DEV page. -/
def pgDev : Nat := 0
/-- The PWR page. -/
def pgPwr : Nat := 1
/-- The WEIR page. -/
def pgWeir : Nat := 2
/-- The GAUGE page. -/
def pgGauge : Nat := 3
/-- The PLD tables page. -/
def pgPld : Nat := 4
/-- The PLD mode-arm page. -/
def pgArm : Nat := 5
/-- INTAKE page of polder p. -/
def pgIntake (p : Nat) : Nat := 0x100 + p
/-- The management mailbox. -/
def pgMbox : Nat := 0x140
/-- DIE page of die d. -/
def pgDie (d : Nat) : Nat := 0x1000 * (1 + d)
/-- D2D page of instance 2d + i. -/
def pgD2d (i : Nat) : Nat := pgDie (i / 2) + 1 + i % 2
/-- KND page of die d. -/
def pgKnd (d : Nat) : Nat := pgDie d + 3
/-- LNK page of port p. -/
def pgLnk (p : Nat) : Nat := pgDie (p / 8) + 4 + p % 8
/-- HBMC page of stack k. -/
def pgHbmc (k : Nat) : Nat := pgDie (k / 3) + 0xC + k % 3
/-- SC page of slice instance sl = 16d + h. -/
def pgSc (sl : Nat) : Nat := pgDie (sl / 16) + 0xF + sl % 16
/-- SQ page k = 4d + i. -/
def pgSq (k : Nat) : Nat := pgDie (k / 4) + 0x1F + k % 4
/-- TRACE page of die d. -/
def pgTrace (d : Nat) : Nat := pgDie d + 0x23
/-- TILE page of tile instance t = 1216 d + 38 y + x. -/
def pgTile (t : Nat) : Nat := pgDie (t / 1216) + 0x400 + t % 1216

/-- The block and instance whose page has an index, if any (Tables 15-3, 15-4). -/
def pageBlock (pg : Nat) : Option (Block × Nat) :=
  if pg = 0 then some (.dev, 0) else if pg = 1 then some (.pwr, 0) else if pg = 2 then some (.weir, 0)
  else if pg = 3 then some (.gauge, 0) else if pg = 4 then some (.pld, 0) else if pg = 5 then some (.arm, 1)
  else if 0x100 ≤ pg ∧ pg < 0x140 then some (.intake, pg - 0x100)
  else if pg = 0x140 then some (.mbox, 64)
  else if pg < 0x1000 then none
  else
    let d := pg / 0x1000 - 1
    let o := pg % 0x1000
    if 4 ≤ d then none
    else if o = 0 then some (.die, d) else if o < 3 then some (.d2d, 2 * d + (o - 1)) else if o = 3 then some (.knd, d)
    else if o < 0xC then some (.lnk, 8 * d + (o - 4)) else if o < 0xF then some (.hbmc, 3 * d + (o - 0xC))
    else if o < 0x1F then some (.sc, 16 * d + (o - 0xF)) else if o < 0x23 then some (.sq, 4 * d + (o - 0x1F))
    else if o = 0x23 then some (.trace, d)
    else if 0x400 ≤ o ∧ o < 0x400 + 1216 then some (.tile, 1216 * d + (o - 0x400))
    else none

/-- Block type IDs (Table 15-13). -/
def Block.typeId : Block → Nat
  | .dev => 1 | .pwr => 2 | .weir => 3 | .gauge => 4 | .pld => 5 | .arm => 5 | .intake => 6 | .mbox => 6 | .die => 0x10 | .d2d => 0x11
  | .knd => 0x12 | .lnk => 0x13 | .hbmc => 0x14 | .sc => 0x15 | .sq => 0x16 | .trace => 0x17 | .tile => 0x20

/-- The key of a register's entry in the register store. -/
def regKey (pg off sel : Nat) : Nat := (pg * 4096 + off) * 32768 + sel

/-- The page a key names. -/
def keyPage (k : Nat) : Nat := k / (32768 * 4096)

/-- A register's reset value (R9). -/
def regReset (pg off : Nat) : Word :=
  match pageBlock pg with
  | none => 0
  | some (b, _) => ((regAt b off).map RegSpecReset).getD 0

/-- A register's value (its staged value where it has ST fields). -/
def State.reg (s : State) (pg off sel : Nat) : Word :=
  (mapFind? s.regs (regKey pg off sel)).getD (regReset pg off)

/-- A register's active value (R363). -/
def State.regAct (s : State) (pg off sel : Nat) : Word :=
  (mapFind? s.act (regKey pg off sel)).getD (regReset pg off)

/-- Sets a register's value. -/
def State.setReg (s : State) (pg off sel : Nat) (v : Word) : State :=
  { s with regs := mapSet s.regs (regKey pg off sel) v }

/-- Sets a register's active value. -/
def State.setAct (s : State) (pg off sel : Nat) (v : Word) : State :=
  { s with act := mapSet s.act (regKey pg off sel) v }

/-- Field [hi:lo] of a register. -/
def State.getF (s : State) (pg off sel hi lo : Nat) : Nat := fld (s.reg pg off sel) hi lo

/-- Field [hi:lo] of a register's active value. -/
def State.getA (s : State) (pg off sel hi lo : Nat) : Nat := fld (s.regAct pg off sel) hi lo

/-- Sets field [hi:lo] of a register. -/
def State.setF (s : State) (pg off sel hi lo x : Nat) : State :=
  s.setReg pg off sel (setFld (s.reg pg off sel) hi lo x)

/-- Adds to a 64-bit counter, modulo 2^64. -/
def State.bump (s : State) (pg off sel n : Nat) : State :=
  s.setReg pg off sel (s.reg pg off sel + BitVec.ofNat 64 n)

/-- Adds to a counter field [hi:lo] that saturates. -/
def State.sat (s : State) (pg off sel hi lo n : Nat) : State :=
  s.setF pg off sel hi lo (min (s.getF pg off sel hi lo + n) (2 ^ (hi + 1 - lo) - 1))

/-- Sets single-bit flags of a W1C register (an OR of `bits`). -/
def State.orReg (s : State) (pg off sel bits : Nat) : State :=
  s.setReg pg off sel (s.reg pg off sel ||| BitVec.ofNat 64 bits)

/-- Counts `n` of event `ev` in the page's common counters that select it, unless they are frozen (R437, R467). -/
def State.countEv (s : State) (pg ev n : Nat) : State :=
  if s.getF pg 0x10 0 0 0 = 1 ∨ ev = 0 then s else
    (List.range 6).foldl (fun st i =>
      let e := if i < 4 then st.getF pg 0x60 0 (8 * i + 7) (8 * i) else st.getF pg 0x64 0 (8 * (i - 4) + 7) (8 * (i - 4))
      if e = ev then st.bump pg (0x30 + 8 * i) 0 n else st) s

/-! Columns (R17 to R21). -/

/-- Bit mask of the retired physical columns of a die. -/
def State.retired (s : State) (d : Nat) : Nat := s.getF (pgDie d) 0x400 0 37 0

/-- The physical columns of a die that are not retired, in ascending order (R18). -/
def State.liveCols (s : State) (d : Nat) : List Nat := (List.range 38).filter (fun x => !(s.retired d).testBit x)

/-- The physical column of logical column `x` of die `d`, if the die presents it (R18, R19). -/
def State.physCol (s : State) (d x : Nat) : Option Nat := if x < 36 then (s.liveCols d)[x]? else none

/-- The logical column of physical column `x` (36 where it serves none). -/
def State.logCol (s : State) (d x : Nat) : Nat := if (s.liveCols d).contains x then min 36 ((s.liveCols d).idxOf x) else 36

/-! Unit parts (R363, R406). -/

/-- The part of the unit behind a page: 0 ACTIVE, 1 ASLEEP, 2 FENCED, 3 REPAIR; a tile of a physical column that no logical column uses is ASLEEP
(R405). -/
def State.part (s : State) (pg : Nat) : Nat :=
  let w := s.getF pg 0x24 0 1 0
  match pageBlock pg with
  | some (.tile, t) => if w = 0 ∧ s.logCol (t / 1216) (t % 1216 % 38) = 36 then 1 else w
  | _ => w

/-- Whether the unit is stale (R367). -/
def State.stale (s : State) (pg : Nat) : Bool := s.getF pg 0x24 0 2 2 == 1

/-- Whether the unit serves requests: ACTIVE and not stale (R367, R406). -/
def State.serves (s : State) (pg : Nat) : Bool := s.part pg == 0 && !s.stale pg

/-! Sub-states, each at its reset value where unlisted. -/

/-- Tile `t`. -/
def State.tile (s : State) (t : Nat) : Tile := mapGet s.tiles t {}
/-- Sets tile `t`. -/
def State.setTile (s : State) (t : Nat) (x : Tile) : State := { s with tiles := mapSet s.tiles t x }
/-- Polder `p`. -/
def State.pol (s : State) (p : Nat) : Polder := mapGet s.pols p {}
/-- Sets polder `p`. -/
def State.setPol (s : State) (p : Nat) (x : Polder) : State := { s with pols := mapSet s.pols p x }
/-- INTAKE `p`. -/
def State.intake (s : State) (p : Nat) : Intake := mapGet s.intakes p {}
/-- Sets INTAKE `p`. -/
def State.setIntake (s : State) (p : Nat) (x : Intake) : State := { s with intakes := mapSet s.intakes p x }
/-- PCIe function `f`. -/
def State.fn (s : State) (f : Nat) : PcieFn := mapGet s.fns f {}
/-- Sets PCIe function `f`. -/
def State.setFn (s : State) (f : Nat) (x : PcieFn) : State := { s with fns := mapSet s.fns f x }
/-- Slice instance `sl`. -/
def State.slice (s : State) (sl : Nat) : Slice := mapGet s.slices sl {}
/-- Sets slice `sl`. -/
def State.setSlice (s : State) (sl : Nat) (x : Slice) : State := { s with slices := mapSet s.slices sl x }
/-- Stack `k`. -/
def State.stack (s : State) (k : Nat) : Stack := mapGet s.stackSt k {}
/-- Sets stack `k`. -/
def State.setStack (s : State) (k : Nat) (x : Stack) : State := { s with stackSt := mapSet s.stackSt k x }
/-- Spill queue `q` = 64 die + queue. -/
def State.sq (s : State) (q : Nat) : SqQueue := mapGet s.sqs q {}
/-- Sets spill queue `q`. -/
def State.setSq (s : State) (q : Nat) (x : SqQueue) : State := { s with sqs := mapSet s.sqs q x }
/-- Kneader of die `d`. -/
def State.knd (s : State) (d : Nat) : Kneader := mapGet s.kneaders d {}
/-- Sets the kneader of die `d`. -/
def State.setKnd (s : State) (d : Nat) (x : Kneader) : State := { s with kneaders := mapSet s.kneaders d x }
/-- Port `p`. -/
def State.port (s : State) (p : Nat) : Port := mapGet s.ports p {}
/-- Sets port `p`. -/
def State.setPort (s : State) (p : Nat) (x : Port) : State := { s with ports := mapSet s.ports p x }
/-- D2D link instance `i`. -/
def State.d2dl (s : State) (i : Nat) : D2DLink := mapGet s.d2d i {}
/-- Sets D2D link instance `i`. -/
def State.setD2d (s : State) (i : Nat) (x : D2DLink) : State := { s with d2d := mapSet s.d2d i x }
/-- Trace ring of die `d`. -/
def State.ring (s : State) (d : Nat) : TraceRing := mapGet s.trace d {}
/-- Sets the trace ring of die `d`. -/
def State.setRing (s : State) (d : Nat) (x : TraceRing) : State := { s with trace := mapSet s.trace d x }

/-! Units that exist (Tables 1-1, 1-7, 15-3). -/

/-- A meaning for unit number `n` of `count`: a fault where the device has no such unit. -/
def onUnit (n count : Nat) (f : Unit → State) : Out := if n < count then .next (f ()) else .fault .noSuchUnit

/-- A meaning for tile `t`: 4 dies of 32 rows and 38 columns. -/
def onTile (t : Nat) (f : Unit → State) : Out := onUnit t 4864 f
/-- A meaning for die `d`. -/
def onDie (d : Nat) (f : Unit → State) : Out := onUnit d 4 f
/-- A meaning for polder, INTAKE or function `p`. -/
def onPol (p : Nat) (f : Unit → State) : Out := onUnit p 64 f
/-- A meaning for slice instance `sl`. -/
def onSlice (sl : Nat) (f : Unit → State) : Out := onUnit sl 64 f
/-- A meaning for stack `k`. -/
def onStack (k : Nat) (f : Unit → State) : Out := onUnit k 12 f
/-- A meaning for spill queue `q`. -/
def onQueue (q : Nat) (f : Unit → State) : Out := onUnit q 256 f
/-- A meaning for port `p`. -/
def onPort (p : Nat) (f : Unit → State) : Out := onUnit p 32 f
/-- A meaning for D2D instance `i`. -/
def onLink (i : Nat) (f : Unit → State) : Out := onUnit i 8 f
/-- A meaning for the unit of page `pg`. -/
def onPage (pg : Nat) (f : Unit → State) : Out := if (pageBlock pg).isSome then .next (f ()) else .fault .noSuchUnit

/-- Sensors of a reason (R375, Table 13-4). -/
def sensorCount (r : Nat) : Nat := match r with | 2 => 4 | 3 => 12 | 4 => 7 | 9 => 4 | _ => 0

/-- A meaning for a sensor. -/
def onSensor (r u : Nat) (f : Unit → State) : Out := onUnit u (sensorCount r) f

/-- The physical tile of L(d, y, x). -/
def State.physTile (s : State) (d y x : Nat) : Option Nat := (s.physCol d x).map (fun c => d * 1216 + y * 38 + c)

/-- Die, row and physical column of a tile instance. -/
def tDie (t : Nat) : Nat := t / 1216
/-- Row of a tile instance. -/
def tRow (t : Nat) : Nat := t % 1216 / 38
/-- Physical column of a tile instance. -/
def tCol (t : Nat) : Nat := t % 1216 % 38

/-- The tile source ID: die and logical index (R21, R34). -/
def State.srcId (s : State) (t : Nat) : Nat := tDie t * 2048 + tRow t * 36 + s.logCol (tDie t) (tCol t)

/-- The device column of a tile (R21); 144 where its physical column serves no logical column. -/
def State.devCol (s : State) (t : Nat) : Nat :=
  let x := s.logCol (tDie t) (tCol t)
  if x < 36 then tDie t * 36 + x else 144

/-! Bindings (R356, R357). Tables: 0 column, 1 field, 2 port, 3 kneader slot, 4 queue. -/

/-- The active owner of entry `i` of binding table `tb`, if bound and trusted (R356, R410). -/
def State.owner (s : State) (tb i : Nat) : Option Nat :=
  let w := s.regAct pgPld 0x104 (tb * 4096 + i)
  if fld w 6 6 = 1 ∧ ¬ (tb * 65536 + i) ∈ s.untrusted then some (fld w 5 0) else none

/-- The entries of table `tb` bound to polder `p`, in ascending order (R357). -/
def State.bound (s : State) (tb p : Nat) : List Nat :=
  let lo := regKey pgPld 0x104 (tb * 4096)
  (s.act.filter (fun e => lo ≤ e.1 && e.1 < lo + 4096 && fld e.2 6 6 == 1 && fld e.2 5 0 == p)).map (fun e => e.1 - lo)

/-- The resource of rank `r` of polder `p` (R357). -/
def State.ofRank (s : State) (tb p r : Nat) : Option Nat := (s.bound tb p)[r]?

/-- The rank of a bound resource in its polder. -/
def State.rankOf (s : State) (tb p i : Nat) : Nat := (s.bound tb p).idxOf i

/-- The polder that owns a tile, if its column is bound. -/
def State.tileOwner (s : State) (t : Nat) : Option Nat :=
  let c := s.devCol t
  if c < 144 then s.owner 0 c else none

/-- The polder-relative index of a tile (R83): column rank × 32 + row. -/
def State.ptileOf (s : State) (p t : Nat) : Nat := s.rankOf 0 p (s.devCol t) * 32 + tRow t

/-- The physical tile of polder `p`'s ptile. -/
def State.tileOf (s : State) (p pt : Nat) : Option Nat :=
  match s.ofRank 0 p (pt / 32) with
  | none => none
  | some c => s.physTile (c / 36) (pt % 32) (c % 36)

/-- Every tile of a polder, by rank and row. -/
def State.tilesOf (s : State) (p : Nat) : List Nat :=
  (s.bound 0 p).foldr (fun c acc => (List.range 32).filterMap (fun y => s.physTile (c / 36) y (c % 36)) ++ acc) []

/-- A context ID (R34). -/
def ctxId (p task : Nat) : Nat := p * 1024 + task % 1024

/-! Error codes (R438). -/

/-- Records a code in a page's PG_ERR and PG_ERR_FIRST. -/
def State.err (s : State) (pg code : Nat) : State :=
  let e := s.reg pg 0x18 0
  let s1 := if fld e 0 0 = 1 then s.setReg pg 0x18 0 (setFld (setFld e 1 1 1) 31 16 code)
    else (s.setReg pg 0x18 0 (setFld (setFld e 0 0 1) 31 16 code)).setReg pg 0x1C 0
      (BitVec.ofNat 64 (code % 65536 + s.beat % 65536 * 65536))
  s1.countEv pg 3 1

/-! Trace (R459, R469, R470). -/

/-- Puts a record into a die's trace ring. -/
def State.ringPut (s : State) (d : Nat) (r : List Byte) : State :=
  let g := s.ring d
  if g.fill < 524288 then
    (s.setRing d { g with recs := mapSet g.recs g.head r, head := (g.head + 1) % 524288, fill := g.fill + 1, seq := g.seq + 1 }).countEv (pgTrace d) 0x10 1
  else if s.getF (pgTrace d) 0x100 0 1 1 = 1 then
    (((s.setRing d { g with dropPend := g.dropPend + 1 }).setF (pgTrace d) 0x110 0 20 20 1).bump (pgTrace d) 0x120 0 1).countEv (pgTrace d) 0x11 1
  else
    ((s.setRing d { g with recs := mapSet g.recs g.head r, head := (g.head + 1) % 524288, tail := (g.tail + 1) % 524288, seq := g.seq + 1 }).orReg (pgTrace d) 0x110 0 0x200000).countEv (pgTrace d) 0x10 1

/-- The bytes of a trace record; the cycle within the beat is a free value (log entry 2). -/
def traceBytes (kind d src ctx seq beat cyc : Nat) (payload : List Byte) : List Byte :=
  natLE 1 kind ++ natLE 1 d ++ natLE 2 src ++ natLE 2 ctx ++ natLE 2 seq ++ natLE 8 (beat % 2 ^ 56 + cyc % 64 * 2 ^ 56) ++ padTo 16 payload

/-- Writes a trace record if capture takes it (R470). -/
def State.traceRec (s : State) (d kind src ctx : Nat) (payload : List Byte) : State :=
  let pg := pgTrace d
  if s.getF pg 0x100 0 0 0 = 0 ∨ s.getF pg 0x100 0 (16 + kind) (16 + kind) = 0 ∨ (ctx ≠ 0xFFFF ∧ ¬ (s.reg pg 0x108 0).toNat.testBit (ctx / 1024)) then s
  else
    let (cyc, s0) := drawFree s
    let g := s0.ring d
    let s1 := if 0 < g.dropPend ∧ g.fill < 524288 ∧ s0.getF pg 0x100 0 26 26 = 1 then
        (s0.ringPut d (traceBytes 10 d (pgTrace d) 0xFFFF g.seq s0.beat cyc (natLE 4 g.dropPend))).setRing d
          { (s0.ringPut d (traceBytes 10 d (pgTrace d) 0xFFFF g.seq s0.beat cyc (natLE 4 g.dropPend))).ring d with dropPend := 0 }
      else s0
    s1.ringPut d (traceBytes kind d src ctx (s1.ring d).seq s1.beat cyc payload)

/-! Records to the host (R398 to R400, R446). -/

/-- The device sends a posted write through a function. -/
def State.hostWrite (s : State) (f a : Nat) (bs : List Byte) : State := { s with hostOut := { fn := f, addr := a, bytes := bs } :: s.hostOut }

/-- Whether function `f` can issue memory accesses (R430). -/
def State.fnLive (s : State) (f : Nat) : Bool := !(s.fn f).d3hot && (s.fn f).bme

/-- log2 of the record ring's size; other values act as 6 (R439). -/
def State.recLog (s : State) (p : Nat) : Nat := let n := s.getF (pgIntake p) 0x130 0 3 0; if 6 ≤ n ∧ n ≤ 14 then n else 6

/-- log2 of the request ring's size; other values act as 4 (R439). -/
def State.rqLog (s : State) (p : Nat) : Nat := let n := s.getF (pgIntake p) 0x110 0 3 0; if 4 ≤ n ∧ n ≤ 12 then n else 4

/-- INTAKE state (R439): 0 DISABLED, 1 IDLE, 2 BUSY, 3 WAIT, 4 HALTED, 5 DISABLING. -/
def State.inState (s : State) (p : Nat) : Nat := s.getF (pgIntake p) 0x104 0 2 0

/-- Whether INTAKE `p` can write a record now (R446). -/
def State.canPost (s : State) (p : Nat) : Bool :=
  let pg := pgIntake p
  s.getF pg 0x100 0 0 0 == 1 && s.inState p != 4 && s.fnLive p &&
    (s.getF pg 0x138 0 31 0 + 2 ^ 32 - s.getF pg 0x134 0 31 0) % 2 ^ 32 != 2 ^ s.recLog p

/-- Advances a polder's heartbeat (R402). -/
def State.beatHeart (s : State) (p : Nat) : State :=
  s.setPol p { s.pol p with heartbeat := ((s.pol p).heartbeat + 1) % 2 ^ 64 }

/-- Writes a record into the next slot of INTAKE `p`'s ring: body, then trailer with the phase (R446). -/
def State.slotWrite (s : State) (p : Nat) (r : Record) : State :=
  let pg := pgIntake p
  let tail := s.getF pg 0x138 0 31 0
  let n := 2 ^ s.recLog p
  let a := (s.reg pg 0x128 0).toNat + tail % n * 128
  let phase := (tail / n + 1) % 2
  ((((s.hostWrite p a (padTo 120 r.body)).hostWrite p (a + 120)
    (natLE 2 r.recType ++ natLE 2 r.length ++ zeros 3 ++ natLE 1 phase)).setF pg 0x138 0 31 0 ((tail + 1) % 2 ^ 32))).beatHeart p

/-- Posts a record to INTAKE `p`'s ring, its backlog, or loses it (R446). -/
def State.postTo (s : State) (p : Nat) (r : Record) : State :=
  let k := s.intake p
  if k.backlog = [] ∧ s.canPost p then s.slotWrite p r
  else if k.backlog.length < 64 then
    (s.setIntake p { k with backlog := k.backlog ++ [r] }).setF (pgIntake p) 0x13C 0 6 0 (k.backlog.length + 1)
  else ((s.setIntake p { k with lostPend := k.lostPend + 1 }).sat (pgIntake p) 0x13C 0 31 16 1).orReg (pgIntake p) 0x13C 0 0x80

/-- Posts a record about polder `p` (none: PF only) to the PF's ring and to `p`'s (R399, R446). -/
def State.post (s : State) (p : Option Nat) (r : Record) : State :=
  let s1 := { s with recSeq := s.recSeq + 1 }
  let s2 := s1.postTo 0 r
  match p with
  | some n => if n = 0 then s2 else s2.postTo n r
  | none => s2

/-- What a fault record says (Table 14-2). -/
structure FaultInfo where
  code : Nat
  ctx : Nat := 0xFFFF
  tile : Nat := 0xFFFF
  page : Nat
  cls : Nat := 1
  action : Nat := 0
  detail : List Byte := []
  pol : Option Nat := none
deriving DecidableEq, Repr

/-- The 80 bytes of a fault record (Table 14-2). -/
def State.faultBytes (s : State) (f : FaultInfo) : List Byte :=
  let bi := (pageBlock f.page).getD (.dev, 0)
  natLE 2 1 ++ natLE 2 f.code ++ natLE 2 f.ctx ++ natLE 2 f.tile ++ natLE 8 (s.beat % 2 ^ 56) ++ natLE 2 bi.1.typeId ++ natLE 2 bi.2
    ++ natLE 1 f.cls ++ natLE 1 f.action ++ natLE 2 s.recSeq ++ natLE 8 (s.frame % 2 ^ 48) ++ padTo 48 f.detail

/-- Keeps the first TASK or POLDER record since valid was cleared, and counts later ones (R400). -/
def State.noteFault (s : State) (f : FaultInfo) : State :=
  if f.cls ≠ 3 ∧ f.cls ≠ 4 then s
  else if s.getF pgDev 0x300 0 48 48 = 1 then s.sat pgDev 0x310 0 31 0 1
  else ((s.setReg pgDev 0x300 0 (BitVec.ofNat 64 (f.ctx % 2 ^ 16 + f.tile % 2 ^ 13 * 2 ^ 16 + f.code % 2 ^ 16 * 2 ^ 32 + 2 ^ 48))).setReg
    pgDev 0x308 0 (BitVec.ofNat 64 (s.beat % 2 ^ 56)))

/-- The die of a page; device-global pages count as die 0. -/
def pageDie (pg : Nat) : Nat := if pg < 0x1000 then 0 else pg / 0x1000 - 1

/-- Records a code in its page and posts a fault record (R398, R438), and traces it (Table 16-5). -/
def State.fault (s : State) (f : FaultInfo) : State :=
  let s1 := s.err f.page f.code
  let s2 := s1.traceRec (pageDie f.page) 5 (if f.tile = 0xFFFF then f.page else f.tile) f.ctx
    (natLE 2 f.code ++ natLE 1 f.cls ++ natLE 1 f.action ++ natLE 2 s1.recSeq)
  (s2.noteFault f).post f.pol { recType := 1, length := 80, body := s2.faultBytes f }

/-- Counts a lasting fault of a unit (R424 DEV_UNIT_STATUS.lasting). -/
def State.lasting (s : State) (pg : Nat) : State := s.sat pgDev 0x348 pg 31 16 1

end Sys2Proof.Machine
end

