-- ==== Sys2Proof/Machine/Dike.lean ====
section
/-!
DEFINITION. The polder address map and the dikes (R246, R248, R358 to R362): where a polder address leads, and whether a request may pass.
-/
namespace Sys2Proof.Machine

/-- Where a polder address leads (Table 12-1): HBM with the sluice kind it came through (0 own field, 1 READ, 2 WRITE), a host
window with the offset in it, or nowhere. -/
inductive Target where
  | hbm (da : Nat) (via : Nat)
  | host (win : Nat) (off : Nat)
  | nowhere
deriving DecidableEq, Repr

/-- Active sluice entry `i` as kind, owner, user, window, first field, count and ftid (Table 12-3); an untrusted entry is off (R410). -/
def State.sluice (s : State) (i : Nat) : Nat × Nat × Nat × Nat × Nat × Nat × Nat :=
  let w := s.regAct pgPld 0x148 i
  if (6 * 65536 + i) ∈ s.untrusted then (0, 0, 0, 0, 0, 0, 0) else
  (fld w 1 0, fld w 7 2, fld w 13 8, fld w 17 14, fld w 28 18, fld w 36 29 + 1, fld w 63 48)

/-- The active READ or WRITE sluice of user `p` and window `w`. -/
def State.sluiceWin (s : State) (p w : Nat) : Option (Nat × Nat × Nat × Nat × Nat × Nat × Nat) :=
  ((List.range 64).map s.sluice).find? (fun e => (e.1 == 1 || e.1 == 2) && e.2.2.1 == p && e.2.2.2.1 == w)

/-- log2 of host window `w` of polder `p`, 0 where it is off (R439 INTAKE_HWIN_CFG). -/
def State.hwinLog (s : State) (p w : Nat) : Nat :=
  let n := s.getF (pgIntake p) 0x150 w 5 0
  if 12 ≤ n ∧ n ≤ 34 then n else 0

/-- Table 12-1 for polder `p`. -/
def State.xlate (s : State) (p pa : Nat) : Target :=
  if pa < 0x3000_0000_0000 then
    match s.ofRank 1 p (pa / 2 ^ 28) with
    | some f => .hbm (f * 2 ^ 28 + pa % 2 ^ 28) 0
    | none => .nowhere
  else if pa < 0x4000_0000_0000 then
    let x := pa - 0x3000_0000_0000
    let w := x / 0x4_0000_0000
    let o := x % 0x4_0000_0000
    if w < 16 ∧ s.hwinLog p w ≠ 0 ∧ o < 2 ^ s.hwinLog p w then .host w o else .nowhere
  else
    let x := pa - 0x4000_0000_0000
    let w := x / 0x10_0000_0000
    let i := x % 0x10_0000_0000 / 2 ^ 28
    if 16 ≤ w then .nowhere else
    match s.sluiceWin p w with
    | some (k, _, _, _, ff, n, _) => if i < n then .hbm ((ff + i) * 2 ^ 28 + x % 2 ^ 28) k else .nowhere
    | none => .nowhere

/-- Whether [pa, pa + n) lies wholly in one region of the map of `p`: one HBM rank run, the slot of one host window or one sluice window (R194, R358). -/
def State.oneRegion (s : State) (p pa n : Nat) : Bool :=
  let last := pa + n - 1
  if n = 0 then true
  else if last < 0x3000_0000_0000 then last / 2 ^ 28 < (s.bound 1 p).length
  else if pa < 0x3000_0000_0000 then false
  else if pa < 0x4000_0000_0000 then
    (pa - 0x3000_0000_0000) / 0x4_0000_0000 < 16 && (pa - 0x3000_0000_0000) / 0x4_0000_0000 == (last - 0x3000_0000_0000) / 0x4_0000_0000
  else match s.xlate p pa, s.xlate p last with
    | .hbm _ _, .hbm _ _ => (pa - 0x4000_0000_0000) / 0x10_0000_0000 == (last - 0x4000_0000_0000) / 0x10_0000_0000
    | _, _ => false

/-- Whether [pa, pa + n) lies wholly in the HBM-rank run of the map of `p`. -/
def State.inRankRun (s : State) (p pa n : Nat) : Bool := 0 < n && pa + n ≤ (s.bound 1 p).length * 2 ^ 28

/-! Placement (R246 to R249). -/

/-- The stack of a DA. -/
def daStack (da : Nat) : Nat := da / 0x9_0000_0000
/-- The line index within the stack. -/
def daLine (da : Nat) : Nat := da % 0x9_0000_0000 / 128
/-- The home slice instance of a DA (R248). -/
def homeSlice (da : Nat) : Nat := daStack da / 3 * 16 + (bitsOf (daLine da) 3 0 ^^^ bitsOf (daLine da) 9 6)
/-- The slice of die `d` that serves loads of a DA: near, or home on its own die (R248). -/
def nearSlice (d da : Nat) : Nat := d * 16 + (bitsOf (daLine da) 3 0 ^^^ bitsOf (daLine da) 9 6)
/-- The set of a DA's line in its slice (R249). -/
def daSet (da : Nat) : Nat := bitsOf (daLine da) 14 6 * 4 + bitsOf (daLine da) 5 4
/-- Channel, pseudo-channel, bank, row and column of a DA (Table 8-1). -/
def daPlace (da : Nat) : Nat × Nat × Nat × Nat × Nat :=
  let l := daLine da
  (bitsOf l 4 0 ^^^ bitsOf l 19 15, bitsOf l 5 5, bitsOf l 14 9, bitsOf l 28 15, bitsOf l 8 6)
/-- The DA of the line of stack `k` at channel, pc, bank, row and column: the inverse of `daPlace`. -/
def placeDa (k ch pc bank row col : Nat) : Nat :=
  k * 0x9_0000_0000 + 128 * ((ch ^^^ (row % 32)) + pc * 32 + col * 64 + bank * 512 + row * 32768)

/-! Dikes at the slices (Table 12-2, R360, R362, R288, R416). -/

/-- Whether an enabled pool of the field's die holds it (R288). -/
def State.inSpillway (s : State) (f : Nat) : Bool :=
  s.pools.any (fun e => e.2.base ≤ f && f < e.2.base + e.2.fields && e.2.base / 432 == f / 432)

/-- Whether a polder address of `p` lies in its protected range (R203, R360). -/
def State.inProt (s : State) (p pa : Nat) : Bool :=
  match (s.pol p).prot with
  | some (b, n) => b ≤ pa && pa < b + n
  | none => false

/-- The snapshot slot size of polder `p` on die `d` in bytes (R416). -/
def State.snapSize (s : State) (d p : Nat) : Nat := s.getF (pgDie d) 0x430 p 23 0 * 4096

/-- The base of the snapshot region of polder `p` on die `d`, where enabled (R416). -/
def State.snapBase (s : State) (d p : Nat) : Option Nat :=
  let w := s.reg (pgDie d) 0x428 p
  if fld w 0 0 = 1 then some (fld w 47 12 * 4096) else none

/-- Whether a polder address of `p` lies in an enabled snapshot region of `p` (R416). -/
def State.inSnapRegion (s : State) (p pa : Nat) : Bool :=
  (List.range 4).any (fun d => match s.snapBase d p with
    | some b => b ≤ pa && pa < b + 2 * s.snapSize d p
    | none => false)

/-- The low byte of the code with which the slice dike refuses requester `p` (kind 0 tile, 1 kneader, 2 snapshot engine, 3 loader,
4 queue engine, 5 host, 6 scrubber) an access (0 load, 1 store, 2 atomic or lock) to a DA; 0 where it passes. -/
def State.sliceDike (s : State) (p kind op da : Nat) : Nat :=
  let f := da / 2 ^ 28
  if 1728 ≤ f then 0x70
  else if kind = 6 then 0
  else if s.inSpillway f ∧ kind ≠ 4 then 0x70
  else
    let own := s.owner 1 f
    let grants (k : Nat) : Bool := ((List.range 64).map s.sluice).any (fun e => e.1 == k && e.2.2.1 == p && e.2.2.2.2.1 ≤ f && f < e.2.2.2.2.1 + e.2.2.2.2.2.1)
    let base := if own = some p then 0
      else if op = 0 ∧ grants 1 then 0 else if op = 1 ∧ grants 2 then 0
      else if grants 1 ∨ grants 2 then 0x72 else 0x71
    if base ≠ 0 then base
    else if op = 0 then 0
    else match own with
      | none => 0
      | some o =>
        let pa := s.rankOf 1 o f * 2 ^ 28 + da % 2 ^ 28
        if s.inProt o pa then 0x73 else if kind ≠ 2 ∧ s.inSnapRegion o pa then 0x73 else 0

/-- The detail of a slice or controller record (Table 14-3): DA, requester polder and kind, place. -/
def daDetail (da p kind : Nat) : List Byte :=
  let (ch, pc, bank, row, col) := daPlace da
  natLE 8 da ++ natLE 1 p ++ natLE 1 kind ++ natLE 1 ch ++ natLE 1 pc ++ natLE 1 bank ++ natLE 1 col ++ natLE 2 row

/-- A slice records and posts a refusal (R360). -/
def State.dikeRefuse (s : State) (sl ee p kind da : Nat) : State :=
  (s.fault { code := 0x1500 + ee, page := pgSc sl, detail := daDetail da p kind, pol := some p }).countEv (pgSc sl) 5 1

end Sys2Proof.Machine
end

