-- ==== Sys2Proof/Machine/SliceOps.lean ====
section
/-!
DEFINITION. What a slice does with loads, stores, held stores and atomics' lines (R249 to R264, R273): shared by every requester.
-/
namespace Sys2Proof.Machine

/-- The line image that `bs` at byte offset `o` of a line makes. -/
def lineImg (o : Nat) (bs : List Byte) : List (Option Byte) :=
  (List.replicate o none ++ bs.map some ++ List.replicate (128 - o - bs.length) none).take 128

/-- Later bytes over earlier ones. -/
def imgOver (new old : List (Option Byte)) : List (Option Byte) :=
  List.zipWith (fun a b => match a with | some x => some x | none => b) new old

/-- Whether every byte of [o, o + n) is in the image. -/
def imgCovers (img : List (Option Byte)) (o n : Nat) : Bool := ((img.drop o).take n).all Option.isSome

/-- Whether some byte of [o, o + n) is in the image. -/
def imgMeets (img : List (Option Byte)) (o n : Nat) : Bool := ((img.drop o).take n).any Option.isSome

/-- The bytes [o, o + n) of an image, zero where absent. -/
def imgBytes (img : List (Option Byte)) (o n : Nat) : List Byte := ((img.drop o).take n).map (fun b => b.getD 0)

/-- Puts the bytes of an image over a line's bytes. -/
def imgApply (img : List (Option Byte)) (line : List Byte) : List Byte := List.zipWith (fun a b => a.getD b) img line

/-- Whether the 2 MiB block of a DA is fresh (R258). -/
def State.fresh (s : State) (da : Nat) : Bool := !(s.clean.contains (da / 2 ^ 21))

/-! The line banks' ports (R250). -/

/-- The port requester (Table 8-2) as which an access from die `d` reaches slice `sl`: `who` on its own die, D2D0 or D2D1 from another. -/
def State.portWho (s : State) (d sl who : Nat) : Nat :=
  let e := sl / 16
  if e = d then who
  else
    let fwd := (e + 4 - d) % 4 != 3
    if fwd == (mapGet s.routes (4 * d + e) 0 == 0) then 10 else 9

/-- A line bank grants one access (R250, R278). -/
def State.portGrant (s : State) (sl who ln : Nat) : State := s.bump (pgSc sl) 0x168 (who + 32 * (daSet (ln * 128) % 2)) 1

/-- The port requester of each requester kind but a tile. -/
def kindWho (kind : Nat) : Nat := match kind with | 1 => 11 | 2 => 12 | 3 => 13 | 5 => 14 | 6 => 16 | _ => 0

/-- A slice refuses an access to a poisoned line (R263, R278). -/
def State.poisonRefuse (s : State) (sl p kind da : Nat) : State :=
  s.fault { code := 0x1520, page := pgSc sl, detail := daDetail da p kind }

/-- Makes a line resident, evicting a HOME or NEAR line of a full set; which one, the spec leaves open (R249; log entry 21). -/
def State.fill (s : State) (sl ln : Nat) (x : LineSt) : State :=
  let c := s.slice sl
  if (mapFind? c.lines ln).isSome then s.setSlice sl { c with lines := mapSet c.lines ln x }
  else
    let set := daSet (ln * 128)
    let here := c.lines.filter (fun e => daSet (e.1 * 128) == set)
    let provs := c.held.filter (fun h => h.prov && daSet (h.line * 128) == set)
    let evict := here.filter (fun e => e.2.kind != .pin)
    if here.length + provs.length < 16 ∨ evict = [] then s.setSlice sl { c with lines := mapSet c.lines ln x }
    else
      let (v, s1) := drawFree s
      let victim := (evict[v % evict.length]?).getD (ln, x)
      let s2 := s1.setSlice sl { c with lines := mapSet (mapDrop c.lines (fun k => k == victim.1)) ln x }
      if victim.2.dirty then
        (s2.bump (pgHbmc (daStack (victim.1 * 128))) 0x148 0 128).countEv (pgHbmc (daStack (victim.1 * 128))) 0x11 1
      else s2

/-- Fills a HOME line from HBM where it is not resident, counting hit or miss when `count` (R278). -/
def State.touch (s : State) (sl ln : Nat) (count : Bool) : State :=
  let da := ln * 128
  if (mapFind? (s.slice sl).lines ln).isSome then (if count then (s.bump (pgSc sl) 0x130 0 1).countEv (pgSc sl) 0x10 1 else s)
  else
    let s1 := if count then (s.bump (pgSc sl) 0x138 0 1).countEv (pgSc sl) 0x11 1 else s
    let s2 := if s.fresh da then s1 else ((s1.bump (pgHbmc (daStack da)) 0x140 0 128).countEv (pgHbmc (daStack da)) 0x10 1).portGrant sl 15 ln
    s2.fill sl ln { kind := .home }

/-- Drains a committed entry into its line (R253): a partial one fills the line first; a whole one clears the poison (R263). -/
def State.drain (s : State) (sl : Nat) (e : WcbEntry) : State :=
  let da := e.line * 128
  let whole := imgCovers e.img 0 128
  let s1 := if whole then s else s.touch sl e.line false
  let old := ((mapFind? (s1.slice sl).lines e.line).getD { kind := .home })
  let s2 := s1.fill sl e.line { old with dirty := true }
  let s3 := { s2 with hbm := memWrite s2.hbm da (imgApply e.img (memRead s2.hbm da 128)),
                      poison := if whole then s2.poison.filter (· != e.line) else s2.poison }
  s3.countEv (pgSc sl) 0x15 1

/-- Removes the committed entry of a line from the buffer and drains it, if there is one. -/
def State.drainLine (s : State) (sl ln : Nat) : State :=
  match (s.slice sl).wcb.find? (fun e => e.line == ln) with
  | none => s
  | some e => (s.setSlice sl { s.slice sl with wcb := (s.slice sl).wcb.filter (fun x => x.line != ln) }).drain sl e

/-- SC_CFG.high_water of a slice; values outside 8–60 act as 48 (R278). -/
def State.highWater (s : State) (sl : Nat) : Nat := let n := s.getF (pgSc sl) 0x104 0 21 16; if 8 ≤ n ∧ n ≤ 60 then n else 48

/-- Buffer entries in use: committed ones and held ones that are not PROV lines. -/
def Slice.used (c : Slice) : Nat := c.wcb.length + (c.held.filter (fun h => !h.prov)).length

/-- Drains oldest entries until at most high_water are in use (R253); `n` bounds the drains. -/
def State.highDrain : Nat → Nat → State → State
  | 0, _, s => s
  | n + 1, sl, s =>
    let c := s.slice sl
    if c.used ≤ s.highWater sl then s else
    match c.wcb with
    | [] => s
    | e :: es => State.highDrain n sl ((s.setSlice sl { c with wcb := es }).drain sl e)

/-- The dies that hold a near copy of a line. -/
def State.nearDies (s : State) (ln : Nat) : List Nat :=
  (List.range 4).filter (fun d => match mapFind? (s.slice (nearSlice d (ln * 128))).lines ln with
    | some x => x.kind == .near
    | none => false)

/-- Sends an invalidation of a line to every die that holds a copy (R241). -/
def State.sendInval (s : State) (ln : Nat) : State := { s with inval := s.inval ++ (s.nearDies ln).map (fun d => (d, ln)) }

/-- Drops die `d`'s near copy of a line (R241). -/
def State.dropNear (s : State) (d ln : Nat) : State :=
  let sl := nearSlice d (ln * 128)
  match mapFind? (s.slice sl).lines ln with
  | some x => if x.kind = .near then s.setSlice sl { s.slice sl with lines := mapDrop (s.slice sl).lines (fun k => k == ln) } else s
  | none => s

/-- A slice accepts a committed store (R251): it merges into the line's entry or takes a new one, and invalidations go out. -/
def State.accept (s : State) (e : WcbEntry) : State :=
  let sl := homeSlice (e.line * 128)
  let c := s.slice sl
  let wcb := if c.wcb.any (fun x => x.line == e.line) then
      c.wcb.map (fun x => if x.line = e.line then { x with img := imgOver e.img x.img } else x)
    else c.wcb ++ [e]
  State.highDrain 65 sl ((s.setSlice sl { c with wcb := wcb }).sendInval e.line)

/-- A committed store reaches its home slice: it waits while its block is fresh (R258), else it is accepted. -/
def State.storeIn (s : State) (w : WaitStore) : State :=
  if s.fresh (w.line * 128) then
    { s with waitSt := s.waitSt ++ [w],
             zeroing := if s.zeroing.contains (w.line * 128 / 2 ^ 21) then s.zeroing else s.zeroing ++ [w.line * 128 / 2 ^ 21] }
  else s.accept { line := w.line, img := w.img, pol := w.pol }

/-- The result of an access: bytes, or the code that refuses it. -/
abbrev Acc' := Except Nat (List Byte)

/-- A load of [da, da + n), within one line, at its home slice (R252, R258, R263). -/
def State.homeLoad (s : State) (p kind da n : Nat) : Acc' × State :=
  let sl := homeSlice da
  let ln := da / 128
  let o := da % 128
  match (s.slice sl).wcb.find? (fun e => e.line == ln) with
  | some e =>
    if imgCovers e.img o n then (.ok (imgBytes e.img o n), (s.bump (pgSc sl) 0x140 0 1).countEv (pgSc sl) 0x12 1)
    else if imgMeets e.img o n then
      let s1 := ((s.drainLine sl ln).bump (pgSc sl) 0x148 0 1).countEv (pgSc sl) 0x13 1
      if s1.poison.contains ln then (.error 0x1520, s1.poisonRefuse sl p kind da) else (.ok (memRead s1.hbm da n), s1.touch sl ln true)
    else if s.poison.contains ln then (.error 0x1520, s.poisonRefuse sl p kind da)
    else (.ok (memRead s.hbm da n), s.touch sl ln true)
  | none =>
    if s.poison.contains ln then (.error 0x1520, s.poisonRefuse sl p kind da)
    else (.ok (memRead s.hbm da n), s.touch sl ln true)

/-- A load of [da, da + n), within one line, from die `d`: near copies serve loads of other dies' lines (R241), but never one that a sluice grants
(R362), nor one of a poisoned line (R263). -/
def State.lineLoad (s0 : State) (d p kind who da n : Nat) : Acc' × State :=
  let sl := homeSlice da
  let s := if sl / 16 < 4 then s0.portGrant sl (s0.portWho d sl who) (da / 128) else s0
  let ee := s.sliceDike p kind 0 da
  if ee ≠ 0 then (.error (0x1500 + ee), s.dikeRefuse (if sl / 16 < 4 then sl else d * 16) ee p kind da)
  else if !s.serves (pgSc sl) then (.error 0x157E, s.err (pgSc sl) 0x157E)
  else if sl / 16 = d ∨ s.owner 1 (da / 2 ^ 28) ≠ some p then s.homeLoad p kind da n
  else if s.poison.contains (da / 128) then (.error 0x1520, s.poisonRefuse sl p kind da)
  else
    let ns := nearSlice d da
    let ln := da / 128
    match mapFind? (s.slice ns).lines ln with
    | some x => (.ok ((x.copy.drop (da % 128)).take n), (s.bump (pgSc ns) 0x130 0 1).countEv (pgSc ns) 0x10 1)
    | none =>
      match s.homeLoad p kind (ln * 128) 128 with
      | (.ok bs, s1) => (.ok ((bs.drop (da % 128)).take n),
          ((s1.bump (pgSc ns) 0x138 0 1).countEv (pgSc ns) 0x11 1).fill ns ln { kind := .near, copy := bs })
      | (.error c, s1) => (.error c, s1)

/-- Cuts [pa, pa + n) at line boundaries: address and length pieces. `k` bounds the pieces. -/
def linePieces : Nat → Nat → Nat → List (Nat × Nat)
  | 0, _, _ => []
  | k + 1, pa, n => if n = 0 then [] else
    let m := min n (128 - pa % 128)
    (pa, m) :: linePieces k (pa + m) (n - m)

/-- A load of polder `p`'s address range from die `d`, line by line in ascending order, through the map and the dikes; the first
refusal ends it, with the code and the polder address. Host-window lines are not served here. -/
def State.polLoad (s : State) (d p kind pa n : Nat) : Except (Nat × Nat) (List Byte) × State :=
  (linePieces (n / 128 + 2) pa n).foldl (fun (acc : Except (Nat × Nat) (List Byte) × State) (q : Nat × Nat) =>
    match acc with
    | (.error e, st) => (.error e, st)
    | (.ok bs, st) =>
      match st.xlate p q.1 with
      | .hbm da via =>
        if via = 2 then (.error (0x1572, q.1), st.dikeRefuse (homeSlice da) 0x72 p kind da) else
        match st.lineLoad d p kind (kindWho kind) da q.2 with
        | (.ok b, st1) => (.ok (bs ++ b), st1)
        | (.error c, st1) => (.error (c, q.1), st1)
      | .host _ _ => (.error (0x0660, q.1), st)
      | .nowhere => (.error (0x1570, q.1), st)) (.ok [], s)

/-- A store of any source but a mover store path, line by line (R251); the first refusal ends it and earlier lines stay written. -/
def State.polStore (s : State) (d p kind pa : Nat) (bs : List Byte) : Option (Nat × Nat) × State :=
  (linePieces (bs.length / 128 + 2) pa bs.length).foldl (fun (acc : Option (Nat × Nat) × State) (q : Nat × Nat) =>
    match acc with
    | (some e, st) => (some e, st)
    | (none, st) =>
      match st.xlate p q.1 with
      | .hbm da _ =>
        let ee := st.sliceDike p kind 1 da
        let sl := homeSlice da
        if ee ≠ 0 then (some (0x1500 + ee, q.1), st.dikeRefuse sl ee p kind da)
        else if !st.serves (pgSc sl) ∨ (st.slice sl).stopped then (some (0x157E, q.1), st.err (pgSc sl) 0x157E)
        else
          let st0 := st.portGrant sl (st.portWho d sl (kindWho kind)) (da / 128)
          let st1 := if sl / 16 = d then st0 else st0.dropNear d (da / 128)
          let img := lineImg (da % 128) ((bs.drop (q.1 - pa)).take q.2)
          (none, st1.storeIn { line := da / 128, img := img, pol := (st.owner 1 (da / 2 ^ 28)).getD p, tile := 0xFFFF, path := 0, ord := 0 })
      | .host w o =>
        if st.getF (pgIntake p) 0x150 w 7 7 = 1 ∧ !st.fnLive p then (some (0x0660, q.1), st)
        else if st.getF (pgIntake p) 0x150 w 7 7 = 1 then
          (none, st.hostWrite p ((st.reg (pgIntake p) 0x148 w).toNat + o) ((bs.drop (q.1 - pa)).take q.2))
        else (some (0x1572, q.1), st)
      | .nowhere => (some (0x1570, q.1), st)) (none, s)

/-- The loader, outside any fence it has itself set, writes initial contents (R194, Table 6-12). -/
def State.loaderWrite (s : State) (p pa : Nat) (bs : List Byte) : State :=
  (linePieces (bs.length / 128 + 2) pa bs.length).foldl (fun st q =>
    match st.xlate p q.1 with
    | .hbm da _ => st.storeIn { line := da / 128, img := lineImg (da % 128) ((bs.drop (q.1 - pa)).take q.2), pol := p, tile := 0xFFFF, path := 0, ord := 0 }
    | _ => st) s

/-- Frees, without write-back, every buffer entry, PROV line and (with `lines`) resident line of every slice whose line meets `f`;
PIN lines stay (Table 12-5, R260, R273). -/
def State.freeLines (s : State) (f : Nat → Bool) (lines : Bool) : State :=
  let keep (c : Slice) : SMap LineSt := if lines then c.lines.filter (fun x => !(f x.1) || x.2.kind == .pin) else c.lines
  let one (c : Slice) : Slice :=
    { c with wcb := c.wcb.filter (fun x => !f x.line), held := c.held.filter (fun x => !f x.line), lines := keep c }
  { s with slices := s.slices.map (fun e => (e.1, one e.2)), waitSt := s.waitSt.filter (fun w => !f w.line) }

/-- Sets the fresh bits of every block of field `f` (R258): its contents, poison and PIN contents read as zero. -/
def State.freshen (s : State) (f : Nat) : State :=
  let in' (ln : Nat) : Bool := ln * 128 / 2 ^ 28 == f
  { s with clean := s.clean.filter (fun b => b / 128 != f), hbm := memZero s.hbm (f * 2 ^ 28) (2 ^ 28),
           poison := s.poison.filter (fun l => !in' l), zeroing := s.zeroing.filter (fun b => b / 128 != f) }

end Sys2Proof.Machine
end

