-- ==== Sys2Proof/Machine/LinkBase.lean ====
section
/-!
DEFINITION. The torus and the sending side of the Ryulon ports (10_ryulon_links.md R295, R296, R301 to R303, R309, R312 to R318): coordinates and slices,
port roles and siblings, the route table, egress gates and barrier messages.
-/
namespace Sys2Proof.Machine

/-! Coordinates (R312). Dimensions are 0 X, 1 Y, 2 Z. -/

/-- The sizes of the torus as DEV_TORUS gives them. -/
def State.torus (s : State) : List Nat := [s.getF pgDev 0x204 0 5 0, s.getF pgDev 0x204 0 11 6, s.getF pgDev 0x204 0 17 12]

/-- Whether every size is in range (R324). -/
def State.torusOk (s : State) : Bool := (List.zipWith (fun (n top : Nat) => decide (1 ≤ n) && decide (n ≤ top)) s.torus [16, 32, 32]).all (· == true)

/-- DEV_NODE.valid as it reads (R324). -/
def State.nodeValid (s : State) : Bool := s.getF pgDev 0x200 0 16 16 == 1 && s.torusOk

/-- The node ID of this device. -/
def State.nodeId (s : State) : Nat := s.getF pgDev 0x200 0 13 0

/-- The coordinates of a node ID. -/
def coords (n : Nat) : List Nat := [bitsOf n 13 10, bitsOf n 9 5, bitsOf n 4 0]

/-- The node ID of coordinates. -/
def nodeOf (c : List Nat) : Nat := c.getD 0 0 * 1024 + c.getD 1 0 * 32 + c.getD 2 0

/-- Size of dimension `d`, at least 1. -/
def State.dimSize (s : State) (d : Nat) : Nat := max 1 (s.torus.getD d 1)

/-- Origin and shape of polder `p`'s slice in dimension `d`; with no port bound the slice is 1 × 1 × 1 (Table 12-1, R191). -/
def State.sliceDim (s : State) (p d : Nat) : Nat × Nat :=
  let w := s.regAct pgPld 0x118 p
  if s.bound 2 p = [] then (0, 1)
  else match d with
    | 0 => (fld w 3 0, fld w 18 14)
    | 1 => (fld w 8 4, fld w 24 19)
    | _ => (fld w 13 9, fld w 30 25)

/-- A coordinate relative to the slice's origin. -/
def State.slicePos (s : State) (p d c : Nat) : Nat := (c + s.dimSize d - (s.sliceDim p d).1 % s.dimSize d) % s.dimSize d

/-- Whether a node lies in polder `p`'s slice. -/
def State.inSlice (s : State) (p node : Nat) : Bool :=
  (List.range 3).all (fun d => s.slicePos p d ((coords node).getD d 0) < (s.sliceDim p d).2)

/-- This device's position in polder `p`'s slice; 0 while it has no node ID or the polder no port. -/
def State.ownPos (s : State) (p d : Nat) : Nat := if s.nodeValid ∧ s.bound 2 p ≠ [] then s.slicePos p d ((coords s.nodeId).getD d 0) else 0

/-- The neighbour of this device in direction `role` (R296). -/
def State.neighbour (s : State) (role : Nat) : Nat :=
  let d := role / 2
  let c := coords s.nodeId
  let n := s.dimSize d
  nodeOf (c.set d ((c.getD d 0 + (if role % 2 = 0 then 1 else n - 1)) % n))

/-! Fabric tenant IDs (R312, R361, R410). -/

/-- The active fabric tenant ID of polder `p` (0 none). -/
def State.ftid (s : State) (p : Nat) : Nat := s.getA pgPld 0x114 p 15 0

/-- The polders of this device that take flits of an ID: the one that holds it, then users of FTID sluices; none while an untrusted entry bars it. -/
def State.ftidPols (s : State) (f : Nat) : List Nat :=
  if f = 0 ∨ s.badFtids.any (fun e => e.2.contains f) then []
  else (List.range 64).filter (fun p => s.ftid p == f) ++
    (((List.range 64).map s.sluice).filter (fun e => e.1 == 3 && e.2.2.2.2.2.2 == f)).map (fun e => e.2.2.1)

/-! Ports (R295, R309). -/

/-- The role of a port: 2 × dimension, + 1 for the − direction (Table 10-1, LNK_STATUS.role). -/
def portRole (pt : Nat) : Nat :=
  let k := pt % 8
  if k < 6 then k else if pt / 8 < 2 then k - 4 else k - 2

/-- The second pair of a role. -/
def portPair (pt : Nat) : Nat := b2n (decide (6 ≤ pt % 8))

/-- The ports of a role on die `d`, ascending. -/
def rolePorts (d role : Nat) : List Nat := ((List.range 8).map (fun k => 8 * d + k)).filter (fun q => portRole q == role)

/-- A port's siblings in the order of R309. -/
def siblings (pt : Nat) : List Nat :=
  let d := pt / 8
  (rolePorts d (portRole pt)).filter (· != pt) ++ rolePorts ((d + 1) % 4) (portRole pt) ++ rolePorts ((d + 3) % 4) (portRole pt) ++
    rolePorts ((d + 2) % 4) (portRole pt)

/-- LNK_STATUS.state (Table 10-5): 0 DOWN, 1 TRAINING, 2 NODE_WAIT, 3 UP, 4 RETRAIN, 5 MISWIRED, 6 DISABLED. -/
def State.lnkState (s : State) (pt : Nat) : Nat := s.getF (pgLnk pt) 0x100 0 2 0

/-- Sets the state of a port. -/
def State.setLnk (s : State) (pt st : Nat) : State := s.setF (pgLnk pt) 0x100 0 2 0 st

/-- The port that carries port `pt`'s traffic: its sibling where it has moved, itself while UP or in a retrain that keeps lock. -/
def State.carrier (s : State) (pt : Nat) : Option Nat :=
  let w := s.reg (pgLnk pt) 0x100 0
  if fld w 17 17 = 1 then some (fld w 22 18)
  else if (fld w 2 0 = 3 ∨ fld w 2 0 = 4) ∧ !(s.port pt).left then some pt
  else none

/-- The port through which die `d` sends polder `p`'s traffic in a direction: of the role's ports bound to `p`, the lowest numbered that has a
carrier (DESIGN CHOICE, log entry 30). -/
def State.egress (s : State) (d p role : Nat) : Option Nat :=
  ((rolePorts d role).filter (fun q => s.owner 2 q == some p)).findSome? s.carrier

/-- Die `d`'s route-table entry of a node; an untrusted entry acts as fenced (R313, R410). -/
def State.rtEntry (s : State) (d node : Nat) : Nat :=
  if (7 * 65536 + node) ∈ s.untrusted then 3 else mapGet s.rt (d * 16384 + node) 0

/-- Whether traffic to a node may leave die `d` through a port of die `lane` (R313). -/
def State.mayGo (s : State) (d node lane : Nat) : Bool :=
  let e := s.rtEntry d node
  bitOf e 0 && !bitOf e 1 && bitOf e (2 + lane)

/-! Records (Table 14-3). -/

/-- A port posts a code. -/
def State.lnkPost (s : State) (pt code cls action half lseq pol : Nat) : State :=
  let w := s.reg (pgLnk pt) 0x110 0
  s.fault { code := code, page := pgLnk pt, cls := cls, action := action, pol := if pol < 64 then some pol else none,
            detail := natLE 1 pt ++ natLE 1 half ++ natLE 2 0 ++ natLE 2 (fld w 13 0) ++ natLE 1 (fld w 15 14) ++ natLE 1 0 ++ natLE 2 lseq ++ natLE 2 0
              ++ natLE 1 pol }

/-- A dike of port `pt` drops a flit or message: LNK_DIKE_DROP, and 0x1314 once per frame (R316). -/
def State.linkDike (s : State) (pt pol : Nat) : State :=
  let s1 := (s.sat (pgLnk pt) 0x148 0 31 0 1).countEv (pgLnk pt) 5 1
  if (s1.port pt).dikePosted then s1
  else (s1.setPort pt { s1.port pt with dikePosted := true }).lnkPost pt 0x1314 1 0 0 0 pol

/-! Routing (R314, R315). -/

/-- The direction in which a flit leaves this device, and whether that hop is the wrap link; none where it has arrived. -/
def State.nextHop (s : State) (dst sgn : Nat) : Option (Nat × Bool) :=
  ((List.range 3).find? (fun d => (coords s.nodeId).getD d 0 != (coords dst).getD d 0)).map (fun d =>
    let c := (coords s.nodeId).getD d 0
    let neg := sgn.testBit d
    (2 * d + b2n neg, if neg then c == 0 else c + 1 == s.dimSize d))

/-! The egress gate (R302, R303, R316 to R318). -/

/-- The send reservations of a port that are active now, by the last release of their barriers. -/
def State.activeRes (s : State) (pt : Nat) : List LinkRes :=
  (mapGet s.linkRes pt []).filter (fun r => !r.recv && (match mapFind? (s.pol r.pol).barRefs r.bar with
    | some b => decide (b + r.firstBeat ≤ s.beat) && decide (s.beat < b + r.firstBeat + r.beats)
    | none => false))

/-- A beat's allowance of a port (R318); at most 12 loaves at ×4 (R319). -/
def State.newAllowance (s : State) (pt : Nat) : State :=
  let sum := (s.activeRes pt).foldl (fun a r => a + r.rate) 0
  s.setPort pt { s.port pt with allowance := if s.getF (pgLnk pt) 0x100 0 3 3 = 1 then min sum 12 else sum }

/-- A flow as a number (R314): source node and die, destination node and die, tenant, kind. -/
def Flit.flow (f : Flit) : Nat := ((((f.src * 4 + f.srcDie) * 16384 + f.dst) * 4 + f.dstDie) * 65536 + f.ftid) * 2 + b2n f.res

/-- The class-vc index of a flit (R301): RES vc 0, RES vc 1, BE vc 0, BE vc 1. -/
def classVc (res : Bool) (vc : Nat) : Nat := (if res then 0 else 2) + vc % 2

/-- Whether a waiting flit goes as DATA_RES: an own flit within a window, or one in transit that came so. -/
def GateFlit.asRes (g : GateFlit) (window : Bool) : Bool := if g.own then window else g.flit.res

/-- The waiting flit that takes the next data slot of a port, if any: DATA_RES first, then DATA_BE, each in order of arrival (R318). -/
def State.gatePick (s : State) (pt : Nat) : Option (GateFlit × Bool) :=
  let x := s.port pt
  let window : Bool := s.activeRes pt != []
  let ok (g : GateFlit) (res : Bool) : Bool :=
    g.asRes window == res && decide (0 < x.credits.getD (classVc res g.flit.vc) 0) && (!(g.own && res) || decide (0 < x.allowance))
  if s.lnkState pt ≠ 3 ∨ 489 ≤ x.replay.length then none
  else match x.gate.find? (fun g => ok g true) with
    | some g => some (g, true)
    | none => (x.gate.find? (fun g => ok g false)).map (fun g => (g, false))

/-- Sends one waiting flit: an own flit gets its kind, tenant, epoch and flow number here (R316, R317), and a message tag that the spec does not give
(log entry 2); a credit and a replay place are taken. -/
def State.gateSend (s0 : State) (pt : Nat) (g : GateFlit) (res : Bool) : State :=
  let (tag, s) := if g.own then drawFree s0 else (0, s0)
  let x := s.port pt
  let f0 : Flit := if g.own then { g.flit with res := res, ftid := s.ftid g.pol, epoch := (s.pol g.pol).flowEpoch, mtag := tag % 65536 } else g.flit
  let key := g.pol * 2 ^ 64 + f0.flow
  let n := mapGet s.sendSeq key 0
  let f : Flit := { f0 with fseq := if g.own then n % 65536 else f0.fseq, lseq := x.nextSeq }
  let i := classVc res f.vc
  let s1 := { s with sendSeq := if g.own then mapSet s.sendSeq key (n + 1) else s.sendSeq, sentFlits := (pt, f) :: s.sentFlits }.setPort pt
    { x with gate := x.gate.erase g, replay := x.replay ++ [f], nextSeq := (x.nextSeq + 1) % 4096, credits := x.credits.set i (x.credits.getD i 0 - 1),
             allowance := if g.own && res then x.allowance - 1 else x.allowance }
  let s2 := (s1.bump (pgLnk pt) 0x138 0 1).countEv (pgLnk pt) (if res then 0x10 else 0x11) 1
  if g.own then s2.bump (pgKnd f.srcDie) 0x188 0 1 else s2

/-- Sends what a port's gate can send; `n` bounds the flits. -/
def State.pump : Nat → Nat → State → State
  | 0, _, s => s
  | n + 1, pt, s => match s.gatePick pt with
    | none => s
    | some (g, res) => State.pump n pt (s.gateSend pt g res)

/-- Sends what a port's gate holds, as far as it can. -/
def State.pumpPort (s : State) (pt : Nat) : State := State.pump ((s.port pt).gate.length) pt s

/-- Puts a flit into a port's gate. -/
def State.gatePut (s : State) (pt : Nat) (g : GateFlit) : State :=
  (s.setPort pt { s.port pt with gate := (s.port pt).gate ++ [g] }).pumpPort pt

/-- The source egress (R313, R316): a kneader's flit leaves die `d`. `false` where no port carries the direction. -/
def State.sendFlit (s : State) (d p : Nat) (f : Flit) : Bool × State :=
  match s.nextHop f.dst f.sgn with
  | none => (true, s)
  | some (role, wrap) =>
    match s.egress d p role with
    | none => (false, s)
    | some pt =>
      if !s.inSlice p f.dst then (true, s.linkDike pt p)
      else if !s.mayGo d f.dst (pt / 8) then (true, s.sat (pgLnk pt) 0x148 0 31 0 1)
      else (true, s.gatePut pt { own := true, pol := p, flit := { f with vc := b2n wrap } })

/-- A barrier message waits at a port until its bseq is acknowledged (R301). -/
def State.putMsg (s : State) (pt : Nat) (m : KMsg) : State :=
  let x := s.port pt
  s.setPort pt { x with msgs := x.msgs ++ [(x.nextBseq, m)], nextBseq := (x.nextBseq + 1) % 65536 }

/-- A kneader of die `d` sends a message in a direction. `false` where no port carries it. -/
def State.sendMsg (s : State) (d p role : Nat) (m : KMsg) : Bool × State :=
  match s.egress d p role with
  | none => (false, s)
  | some pt => (true, s.putMsg pt m)

end Sys2Proof.Machine
end

