-- ==== Sys2Proof/Machine/KndBase.lean ====
section
/-!
DEFINITION. Kneader slots, groups and the abort of an instance (11_kneader.md R327, R333, R334, R349). The stop of the polder that goes with an abort
is State.kndAbort's, in Kneader.lean.
-/
namespace Sys2Proof.Machine

/-- A kneader descriptor. -/
def State.kdesc (s : State) (d slot desc : Nat) : KDesc := mapGet (s.knd d).descs (slot * 256 + desc) {}

/-- Sets a kneader descriptor. -/
def State.setKdesc (s : State) (d slot desc : Nat) (x : KDesc) : State :=
  s.setKnd d { s.knd d with descs := mapSet (s.knd d).descs (slot * 256 + desc) x }

/-- The newest instance of a descriptor, key slot × 256 + desc. -/
def State.kinst (s : State) (d key : Nat) : Option KInst := mapFind? (s.knd d).insts key

/-- Sets an instance. -/
def State.setKinst (s : State) (d key : Nat) (i : KInst) : State := s.setKnd d { s.knd d with insts := mapSet (s.knd d).insts key i }

/-- Changes an instance. -/
def State.onKinst (s : State) (d key : Nat) (f : KInst → KInst) : State :=
  match s.kinst d key with
  | some i => s.setKinst d key (f i)
  | none => s

/-- Whether an instance is in progress (KND_SLOT_STATUS.state 1 to 4). -/
def KInst.active (i : KInst) : Bool := 1 ≤ i.state && i.state ≤ 4

/-- Keys of a kneader's instances in progress, those of `slot` where given. -/
def Kneader.activeKeys (k : Kneader) (slot : Option Nat) : List Nat :=
  (k.insts.filter (fun e => e.2.active && (match slot with | some n => e.1 / 256 == n | none => true))).map (·.1)

/-- The polder that owns a slot. -/
def State.slotPol (s : State) (d slot : Nat) : Option Nat := s.owner 3 (d * 16 + slot)

/-! Groups (R333). -/

/-- The physical slot that a slot field of die `d`'s KND page names through function `f`: a slot through the PF, a rank of its polder through a VF (R353). -/
def State.slotThrough (s : State) (f d v : Nat) : Option Nat :=
  if f = 0 then (if v < 16 then some v else none)
  else match s.ofRank 3 f v with
    | some k => if k / 16 = d then some (k % 16) else none
    | none => none

/-- Barrier kinds. -/
def KDesc.barrier (x : KDesc) : Bool := x.kind == 6 || x.kind == 7

/-- A descriptor's group shape in dimension `dim`. -/
def State.kgroup (s : State) (p : Nat) (x : KDesc) (dim : Nat) : Nat :=
  max 1 (if x.barrier then (if 1 < x.members then (s.sliceDim p dim).2 else 1) else match dim with | 0 => x.gx | 1 => x.gy | _ => x.gz)

/-- The dimensions of size above 1, in the order X, Y, Z. -/
def State.kdims (s : State) (p : Nat) (x : KDesc) : List Nat := (List.range 3).filter (fun d => s.kgroup p x d != 1)

/-- This device's position in its group. -/
def State.kpos (s : State) (p : Nat) (x : KDesc) (dim : Nat) : Nat := s.ownPos p dim % s.kgroup p x dim

/-- The role that leads towards the + (or −) neighbour in a ring: the closing link travels back across the group. -/
def State.kdir (s : State) (p : Nat) (x : KDesc) (dim : Nat) (plus : Bool) : Nat :=
  let q := s.kpos p x dim
  if plus then (if q + 1 < s.kgroup p x dim then 2 * dim else 2 * dim + 1) else (if q = 0 then 2 * dim else 2 * dim + 1)

/-- The node of position `q` of this device's ring in dimension `dim`. -/
def State.kpeer (s : State) (p : Nat) (x : KDesc) (dim q : Nat) : Nat :=
  let c := coords s.nodeId
  let g := s.kgroup p x dim
  let base := s.ownPos p dim / g * g
  nodeOf (c.set dim (((s.sliceDim p dim).1 + base + q) % s.dimSize dim))

/-- A barrier message of this member (Table 11-4). -/
def State.kmsg (s : State) (d slot desc p type phase num reason : Nat) : KMsg :=
  { ftid := s.ftid p, type := type, kslot := s.rankOf 3 p (d * 16 + slot), desc := desc, phase := phase, inst := num,
    origin := s.kpos p (s.kdesc d slot desc) phase, reason := reason }

/-- The detail of an 0x12xx record (Table 14-3). -/
def kndDetail (slot desc phase step num reason : Nat) : List Byte :=
  natLE 1 slot ++ natLE 1 desc ++ natLE 1 phase ++ natLE 1 step ++ natLE 4 num ++ natLE 2 reason

/-- Notes a code in KND_ERR_INFO and KND_ERR_INST. -/
def State.kndErr (s : State) (d slot desc num code : Nat) : State :=
  (s.setReg (pgKnd d) 0x19C 0 (BitVec.ofNat 64 (slot % 16 + desc % 256 * 256 + code % 65536 * 65536))).setReg (pgKnd d) 0x1A0 0
    (BitVec.ofNat 64 (num % 2 ^ 32))

/-- The current dimension of an instance: of its wave, or of its ring. -/
def State.kphase (s : State) (p : Nat) (x : KDesc) (i : KInst) : Nat :=
  let ds := s.kdims p x
  if i.wave ≠ 0 then ds.getD i.waveDim 0 else if i.half = 1 then ds.reverse.getD i.dim 0 else ds.getD i.dim 0

/-- Sends ABORT to both neighbours in every ring of the group (R349). -/
def State.sendAborts (s : State) (d slot desc p num reason : Nat) : State :=
  let x := s.kdesc d slot desc
  (s.kdims p x).foldl (fun st dim =>
    [true, false].foldl (fun st2 plus => (st2.sendMsg d p (st2.kdir p x dim plus) (st2.kmsg d slot desc p 4 dim num reason)).2) st) s

/-- One instance aborts at this member (R349): it ends, ABORT goes out, the record is posted. One that is committing goes on. -/
def State.abortInst (s : State) (d key code reason : Nat) : State :=
  match s.kinst d key with
  | none => s
  | some i =>
    if !i.active ∨ i.state = 4 then s
    else
      let slot := key / 256
      let desc := key % 256
      let p := (s.slotPol d slot).getD 0
      let x := s.kdesc d slot desc
      let ph := s.kphase p x i
      let s1 := s.setKinst d key { desc := desc, num := i.num, state := 5 }
      let s2 := (((s1.sendAborts d slot desc p i.num code).bump (pgKnd d) 0x180 0 1)).kndErr d slot desc i.num code
      s2.fault { code := code, page := pgKnd d, cls := 4, action := 6, detail := kndDetail slot desc ph i.step i.num reason }

/-- Every instance of a polder's slots aborts (R349, R351, R401). -/
def State.abortPolder (s : State) (p code : Nat) : State :=
  (s.bound 3 p).foldl (fun st k =>
    ((st.knd (k / 16)).activeKeys (some (k % 16))).foldl (fun st2 key => st2.abortInst (k / 16) key code code) st) s

end Sys2Proof.Machine
end

