-- ==== Sys2Proof/Machine/Numeric.lean ====
section
/-!
DEFINITION. Number formats, exact decoding, rounding and re-encoding (02_number_formats.md R46 to R70) and the IEEE operations
the engines are made of (05_matrix_vector.md R164, R173). Every value is held exactly: a sign, a magnitude and a power of two.
-/
namespace Sys2Proof.Machine

/-- A decoded element: NaN, an infinity, or the finite value (−1)^neg × m × 2^e (R48). -/
inductive FV where
  | nan
  | inf (neg : Bool)
  | fin (neg : Bool) (m : Nat) (e : Int)
deriving DecidableEq, Repr

/-- Position of the leading one of a non-zero magnitude. -/
def floorLog2 (m : Nat) : Nat := Nat.log2 m

/-- (exponent bits, mantissa bits, bias) of a floating-point format code (R47, Table 2-2). -/
def fmtParams : Nat → Nat × Nat × Nat
  | 0 => (8, 23, 127)
  | 1 => (8, 7, 127)
  | 2 => (5, 10, 15)
  | 3 => (5, 10, 15)
  | 4 => (4, 3, 7)
  | 5 => (5, 2, 15)
  | 6 => (3, 2, 3)
  | 7 => (2, 1, 1)
  | _ => (0, 0, 0)

/-- Element width in bits (R46, Table 2-1). -/
def fmtWidth : Nat → Nat
  | 0 => 32 | 1 => 16 | 2 => 16 | 3 => 16 | 4 => 8 | 5 => 8 | 6 => 6 | 7 => 4 | 8 => 8 | 9 => 32
  | _ => 8

/-- Elements per loaf (R46, Table 2-1). -/
def epl : Nat → Nat
  | 0 => 128 | 1 => 256 | 2 => 256 | 3 => 256 | 4 => 512 | 5 => 512 | 6 => 672 | 7 => 1024 | 8 => 512 | 9 => 128
  | _ => 512

/-- Formats with an infinity (Table 2-2). -/
def fmtHasInf (f : Nat) : Bool := f == 0 || f == 1 || f == 2 || f == 3 || f == 5

/-- Formats with a NaN code (Table 2-2). -/
def fmtHasNaN (f : Nat) : Bool := f ≤ 5

/-- Integer formats (R51). -/
def fmtIsInt (f : Nat) : Bool := f == 8 || f == 9

/-- Block size of a side of a conversion: 32, or 64 for SF16; 1 where neither block-scaled nor SF16 (R53, R59). -/
def blkSize (f : Nat) (blk : Bool) : Nat := if f == 3 then 64 else if blk then 32 else 1

/-- The block mode R54 allows a format. -/
def blkModeOk (f : Nat) (blk : Bool) : Bool :=
  if f == 6 || f == 7 then blk else if f == 4 || f == 5 || f == 8 then true else !blk

/-- Canonical NaN codes (R50, Table 2-3). -/
def canonNaN : Nat → Nat
  | 0 => 0x7FC00000 | 1 => 0x7FC0 | 2 => 0x7E00 | 3 => 0x7E00 | 4 => 0x7F | 5 => 0x7E
  | _ => 0

/-- The finite code of largest magnitude, sign clear (Table 2-2). -/
def maxFiniteCode : Nat → Nat
  | 0 => 0x7F7FFFFF | 1 => 0x7F7F | 2 => 0x7BFF | 3 => 0x7BFF | 4 => 0x7E | 5 => 0x7B | 6 => 0x1F | 7 => 0x7
  | _ => 0

/-- The infinity code of a format that has one, sign clear. -/
def infCode : Nat → Nat
  | 0 => 0x7F800000 | 1 => 0x7F80 | 2 => 0x7C00 | 3 => 0x7C00 | 5 => 0x7C
  | _ => 0

/-- The sign bit of a floating-point format. -/
def signBit (f : Nat) : Nat := 2 ^ (fmtWidth f - 1)

/-- A code with the sign put on it. -/
def withSign (f : Nat) (neg : Bool) (c : Nat) : Nat := if neg then c + signBit f else c

/-- An integer as an exact value (integers have no −0, R49). -/
def fvOfInt (x : Int) (e : Int) : FV := .fin (decide (x < 0)) x.natAbs e

/-- The exact value of one element code, without any block scale (R48, R51, R59). -/
def decodeElem (f : Nat) (blk : Bool) (c : Nat) : FV :=
  if f == 8 then fvOfInt (sext 8 c) (if blk then -6 else 0)
  else if f == 9 then fvOfInt (sext 32 c) 0
  else
    let (eb, mb, bias) := fmtParams f
    let neg := bitOf c (eb + mb)
    let e := bitsOf c (eb + mb - 1) mb
    let m := c % 2 ^ mb
    if f == 4 && e == 15 && m == 7 then .nan
    else if fmtHasInf f && e == 2 ^ eb - 1 then (if m == 0 then .inf neg else .nan)
    else if e == 0 then .fin neg m (1 - (bias : Int) - mb)
    else .fin neg (2 ^ mb + m) ((e : Int) - bias - mb)

/-- A value under an E8M0 scale code (R52, R58: scale 0xFF makes it NaN). -/
def applyScale (v : FV) (sc : Nat) : FV :=
  if sc == 0xFF then .nan else
    match v with
    | .fin n m e => .fin n m (e + (sc : Int) - 127)
    | x => x

/-- The RDS mixing step (R65). -/
def rdsMix (z : Nat) : Nat :=
  let z := (z ^^^ (z >>> 31)) * 0xB7E30A59C62D1F95 % 2 ^ 64
  let z := (z ^^^ (z >>> 29)) * 0xE53A94D17B0C68AF % 2 ^ 64
  z ^^^ (z >>> 32)

/-- Rotate a 64-bit number left (R14). -/
def rotl64 (x n : Nat) : Nat := ((x <<< n) % 2 ^ 64) ||| (x >>> (64 - n))

/-- The random bits of one element (R65). -/
def rdsBits (seed tag idx step : Nat) : Nat :=
  let key := rdsMix (seed ^^^ rotl64 (step % 2 ^ 32) 16 ^^^ ((tag % 2 ^ 16) <<< 48))
  let z := rdsMix (key ^^^ (idx * 0x9C4F2A6B5E81D3C7 % 2 ^ 64))
  z >>> 48

/-- Rounding modes (Table 2-7); `up` is the rounding toward +Inf of magnitudes that AMAX uses (R72). -/
inductive Rnd where
  | rne | rtz | rds (u : Nat) | up
deriving DecidableEq, Repr

/-- Rounded count of spacings 2^`ue` in the magnitude m × 2^e, and whether anything was dropped (R63). -/
def roundTo (rnd : Rnd) (m : Nat) (e ue : Int) : Nat × Bool :=
  if ue ≤ e then (m * 2 ^ (e - ue).toNat, false)
  else
    let sh := (ue - e).toNat
    let k := m / 2 ^ sh
    let rem := m % 2 ^ sh
    let k' := match rnd with
      | .rne => if 2 * rem > 2 ^ sh || (2 * rem == 2 ^ sh && k % 2 == 1) then k + 1 else k
      | .rtz => k
      | .rds u => if rem * 65536 / 2 ^ sh + u ≥ 65536 then k + 1 else k
      | .up => if rem == 0 then k else k + 1
    (k', rem != 0)

/-- The unbounded-exponent code of a rounded floating-point magnitude, sign clear, and whether it differs from the value
(R63: binade E, spacing 2^(E−p); a code above the format's largest is an overflow, R67). -/
def roundFloat (f : Nat) (rnd : Rnd) (m : Nat) (e : Int) : Nat × Bool :=
  let (_, mb, bias) := fmtParams f
  let emin : Int := 1 - (bias : Int)
  let E : Int := max ((floorLog2 m : Int) + e) emin
  let (k, inx) := roundTo rnd m e (E - mb)
  (((E - emin).toNat) * 2 ^ mb + k, inx)

/-- What one element's conversion gives (R63 to R70): its code, flag bits as TILE_CVx_FLAGS numbers them, the count increments,
whether it poisons its block and how, and the special kinds its result is. -/
structure ElemOut where
  code : Nat := 0
  flags : Nat := 0
  nanInc : Nat := 0
  ovfInc : Nat := 0
  poisonNaN : Bool := false
  poisonOvf : Bool := false
  resNaN : Bool := false
  resInf : Bool := false
deriving DecidableEq, Repr

/-- A destination without NaN code in block-scaled mode: E3M2, E2M1, block-scaled INT8 (Table 2-10). -/
def poisonDst (f : Nat) (blk : Bool) : Bool := blk && (f == 6 || f == 7 || f == 8)

/-- The representable code of largest magnitude with a sign (R68). -/
def largestCode (f : Nat) (neg : Bool) : Nat :=
  if f == 8 then (if neg then 0x80 else 0x7F)
  else if f == 9 then (if neg then 0x80000000 else 0x7FFFFFFF)
  else withSign f neg (maxFiniteCode f)

/-- Conversion of one exact source value to the destination under its block scale (R63 to R70, Tables 2-9 and 2-10).
`nanovf` is the control word's ovf bit; `sc` the destination scale code (127 where there is none). -/
def convElem (f : Nat) (blk : Bool) (rnd : Rnd) (nanovf : Bool) (sc : Nat) (v : FV) : ElemOut :=
  match v with
  | .nan =>
    if fmtHasNaN f then { code := canonNaN f, flags := 1, nanInc := 1, resNaN := true }
    else if poisonDst f blk then { flags := 1 + 64, nanInc := 1, poisonNaN := true }
    else { flags := 1 + 32, nanInc := 1 }
  | .inf neg =>
    if fmtHasInf f then { code := withSign f neg (infCode f), flags := 2, resInf := true }
    else if f == 4 then
      if nanovf then { code := 0x7F, flags := 2 + 4, ovfInc := 1, nanInc := 1, resNaN := true }
      else { code := largestCode 4 neg, flags := 2 + 4, ovfInc := 1 }
    else if poisonDst f blk then
      if nanovf then { flags := 2 + 4 + 64, ovfInc := 1, poisonOvf := true, resNaN := true }
      else { code := largestCode f neg, flags := 2 + 4, ovfInc := 1 }
    else { code := largestCode f neg, flags := 2 + 4, ovfInc := 1 }
  | .fin neg m e =>
    if m == 0 then { code := if fmtIsInt f then 0 else withSign f neg 0 }
    else
      let e' : Int := e - ((sc : Int) - 127)
      if fmtIsInt f then
        let (k, inx) := roundTo rnd m e' (if blk then -6 else 0)
        let w := fmtWidth f
        let lim := if neg then 2 ^ (w - 1) else 2 ^ (w - 1) - 1
        let fl := if inx then 16 else 0
        if k > lim then
          if blk && nanovf then { flags := fl + 4 + 64, ovfInc := 1, poisonOvf := true, resNaN := true }
          else { code := largestCode f neg, flags := fl + 4, ovfInc := 1 }
        else if k == 0 then { flags := fl + 8 }
        else { code := toU w (if neg then -(k : Int) else k), flags := fl }
      else
        let (c, inx) := roundFloat f rnd m e'
        let fl := if inx then 16 else 0
        if c > maxFiniteCode f then
          if fmtHasInf f then
            if rnd == .rtz then { code := largestCode f neg, flags := fl + 4, ovfInc := 1 }
            else { code := withSign f neg (infCode f), flags := fl + 4, ovfInc := 1, resInf := true }
          else if f == 4 then
            if nanovf then { code := 0x7F, flags := fl + 4, ovfInc := 1, nanInc := 1, resNaN := true }
            else { code := largestCode f neg, flags := fl + 4, ovfInc := 1 }
          else if nanovf then { flags := fl + 4 + 64, ovfInc := 1, poisonOvf := true, resNaN := true }
          else { code := largestCode f neg, flags := fl + 4, ovfInc := 1 }
        else if c == 0 then { code := withSign f neg 0, flags := fl + 8 }
        else { code := withSign f neg c, flags := fl }

/-- Exponent of the largest element under AUTO (R57, Table 2-6). -/
def autoEmax : Nat → Nat
  | 4 => 8 | 5 => 15 | 6 => 4 | 7 => 2 | 8 => 0 | 3 => 14
  | _ => 0

/-- Whether the magnitude m₁ × 2^e₁ is at least m₂ × 2^e₂. -/
def magGe (m₁ : Nat) (e₁ : Int) (m₂ : Nat) (e₂ : Int) : Bool :=
  let lo := min e₁ e₂
  m₁ * 2 ^ (e₁ - lo).toNat ≥ m₂ * 2 ^ (e₂ - lo).toNat

/-- The largest finite magnitude of a list of values, 0 where there is none (R57, R73). -/
def amaxOf : List FV → Nat × Int
  | [] => (0, 0)
  | v :: vs =>
    let (m, e) := amaxOf vs
    match v with
    | .fin _ m' e' => if magGe m e m' e' then (m, e) else (m', e')
    | _ => (m, e)

/-- The AUTO scale code of a block (R57). -/
def autoScale (f : Nat) (vs : List FV) : Nat :=
  let (m, e) := amaxOf vs
  if m == 0 then 0x7F
  else
    let c : Int := (floorLog2 m : Int) + e - autoEmax f + 127
    if c < 0 then 0 else if c > 254 then 254 else c.toNat

/-- A magnitude as FP32 bits rounded toward +Inf, saturated at the largest finite value, and whether it saturated (R72). -/
def amaxFp32 (m : Nat) (e : Int) : Nat × Bool :=
  if m == 0 then (0, false)
  else
    let (c, _) := roundFloat 0 .up m e
    if c > 0x7F7FFFFF then (0x7F7FFFFF, true) else (c, false)

/-- The value an AMAX slot takes when an FP32 magnitude is merged into it (R72: a NaN, a negative value or −0 gives way,
+Inf stays). -/
def amaxMerge (slot mag : Nat) : Nat :=
  if bitOf slot 31 then mag
  else if slot % 2 ^ 31 > 0x7F800000 then mag
  else max slot mag

/-- Exact sum of two signed dyadics as an integer mantissa and exponent. -/
def dyAdd (a : Int) (ea : Int) (b : Int) (eb : Int) : Int × Int :=
  let lo := min ea eb
  (a * 2 ^ (ea - lo).toNat + b * 2 ^ (eb - lo).toNat, lo)

/-- The signed mantissa of a finite value. -/
def signed (neg : Bool) (m : Nat) : Int := if neg then -(m : Int) else m

/-- One rounding of an exact finite value to a format with infinities under RNE: the code, and whether it overflowed
(R164, R165, R173; Table 2-9). `zneg` is the sign of an exact zero. -/
def rneCode (f : Nat) (x : Int) (e : Int) (zneg : Bool) : Nat × Bool :=
  if x == 0 then (withSign f zneg 0, false)
  else
    let (c, _) := roundFloat f .rne x.natAbs e
    if c > maxFiniteCode f then (withSign f (decide (x < 0)) (infCode f), true)
    else (withSign f (decide (x < 0)) c, false)

/-- The flag conditions an engine operation raises: invalid, overflow, underflow to zero, division by zero, NaN or Inf input. -/
structure OpFlags where
  nanIn : Bool := false
  infIn : Bool := false
  inv : Bool := false
  dz : Bool := false
  ovf : Bool := false
  unf : Bool := false
  iovf : Bool := false
deriving DecidableEq, Repr

/-- Both sets of conditions. -/
def OpFlags.or (a b : OpFlags) : OpFlags :=
  { nanIn := a.nanIn || b.nanIn, infIn := a.infIn || b.infIn, inv := a.inv || b.inv, dz := a.dz || b.dz
    ovf := a.ovf || b.ovf, unf := a.unf || b.unf, iovf := a.iovf || b.iovf }

/-- One rounding of an exact value with the underflow condition of Table 5-7 added: non-zero that becomes zero. -/
def rneOp (f : Nat) (x : Int) (e : Int) (zneg : Bool) : Nat × OpFlags :=
  let (c, o) := rneCode f x e zneg
  (c, { ovf := o, unf := decide (x ≠ 0) && c % signBit f == 0 })

/-- IEEE x × y + z with one rounding to format `f` (R173; x + y is x × 1 + y, x × y has no z). NaN results are canonical. -/
def fvFma (f : Nat) (x y : FV) (z : Option FV) : Nat × OpFlags :=
  let bad : Nat × OpFlags := (canonNaN f, {})
  let inv : Nat × OpFlags := (canonNaN f, { inv := true })
  let sgn : FV → Bool := fun v => match v with | .fin n _ _ => n | .inf n => n | .nan => false
  let pneg := sgn x != sgn y
  match x, y, z with
  | .nan, _, _ => bad
  | _, .nan, _ => bad
  | _, _, some .nan => bad
  | .inf _, .fin _ 0 _, _ => inv
  | .fin _ 0 _, .inf _, _ => inv
  | .fin _ m e, .fin _ m' e', none =>
      rneOp f (signed pneg (m * m')) (e + e') pneg
  | .fin _ m e, .fin _ m' e', some (.fin zn zm ze) =>
      let p := signed pneg (m * m')
      let (s, se) := dyAdd p (e + e') (signed zn zm) ze
      rneOp f s se (if m * m' == 0 && zm == 0 then pneg && zn else false)
  | .fin _ _ _, .fin _ _ _, some (.inf zn) => (withSign f zn (infCode f), {})
  | _, _, some (.inf zn) => if zn == pneg then (withSign f zn (infCode f), {}) else inv
  | _, _, _ => (withSign f pneg (infCode f), {})

/-- The value 1. -/
def fvOne : FV := .fin false 1 0

/-- IEEE x + y with one rounding. -/
def fvAdd (f : Nat) (x y : FV) : Nat × OpFlags := fvFma f x fvOne (some y)

/-- A value with its sign turned (NaN stays). -/
def fvNeg : FV → FV
  | .fin n m e => .fin (!n) m e
  | .inf n => .inf (!n)
  | .nan => .nan

/-- Whether x is below y, −0 below +0 (R173). -/
def fvLt (x y : FV) : Bool :=
  match x, y with
  | .nan, _ => false
  | _, .nan => false
  | .inf nx, .inf ny => nx && !ny
  | .inf nx, _ => nx
  | _, .inf ny => !ny
  | .fin nx mx ex, .fin ny my ey =>
    let d := (dyAdd (signed nx mx) ex (-(signed ny my)) ey).1
    if d == 0 then (mx == 0 && my == 0 && nx && !ny) else decide (d < 0)

/-- IEEE comparison of two values, −0 equal to +0; none where either is NaN (R107). -/
def fvCmp (x y : FV) : Option Ordering :=
  match x, y with
  | .nan, _ => none
  | _, .nan => none
  | .fin _ mx ex, .fin ny my ey =>
    let nx := match x with | .fin n _ _ => n | _ => false
    some (compare ((dyAdd (signed nx mx) ex (-(signed ny my)) ey).1) 0)
  | a, b => some (if fvLt a b then .lt else if fvLt b a then .gt else .eq)

/-- One rounding of the positive rational q × 2^e with something dropped below q where `sticky` (q holds enough bits). -/
def rneSticky (f : Nat) (neg : Bool) (q : Nat) (e : Int) (sticky : Bool) : Nat × OpFlags :=
  rneOp f (signed neg (2 * q + b2n sticky)) (e - 1) neg

/-- 1 / x (R175, Table 5-7). -/
def fvRcp (f : Nat) : FV → Nat × OpFlags
  | .nan => (canonNaN f, { nanIn := true })
  | .inf n => (withSign f n 0, { infIn := true })
  | .fin n 0 _ => (withSign f n (infCode f), { dz := true })
  | .fin n m e =>
    let t := 64 + floorLog2 m
    rneSticky f n (2 ^ t / m) (-(t : Int) - e) (2 ^ t % m != 0)

/-- Integer square root by bits from `b` down. -/
def isqrt : Nat → Nat → Nat → Nat
  | 0, _, r => r
  | b + 1, x, r => if (r + 2 ^ b) * (r + 2 ^ b) ≤ x then isqrt b x (r + 2 ^ b) else isqrt b x r

/-- 1 / √x (R175, Table 5-7). -/
def fvRsqrt (f : Nat) : FV → Nat × OpFlags
  | .nan => (canonNaN f, { nanIn := true })
  | .inf false => (0, { infIn := true })
  | .inf true => (canonNaN f, { inv := true })
  | .fin n 0 _ => (withSign f n (infCode f), { dz := true })
  | .fin true _ _ => (canonNaN f, { inv := true })
  | .fin false m e =>
    let (m, e) := if e % 2 == 0 then (m, e) else (2 * m, e - 1)
    let t := 64 + floorLog2 m
    let q := isqrt (t + 1) (2 ^ (2 * t) / m) 0
    rneSticky f false q (-(t : Int) - e / 2) (q * q * m != 2 ^ (2 * t))

/-- ln 2 × 2^p from below, error under (p + 2) units: the series Σ 1 / (n 2^n). -/
def ln2Fix (p : Nat) : Nat := (List.range p).foldl (fun acc i => acc + 2 ^ p / ((i + 1) * 2 ^ (i + 1))) 0

/-- e^r × 2^p for r = `r` / 2^p in [0, 1): the Taylor sum with `n` terms left, each term floored. -/
def expTaylor (p r : Nat) : Nat → Nat → Nat → Nat → Nat
  | 0, _, _, acc => acc
  | n + 1, i, term, acc =>
    let term' := term * r / 2 ^ p / i
    expTaylor p r n (i + 1) term' (acc + term')

/-- A bracket lo ≤ value × 2^s < hi of e^x for the exact non-zero x = ± m × 2^e with |x| < 128, as (lo, hi, s), at working
precision `p` (R175). -/
def expBracket (p : Nat) (neg : Bool) (m : Nat) (e : Int) : Nat × Nat × Int :=
  let w := p + 32
  let X : Int := signed neg (if e + w ≥ 0 then m * 2 ^ (e + w).toNat else m / 2 ^ (-(e + w)).toNat)
  let L : Int := ln2Fix w
  let k : Int := X / L
  let r : Nat := (X - k * L).toNat
  let t := expTaylor w r (w + 8) 1 (2 ^ w) (2 ^ w)
  (t - 2 ^ 24, t + 2 ^ 24, (w : Int) - k)

/-- The code both ends of a bracket round to, if they agree; `neg` is the sign put on it. -/
def bracketRound (f : Nat) (neg : Bool) (b : Nat × Nat × Int) : Option (Nat × OpFlags) :=
  let lo := rneSticky f neg b.1 (-b.2.2) true
  let hi := rneSticky f neg b.2.1 (-b.2.2) true
  if lo == hi then some lo else none

/-- The first precision of the list whose bracket decides the rounding. -/
def firstBracket (f : Nat) (neg : Bool) (br : Nat → Nat × Nat × Int) : List Nat → Option (Nat × OpFlags)
  | [] => none
  | p :: ps => match bracketRound f neg (br p) with
    | some r => some r
    | none => firstBracket f neg br ps

/-- The working precisions tried in turn. -/
def precisions : List Nat := [80, 140, 260, 520]

/-- e^x, correctly rounded (R175, Table 5-7); none where no tried precision decides. -/
def fvExp (f : Nat) : FV → Option (Nat × OpFlags)
  | .nan => some (canonNaN f, { nanIn := true })
  | .inf true => some (0, { infIn := true })
  | .inf false => some (infCode f, { infIn := true })
  | .fin neg m e =>
    let (one, _) := rneCode f 1 0 false
    if m == 0 then some (one, {})
    else if (floorLog2 m : Int) + e < -26 then some (one, {})
    else if magGe m e 105 0 then
      if neg then some (0, { unf := true }) else some (infCode f, { ovf := true })
    else firstBracket f false (fun p => expBracket p neg m e) precisions

/-- ln f × 2^w for f = m / 2^s in [1, 2), from below: 2 atanh((f−1)/(f+1)) summed with `n` terms. -/
def lnSeries (w y2 : Nat) : Nat → Nat → Nat → Nat → Nat
  | 0, _, _, acc => acc
  | n + 1, i, pw, acc => lnSeries w y2 n (i + 1) (pw * y2 / 2 ^ w) (acc + 2 * pw / (2 * i + 1))

/-- A bracket of log₂ x for x = m × 2^e, x not a power of two: sign and (lo, hi, s) of its magnitude. -/
def log2Bracket (p : Nat) (m : Nat) (e : Int) : Bool × (Nat × Nat × Int) :=
  let w := p + 32
  let lg := floorLog2 m
  let k : Int := (lg : Int) + e
  let y := (m - 2 ^ lg) * 2 ^ w / (m + 2 ^ lg)
  let ln := lnSeries w (y * y / 2 ^ w) (w + 8) 0 y 0
  let frac := ln * 2 ^ w / ln2Fix w
  let v : Int := k * 2 ^ w + frac
  (decide (v < 0), (v.natAbs - 2 ^ 24, v.natAbs + 2 ^ 24, w))

/-- log₂ x, correctly rounded (R175, Table 5-7). -/
def fvLog2 (f : Nat) : FV → Option (Nat × OpFlags)
  | .nan => some (canonNaN f, { nanIn := true })
  | .inf false => some (infCode f, { infIn := true })
  | .inf true => some (canonNaN f, { inv := true })
  | .fin n m e =>
    if m == 0 then some (withSign f true (infCode f), { dz := true })
    else if n then some (canonNaN f, { inv := true })
    else if m == 2 ^ floorLog2 m then
      let k : Int := (floorLog2 m : Int) + e
      some (rneOp f k 0 false)
    else
      let neg := (log2Bracket 80 m e).1
      firstBracket f neg (fun p => (log2Bracket p m e).2) precisions

/-- A bracket of tanh x, x = m × 2^e > 0: (E − 1) / (E + 1) with E = e^(2x) bracketed. -/
def tanhBracket (p : Nat) (m : Nat) (e : Int) : Nat × Nat × Int :=
  let (lo, hi, s) := expBracket (p + 40) false m (e + 1)
  let one : Nat := if s ≥ 0 then 2 ^ s.toNat else 0
  ((lo - one) * 2 ^ p / (lo + one), (hi - one) * 2 ^ p / (hi + one) + 1, p)

/-- tanh x, correctly rounded (R175, Table 5-7). -/
def fvTanh (f : Nat) : FV → Option (Nat × OpFlags)
  | .nan => some (canonNaN f, { nanIn := true })
  | .inf n => some ((rneCode f (signed n 1) 0 n).1, { infIn := true })
  | .fin n m e =>
    if m == 0 then some (withSign f n 0, {})
    else if (floorLog2 m : Int) + e ≤ -13 then some (rneOp f (signed n m) e n)
    else if magGe m e 16 0 then some ((rneCode f (signed n 1) 0 n).1, {})
    else firstBracket f n (fun p => tanhBracket p m e) precisions

end Sys2Proof.Machine
end

