-- ==== Sys2Proof/Machine/Convert.lean ====
section
/-!
DEFINITION. Whole conversions: the conversion control word, block scales, block poisoning, AMAX gathering and the trap point
(02_number_formats.md R53 to R80), and the packing of element arrays into loaves (R55, R71).
-/
namespace Sys2Proof.Machine

/-- Control-word fields (R61, Table 2-7). -/
def ccwSrc (c : Nat) : Nat := bitsOf c 3 0
def ccwDst (c : Nat) : Nat := bitsOf c 7 4
def ccwRnd (c : Nat) : Nat := bitsOf c 9 8
def ccwNanOvf (c : Nat) : Bool := bitOf c 10
def ccwSrcBlk (c : Nat) : Bool := bitOf c 11
def ccwDstBlk (c : Nat) : Bool := bitOf c 12
def ccwScaleSrc (c : Nat) : Nat := bitsOf c 14 13
def ccwAmaxSlot (c : Nat) : Nat := bitsOf c 16 15
def ccwAmaxBlk (c : Nat) : Bool := bitOf c 17
def ccwAmaxClr (c : Nat) : Bool := bitOf c 18
def ccwScaleReg (c : Nat) : Nat := bitsOf c 23 19

/-- The destination carries scales: block-scaled or SF16 (R57). -/
def ccwDstScaled (c : Nat) : Bool := ccwDstBlk c || ccwDst c == 3

/-- The source carries scales: block-scaled or SF16 (R58, R59). -/
def ccwSrcScaled (c : Nat) : Bool := ccwSrcBlk c || ccwSrc c == 3

/-- INT32 pairs only with FP32, INT8 and itself (R62). -/
def int32PairOk (s d : Nat) : Bool :=
  (s != 9 || d == 0 || d == 8 || d == 9) && (d != 9 || s == 0 || s == 8 || s == 9)

/-- A control word that is a legal encoding (R46, R54, R61, R62). -/
def ccwLegal (c : Nat) : Bool :=
  ccwSrc c ≤ 9 && ccwDst c ≤ 9 && ccwRnd c != 3 && ccwScaleSrc c != 3 &&
  blkModeOk (ccwSrc c) (ccwSrcBlk c) && blkModeOk (ccwDst c) (ccwDstBlk c) &&
  (ccwDstScaled c || ccwScaleSrc c == 0) && (ccwScaleSrc c == 1 || ccwScaleReg c == 0) &&
  c / 2 ^ 24 == 0 && int32PairOk (ccwSrc c) (ccwDst c)

/-- The same-format copy of R132. SF16 is left to the conversion rules, because its group scales are rewritten (DEDUCED). -/
def ccwCopy (c : Nat) : Bool := ccwSrc c == ccwDst c && !ccwSrcBlk c && !ccwDstBlk c && ccwSrc c != 3

/-- Block size that the element count of a conversion must be a multiple of (R56). -/
def ccwBlockMultiple (c : Nat) : Nat := max (blkSize (ccwSrc c) (ccwSrcBlk c)) (blkSize (ccwDst c) (ccwDstBlk c))

/-- Pieces of `u` elements (the last may be shorter); `n` bounds the number of pieces. -/
def pieces {α : Type} : Nat → Nat → List α → List (List α)
  | 0, _, _ => []
  | n + 1, u, xs => if xs.isEmpty then [] else xs.take u :: pieces n u (xs.drop u)

/-- The element codes of one 512-byte loaf (R55: dense little-endian packing, E3M2 padded at the top). -/
def unpackLoaf (f : Nat) (bs : List Byte) : List Nat :=
  let v := leNat bs
  (List.range (epl f)).map (fun i => bitsOf v (fmtWidth f * i + fmtWidth f - 1) (fmtWidth f * i))

/-- One loaf of element codes, the unfilled rest zero codes (R55, R71). -/
def packLoaf (f : Nat) (cs : List Nat) : List Byte :=
  natLE 512 (cs.foldr (fun c acc => c % 2 ^ fmtWidth f + acc * 2 ^ fmtWidth f) 0)

/-- The loaves of an element array (R71). -/
def packElems (f : Nat) (cs : List Nat) : List (List Byte) := (pieces cs.length (epl f) cs).map (packLoaf f)

/-- The loaves of a byte array such as a scale array, the last padded with zeros (R71). -/
def packBytes (bs : List Nat) : List (List Byte) :=
  (pieces bs.length 512 bs).map (fun p => padTo 512 (p.map (BitVec.ofNat 8)))

/-- The loaves of a per-block amax array (R73). -/
def packAmax (vs : List Nat) : List (List Byte) :=
  (pieces vs.length 128 vs).map (fun p => padTo 512 (p.flatMap (natLE 4)))

/-- One decoded source element: its code, its exact value, whether a 0xFF scale made it NaN. -/
structure SrcElem where
  code : Nat
  val : FV
  ff : Bool
deriving DecidableEq, Repr

/-- Source elements decoded under their scales (R53, R58, R59). -/
def decodeSrc (f : Nat) (blk : Bool) (codes scales : List Nat) : List SrcElem :=
  let u := blkSize f blk
  codes.mapIdx (fun i c =>
    if u == 1 then ⟨c, decodeElem f false c, false⟩
    else
      let sc := scales.getD (i / u) 0
      ⟨c, applyScale (decodeElem f blk c) sc, sc == 0xFF⟩)

/-- What fixes a conversion beside its control word: the given scale of GIVEN_REG, the given scale array, and the RDS and trap inputs. -/
structure ConvCtx where
  givenReg : Nat := 0
  given : List Nat := []
  seed : Nat := 0
  step : Nat := 0
  tag : Nat := 0
  base : Nat := 0
  trapSel : Nat := 0
deriving DecidableEq, Repr

/-- A trap found in a conversion: element index, cause bits (Table 2-15), source bits, and the other triggers of its cycle (R80). -/
structure TrapAt where
  idx : Nat
  cause : Nat
  bits : Nat
  later : Nat := 0
deriving DecidableEq, Repr

/-- What a conversion gives: destination codes, scales, flags (as TILE_CVx_FLAGS), count increments, per-block amax, the merged
magnitude, and the trap. -/
structure ConvOut where
  codes : List Nat := []
  scales : List Nat := []
  flags : Nat := 0
  nanInc : Nat := 0
  ovfInc : Nat := 0
  amax : Option Nat := none
  blkAmax : List Nat := []
  causes : List (Nat × Nat) := []
  trap : Option TrapAt := none
deriving DecidableEq, Repr

/-- The rounding of one element (R63, R66: idx is the base plus the element's position, modulo 2⁶⁴). -/
def elemRnd (c : Nat) (x : ConvCtx) (i : Nat) : Rnd :=
  match ccwRnd c with
  | 0 => .rne
  | 1 => .rtz
  | _ => .rds (rdsBits x.seed x.tag ((x.base + i) % 2 ^ 64) x.step)

/-- Bits of a cause mask that trap_sel selects (R76, Table 2-15). -/
def causeSel (trapSel : Nat) : Nat := (if bitOf trapSel 0 then 3 else 0) + (if bitOf trapSel 1 then 12 else 0)

/-- Source bits of a cause mask (Table 2-15). -/
def srcCause (v : FV) : Nat := match v with | .nan => 1 | .inf _ => 4 | _ => 0

/-- Whether a value is finite. -/
def fvFinite (v : FV) : Bool := match v with | .fin _ _ _ => true | _ => false

/-- The first position whose trigger is selected, with its cause. -/
def firstTrap (sel : Nat) : Nat → List (Nat × Nat) → Option (Nat × Nat)
  | _, [] => none
  | i, (cause, extra) :: cs =>
    if cause &&& sel ≠ 0 then some (i, (cause &&& sel) ||| extra) else firstTrap sel (i + 1) cs

/-- The prefix of a list up to and including position `i`, the whole list where there is none. -/
def upTo {α : Type} (i : Option Nat) (xs : List α) : List α := match i with | none => xs | some k => xs.take (k + 1)

/-- One destination block: codes, scale, flags, counts and the trigger causes of its elements (R57, R68, R70, R76, R77). `b0` is the
index of its first element, `u` its full size; only elements up to `cut` contribute to flags and counts. -/
def convBlock (c : Nat) (x : ConvCtx) (b0 u : Nat) (blk : List SrcElem) (cut : Option Nat) : ConvOut :=
  let d := ccwDst c
  let scaled := ccwDstScaled c
  let sc :=
    if !scaled then 127
    else match ccwScaleSrc c with
      | 0 => autoScale d (blk.map (·.val))
      | 1 => x.givenReg % 256
      | _ => x.given.getD (b0 / u) 0
  let gff := scaled && sc == 0xFF
  let outs := blk.mapIdx (fun i e =>
    if gff then
      let o := convElem d (ccwDstBlk c) .rtz (ccwNanOvf c) 127 (match e.val with | .fin n _ _ => .fin n 0 0 | v => v)
      { code := 0, flags := o.flags ||| 64, nanInc := 0, ovfInc := o.ovfInc, poisonOvf := true : ElemOut }
    else convElem d (ccwDstBlk c) (elemRnd c x (b0 + i)) (ccwNanOvf c) sc e.val)
  let poisoned := gff || outs.any (fun o => o.poisonNaN || o.poisonOvf)
  let pre := upTo cut outs
  let nan := if pre.any (·.poisonOvf) then u else pre.foldl (fun a o => a + o.nanInc) 0
  { codes := if poisoned then blk.map (fun _ => 0)
             else if ccwCopy c then blk.map (·.code) else outs.map (·.code)
    scales := if scaled then [if poisoned then 0xFF else sc] else []
    flags := pre.foldl (fun a o => a ||| o.flags) 0
    nanInc := nan
    ovfInc := pre.foldl (fun a o => a + o.ovfInc) 0
    causes := (blk.zip outs).mapIdx (fun i (e, o) =>
      (srcCause e.val ||| (if gff then (if i == 0 then 2 else 0) else (if o.resNaN then 2 else 0) ||| (if o.resInf then 8 else 0)),
       if e.ff || poisoned then 16 else 0)) }

/-- The blocks of a conversion in order, none after the one that holds element `cut` (R77). -/
def convBlocks (c : Nat) (x : ConvCtx) (u : Nat) (cut : Option Nat) : Nat → List (List SrcElem) → ConvOut
  | _, [] => {}
  | b0, blk :: bs =>
    let here := match cut with | some k => decide (k < b0 + blk.length) | none => false
    let o := convBlock c x b0 u blk (if here then cut.map (· - b0) else none)
    if here then o
    else
      let r := convBlocks c x u cut (b0 + blk.length) bs
      { codes := o.codes ++ r.codes, scales := o.scales ++ r.scales, flags := o.flags ||| r.flags
        nanInc := o.nanInc + r.nanInc, ovfInc := o.ovfInc + r.ovfInc, causes := o.causes ++ r.causes }

/-- Size of the amax blocks (R73). -/
def amaxBlk (c : Nat) : Nat := if ccwDstScaled c then blkSize (ccwDst c) (ccwDstBlk c) else 32

/-- A conversion whose contributions stop after element `cut` (R61 to R73, R77): what it writes, merges and flags. -/
def convCut (c : Nat) (x : ConvCtx) (src : List SrcElem) (cut : Option Nat) : ConvOut :=
  let u := blkSize (ccwDst c) (ccwDstBlk c)
  let o := convBlocks c x u cut 0 (pieces src.length u src)
  let seen := upTo cut src
  let fin := seen.filter (fun e => fvFinite e.val)
  let (m, e) := amaxOf (fin.map (·.val))
  let (bits, sat) := amaxFp32 m e
  let blks := if ccwAmaxBlk c then (pieces seen.length (amaxBlk c) seen).map (fun p => let (m, e) := amaxOf (p.map (·.val)); amaxFp32 m e) else []
  { o with
    amax := if fin.isEmpty then none else some bits
    blkAmax := blks.map (·.1)
    flags := o.flags ||| (if sat || blks.any (·.2) then 128 else 0) }

/-- Triggers after position `i` in the run of `g` elements that one cycle takes (R80, Table 5-9). -/
def sameCycle (sel g i : Nat) (causes : List (Nat × Nat)) : Nat :=
  ((causes.take ((i / g + 1) * g)).drop (i + 1)).countP (fun c => c.1 &&& sel ≠ 0)

/-- A whole conversion of decoded source elements with its trap, if one is selected and met (R76 to R78). -/
def convRun (c : Nat) (x : ConvCtx) (src : List SrcElem) : ConvOut :=
  let full := convCut c x src none
  match firstTrap (causeSel x.trapSel) 0 full.causes with
  | none => full
  | some (i, cause) =>
    { convCut c x src (some i) with trap := some ⟨i, cause, (src.getD i ⟨0, .nan, false⟩).code, sameCycle (causeSel x.trapSel) (epl (ccwSrc c) / 2) i full.causes⟩ }

end Sys2Proof.Machine
end

