-- ==== Sys2Proof/Machine/Matrix.lean ====
section
/-!
DEFINITION. The matrix engine's arithmetic (05_matrix_vector.md R161 to R169, R178): chunk sums, scaling, accumulation into C,
special values, flags, counts and the trap order.
-/
namespace Sys2Proof.Machine

/-- Arithmetic paths (R161, Table 5-1). -/
inductive MmPath where
  | long | tree | int
deriving DecidableEq, Repr

/-- A 16-bit matrix format. -/
def mm16 (f : Nat) : Bool := f == 1 || f == 2 || f == 3

/-- A format of the second row of Table 4-8. -/
def mmRow2 (f : Nat) : Bool := 1 ≤ f && f ≤ 7

/-- The legal operand pairs (R135, Table 4-8) with their block modes (R54). -/
def mmPairLegal (fa fb : Nat) (ba bb cint : Bool) : Bool :=
  blkModeOk fa ba && blkModeOk fb bb &&
  ((fa == 0 && fb == 0 && !cint) || (mmRow2 fa && mmRow2 fb && !cint) ||
   (fa == 8 && fb == 8 && !ba && !bb && cint) || (fa == 8 && fb == 8 && ba && bb && !cint))

/-- The path of a pair (Table 5-1). -/
def mmPath (fa fb : Nat) (ba : Bool) : MmPath :=
  if fa == 8 && !ba then .int
  else if fa == 0 || mm16 fa || mm16 fb then .tree
  else .long

/-- TCLK cycles per chunk of a pair (Table 5-1). -/
def mmCycles (fa fb : Nat) : Nat :=
  if fa == 0 then 2048
  else if mm16 fa || mm16 fb then 128
  else if (fa == 6 || fa == 7) && (fb == 6 || fb == 7) then 16
  else 32

/-- Chunks per loaf (R136, Table 4-9). -/
def cpl (f : Nat) : Nat :=
  if f == 0 then 4 else if mm16 f then 8 else if f == 6 then 21 else if f == 7 then 32 else 16

/-- Index of the scale byte of chunk j of row r in the operand's scale stream (R162). -/
def mmScaleIdx (f j r : Nat) : Nat :=
  if f == 3 then (j / 8 * 32 + r) * 4 + j % 8 / 2
  else (j / cpl f * 32 + r) * cpl f + j % cpl f

/-- One operand strip: its format and block bit, the codes of each of its 32 rows in K order, its scale bytes. -/
structure MmOperand where
  fmt : Nat
  blk : Bool
  rows : List (List Nat)
  scales : List Nat
deriving DecidableEq, Repr

/-- The scale code of chunk j of row r, 127 without block scales (R162). -/
def mmScale (o : MmOperand) (j r : Nat) : Nat :=
  if o.blk || o.fmt == 3 then o.scales.getD (mmScaleIdx o.fmt j r) 0 else 127

/-- The 32 element codes of chunk j of row r. -/
def mmChunkCodes (o : MmOperand) (j r : Nat) : List Nat := ((o.rows.getD r []).drop (32 * j)).take 32

/-- The decoded elements of chunk j of row r, all NaN under a 0xFF scale (R162, R58). -/
def mmChunk (o : MmOperand) (j r : Nat) : List FV :=
  let ff := mmScale o j r == 0xFF
  (mmChunkCodes o j r).map (fun c => if ff then .nan else decodeElem o.fmt o.blk c)

/-- The exact product of two finite values. -/
def fvMulExact (x y : FV) : Int × Int :=
  match x, y with
  | .fin n m e, .fin n' m' e' => (signed (n != n') (m * m'), e + e')
  | _, _ => (0, 0)

/-- The exact sum of 32 products (R163). -/
def longSum : List (FV × FV) → Int × Int
  | [] => (0, 0)
  | (x, y) :: ps => let (a, ea) := fvMulExact x y; let (b, eb) := longSum ps; dyAdd a ea b eb

/-- One level of the tree: adjacent pairs added in FP32 (R164). -/
def treeLevel : List FV → List FV × OpFlags
  | x :: y :: r =>
    let (c, f) := fvAdd 0 x y
    let (cs, f') := treeLevel r
    (decodeElem 0 false c :: cs, f.or f')
  | r => (r, {})

/-- The fixed binary tree (R164, R165): `n` levels. -/
def treeSum : Nat → List FV → FV × OpFlags
  | 0, ps => (ps.getD 0 (.fin false 0 0), {})
  | n + 1, ps => let (q, f) := treeLevel ps; let (s, f') := treeSum n q; (s, f.or f')

/-- A value times 2^k. -/
def fvShift (v : FV) (k : Int) : FV := match v with | .fin n m e => .fin n m (e + k) | x => x

/-- Product of an infinity and a zero. -/
def infTimesZero (x y : FV) : Bool :=
  match x, y with
  | .inf _, .fin _ 0 _ => true
  | .fin _ 0 _, .inf _ => true
  | _, _ => false

/-- The sign of an infinite product, if the product is one. -/
def infProd (x y : FV) : Option Bool :=
  match x, y with
  | .inf n, .inf n' => some (n != n')
  | .inf n, .fin n' (_ + 1) _ => some (n != n')
  | .fin n (_ + 1) _, .inf n' => some (n != n')
  | _, _ => none

/-- Whether a value is an infinity. -/
def FV.isInf : FV → Bool
  | .inf _ => true
  | _ => false

/-- The 32-bit code and TILE_MX_FLAGS conditions of one output element after one chunk, and whether it overflowed or wrapped
(R165, R167, R169). Flag bits: 0 nan_in, 1 inf_in, 2 inv, 3 ovf, 4 iovf, 5 blk_nan. -/
def mmElem (path : MmPath) (a b : List FV) (sa sb : Nat) (c : Nat) : Nat × Nat × Bool :=
  match path with
  | .int =>
    let s := (longSum (a.zip b)).1
    let exact := sext 32 c + s
    let w := decide (exact < -(2 ^ 31 : Int)) || decide (exact > 2 ^ 31 - 1)
    (toU 32 exact, if w then 16 else 0, w)
  | _ =>
    let cv := decodeElem 0 false c
    let cNaN := cv == .nan
    let ff := sa == 0xFF || sb == 0xFF
    let eNaN := ff || a.any (· == .nan) || b.any (· == .nan)
    let ps := a.zip b
    let bad := ps.any (fun p => infTimesZero p.1 p.2)
    let pos := ps.any (fun p => infProd p.1 p.2 == some false)
    let neg := ps.any (fun p => infProd p.1 p.2 == some true)
    let fl := (if cNaN || eNaN then 1 else 0) + (if a.any FV.isInf || b.any FV.isInf then 2 else 0) + (if bad || (pos && neg) then 4 else 0)
              + (if ff then 32 else 0)
    if cNaN || eNaN || bad || (pos && neg) then (canonNaN 0, fl, false)
    else
      let (s, tf) : FV × OpFlags :=
        if pos then (.inf false, {}) else if neg then (.inf true, {})
        else match path with
          | .tree =>
            let prods := ps.map (fun p => fvFma 0 p.1 p.2 none)
            let (s, f) := treeSum 5 (prods.map (fun p => decodeElem 0 false p.1))
            (s, { f with ovf := f.ovf || prods.any (fun p => p.2.ovf) })
          | _ => let (m, e) := longSum ps; (.fin (decide (m < 0)) m.natAbs e, {})
      let (c', f') := fvFma 0 (fvShift s ((sa : Int) + sb - 254)) fvOne (some cv)
      let o := tf.ovf || f'.ovf
      (c', fl ||| (if tf.inv || f'.inv then 4 else 0) ||| (if o then 8 else 0), o)

/-- A trap of the matrix engine (R178, R179): element index, cause, source bits, and the walker position that holds it
(operand 0 = A, 1 = B, 2 = C). -/
structure MmTrap where
  idx : Nat
  cause : Nat
  bits : Nat
  opnd : Nat
  pos : Nat
deriving DecidableEq, Repr

/-- What an MM gives: C, flags, the count increments, the trap. -/
structure MmOut where
  c : List Nat := []
  flags : Nat := 0
  nanInc : Nat := 0
  ovfInc : Nat := 0
  trap : Option MmTrap := none
deriving DecidableEq, Repr

/-- First trap among operand elements in row-major order. -/
def mmOperandTrap (sel base opnd : Nat) (o : MmOperand) (j : Nat) : Option MmTrap :=
  ((List.range 32).flatMap (fun r =>
    ((mmChunk o j r).zip (mmChunkCodes o j r)).mapIdx (fun k (v, code) =>
      (r, k, v, code)))).findSome? (fun (r, k, v, code) =>
    let cause := srcCause v &&& sel
    if cause ≠ 0 then
      some ⟨base + r * 32 + k, cause ||| (if mmScale o j r == 0xFF then 16 else 0), code, opnd, j / cpl o.fmt * 32 + r⟩
    else none)

/-- First trap among the C elements: `res` tells results (bits 1, 3) from MMA inputs (bits 0, 2). -/
def mmCTrap (sel base : Nat) (res : Bool) (c : List Nat) : Option MmTrap :=
  (c.mapIdx (fun i x => (i, x))).findSome? (fun (i, x) =>
    let s := srcCause (decodeElem 0 false x)
    let cause := (if res then 2 * s else s) &&& sel
    if cause ≠ 0 then some ⟨(base + i) % 2 ^ 32, cause, x, 2, i / 32 / 4⟩ else none)

/-- Chunks j, j + 1, … of an MM over the 32 × 32 outputs, stopping after a chunk that traps (R165, R178). `marks` holds the outputs
that have overflowed or wrapped. -/
def mmChunks (path : MmPath) (a b : MmOperand) (sel : Nat) : Nat → Nat → List Nat → List Bool → Nat → MmOut
  | 0, _, c, marks, flags =>
    { c, flags, ovfInc := marks.countP id
      nanInc := if path == .int then 0 else c.countP (fun x => decodeElem 0 false x == .nan) }
  | n + 1, j, c, marks, flags =>
    let as_ := (List.range 32).map (mmChunk a j)
    let bs_ := (List.range 32).map (mmChunk b j)
    let outs := c.mapIdx (fun i x =>
      mmElem path (as_.getD (i / 32) []) (bs_.getD (i % 32) []) (mmScale a j (i / 32)) (mmScale b j (i % 32)) x)
    let c' := outs.map (·.1)
    let flags' := outs.foldl (fun f o => f ||| o.2.1) flags
    let base := 1024 + j * 3072
    let tr := if sel == 0 then none else
      (mmOperandTrap sel base 0 a j).orElse (fun _ => (mmOperandTrap sel (base + 1024) 1 b j).orElse
        (fun _ => if path == .int then none else mmCTrap sel (base + 2048) true c'))
    match tr with
    | some t => { c := c', flags := flags', trap := some { t with idx := t.idx % 2 ^ 32 } }
    | none => mmChunks path a b sel n (j + 1) c' (marks.zipWith (fun m o => m || o.2.2) outs) flags'

/-- A whole MM over C as read (MMA), whose NaN and Inf elements set nan_in and inf_in, or the start value of MMZ (R165), with trap_sel (R178). -/
def mmRun (a b : MmOperand) (mma : Bool) (trapSel kc : Nat) (cIn : List Nat) : MmOut :=
  let path := mmPath a.fmt b.fmt a.blk
  let sel := causeSel trapSel
  let c0 := if mma then cIn else List.replicate 1024 (if path == .int then 0 else 0x80000000)
  let tr := if mma && path != .int && sel != 0 then mmCTrap sel 0 false c0 else none
  let fl := if !mma || path == .int then 0
    else (if c0.any (fun x => decodeElem 0 false x == .nan) then 1 else 0) + (if c0.any (fun x => (decodeElem 0 false x).isInf) then 2 else 0)
  match tr with
  | some t => { c := c0, flags := fl, trap := some t }
  | none => mmChunks path a b sel kc 0 c0 (List.replicate 1024 false) fl

end Sys2Proof.Machine
end

