-- ==== Sys2Proof/Machine/Vector.lean ====
section
/-!
DEFINITION. The vector unit's arithmetic (05_matrix_vector.md R172 to R176, R180, R181): lane operations, special functions,
reductions, and the joint order of lane triggers and unit V's conversion.
-/
namespace Sys2Proof.Machine

/-- Inputs a vector operation reads (Table 4-11): (y, z, a, REDUCE, valid on INT32 lanes); none for an unlisted code. -/
def vopInfo : Nat → Option (Bool × Bool × Bool × Bool × Bool)
  | 0x00 => some (false, false, false, false, true)
  | 0x01 => some (true, false, false, false, true)
  | 0x02 => some (true, false, false, false, true)
  | 0x03 => some (true, false, false, false, true)
  | 0x04 => some (true, true, false, false, false)
  | 0x05 => some (true, false, false, false, true)
  | 0x06 => some (true, false, false, false, true)
  | 0x07 => some (false, false, false, false, true)
  | 0x08 => some (false, false, false, false, true)
  | 0x10 => some (false, false, false, false, false)
  | 0x11 => some (false, false, false, false, false)
  | 0x12 => some (false, false, false, false, false)
  | 0x13 => some (false, false, false, false, false)
  | 0x14 => some (false, false, false, false, false)
  | 0x20 => some (false, false, true, false, true)
  | 0x21 => some (false, false, true, false, true)
  | 0x22 => some (true, false, true, false, false)
  | 0x23 => some (false, false, true, false, true)
  | 0x40 => some (false, false, false, true, true)
  | 0x41 => some (false, false, false, true, true)
  | 0x42 => some (false, false, false, true, true)
  | 0x43 => some (false, false, false, true, false)
  | _ => none

/-- TILE_VU_FLAGS bits of a set of conditions (R181). -/
def vuBits (f : OpFlags) : Nat :=
  b2n f.nanIn + 2 * b2n f.infIn + 4 * b2n f.inv + 8 * b2n f.dz + 16 * b2n f.ovf + 32 * b2n f.unf + 64 * b2n f.iovf

/-- The input conditions of a value (R180, R181). -/
def inFlags (v : FV) : OpFlags := match v with | .nan => { nanIn := true } | .inf _ => { infIn := true } | _ => {}

/-- A code with NaN made canonical (R50, R173). -/
def canonCode (f c : Nat) : Nat := if decodeElem f false c == .nan then canonNaN f else c

/-- The larger (or smaller) of two float codes: NaN wins, −0 below +0 (R173). -/
def floatPick (f : Nat) (wantMax : Bool) (a b : Nat) : Nat :=
  let x := decodeElem f false a
  let y := decodeElem f false b
  if x == .nan || y == .nan then canonNaN f
  else if wantMax then (if fvLt x y then b else a) else (if fvLt y x then b else a)

/-- A 32-bit result of an exact integer, and whether it wrapped (R173). -/
def wrap32 (x : Int) : Nat × OpFlags := (toU 32 x, { iovf := decide (x < -(2 ^ 31 : Int)) || decide (x > 2 ^ 31 - 1) })

/-- One INT32 lane (R173). -/
def laneInt (vop x y a : Nat) : Nat × OpFlags :=
  let sx := sext 32 x
  let b := if vop ≥ 0x20 then sext 32 a else sext 32 y
  match vop with
  | 0x01 | 0x20 => wrap32 (sx + b)
  | 0x02 => wrap32 (sx - b)
  | 0x03 | 0x21 => wrap32 (sx * b)
  | 0x05 | 0x23 => (toU 32 (max sx b), {})
  | 0x06 => (toU 32 (min sx b), {})
  | 0x07 => wrap32 sx.natAbs
  | 0x08 => wrap32 (-sx)
  | _ => (x, {})

/-- The special functions (R175); none where no working precision decides the rounding. -/
def laneSpecial (f vop : Nat) (x : FV) : Option (Nat × OpFlags) :=
  match vop with
  | 0x10 => fvExp f x
  | 0x11 => fvLog2 f x
  | 0x12 => some (fvRcp f x)
  | 0x13 => some (fvRsqrt f x)
  | _ => fvTanh f x

/-- A special function of the vector unit. -/
def vopSpecial (vop : Nat) : Bool := 0x10 ≤ vop && vop ≤ 0x14

/-- One float lane: the result code and its conditions (R173, R175). `free` stands for a result no tried precision decides. -/
def laneFloat (free f vop x y z a : Nat) : Nat × OpFlags :=
  let vx := decodeElem f false x
  let vy := decodeElem f false y
  let vz := decodeElem f false z
  let va := decodeElem f false a
  let inx := inFlags vx
  let iny := inFlags vy
  let ina := inFlags va
  let w (r : Nat × OpFlags) (i : OpFlags) : Nat × OpFlags := (r.1, r.2.or i)
  match vop with
  | 0x00 => (canonCode f x, inx)
  | 0x01 => w (fvAdd f vx vy) (inx.or iny)
  | 0x02 => w (fvAdd f vx (fvNeg vy)) (inx.or iny)
  | 0x03 => w (fvFma f vx vy none) (inx.or iny)
  | 0x04 => w (fvFma f vx vy (some vz)) (inx.or (iny.or (inFlags vz)))
  | 0x05 => (floatPick f true x y, inx.or iny)
  | 0x06 => (floatPick f false x y, inx.or iny)
  | 0x07 => (if vx == .nan then canonNaN f else x % signBit f, inx)
  | 0x08 => (if vx == .nan then canonNaN f else x ^^^ signBit f, inx)
  | 0x20 => w (fvAdd f vx va) (inx.or ina)
  | 0x21 => w (fvFma f vx va none) (inx.or ina)
  | 0x22 => w (fvFma f vx va (some vy)) (inx.or (iny.or ina))
  | 0x23 => (floatPick f true x a, inx.or ina)
  | _ => (laneSpecial f vop vx).getD (free, {})

/-- One MAP lane in lane format `f`. -/
def laneMap (free f vop x y z a : Nat) : Nat × OpFlags :=
  if f == 9 then laneInt vop x y a else laneFloat free f vop x y z a

/-- Trigger causes of an input code, none on integer lanes (R180). -/
def laneSrcCause (f c : Nat) : Nat := if f == 9 then 0 else srcCause (decodeElem f false c)

/-- Lane count of a lane format (R172). -/
def laneCount (f : Nat) : Nat := if f == 1 then 128 else 64

/-- The reduction identities (Table 5-8) as FP32 codes, or 64-bit integers on INT32 lanes. -/
def redIdentity (f vop : Nat) : Nat :=
  if f == 9 then (match vop with | 0x41 => toU 64 (-(2 ^ 31)) | 0x42 => 2 ^ 31 - 1 | _ => 0)
  else (match vop with | 0x41 => 0xFF800000 | 0x42 => 0x7F800000 | _ => 0x80000000)

/-- A lane value widened to the accumulator: FP32 code, or 64-bit integer (R176). -/
def redWiden (f x : Nat) : Nat := if f == 9 then toU 64 (sext 32 x) else if f == 1 then x * 65536 else x

/-- combine(op, a, b) of Table 5-8. -/
def redCombine (f vop a b : Nat) : Nat × OpFlags :=
  if f == 9 then
    (match vop with
      | 0x41 => (toU 64 (max (sext 64 a) (sext 64 b)), {})
      | 0x42 => (toU 64 (min (sext 64 a) (sext 64 b)), {})
      | _ => ((a + b) % 2 ^ 64, {}))
  else match vop with
    | 0x41 => (floatPick 0 true a b, {})
    | 0x42 => (floatPick 0 false a b, {})
    | _ => fvAdd 0 (decodeElem 0 false a) (decodeElem 0 false b)

/-- step(op, acc, x) of Table 5-8. -/
def redStep (f vop acc x : Nat) : Nat × OpFlags :=
  let xw := redWiden f x
  if f != 9 && vop == 0x43 then
    let v := decodeElem 0 false xw
    fvFma 0 v v (some (decodeElem 0 false acc))
  else redCombine f vop acc xw

/-- Lane accumulation in walk order (R176). -/
def redLanes (f vop : Nat) : Nat → List Nat → List Nat → OpFlags → List Nat × OpFlags
  | _, acc, [], fl => (acc, fl)
  | i, acc, x :: xs, fl =>
    let l := i % laneCount f
    let (v, g) := redStep f vop (acc.getD l 0) x
    redLanes f vop (i + 1) (acc.set l v) xs (fl.or g)

/-- The final tree over `n` halvings (R176). -/
def redTree (f vop : Nat) : Nat → List Nat → OpFlags → Nat × OpFlags
  | 0, acc, fl => (acc.getD 0 0, fl)
  | n + 1, acc, fl =>
    let h := acc.length / 2
    let outs := (acc.take h).zipWith (redCombine f vop) (acc.drop h)
    redTree f vop n (outs.map (·.1)) (outs.foldl (fun g o => g.or o.2) fl)

/-- A REDUCE: the lane-format result and its conditions (R176, R181). -/
def redRun (f vop : Nat) (xs : List Nat) : Nat × OpFlags :=
  let acc0 := List.replicate (laneCount f) (redIdentity f vop)
  let inf := if f == 9 then {} else xs.foldl (fun g x => g.or (inFlags (decodeElem f false x))) {}
  let (acc, fl) := redLanes f vop 0 acc0 xs inf
  let (r, fl) := redTree f vop (if f == 1 then 7 else 6) acc fl
  if f == 9 then
    let s := sext 64 r
    (toU 32 s, { fl with iovf := fl.iovf || decide (s < -(2 ^ 31 : Int)) || decide (s > 2 ^ 31 - 1) })
  else if f == 1 then
    match decodeElem 0 false r with
    | .fin n m e => let (c, g) := rneOp 1 (signed n m) e n; (c, fl.or g)
    | .inf n => (withSign 1 n (infCode 1), fl)
    | .nan => (canonNaN 1, fl)
  else (r, fl)

/-- What a VEC gives: unit V's conversion, TILE_VU_FLAGS bits, lane counts, and the trap (R180, R181). -/
structure VecOut where
  conv : ConvOut := {}
  flags : Nat := 0
  nanInc : Nat := 0
  ovfInc : Nat := 0
  trap : Option TrapAt := none
deriving DecidableEq, Repr

/-- The lane elements as a conversion source. -/
def laneSrc (f : Nat) (cs : List Nat) : List SrcElem := cs.map (fun c => ⟨c, decodeElem f false c, false⟩)

/-- Whether a lane code is NaN. -/
def laneNaN (f c : Nat) : Bool := f != 9 && decodeElem f false c == .nan

/-- One position of a MAP: its input codes in the order x, y, z, a, its result and conditions. -/
structure LanePos where
  inputs : List Nat
  res : Nat
  fl : OpFlags
deriving DecidableEq, Repr

/-- Trap at a position: bits 0 and 2 from inputs, 1 and 3 from the lane result and the conversion (R180). -/
def vecCause (f : Nat) (p : LanePos) (cv : Nat × Nat) : Nat × Nat :=
  ((p.inputs.foldl (fun a c => a ||| laneSrcCause f c) 0) ||| (2 * laneSrcCause f p.res) ||| (cv.1 &&& 10), cv.2)

/-- src_bits of a trap: the first input of a selected kind, else the lane result (R180). -/
def vecBits (f sel : Nat) (p : LanePos) : Nat :=
  (p.inputs.find? (fun c => laneSrcCause f c &&& sel ≠ 0)).getD p.res

/-- Elements the lanes take in one cycle (Table 5-9). -/
def laneRate (f vop : Nat) : Nat :=
  laneCount f / (if vop = 0x12 ∨ vop = 0x13 then 2 else if 0x10 ≤ vop ∧ vop ≤ 0x14 then 4 else 1)

/-- A MAP over its positions (R173, R180, R181). -/
def vecMapRun (ccw vop : Nat) (x : ConvCtx) (ps : List LanePos) : VecOut :=
  let f := ccwSrc ccw
  let src := laneSrc f (ps.map (·.res))
  let full := convCut ccw { x with trapSel := 0 } src none
  let causes := (ps.zip full.causes).map (fun (p, cv) => vecCause f p cv)
  let tr := firstTrap (causeSel x.trapSel) 0 causes
  let pre := upTo (tr.map (·.1)) ps
  { conv := match tr with | none => full | some (i, _) => convCut ccw { x with trapSel := 0 } src (some i)
    flags := vuBits (pre.foldl (fun g p => g.or p.fl) {})
    nanInc := pre.countP (fun p => laneNaN f p.res)
    ovfInc := pre.countP (fun p => p.fl.ovf || p.fl.iovf)
    trap := tr.map (fun (i, cause) => ⟨i, cause, vecBits f (causeSel x.trapSel) (ps.getD i ⟨[], 0, {}⟩), sameCycle (causeSel x.trapSel) (laneRate f vop) i causes⟩) }

/-- A REDUCE: inputs at 0 to E − 1, the result and its conversion at E (R176, R180). -/
def vecReduceRun (ccw vop : Nat) (x : ConvCtx) (xs : List Nat) : VecOut :=
  let f := ccwSrc ccw
  let sel := causeSel x.trapSel
  let (r, fl) := redRun f vop xs
  let causes := xs.map (fun c => (laneSrcCause f c, 0))
  let inTr := firstTrap sel 0 causes
  match inTr with
  | some (i, cause) =>
    { flags := vuBits ((xs.take (i + 1)).foldl (fun g c => g.or (if f == 9 then {} else inFlags (decodeElem f false c))) {})
      trap := some ⟨i, cause, xs.getD i 0, sameCycle sel (laneCount f) i causes⟩ }
  | none =>
    let cv := convCut ccw { x with trapSel := 0 } (laneSrc f [r]) none
    let tr := firstTrap sel 0 [((2 * laneSrcCause f r) ||| ((cv.causes.getD 0 (0, 0)).1 &&& 10), (cv.causes.getD 0 (0, 0)).2)]
    { conv := cv, flags := vuBits fl, nanInc := b2n (laneNaN f r), ovfInc := b2n (fl.ovf || fl.iovf)
      trap := tr.map (fun (_, cause) => ⟨xs.length, cause, r, 0⟩) }

end Sys2Proof.Machine
end

