-- ==== Sys2Proof/Machine/Operands.lean ====
section
/-!
DEFINITION. The fields and operand forms of the tile's commands (04_command_set.md R118 to R156): header, walker operands and the positions they
consume, declared ranges, the registers a command reads and writes, and the decode checks of Table 4-5. A command is taken as a number.
-/
namespace Sys2Proof.Machine

/-- Word `i` of a command: 0 = H, 1 to 3 = A0 to A2, 4 to 7 = D0 to D3 (R118). -/
def cw (c i : Nat) : Nat := bitsOf c (32 * i + 31) (32 * i)

/-- Field [hi:lo] of word `i` of a command. -/
def cf (c i hi lo : Nat) : Nat := bitsOf (cw c i) hi lo

/-- Class code (Table 4-1). -/
def cClass (c : Nat) : Nat := cf c 0 3 0
/-- Operation within the class. -/
def cOp (c : Nat) : Nat := cf c 0 7 4
/-- Predicate register. -/
def cPred (c : Nat) : Nat := cf c 0 10 8
/-- Predicate inversion. -/
def cPneg (c : Nat) : Nat := cf c 0 11 11
/-- Declared ranges. -/
def cNrng (c : Nat) : Nat := cf c 0 14 12
/-- Whether the count comes from a register. -/
def cCreg (c : Nat) : Bool := cf c 0 15 15 == 1
/-- The count field. -/
def cCount (c : Nat) : Nat := cf c 0 31 16

/-- Number of operations of a class (Table 4-2). -/
def opsOf : Nat → Nat
  | 1 => 2 | 2 => 2 | 3 => 2 | 4 => 3 | 5 => 2 | 6 => 4 | 7 => 1 | 8 => 7 | 9 => 4 | 10 => 8 | 11 => 3 | 12 => 1 | 13 => 1 | 14 => 1 | _ => 0

/-- Whether the class and op use no count (Table 4-2 "None"; R121). -/
def noCount (cls op : Nat) : Bool :=
  (cls == 6 && op == 1) || cls == 8 || (cls == 9 && (op == 0 || op == 2)) || cls == 10 || cls == 12 || cls == 13 || cls == 14

/-- Whether the class and op must declare no range (R126). -/
def noRange (cls op : Nat) : Bool := cls == 7 || cls == 13 || cls == 14 || (cls == 6 && op != 2) || cls == 8

/-- The conversion control word of a MOVE, CONV or VEC. -/
def cCcw (c : Nat) : Nat := cw c 1

/-- Whether a MOVE or CONV converts (R131, R132). -/
def cCvt (c : Nat) : Bool := cClass c == 4 || cf c 2 30 30 == 1

/-- Whether a MOVE uses 128-byte positions on its memory side. -/
def cGran (c : Nat) : Bool := cClass c == 1 && cf c 2 31 31 == 1

/-- Whether a command is a mover store-path command whose destination is memory. -/
def cIsStore (c : Nat) : Bool := cClass c == 1 && cOp c == 1

/-- Blocks of a side of a conversion of `e` elements (R53, R59). -/
def blocksOf (f : Nat) (blk : Bool) (e : Nat) : Nat := ceilDiv e (blkSize f blk)

/-- Amax blocks of a conversion of `e` elements (R73). -/
def amaxBlocks (ccw e : Nat) : Nat := ceilDiv e (amaxBlk ccw)

/-- What space an operand requires (Table 4-3). -/
inductive SpaceReq where
  | local_ | segment | any
deriving DecidableEq, Repr

/-- One walker operand of a command (R122): its name's index, whether it is used, its walker, start bit, required space and positions. -/
structure OpSlot where
  used : Bool
  wlk : Nat
  start : Nat
  req : SpaceReq
  n : Nat
deriving DecidableEq, Repr

/-- The four scale and amax operands of a MOVE or CONV (Table 4-6): zs, zd, zg, za. -/
def auxSlots (c e : Nat) : List OpSlot :=
  let w := cCcw c
  let req := if cClass c = 4 then SpaceReq.local_ else .any
  [ ⟨ccwSrcScaled w, cf c 2 11 8, cf c 2 26 26, req, ceilDiv (blocksOf (ccwSrc w) (ccwSrcBlk w) e) 512⟩,
    ⟨ccwDstScaled w, cf c 2 15 12, cf c 2 27 27, req, ceilDiv (blocksOf (ccwDst w) (ccwDstBlk w) e) 512⟩,
    ⟨ccwScaleSrc w == 2, cf c 2 19 16, cf c 2 28 28, req, ceilDiv (ceilDiv e (if ccwDst w = 3 then 64 else 32)) 512⟩,
    ⟨ccwAmaxBlk w, cf c 2 23 20, cf c 2 29 29, req, ceilDiv (amaxBlocks w e) 128⟩ ]

/-- The walker operands of a command with count `e` (Table 4-3), in the order of its operand table. -/
def opSlots (c e : Nat) : List OpSlot :=
  let op := cOp c
  match cClass c with
  | 1 =>
    let w := cCcw c
    let memN (f : Nat) : Nat := if cCvt c then ceilDiv e (epl f) * (if cGran c then 4 else 1) else e
    let scrN (f : Nat) : Nat := if cCvt c then ceilDiv e (epl f) else if cGran c then ceilDiv e 4 else e
    let src : OpSlot := ⟨true, cf c 2 3 0, cf c 2 24 24, if op = 0 then .segment else .local_, if op = 0 then memN (ccwSrc w) else scrN (ccwSrc w)⟩
    let dst : OpSlot := ⟨true, cf c 2 7 4, cf c 2 25 25, if op = 0 then .local_ else .segment, if op = 0 then scrN (ccwDst w) else memN (ccwDst w)⟩
    src :: dst :: auxSlots c e
  | 4 =>
    let w := cCcw c
    ⟨true, cf c 2 3 0, cf c 2 24 24, .local_, ceilDiv e (epl (ccwSrc w))⟩ :: ⟨true, cf c 2 7 4, cf c 2 25 25, .local_, ceilDiv e (epl (ccwDst w))⟩
      :: auxSlots c e
  | 2 =>
    let fa := cf c 1 3 0
    let fb := cf c 1 7 4
    let zn (f : Nat) : Nat := ceilDiv (32 * ceilDiv e (cpl f) * (if f = 3 then cpl f / 2 else cpl f)) 512
    [ ⟨true, cf c 1 19 16, cf c 2 8 8, .local_, 32 * ceilDiv e (cpl fa)⟩, ⟨true, cf c 1 23 20, cf c 2 9 9, .local_, 32 * ceilDiv e (cpl fb)⟩,
      ⟨true, cf c 1 27 24, cf c 2 10 10, .local_, 8⟩,
      ⟨cf c 1 8 8 == 1 || fa == 3, cf c 2 3 0, cf c 2 11 11, .local_, zn fa⟩, ⟨cf c 1 9 9 == 1 || fb == 3, cf c 2 7 4, cf c 2 12 12, .local_, zn fb⟩ ]
  | 3 =>
    let w := cCcw c
    let (uy, uz) := match vopInfo (cf c 2 7 0) with | some (y, z, _) => (y, z) | none => (false, false)
    let n := ceilDiv e (epl (ccwSrc w))
    let r := if op = 1 then 1 else e
    [ ⟨true, cf c 2 11 8, cf c 3 26 26, .local_, n⟩, ⟨uy, cf c 2 15 12, cf c 3 27 27, .local_, n⟩, ⟨uz, cf c 2 19 16, cf c 3 28 28, .local_, n⟩,
      ⟨true, cf c 2 23 20, cf c 3 29 29, .local_, ceilDiv r (epl (ccwDst w))⟩,
      ⟨ccwDstScaled w, cf c 2 27 24, cf c 3 30 30, .local_, ceilDiv (blocksOf (ccwDst w) (ccwDstBlk w) r) 512⟩,
      ⟨ccwAmaxBlk w, cf c 2 31 28, cf c 3 31 31, .local_, ceilDiv (amaxBlocks w r) 128⟩ ]
  | 5 => [⟨true, cf c 1 15 12, cf c 1 16 16, .local_, e⟩]
  | 9 => if op = 1 ∨ op = 3 then [⟨true, cf c 1 11 8, cf c 1 12 12, .local_, e⟩] else []
  | 11 => [ ⟨true, cf c 1 11 8, cf c 1 16 16, .local_, ceilDiv e (epl (cf c 1 3 0))⟩,
            ⟨op != 0, cf c 1 15 12, cf c 1 17 17, .local_, if op = 2 then 1 else ceilDiv e 4096⟩ ]
  | _ => []

/-- Whether a list holds one number twice. -/
def hasDup : List Nat → Bool
  | [] => false
  | x :: xs => xs.contains x || hasDup xs

/-- Unused operands are zero and used ones name different walkers (R123). -/
def slotsOk (c : Nat) : Bool :=
  let ss := opSlots c 1
  ss.all (fun s => s.used || (s.wlk == 0 && s.start == 0)) && !hasDup ((ss.filter (·.used)).map (·.wlk))

/-- Form of the range descriptors (R124). -/
def rangesOk (c : Nat) : Bool :=
  (List.range 4).all (fun i =>
    let d := cw c (4 + i)
    if cNrng c ≤ i then d == 0
    else
      (if bitOf d 1 then bitOf d 4 else bitsOf d 3 2 == 0) &&
      (!bitOf d 4 || bitsOf d 15 11 == 0) &&
      (if bitOf d 5 then bitsOf d 31 21 == 0 else bitsOf d 31 16 != 0))

/-- Form of the count (R121). -/
def countOk (c : Nat) : Bool :=
  if noCount (cClass c) (cOp c) then cCount c == 0 && !cCreg c
  else if cCreg c then bitsOf (cCount c) 15 5 == 0
  else cCount c != 0

/-- The RDS inputs are zero unless the rounding is RDS (Table 4-6). -/
def rdsOk (c : Nat) : Bool := ccwRnd (cCcw c) == 2 || cf c 3 20 0 == 0

/-- Lines that a MOVE STORE writes in its element stream (R257). -/
def storeLines (c e : Nat) : Nat :=
  let n := ((opSlots c e).map (·.n)).getD 1 0
  if cGran c then n else 4 * n

/-- Lines of a MOVE STORE's scale and amax arrays whose walker stands in a segment, by the spaces of its walkers (R257). -/
def storeAuxLines (c e : Nat) (space : Nat → Nat) : Nat :=
  let ss := opSlots c e
  let one (i : Nat) : Nat := match ss[i]? with
    | some s => if s.used ∧ 4 ≤ space s.wlk then 4 * s.n else 0
    | none => 0
  one 3 + one 5

/-- Class-specific field checks (R120, R126, R130 to R156); `hasStream` tells whether the image's table holds a stream. -/
def fieldsOk (c : Nat) (hasStream : Nat → Bool) : Bool :=
  let op := cOp c
  match cClass c with
  | 1 => (if cCvt c then ccwLegal (cCcw c) && rdsOk c else cCcw c == 0 && cf c 3 20 0 == 0) && cf c 3 31 21 == 0 &&
         (op == 0 || cCreg c || storeLines c (cCount c) ≤ 16384)
  | 4 => ccwLegal (cCcw c) && rdsOk c && cf c 3 31 21 == 0 && cf c 2 31 30 == 0
  | 2 => mmPairLegal (cf c 1 3 0) (cf c 1 7 4) (cf c 1 8 8 == 1) (cf c 1 9 9 == 1) (cf c 1 10 10 == 1) &&
         cf c 1 15 11 == 0 && cf c 1 31 28 == 0 && cf c 2 31 13 == 0 && cw c 3 == 0
  | 3 =>
    let w := cCcw c
    let f := ccwSrc w
    match vopInfo (cf c 2 7 0) with
    | none => false
    | some (_, _, ua, red, int) =>
      ccwLegal w && rdsOk c && ccwScaleSrc w != 2 && !ccwSrcBlk w && (f == 0 || f == 1 || (f == 9 && int)) && red == (op == 1) &&
      (op == 0 || !ccwDstScaled w) && (ua || cf c 3 25 21 == 0)
  | 5 => cf c 1 31 17 == 0 && cw c 2 == 0 && cw c 3 == 0 && hasStream (cf c 1 11 0)
  | 6 => cw c 2 == 0 && cw c 3 == 0 &&
         (if op = 0 then cw c 1 == 0 else if op = 1 then cf c 1 31 16 == 0 else cf c 1 7 6 == 0 && cf c 1 31 16 == 0)
  | 7 => cf c 1 31 29 == 0 && cw c 2 == 0 && cw c 3 == 0 && cPred c == 0 && cPneg c == 0
  | 8 =>
    let imm (a1 : Nat) : Bool := if cf c 1 21 21 = 1 then cf c 1 20 16 == 0 else a1 == 0
    match op with
    | 0 => cf c 1 31 22 == 0 && cf c 1 5 0 ≤ 0xC && imm (cw c 2) && cw c 3 == 0
    | 1 => cf c 1 31 22 == 0 && cf c 1 7 4 == 0 && cf c 1 3 0 ≤ 9 && imm (cw c 2) && cw c 3 == 0
    | 2 => cf c 1 31 17 == 0 && cf c 1 7 2 == 0 && cw c 2 == 0 && cw c 3 == 0
    | 3 => cf c 1 31 11 == 0 && cf c 1 5 0 == 0
    | 4 => cf c 1 31 16 == 0 && cf c 1 5 0 == 0 && cw c 3 == 0
    | 5 => cf c 1 31 21 == 0 && cf c 1 10 0 == 0 && cw c 3 == 0
    | _ => cf c 1 31 26 == 0 && cf c 1 21 11 == 0 && cf c 1 5 0 == 0 && cf c 1 23 22 != 3 && cw c 2 == 0 && cw c 3 == 0
  | 9 => cw c 2 == 0 && cw c 3 == 0 &&
         (match op with
          | 0 => cf c 1 31 28 == 0 && cf c 1 17 8 == 0
          | 1 => cf c 1 31 13 == 0
          | 2 => cf c 1 31 8 == 0
          | _ => cf c 1 31 18 == 0)
  | 10 =>
    let ty := cf c 1 21 20
    cf c 1 31 24 == 0 && cw c 3 == 0 &&
    (match op with
     | 0 => ty != 3 | 1 => ty ≤ 1 | 2 => ty ≤ 1 | 3 => ty == 0 || ty == 3 | 4 => ty == 0 || ty == 3 | 5 => ty == 0 || ty == 3 | _ => ty == 3) &&
    (op ≤ 4 || cf c 1 9 5 == 0) && (op == 3 || cf c 1 14 10 == 0)
  | 11 =>
    let f := cf c 1 3 0
    cf c 1 31 28 == 0 && cf c 2 31 5 == 0 && cw c 3 == 0 &&
    (if op = 2 then (f == 8 || f == 9) && cf c 1 27 23 == 0
     else [8, 9, 0, 1, 2, 4, 5].contains f && cf c 1 7 4 ≤ 6 && (cf c 1 7 4 == 6 || cf c 1 27 23 == 0))
  | 12 => cf c 1 31 8 == 0 && cw c 2 == 0 && cw c 3 == 0
  | 13 => cf c 1 31 21 == 0 && cw c 2 == 0 && cw c 3 == 0
  | _ => cw c 1 == 0 && cw c 2 == 0 && cw c 3 == 0

/-- The decode code of the command at index `idx` of a region of `len` commands (Table 4-5: 0x2020, 0x2021, 0x2022, 0x2024 in that order), 0 where
legal; `ends` holds the last body indices of the open loops. -/
def decodeCode (c idx len : Nat) (ends : List Nat) (hasStream : Nat → Bool) : Nat :=
  let cls := cClass c
  if cls = 0 ∨ cls = 15 then 0x2020
  else if opsOf cls ≤ cOp c then 0x2021
  else if 4 < cNrng c ∨ !rangesOk c ∨ !countOk c ∨ (noRange cls (cOp c) && cNrng c != 0) ∨ !slotsOk c ∨ !fieldsOk c hasStream then 0x2022
  else if cls = 7 ∧ (cf c 1 23 0 = 0 ∨ len ≤ idx + cf c 1 23 0 ∨ ends.any (fun e => e < idx + cf c 1 23 0)) then 0x2024
  else 0

/-! Registers of a command (R85). -/

/-- Scalar registers a command reads: count, operands, ranges, scale and RDS registers. -/
def readsS (c : Nat) : List Nat :=
  let op := cOp c
  let cnt := if cCreg c then [cCount c % 32] else []
  let rng := (List.range (cNrng c)).flatMap (fun i =>
    let d := cw c (4 + i)
    (if bitOf d 4 then [bitsOf d 10 6] else []) ++ (if bitOf d 5 then [bitsOf d 20 16] else []))
  let conv (on : Bool) := if on then (if ccwScaleSrc (cCcw c) = 1 then [ccwScaleReg (cCcw c)] else []) ++ (if ccwRnd (cCcw c) = 2 then [cf c 3 20 16] else []) else []
  cnt ++ rng ++ (match cClass c with
    | 1 => conv (cCvt c)
    | 4 => conv true
    | 3 => conv true ++ (match vopInfo (cf c 2 7 0) with | some (_, _, true, _) => [cf c 3 25 21] | _ => [])
    | 8 => (match op with
      | 0 => [cf c 1 15 11] ++ (if cf c 1 21 21 = 1 then [] else [cf c 1 20 16])
      | 1 => [cf c 1 15 11] ++ (if cf c 1 21 21 = 1 then [] else [cf c 1 20 16])
      | 4 => [cf c 1 15 11]
      | 5 => [cf c 1 15 11, cf c 1 20 16]
      | _ => [])
    | 10 => [cf c 1 4 0] ++ (if op ≤ 4 then [cf c 1 9 5] else []) ++ (if op = 3 then [cf c 1 14 10] else [])
    | 11 => if op = 2 then [] else [cf c 1 22 18] ++ (if cf c 1 7 4 = 6 then [cf c 1 27 23] else [])
    | 13 => [cf c 1 20 16]
    | _ => [])

/-- The scalar register a command writes, 0 where none. -/
def writesS (c : Nat) : Nat :=
  match cClass c with
  | 7 => cf c 1 28 24
  | 8 => if cOp c = 0 ∨ cOp c = 3 ∨ cOp c = 4 ∨ cOp c = 6 then cf c 1 10 6 else 0
  | 9 => if cOp c = 3 then cf c 1 17 13 else 0
  | 10 => cf c 1 19 15
  | 11 => cf c 2 4 0
  | _ => 0

/-! Walkers (R98). -/

/-- A walker's walk length. -/
def Walker.len (w : Walker) : Nat := w.counts.foldl (· * ·) 1

/-- The level counters of walk position `pos` (R98). -/
def walkIdx : List Nat → Nat → List Nat
  | [], _ => []
  | n :: ns, q => q % n :: walkIdx ns (q / n)

/-- The level counters of a position of a walker. -/
def Walker.coord (w : Walker) (pos : Nat) : List Nat := walkIdx w.counts (pos % w.len)

/-- The address of walk position `pos` (R98). -/
def Walker.addr (w : Walker) (pos : Nat) : Int :=
  ((w.coord pos).zip w.strides).foldl (fun a (i, st) => a + (i : Int) * st) (w.base : Int)

/-- The space code is one of Table 3-11's TILE_WLK_CFG values. -/
def spaceValid (sp : Nat) : Bool := sp == 0 || (4 ≤ sp && sp < 8)

/-- The segment of a task in force. -/
def Tile.seg (x : Tile) (k : Nat) : Segment := x.segs.getD k {}

/-- The walker as it stands. -/
def Tile.wlk (x : Tile) (k : Nat) : Walker := mapGet x.walkers k {}

/-- 0x2018 at issue: a count of 0, L above 2^48, a disabled segment or a reserved space (Table 3-9). -/
def Tile.walkerBad (x : Tile) (k : Nat) : Bool :=
  let w := x.wlk k
  w.counts.contains 0 || 2 ^ 48 < w.len || !spaceValid w.space || (4 ≤ w.space && (x.seg (w.space - 4)).bound == 0)

/-- 0x2026 at issue: a valid space other than the required one (R123). -/
def Tile.spaceBad (x : Tile) (s : OpSlot) : Bool :=
  let sp := (x.wlk s.wlk).space
  spaceValid sp && (match s.req with | .local_ => sp != 0 | .segment => sp == 0 | .any => false)

/-- A scalar register (s0 reads 0, R82). -/
def Tile.s (x : Tile) (i : Nat) : Nat := if i = 0 then 0 else (mapGet x.sregs i 0).toNat

/-- Predicate `i` (p0 reads 1, R82). -/
def Tile.p (x : Tile) (i : Nat) : Bool := i == 0 || x.preds.testBit i

/-- A scalar register written; s0 discards (R82). -/
def Tile.setS (x : Tile) (i v : Nat) : Tile := if i = 0 then x else { x with sregs := mapSet x.sregs i (BitVec.ofNat 64 v) }

/-- A predicate written; p0 discards (R82). -/
def Tile.setP (x : Tile) (i : Nat) (v : Bool) : Tile :=
  if i = 0 then x else { x with preds := if v then x.preds ||| 2 ^ i else x.preds &&& (255 - 2 ^ i) }

/-- The count of a command as issue reads it (R121). -/
def Tile.count (x : Tile) (c : Nat) : Nat := if cCreg c then x.s (cCount c % 32) else cCount c

/-- The declared ranges evaluated (R125): scoreboard entries, or none where one is 0x201A. -/
def Tile.ranges (x : Tile) (c idx : Nat) : Option (List SbEntry) :=
  (List.range (cNrng c)).foldr (fun i acc =>
    match acc with
    | none => none
    | some es =>
      let d := cw c (4 + i)
      let len := if bitOf d 5 then x.s (bitsOf d 20 16) else bitsOf d 31 16
      let lo := if bitOf d 4 then x.s (bitsOf d 10 6) else bitsOf d 15 6
      if bitOf d 1 then
        let g := x.seg (bitsOf d 3 2)
        let l := lo / 128
        if len = 0 ∨ g.bound = 0 ∨ g.bound < (l + len) * 128 then none
        else some (⟨bitOf d 0, true, g.base / 128 + l, g.base / 128 + l + len - 1, idx, x.progress⟩ :: es)
      else if len = 0 ∨ 895 < lo + len - 1 then none
      else some (⟨bitOf d 0, false, lo, lo + len - 1, idx, x.progress⟩ :: es)) (some [])

/-- Two spans conflict (R102). -/
def SbEntry.conflicts (r e : SbEntry) : Bool := r.mem == e.mem && r.lo ≤ e.hi && e.lo ≤ r.hi && (r.write || e.write)

/-- The crumb store buffer's entries as LOCAL writes (R104). -/
def Crumb.entry (k : Crumb) : SbEntry := ⟨true, false, k.addr / 512, k.addr / 512, k.index, k.ord⟩

/-- Sign-extends a 32-bit field. -/
def imm32 (v : Nat) : Int := sext 32 v

end Sys2Proof.Machine
end

