-- ==== Sys2Proof/Machine/TileOps.lean ====
section
/-!
DEFINITION. What befalls a tile and its task (03_tile.md R81 to R117, 14_reliability_and_recovery.md R397, R401): scratchpad accesses with their check
bits, faults, polder stops, starts, clears.
-/
namespace Sys2Proof.Machine

/-- Changes tile `t` by a function. -/
def State.onT (s : State) (t : Nat) (f : Tile → Tile) : State := s.setTile t (f (s.tile t))

/-! Bank arbiters (R108 to R111). Commands here meet no second request in their cycle, so a request is granted at once. -/

/-- A request at an arbiter: requester index, length, class HIGH. -/
structure ArbReq where
  who : Nat
  len : Nat
  high : Bool
deriving DecidableEq, Repr

/-- The decision of R108 among requests in index order: the best requester that is not masked. -/
def Arb.best (a : Arb) (quota : Nat) : Option ArbReq → List ArbReq → Option ArbReq
  | b, [] => b
  | b, r :: rs =>
    if r.high ∧ quota < mapGet a.used r.who 0 + r.len then a.best quota b rs
    else match b with
      | none => a.best quota (some r) rs
      | some q =>
        let age (i : Nat) := mapGet a.ages i 0
        let better : Bool :=
          if r.high != q.high then r.high
          else if age r.who != age q.who then decide (age q.who < age r.who)
          else if (a.parked == some r.who) != (a.parked == some q.who) then a.parked == some r.who
          else decide (r.who < q.who)
        a.best quota (some (if better then r else q)) rs

/-- One decision: the grant, ages, parking and used counts (R108). -/
def Arb.decide (a : Arb) (quota : Nat) (reqs : List ArbReq) : Option ArbReq × Arb :=
  match a.best quota none reqs with
  | none => (none, { a with ages := reqs.foldl (fun m r => mapSet m r.who (min (mapGet m r.who 0 + 1) 15)) a.ages })
  | some b =>
    let ages := reqs.foldl (fun m r => mapSet m r.who (if r.who = b.who then 0 else min (mapGet m r.who 0 + 1) 15)) a.ages
    (some b, { ages := ages, parked := some b.who, used := if b.high then mapSet a.used b.who (mapGet a.used b.who 0 + b.len) else a.used })

/-- Quota in force at a tile's banks (TILE_ARB_CFG, captured at task start, R117). -/
def Tile.quota (x : Tile) : Nat := fld x.arbCfg 22 16

/-- One access of requester `who` at the bank of local address `a`: the arbiter grants it and counts the burst (R108, R111). -/
def State.bankGrant (s : State) (t who a : Nat) : State :=
  let b := a / 65536 % 8
  let x := s.tile t
  let (g, arb) := (mapGet x.arbs b {}).decide x.quota [⟨who, 1, who < 3⟩]
  let s1 := s.setTile t { x with arbs := mapSet x.arbs b arb }
  if g.isSome then s1.bump (pgTile t) 0x708 (b * 16 + who) 1 else s1

/-! The scratchpad (R91 to R95). -/

/-- The key of local address `a` of tile `t` in the scratchpad memory. -/
def scrKey (t a : Nat) : Nat := t * 2 ^ 20 + a

/-- The scratchpad bytes [a, a + n) of tile `t` as they stand. -/
def State.scrPeek (s : State) (t a n : Nat) : List Byte := memRead s.scr (scrKey t a) n

/-- Writes scratchpad bytes; a written crumb carries fresh check bits (R94). -/
def State.scrPoke (s : State) (t a : Nat) (bs : List Byte) : State :=
  { s with scr := memWrite s.scr (scrKey t a) bs,
           upsets := s.upsets.filter (fun u => !(scrKey t (a / 8 * 8) ≤ u.1 && u.1 < scrKey t a + bs.length)) }

/-- A unit is fenced, with 0x0144 (Table 14-4). -/
def State.fenceUnit (s : State) (pg : Nat) : State :=
  if s.part pg = 2 then s
  else (s.setF pg 0x24 0 1 0 2).fault { code := 0x0144, page := pgDev, cls := 2, action := 3, detail := natLE 4 0xFF ++ natLE 4 pg }

/-- The code that makes a column pending retirement, with the faulting tile's page fenced where its fault is lasting (R397). -/
def State.colPending (s : State) (t : Nat) (fence : Bool) : State :=
  let pg := pgDie (tDie t)
  let s1 := if fence then (s.fenceUnit (pgTile t)).lasting (pgTile t) else s
  let m := s1.getF pg 0x408 0 37 0
  if m.testBit (tCol t) then s1
  else (s1.setF pg 0x408 0 37 0 (m + 2 ^ tCol t)).fault
    { code := 0x1071, page := pg, cls := 2, action := if fence then 3 else 0, tile := s1.srcId t, detail := natLE 4 0xFF ++ natLE 4 (tCol t) }

/-- Counts corrected single-bit errors of a tile toward the threshold of R397. -/
def State.eccTick (s : State) (t n : Nat) : State :=
  if n = 0 then s else
  let x := s.tile t
  let (f0, c0) := if x.eccFrame + 1048576 ≤ s.frame then (s.frame, 0) else (x.eccFrame, x.eccCount)
  let s1 := s.setTile t { x with eccFrame := f0, eccCount := c0 + n }
  let thr := max 1 (s1.getF (pgDie (tDie t)) 0x418 0 15 0)
  if thr ≤ c0 + n then s1.colPending t false else s1

/-- A bank read (R94): bytes, or none where an error survives the re-read; corrections are counted and the upsets leave the bank. -/
def State.scrRead (s : State) (t who a n : Nat) : Option (List Byte) × State :=
  let s0 := s.bankGrant t who a
  let hit := s0.upsets.filter (fun u => scrKey t a ≤ u.1 && u.1 < scrKey t a + n)
  if hit = [] then (some (s0.scrPeek t a n), s0)
  else
    let bad := hit.any (fun u => u.2 == 2)
    let good := (hit.filter (fun u => u.2 != 2)).length
    let single := (hit.filter (fun u => u.2 == 0)).length
    let s1 := { s0 with upsets := s0.upsets.filter (fun u => u.2 == 2 || !hit.contains u) }
    let s2 := (s1.sat (pgTile t) 0x720 0 15 0 good).eccTick t single
    if bad then (none, s2.sat (pgTile t) 0x720 0 31 16 1) else (some (s2.scrPeek t a n), s2)

/-- A bank write of a loaf or crumb. -/
def State.scrWrite (s : State) (t who a : Nat) (bs : List Byte) : State := (s.bankGrant t who a).scrPoke t a bs

/-- Puts the upsets that a row brings into the bank (R94). -/
def State.addUpsets (s : State) (t : Nat) (ecc : List (Nat × Nat)) : State :=
  { s with upsets := s.upsets ++ ecc.map (fun e => (scrKey t e.1, e.2)) }

/-- `n` bytes that the spec leaves undefined, drawn with the counter. -/
def State.drawBytes (s : State) (n : Nat) : List Byte × State :=
  ((List.range n).map (fun i => Config.freeByte (s.freeCtr + i)), { s with freeCtr := s.freeCtr + n })

/-- Leaves loaves lo to hi of a tile undefined (R77, R114). -/
def State.scrUndefine (s : State) (t lo hi : Nat) : State :=
  let (bs, s1) := s.drawBytes ((hi + 1 - lo) * 512)
  s1.scrPoke t (lo * 512) bs

/-! Faults and stops. -/

/-- Loaves in flight of commands that are abandoned or fault: how many of them the port had sent, at most 8, is a free value (log entry 2). -/
def State.cutSq (s : State) (t : Nat) (gone : Nat → Bool) : State :=
  let x := s.tile t
  let mine := x.sqOut.filter (fun a => gone a.ord)
  if mine = [] then s
  else
    let (v, s1) := drawFree s
    let keep := mine.take (v % (min 8 mine.length + 1))
    s1.onT t (fun y => { y with sqOut := y.sqOut.filter (fun a => !gone a.ord) ++ keep })

/-- What Table 14-3 says of a command in a task's fault record. -/
structure CmdAt where
  index : Nat
  cls : Nat
  unit : Nat := 0xFF
  pos : Nat := 0
  addr : Nat := 0
  coord : List Nat := []
deriving DecidableEq, Repr

/-- The detail of codes 0x20xx other than traps (Table 14-3). -/
def CmdAt.detail (f : CmdAt) : List Byte :=
  natLE 4 f.index ++ natLE 1 f.cls ++ natLE 1 f.unit ++ natLE 2 0 ++ natLE 8 f.pos ++ natLE 8 f.addr ++ f.coord.flatMap (natLE 2)

/-- Frees the held entries of a tile that `f` picks by path and command, at the slices and at the host-window bridge (R255). -/
def State.dropHeld (s : State) (t : Nat) (f : Nat → Nat → Bool) : State :=
  let gone (h : HeldEntry) : Bool := h.tile == t && f h.path h.ord
  let s1 : State := { s with bridge := { s.bridge with held := s.bridge.held.filter (fun h => !gone h) } }
  s1.slices.foldl (fun st e =>
    let k := (e.2.held.filter gone).length
    if k = 0 then st
    else (st.setSlice e.1 { e.2 with held := e.2.held.filter (fun h => !gone h) }).countEv (pgSc e.1) 0x17 k) s1

/-- A tile's locks become BROKEN with their holder's context (R272). -/
def State.breakLocks (s : State) (t : Nat) : State :=
  let src := s.srcId t
  { s with slices := s.slices.map (fun e => (e.1, { e.2 with locks := e.2.locks.map (fun l =>
      (l.1, if l.2.broken || l.2.tile != src then l.2 else { l.2 with broken := true, prev := some l.2.ctx })) })) }

/-- Whether polder `p` has a RUNNING tile other than `t`. -/
def State.othersRun (s : State) (p t : Nat) : Bool := (s.tilesOf p).any (fun u => u != t && (s.tile u).task == .running)

/-- A tile under a polder stop (R401 steps 1 to 4): its waits and its exchange, kneader-flag and spill-queue commands are abandoned. -/
def Tile.polStop (x : Tile) : Tile :=
  let gone := [4, 5, 7].flatMap (fun e => ((mapGet x.dq e []).filter (fun i => !i.finished)).map (·.ord))
  let dq := [4, 5, 7].foldl (fun m e => mapSet m e ((mapGet m e []).filter (·.finished))) x.dq
  let y := { x with dq := dq, fbarAt := none, stopReq := false, stall := 0,
                    sb := x.sb.filter (fun e => !gone.contains e.ord), pendS := x.pendS.filter (fun e => !gone.contains e.2),
                    xp := { x.xp with guards := x.xp.guards.filter (fun e => !gone.contains e.ord), credits := [] } }
  if x.task = .running ∨ x.task = .loaded then { y with task := .stopped } else y

/-- Stops every tile of polder `p` (R401 steps 1 to 4). -/
def State.stopTiles (s : State) (p : Nat) : State :=
  (s.tilesOf p).foldl (fun st t => 
    if (st.tile t).task = .idle ∨ (st.tile t).task = .clearing then st
    else
      let open_ := ((mapGet (st.tile t).dq 7 []).filter (fun i => !i.finished)).map (·.ord)
      (st.cutSq t (fun o => open_.contains o)).onT t Tile.polStop) s

/-- A polder stop (R401); `abort` aborts the polder's kneader instances. A polder already stopped stays so. -/
def State.polderStop (s : State) (p cause : Nat) (abort : Bool) : State :=
  if (s.pol p).stopped then s
  else
    let n := ((s.tilesOf p).filter (fun t => (s.tile t).task == .running || (s.tile t).task == .loaded)).length
    let s1 := { s with flight := s.flight.map (fun (l : XLoaf) => if l.pol = p then { l with dead := true } else l) }.setPol p
      { s.pol p with stopped := true, stopCause := cause }
    let s2 := s1.stopTiles p
    let s3 := if abort then s2.abortPolder p 0x1248 else s2
    s3.fault { code := 0x0140, page := pgDev, cls := 4, action := 5, pol := some p, detail := natLE 1 p ++ natLE 1 0 ++ natLE 2 cause ++ natLE 4 n }

/-- The tile after a fault of command `ord` (R77, R114): earlier commands stay to complete, the faulting one and later ones are gone, tokens go back. -/
def Tile.faulted (x : Tile) (ord : Nat) : Tile :=
  let gone (o : Nat) : Bool := decide (ord ≤ o)
  { x with task := .faulted, stall := 0, dq := x.dq.map (fun e => (e.1, e.2.filter (fun i => !gone i.ord))), outs := x.outs.filter (fun o => !gone o.ord),
           sb := x.sb.filter (fun e => !gone e.ord), pendS := x.pendS.filter (fun e => !gone e.2), crumbs := x.crumbs.filter (fun k => !gone k.ord),
           amxWait := x.amxWait.filter (fun a => !gone a.2.2.2), fbarAt := none, stopReq := false,
           haltIssued := false, tokM := 0, tokV := 0, dbgStep := false,
           xp := { x.xp with guards := x.xp.guards.filter (fun e => !gone e.ord) } }

/-- The LOCAL write ranges a tile's command holds. -/
def Tile.localWrites (x : Tile) (ord : Nat) : List (Nat × Nat) :=
  (x.sb.filter (fun e => e.ord == ord && !e.mem && e.write)).map (fun e => (e.lo, e.hi))

/-- The common effect of a fault or trap (R77, R114): the tile's part, undefined ranges, the record, and a stop of a polder that still runs. -/
def State.haltTask (s : State) (t ord : Nat) (f : FaultInfo) : State :=
  let x := s.tile t
  let p := x.ctx / 1024
  let s1 := (x.localWrites ord).foldl (fun st r => st.scrUndefine t r.1 r.2) s
  let s2 := ((s1.cutSq t (fun o => decide (ord ≤ o))).onT t (fun y => y.faulted ord)).fault f
  if s2.othersRun p t then s2.polderStop p f.code true else s2

/-- A task fault of the command `ord` of tile `t` (R114, R115): nothing where the task does not run. -/
def State.taskFault (s : State) (t ord code : Nat) (c : CmdAt) : State :=
  let x := s.tile t
  if x.task ≠ .running then s.onT t (fun y => { y with
      dq := y.dq.map (fun e => (e.1, e.2.filter (fun i => i.ord != ord))),
      outs := y.outs.filter (fun o => o.ord != ord), sb := y.sb.filter (fun e => e.ord != ord), pendS := y.pendS.filter (fun e => e.2 != ord) })
  else
    let s1 := s.haltTask t ord
      { code := code, ctx := x.ctx, tile := s.srcId t, page := pgTile t, cls := 3, action := 4, detail := c.detail, pol := some (x.ctx / 1024) }
    if code = 0x2015 then s1.colPending t true else s1

/-! Start, stop, clear. -/

/-- Segment `k` as its registers give it (R96). -/
def State.segReg (s : State) (t k : Nat) : Segment :=
  let b := s.reg (pgTile t) (0x188 + 0x10 * k) 0
  { base := fld (s.reg (pgTile t) (0x180 + 0x10 * k) 0) 47 12 * 4096, bound := fld b 47 12 * 4096, rd := fld b 48 48 == 1, wr := fld b 49 49 == 1,
    atom := fld b 50 50 == 1 }

/-- The tile captures its segments, command region, context and arbiter parameters (R117). -/
def State.capture (s : State) (t : Nat) : State :=
  let pg := pgTile t
  s.onT t (fun x => { x with ctx := s.getF pg 0x108 0 15 0, cmdrBase := s.getF pg 0x110 0 47 9 * 512, cmdrLen := s.getF pg 0x118 0 23 0,
                             segs := (List.range 4).map (s.segReg t), arbCfg := s.reg pg 0x700 0 })

/-- The first beat at or after `b` in which a start may take effect: 16 beats clear of a level rise (R377). -/
def State.startBeat (s : State) (b : Nat) : Nat := match s.power.lastRise with | some x => max b (x + 16) | none => b

/-- A task start (R82, Table 3-2): issue begins at command 0; s3 to s31 keep what the loader put there. -/
def State.startTask (s : State) (t beat : Nat) : State :=
  let p := ((s.capture t).tile t).ctx / 1024
  let pt := s.ptileOf p t
  (s.capture t).onT t (fun x => ({ x with
      task := .running, stall := 0, cmdIndex := 0, progress := 0, queue := [], fetchNext := 0, loops := [], sb := [],
      crumbs := [], dq := [], outs := [], pendS := [], amxWait := [], fpItems := [], stepFps := [], haltIssued := false, stopReq := false, brkSeen := false,
      fbarAt := none, beatRef := beat, admitAt := none, xp := {}, sqOpen := [], 
      preds := x.preds ||| 1 }.setS 1 pt).setS 2 (s.pol p).started)

/-- A resume of a STOPPED task (R116): held values apply, everything else stands. -/
def State.resumeTask (s : State) (t : Nat) : State := (s.capture t).onT t (fun x =>
  { x with task := .running, stopReq := false, admitAt := none, stall := if x.fbarAt.isSome then 6 else x.stall })

/-- Offsets of the tile page that a clear returns to their reset values (R113, R158, R185, R475 and the exchange port but its mode). -/
def clearedOff (o : Nat) : Bool :=
  o == 0x14 || (0x110 ≤ o && o < 0x1C0) || (0x200 ≤ o && o < 0x300) || (0x408 ≤ o && o < 0x470) || (0x708 ≤ o && o ≤ 0x720) || (0x900 ≤ o && o < 0xAC0) ||
  (0xB04 ≤ o && o < 0xE80)

/-- A clear starts (R112, Table 3-8 cycle C): issue stops, in-flight commands are discarded, held stores dropped, tokens returned, locks BROKEN. -/
def State.startClear (s : State) (t : Nat) : State :=
  if (s.tile t).task = .clearing then s
  else
    let s1 := ((s.cutSq t (fun _ => true)).onT t (fun x => { x with
                task := .clearing, stall := 0, dq := [], outs := [], sb := [], crumbs := [], queue := [], pendS := [], amxWait := [],
                fbarAt := none, loops := [], stopReq := false, haltIssued := false, tokM := 0, tokV := 0, dbgStep := false,
                admitAt := none, xp := {} })).dropHeld t (fun _ _ => true)
    (s1.breakLocks t).setF (pgTile t) 0x7F4 0 0 0 1

/-- A clear ends (R112, R113): zeros, reset values, IDLE. The cycles it took are a free value of at most 208 (log entry 2). -/
def State.endClear (s : State) (t : Nat) : State :=
  if (s.tile t).task ≠ .clearing then s
  else
    let (v, s0) := drawFree s
    let x := s0.tile t
    let lo := regKey (pgTile t) 0 0
    let s1 := { s0 with scr := memZero s0.scr (scrKey t 0) (2 ^ 20), upsets := s0.upsets.filter (fun u => !(u.1 / 2 ^ 20 == t)),
                        regs := s0.regs.filter (fun e => !(keyPage e.1 == pgTile t && clearedOff ((e.1 - lo) / 32768))) }
    ((s1.setTile t { ctx := x.ctx, progress := x.progress, sqOut := x.sqOut, fpStep := x.fpStep }).setF (pgTile t) 0x7F4 0 0 0 0).setF
      (pgTile t) 0x7F4 0 31 16 (v % 209)

end Sys2Proof.Machine
end

