-- ==== Sys2Proof/Machine/Flags.lean ====
section
/-!
DEFINITION. The sticky flags, element counts, AMAX slots and trap registers of the conversion units, the matrix engine and the vector unit
(02_number_formats.md R72 to R80, 05_matrix_vector.md R169, R178 to R181, R186).
-/
namespace Sys2Proof.Machine

/-- Register base of conversion unit 0 = L, 1 = S, 2 = V (Table 2-14). -/
def unitBase : Nat → Nat
  | 0 => 0xC80 | 1 => 0xCC0 | _ => 0xA80

/-- What a conversion adds to its unit's registers (R72, R75): AMAX slot, flags, counts. -/
def State.convNote (s : State) (t unit ccw : Nat) (o : ConvOut) : State :=
  let pg := pgTile t
  let b := unitBase unit
  let slot := b + 4 * ccwAmaxSlot ccw
  let s1 := if ccwAmaxClr ccw then s.setF pg slot 0 31 0 0 else s
  let s2 := match o.amax with
    | some m => s1.setF pg slot 0 31 0 (amaxMerge (s1.getF pg slot 0 31 0) m)
    | none => s1
  ((s2.orReg pg (b + 0x10) 0 (o.flags % 256)).sat pg (b + 0x14) 0 31 0 o.nanInc).sat pg (b + 0x18) 0 31 0 o.ovfInc

/-- What an MM adds to the matrix engine's registers (R169, R181). -/
def State.mmNote (s : State) (t : Nat) (o : MmOut) : State :=
  let pg := pgTile t
  ((s.orReg pg 0x904 0 (o.flags % 64)).sat pg 0x908 0 31 0 o.nanInc).sat pg 0x90C 0 31 0 o.ovfInc

/-- What a VEC adds to the vector unit's registers (R181). -/
def State.vuNote (s : State) (t : Nat) (o : VecOut) : State :=
  let pg := pgTile t
  ((s.orReg pg 0xA04 0 (o.flags % 128)).sat pg 0xA08 0 31 0 o.nanInc).sat pg 0xA0C 0 31 0 o.ovfInc

/-- A trap record's contents (Table 2-15) beside context, tile and beat. -/
structure TrapRec where
  unit : Nat
  cls : Nat
  index : Nat
  elem : Nat
  coord : List Nat
  srcFmt : Nat
  dstFmt : Nat
  mode : Nat
  cause : Nat
  bits : Nat
  later : Nat := 0
deriving DecidableEq, Repr

/-- The trap's code: NaN where a NaN bit is set, else Inf (DEDUCED: one element can meet both; log entry 22). -/
def TrapRec.code (r : TrapRec) : Nat := if r.cause &&& 3 ≠ 0 then 0x2041 else 0x2042

/-- The 48 bytes of Table 2-15. -/
def State.trapBytes (s : State) (t : Nat) (r : TrapRec) : List Byte :=
  natLE 2 r.code ++ natLE 2 (s.tile t).ctx ++ natLE 2 (s.srcId t) ++ natLE 1 r.unit ++ natLE 1 r.cls ++ natLE 8 (s.beat % 2 ^ 56) ++ natLE 4 r.index
    ++ natLE 4 (r.elem % 2 ^ 32) ++ padTo 12 (r.coord.flatMap (natLE 2)) ++ natLE 1 r.srcFmt ++ natLE 1 r.dstFmt ++ natLE 1 r.mode ++ natLE 1 r.cause
    ++ natLE 4 r.bits ++ natLE 4 0

/-- The selected triggers of a tile's task; none once it does not run (R76, R80). -/
def State.trapSel (s : State) (t : Nat) : Nat := if (s.tile t).task = .running then s.getF (pgTile t) 0xE40 0 1 0 else 0

/-- A trigger that is not recorded (R80). -/
def State.trapLater (s : State) (t n : Nat) : State := s.sat (pgTile t) 0xE44 0 31 16 n

/-- A trap of command `ord` (R77, R80). -/
def State.trap (s : State) (t ord : Nat) (r : TrapRec) : State :=
  let pg := pgTile t
  let bs := s.trapBytes t r
  let s1 := if s.getF pg 0xE44 0 0 0 = 1 then s.trapLater t (1 + r.later)
    else (((List.range 12).foldl (fun st i => st.setF pg (0xE50 + 4 * i) 0 31 0 (leNat ((bs.drop (4 * i)).take 4))) s).setF pg 0xE44 0 0 0 1).trapLater t r.later
  s1.haltTask t ord
    { code := r.code, ctx := (s.tile t).ctx, tile := s.srcId t, page := pg, cls := 3, action := 4, detail := bs, pol := some ((s.tile t).ctx / 1024) }

/-- cvt_mode of a conversion (Table 2-15). -/
def cvtMode (ccw : Nat) : Nat := ccwRnd ccw + 4 * b2n (ccwNanOvf ccw) + 8 * b2n (ccwSrcBlk ccw) + 16 * b2n (ccwDstBlk ccw)

end Sys2Proof.Machine
end

