-- ==== Sys2Proof/Machine/Engines.lean ====
section
/-!
DEFINITION. The engines' data effects (02, 03, 04, 05): address checks of R100, the mover with its conversion units, the matrix engine, the
vector unit and the count unit, each run whole when its command starts. A command's stores to segments become outgoing held stores (R254).
-/
namespace Sys2Proof.Machine

/-- The count an issued command captured. -/
def IssuedCmd.count (i : IssuedCmd) : Nat :=
  let c := i.word.toNat
  if cCreg c then (if cCount c % 32 = 0 then 0 else (mapGet i.sregs (cCount c % 32) 0).toNat) else cCount c

/-- A scalar register as the command captured it. -/
def IssuedCmd.s (i : IssuedCmd) (r : Nat) : Nat := if r = 0 then 0 else (mapGet i.sregs r 0).toNat

/-- The walker of a slot as captured, and the slot's first position (R122). -/
def IssuedCmd.walker (i : IssuedCmd) (sl : OpSlot) : Walker := mapGet i.walkers sl.wlk {}

/-- First position of a slot. -/
def IssuedCmd.first (i : IssuedCmd) (sl : OpSlot) : Nat := if sl.start = 1 then (i.walker sl).cursor else 0

/-- Address of position `j` of a slot. -/
def IssuedCmd.addr (i : IssuedCmd) (sl : OpSlot) (j : Nat) : Int := (i.walker sl).addr (i.first sl + j)

/-- What unit field a command's records carry (Table 2-15). -/
def unitOf (c : Nat) : Nat :=
  match cClass c with
  | 1 => if cCvt c then cOp c else 0xFF
  | 4 => cOp c
  | 3 => 2
  | 2 => 3
  | _ => 0xFF

/-- The slots of a command that it writes. -/
def slotWrites (cls op : Nat) : Nat → Bool :=
  match cls with
  | 1 => fun k => k == 1 || k == 3 || k == 5
  | 4 => fun k => k == 1 || k == 3 || k == 5
  | 2 => fun k => k == 2
  | 3 => fun k => 3 ≤ k
  | 11 => fun k => k == 1
  | 9 => fun _ => op == 3
  | 5 => fun _ => op == 1
  | _ => fun _ => false

/-- Bytes of one position of slot `k` of a command, by the space it stands in (Table 4-3). -/
def posBytes (c k : Nat) (seg : Bool) : Nat := if seg && (k == 0 || k == 1) && cGran c then 128 else 512

/-- The first failing check of R100 for an access of `sz` bytes at address `a` of a walker's space: 0 where it passes. `kind` is 0 read, 1 write,
2 atomic; `declared` asks for check 3. -/
def Tile.accessCode (x : Tile) (rs : List SbEntry) (space : Nat) (a : Int) (unit sz kind : Nat) (declared : Bool) : Nat :=
  if space < 4 then
    if a < 0 ∨ 0x70000 ≤ a then 0x2010
    else
      let n := a.toNat
      if n % unit ≠ 0 then 0x2011
      else if declared ∧ !rs.any (fun r => !r.mem && (r.write || kind == 0) && r.lo ≤ n / 512 && n / 512 ≤ r.hi) then 0x2014
      else 0
  else
    let g := x.seg (space - 4)
    if a < 0 ∨ (g.bound : Int) < a + sz ∨ g.bound = 0 then 0x2012
    else if !(if kind = 0 then g.rd else if kind = 1 then g.wr else g.atom) then 0x2013
    else
      let n := a.toNat
      if n % unit ≠ 0 then 0x2011
      else
        let lo := (g.base + n) / 128
        let hi := (g.base + n + sz - 1) / 128
        if declared ∧ !rs.any (fun r => r.mem && (r.write || kind == 0) && r.lo ≤ lo && hi ≤ r.hi) then 0x2014 else 0

/-- The address a record shows: local, or polder address. -/
def Tile.shownAddr (x : Tile) (space : Nat) (a : Int) : Nat :=
  if space < 4 then toU 64 a else toU 64 (((x.seg (space - 4)).base : Int) + a)

/-- The declared ranges that a command holds. -/
def Tile.rangesOf (x : Tile) (ord : Nat) : List SbEntry := x.sb.filter (fun e => e.ord == ord)

/-- The first position of slot `k` that fails R100, with its code. -/
def Tile.slotBad (x : Tile) (i : IssuedCmd) (declared : Bool) (k : Nat) (sl : OpSlot) : Option (Nat × Nat × Nat) :=
  let c := i.word.toNat
  let sp := (i.walker sl).space
  let kind := if slotWrites (cClass c) (cOp c) k then 1 else 0
  let sz := posBytes c k (4 ≤ sp)
  (List.range sl.n).findSome? (fun j =>
    let e := x.accessCode (x.rangesOf i.ord) sp (i.addr sl j) (if sp < 4 then 512 else 128) sz kind declared
    if e = 0 then none else some (j, k, e))

/-- The first failing position of a command over its operands, in walk order; at one position the earlier operand (DEDUCED, log entry 23). -/
def Tile.firstBad (x : Tile) (i : IssuedCmd) (declared : Bool) : Option (Nat × CmdAt) :=
  let c := i.word.toNat
  let slots := (opSlots c i.count).mapIdx (fun k sl => (k, sl))
  let bad := (slots.filter (fun q => q.2.used)).filterMap (fun q => (x.slotBad i declared q.1 q.2).map (fun b => (b, q.2)))
  match bad with
  | [] => none
  | b :: bs =>
    let m := bs.foldl (fun (best : (Nat × Nat × Nat) × OpSlot) q => if q.1.1 < best.1.1 then q else best) b
    let sl := m.2
    let pos := i.first sl + m.1.1
    some (m.1.2.2, { index := i.index, cls := cClass c, unit := unitOf c, pos := pos, addr := x.shownAddr (i.walker sl).space (i.addr sl m.1.1),
                     coord := (i.walker sl).coord pos })

/-- A command's place in records, without a position. -/
def IssuedCmd.at_ (i : IssuedCmd) : CmdAt := { index := i.index, cls := cClass i.word.toNat, unit := unitOf i.word.toNat }

/-- Changes the command `ord` of engine `eng`. -/
def Tile.onCmd (x : Tile) (eng ord : Nat) (f : IssuedCmd → IssuedCmd) : Tile :=
  { x with dq := mapSet x.dq eng ((mapGet x.dq eng []).map (fun i => if i.ord = ord then f i else i)) }

/-- Marks a command started, and finished where nothing remains to do. -/
def State.markCmd (s : State) (t eng ord : Nat) (fin : Bool) : State :=
  s.onT t (fun x => x.onCmd eng ord (fun i => { i with started := true, finished := fin }))

/-- Reads the positions of a LOCAL slot: bytes, or the first position that an error stops. -/
def State.readLocal (s : State) (t who : Nat) (i : IssuedCmd) (sl : OpSlot) : Except Nat (List Byte) × State :=
  let r := (List.range sl.n).foldl (fun (acc : Except Nat (List (List Byte)) × State) j =>
    match acc with
    | (.error e, st) => (.error e, st)
    | (.ok bs, st) =>
      match st.scrRead t who (i.addr sl j).toNat 512 with
      | (some b, st1) => (.ok (b :: bs), st1)
      | (none, st1) => (.error j, st1)) (.ok [], s)
  match r with
  | (.ok bs, st) => (.ok bs.reverse.flatten, st)
  | (.error j, st) => (.error j, st)

/-- Writes loaves at the positions of a LOCAL slot. -/
def State.writeLocal (s : State) (t who : Nat) (i : IssuedCmd) (sl : OpSlot) (ls : List (List Byte)) : State :=
  (ls.mapIdx (fun j b => (j, b))).foldl (fun st q => st.scrWrite t who (i.addr sl q.1).toNat q.2) s

/-- What a memory access of a tile gave: bytes, a host-window read that has not come, or a refusal with its code and polder address. -/
inductive MemRes where
  | bytes (bs : List Byte)
  | wait
  | refused (code pa : Nat)
deriving DecidableEq, Repr

/-- Bytes [pa, pa + n) among those a host-window read returned. -/
def chunkAt (chunks : List (Nat × List Byte)) (pa n : Nat) : Option (List Byte) :=
  (chunks.find? (fun q => q.1 ≤ pa && pa + n ≤ q.1 + q.2.length)).map (fun q => (q.2.drop (pa - q.1)).take n)

/-- Host window `w` of polder `p` grants a read. -/
def State.hwinRd (s : State) (p w : Nat) : Bool := s.getF (pgIntake p) 0x150 w 6 6 == 1
/-- Host window `w` of polder `p` grants a write. -/
def State.hwinWr (s : State) (p w : Nat) : Bool := s.getF (pgIntake p) 0x150 w 7 7 == 1

/-- A tile's load of a polder address range through its memory-side dike and the slices (R358 to R360, R449). -/
def State.tileLoad (s : State) (t p pa n : Nat) (chunks : List (Nat × List Byte)) : MemRes × State :=
  (linePieces (n / 128 + 2) pa n).foldl (fun (acc : MemRes × State) (q : Nat × Nat) =>
    match acc with
    | (.bytes bs, st) =>
      match st.xlate p q.1 with
      | .nowhere => (.refused 0x2070 q.1, st)
      | .host w _ =>
        if !st.hwinRd p w then (.refused 0x2072 q.1, st)
        else if !st.fnLive p then (.refused 0x0660 q.1, st)
        else match chunkAt chunks q.1 q.2 with
          | some b => (.bytes (bs ++ b), st)
          | none => (.wait, st)
      | .hbm da via =>
        if via = 2 then (.refused 0x2072 q.1, st)
        else match st.lineLoad (tDie t) p 0 (st.logCol (tDie t) (tCol t) / 4) da q.2 with
          | (.ok b, st1) => (.bytes (bs ++ b), st1)
          | (.error c, st1) => (.refused c q.1, st1)
    | r => r) (.bytes [], s)

/-- The tile dike's verdict on a store at a polder address (R359): 0 where it passes. -/
def State.storeDike (s : State) (p pa : Nat) : Nat :=
  match s.xlate p pa with
  | .nowhere => 0x2070
  | .host w _ => if !s.hwinWr p w then 0x2072 else if s.fnLive p then 0 else 0x0660
  | .hbm _ via => if via = 1 then 0x2072 else 0

/-- The last memory-side error of a mover path (TILE_MV_ERR, R158). -/
def State.mvErr (s : State) (t path code pa : Nat) : State :=
  ((s.setReg (pgTile t) 0xC28 0 (BitVec.ofNat 64 (code % 65536 + 65536 + path * 131072)))).setReg (pgTile t) 0xC30 0 (BitVec.ofNat 64 (pa % 2 ^ 48))

/-- The INTAKE of a polder records and posts a failed host-window access (R449, R458). -/
def State.hwinFail (s : State) (p : Nat) : State := s.fault { code := 0x0660, page := pgIntake p, detail := natLE 1 p, pol := some p }

/-- A refused memory access faults the mover command (R114, R263, R449). -/
def State.mvFault (s : State) (t path : Nat) (i : IssuedCmd) (code pa : Nat) : State :=
  ((if code = 0x0660 then s.hwinFail ((s.tile t).ctx / 1024 % 64) else s).mvErr t path code pa).taskFault t i.ord code { i.at_ with addr := pa }

/-- Reads slot `k` of a mover or vector command from wherever it stands: bytes, waiting, a refusal, or an uncorrectable scratchpad position. -/
inductive RdRes where
  | bytes (bs : List Byte)
  | wait
  | refused (code pa : Nat)
  | uncorr (pos : Nat)
deriving DecidableEq, Repr

/-- Reads a slot (none used: no bytes). -/
def State.readSlot (s : State) (t who p : Nat) (i : IssuedCmd) (k : Nat) (sl : OpSlot) (chunks : List (Nat × List Byte)) : RdRes × State :=
  if !sl.used then (.bytes [], s)
  else
    let sp := (i.walker sl).space
    if sp < 4 then
      match s.readLocal t who i sl with
      | (.ok b, st) => (.bytes b, st)
      | (.error j, st) => (.uncorr j, st)
    else
      let sz := posBytes i.word.toNat k true
      let base := ((s.tile t).seg (sp - 4)).base
      (List.range sl.n).foldl (fun (acc : RdRes × State) j =>
        match acc with
        | (.bytes bs, st) =>
          match st.tileLoad t p (base + (i.addr sl j).toNat) sz chunks with
          | (.bytes b, st1) => (.bytes (bs ++ b), st1)
          | (.wait, st1) => (.wait, st1)
          | (.refused c pa, st1) => (.refused c pa, st1)
        | r => r) (.bytes [], s)

/-- Reads several slots in order; the first that gives no bytes ends it. -/
def State.readSlots (s : State) (t : Nat) (who : Nat → Nat) (p : Nat) (i : IssuedCmd) (chunks : List (Nat × List Byte)) (ks : List (Nat × OpSlot)) :
    Except RdRes (List (List Byte)) × State :=
  ks.foldl (fun (acc : Except RdRes (List (List Byte)) × State) q =>
    match acc with
    | (.ok bs, st) =>
      match st.readSlot t (who q.1) p i q.1 q.2 chunks with
      | (.bytes b, st1) => (.ok (bs ++ [b]), st1)
      | (r, st1) => (.error r, st1)
    | r => r) (.ok [], s)

/-- Loaves of a byte string, the last padded. -/
def loavesOf (bs : List Byte) : List (List Byte) := (pieces bs.length 512 bs).map (padTo 512)

/-- Puts output loaves where a slot's walker stands: scratchpad, or outgoing held stores of a mover path; the tile dike's first refusal is returned. -/
def State.putSlot (s : State) (t who path p : Nat) (i : IssuedCmd) (k : Nat) (sl : OpSlot) (ls : List (List Byte)) : Option (Nat × Nat) × State :=
  if !sl.used then (none, s)
  else
    let sp := (i.walker sl).space
    if sp < 4 then (none, s.writeLocal t who i sl ls)
    else
      let base := ((s.tile t).seg (sp - 4)).base
      let sz := posBytes i.word.toNat k true
      let all := ls.flatten
      (List.range sl.n).foldl (fun (acc : Option (Nat × Nat) × State) j =>
        match acc with
        | (some e, st) => (some e, st)
        | (none, st) =>
          let pa := base + (i.addr sl j).toNat
          let bs := (all.drop (j * sz)).take sz
          let ps := linePieces (sz / 128 + 2) pa bs.length
          match ps.find? (fun q => st.storeDike p q.1 != 0) with
          | some q => (some (st.storeDike p q.1, q.1), st)
          | none => (none, st.onT t (fun x => { x with outs := x.outs ++ ps.map (fun q => ⟨path, q.1, (bs.drop (q.1 - pa)).take q.2, i.ord⟩) }))) (none, s)

/-! Fingerprints (R414). -/

/-- One byte into a running CRC-32C (reflected Castagnoli polynomial). -/
def crc32cByte (crc : Nat) (b : Byte) : Nat :=
  (List.range 8).foldl (fun c _ => if c % 2 = 1 then (c / 2) ^^^ 0x82F63B78 else c / 2) (crc ^^^ b.toNat)

/-- Continues a CRC-32C from a finished value; 0 starts one. -/
def crc32c (crc : Nat) (bs : List Byte) : Nat := (bs.foldl crc32cByte (crc ^^^ 0xFFFFFFFF)) ^^^ 0xFFFFFFFF

/-- Adds bytes to what a command contributes to its frame's fingerprint. -/
def IssuedCmd.fpAdd (i : IssuedCmd) (bs : List Byte) : IssuedCmd := { i with fpLen := i.fpLen + bs.length, fpCrc := crc32c i.fpCrc bs }

/-! Conversions in a mover or vector command. -/

/-- Scale bytes of a stream. -/
def scaleBytes (bs : List Byte) : List Nat := bs.map (·.toNat)

/-- What fixes a conversion of an issued command (R61, R66). -/
def State.convCtx (s : State) (t : Nat) (i : IssuedCmd) (given : List Nat) : ConvCtx :=
  let c := i.word.toNat
  let p := (s.tile t).ctx / 1024
  { givenReg := i.s (ccwScaleReg (cCcw c)) % 256, given := given, seed := (s.pol p).seed, step := (s.pol p).step, tag := cf c 3 15 0,
    base := i.s (cf c 3 20 16), trapSel := s.trapSel t }

/-- The walk position of element `idx` of format `f` in positions of `sz` bytes. -/
def elemPos (f sz idx : Nat) : Nat := (idx / epl f * 512 + idx % epl f * fmtWidth f / 8) / sz

/-- A conversion's trap (R77 to R79): what contributed is noted, then the task halts. -/
def State.convTrap (s : State) (t unit : Nat) (i : IssuedCmd) (sl : OpSlot) (sz : Nat) (o : ConvOut) (tr : TrapAt) : State :=
  let c := i.word.toNat
  let w := cCcw c
  (s.convNote t unit w o).trap t i.ord
    { unit := unit, cls := cClass c, index := i.index, elem := tr.idx, coord := (i.walker sl).coord (i.first sl + elemPos (ccwSrc w) sz tr.idx),
      srcFmt := ccwSrc w, dstFmt := ccwDst w, mode := cvtMode w, cause := tr.cause, bits := tr.bits, later := tr.later }

/-- A MOVE or CONV at its engine (R130 to R133): unit and path 0 = L, 1 = S, 2 = V; `eng` its dispatch queue. `chunks` hold what a host-window
read returned. -/
def State.runMove (s : State) (t eng unit : Nat) (i : IssuedCmd) (chunks : List (Nat × List Byte)) : State :=
  let c := i.word.toNat
  let e := i.count
  let w := cCcw c
  let path := if unit = 0 then 0 else 1
  let p := ((s.tileOwner t).getD ((s.tile t).ctx / 1024))
  let ss := opSlots c e
  let sl (k : Nat) : OpSlot := ss.getD k ⟨false, 0, 0, .any, 0⟩
  let rq := if unit = 0 then 8 else if unit = 1 then 9 else 6
  let wq := if unit = 0 then 8 else if unit = 1 then 9 else 7
  if e = 0 then s.markCmd t eng i.ord true
  else if cCvt c ∧ e % ccwBlockMultiple w ≠ 0 then s.taskFault t i.ord 0x2043 i.at_
  else match (s.tile t).firstBad i true with
  | some (code, a) => s.taskFault t i.ord code a
  | none =>
    match s.readSlots t (fun _ => rq) p i chunks [(0, sl 0), (2, sl 2), (4, sl 4)] with
    | (.error .wait, _) => s.markCmd t eng i.ord false
    | (.error (.refused code pa), st) => st.mvFault t path i code pa
    | (.error (.uncorr j), st) => st.taskFault t i.ord 0x2015 { i.at_ with pos := i.first (sl 0) + j }
    | (.error (.bytes _), st) => st
    | (.ok ds, s1) =>
      let raw := ds.getD 0 []
      let finish (st : State) (body : List (List Byte)) (scs amx : List (List Byte)) : State :=
        match st.putSlot t wq path p i 1 (sl 1) body with
        | (some q, st1) => st1.mvFault t path i q.1 q.2
        | (none, st1) =>
          match st1.putSlot t wq path p i 3 (sl 3) scs with
          | (some q, st2) => st2.mvFault t path i q.1 q.2
          | (none, st2) =>
            match st2.putSlot t wq path p i 5 (sl 5) amx with
            | (some q, st3) => st3.mvFault t path i q.1 q.2
            | (none, st3) =>
              let st4 := if cClass c ≠ 1 then st3
                else if cOp c = 0 then (st3.bump (pgTile t) 0xC08 0 (sl 1).n).countEv (pgTile t) 0x1D (sl 1).n
                else (st3.bump (pgTile t) 0xC10 0 (sl 0).n).countEv (pgTile t) 0x1E (sl 0).n
              let fp (k : IssuedCmd) : IssuedCmd :=
                if cIsStore c then
                  let sz := posBytes c 1 true
                  let base := ((st4.tile t).seg ((k.walker (sl 1)).space - 4)).base
                  (List.range (sl 1).n).foldl (fun k j => k.fpAdd (natLE 8 (base + (i.addr (sl 1) j).toNat) ++ (body.flatten.drop (j * sz)).take sz)) k
                else k
              (st4.onT t (fun x => x.onCmd eng i.ord fp)).markCmd t eng i.ord (((st4.tile t).outs.filter (fun o => o.ord == i.ord)) == [])
      if !cCvt c then
        let n := if cIsStore c then (sl 1).n * posBytes c 1 true else raw.length
        finish s1 (if cIsStore c then loavesOf (raw.take n) else loavesOf raw) [] []
      else
        let codes := ((pieces raw.length 512 raw).flatMap (unpackLoaf (ccwSrc w))).take e
        let src := decodeSrc (ccwSrc w) (ccwSrcBlk w) codes (scaleBytes (ds.getD 1 []))
        let o := convRun w (s1.convCtx t i (scaleBytes (ds.getD 2 []))) src
        match o.trap with
        | some tr => (if unit = 2 then (s1.bump (pgTile t) 0xA10 0 (tr.idx + 1)).countEv (pgTile t) 0x1C (tr.idx + 1) else s1).convTrap t unit i (sl 0) (posBytes c 0 (4 ≤ (i.walker (sl 0)).space)) o tr
        | none =>
          let s2 := s1.convNote t unit w o
          let s3 := if unit = 2 then (s2.bump (pgTile t) 0xA10 0 e).countEv (pgTile t) 0x1C e else s2
          finish s3 (packElems (ccwDst w) o.codes) (packBytes o.scales) (packAmax o.blkAmax)

/-! The matrix engine (R134 to R138, R160 to R171). -/

/-- The rows of an operand strip from its walk's bytes (R136). -/
def stripRows (f : Nat) (bs : List Byte) : List (List Nat) :=
  let ls := pieces bs.length 512 bs
  (List.range 32).map (fun r => (ls.mapIdx (fun k b => (k, b))).flatMap (fun q => if q.1 % 32 = r then unpackLoaf f q.2 else []))

/-- An MM at the matrix engine. -/
def State.runMm (s : State) (t : Nat) (i : IssuedCmd) : State :=
  let c := i.word.toNat
  let kc := i.count
  let ss := opSlots c kc
  let sl (k : Nat) : OpSlot := ss.getD k ⟨false, 0, 0, .any, 0⟩
  let mma := cOp c = 0
  if kc = 0 then s.markCmd t 2 i.ord true
  else match (s.tile t).firstBad i true with
  | some (code, a) => s.taskFault t i.ord code a
  | none =>
    let ks := [(0, sl 0), (1, sl 1), (3, sl 3), (4, sl 4)] ++ (if mma then [(2, sl 2)] else [])
    match s.readSlots t (fun k => if k = 2 then 5 else if k = 1 ∨ k = 4 then 4 else 3) 0 i [] ks with
    | (.error (.uncorr j), st) => st.taskFault t i.ord 0x2015 { i.at_ with pos := j }
    | (.error _, st) => st
    | (.ok ds, s1) =>
      let fa := cf c 1 3 0
      let fb := cf c 1 7 4
      let a : MmOperand := ⟨fa, cf c 1 8 8 == 1, stripRows fa (ds.getD 0 []), scaleBytes (ds.getD 2 [])⟩
      let b : MmOperand := ⟨fb, cf c 1 9 9 == 1, stripRows fb (ds.getD 1 []), scaleBytes (ds.getD 3 [])⟩
      let cIn := (pieces 1024 4 (ds.getD 4 (zeros 4096))).map leNat
      let o := mmRun a b mma (s1.trapSel t) kc cIn
      let done := match o.trap with | some tr => if tr.idx < 1024 then 0 else (tr.idx - 1024) / 3072 + 1 | none => kc
      let s2 := (((s1.mmNote t o).bump (pgTile t) 0x910 0 done).bump (pgTile t) 0x918 0 (done * mmCycles fa fb)).countEv (pgTile t) 0x1B done
      match o.trap with
      | some tr =>
        let osl := sl tr.opnd
        s2.trap t i.ord
          { unit := 3, cls := 2, index := i.index, elem := tr.idx, coord := (i.walker osl).coord (i.first osl + tr.pos),
            srcFmt := if tr.opnd = 1 then fb else fa, dstFmt := if cf c 1 10 10 = 1 then 9 else 0,
            mode := if tr.opnd = 2 then 0 else if tr.opnd = 1 then 8 * cf c 1 9 9 else 8 * cf c 1 8 8, cause := tr.cause, bits := tr.bits }
      | none => ((s2.writeLocal t 5 i (sl 2) (pieces 8 512 (o.c.flatMap (natLE 4))))).markCmd t 2 i.ord true

/-! The vector unit (R139, R140, R172 to R181). -/

/-- A VEC at the vector unit. -/
def State.runVec (s : State) (t : Nat) (i : IssuedCmd) : State :=
  let c := i.word.toNat
  let e := i.count
  let w := cCcw c
  let f := ccwSrc w
  let vop := cf c 2 7 0
  let red := cOp c = 1
  let ss := opSlots c e
  let sl (k : Nat) : OpSlot := ss.getD k ⟨false, 0, 0, .any, 0⟩
  if e = 0 then s.markCmd t 3 i.ord true
  else if !red ∧ e % ccwBlockMultiple w ≠ 0 then s.taskFault t i.ord 0x2043 i.at_
  else match (s.tile t).firstBad i true with
  | some (code, a) => s.taskFault t i.ord code a
  | none =>
    match s.readSlots t (fun _ => 6) 0 i [] [(0, sl 0), (1, sl 1), (2, sl 2)] with
    | (.error (.uncorr j), st) => st.taskFault t i.ord 0x2015 { i.at_ with pos := j }
    | (.error _, st) => st
    | (.ok ds, s1) =>
      let codes (k : Nat) : List Nat := ((pieces (ds.getD k []).length 512 (ds.getD k [])).flatMap (unpackLoaf f)).take e
      let xs := codes 0
      let ys := codes 1
      let zs := codes 2
      let a := i.s (cf c 3 25 21) % 2 ^ fmtWidth f
      let ua := match vopInfo vop with | some (_, _, u, _) => u | none => false
      let special := !red && vopSpecial vop
      let (free, s2) := if special then drawFree s1 else (0, s1)
      let ctx := s2.convCtx t i []
      let lanes : List LanePos := xs.mapIdx (fun k x =>
        let y := ys.getD k 0
        let z := zs.getD k 0
        let (r, fl) := laneMap (free % 2 ^ fmtWidth f) f vop x y z a
        ⟨[x] ++ (if (sl 1).used then [y] else []) ++ (if (sl 2).used then [z] else []) ++ (if ua then [a] else []), r, fl⟩)
      let o := if red then vecReduceRun w vop ctx xs else vecMapRun w vop ctx lanes
      let cyc := 2 * (if vop = 0x12 ∨ vop = 0x13 then 2 else if special then 4 else 1)
      let seen := match o.trap with | some tr => min (tr.idx + 1) e | none => e
      let s3 := (((s2.vuNote t o).convNote t 2 w o.conv).bump (pgTile t) 0xA10 0 seen).countEv (pgTile t) 0x1C seen
      let s4 := s3.bump (pgTile t) 0xA18 0 (cyc * (sl 0).n)
      match o.trap with
      | some tr =>
        let ins := (lanes.getD tr.idx ⟨[], 0, {}⟩).inputs
        let which := if red then 0 else (ins.findIdx (fun q => laneSrcCause f q &&& causeSel ctx.trapSel ≠ 0))
        let used := (if (sl 1).used then [0, 1] else [0]) ++ (if (sl 2).used then [2] else [])
        let osl := if red ∧ tr.idx < e then sl 0 else if !red ∧ which < used.length then sl (used.getD which 0) else sl 3
        let pos := if red ∧ tr.idx = e then 0
          else if !red ∧ used.length ≤ which then elemPos (ccwDst w) 512 tr.idx else elemPos f 512 tr.idx
        s4.trap t i.ord
          { unit := 2, cls := 3, index := i.index, elem := tr.idx, coord := (i.walker osl).coord (i.first osl + pos), srcFmt := f, dstFmt := ccwDst w,
            mode := cvtMode w, cause := tr.cause, bits := tr.bits, later := tr.later }
      | none =>
        let s5 := s4.writeLocal t 7 i (sl 3) (packElems (ccwDst w) o.conv.codes)
        let s6 := if (sl 4).used then s5.writeLocal t 7 i (sl 4) (packBytes o.conv.scales) else s5
        (if (sl 5).used then s6.writeLocal t 7 i (sl 5) (packAmax o.conv.blkAmax) else s6).markCmd t 3 i.ord true

/-! The count unit (R107, R153). -/

/-- Whether an element meets a condition of Table 4-20. -/
def cntCond (f cond x a b : Nat) : Bool :=
  let v := decodeElem f false x
  let cmp (y : Nat) : Option Ordering := fvCmp v (decodeElem f false y)
  match cond with
  | 0 => cmp a == some .eq
  | 1 => cmp a != some .eq
  | 2 => cmp a == some .lt
  | 3 => cmp a == some .lt || cmp a == some .eq
  | 4 => cmp a == some .gt
  | 5 => cmp a == some .gt || cmp a == some .eq
  | _ => (cmp a == some .gt || cmp a == some .eq) && (cmp b == some .lt || cmp b == some .eq)

/-- The mask loaves of MASK: bit j % 8 of byte j / 8 (R107). -/
def maskLoaves (bits : List Bool) : List (List Byte) :=
  (pieces bits.length 4096 bits).map (fun p => padTo 512 ((pieces p.length 8 p).map (fun q =>
    BitVec.ofNat 8 (q.foldr (fun b acc => b2n b + 2 * acc) 0))))

/-- A CNT at the count unit: its register result rides in `data` until completion. -/
def State.runCnt (s : State) (t : Nat) (i : IssuedCmd) : State :=
  let c := i.word.toNat
  let e := i.count
  let f := cf c 1 3 0
  let ss := opSlots c e
  let sl (k : Nat) : OpSlot := ss.getD k ⟨false, 0, 0, .any, 0⟩
  let fin (st : State) (n : Nat) : State :=
    let old := i.s (cf c 2 4 0)
    (st.onT t (fun x => x.onCmd 6 i.ord (fun k => { k with data := natLE 8 (old + n) }))).markCmd t 6 i.ord true
  if e = 0 then fin s 0
  else match (s.tile t).firstBad i true with
  | some (code, a) => s.taskFault t i.ord code a
  | none =>
    match s.readSlots t (fun _ => 11) 0 i [] [(0, sl 0)] with
    | (.error (.uncorr j), st) => st.taskFault t i.ord 0x2015 { i.at_ with pos := i.first (sl 0) + j }
    | (.error _, st) => st
    | (.ok ds, s1) =>
      let raw := ds.getD 0 []
      let xs := ((pieces raw.length 512 raw).flatMap (unpackLoaf f)).take e
      if cOp c = 2 then
        let vs := xs.map (fun x => sext (fmtWidth f) x)
        let buckets := (List.range 64).map (fun (k : Nat) => vs.countP (fun v => v == (k : Int)))
        let out := vs.countP (fun v => v < 0 || 63 < v)
        fin (s1.writeLocal t 11 i (sl 1) [padTo 512 (buckets.flatMap (natLE 4))]) out
      else
        let m := 2 ^ fmtWidth f
        let bits := xs.map (fun x => cntCond f (cf c 1 7 4) x (i.s (cf c 1 22 18) % m) (i.s (cf c 1 27 23) % m))
        let s2 := if cOp c = 1 then s1.writeLocal t 11 i (sl 1) (maskLoaves bits) else s1
        fin s2 (bits.countP id)

end Sys2Proof.Machine
end

