-- ==== Sys2Proof/Machine/SqOps.lean ====
section
/-!
DEFINITION. What a spill queue and its pool do by themselves (R279, R280, R287 to R291): moving loaves between tail, head and middle, segments,
flushes. Queue `q` is 64 × die + number.
-/
namespace Sys2Proof.Machine

/-- Segments queue `q` may hold (R280, SQ_Q_CFG.max_segs). -/
def State.maxSegs (s : State) (q : Nat) : Nat := min (s.getA (pgSq (q / 16)) 0x104 (q % 16) 14 0) 16384

/-- The pool of polder `p` on die `d`, if enabled (R287). -/
def State.pool (s : State) (d p : Nat) : Option SqPool := mapFind? s.pools (d * 64 + p)

/-- Segments that the queues of polder `p` on die `d` hold. -/
def State.segsHeld (s : State) (d p : Nat) : Nat :=
  (s.sqs.filter (fun e => e.1 / 64 == d && s.owner 4 e.1 == some p)).foldl (fun n e => n + e.2.segs.length) 0

/-- Free segments of the pool of `p` on `d` (R287: 4,096 to a field). -/
def State.poolFree (s : State) (d p : Nat) : Nat :=
  match s.pool d p with
  | none => 0
  | some x => x.fields * 4096 - s.segsHeld d p

/-- Whether queue `q` could be granted a segment now: below max_segs and its pool has one free (R280, R289). -/
def State.segAvail (s : State) (q : Nat) : Bool :=
  (s.sq q).segs.length < s.maxSegs q &&
    (match s.owner 4 q with | some p => 0 < s.poolFree (q / 64) p | none => false)

/-- Whether the queue's current segment has room for a loaf. -/
def SqQueue.segRoom (x : SqQueue) : Bool := match x.segs.getLast? with | some (put, _) => put < 128 | none => false

/-- Adds a loaf to the current segment's count. -/
def putLast : List (Nat × Nat) → List (Nat × Nat)
  | [] => []
  | [(a, b)] => [(a + 1, b)]
  | x :: xs => x :: putLast xs

/-- Takes `n` loaves out of the oldest segments, freeing every segment whose last loaf is gone; with an empty middle nothing is left (R289). -/
def takeSegs : List (Nat × Nat) → Nat → List (Nat × Nat)
  | [], _ => []
  | x :: xs, 0 => x :: xs
  | (p, t) :: xs, n + 1 => if p - t ≤ n + 1 then takeSegs xs (n + 1 - (p - t)) else (p, t + n + 1) :: xs

/-- Moves loaves out of the tail while they can move (R280): straight to the head while the middle is empty and the head has room, else into the
current segment. `asked` is set when a segment is needed. -/
def SqQueue.settle : Nat → SqQueue → SqQueue
  | 0, x => x
  | n + 1, x =>
    match x.tail with
    | [] => { x with asked := false }
    | l :: ls =>
      if x.mid = [] ∧ x.head.length < 8 then SqQueue.settle n { x with tail := ls, head := x.head ++ [l] }
      else if x.segRoom then SqQueue.settle n { x with tail := ls, mid := x.mid ++ [l], segs := putLast x.segs }
      else { x with asked := true }

/-- Moves loaves of the middle into the head's free places, oldest first (R280), freeing emptied segments. -/
def SqQueue.refill (x : SqQueue) : SqQueue :=
  let n := min (8 - x.head.length) x.mid.length
  let mid := x.mid.drop n
  SqQueue.settle 9 { x with head := x.head ++ x.mid.take n, mid := mid, segs := if mid = [] then [] else takeSegs x.segs n }

/-- Whether the queue is full (R280). -/
def State.sqFull (s : State) (q : Nat) : Bool :=
  let x := s.sq q
  x.tail.length == 8 && !(x.mid == [] && x.head.length < 8) && !x.segRoom && !s.segAvail q

/-- Whether a loaf, OPEN or CLOSE of an older generation is still in flight to queue `q` (R290 flush_busy). -/
def State.flushBusy (s : State) (q : Nat) : Bool :=
  s.tiles.any (fun e => e.2.sqOut.any (fun i => i.q == q && i.gen != (s.sq q).gen))

/-- A flush (R290): everything is discarded, segments return, latches and error clear, the generation advances. -/
def State.flushQ (s : State) (q : Nat) : State := s.setSq q { gen := ((s.sq q).gen + 1) % 64 }

/-- Notes the pool's lowest free count (R294 SQ_POOL_LOW). -/
def State.poolLow (s : State) (d p : Nat) : State :=
  let pg := pgSq (d * 4 + p / 16)
  if s.poolFree d p < s.getF pg 0x18C (p % 16) 16 0 then s.setF pg 0x18C (p % 16) 16 0 (s.poolFree d p) else s

/-- The allocator grants queue `q` a segment if it asked and one is free (R289). -/
def State.grantSeg (s : State) (q : Nat) : State :=
  let x := s.sq q
  if x.asked ∧ s.segAvail q then
    let s1 := (s.setSq q (SqQueue.settle 9 { x with segs := x.segs ++ [(0, 0)], asked := false })).bump (pgSq (q / 16)) 0x1A8 (q % 16) 1
    match s1.owner 4 q with
    | some p => s1.poolLow (q / 64) p
    | none => s1
  else s

/-- Pool checks of R287 for die `d` at an activation: pools in ascending polder order, each bound field by field to the polder, on the
die's own stacks, 16 fields at most in all; a pool that fails is off and 0x1648 is recorded. -/
def State.checkPools (s : State) (d : Nat) : State :=
  ((List.range 64).foldl (fun (acc : State × Nat) p =>
    let (st, sum) := acc
    let pg := pgSq (d * 4 + p / 16)
    let base := st.getA pg 0x184 (p % 16) 10 0
    let n := st.getA pg 0x184 (p % 16) 20 16
    let off := { st with pools := mapDrop st.pools (fun k => k == d * 64 + p) }
    if n = 0 then (off, sum)
    else if n ≤ 16 ∧ sum + n ≤ 16 ∧ 432 * d ≤ base ∧ base + n ≤ 432 * d + 432 ∧ (List.range n).all (fun i => st.owner 1 (base + i) == some p) then
      (State.poolLow { st with pools := mapSet st.pools (d * 64 + p) { base := base, fields := n } } d p, sum + n)
    else (off.err pg 0x1648, sum)) (s, 0)).1

end Sys2Proof.Machine
end

