-- ==== Sys2Proof/Machine/SqPort.lean ====
section
/-!
DEFINITION. The spill-queue port of a tile (09_spill_queues.md R281 to R286, R290): the command at the front of its dispatch queue meets its queue.
-/
namespace Sys2Proof.Machine

/-- An SQ code faults the issuing task and stands in the queue's page (R283, R292). -/
def State.sqFault (s : State) (t : Nat) (i : IssuedCmd) (q code : Nat) : State := (s.taskFault t i.ord code i.at_).err (pgSq (q / 16)) code

/-- The queue that a command's rank names (R151). -/
def State.sqOf (s : State) (t : Nat) (c : Nat) : Option Nat := s.ofRank 4 ((s.tileOwner t).getD ((s.tile t).ctx / 1024)) (cf c 1 7 0)

/-- Changes a queue and counts the loaves that this sends to the middle. -/
def State.onSq (s : State) (q : Nat) (x : SqQueue) : State :=
  let old := (s.sq q).mid.length
  let s1 := s.setSq q x
  if old < x.mid.length then s1.countEv (pgSq (q / 16)) 0x12 (x.mid.length - old) else s1

/-- What the port's front command has to send is on its way. -/
def State.sqSend (s : State) (t : Nat) (i : IssuedCmd) (items : List SqItem) : State :=
  (s.onT t (fun x => { x with sqOut := x.sqOut ++ items })).markCmd t 7 i.ord (items == [])

/-- The length word of a packet (Table 9-1). -/
def lengthWord (loaves tag gen : Nat) : List Byte := natLE 8 (loaves * 512 + tag % 1024 * 2 ^ 32 + gen % 64 * 2 ^ 42)

/-- Loaves of queue `x` in order. -/
def SqQueue.all (x : SqQueue) : List SqLoaf := x.head ++ x.mid ++ x.tail

/-- Payload loaves of the closed packet at the front, if there is one (R284). -/
def SqQueue.front (x : SqQueue) : Option Nat :=
  match x.all with
  | l :: _ => if l.hdr ∧ l.closed then some (leNat (l.bytes.take 3) / 512) else none
  | [] => none

/-- The queue without its first `k` loaves; what is left moves on (R280). -/
def SqQueue.takeOff (x : SqQueue) (k : Nat) : SqQueue :=
  let m := min (k - x.head.length) x.mid.length
  let mid := x.mid.drop m
  SqQueue.refill { x with
    head := x.head.drop k, mid := mid, tail := x.tail.drop (k - x.head.length - m), segs := if mid = [] then [] else takeSegs x.segs m }

/-- The port's front command (R281, R283, R284). -/
def State.sqStart (s : State) (t : Nat) (i : IssuedCmd) : State :=
  let c := i.word.toNat
  match s.sqOf t c with
  | none => s.taskFault t i.ord 0x1640 i.at_
  | some q =>
    let x := s.sq q
    let src := s.srcId t
    if cOp c = 3 then
      if x.cons.isSome ∧ x.cons ≠ some src then s.sqFault t i q 0x1642
      else
        let s0 := s.setSq q { x with cons := some src }
        match x.front with
        | none => s0
        | some n =>
          let pkt := x.all.take (n + 1)
          if pkt.any (·.bad) then s0.sqFault t i q 0x1646
          else if x.error then s0
          else
            let m := min n i.count
            let sl := { (opSlots c i.count).getD 0 ⟨true, 0, 0, .local_, 0⟩ with n := m }
            match (s0.tile t).slotBad i true 0 sl with
            | some (j, _, e) => s0.taskFault t i.ord e { i.at_ with pos := i.first sl + j, addr := (s0.tile t).shownAddr 0 (i.addr sl j), coord := (i.walker sl).coord (i.first sl + j) }
            | none =>
              let s1 := s0.writeLocal t 14 i sl (((pkt.drop 1).take m).map (·.bytes))
              let s2 := s1.onSq q ((s1.sq q).takeOff (n + 1))
              let s3 := ((s2.bump (pgSq (q / 16)) 0x120 (q % 16) 1).countEv (pgSq (q / 16)) 0x11 n)
              let s4 := if m < n then s3.sat (pgSq (q / 16)) 0x134 (q % 16) 31 0 1 else s3
              (s4.onT t (fun y => y.onCmd 7 i.ord (fun k => { k with data := natLE 8 (n * 512) }))).markCmd t 7 i.ord true
    else
      if x.prod.isSome ∧ x.prod ≠ some src then s.sqFault t i q 0x1641
      else
        let late := match mapFind? (s.tile t).sqOpen q with | some (g, _) => g != x.gen | none => false
        let gen := match mapFind? (s.tile t).sqOpen q with | some (g, _) => if cOp c = 0 then x.gen else g | none => x.gen
        let s0 := s.setSq q { x with prod := some src }
        if cOp c = 0 then
          if x.openPkt.isSome then s0.sqFault t i q 0x1643 else s0.sqSend t i [⟨q, 0, gen, cf c 1 27 18, true, [], i.ord⟩]
        else if !late ∧ x.openPkt.isNone then s0.sqFault t i q 0x1643
        else if cOp c = 2 then s0.sqSend t i [⟨q, 2, gen, 0, true, [], i.ord⟩]
        else if !late ∧ 128 < ((x.openPkt.map (·.1)).getD 0) + i.count then s0.sqFault t i q 0x1644
        else
          match (s0.tile t).firstBad i true with
          | some (e, a) => s0.taskFault t i.ord e a
          | none =>
            match s0.readLocal t 14 i ((opSlots c i.count).getD 0 ⟨true, 0, 0, .local_, 0⟩) with
            | (.error j, s1) => s1.taskFault t i.ord 0x2015 { i.at_ with pos := j }
            | (.ok bs, s1) =>
              let ls := pieces bs.length 512 bs
              s1.sqSend t i (ls.mapIdx (fun k b => ⟨q, 1, gen, 0, k + 1 == ls.length, b, i.ord⟩))

/-- An item of a port reaches its queue's tail (R280, R282, R290); a full tail keeps it waiting. -/
def State.sqArrive (s : State) (t : Nat) : State :=
  match (s.tile t).sqOut with
  | [] => s
  | a :: rest =>
    let x := s.sq a.q
    let pg := pgSq (a.q / 16)
    let taken (st : State) (f : SMap (Nat × Nat) → SMap (Nat × Nat)) : State :=
      let s1 := st.onT t (fun y => { y with sqOut := rest, sqOpen := f y.sqOpen })
      if a.last then s1.onT t (fun y => y.onCmd 7 a.ord (fun k => { k with finished := true })) else s1
    if a.gen ≠ x.gen then taken (s.sat pg 0x130 (a.q % 16) 31 0 1) (fun m => if a.kind = 2 then mapDrop m (fun k => k == a.q) else m)
    else if a.kind = 2 then
      let tag := (x.openPkt.map (·.2)).getD 0
      let n := (x.openPkt.map (·.1)).getD 0
      let close (l : SqLoaf) : SqLoaf := if l.hdr ∧ !l.closed then { l with closed := true, bytes := lengthWord n tag x.gen ++ zeros 504 } else l
      taken ((s.setSq a.q { x with head := x.head.map close, mid := x.mid.map close, tail := x.tail.map close, openPkt := none }).bump pg 0x118 (a.q % 16) 1)
        (fun m => mapDrop m (fun k => k == a.q))
    else if 8 ≤ x.tail.length then s
    else
      let l : SqLoaf := if a.kind = 0 then { hdr := true, bytes := zeros 512 } else { hdr := false, bytes := padTo 512 a.bytes }
      let o := if a.kind = 0 then (0, a.tag) else ((x.openPkt.map (·.1)).getD 0 + 1, (x.openPkt.map (·.2)).getD 0)
      taken ((s.onSq a.q (SqQueue.settle 9 { x with tail := x.tail ++ [l], openPkt := some o })).countEv pg 0x10 1)
        (fun m => if a.kind = 0 then mapSet m a.q (x.gen, 0) else m)

end Sys2Proof.Machine
end

