-- ==== Sys2Proof/Machine/Issue.lean ====
section
/-!
DEFINITION. Issue (R85 to R90, R120 to R129, R145, R146, R462 to R464): the head command through the steps of R88, loops, the dispatch queues, and
the start of the command at the front of an engine's queue.
-/
namespace Sys2Proof.Machine

/-! Advance (R88, R145). -/

/-- The end index of an open loop's body is its `last`; the loops that end at `idx` advance, innermost first (R145, R146). -/
def Tile.loopAdvance : Nat → Nat → Tile → Tile
  | 0, _, x => x
  | n + 1, idx, x =>
    match x.loops with
    | [] => x
    | l :: ls =>
      if l.last ≠ idx then x
      else if l.iter + 1 < l.total then
        let pend := x.pendS.any (fun p => p.1 == l.sidx)
        let y := { x with loops := { l with iter := l.iter + 1, owed := pend && l.sidx != 0 } :: ls, cmdIndex := l.first }
        let z := if l.last + 1 - l.first ≤ 496 then y
          else { y with queue := y.queue.filter (fun e => e.1 < l.first), fetchNext := l.first }
        if pend then z else z.setS l.sidx (l.iter + 1)
      else Tile.loopAdvance n idx { x with loops := ls }

/-- The owed iteration number is written (R146). -/
def Tile.payOwed (x : Tile) : Tile :=
  match x.loops with
  | [] => x
  | l :: ls => ({ x with loops := { l with owed := false } :: ls }).setS l.sidx l.iter

/-- Entries that loop bodies of at most 496 commands keep in the queue (R87). -/
def Tile.retains (x : Tile) (idx : Nat) : Bool := x.loops.any (fun l => l.first ≤ idx && idx ≤ l.last && l.last + 1 - l.first ≤ 496)

/-- The command index passes to `next` after the command at `idx` issued or was skipped; loops that end at `idx` advance (R88, R145). -/
def Tile.pass (x : Tile) (idx next : Nat) : Tile :=
  let y := Tile.loopAdvance 5 (next - 1) { x with cmdIndex := next, progress := (x.progress + 1) % 2 ^ 64, brkSeen := false, stall := 0 }
  let z := { y with queue := y.queue.filter (fun e => e.1 > idx || y.retains e.1) }
  { z with fetchNext := if (z.queue.any (fun e => e.1 == z.cmdIndex)) then z.fetchNext else max z.fetchNext z.cmdIndex }

/-- Whether the tile is in handshake mode (R225). -/
def State.handshake (s : State) (t : Nat) : Bool := s.getA (pgTile t) 0xB00 0 0 0 == 1

/-- Whether debug holds the tile's issue (R462, R463). -/
def State.dbgHeld (s : State) (t : Nat) : Bool := s.getF (pgTile t) 0xE00 0 0 0 == 1 && s.handshake t && !(s.tile t).dbgStep

/-- A released step ends: STEP record and count (R462, Table 16-5). -/
def State.stepDone (s : State) (t idx cls : Nat) : State :=
  let x := s.tile t
  if !x.dbgStep then s
  else
    let s1 := (s.setTile t { x with dbgStep := false }).bump (pgTile t) 0xE20 0 1
    s1.traceRec (tDie t) 3 (s.srcId t) x.ctx (natLE 4 idx ++ natLE 1 cls)

/-- Issue that reaches TILE_CMDR_LEN without a HALT faults (R90). -/
def State.endCheck (s : State) (t : Nat) : State :=
  let x := s.tile t
  if x.task = .running ∧ !x.haltIssued ∧ x.cmdrLen ≤ x.cmdIndex then s.taskFault t x.progress 0x2016 { index := x.cmdIndex, cls := 0 } else s

/-- After a command issued or was skipped: index, progress, loops, counters, steps (R88). -/
def State.passed (s : State) (t idx next cls ev : Nat) : State :=
  (((s.onT t (fun x => x.pass idx next)).countEv (pgTile t) ev 1).stepDone t idx cls).endCheck t

/-- The head command as issue reads it. -/
structure Head where
  c : Nat
  idx : Nat
  e : Nat
  ranges : List SbEntry
deriving DecidableEq, Repr

/-- Sets why the head command waits. -/
def State.stall (s : State) (t k : Nat) : State := s.onT t (fun x => { x with stall := k })

/-- Breakpoint `b` hits at a tile (R464): record, count, status, and a hold under action hold; in static mode 0x2050. -/
def State.brkHit (s : State) (t b idx : Nat) : State :=
  let pg := pgTile t
  let act := s.getF pg (0xE08 + 4 * b) 0 2 2
  let s1 := ((s.traceRec (tDie t) 2 (s.srcId t) (s.tile t).ctx (natLE 4 idx ++ natLE 1 b ++ natLE 1 act)).sat pg 0xE10 0 31 0 1).setF pg 0xE04 0 1 1 1
  let s2 := s1.setF pg 0xE04 0 2 2 b
  if act = 0 then s2 else if s.handshake t then s2.setF pg 0xE00 0 0 0 1 else s2.err pg 0x2050

/-- The breakpoints of kind `kind` whose value matches, in order (R464, R466). -/
def State.brkCheck (s : State) (t kind v idx : Nat) : State :=
  (List.range 2).foldl (fun st b =>
    let w := st.reg (pgTile t) (0xE08 + 4 * b) 0
    if fld w 0 0 = 1 ∧ fld w 1 1 = kind ∧ (if kind = 0 then fld w 31 8 else fld w 23 8) = v then st.brkHit t b idx else st) s

/-- Whether the image of the tile's polder has a stream that names this tile (R141). -/
def State.hasStream (s : State) (t st : Nat) : Bool :=
  let p := (s.tile t).ctx / 1024
  match (s.pol p).image with
  | none => false
  | some im => im.streams.any (fun x => x.id == st)

/-- Issue checks in the order of R129: 0x2025 (and 0x2023 of a LOOP), 0x2026, 0x2018; 0 where they pass. -/
def Tile.issueCode (x : Tile) (c e : Nat) : Nat :=
  let cls := cClass c
  let ss := (opSlots c e).filter (·.used)
  if cCreg c ∧ (2 ^ 48 ≤ e ∨ ((cls = 2 ∨ cls = 7) ∧ 2 ^ 32 ≤ e) ∨
      (cIsStore c ∧ 16384 < storeLines c e + storeAuxLines c e (fun k => (x.wlk k).space))) then 0x2025
  else if cls = 7 ∧ e ≠ 0 ∧ 4 ≤ x.loops.length then 0x2023
  else if ss.any (fun s => x.spaceBad s) then 0x2026
  else if ss.any (fun s => x.walkerBad s.wlk) then 0x2018
  else 0

/-- Steps 1 to 4 of R88 for the row of class `cls` and operation `op`: the head command ready for step 5, or the state in which the row ends. -/
def State.headFor (s : State) (t cls op : Nat) : Except State (State × Head) :=
  let x := s.tile t
  if x.task ≠ .running ∨ x.stopReq ∨ x.haltIssued ∨ x.fbarAt.isSome ∨ s.part (pgTile t) ≠ 0 then .error s
  else if x.cmdrLen ≤ x.cmdIndex then .error (s.endCheck t)
  else
    let idx := x.cmdIndex
    match (x.queue.find? (fun e => e.1 == idx)).map (·.2.toNat) with
    | none => .error (s.stall t 1)
    | some c =>
      if cOp c < opsOf (cClass c) ∧ (cClass c ≠ cls ∨ cOp c ≠ op) then .error s
      else
        let s1 := if x.brkSeen then s else (s.brkCheck t 0 idx idx).onT t (fun y => { y with brkSeen := true })
        if s1.dbgHeld t then .error (s1.stall t 9)
        else
          let code := decodeCode c idx x.cmdrLen (x.loops.map (·.last)) (s1.hasStream t)
          let at_ : CmdAt := { index := idx, cls := cClass c, unit := unitOf c }
          if code ≠ 0 then .error (s1.taskFault t x.progress code at_)
          else if x.p (cPred c) == (cPneg c == 1) then .error (s1.passed t idx (idx + 1) (cClass c) 0x11)
          else
            let owed := match x.loops with | l :: _ => if l.owed then some l else none | [] => none
            let stuck := match owed with | some l => x.pendS.any (fun p => p.1 == l.sidx) | none => false
            if stuck then .error (s1.stall t 2)
            else
              let s2 := match owed with
                | some l => s1.onT t (fun y => y.payOwed)
                | none => s1
              let y := s2.tile t
              let wait := (readsS c ++ [writesS c]).any (fun r => r != 0 && y.pendS.any (fun p => p.1 == r)) || (cClass c == 12 && y.pendS != [])
              if wait then .error (s2.stall t 2)
              else
                let e := y.count c
                let ic := y.issueCode c e
                if ic ≠ 0 then .error (s2.taskFault t y.progress ic at_)
                else match y.ranges c idx with
                  | none => .error (s2.taskFault t y.progress 0x201A at_)
                  | some rs => .ok (s2, ⟨c, idx, e, rs⟩)

/-- Step 5 (R102, R227): the stall code of a command with these ranges, 0 where it may issue. -/
def Tile.sbWait (x : Tile) (rs : List SbEntry) : Nat :=
  let all := x.sb ++ x.crumbs.map Crumb.entry ++ x.xp.guards
  if rs.any (fun r => all.any (fun e => r.conflicts e)) then 3
  else if 24 < x.sb.length + rs.length then 4
  else 0

/-- Depth of each dispatch queue (Table 3-3). -/
def dqDepth : Nat → Nat
  | 0 => 8 | 1 => 8 | 2 => 4 | 3 => 4 | 4 => 16 | 5 => 4 | 6 => 2 | 7 => 4 | 8 => 8 | _ => 1

/-- The state after the cursors of a command's walkers moved on (R99). -/
def Tile.moveCursors (x : Tile) (c e : Nat) : Tile :=
  ((opSlots c e).filter (·.used)).foldl (fun y sl =>
    let w := y.wlk sl.wlk
    let st := if sl.start = 1 then w.cursor else 0
    { y with walkers := mapSet y.walkers sl.wlk { w with cursor := (st + sl.n) % w.len } }) x

/-! Weir tokens at the engines (R182, R183). -/

/-- Activity class of an MM, VEC or CONV on V (Table 5-10). -/
def actClass (c : Nat) : Nat :=
  match cClass c with
  | 2 =>
    let fa := cf c 1 3 0
    let fb := cf c 1 7 4
    if fa = 0 then 1 else if mm16 fa ∨ mm16 fb then 2 else if mmCycles fa fb = 16 then 4 else 3
  | 3 => if vopSpecial (cf c 2 7 0) then 6 else 5
  | 4 => 5
  | _ => 0

/-- Weight of an activity class in token units (Table 5-10). -/
def actWeight : Nat → Nat
  | 1 => 5 | 2 => 12 | 3 => 16 | 4 => 16 | 5 => 4 | 6 => 3 | _ => 0

/-- Whether engine 2 or 3 holds a token that is large enough for a command. -/
def Tile.tokenOk (x : Tile) (eng c : Nat) : Bool :=
  eng != 2 && eng != 3 || actWeight (actClass c) ≤ actWeight (if eng = 2 then x.tokM else x.tokV)

/-! Engine starts (R89). -/

/-- Runs the command at the front of a mover, matrix, vector, count or spill-queue dispatch queue, if it may start now. -/
def State.startFront (s : State) (t eng : Nat) : State :=
  let x := s.tile t
  match mapGet x.dq eng [] with
  | [] => s
  | i :: _ =>
    if i.started ∧ (i.finished ∨ eng ≠ 7) then s
    else
      let c := i.word.toNat
      if !x.tokenOk eng c then s
      else match eng with
        | 0 => s.runMove t 0 0 i []
        | 1 => s.runMove t 1 1 i []
        | 2 => s.runMm t i
        | 3 => if cClass c = 4 then s.runMove t 3 2 i [] else s.runVec t i
        | 6 => s.runCnt t i
        | 7 => if (x.sqOut.any (fun a => a.ord == i.ord)) ∨ i.started then s else s.sqStart t i
        | _ => s

/-- Step 7: a command enters dispatch queue `eng` with its captures; `sb` tells whether its ranges enter the scoreboard, `guard` the exchange guard
entry it takes. -/
def State.issueCmd (s : State) (t eng : Nat) (h : Head) (sb : Bool) (guard : List SbEntry) (done : Bool) : State :=
  let x := s.tile t
  let ic : IssuedCmd := { word := BitVec.ofNat 256 h.c, index := h.idx, ord := x.progress, sregs := x.sregs, preds := x.preds, walkers := x.walkers,
                          finished := done }
  let y := { x with
    dq := mapSet x.dq eng (mapGet x.dq eng [] ++ [ic]), sb := if sb then x.sb ++ h.ranges else x.sb, xp := { x.xp with guards := x.xp.guards ++ guard },
    pendS := if writesS h.c = 0 then x.pendS else x.pendS ++ [(writesS h.c, x.progress)] }
  (s.setTile t (y.moveCursors h.c h.e)).passed t h.idx (h.idx + 1) (cClass h.c) 0x10

/-- Steps 5 to 7 for a command of a scoreboarded engine, and its start where it stands at the front (R88, R89, R183, R286). -/
def State.issueTo (s : State) (t eng : Nat) (h : Head) : State :=
  let x := s.tile t
  let w := x.sbWait h.ranges
  let q := mapGet x.dq eng []
  if w ≠ 0 then s.stall t w
  else if dqDepth eng ≤ q.length then
    let tok := match q with | i :: _ => !i.started && !x.tokenOk eng i.word.toNat | [] => false
    s.stall t (if tok then 8 else if eng = 7 then 7 else 5)
  else
    let s1 := s.issueCmd t eng h true [] false
    if q = [] then s1.startFront t eng else s1

/-- A scalar command that completes at issue, after steps 1 to 4; `f` gives its effect on the tile. -/
def State.issueNow (s : State) (t : Nat) (h : Head) (f : Tile → Tile) : State := (s.onT t f).passed t h.idx (h.idx + 1) (cClass h.c) 0x10

end Sys2Proof.Machine
end

