-- ==== Sys2Proof/Machine/TileMove.lean ====
section
/-!
DEFINITION. The mover's, matrix engine's, vector unit's and count unit's commands at the head of a tile's queue (04_command_set.md R130 to R140, R153).
-/
namespace Sys2Proof.Machine

/-- The head command of class `cls` and operation `op` through R88 into dispatch queue `eng`; `ecc` are scratchpad upsets its reads may meet (R94). -/
def State.issueRow (s : State) (t cls op eng : Nat) (ecc : List (Nat × Nat)) : State :=
  let s0 := s.addUpsets t ecc
  match s0.headFor t cls op with
  | .error st => st
  | .ok (s1, h) => s1.issueTo t eng h

/-- MOVE LOAD (R130 to R132). -/
def execMoveLoad (t : Nat) (ecc : List (Nat × Nat)) (s : State) : Out := onTile t (fun _ => s.issueRow t 1 0 0 ecc)

/-- MOVE STORE (R130 to R132, R254, R257). -/
def execMoveStore (t : Nat) (ecc : List (Nat × Nat)) (s : State) : Out := onTile t (fun _ => s.issueRow t 1 1 1 ecc)

/-- MM MMA (R134 to R138). -/
def execMma (t : Nat) (ecc : List (Nat × Nat)) (s : State) : Out := onTile t (fun _ => s.issueRow t 2 0 2 ecc)

/-- MM MMZ (R134 to R138). -/
def execMmz (t : Nat) (ecc : List (Nat × Nat)) (s : State) : Out := onTile t (fun _ => s.issueRow t 2 1 2 ecc)

/-- VEC MAP (R139, R140). -/
def execVecMap (t : Nat) (ecc : List (Nat × Nat)) (s : State) : Out := onTile t (fun _ => s.issueRow t 3 0 3 ecc)

/-- VEC REDUCE (R139, R140). -/
def execVecReduce (t : Nat) (ecc : List (Nat × Nat)) (s : State) : Out := onTile t (fun _ => s.issueRow t 3 1 3 ecc)

/-- CONV on unit L (R133). -/
def execConvL (t : Nat) (ecc : List (Nat × Nat)) (s : State) : Out := onTile t (fun _ => s.issueRow t 4 0 0 ecc)

/-- CONV on unit S (R133). -/
def execConvS (t : Nat) (ecc : List (Nat × Nat)) (s : State) : Out := onTile t (fun _ => s.issueRow t 4 1 1 ecc)

/-- CONV on unit V (R133). -/
def execConvV (t : Nat) (ecc : List (Nat × Nat)) (s : State) : Out := onTile t (fun _ => s.issueRow t 4 2 3 ecc)

/-- CNT COUNT (R107, R153). -/
def execCntCount (t : Nat) (ecc : List (Nat × Nat)) (s : State) : Out := onTile t (fun _ => s.issueRow t 11 0 6 ecc)

/-- CNT MASK (R107, R153). -/
def execCntMask (t : Nat) (ecc : List (Nat × Nat)) (s : State) : Out := onTile t (fun _ => s.issueRow t 11 1 6 ecc)

/-- CNT HIST (R107, R153). -/
def execCntHist (t : Nat) (ecc : List (Nat × Nat)) (s : State) : Out := onTile t (fun _ => s.issueRow t 11 2 6 ecc)

end Sys2Proof.Machine
end

