-- ==== Sys2Proof/Machine/TileScalar.lean ====
section
/-!
DEFINITION. The commands that complete in the scalar core (R142 to R150, R155, R156): SYNC waits, loops, scalar operations, crumbs, marks, halts.
-/
namespace Sys2Proof.Machine

/-- Whether a task has nothing in flight: no queued command, held store, crumb or pending value. -/
def Tile.quiet (x : Tile) : Bool := x.dq.all (fun e => e.2 == []) && x.crumbs == [] && x.outs == [] && x.amxWait == []

/-- A task whose HALT has issued halts, and one asked to stop stops, once nothing is in flight (R116, R156, R182). -/
def State.settleTask (s : State) (t : Nat) : State :=
  let x := s.tile t
  if x.task ≠ .running ∨ !x.quiet then s
  else if x.haltIssued then s.setTile t { x with task := .halted, haltIssued := false, stopReq := false, tokM := 0, tokV := 0, loops := [] }
  else if x.stopReq then s.setTile t { x with task := .stopped, stopReq := false }
  else s

/-- The head of class `cls` and operation `op` with its effect once steps 1 to 4 are passed. -/
def State.scalarRow (s : State) (t cls op : Nat) (f : State → Head → State) : State :=
  match s.headFor t cls op with
  | .error st => st
  | .ok (s1, h) => f s1 h

/-- Operand b of an ALU or CMP (R147). -/
def Tile.opB (x : Tile) (c : Nat) : Nat := if cf c 1 21 21 = 1 then toU 64 (imm32 (cw c 2)) else x.s (cf c 1 20 16)

/-- The ALU functions (Table 4-16). -/
def aluFn (fn a b : Nat) : Nat :=
  let sa := sext 64 a
  let sb := sext 64 b
  let k := b % 64
  match fn with
  | 0x00 => (a + b) % 2 ^ 64
  | 0x01 => (a + 2 ^ 64 - b) % 2 ^ 64
  | 0x02 => a * b % 2 ^ 64
  | 0x03 => a * 2 ^ k % 2 ^ 64
  | 0x04 => a / 2 ^ k
  | 0x05 => toU 64 (sa / ((2 ^ k : Nat) : Int))
  | 0x06 => a &&& b
  | 0x07 => a ||| b
  | 0x08 => a ^^^ b
  | 0x09 => toU 64 (min sa sb)
  | 0x0A => min a b
  | 0x0B => toU 64 (max sa sb)
  | _ => max a b

/-- The CMP conditions (Table 4-16). -/
def cmpFn (cond a b : Nat) : Bool :=
  let sa := sext 64 a
  let sb := sext 64 b
  match cond with
  | 0 => a == b
  | 1 => a != b
  | 2 => sa < sb
  | 3 => sa ≤ sb
  | 4 => sb < sa
  | 5 => sb ≤ sa
  | 6 => a < b
  | 7 => a ≤ b
  | 8 => b < a
  | _ => b ≤ a

/-- The PBOOL functions (R148). -/
def pboolFn (fn : Nat) (a b : Bool) : Bool :=
  match fn with
  | 0 => a && b
  | 1 => a || b
  | 2 => a != b
  | _ => a && !b

/-- WAITB (R142, R226): issues from the first cycle of beat reference + c; late where that beat had begun when it came to be waited for. -/
def effWaitb (t : Nat) (s : State) : State :=
  s.scalarRow t 6 0 (fun s h =>
    let x := s.tile t
    let b := x.beatRef + h.e
    if s.handshake t then s.issueNow t h id
    else if s.beat < b then s.stall t 6
    else
      let s1 := if x.stall = 6 then s else (s.bump (pgTile t) 0xE18 0 1).countEv (pgTile t) 0x24 1
      s1.issueNow t h id)

/-- FBAR's arrival (R143, R182): once every earlier command is complete the tile closes its frame fingerprint, returns its tokens and waits. -/
def effFbar (t : Nat) (s : State) : State :=
  s.scalarRow t 6 1 (fun s h =>
    let x := s.tile t
    if !x.quiet then s.stall t 6
    else
      let items := x.fpItems.foldr (fun i acc => (acc.takeWhile (fun j => j.1 < i.1)) ++ i :: acc.dropWhile (fun j => j.1 < i.1)) []
      let fp := crc32c 0 (items.flatMap (fun i => natLE 8 i.1 ++ natLE 4 i.2.1 ++ natLE 4 i.2.2))
      s.setTile t { x with fbarAt := some (cf h.c 1 15 0), fpFrame := fp, stepFps := x.stepFps ++ [fp], fpItems := [], tokM := 0, tokV := 0, stall := 6 })

/-- LOOP (R145, R146). -/
def effLoop (t : Nat) (s : State) : State :=
  s.scalarRow t 7 0 (fun s h =>
    let len := cf h.c 1 23 0
    let sidx := cf h.c 1 28 24
    if h.e = 0 then s.passed t h.idx (h.idx + len + 1) 7 0x10
    else (s.onT t (fun x => ({ x with
      loops := { first := h.idx + 1, last := h.idx + len, total := h.e, iter := 0, sidx := sidx } :: x.loops }).setS sidx 0)).passed t h.idx (h.idx + 1) 7 0x10)

/-- ALU (R84, R147). -/
def effAlu (t : Nat) (s : State) : State :=
  s.scalarRow t 8 0 (fun s h => s.issueNow t h (fun x => x.setS (cf h.c 1 10 6) (aluFn (cf h.c 1 5 0) (x.s (cf h.c 1 15 11)) (x.opB h.c))))

/-- CMP (R84, R147, R148). -/
def effCmp (t : Nat) (s : State) : State :=
  s.scalarRow t 8 1 (fun s h => s.issueNow t h (fun x => x.setP (cf h.c 1 10 8) (cmpFn (cf h.c 1 3 0) (x.s (cf h.c 1 15 11)) (x.opB h.c))))

/-- PBOOL (R148). -/
def effPbool (t : Nat) (s : State) : State :=
  s.scalarRow t 8 2 (fun s h => s.issueNow t h (fun x => x.setP (cf h.c 1 10 8) (pboolFn (cf h.c 1 1 0) (x.p (cf h.c 1 13 11)) (x.p (cf h.c 1 16 14)))))

/-- LDI (R148). -/
def effLdi (t : Nat) (s : State) : State :=
  s.scalarRow t 8 3 (fun s h => s.issueNow t h (fun x => x.setS (cf h.c 1 10 6) (cw h.c 2 + cw h.c 3 * 2 ^ 32)))

/-- The oldest crumb store reaches its bank (R104). -/
def State.crumbWrite (s : State) (t : Nat) : State :=
  match (s.tile t).crumbs with
  | [] => s
  | k :: ks => (s.onT t (fun x => { x with crumbs := ks })).scrWrite t 10 k.addr (natLE 8 k.val.toNat)

/-- Writes every crumb store out, oldest first (R104: crumb accesses in issue order). -/
def State.crumbFlush (s : State) (t : Nat) : State := (s.tile t).crumbs.foldl (fun st _ => st.crumbWrite t) s

/-- Crumb address of an LDC or STC, and the code that refuses it (R149, R100 checks 1 and 2). -/
def Tile.crumbAddr (x : Tile) (c : Nat) : Nat × Nat :=
  let a := toU 64 ((x.s (cf c 1 15 11) : Int) + imm32 (cw c 2))
  (a, if 0x70000 ≤ a then 0x2010 else if a % 8 ≠ 0 then 0x2011 else 0)

/-- Whether an engine entry conflicts with a crumb access (R104). -/
def Tile.crumbWait (x : Tile) (a : Nat) (write : Bool) : Bool :=
  let r : SbEntry := ⟨write, false, a / 512, a / 512, 0, 0⟩
  (x.sb ++ x.xp.guards).any (fun e => r.conflicts e)

/-- LDC (R149): earlier crumb stores reach the bank first, then the crumb is read. -/
def effLdc (t : Nat) (s : State) : State :=
  s.scalarRow t 8 4 (fun s h =>
    let x := s.tile t
    let (a, code) := x.crumbAddr h.c
    let at_ : CmdAt := { index := h.idx, cls := 8, addr := a }
    if code ≠ 0 then s.taskFault t x.progress code at_
    else if x.crumbWait a false then s.stall t 3
    else
      match (s.crumbFlush t).scrRead t 10 a 8 with
      | (none, s1) => s1.taskFault t x.progress 0x2015 at_
      | (some bs, s1) => s1.issueNow t h (fun y => y.setS (cf h.c 1 10 6) (leNat bs)))

/-- STC (R149, R104): the crumb enters the store buffer. -/
def effStc (t : Nat) (s : State) : State :=
  s.scalarRow t 8 5 (fun s h =>
    let x := s.tile t
    let (a, code) := x.crumbAddr h.c
    if code ≠ 0 then s.taskFault t x.progress code { index := h.idx, cls := 8, addr := a }
    else if x.crumbWait a true then s.stall t 3
    else if 4 ≤ x.crumbs.length then s.stall t 4
    else s.issueNow t h (fun y => { y with crumbs := y.crumbs ++ [⟨a, BitVec.ofNat 64 (y.s (cf h.c 1 20 16)), h.idx, y.progress⟩] }))

/-- Dispatch queue of a conversion unit. -/
def unitEng : Nat → Nat
  | 0 => 0 | 1 => 1 | _ => 3

/-- Whether an issued command converts through a unit and names an AMAX slot (R74). -/
def IssuedCmd.namesAmax (i : IssuedCmd) (unit slot : Nat) : Bool :=
  let c := i.word.toNat
  let cls := cClass c
  (cls == 3 || cls == 4 || (cls == 1 && cCvt c)) && unitOf c == unit && ccwAmaxSlot (cCcw c) == slot

/-- AMXR (R74, R150): the slot's bits now, or once the conversions before it that name the slot are complete. -/
def effAmxr (t : Nat) (s : State) : State :=
  s.scalarRow t 8 6 (fun s h =>
    let x := s.tile t
    let unit := cf h.c 1 23 22
    let slot := cf h.c 1 25 24
    let sd := cf h.c 1 10 6
    if (mapGet x.dq (unitEng unit) []).any (fun i => i.namesAmax unit slot) then
      s.issueNow t h (fun y => { y with
        amxWait := y.amxWait ++ [(unit, slot, sd, y.progress)], pendS := if sd = 0 then y.pendS else y.pendS ++ [(sd, y.progress)] })
    else
      let v := s.getF (pgTile t) (unitBase unit + 4 * slot) 0 31 0
      s.issueNow t h (fun y => y.setS sd v))

/-- AMXRs whose conversions are complete take their value (R74, R150). -/
def State.amxDone (s : State) (t : Nat) : State :=
  let x := s.tile t
  x.amxWait.foldl (fun st w =>
    let busy := (mapGet (st.tile t).dq (unitEng w.1) []).any (fun i => i.namesAmax w.1 w.2.1 && i.ord < w.2.2.2)
    if busy then st
    else
      let v := st.getF (pgTile t) (unitBase w.1 + 4 * w.2.1) 0 31 0
      st.onT t (fun y => { y with amxWait := y.amxWait.filter (· != w), pendS := y.pendS.filter (fun p => p.2 != w.2.2.2) }.setS w.2.2.1 v)) s

/-- MARK (R155, R464): a trace record where tracing is on, then the breakpoints on its mark. -/
def effMark (t : Nat) (s : State) : State :=
  s.scalarRow t 13 0 (fun s h =>
    let x := s.tile t
    let m := cf h.c 1 15 0
    let s1 := if s.getF (pgTile t) 0xE00 0 2 2 = 1 then
        s.traceRec (tDie t) 1 (s.srcId t) x.ctx (natLE 4 h.idx ++ natLE 2 m ++ natLE 2 0 ++ natLE 8 (x.s (cf h.c 1 20 16)))
      else s
    (s1.brkCheck t 1 m h.idx).issueNow t h id)

/-- HALT (R156): no later command issues; the task halts when all earlier ones are complete. -/
def effHalt (t : Nat) (s : State) : State :=
  s.scalarRow t 14 0 (fun s h => (s.issueNow t h (fun x => { x with haltIssued := true })).settleTask t)

/-- WAITB. -/
def execWaitb (t : Nat) (s : State) : Out := onTile t (fun _ => effWaitb t s)
/-- FBAR. -/
def execFbar (t : Nat) (s : State) : Out := onTile t (fun _ => effFbar t s)
/-- LOOP. -/
def execLoop (t : Nat) (s : State) : Out := onTile t (fun _ => effLoop t s)
/-- PRED ALU. -/
def execAlu (t : Nat) (s : State) : Out := onTile t (fun _ => effAlu t s)
/-- PRED CMP. -/
def execCmp (t : Nat) (s : State) : Out := onTile t (fun _ => effCmp t s)
/-- PRED PBOOL. -/
def execPbool (t : Nat) (s : State) : Out := onTile t (fun _ => effPbool t s)
/-- PRED LDI. -/
def execLdi (t : Nat) (s : State) : Out := onTile t (fun _ => effLdi t s)
/-- PRED LDC, with the upsets its read may meet (R94). -/
def execLdc (t : Nat) (ecc : List (Nat × Nat)) (s : State) : Out := onTile t (fun _ => effLdc t (s.addUpsets t ecc))
/-- PRED STC. -/
def execStc (t : Nat) (s : State) : Out := onTile t (fun _ => effStc t s)
/-- PRED AMXR. -/
def execAmxr (t : Nat) (s : State) : Out := onTile t (fun _ => effAmxr t s)
/-- MARK. -/
def execMark (t : Nat) (s : State) : Out := onTile t (fun _ => effMark t s)
/-- HALT. -/
def execHalt (t : Nat) (s : State) : Out := onTile t (fun _ => effHalt t s)

end Sys2Proof.Machine
end

