-- ==== Sys2Proof/Machine/TileTask.lean ====
section
/-!
DEFINITION. Command fetch, completion, stops, clears and the scratchpad window (R86, R87, R95, R112, R113, R116, R117, R157, R182).
-/
namespace Sys2Proof.Machine

/-- COMMAND_FETCH (R86, R87, R114): the next loaf of commands into free queue entries. `err` tells what the returned line held: 0 clean, 1 an error
that the re-fetch cleared, 2 one that it did not (R396). -/
def effFetch (t err : Nat) (s : State) : State :=
  let x := s.tile t
  if x.task ≠ .running ∨ x.cmdrLen ≤ x.fetchNext ∨ s.part (pgTile t) ≠ 0 then s
  else
    let stop := min ((x.fetchNext / 16 + 1) * 16) x.cmdrLen
    let n := stop - x.fetchNext
    if 512 < x.queue.length + n then s
    else
      let p := (s.tileOwner t).getD (x.ctx / 1024)
      let bad (st : State) : State := st.taskFault t x.progress 0x2017 { index := x.fetchNext, cls := 0, addr := x.cmdrBase + 32 * x.fetchNext }
      if 2 ≤ err then bad s
      else match s.tileLoad t p (x.cmdrBase + x.fetchNext / 16 * 512) 512 [] with
        | (.bytes bs, s1) =>
          let cmds := (List.range n).map (fun k =>
            let i := x.fetchNext + k
            (i, BitVec.ofNat 256 (leNat ((bs.drop (i % 16 * 32)).take 32))))
          s1.onT t (fun y => { y with queue := y.queue ++ cmds, fetchNext := stop })
        | (.refused c pa, s1) => bad (if c = 0x2070 ∨ c = 0x2072 then s1.err (pgTile t) c else s1)
        | (.wait, s1) => bad s1

/-- COMMAND_FETCH. -/
def execCommandFetch (t err : Nat) (s : State) : Out := onTile t (fun _ => effFetch t err s)

/-- What remains before a command can complete: its outgoing stores, held entries and waiting stores (R157, R258). -/
def State.storesLeft (s : State) (t ord : Nat) : Bool :=
  (s.tile t).outs.any (fun o => o.ord == ord) || s.waitSt.any (fun w => w.tile == t && w.ord == ord)

/-- A finished command leaves its engine (R85, R103, R157): result register, scoreboard and guard entries, fingerprint item; then the next starts. -/
def State.leave (s : State) (t eng : Nat) (i : IssuedCmd) : State :=
  let s1 := s.onT t (fun x =>
    let y := { x with
      dq := mapSet x.dq eng ((mapGet x.dq eng []).filter (fun k => k.ord != i.ord)), sb := x.sb.filter (fun e => e.ord != i.ord),
      pendS := x.pendS.filter (fun p => p.2 != i.ord), xp := { x.xp with guards := x.xp.guards.filter (fun e => e.ord != i.ord) },
      fpItems := if i.fpLen = 0 then x.fpItems else x.fpItems ++ [(i.ord, i.fpLen, i.fpCrc)] }
    if i.data = [] then y else y.setS (writesS i.word.toNat) (leNat i.data))
  ((s1.amxDone t).startFront t eng).settleTask t

/-- The command of an engine that completes next: the front one; of the exchange port's, whose streams are independent, the first finished one. -/
def Tile.nextDone (x : Tile) (eng : Nat) : Option IssuedCmd :=
  let q := mapGet x.dq eng []
  if eng = 4 then q.find? (·.finished) else q.head?

/-- The next finished command of an engine leaves it. -/
def State.completeCmd (s : State) (t eng : Nat) : State :=
  match (s.tile t).nextDone eng with
  | none => s
  | some i => if !i.finished ∨ s.storesLeft t i.ord then s else s.leave t eng i

/-- COMMAND_COMPLETE (R89, R157): the front command of engine `eng` (0 load path, 1 store path, 2 matrix, 3 vector, 4 exchange, 5 kneader trigger,
6 count, 7 spill queue, 8 atomic, 9 snapshot, 10 the crumb store buffer) completes where nothing is left of it. -/
def effComplete (t eng : Nat) (s : State) : State :=
  if eng = 10 then (s.crumbWrite t).settleTask t else (s.startFront t eng).completeCmd t eng

/-- COMMAND_COMPLETE, with the upsets that the next command's reads may meet (R94). -/
def execCommandComplete (t eng : Nat) (ecc : List (Nat × Nat)) (s : State) : Out := onTile t (fun _ => effComplete t eng (s.addUpsets t ecc))

/-- TASK_STOP: TILE_TASK_CTRL.stop (R116): ignored unless RUNNING; STOPPED once what is in flight completes. A WAITB, KWAIT or FBAR that waits is not
in flight. -/
def effStop (t : Nat) (s : State) : State :=
  let x := s.tile t
  if x.task ≠ .running then s else (s.setTile t { x with stopReq := true, stall := 0 }).settleTask t

/-- TASK_STOP. -/
def execTaskStop (t : Nat) (s : State) : Out := onTile t (fun _ => effStop t s)

/-- TILE_CLEAR: TILE_CLR_CTRL.start (R112), ignored while a clear runs. -/
def execTileClear (t : Nat) (s : State) : Out := onTile t (fun _ => s.startClear t)

/-- CLEAR_COMPLETE (R112, R113). -/
def execClearComplete (t : Nat) (s : State) : Out := onTile t (fun _ => s.endClear t)

/-- A window access that the tile refuses (R360). -/
def State.windowRefuse (s : State) (t p code : Nat) : State :=
  (s.fault { code := code, page := pgTile t, detail := natLE 8 (0x1000_0000_0000 + tDie t * 2 ^ 32) ++ natLE 1 p ++ natLE 1 5, pol := some p }).countEv
    (pgTile t) 5 1

/-- A scratchpad window write from a function (R95, R117, R359): refused, discarded with 0x2019 while RUNNING, waiting while CLEARING, else done.
Only whole crumbs and loaves can be written (R92). -/
def effWindow (fn t addr : Nat) (data : List Byte) (s : State) : State :=
  let x := s.tile t
  let n := data.length
  if s.tileOwner t ≠ some fn then s.windowRefuse t fn 0x2071
  else if 0x70000 < addr + n ∨ n = 0 ∨ !((n % 512 = 0 ∧ addr % 512 = 0) ∨ (n % 8 = 0 ∧ addr % 8 = 0)) then s.windowRefuse t fn 0x2070
  else if x.task = .clearing ∨ !s.serves (pgTile t) then s
  else if x.task = .running then s.err (pgTile t) 0x2019
  else s.scrWrite t 13 addr data

/-- SCRATCHPAD_WINDOW_WRITE. -/
def execScratchpadWindowWrite (fn t addr : Nat) (data : List Byte) (s : State) : Out := onTile t (fun _ => effWindow fn t addr data s)

/-- Whether engine 2 (matrix) or 3 (vector) has no command (R182). -/
def Tile.idleEng (x : Tile) (eng : Nat) : Bool := mapGet x.dq eng [] == []

/-- TOKEN_IDLE_RETURN (R182): an engine idle for idle_release cycles returns its token. -/
def effTokIdle (t : Nat) (vec : Bool) (s : State) : State :=
  let x := s.tile t
  if vec then (if x.idleEng 3 then s.setTile t { x with tokV := 0 } else s) else if x.idleEng 2 then s.setTile t { x with tokM := 0 } else s

/-- TOKEN_IDLE_RETURN. -/
def execTokenIdleReturn (t : Nat) (vec : Bool) (s : State) : Out := onTile t (fun _ => effTokIdle t vec s)

end Sys2Proof.Machine
end

