-- ==== Sys2Proof/Machine/Exchange.lean ====
section
/-!
DEFINITION. The exchange port and the crossings (07_exchange_and_time.md R217 to R228): EXCH commands, slots, loaf arrivals, crossing slots and
handshake credits. When a slot or an arrival falls due is its sender's to say; the command names it.
-/
namespace Sys2Proof.Machine

/-- The stream a tile's image gives a number. -/
def State.stream (s : State) (p st : Nat) : Option Stream :=
  match (s.pol p).image with
  | none => none
  | some im => im.streams.find? (fun x => x.id == st)

/-- The polder whose streams a tile carries. -/
def State.ownerOr (s : State) (t : Nat) : Nat := (s.tileOwner t).getD ((s.tile t).ctx / 1024)

/-- Lowest and highest loaf of a walker's footprint (R206, R227). -/
def Walker.span (w : Walker) : Int × Int :=
  (w.counts.zip w.strides).foldl (fun (a : Int × Int) (q : Nat × Int) =>
    let d := ((q.1 - 1 : Nat) : Int) * q.2
    (a.1 + min 0 d, a.2 + max 0 d)) ((w.base : Int), (w.base : Int))

/-- The guard entry an EXCH takes (R227). -/
def Tile.guardOf (x : Tile) (c idx : Nat) : SbEntry :=
  let sp := (x.wlk (cf c 1 15 12)).span
  ⟨cOp c == 1, false, sp.1.toNat / 512, sp.2.toNat / 512, idx, x.progress⟩

/-- Whether a handshake EXCH must wait for the guard (R227). -/
def Tile.guardWait (x : Tile) (g : SbEntry) : Bool :=
  8 ≤ x.xp.guards.length || (x.sb ++ x.crumbs.map Crumb.entry ++ x.xp.guards).any (fun e => g.conflicts e)

/-- EXCH SEND (op 0) and RECV (op 1) at the head of the queue (R105, R127, R141, R227): they take no scoreboard entries. -/
def effExch (t op : Nat) (s : State) : State :=
  match s.headFor t 5 op with
  | .error st => st
  | .ok (s1, h) =>
    let x := s1.tile t
    let g := x.guardOf h.c h.idx
    let hs := s1.handshake t
    if hs ∧ x.guardWait g then s1.stall t 3
    else if dqDepth 4 ≤ (mapGet x.dq 4 []).length then s1.stall t 5
    else s1.issueCmd t 4 h false (if hs then [g] else []) (h.e == 0)

/-- EXCH SEND. -/
def execExchSend (t : Nat) (s : State) : Out := onTile t (fun _ => effExch t 0 s)
/-- EXCH RECV. -/
def execExchRecv (t : Nat) (s : State) : Out := onTile t (fun _ => effExch t 1 s)

/-- The first SEND (op 0) or RECV (op 1) of a stream with a position left. -/
def Tile.exchCmd (x : Tile) (op st : Nat) : Option IssuedCmd :=
  (mapGet x.dq 4 []).find? (fun i => cOp i.word.toNat == op && cf i.word.toNat 1 11 0 == st && i.done < i.count)

/-- The position of its walker at which an EXCH stands, with its place for a record. -/
def Tile.exchAt (x : Tile) (i : IssuedCmd) : Int × CmdAt :=
  let sl := (opSlots i.word.toNat i.count).getD 0 ⟨true, 0, 0, .local_, 0⟩
  let a := i.addr sl i.done
  let pos := i.first sl + i.done
  (a, { i.at_ with pos := pos, addr := x.shownAddr 0 a, coord := (i.walker sl).coord pos })

/-- TILE_XP_ERR and TILE_XP_ERR_LOAF (R243). -/
def State.xpNote (s : State) (t code side st idx : Nat) : State :=
  (s.setReg (pgTile t) 0xB28 0 (BitVec.ofNat 64 (code % 65536 + 65536 + side % 2 * 131072 + st % 4096 * 262144))).setReg (pgTile t) 0xB2C 0
    (BitVec.ofNat 64 (idx % 65536))

/-- A failed check of Table 7-4 at tile `t` (R40, R223): the detecting tile faults and its polder stops. A tile that does not run a task enters
FAULTED too, unless it is IDLE and has none (log entry 24). -/
def State.xpFault (s : State) (t ord code side st idx : Nat) (c : CmdAt) : State :=
  let p := s.ownerOr t
  let s1 := s.xpNote t code side st idx
  let s2 := s1.setPol p { s1.pol p with xpFault := true }
  let x := s2.tile t
  let f : FaultInfo := { code := code, ctx := x.ctx, tile := s.srcId t, page := pgTile t, cls := 3, action := 4, detail := c.detail, pol := some p }
  let s3 := if x.task = .running then s2.haltTask t ord f
    else (s2.onT t (fun y => if y.task = .idle then y else { y with task := .faulted })).fault f
  s3.polderStop p code true

/-- Whether the scoreboard or crumb buffer holds an entry that conflicts with one loaf's access (R223 XP_ORDER). -/
def Tile.orderBad (x : Tile) (a : Int) (write : Bool) : Bool :=
  let r : SbEntry := ⟨write, false, a.toNat / 512, a.toNat / 512, 0, 0⟩
  (x.sb ++ x.crumbs.map Crumb.entry).any (fun e => r.conflicts e)

/-- A loaf's two dies. -/
def XLoaf.crosses (l : XLoaf) : Bool := tDie l.src != tDie l.dst

/-- D2D instance of die `d` towards die `e` (R16): 2 d, or 2 d + 1. -/
def d2dTo (d e : Nat) : Nat := if e = (d + 1) % 4 then 2 * d else 2 * d + 1

/-- The instance at the other end of a link. -/
def d2dPeer (i : Nat) : Nat := if i % 2 = 0 then 2 * ((i / 2 + 1) % 4) + 1 else 2 * ((i / 2 + 3) % 4)

/-- State field of a D2D instance (R244): 0 DOWN, 1 TRAINING, 2 UP, 3 DEGRADED, 4 FAILED. -/
def State.d2dState (s : State) (i : Nat) : Nat := s.getF (pgD2d i) 0x100 0 2 0

/-- Whether a link carries traffic. -/
def State.d2dUp (s : State) (i : Nat) : Bool := s.d2dState i == 2 || s.d2dState i == 3

/-- Route of a pair in force: 0 the first of Table 7-8, 1 the other, 2 none. -/
def State.route (s : State) (a b : Nat) : Nat := mapGet s.routes (4 * a + b) 0

/-- The sending port reads loaf `done` of a SEND and hands it to the fabric (R219, R226): fingerprint bytes are stream, index, loaf (R414). -/
def State.sendLoaf (s : State) (t st dst idx : Nat) (i : IssuedCmd) (hs : Bool) (a : Int) (at_ : CmdAt) : State :=
  match s.scrRead t 1 a.toNat 512 with
  | (none, s1) => s1.taskFault t i.ord 0x2015 at_
  | (some bs, s1) =>
    let cross := tDie t != tDie dst
    let held := cross && (if hs then s1.route (tDie t) (tDie dst) == 2 || !s1.d2dUp (d2dTo (tDie t) (tDie dst)) && s1.route (tDie t) (tDie dst) == 0 else false)
    let l : XLoaf := { pol := s1.ownerOr t, stream := st, idx := idx, src := t, dst := dst, handshake := hs,
                       stage := if held then 2 else if cross && !hs then 1 else 3, bytes := bs }
    let s2 := { s1 with flight := s1.flight ++ [l] }.onT t (fun x =>
      { x.onCmd 4 i.ord (fun k => ({ k with started := true, done := k.done + 1, finished := k.done + 1 == k.count }).fpAdd (natLE 2 st ++ natLE 2 idx ++ bs)) with
        xp := { x.xp with sent := mapSet x.xp.sent st (mapGet x.xp.sent st 0 + 1) } })
    (s2.bump (pgTile t) 0xB08 0 1).countEv (pgTile t) 0x1F 1

/-- EXCH_SLOT (R219, R223): the slot of the next loaf of a stream at its sending tile in static mode. `late`: the grant has not come by t_i + 11. -/
def effExchSlot (t st : Nat) (late : Bool) (s : State) : State :=
  let p := s.ownerOr t
  let x := s.tile t
  match s.stream p st with
  | none => s
  | some str =>
    if x.task ≠ .running ∨ s.handshake t ∨ s.tileOf p str.src ≠ some t ∨ (s.pol p).stopped then s
    else
      let idx := mapGet x.xp.sent st 0 % str.loaves
      match x.exchCmd 0 st, s.tileOf p str.dst with
      | some i, some dst =>
        let (a, at_) := x.exchAt i
        let e := x.accessCode [] 0 a 512 512 0 false
        if e ≠ 0 then s.taskFault t i.ord e at_
        else if late then s.xpFault t i.ord 0x2030 0 st idx at_
        else if x.orderBad a false then s.xpFault t i.ord 0x2034 0 st idx at_
        else s.sendLoaf t st dst idx i false a at_
      | _, _ => s.xpFault t x.progress 0x2030 0 st idx { index := x.cmdIndex, cls := 5 }

/-- EXCH_SLOT, with the upsets that its read may meet (R94). -/
def execExchSlot (t stream : Nat) (late : Bool) (ecc : List (Nat × Nat)) (s : State) : Out :=
  onTile t (fun _ => effExchSlot t stream late (s.addUpsets t ecc))

/-- A loaf in flight. -/
def State.loafFor (s : State) (t st idx : Nat) (stages : List Nat) : Option XLoaf :=
  s.flight.find? (fun l => l.dst == t && l.stream == st && l.idx == idx && stages.contains l.stage)

/-- Takes one loaf out of the fabric. -/
def State.landed (s : State) (l : XLoaf) : State := { s with flight := s.flight.erase l }

/-- A discarded loaf is counted (R113, R223). -/
def State.xpDiscard (s : State) (t : Nat) (l : XLoaf) : State := (s.landed l).sat (pgTile t) 0xB18 0 31 0 1

/-- A loaf is written to its RECV's next position (R219, R226). -/
def State.recvLoaf (s : State) (t : Nat) (l : XLoaf) (i : IssuedCmd) : State :=
  let x := s.tile t
  let (a, at_) := x.exchAt i
  let e := x.accessCode [] 0 a 512 512 1 false
  let s0 := s.landed l
  if e ≠ 0 then s0.taskFault t i.ord e at_
  else if !l.handshake ∧ x.orderBad a true then s0.xpFault t i.ord 0x2034 1 l.stream l.idx at_
  else
    (((s0.scrWrite t 0 a.toNat l.bytes).onT t (fun y =>
      { y.onCmd 4 i.ord (fun k => { k with started := true, done := k.done + 1, finished := k.done + 1 == k.count }) with
        xp := { y.xp with rcvd := mapSet y.xp.rcvd l.stream (mapGet y.xp.rcvd l.stream 0 + 1) } })).bump (pgTile t) 0xB10 0 1).countEv (pgTile t) 0x20 1

/-- EXCH_LOAF_ARRIVAL (R223, R224, R226): a loaf enters the receiving port of tile `t`. -/
def effArrival (t st idx : Nat) (s : State) : State :=
  match s.loafFor t st idx [3] with
  | none => s
  | some l =>
    let x := s.tile t
    let p := l.pol
    let none_ : CmdAt := { index := x.cmdIndex, cls := 5 }
    if x.task = .clearing ∨ l.dead ∨ (s.pol p).stopped then s.xpDiscard t l
    else if x.task ≠ .running then
      if l.handshake then s
      else if (x.task = .faulted ∨ x.task = .stopped) ∧ (s.pol p).xpFault then s.xpDiscard t l
      else (s.landed l).xpFault t x.progress 0x2031 1 st idx none_
    else if l.handshake != s.handshake t then (s.landed l).xpFault t x.progress 0x2032 1 st idx none_
    else match x.exchCmd 1 st with
      | some i => s.recvLoaf t l i
      | none => if l.handshake then s else (s.landed l).xpFault t x.progress 0x2031 1 st idx none_

/-- EXCH_LOAF_ARRIVAL. -/
def execExchLoafArrival (t stream idx : Nat) (s : State) : Out := onTile t (fun _ => effArrival t stream idx s)

/-- CROSSING_SLOT (R220, R231, R238): the oldest waiting loaf of logical column `col`'s gateway on die `die` crosses the link that faces its
destination; `retry` when one link-level replay was needed and the loaf still met its allowance (Table 7-5). On a link that carries no traffic it
never reaches the landing buffer. -/
def effCrossing (die col : Nat) (retry : Bool) (s : State) : State :=
  match s.flight.find? (fun l => l.stage == 1 && tDie l.src == die && s.logCol die (tCol l.src) == col) with
  | none => s
  | some l =>
    let i := d2dTo die (tDie l.dst)
    let up := s.d2dUp i
    let s1 := { s with flight := s.flight.map (fun m => if m = l then { m with stage := if up then 3 else 2 } else m) }
    if !up then s1
    else
      let s2 := s1.countEv (pgD2d i) 0x10 1
      if retry then ((s2.bump (pgD2d i) 0x118 0 1).countEv (pgD2d i) 0x15 1).bump (pgD2d (d2dPeer i)) 0x120 0 1 else s2

/-- CROSSING_SLOT. -/
def execCrossingSlot (die col : Nat) (retry : Bool) (s : State) : Out :=
  if die < 4 ∧ col < 36 then .next (effCrossing die col retry s) else .fault .noSuchUnit

/-- XP_CROSS_LATE (R223, R235, R238): a static crossing loaf for tile `t` has not reached the landing buffer at g_i + 48. -/
def effCrossLate (t st idx : Nat) (s : State) : State :=
  match s.loafFor t st idx [1, 2] with
  | none => s
  | some l =>
    if l.handshake then s
    else
      let x := s.tile t
      let s1 := (s.landed l).sat (pgD2d (d2dPeer (d2dTo (tDie l.src) (tDie t)))) 0x128 0 31 0 1
      if l.dead ∨ (s.pol l.pol).stopped then s1.sat (pgTile t) 0xB18 0 31 0 1
      else
        let (ord, at_) := match x.exchCmd 1 st with
          | some i => (i.ord, (x.exchAt i).2)
          | none => (x.progress, { index := x.cmdIndex, cls := 5 })
        s1.xpFault t ord 0x2033 1 st idx at_

/-- XP_CROSS_LATE. -/
def execXpCrossLate (t stream idx : Nat) (s : State) : Out := onTile t (fun _ => effCrossLate t stream idx s)

/-- Loaves of credit that a receiving port has out: granted and unused, or on their way to it (R226). -/
def State.creditOut (s : State) (t : Nat) : Nat :=
  (s.tile t).xp.credits.foldl (fun n e => n + e.2) 0 + (s.flight.filter (fun l => l.dst == t && l.handshake && !l.dead)).length

/-- HANDSHAKE_CREDIT (R226): the receiving port of tile `t` grants a stream one loaf of credit while an issued RECV has positions left, at most 4
loaves a port; the sending port, where its SEND has a loaf and a credit is out, sends that loaf. -/
def effCredit (t st : Nat) (ecc : List (Nat × Nat)) (s : State) : State :=
  let p := s.ownerOr t
  match s.stream p st with
  | none => s
  | some str =>
    if s.tileOf p str.dst ≠ some t ∨ (s.pol p).stopped then s
    else
      let x := s.tile t
      let left := ((mapGet x.dq 4 []).filter (fun i => cOp i.word.toNat == 1 && cf i.word.toNat 1 11 0 == st)).foldl (fun n i => n + (i.count - i.done)) 0
      let out := mapGet x.xp.credits st 0 + (s.flight.filter (fun l => l.dst == t && l.handshake && !l.dead && l.stream == st)).length
      let s1 := if s.handshake t ∧ x.task = .running ∧ out < left ∧ s.creditOut t < 4 then
          s.onT t (fun y => { y with xp := { y.xp with credits := mapSet y.xp.credits st (mapGet y.xp.credits st 0 + 1) } })
        else s
      match s1.tileOf p str.src with
      | none => s1
      | some u =>
        let y := s1.tile u
        match y.exchCmd 0 st with
        | none => s1
        | some i =>
          if y.task ≠ .running ∨ !s1.handshake u ∨ mapGet (s1.tile t).xp.credits st 0 = 0 then s1
          else
            let (a, at_) := y.exchAt i
            let e := y.accessCode [] 0 a 512 512 0 false
            if e ≠ 0 then s1.taskFault u i.ord e at_
            else
              let s2 := (s1.addUpsets u ecc).onT t (fun z => { z with xp := { z.xp with credits := mapSet z.xp.credits st (mapGet z.xp.credits st 0 - 1) } })
              s2.sendLoaf u st t (mapGet y.xp.sent st 0 % str.loaves) i true a at_

/-- HANDSHAKE_CREDIT, with the upsets that the sending port's read may meet (R94). -/
def execHandshakeCredit (t stream : Nat) (ecc : List (Nat × Nat)) (s : State) : Out := onTile t (fun _ => effCredit t stream ecc s)

end Sys2Proof.Machine
end

