-- ==== Sys2Proof/Machine/D2d.lean ====
section
/-!
DEFINITION. Die-to-die links (07_exchange_and_time.md R231 to R239, R244, R245): flits, lane sparing, bundles, failure, routes and retraining. A link direction
is named by its receiving instance, whose page holds its lane maps and bundle count (log entry 26).
-/
namespace Sys2Proof.Machine

/-- The detail of an 0x11xx record (Table 14-3). -/
def d2dDetail (i bundle lane die : Nat) : List Byte :=
  natLE 1 i ++ natLE 1 bundle ++ natLE 1 lane ++ natLE 1 0 ++ natLE 2 0 ++ natLE 1 die ++ natLE 1 0 ++ natLE 2 0 ++ natLE 2 0 ++ natLE 1 0xFF

/-- A D2D instance records and posts a code. -/
def State.d2dPost (s : State) (i code cls action bundle lane : Nat) : State :=
  s.fault { code := code, page := pgD2d i, cls := cls, action := action, detail := d2dDetail i bundle lane (d2dPeer i / 2) }

/-- Sets both ends of a link. -/
def State.d2dBoth (s : State) (i st : Nat) : State := (s.setF (pgD2d i) 0x100 0 2 0 st).setF (pgD2d (d2dPeer i)) 0x100 0 2 0 st

/-- Link `k` joins dies k and k + 1. -/
def State.linkUp (s : State) (k : Nat) : Bool := s.d2dUp (2 * (k % 4))

/-- The links of route `r` of a pair (Table 7-8). -/
def routeLinks (a b r : Nat) : List Nat :=
  let d := (b + 4 - a) % 4
  if d = 1 then (if r = 0 then [a] else [(a + 3) % 4, (a + 2) % 4, (a + 1) % 4])
  else if d = 3 then (if r = 0 then [(a + 3) % 4] else [a, (a + 1) % 4, (a + 2) % 4])
  else if d = 2 then (if r = 0 then [a, (a + 1) % 4] else [(a + 3) % 4, (a + 2) % 4])
  else []

/-- The route of a pair that Table 7-8 gives for the links as they are: 2 where none is up (R236). -/
def State.routeOf (s : State) (a b : Nat) : Nat :=
  if (routeLinks a b 0).all s.linkUp then 0 else if (routeLinks a b 1).all s.linkUp then 1 else 2

/-- Polders with a column on both of two dies. -/
def State.spanning (s : State) (a b : Nat) : List Nat :=
  (List.range 64).filter (fun p => let cs := s.bound 0 p; cs.any (fun c => c / 36 == a) && cs.any (fun c => c / 36 == b))

/-- Die `d` recomputes its routes: each pair newly without one is unreachable (R236). -/
def State.recompute (s : State) (d : Nat) : State :=
  let s0 := { s with notices := if s.notices.contains d then s.notices else s.notices ++ [d] }
  (List.range 4).foldl (fun st e =>
    if e = d ∨ st.routeOf d e ≠ 2 ∨ st.unreach.contains (4 * d + e) then st
    else
      let st1 := { st with unreach := st.unreach ++ [4 * d + e] }.fault
        { code := 0x1105, page := pgD2d (d2dTo d e), cls := 5, detail := d2dDetail (d2dTo d e) 0 0 e }
      (st1.spanning d e).foldl (fun x p => x.polderStop p 0x2033 true) st1) s0

/-- A link becomes FAILED (R234, R236, R245): a sparing is abandoned, 0x1103 is posted, its two dies recompute their routes. -/
def State.failLink (s : State) (i : Nat) : State :=
  if s.d2dState i = 4 then s
  else
    let j := d2dPeer i
    let clean (x : D2DLink) : D2DLink := { x with sparing := none, retraining := false, failedOnce := [] }
    let s1 := ((s.setD2d i (clean (s.d2dl i))).setD2d j (clean (s.d2dl j))).d2dBoth i 4
    let s2 := ({ s1 with notices := [] }.d2dPost i 0x1103 5 0 0 0).recompute (i / 2)
    s2.recompute (j / 2)

/-- A bundle retires (R233, R234): 0x1102, DEGRADED, or FAILED with fewer than 5. -/
def State.retireBundle (s : State) (i b : Nat) : State :=
  if s.getF (pgD2d i) 0x110 b 28 28 = 1 then s
  else
    let n := s.getF (pgD2d i) 0x100 0 11 8 - 1
    let x := s.d2dl i
    let keep := match x.sparing with | some (q, _) => q != b | none => false
    let s1 := (((s.setF (pgD2d i) 0x110 b 28 28 1).setF (pgD2d i) 0x100 0 11 8 n).setD2d i
      { x with sparing := if keep then x.sparing else none, laneErr := mapDrop x.laneErr (fun k => k / 64 == b) }).lasting (pgD2d i)
    let s2 := s1.d2dPost i 0x1102 2 2 b 0
    if n < 5 then s2.failLink i else s2.d2dBoth i 3

/-- The lane that spare `k` of a bundle replaces, 0x7F where free. -/
def State.spareLane (s : State) (i b k : Nat) : Nat := s.getF (pgD2d i) 0x110 b (7 * k + 6) (7 * k)

/-- The first free spare of a bundle from `k` on. -/
def State.freeSpare (s : State) (i b k : Nat) : Option Nat := (List.range 4).find? (fun n => k ≤ n && s.spareLane i b n == 0x7F)

/-- The lane errors that start sparing; 0 acts as 1 (R244). -/
def State.spareThresh (s : State) (i : Nat) : Nat := max 1 (s.getF (pgD2d i) 0x104 0 7 0)

/-- Starts the next sparing that is due, lowest bundle and lane first; a bundle without a free spare retires (R233, R245). -/
def State.nextSparing (s : State) (i : Nat) : State :=
  let x := s.d2dl i
  if x.sparing.isSome ∨ s.getF (pgD2d i) 0x104 0 8 8 = 0 ∨ !s.d2dUp i then s
  else match x.laneErr.find? (fun e => s.spareThresh i ≤ e.2) with
    | none => s
    | some (k, _) =>
      match s.freeSpare i (k / 64) 0 with
      | some sp => s.setD2d i { x with sparing := some (k / 64, k % 64, sp, 0) }
      | none => s.retireBundle i (k / 64)

/-- D2D_FLIT (R232, R233): instance `i` receives a flit of class `cls` (0 XS, 1 CTL, 2 KND, 3 XH, 4 MEM) of a die pair with its sequence number; `lanes` are
lanes whose parity is wrong, `bad` that its CRC is. -/
def effD2dFlit (i cls src dst seq b : Nat) (lanes : List Nat) (bad : Bool) (s : State) : State :=
  if !s.d2dUp i ∨ s.getF (pgD2d i) 0x110 b 28 28 = 1 then s
  else
    let x := s.d2dl i
    let key := ((src * 4 + dst) * 8 + cls)
    let errs := lanes.foldl (fun m l => mapSet m (b * 64 + l % 64) (mapGet m (b * 64 + l % 64) 0 + 1)) x.laneErr
    let s1 := (s.setD2d i { x with laneErr := errs }).countEv (pgD2d (d2dPeer i)) (0x10 + cls) 1
    if bad then
      let flit := key * 65536 + seq % 65536
      if x.failedOnce.contains flit then
        (s1.setD2d i { s1.d2dl i with failedOnce := x.failedOnce.filter (· != flit) }).retireBundle i b
      else
        let s2 := s1.setD2d i { s1.d2dl i with failedOnce := x.failedOnce ++ [flit] }
        ((s2.bump (pgD2d (d2dPeer i)) 0x118 0 1).countEv (pgD2d (d2dPeer i)) 0x15 1).nextSparing i
    else
      let flit := key * 65536 + seq % 65536
      let s2 := s1.setD2d i { s1.d2dl i with failedOnce := x.failedOnce.filter (· != flit) }
      let hub := 2 * (i / 2)
      let y := s2.d2dl hub
      let fresh := match mapFind? y.accepted key with | some q => decide (q < seq) | none => true
      (if dst == i / 2 && fresh then s2.setD2d hub { y with accepted := mapSet y.accepted key seq } else s2).nextSparing i

/-- D2D_FLIT. -/
def execD2dFlit (link cls src dst seq bundle : Nat) (lanes : List Nat) (bad : Bool) (s : State) : Out :=
  if link < 8 ∧ bundle < 8 ∧ src < 4 ∧ dst < 4 ∧ cls < 5 then .next (effD2dFlit link cls src dst seq bundle lanes bad s) else .fault .noSuchUnit

/-- D2D_SPARE_REQ (R233): the transmitter mirrors the failing lane onto the spare. -/
def effSpareReq (i b l : Nat) (s : State) : State :=
  match (s.d2dl i).sparing with
  | some (b', l', sp, 0) => if b' = b ∧ l' = l then s.setD2d i { s.d2dl i with sparing := some (b, l, sp, 1) } else s
  | _ => s

/-- D2D_SPARE_REQ. -/
def execD2dSpareReq (link bundle lane : Nat) (s : State) : Out := onLink link (fun _ => effSpareReq link bundle lane s)

/-- D2D_SPARE_TRAINED (R233): the spare is clean and SPARE_GO is sent, or the next free spare is tried; a bundle with none left retires. -/
def effSpareTrained (i : Nat) (ok : Bool) (s : State) : State :=
  match (s.d2dl i).sparing with
  | some (b, l, sp, 1) =>
    if ok then s.setD2d i { s.d2dl i with sparing := some (b, l, sp, 2) }
    else match s.freeSpare i b (sp + 1) with
      | some k => s.setD2d i { s.d2dl i with sparing := some (b, l, k, 0) }
      | none => (s.setD2d i { s.d2dl i with sparing := none }).retireBundle i b
  | _ => s

/-- D2D_SPARE_TRAINED. -/
def execD2dSpareTrained (link : Nat) (ok : Bool) (s : State) : Out := onLink link (fun _ => effSpareTrained link ok s)

/-- D2D_SPARE_GO (R233, Table 7-7): both ends switch; D2D_BMAP shows the spare and 0x1101 is posted. -/
def effSpareGo (i : Nat) (s : State) : State :=
  match (s.d2dl i).sparing with
  | some (b, l, sp, 2) =>
    let x := s.d2dl i
    let s1 := ((s.setF (pgD2d i) 0x110 b (7 * sp + 6) (7 * sp) l).sat (pgD2d i) 0x100 0 21 16 1).setD2d i
      { x with sparing := none, laneErr := mapDrop x.laneErr (fun k => k == b * 64 + l) }
    (s1.d2dPost i 0x1101 2 1 b l).nextSparing i
  | _ => s

/-- D2D_SPARE_GO. -/
def execD2dSpareGo (link : Nat) (s : State) : Out := onLink link (fun _ => effSpareGo link s)

/-- D2D_NO_FLIT_TIMEOUT (R234): no flit decoded for 64 SCLK cycles on a link that carries traffic. -/
def execD2dNoFlitTimeout (link : Nat) (s : State) : Out := onLink link (fun _ => if s.d2dUp link then s.failLink link else s)

/-- D2D_FAIL: D2D_CTRL.fail (R234, R244). -/
def execD2dFail (link : Nat) (s : State) : Out := onLink link (fun _ => s.failLink link)

/-- D2D_ROUTE_NOTICE (R236): die `die` learns of a change and recomputes every route. -/
def execD2dRouteNotice (die : Nat) (s : State) : Out := onDie die (fun _ => s.recompute die)

/-- D2D_ROUTE_SWITCH (R237, R238): once every die's routes reflect the change, a pair's route changes, and its held handshake loaves go on. -/
def effRouteSwitch (a b : Nat) (s : State) : State :=
  if a = b ∨ !([0, 1, 2, 3].all (fun d => s.notices.contains d)) then s
  else
    let r := s.routeOf a b
    let s1 := { s with routes := mapSet s.routes (4 * a + b) r }
    let s2 := if (b + 4 - a) % 4 = 2 then s1 else s1.setF (pgD2d (d2dTo a b)) 0x100 0 24 24 (b2n (r == 1))
    if r = 2 then s2
    else { s2 with flight := s2.flight.map (fun (l : XLoaf) =>
      if l.stage = 2 ∧ l.handshake ∧ tDie l.src = a ∧ tDie l.dst = b then { l with stage := 3 } else l) }

/-- D2D_ROUTE_SWITCH. -/
def execD2dRouteSwitch (src dst : Nat) (s : State) : Out := if src < 4 ∧ dst < 4 then .next (effRouteSwitch src dst s) else .fault .noSuchUnit

/-- A link starts training again (R239, R244). -/
def State.retrainLink (s : State) (i : Nat) : State :=
  ((s.setD2d i { s.d2dl i with retraining := true }).setD2d (d2dPeer i) { s.d2dl (d2dPeer i) with retraining := true }).d2dBoth i 1

/-- D2D_RETRAIN: D2D_CTRL.retrain on a FAILED link; ignored in other states. -/
def execD2dRetrain (link : Nat) (s : State) : Out := onLink link (fun _ => if s.d2dState link = 4 then s.retrainLink link else s)

/-- An instance reports UP with all its bundles (R239; log entry 27). -/
def State.d2dFresh (s : State) (i : Nat) : State :=
  let s1 := (List.range 8).foldl (fun st b => if st.getF (pgD2d i) 0x110 b 28 28 = 1 then st.setF (pgD2d i) 0x110 b 28 28 0 else st) s
  ((s1.setF (pgD2d i) 0x100 0 2 0 2).setF (pgD2d i) 0x100 0 11 8 8).setD2d i { s1.d2dl i with retraining := false, laneErr := [], failedOnce := [] }

/-- LINK_RESTORED (R239): both ends UP and the detour drained: each pair returns to its route of Table 7-8 and 0x1106 is posted. -/
def effRestored (i : Nat) (s : State) : State :=
  if !(s.d2dl i).retraining then s
  else
    let s1 := (s.d2dFresh i).d2dFresh (d2dPeer i)
    let s2 := (List.range 4).foldl (fun st a => (List.range 4).foldl (fun st b => effRouteSwitch a b st) st)
      { s1 with notices := [0, 1, 2, 3], unreach := s1.unreach.filter (fun k => s1.routeOf (k / 4) (k % 4) == 2) }
    s2.d2dPost i 0x1106 1 0 0 0

/-- LINK_RESTORED. -/
def execLinkRestored (link : Nat) (s : State) : Out := onLink link (fun _ => effRestored link s)

/-- Lane error counts start again with each frame (R233). -/
def State.d2dFrame (s : State) : State := { s with d2d := s.d2d.map (fun e => (e.1, { e.2 with laneErr := [] })) }

end Sys2Proof.Machine
end

