-- ==== Sys2Proof/Machine/PowerOps.lean ====
section
/-!
DEFINITION. Throttle reasons, the clock level, throttle episodes and proof ramps (13_power_current_thermal.md R376, R377, R385 to R389, R392).
-/
namespace Sys2Proof.Machine

/-- The detail of codes that Table 14-3 lists under all others: a polder (0xFF none) and the values that the owning chapter names. -/
def detOther (pol : Nat) (vals : List Nat) : List Byte := natLE 1 pol ++ zeros 3 ++ vals.flatMap (natLE 4)

/-! The level (R376). -/

/-- The clock level in force. -/
def State.level (s : State) : Nat := s.getF pgWeir 0x100 0 4 0

/-- The target level. -/
def State.target (s : State) : Nat := s.getF pgWeir 0x100 0 12 8

/-- Key of a reason's unit. -/
def ceilKey (r u : Nat) : Nat := r * 65536 + u

/-- The ceiling of a reason's unit. -/
def State.ceilOf (s : State) (r u : Nat) : Nat := mapGet s.power.ceil (ceilKey r u) 16

/-- The ceiling of a reason: the lowest of its units. -/
def State.reasonCeil (s : State) (r : Nat) : Nat := (s.power.ceil.filter (fun e => e.1 / 65536 == r)).foldl (fun m e => min m e.2) 16

/-- The lowest ceiling. -/
def State.lowCeil (s : State) : Nat := s.power.ceil.foldl (fun m e => min m e.2) 16

/-- Reasons that are active, and those that bind, as masks. -/
def State.activeMask (s : State) : Nat := (List.range 10).foldl (fun m r => if s.reasonCeil r < 16 then m + 2 ^ r else m) 0
def State.bindMask (s : State) : Nat :=
  (List.range 10).foldl (fun m r => if s.reasonCeil r = s.lowCeil ∧ s.lowCeil < 16 then m + 2 ^ r else m) 0

/-- The target and the reason masks follow the ceilings. -/
def State.retarget (s : State) : State :=
  let t := s.lowCeil
  ((((s.setF pgWeir 0x100 0 12 8 t).setF pgWeir 0x100 0 5 5 (b2n (decide (s.level < t)))).setF pgWeir 0x104 0 9 0 s.activeMask).setF pgWeir 0x104 0 25 16
    s.bindMask)

/-- The level in force changes, with its trace record (Table 16-5). -/
def State.setLevel (s : State) (n : Nat) : State :=
  let s1 := (s.setF pgWeir 0x100 0 4 0 n).setF pgWeir 0x100 0 5 5 (b2n (decide (n < s.target)))
  s1.traceRec 0 6 pgWeir 0xFFFF (natLE 1 s.level ++ natLE 1 n ++ natLE 2 s.activeMask ++ natLE 2 s.bindMask)

/-! Episodes (R392). -/

/-- Time units of 1 / 720720 ns in one beat at the level in force (R26: 1,024 / n ns), and in one µs. -/
def State.beatTime (s : State) : Nat := 1024 * 720720 / max 1 s.level
def usTime : Nat := 720720000

/-- The PWR and GAUGE blocks post a code about a unit (R395). -/
def State.powerPost (s : State) (pg code cls unit : Nat) : State :=
  s.fault { code := code, page := pg, cls := cls, detail := detOther 0xFF [unit] }

/-- The code posted at the start of an episode (R395). -/
def episodeCode (r : Nat) : Option (Nat × Nat) :=
  match r with
  | 2 => some (pgGauge, 0x0401)
  | 3 => some (pgGauge, 0x0402)
  | 4 => some (pgPwr, 0x0205)
  | 5 => some (pgPwr, 0x0204)
  | 9 => some (pgGauge, 0x0403)
  | _ => none

/-- The detail of a throttle record (Table 13-3). -/
def episodeDetail (r u : Nat) : Nat := if r = 0 ∨ 6 ≤ r ∧ r ≤ 8 then 0xFFFF else u

/-- The 32 bytes of a throttle log record (Table 13-6). -/
def Episode.bytes (e : Episode) (stop : Nat) : List Byte :=
  natLE 1 e.reason ++ natLE 1 e.low ++ natLE 2 (episodeDetail e.reason e.unit) ++ natLE 4 (min (e.time / usTime) (2 ^ 32 - 1)) ++ natLE 8 (e.begin % 2 ^ 56)
    ++ natLE 8 (stop % 2 ^ 56) ++ natLE 4 (min (e.bind / usTime) (2 ^ 32 - 1)) ++ natLE 2 e.peak ++ zeros 2

/-- A record enters the throttle log and goes to the PF's ring; overwriting one not passed posts 0x0404 once (R392). -/
def State.logEpisode (s : State) (e : Episode) : State :=
  let w := s.power
  let bs := e.bytes s.beat
  let lost : Bool := decide (w.passed + 256 ≤ w.logN)
  let s1 := { s with power := { w with log := mapSet w.log (w.logN % 256) bs, logN := w.logN + 1, passed := if lost then w.logN + 1 - 256 else w.passed } }
  let s2 := (s1.setF pgGauge 0x128 0 7 0 ((w.logN + 1) % 256)).setF pgGauge 0x128 0 24 16 (min (w.logN + 1) 256)
  let s3 := s2.post none { recType := 3, length := 32, body := bs }
  if lost && s.getF pgGauge 0x128 0 31 31 == 0 then (s3.setF pgGauge 0x128 0 31 31 1).powerPost pgGauge 0x0404 1 0 else s3

/-- Whether an episode is that of a reason and unit: HBM_TEMP keeps one per stack, the others one per reason. -/
def Episode.is (e : Episode) (r u : Nat) : Bool := e.reason == r && (r != 3 || e.unit == u)

/-- An episode begins. -/
def State.beginEpisode (s : State) (r u low peak : Nat) : State :=
  let s1 := { s with power := { s.power with episodes := s.power.episodes ++ [{ reason := r, unit := u, begin := s.beat, low := low, peak := peak }] } }
  match episodeCode r with
  | some (pg, code) => s1.powerPost pg code 1 u
  | none => s1

/-- An episode ends. -/
def State.endEpisode (s : State) (r u : Nat) : State :=
  match s.power.episodes.find? (·.is r u) with
  | none => s
  | some e => ({ s with power := { s.power with episodes := s.power.episodes.filter (fun x => !x.is r u) } } : State).logEpisode e

/-- A reading counts towards the peak of a running episode. -/
def State.notePeak (s : State) (r u peak : Nat) : State :=
  { s with power := { s.power with episodes := s.power.episodes.map (fun e => if e.is r u then { e with peak := max e.peak peak } else e) } }

/-- Sets a ceiling, 6 to 16; its episode begins, goes lower or ends, and the target follows (R376, R392). -/
def State.setCeil (s : State) (r u c peak : Nat) : State :=
  let c' := max 6 (min c 16)
  let w := s.power
  let s1 := { s with power := { w with ceil := if c' = 16 then mapDrop w.ceil (fun k => k == ceilKey r u) else mapSet w.ceil (ceilKey r u) c' } }
  let was := if r = 3 then s.ceilOf r u else s.reasonCeil r
  let now := if r = 3 then s1.ceilOf r u else s1.reasonCeil r
  let low (st : State) : State :=
    { st with power := { st.power with episodes := st.power.episodes.map (fun e => if e.is r u then { e with low := min e.low now } else e) } }
  let s2 := if was = 16 ∧ now < 16 then s1.beginEpisode r u now peak
    else if was < 16 ∧ now = 16 then (s1.notePeak r u peak).endEpisode r u
    else (low s1).notePeak r u peak
  s2.retarget

/-- Adds a beat's time to the durations of each reason and episode (R392). -/
def State.countReasons (s : State) : State :=
  let dt := s.beatTime
  let binds (r : Nat) : Bool := (s.bindMask).testBit r
  let add (st : State) (r : Nat) (on : Bool) (off : Nat) (get : Power → SMap Nat) (set : Power → SMap Nat → Power) : State :=
    if !on then st else
    let t := mapGet (get st.power) r 0 + dt
    ({ st with power := set st.power (mapSet (get st.power) r (t % usTime)) } : State).bump pgGauge off r (t / usTime)
  let s1 := (List.range 10).foldl (fun st r =>
    add (add st r (s.activeMask.testBit r) 0x118 Power.activeT (fun w m => { w with activeT := m })) r (binds r) 0x120 Power.bindT
      (fun w m => { w with bindT := m })) s
  { s1 with power := { s1.power with episodes := s1.power.episodes.map (fun e =>
      { e with time := e.time + dt, bind := if binds e.reason then e.bind + dt else e.bind }) } }

/-! Tokens (R182, R183, R385 to R387). Currents are in token weight × level, 1/16 of 12.5 mA each; a current class is 320 of them. -/

/-- The token weight a tile holds. -/
def Tile.tokWeight (x : Tile) : Nat := actWeight x.tokM + actWeight x.tokV

/-- Token weight held on die `d`, by polder `p`'s tiles where one is named. -/
def State.dieTok (s : State) (d : Nat) (p : Option Nat) : Nat :=
  (s.tiles.filter (fun e => e.2.tokWeight != 0 && tDie e.1 == d && (match p with | some q => s.tileOwner e.1 == some q | none => true))).foldl
    (fun n e => n + e.2.tokWeight) 0

/-- A current in classes; where it is not a whole number of them, the spec does not say how it is rounded, and the model draws which way. -/
def State.inClasses (s : State) (cur : Nat) : Nat × State :=
  let (v, s1) := drawFree s
  (min 4095 (cur / 320 + (if cur % 320 = 0 then 0 else v % 2)), s1)

/-- A tile's measured peak is at least what it holds now, in classes rounded up (R387). -/
def State.ampNote (s : State) (t : Nat) : State :=
  let c := ceilDiv ((s.tile t).tokWeight * s.level) 320
  if s.getF (pgTile t) 0x14 0 27 16 < c then s.setF (pgTile t) 0x14 0 27 16 c else s

/-- The token current of a die as its registers show it, and its peak (R395). -/
def State.noteTok (s : State) (d : Nat) : State :=
  let (c, s1) := s.inClasses (s.dieTok d none * s.level)
  let s2 := s1.setF pgWeir 0x114 d 11 0 c
  if s2.getF pgWeir 0x114 d 27 16 < c then s2.setF pgWeir 0x114 d 27 16 c else s2

/-! Proof ramps (R388, R389). -/

/-- Admission cycles by R388: weights in ptile order, c columns. `i` bounds the intervals. -/
def admissions (bp wp : Nat) : List Nat → Nat → Nat → List Nat
  | [], _, _ => []
  | w :: ws, k, cum =>
    let i := max (k / wp) (ceilDiv (cum + w) bp - 1)
    32 * i :: admissions bp wp ws (k + 1) (cum + w)

/-- A proof ramp begins at beat `b` on every die where a tile of the list has an admission (R389). -/
def State.startRamp (s : State) (p : Nat) (ts : List Nat) (b : Nat) : State :=
  (List.range 4).foldl (fun st d =>
    let mine := ((mapGet (st.pol p).ramp d []).map (·.1)).filter ts.contains
    if mine = [] then st
    else
      let st1 := mine.foldl (fun u t => u.onT t (fun x => { x with admitAt := some b })) st
      (st1.setPol p { st1.pol p with running := mapSet (st1.pol p).running d b }).bump pgWeir 0x130 d 1) s

/-- Whether a ramp runs on any die (R377). -/
def State.rampRuns (s : State) : Bool := s.pols.any (fun e => e.2.running != [])

end Sys2Proof.Machine
end

