-- ==== Sys2Proof/Machine/HostOps.lean ====
section
/-!
DEFINITION. What an INTAKE does with requests, its rings and its record backlog (15_host_interface.md R430, R435, R439 to R441, R445, R446, R448).
-/
namespace Sys2Proof.Machine

/-- DEV_BOOT_STATUS.state (Table 15-12): 4 READY. -/
def State.bootState (s : State) : Nat := s.getF pgDev 0x100 0 2 0

/-- Sets INTAKE_STATUS.state: 0 DISABLED, 1 IDLE, 2 BUSY, 3 WAIT, 4 HALTED, 5 DISABLING. -/
def State.setIn (s : State) (p st : Nat) : State := s.setF (pgIntake p) 0x104 0 2 0 st

/-- A request index: 0x114 TAIL, 0x118 HEAD, 0x11C DONE. -/
def State.rqIdx (s : State) (p off : Nat) : Nat := s.getF (pgIntake p) off 0 31 0

/-- Entries that the host has written and the INTAKE has not completed. -/
def State.rqOwed (s : State) (p : Nat) : Nat := (s.rqIdx p 0x114 + 2 ^ 32 - s.rqIdx p 0x11C) % 2 ^ 32

/-- An INTAKE code is recorded and posted (R458). -/
def State.intakePost (s : State) (p code : Nat) (toPol : Bool) : State :=
  s.fault { code := code, page := pgIntake p, cls := 1, detail := detOther p [], pol := if toPol then some p else none }

/-- The INTAKE halts with a code (R440, R448). -/
def State.haltIntake (s : State) (p code : Nat) (toPol : Bool) : State :=
  ((s.setIn p 4).setF (pgIntake p) 0x104 0 31 16 code).intakePost p code toPol

/-- Fetches the entries the host has written, or halts where they are more than the ring holds (R440). Entries are fetched as soon as they may be
(DESIGN CHOICE, log entry 32). -/
def State.fetchReqs (s : State) (p : Nat) : State :=
  let st := s.inState p
  if s.getF (pgIntake p) 0x100 0 0 0 = 0 ∨ !s.fnLive p ∨ st = 4 ∨ st = 0 ∨ s.module.powerDown then s
  else if 2 ^ s.rqLog p < s.rqOwed p then s.haltIntake p 0x0667 true
  else s.setF (pgIntake p) 0x118 0 31 0 (s.rqIdx p 0x114)

/-- Ends the request in progress: the state it leaves behind. -/
def State.reqEnd (s : State) (p : Nat) : State :=
  let s1 := (s.setIntake p { s.intake p with entry := none, result := none }).setF (pgIntake p) 0x104 0 15 8 0
  if s.inState p = 5 then s1.setIn p 0 else if s.inState p = 4 then s1 else s1.setIn p 1

/-- Writes a result, then the tally, and advances DONE (R441). -/
def State.reqWrite (s : State) (p result : Nat) : State :=
  let pg := pgIntake p
  let done := s.rqIdx p 0x11C
  let next := (done + 1) % 2 ^ 32
  let tally := (s.reg pg 0x120 0).toNat
  let s1 := s.hostWrite p ((s.reg pg 0x108 0).toNat + done % 2 ^ s.rqLog p * 64 + 2) (natLE 2 result)
  let s2 := if tally = 0 then s1 else s1.hostWrite p tally (natLE 8 next)
  (s2.setF pg 0x11C 0 31 0 next).reqEnd p

/-- The request in progress of INTAKE `p` completes with a result: at once; held while the function cannot write (R430); or, in a halted INTAKE, without
a result (R448). -/
def State.reqDone (s : State) (p result : Nat) : State :=
  let k := s.intake p
  match k.entry with
  | none => s
  | some _ =>
    if s.inState p = 4 then s.reqEnd p
    else if !s.fnLive p then s.setIntake p { k with result := some result }
    else s.reqWrite p result

/-- The function of INTAKE `p` can issue accesses again: a held result goes out and fetching resumes (R430). -/
def State.resumeIntake (s : State) (p : Nat) : State :=
  if !s.fnLive p then s
  else
    let k := s.intake p
    let s1 := match k.result with
      | some r => s.reqWrite p r
      | none => if s.inState p = 3 then s.setIn p (if k.entry.isSome then 2 else 1) else s
    s1.fetchReqs p

/-- The function of INTAKE `p` can issue no accesses: WAIT (R430). -/
def State.pauseIntake (s : State) (p : Nat) : State :=
  if s.inState p = 1 ∨ s.inState p = 2 then s.setIn p 3 else s

/-- Whether a request whose entry carries an opcode that `f` accepts can start in INTAKE `p`: fetched, and nothing in progress (R440). -/
def State.canStart (s : State) (p : Nat) (entry : List Byte) (f : Nat → Bool) : Bool :=
  s.getF (pgIntake p) 0x100 0 0 0 == 1 && s.inState p == 1 && s.fnLive p && s.rqIdx p 0x118 != s.rqIdx p 0x11C && f ((entry.headD 0).toNat)

/-- A request starts (R440); `f` answers what it does. -/
def State.request (s : State) (p : Nat) (entry : List Byte) (f : Nat → Bool) (eff : State → State) : State :=
  if !s.canStart p entry f then s
  else eff (((s.setIntake p { s.intake p with entry := some (padTo 64 entry) }).setIn p 2).setF (pgIntake p) 0x104 0 15 8 ((entry.headD 0).toNat))

/-- A field of a request entry (Table 15-6). -/
def reqField (entry : List Byte) (o n : Nat) : Nat := leNat ((padTo 64 entry).drop o |>.take n)

/-- Returns the INTAKE page of polder `p` to its reset values: rings disabled, backlog gone (R429). -/
def State.resetIntake (s : State) (p : Nat) : State :=
  ({ s with intakes := mapDrop s.intakes (fun k => k == p), regs := s.regs.filter (fun e => keyPage e.1 != pgIntake p),
            act := s.act.filter (fun e => keyPage e.1 != pgIntake p), staged := s.staged.filter (fun k => keyPage k != pgIntake p),
            lowHeld := s.lowHeld.filter (fun e => keyPage e.1 != pgIntake p),
            hiCap := s.hiCap.filter (fun e => keyPage e.1 != pgIntake p) } : State).setPol p { s.pol p with seed := 0 }

/-- A LOST record with the records lost since the last one (R446). -/
def lostRecord (n : Nat) : Record := { recType := 5, length := 8, body := natLE 2 5 ++ natLE 2 0 ++ natLE 4 n }

/-- Writes what waits in INTAKE `p`'s backlog, a LOST record first (R446); `n` bounds the records. -/
def State.drainBacklog : Nat → Nat → State → State
  | 0, _, s => s
  | n + 1, p, s =>
    let k := s.intake p
    if !s.canPost p then s
    else if 0 < k.lostPend then
      State.drainBacklog n p ((({ s with recSeq := s.recSeq + 1 } : State).setIntake p { k with lostPend := 0 }).slotWrite p (lostRecord k.lostPend))
    else match k.backlog with
      | [] => s
      | r :: rs => State.drainBacklog n p (((s.setIntake p { k with backlog := rs }).setF (pgIntake p) 0x13C 0 6 0 rs.length).slotWrite p r)

end Sys2Proof.Machine
end

