-- ==== Sys2Proof/Machine/LoadBase.lean ====
section
/-!
DEFINITION. Changes of binding that are staged, and loads that begin, end and are abandoned (06_images_and_verifier.md R200, R201, R210 to R212;
12_polders.md R369).
-/
namespace Sys2Proof.Machine

/-! Staged re-binding (R363, R369). -/

/-- The owner that a binding word names, if its bound bit is set. -/
def wordOwner (w : Word) : Option Nat := if fld w 6 6 = 1 then some (fld w 5 0) else none

/-- Offset and selection of a register key. -/
def keyOff (k : Nat) : Nat := k / 32768 % 4096
def keySel (k : Nat) : Nat := k % 32768

/-- Binding entries (table × 4096 + index) whose owner or bound bit the staged values change, with the old and the new owner. -/
def State.bindChanges (s : State) : List (Nat × Option Nat × Option Nat) :=
  s.staged.filterMap (fun k =>
    if keyPage k = pgPld ∧ keyOff k = 0x104 then
      let old := wordOwner (s.regAct pgPld 0x104 (keySel k))
      let new := wordOwner (s.reg pgPld 0x104 (keySel k))
      if old = new then none else some (keySel k, old, new)
    else none)

/-- Whether a key of the PLD page is staged. -/
def State.isStaged (s : State) (pg off sel : Nat) : Bool := s.staged.contains (regKey pg off sel)

/-- Whether the staged values give polder `p` a new key (R369). -/
def State.rotates (s : State) (p : Nat) : Bool := s.isStaged pgPld 0x114 p && s.getF pgPld 0x114 p 16 16 == 1

/-- Whether the staged values change polder `p`'s ftid or slice. -/
def State.fabricChanges (s : State) (p : Nat) : Bool :=
  (s.isStaged pgPld 0x114 p && s.getF pgPld 0x114 p 15 0 != s.getA pgPld 0x114 p 15 0) ||
    (s.isStaged pgPld 0x118 p && s.getF pgPld 0x118 p 30 0 != s.getA pgPld 0x118 p 30 0)

/-- The polders that the staged values re-bind (R369). -/
def State.changedPols (s : State) : List Nat :=
  let ch := s.bindChanges
  (List.range 64).filter (fun p => ch.any (fun c => c.2.1 == some p || c.2.2 == some p) || s.rotates p || s.fabricChanges p)

/-- Whether an armed activation changes polder `p`'s bindings (R201 phase 1). -/
def State.armChanges (s : State) (p : Nat) : Bool := (s.armB.isSome || s.armF.isSome) && s.changedPols.contains p

/-! Loads. -/

/-- The dies that hold columns of a polder, ascending. -/
def State.polDies (s : State) (p : Nat) : List Nat := (List.range 4).filter (fun d => (s.bound 0 p).any (fun c => c / 36 == d))

/-- The die whose loader core leads a load of the polder: the lowest-numbered with one of its columns; die 0 where it has none. -/
def State.leadDie (s : State) (p : Nat) : Nat := (s.polDies p).headD 0

/-- What a completion record says (Table 6-11); all ones where a field names nothing. -/
structure LoadEnd where
  result : Nat
  task : Nat := 0
  flags : Nat := 0
  detClear : Nat := 0
  replayClear : Nat := 0
  section_ : Nat := 0xFFFF
  ptile : Nat := 0xFFFF
  entry : Nat := 0xFFFF_FFFF
  cmd : Nat := 0xFFFF_FFFF
  offset : Nat := 0xFFFF_FFFF
  digest : Nat := 0
  tiles : Nat := 0
  us : Nat := 0
deriving DecidableEq, Repr

/-- The 64 bytes of a completion record. -/
def LoadEnd.bytes (e : LoadEnd) (p tag beat : Nat) : List Byte :=
  natLE 2 2 ++ natLE 2 e.result ++ natLE 2 (ctxId p e.task) ++ natLE 2 e.flags ++ natLE 8 (beat % 2 ^ 56) ++ natLE 4 e.detClear ++ natLE 4 e.replayClear
    ++ natLE 2 e.section_ ++ natLE 2 e.ptile ++ natLE 4 e.entry ++ natLE 4 e.cmd ++ natLE 4 e.offset ++ natLE 4 tag ++ natLE 4 e.digest ++ natLE 4 e.tiles
    ++ natLE 4 (min e.us (2 ^ 32 - 1)) ++ zeros 8

/-- Sets or clears a polder's seal (R372). -/
def State.sealPol (s : State) (p : Nat) (on : Bool) : State := s.setF pgPld 0x114 p 17 17 (b2n on)

/-- Whether a polder is sealed. -/
def State.sealed (s : State) (p : Nat) : Bool := s.getF pgPld 0x114 p 17 17 == 1

/-- The completion record is posted and the LOAD request, where one waits, completes (R210, Table 15-7). -/
def State.reportLoad (s : State) (p lead tag : Nat) (e : LoadEnd) : State :=
  let s1 := s.post (some p) { recType := 2, length := 64, body := e.bytes p tag s.beat }
  let s2 := (s1.setReg (pgDie lead) 0x304 0 (BitVec.ofNat 64 (e.result + p * 2 ^ 16))).bump (pgDie lead) (if e.result = 0 then 0x308 else 0x310) 0 1
  if s2.getF (pgIntake p) 0x104 0 15 8 = 1 then s2.reqDone p e.result else s2

/-- Phases 2 and 3 (R201): the image's lines are fenced, the polder is unsealed, its image is gone and its tiles are cleared. A load takes a polder's stop
and its gate away (R401, R443). -/
def State.beginLoad (s : State) (p : Nat) : State :=
  match (s.intake p).entry with
  | none => s
  | some e =>
    let r : LoadReq := { tag := reqField e 4 4, addr := reqField e 8 8, length := reqField e 0x10 4, lead := s.leadDie p }
    let s1 := s.setPol p { s.pol p with loading := some r, image := none, gate := none, stopped := false, stopCause := 0, xpFault := false,
                                        prot := some (r.addr, ceilDiv r.length 512 * 512), ramp := [], running := [], barRefs := [], snaps := [] }
    let s2 := (s1.tilesOf p).foldl (fun st t => st.startClear t) (s1.sealPol p false)
    { s2 with linkRes := s2.linkRes.map (fun x => (x.1, x.2.filter (fun l => l.pol != p))) }

/-- Dies whose loader cores serve a load, or wait for one accepted earlier. -/
def State.loaderBusy (s : State) (ps : List Nat) (d : Nat) : Bool :=
  s.pols.any (fun e => e.2.loading.isSome && (s.polDies e.1).contains d) || ps.any (fun p => (s.polDies p).contains d)

/-- Starts every waiting load whose dies are free (Table 6-12). `seen` holds the polders that still wait before the rest. -/
def State.startLoads : List Nat → List Nat → State → State
  | [], _, s => s
  | p :: ps, seen, s =>
    if (s.polDies p).any (s.loaderBusy seen) then State.startLoads ps (seen ++ [p]) s
    else State.startLoads ps seen (({ s with loadWait := s.loadWait.erase p } : State).beginLoad p)

/-- Starts what can start of the waiting loads. -/
def State.nextLoads (s : State) : State := State.startLoads s.loadWait [] s

/-- A load ends: `e` goes into its record (R210). -/
def State.endLoad (s : State) (p : Nat) (r : LoadReq) (e : LoadEnd) : State :=
  ((s.setPol p { s.pol p with loading := none }).reportLoad p r.lead r.tag e).nextLoads

/-- A load that began is abandoned, or rejected after phase 2: the tiles are left to clear, the fence is lifted and the polder sealed (R201, R212). -/
def State.undoLoad (s : State) (p : Nat) : State :=
  let s1 := (s.setPol p { s.pol p with prot := none, image := none }).sealPol p true
  (s1.tilesOf p).foldl (fun st t => if (st.tile t).task = .idle then st else st.startClear t) s1

/-- A polder's load is abandoned with 0x1061 (R212). -/
def State.abandonLoad (s : State) (p : Nat) : State :=
  match (s.pol p).loading with
  | some r => (s.undoLoad p).endLoad p r { result := 0x1061 }
  | none =>
    if s.loadWait.contains p then
      match (s.intake p).entry with
      | some e => ({ s with loadWait := s.loadWait.erase p } : State).reportLoad p (s.leadDie p) (reqField e 4 4) { result := 0x1061 }
      | none => { s with loadWait := s.loadWait.erase p }
    else s

end Sys2Proof.Machine
end

