-- ==== Sys2Proof/Machine/PldOps.lean ====
section
/-!
DEFINITION. Unit parts, arm checks and the effects of an activation (12_polders.md R363 to R369; 14_reliability_and_recovery.md R404 to R406;
07_exchange_and_time.md R225, R230).
-/
namespace Sys2Proof.Machine

/-! Units that take no activation (R367). -/

/-- The device's active generation (PLD_GEN.active). -/
def State.gen (s : State) : Nat := s.getF pgArm 0x118 0 31 16

/-- Pages whose stored part is not ACTIVE, or that are stale. -/
def State.oddPages (s : State) : List Nat := (s.regs.filter (fun e => keyOff e.1 == 0x24 && fld e.2 2 0 != 0)).map (fun e => keyPage e.1)

/-- Tiles of columns that no logical column uses (R405). -/
def State.spareTiles (s : State) : List Nat :=
  (List.range 4).flatMap (fun d => (List.range 32).flatMap (fun y =>
    ((List.range 38).filter (fun x => s.logCol d x == 36)).map (fun x => d * 1216 + y * 38 + x)))

/-- The mode-arm page records and posts a code about a unit. -/
def State.armPost (s : State) (code : Nat) (pol : Option Nat) (vals : List Nat) : State :=
  s.fault { code := code, page := pgArm, cls := 1, detail := detOther (pol.getD 0xFF) vals, pol := pol }

/-- A unit's own generation where it differs from the device's: it missed an activation. -/
def State.missedGen (s : State) (pg : Nat) : Option Nat := (mapFind? s.regs (regKey pg 0x28 0)).map (fun w => fld w 31 16)

/-- A unit returns to ACTIVE (R367, R406): stale, with 0x0545, where it missed an activation. -/
def State.wakeUnit (s : State) (pg : Nat) : State :=
  let s1 := s.setF pg 0x24 0 1 0 0
  if (s.missedGen pg).isSome then (s1.setF pg 0x24 0 2 2 1).armPost 0x0545 none [pg] else s1

/-- A unit takes its page's staged values (R367). -/
def State.takeStaged (s : State) (pg : Nat) : State :=
  let ks := s.staged.filter (fun k => keyPage k == pg)
  let s1 := ks.foldl (fun st k => { st with act := mapSet st.act k ((mapFind? st.regs k).getD (regReset pg (keyOff k))) }) s
  let s2 : State := { s1 with staged := s1.staged.filter (fun k => keyPage k != pg) }
  if ks.contains (regKey pg 0x20 0) ∧ s2.getF pg 0x20 0 0 0 = 1 then s2.setF pg 0x24 0 1 0 1 else s2

/-! Columns. -/

/-- The staged retirement mask of a die. -/
def State.stagedRetire (s : State) (d : Nat) : Nat := s.retired d ||| s.getF (pgDie d) 0x410 0 37 0

/-- Columns that a mask leaves. -/
def liveCount (m : Nat) : Nat := ((List.range 38).filter (fun x => !m.testBit x)).length

/-- Whether device column `c` is unavailable under R19 or R367. -/
def State.colUnavail (s : State) (c : Nat) : Bool :=
  match s.physCol (c / 36) (c % 36) with
  | none => true
  | some x => (List.range 32).any (fun y => s.stale (pgTile (c / 36 * 1216 + y * 38 + x)))

/-- Whether device column `c` would be unavailable with the staged retirements. -/
def State.colWouldFail (s : State) (c : Nat) : Bool := decide (liveCount (s.stagedRetire (c / 36)) ≤ c % 36) || s.colUnavail c

/-! Arm checks (R365, Table 12-4). Each answers the index at which it fails first. -/

/-- The staged owner of a binding entry. -/
def State.stagedOwner (s : State) (tb i : Nat) : Option Nat := wordOwner (s.reg pgPld 0x104 (tb * 4096 + i))

/-- Whether an entry of table `tb` is bound to `p` in the staged tables. -/
def State.stagedBound (s : State) (tb n p : Nat) : Bool := (List.range n).any (fun i => s.stagedOwner tb i == some p)

/-- A staged sluice entry, as State.sluice gives an active one. -/
def State.stagedSluice (s : State) (i : Nat) : Nat × Nat × Nat × Nat × Nat × Nat × Nat :=
  let w := s.reg pgPld 0x148 i
  (fld w 1 0, fld w 7 2, fld w 13 8, fld w 17 14, fld w 28 18, fld w 36 29 + 1, fld w 63 48)

/-- Reason 2: a slice that the torus does not hold. -/
def State.sliceBad (s : State) (p : Nat) : Bool :=
  let w := s.reg pgPld 0x118 p
  let bad (o n size : Nat) : Bool := decide (size ≤ o) || decide (n = 0) || decide (size < n)
  let t := s.torus
  bad (fld w 3 0) (fld w 18 14) (t.getD 0 1) || bad (fld w 8 4) (fld w 24 19) (t.getD 1 1) || bad (fld w 13 9) (fld w 30 25) (t.getD 2 1)

/-- Reason 3: a polder with a port and no ftid, or an ftid that another polder shares. -/
def State.ftidBad (s : State) (p : Nat) : Bool :=
  let f (q : Nat) := s.getF pgPld 0x114 q 15 0
  if f p = 0 then s.stagedBound 2 32 p else (List.range 64).any (fun q => q != p && f q == f p)

/-- Reason 4: a READ or WRITE entry with a field that is not its owner's. -/
def State.sluiceOwnerBad (s : State) (i : Nat) : Bool :=
  let (k, o, _, _, ff, n, _) := s.stagedSluice i
  (k == 1 || k == 2) && !(List.range n).all (fun j => s.stagedOwner 1 (ff + j) == some o)

/-- Reason 5: a malformed sluice entry. -/
def State.sluiceFormBad (s : State) (i : Nat) : Bool :=
  let (k, o, u, w, ff, n, ft) := s.stagedSluice i
  if k = 1 ∨ k = 2 then
    o == u || decide (1728 < ff + n) || ft != 0 || (List.range 64).any (fun j =>
      let e := s.stagedSluice j
      j != i && (e.1 == 1 || e.1 == 2) && e.2.2.1 == u && e.2.2.2.1 == w)
  else if k = 3 then ft == 0 || o != 0 || w != 0 || ff != 0 || n != 1
  else false

/-- Reason 6: sleep staged on a page that may not sleep. -/
def State.sleepBad (s : State) (pg : Nat) : Bool :=
  match pageBlock pg with
  | some (.tile, t) => decide (s.devCol t < 144) && (s.stagedOwner 0 (s.devCol t)).isSome
  | some (.lnk, q) => (s.stagedOwner 2 q).isSome
  | some (.knd, d) => (List.range 16).any (fun k => (s.stagedOwner 3 (d * 16 + k)).isSome)
  | _ => true

/-- Pages with sleep = 1 staged. -/
def State.sleepPages (s : State) : List Nat :=
  (s.regs.filter (fun e => keyOff e.1 == 0x20 && fld e.2 0 0 == 1)).map (fun e => keyPage e.1)

/-- The first failing check of Table 12-4 as reason, index and table. -/
def State.armFail (s : State) : Option (Nat × Nat × Nat) :=
  let find (l : List Nat) (f : Nat → Bool) (reason table : Nat) : Option (Nat × Nat × Nat) := (l.find? f).map (fun i => (reason, i, table))
  (find (List.range 144) (fun c => (s.stagedOwner 0 c).isSome && s.colWouldFail c) 1 0).orElse (fun _ =>
    (find (List.range 64) s.sliceBad 2 5).orElse (fun _ =>
      (find (List.range 64) s.ftidBad 3 5).orElse (fun _ =>
        (find (List.range 64) s.sluiceOwnerBad 4 6).orElse (fun _ =>
          (find (List.range 64) s.sluiceFormBad 5 6).orElse (fun _ =>
            (find s.sleepPages s.sleepBad 6 7).map (fun r => (r.1, r.2.1 % 2048, r.2.2)))))))

/-! Effects of re-binding (R369, Table 12-5). -/

/-- Every tile of a list that serves is cleared. -/
def State.clearTiles (s : State) (ts : List Nat) : State :=
  ts.foldl (fun st t => if st.serves (pgTile t) then st.startClear t else st) s

/-- A field changes owner, or its key is renewed. -/
def State.renewField (s : State) (f : Nat) : State :=
  let s1 := (s.freeLines (fun ln => ln * 128 / 2 ^ 28 == f) true).freshen f
  { s1 with slices := s1.slices.map (fun e => (e.1, { e.2 with locks := e.2.locks.filter (fun l => l.2.da / 2 ^ 28 != f) })) }

/-- A polder's tenant flits leave the ports' buffers: replay buffers, gates and unacknowledged messages; its reservations go too (R317). -/
def State.dropTenant (s : State) (p ft : Nat) : State :=
  { s with
    ports := s.ports.map (fun e => (e.1, { e.2 with replay := e.2.replay.filter (fun f => f.ftid != ft || ft == 0),
                                                    gate := e.2.gate.filter (fun g => g.pol != p), msgs := e.2.msgs.filter (fun m => m.2.ftid != ft || ft == 0) }))
    linkRes := s.linkRes.map (fun e => (e.1, e.2.filter (fun r => r.pol != p))) }

/-- The flow epoch of a polder advances and its send-side counters start again (R317). -/
def State.newEpoch (s : State) (p : Nat) : State :=
  ({ s with sendSeq := mapDrop s.sendSeq (fun k => k / 2 ^ 64 == p) } : State).setPol p { s.pol p with flowEpoch := ((s.pol p).flowEpoch + 1) % 64 }

/-- A kneader slot is emptied. -/
def State.emptySlot (s : State) (k : Nat) : State :=
  let x := s.knd (k / 16)
  s.setKnd (k / 16) { x with descs := mapDrop x.descs (fun j => j / 256 == k % 16), insts := mapDrop x.insts (fun j => j / 256 == k % 16) }

/-- A polder is unloaded: bind epoch, image, protected range, and 0x0547. -/
def State.unloadPol (s : State) (p : Nat) : State :=
  let x := s.pol p
  (s.setPol p { x with bindEpoch := (x.bindEpoch + 1) % 65536, image := none, gate := none, prot := none, ramp := [], running := [], barRefs := [],
                       snaps := [] }).armPost 0x0547 (some p) []

/-- A polder's key slot is renewed in every stack (R260). -/
def State.rotateKey (s : State) (p : Nat) : State :=
  let s1 := (s.bound 1 p).foldl State.renewField s
  let s2 := (List.range 12).foldl (fun st k => st.bump (pgHbmc k) 0x13C p 1) s1
  (s2.setF pgPld 0x114 p 16 16 0).setAct pgPld 0x114 p (setFld (s2.regAct pgPld 0x114 p) 16 16 0)

/-! Columns and modes at an activation. -/

/-- Device columns of die `d` whose physical position a new retirement mask moves. -/
def State.movedCols (s : State) (d m : Nat) : List Nat :=
  let live := (List.range 38).filter (fun x => !m.testBit x)
  ((List.range 36).filter (fun x => live[x]? != s.physCol d x)).map (fun x => 36 * d + x)

/-- The stops of R230: where a moved column runs, every polder with a moved column stops. -/
def State.stopMoved (s : State) (d m : Nat) : State :=
  let cs := s.movedCols d m
  let runs (c : Nat) : Bool := (List.range 32).any (fun y => match s.physTile d y (c % 36) with | some t => (s.tile t).task == .running | none => false)
  if !cs.any runs then s
  else (List.range 64).foldl (fun st p => if cs.any (fun c => s.owner 0 c == some p) then st.polderStop p 0x2032 true else st) s

/-- Tiles whose exchange mode the staged values change while they run (R225). -/
def State.modeStops (s : State) : List Nat :=
  s.staged.filterMap (fun k =>
    match pageBlock (keyPage k) with
    | some (.tile, t) =>
      if keyOff k = 0xB00 ∧ s.serves (keyPage k) ∧ (s.tile t).task = .running ∧ s.getF (keyPage k) 0xB00 0 0 0 ≠ s.getA (keyPage k) 0xB00 0 0 0 then some t
      else none
    | _ => none)

/-- Retires the columns of die `d` that its active DIE_COL_RETIRE names (R404); spares that come into use are cleared, and the generation of a retired
column's tiles stays as it is. -/
def State.retireCols (s : State) (d : Nat) : State :=
  let pg := pgDie d
  let old := s.retired d
  let new := old ||| s.getA pg 0x410 0 37 0
  ((List.range 38).filter (fun x => new.testBit x && !old.testBit x)).foldl (fun st x =>
    let before := (List.range 38).filter (fun c => st.logCol d c == 36)
    let st1 := (st.setF pg 0x400 0 37 0 (st.retired d ||| 2 ^ x)).setF pg 0x408 0 37 0 (st.getF pg 0x408 0 37 0 &&& (2 ^ 38 - 1 - 2 ^ x))
    let st2 := (List.range 32).foldl (fun u y => u.setF (pgTile (d * 1216 + y * 38 + x)) 0x28 0 31 16 u.gen) st1
    let woken := before.filter (fun c => st2.logCol d c != 36)
    let st3 := (woken.flatMap (fun c => (List.range 32).map (fun y => d * 1216 + y * 38 + c))).foldl (fun u t =>
      ({ u with regs := u.regs.filter (fun e => e.1 != regKey (pgTile t) 0x28 0) } : State).startClear t) st2
    let st4 := st3.fault { code := 0x1072, page := pg, cls := 2, action := 2, detail := detOther 0xFF [x] }
    if liveCount (st4.retired d) < 36 then st4.fault { code := 0x1073, page := pg, cls := 5, detail := detOther 0xFF [x] } else st4) s

end Sys2Proof.Machine
end

