-- ==== Sys2Proof/Machine/Polder.lean ====
section
/-!
DEFINITION. The commands of the mode-arm page: arming, activation and rejoin (12_polders.md R364 to R370, R495).
-/
namespace Sys2Proof.Machine

/-! Arming (R364 to R366). -/

/-- PLD_ARM_STATUS.state: 0 IDLE, 1 ARMED_BEAT, 2 ARMED_FRAME, 3 ACTIVATING. -/
def State.armState (s : State) : Nat := s.getF pgArm 0x104 0 1 0

/-- PLD_ARM_STATUS.result. -/
def State.armResult (s : State) (code : Nat) : State := s.setF pgArm 0x104 0 31 16 code

/-- A refused arm, disarm or discard: its code in the result and in PG_ERR. -/
def State.armRefuse (s : State) (code : Nat) : State := (s.armResult code).err pgArm code

/-- The common order of the checks of an arm: busy, lead limit, Table 12-4. -/
def State.tryArm (s : State) (late : Bool) (ok : State → State) : State :=
  if s.armState ≠ 0 ∨ s.frameLoad.isSome then s.armRefuse 0x0541
  else if late then s.armRefuse 0x0540
  else match s.armFail with
    | some (r, i, t) => (s.armRefuse 0x0542).setReg pgArm 0x11C 0 (BitVec.ofNat 64 (r + i * 2 ^ 8 + t * 2 ^ 19))
    | none => ok ((s.armResult 0).setReg pgArm 0x11C 0 0)

/-- ARM_BEAT (R365). -/
def effArmBeat (s : State) : State :=
  let b := s.getF pgArm 0x108 0 55 0
  s.tryArm (decide (b < s.beat + 16)) (fun st => ({ st with armB := some b } : State).setF pgArm 0x104 0 1 0 1)

/-- ARM_BEAT. -/
def execArmBeat (s : State) : Out := .next (effArmBeat s)

/-- ARM_FRAME (R365). -/
def effArmFrame (s : State) : State :=
  let f := s.getF pgArm 0x110 0 47 0
  s.tryArm (decide (f < s.frame + 2)) (fun st => ({ st with armF := some f } : State).setF pgArm 0x104 0 1 0 2)

/-- ARM_FRAME. -/
def execArmFrame (s : State) : Out := .next (effArmFrame s)

/-- The activation beat of the armed activation: that of a frame is the first beat of its local frame (R28). -/
def State.armBeat (s : State) : Option Nat :=
  match s.armB, s.armF with
  | some b, _ => some b
  | none, some f => some ((s.beat / 1024 + (f - s.frame)) * 1024)
  | none, none => none

/-- DISARM (R366). -/
def effDisarm (s : State) : State :=
  if s.armState = 0 then s.armResult 0
  else match s.armBeat with
    | some b => if s.armState ≠ 3 ∧ s.beat + 4 ≤ b then (({ s with armB := none, armF := none } : State).setF pgArm 0x104 0 1 0 0).armResult 0
      else s.armRefuse 0x0543
    | none => s.armRefuse 0x0543

/-- DISARM. -/
def execDisarm (s : State) : Out := .next (effDisarm s)

/-- ARM_CTRL_DISCARD (R364): every staged value returns to its active one. -/
def effArmDiscard (s : State) : State :=
  if s.armState ≠ 0 then s.armRefuse 0x0541
  else
    let s1 : State := s.staged.foldl (fun st k =>
      let keep := (mapFind? st.regs k).getD (regReset (keyPage k) (keyOff k))
      let back := (mapFind? st.act k).getD (regReset (keyPage k) (keyOff k))
      let v := if keyPage k = pgPld ∧ keyOff k = 0x114 then setFld back 17 17 (fld keep 17 17) else back
      { st with regs := mapSet st.regs k v }) s
    ({ s1 with staged := [] } : State).armResult 0

/-- ARM_CTRL_DISCARD. -/
def execArmCtrlDiscard (s : State) : Out := .next (effArmDiscard s)

/-- ARM_CTRL_MULTI (R495): refused as a whole. -/
def execArmCtrlMulti (val : Nat) (s : State) : Out :=
  .next (if ((List.range 4).filter (fun i => bitOf val i)).length < 2 then s else s.armRefuse 0x0548)

/-! Activation (R367, R369). -/

/-- Whether an armed activation is due. -/
def State.actDue (s : State) : Bool := s.armState != 3 && (match s.armBeat with | some b => decide (b ≤ s.beat) | none => false)

/-- The pages whose units take the activation: those with staged values that serve, or that staged sleep = 0 wakes; the PLD tables always. -/
def State.takers (s : State) : List Nat :=
  ((s.staged.map keyPage).eraseDups).filter (fun pg => pg == pgPld || pg == pgArm || s.serves pg)

/-- Units that staged sleep = 0 wakes before B. -/
def State.wakers (s : State) : List Nat :=
  ((s.staged.filter (fun k => keyOff k == 0x20)).map keyPage).filter (fun pg => s.getF pg 0x24 0 1 0 == 1 && s.getF pg 0x20 0 0 0 == 0)

/-- The generation moves on; a unit that does not take it keeps its own (R367). Answers the number of those units too. -/
def State.advanceGen (s : State) : State × Nat :=
  let odd := s.oddPages
  let s1 := odd.foldl (fun st pg => if (st.missedGen pg).isSome then st else st.setF pg 0x28 0 31 16 st.gen) s
  (s1.setF pgArm 0x118 0 31 16 ((s.gen + 1) % 65536), odd.length + (s.spareTiles.filter (fun t => s.getF (pgTile t) 0x24 0 2 0 == 0)).length)

/-- A re-bound queue or pool at the activation (R287, R291). -/
def State.flushChanged (s : State) (qs pools : List Nat) : State :=
  let s1 := qs.foldl (fun st q => st.flushQ q) s
  pools.foldl (fun st k => ((st.bound 4 (k % 64)).filter (fun q => q / 64 == k / 64)).foldl (fun u q => u.flushQ q) st) s1

/-- Pools (64 × die + polder) whose staged descriptor differs. -/
def State.poolChanges (s : State) : List Nat :=
  s.staged.filterMap (fun k =>
    match pageBlock (keyPage k) with
    | some (.sq, i) => if keyOff k = 0x184 ∧ s.reg (keyPage k) 0x184 (keySel k) ≠ s.regAct (keyPage k) 0x184 (keySel k) then
        some (i / 4 * 64 + i % 4 * 16 + keySel k % 16) else none
    | _ => none)

/-- What happens under the old tables: stops, aborts, abandoned loads, clears, and the buffers of tenants that move. -/
def State.beforeSwitch (s : State) (ps eps : List Nat) : State :=
  let s1 := (List.range 4).foldl (fun st d => st.stopMoved d (st.stagedRetire d)) s
  let s2 := s1.modeStops.foldl (fun st t => match st.tileOwner t with | some p => st.polderStop p 0x2032 true | none => st) s1
  let s3 := ps.foldl (fun st p => (st.abortPolder p 0x1248).abandonLoad p) s2
  let s4 := ps.foldl (fun st p => ((st.bound 3 p).foldl State.emptySlot st).clearTiles (st.tilesOf p)) s3
  eps.foldl (fun st p => st.dropTenant p (st.ftid p)) s4

/-- Entries of the PLD tables with a staged value leave untrusted (R410). -/
def State.retrust (s : State) : State :=
  let keys := s.staged.filterMap (fun k =>
    if keyPage k ≠ pgPld then none
    else if keyOff k = 0x104 then some (keySel k / 4096 * 65536 + keySel k % 4096)
    else if keyOff k = 0x114 ∨ keyOff k = 0x118 then some (5 * 65536 + keySel k)
    else if keyOff k = 0x148 then some (6 * 65536 + keySel k) else none)
  { s with untrusted := s.untrusted.filter (fun e => !keys.contains e), badFtids := mapDrop s.badFtids (fun p => keys.contains (5 * 65536 + p)) }

/-- ACTIVATION. -/
def effActivation (s : State) : State :=
  if !s.actDue then s
  else
    let ps := s.changedPols
    let ch := s.bindChanges
    let eps := ps.filter (fun p => s.rotates p || s.fabricChanges p || ch.any (fun c => c.1 / 4096 == 2 && (c.2.1 == some p || c.2.2 == some p)))
    let rot := ps.filter s.rotates
    let pools := s.poolChanges
    let s1 := s.beforeSwitch ps eps
    let s2 := s1.wakers.foldl State.wakeUnit s1
    let (s3, n) := s2.advanceGen
    let s4 := s2.takers.foldl State.takeStaged s3.retrust
    let s5 : State := (({ s4 with armB := none, armF := none, notTaken := n } : State).setF pgArm 0x104 0 1 0 3).setReg pgArm 0x120 0 (BitVec.ofNat 64 (s.beat % 2 ^ 56))
    let s6 := ps.foldl State.unloadPol s5
    let s7 := ps.foldl (fun st p => ((st.bound 3 p).foldl State.emptySlot st).clearTiles (st.tilesOf p)) s6
    let s8 := (ch.filter (fun c => c.1 / 4096 == 1)).foldl (fun st c => st.renewField (c.1 % 4096)) s7
    let s9 := (ch.filter (fun c => c.1 / 4096 == 2)).foldl (fun st c => { st with linkRes := mapDrop st.linkRes (fun k => k == c.1 % 4096) }) s8
    let s10 := s9.flushChanged ((ch.filter (fun c => c.1 / 4096 == 4)).map (fun c => c.1 % 4096)) pools
    let s11 := rot.foldl State.rotateKey (eps.foldl State.newEpoch s10)
    let s12 := (List.range 4).foldl (fun st d => (st.retireCols d).checkPools d) s11
    s12.traceRec 0 7 pgArm 0xFFFF (natLE 2 s12.gen ++ natLE 2 n)

/-- ACTIVATION. -/
def execActivation (s : State) : Out := .next (effActivation s)

/-- ACTIVATION_COMPLETE (R370). -/
def effActivated (s : State) : State :=
  if s.armState ≠ 3 then s else (s.setF pgArm 0x104 0 1 0 0).armPost 0x0544 none [s.gen, s.notTaken]

/-- ACTIVATION_COMPLETE. -/
def execActivationComplete (s : State) : Out := .next (effActivated s)

/-! Rejoin (R368). -/

/-- REJOIN: a write of PLD_REJOIN with go. -/
def execRejoin (val : Nat) (s : State) : Out :=
  .next (if !bitOf val 31 then s else { s with rejoin := some (bitsOf val 14 0, bitsOf val 21 16, s.getF pgArm 0x134 0 15 0) })

/-- The owner of the unit behind a page in the active tables; polder 0 for an unbound one (R368), with its epoch. -/
def State.unitOwner (s : State) (pg : Nat) : Nat × Nat :=
  let o := match pageBlock pg with
    | some (.tile, t) => s.tileOwner t
    | some (.lnk, q) => s.owner 2 q
    | _ => none
  match o with
  | some p => (p, (s.pol p).bindEpoch)
  | none => (0, 0)

/-- REJOIN_APPLY: the checks and the rejoin at the beat boundary after the write. -/
def effRejoin (s : State) : State :=
  match s.rejoin with
  | none => s
  | some (pg, p, ep) =>
    let s1 : State := { s with rejoin := none }
    if s.part pg = 0 ∧ s.stale pg ∧ s.unitOwner pg = (p, ep) then
      let s2 := match pageBlock pg with | some (.tile, t) => s1.startClear t | _ => s1
      let s3 := (({ s2 with regs := s2.regs.filter (fun e => e.1 != regKey pg 0x28 0) } : State).takeStaged pg).setF pg 0x24 0 2 2 0
      s3.setReg pgArm 0x138 0 0
    else (s1.setReg pgArm 0x138 0 0x0546).armPost 0x0546 none [pg]

/-- REJOIN_APPLY. -/
def execRejoinApply (s : State) : Out := .next (effRejoin s)

/-- LOAD_ABANDON (R212): a load whose abort the host asked for. -/
def execLoadAbandon (pol : Nat) (s : State) : Out := onPol pol (fun _ =>
  match (s.pol pol).loading with
  | some r => if r.abort then s.abandonLoad pol else s
  | none => s)

end Sys2Proof.Machine
end

