-- ==== Sys2Proof/Machine/TileQueue.lean ====
section
/-!
DEFINITION. The SQ, ATOM, lock and kneader-flag commands (04_command_set.md R144, R151, R152; 08_memory_system.md R267 to R272; 11_kneader.md R331, R332),
and the home slice's part of atomics and locks.
-/
namespace Sys2Proof.Machine

/-! Spill-queue commands. -/

/-- An SQ command of operation `op` at the head: its rank must name a bound queue at issue (R281). -/
def effSq (t op : Nat) (s : State) : State :=
  match s.headFor t 9 op with
  | .error st => st
  | .ok (s1, h) =>
    match s1.sqOf t h.c with
    | none => s1.taskFault t (s1.tile t).progress 0x1640 { index := h.idx, cls := 9 }
    | some _ => s1.issueTo t 7 h

/-- SQ OPEN. -/
def execSqOpen (t : Nat) (s : State) : Out := onTile t (fun _ => effSq t 0 s)
/-- SQ PUSH, with the upsets that its reads may meet (R94). -/
def execSqPush (t : Nat) (ecc : List (Nat × Nat)) (s : State) : Out := onTile t (fun _ => effSq t 1 (s.addUpsets t ecc))
/-- SQ CLOSE. -/
def execSqClose (t : Nat) (s : State) : Out := onTile t (fun _ => effSq t 2 s)
/-- SQ POP. -/
def execSqPop (t : Nat) (s : State) : Out := onTile t (fun _ => effSq t 3 s)

/-! Kneader flags. -/

/-- Die, slot and descriptor that a KFLAG or KWAIT names, where its rank is bound (R144). -/
def State.kOf (s : State) (t c : Nat) : Option (Nat × Nat × Nat) :=
  (s.ofRank 3 (s.ownerOr t) (cf c 1 5 0)).map (fun k => (k / 16, k % 16, cf c 1 15 8))

/-- KFLAG (R105, R144, R227, R332): into the kneader trigger queue; its ranges take no scoreboard entries. -/
def effKflag (t : Nat) (s : State) : State :=
  match s.headFor t 6 2 with
  | .error st => st
  | .ok (s1, h) =>
    match s1.kOf t h.c with
    | none => s1.taskFault t (s1.tile t).progress 0x1244 { index := h.idx, cls := 6 }
    | some _ =>
      if h.ranges.any (fun r => (s1.tile t).xp.guards.any (fun g => r.conflicts g)) then s1.stall t 3
      else if dqDepth 5 ≤ (mapGet (s1.tile t).dq 5 []).length then s1.stall t 5
      else s1.issueCmd t 5 h false [] false

/-- KFLAG. -/
def execKflag (t : Nat) (s : State) : Out := onTile t (fun _ => effKflag t s)

/-- KWAIT (R144, R331, R332): holds issue until the descriptor's completion count reaches its target. -/
def effKwait (t : Nat) (s : State) : State :=
  match s.headFor t 6 3 with
  | .error st => st
  | .ok (s1, h) =>
    match s1.kOf t h.c with
    | none => s1.taskFault t (s1.tile t).progress 0x1244 { index := h.idx, cls := 6 }
    | some (d, slot, desc) => if h.e ≤ (s1.kdesc d slot desc).done then s1.issueNow t h id else s1.stall t 6

/-- KWAIT. -/
def execKwait (t : Nat) (s : State) : Out := onTile t (fun _ => effKwait t s)

/-! Atomics at issue. -/

/-- ATOM ADD. -/
def execAtomAdd (t : Nat) (s : State) : Out := onTile t (fun _ => s.issueRow t 10 0 8 [])
/-- ATOM MIN. -/
def execAtomMin (t : Nat) (s : State) : Out := onTile t (fun _ => s.issueRow t 10 1 8 [])
/-- ATOM MAX. -/
def execAtomMax (t : Nat) (s : State) : Out := onTile t (fun _ => s.issueRow t 10 2 8 [])
/-- ATOM CAS. -/
def execAtomCas (t : Nat) (s : State) : Out := onTile t (fun _ => s.issueRow t 10 3 8 [])
/-- ATOM SWAP. -/
def execAtomSwap (t : Nat) (s : State) : Out := onTile t (fun _ => s.issueRow t 10 4 8 [])
/-- ATOM FINC. -/
def execAtomFinc (t : Nat) (s : State) : Out := onTile t (fun _ => s.issueRow t 10 5 8 [])
/-- ATOM LACQ. -/
def execLacq (t : Nat) (s : State) : Out := onTile t (fun _ => s.issueRow t 10 6 8 [])
/-- ATOM LREL. -/
def execLrel (t : Nat) (s : State) : Out := onTile t (fun _ => s.issueRow t 10 7 8 [])

/-! Atomics at the home slice. -/

/-- Operand bytes of an ATOM's type (R152). -/
def atomSize : Nat → Nat
  | 0 => 4 | 1 => 4 | 2 => 2 | _ => 8

/-- The new value of an atomic (Table 8-4): operation, type, old value, operand, expected value. -/
def atomFn (op ty old b c : Nat) : Nat :=
  let w := 8 * atomSize ty
  let f := if ty = 2 then 1 else 0
  let pick (takeB : Bool) : Nat := if takeB then b else old
  let res := match op with
    | 0 => if ty = 0 then old + b else (fvAdd f (decodeElem f false old) (decodeElem f false b)).1
    | 1 => if ty = 0 then pick (decide (sext 32 b < sext 32 old)) else floatPick 0 false old b
    | 2 => if ty = 0 then pick (decide (sext 32 old < sext 32 b)) else floatPick 0 true old b
    | 3 => if old = c then b else old
    | 4 => b
    | _ => old + 1
  res % 2 ^ w

/-- What the atomic port of tile `t` has at its front and where it leads: the command, segment offset, polder address, and the target or the code of
the first failing check (R97, R100, R359, R362). -/
def State.atomFront (s : State) (t : Nat) : Option (IssuedCmd × Nat × Except Nat Nat × Nat) :=
  let x := s.tile t
  match mapGet x.dq 8 [] with
  | [] => none
  | i :: _ =>
    if i.finished then none
    else
      let c := i.word.toNat
      let sz := atomSize (cf c 1 21 20)
      let k := cf c 1 23 22
      let a : Int := (i.s (cf c 1 4 0) : Int) + imm32 (cw c 2)
      let e := x.accessCode (x.rangesOf i.ord) (4 + k) a sz sz 2 true
      let pa := (x.seg k).base + a.toNat
      if e ≠ 0 then some (i, sz, .error e, x.shownAddr (4 + k) a)
      else match s.xlate (s.ownerOr t) pa with
        | .nowhere => some (i, sz, .error 0x2070, pa)
        | .host _ _ => some (i, sz, .error 0x2072, pa)
        | .hbm da via => some (i, sz, if via = 0 then .ok da else .error 0x2072, pa)

/-- An ATOM is done with `v` for its return register. -/
def State.atomDone (s : State) (t : Nat) (i : IssuedCmd) (v : Nat) (fp : List Byte) : State :=
  s.onT t (fun x => x.onCmd 8 i.ord (fun k =>
    (if fp = [] then { k with started := true, finished := true, data := natLE 8 v }
     else ({ k with started := true, finished := true, data := natLE 8 v }.fpAdd fp))))

/-- A refused atomic faults its task (R114, R263). -/
def State.atomFault (s : State) (t : Nat) (i : IssuedCmd) (code pa : Nat) : State := s.taskFault t i.ord code { i.at_ with addr := pa }

/-- SLICE_ATOMIC (R267, R268, R258, R263): the atomic at the front of tile `t`'s port meets its line's home slice. -/
def effAtomic (t : Nat) (s : State) : State :=
  match s.atomFront t with
  | none => s
  | some (i, sz, tgt, pa) =>
    let c := i.word.toNat
    if 6 ≤ cOp c then s
    else match tgt with
      | .error e => s.atomFault t i e pa
      | .ok da =>
        let sl := homeSlice da
        let ee := s.sliceDike (s.ownerOr t) 0 2 da
        if ee ≠ 0 then (s.dikeRefuse sl ee (s.ownerOr t) 0 da).atomFault t i (0x1500 + ee) pa
        else if !s.serves (pgSc sl) ∨ (s.slice sl).stopped then (s.err (pgSc sl) 0x157E).atomFault t i 0x157E pa
        else if s.fresh da then
          { s with zeroing := if s.zeroing.contains (da / 2 ^ 21) then s.zeroing else s.zeroing ++ [da / 2 ^ 21] }
        else
          let s1 := (s.portGrant sl (s.portWho (tDie t) sl (s.logCol (tDie t) (tCol t) / 4)) (da / 128)).drainLine sl (da / 128)
          if s1.poison.contains (da / 128) then (s1.poisonRefuse sl (s.ownerOr t) 0 da).atomFault t i 0x1520 pa
          else
            let s2 := s1.touch sl (da / 128) true
            let old := memNat s2.hbm da sz
            let new := atomFn (cOp c) (cf c 1 21 20) old (i.s (cf c 1 9 5) % 2 ^ (8 * sz)) (i.s (cf c 1 14 10) % 2 ^ (8 * sz))
            let x := s2.slice sl
            let s3 := (s2.setSlice sl { x with lines := x.lines.map (fun e => if e.1 = da / 128 then (e.1, { e.2 with dirty := true }) else e) })
            let s4 := ({ s3 with hbm := memWrite s3.hbm da (natLE sz new) }.sendInval (da / 128)).bump (pgSc sl) 0x150 0 1
            (s4.countEv (pgSc sl) 0x14 1).atomDone t i old (natLE 8 pa ++ natLE sz new)

/-- SLICE_ATOMIC. -/
def execSliceAtomic (t : Nat) (s : State) : Out := onTile t (fun _ => effAtomic t s)

/-- The lock status word (Table 8-5). -/
def lockWord (status : Nat) (owner : Option (Nat × Nat)) (prev : Option Nat) : Nat :=
  let (ow, ov) := match owner with | some (tile, ctx) => (tile * 2 ^ 8 + ctx * 2 ^ 24, 1) | none => (0, 0)
  let (pw, pv) := match prev with | some q => (q * 2 ^ 40, 1) | none => (0, 0)
  status + ow + pw + ov * 2 ^ 56 + pv * 2 ^ 57

/-- Table 8-6 on a lock table: the status word and the table after. -/
def lockFn (acquire : Bool) (locks : SMap LockEntry) (da ctx tile : Nat) : Nat × SMap LockEntry :=
  match locks.find? (fun e => e.2.da == da) with
  | none =>
    if !acquire then (lockWord 0xA none none, locks)
    else match (List.range 256).find? (fun k => (mapFind? locks k).isNone) with
      | none => (lockWord 4 none none, locks)
      | some k => (lockWord 0 (some (tile, ctx)) none, mapSet locks k { da := da, ctx := ctx, tile := tile })
  | some (k, l) =>
    if l.broken then
      if acquire then (lockWord 2 (some (tile, ctx)) l.prev, mapSet locks k { da := da, ctx := ctx, tile := tile })
      else (lockWord 9 none l.prev, locks)
    else if l.ctx = ctx ∧ l.tile = tile then
      if acquire then (lockWord 3 (some (tile, ctx)) none, locks) else (lockWord 8 none none, mapDrop locks (fun q => q == k))
    else (lockWord (if acquire then 1 else 9) (some (l.tile, l.ctx)) none, locks)

/-- LOCK_OP (R269 to R271): the LACQ or LREL at the front of tile `t`'s atomic port meets the lock table of its home slice. -/
def effLock (t : Nat) (s : State) : State :=
  match s.atomFront t with
  | none => s
  | some (i, _, tgt, pa) =>
    let c := i.word.toNat
    if cOp c < 6 then s
    else match tgt with
      | .error e => s.atomFault t i e pa
      | .ok da =>
        let sl := homeSlice da
        let ee := s.sliceDike (s.ownerOr t) 0 2 da
        if ee ≠ 0 then (s.dikeRefuse sl ee (s.ownerOr t) 0 da).atomFault t i (0x1500 + ee) pa
        else if !s.serves (pgSc sl) ∨ (s.slice sl).stopped then (s.err (pgSc sl) 0x157E).atomFault t i 0x157E pa
        else
          let (w, locks) := lockFn (cOp c == 6) (s.slice sl).locks da (s.tile t).ctx (s.srcId t)
          (s.setSlice sl { s.slice sl with locks := locks }).atomDone t i w []

/-- LOCK_OP. -/
def execLockOp (t : Nat) (s : State) : Out := onTile t (fun _ => effLock t s)

/-- LOCK_FREE: SC_LOCK_CTRL.free of the selected entry (R272): only a BROKEN one. -/
def effLockFree (sl : Nat) (s : State) : State :=
  let k := s.getF (pgSc sl) 0x110 0 7 0
  match mapFind? (s.slice sl).locks k with
  | some l => if l.broken then s.setSlice sl { s.slice sl with locks := mapDrop (s.slice sl).locks (fun q => q == k) } else s
  | none => s

/-- LOCK_FREE. -/
def execLockFree (sl : Nat) (s : State) : Out := onSlice sl (fun _ => effLockFree sl s)

end Sys2Proof.Machine
end

