-- ==== Sys2Proof/Machine/Snapshot.lean ====
section
/-!
DEFINITION. Snapshots (14_reliability_and_recovery.md R416 to R420): SNAP, the copy into the open slot, and the seal at a step barrier's release.
-/
namespace Sys2Proof.Machine

/-- The snapshot-set entries of a tile of an image for one set, in order. -/
def Image.setOf (im : Image) (pt set : Nat) : List SnapSet := im.snaps.filter (fun e => e.ptile == pt && e.set == set)

/-- Loaves of a tile's largest set. -/
def Image.largest (im : Image) (pt : Nat) : Nat :=
  (List.range 256).foldl (fun m k => max m ((im.setOf pt k).foldl (fun n e => n + e.len) 0)) 0

/-- The ptiles of die `d` that the image's SNAPSETS names, ascending. -/
def State.snapTiles (s : State) (p : Nat) (im : Image) (d : Nat) : List Nat :=
  (im.tiles.map (·.ptile)).foldr (fun pt acc =>
    if im.snaps.any (fun e => e.ptile == pt) && ((s.tileOf p pt).map tDie) == some d then
      (acc.takeWhile (fun q => q < pt)) ++ pt :: acc.dropWhile (fun q => q < pt)
    else acc) []

/-- Bytes of a tile's place. -/
def Image.placeLen (im : Image) (pt : Nat) : Nat := 512 * (1 + im.largest pt)

/-- Offset of a tile's place in a slot (R416). -/
def State.snapPlace (s : State) (p : Nat) (im : Image) (d pt : Nat) : Nat :=
  ((s.snapTiles p im d).filter (fun q => q < pt)).foldl (fun n q => n + im.placeLen q) 512

/-- Body length of a slot. -/
def State.snapBody (s : State) (p : Nat) (im : Image) (d : Nat) : Nat := (s.snapTiles p im d).foldl (fun n q => n + im.placeLen q) 0

/-- Slot size in 4 KiB pages: DIE_SNAP_NEED of die `d` (R416). -/
def State.snapNeed (s : State) (p : Nat) (im : Image) (d : Nat) : Nat :=
  if s.snapTiles p im d = [] then 0 else ceilDiv (512 + s.snapBody p im d) 4096

/-- The slot (0 A, 1 B) that holds die `d`'s latest seal, or none; the open slot is the other (R417). With no seal the open slot is A. -/
def State.snapOpen (s : State) (d p : Nat) : Nat :=
  let w := s.reg (pgDie d) 0x434 p
  if fld w 1 1 = 1 then 1 - fld w 0 0 else 0

/-- Polder address of slot `k`. -/
def State.snapSlot (s : State) (d p k : Nat) : Nat := (s.snapBase d p).getD 0 + k * s.snapSize d p

/-- Changes polder `p`'s snapshot window of die `d`. -/
def State.onSnapWin (s : State) (p d : Nat) (f : SnapWin → SnapWin) : State :=
  s.setPol p { s.pol p with snaps := mapSet (s.pol p).snaps d (f (mapGet (s.pol p).snaps d {})) }

/-- SNAP (R154, R416): its region must be enabled and lie in one HBM-rank run. -/
def effSnap (t : Nat) (s : State) : State :=
  match s.headFor t 12 0 with
  | .error st => st
  | .ok (s1, h) =>
    let p := s1.ownerOr t
    let d := tDie t
    let ok := match s1.snapBase d p with | some b => s1.inRankRun p b (2 * s1.snapSize d p) | none => false
    let w := (s1.tile t).sbWait h.ranges
    if !ok then s1.taskFault t (s1.tile t).progress 0x1074 { index := h.idx, cls := 12 }
    else if w ≠ 0 then s1.stall t w
    else if mapGet (s1.tile t).dq 9 [] ≠ [] then s1.stall t 5
    else (s1.issueCmd t 9 h true [] false).onSnapWin p d (fun x => { x with
      issued := if x.issued.contains t then x.issued else x.issued ++ [t], completed := x.completed.filter (· != t), busy := true })

/-- SNAP, with the upsets that its copy may meet (R94). -/
def execSnap (t : Nat) (ecc : List (Nat × Nat)) (s : State) : Out := onTile t (fun _ => effSnap t (s.addUpsets t ecc))

/-- The register loaf of R417. -/
def regLoaf (pt set loaves : Nat) (i : IssuedCmd) : List Byte :=
  padTo 512 (natLE 2 pt ++ natLE 1 set ++ natLE 1 1 ++ natLE 2 loaves ++ zeros 2 ++ natLE 1 (i.preds ||| 1) ++ zeros 55 ++
    (List.range 32).flatMap (fun r => natLE 8 (i.s r)))

/-- SNAP_COPY_COMPLETE (R417): the snapshot engine has copied the set of tile `t`'s SNAP; before the first copy of a step window the open slot's header
is zeroed. A refused write leaves the SNAP incomplete for the seal (R418). -/
def effSnapCopy (t : Nat) (s : State) : State :=
  let x := s.tile t
  let p := s.ownerOr t
  let d := tDie t
  match mapGet x.dq 9 [], (s.pol p).image with
  | i :: _, some im =>
    let set := cf i.word.toNat 1 7 0
    let pt := s.ptileOf p t
    let es := im.setOf pt set
    let loaves := es.foldl (fun n e => n + e.len) 0
    let rd := (es.flatMap (fun e => (List.range e.len).map (fun k => e.lo + k))).foldl
      (fun (acc : Option (List (List Byte)) × State) l =>
        match acc with
        | (none, st) => (none, st)
        | (some bs, st) =>
          match st.scrRead t 12 (l * 512) 512 with
          | (some b, st1) => (some (bs ++ [b]), st1)
          | (none, st1) => (none, st1)) (some [], s)
    let fin (st : State) : State := st.onT t (fun y => y.onCmd 9 i.ord (fun k => { k with started := true, finished := true }))
    match rd with
    | (none, s1) => s1.taskFault t i.ord 0x2015 i.at_
    | (some ls, s1) =>
      let slot := s1.snapSlot d p (s1.snapOpen d p)
      let opened := (mapGet (s1.pol p).snaps d {}).opened
      let s2 := if opened then s1 else
        let (_, st) := s1.polStore d p 2 slot (zeros 512)
        ((st.setF (pgDie d) 0x434 p 2 2 0).setF (pgDie d) 0x438 p 63 32 0).onSnapWin p d (fun w => { w with opened := true })
      let (bad, s3) := s2.polStore d p 2 (slot + s2.snapPlace p im d pt) (regLoaf pt set loaves i ++ ls.flatten)
      let s4 := if bad.isSome then s3 else s3.onSnapWin p d (fun w => { w with completed := if w.completed.contains t then w.completed else w.completed ++ [t] })
      (fin (s4.onSnapWin p d (fun w => { w with busy := w.issued.any (fun u => u != t && mapGet (s4.tile u).dq 9 [] != []) }))).completeCmd t 9
  | _, _ => s

/-- SNAP_COPY_COMPLETE. -/
def execSnapCopyComplete (t : Nat) (s : State) : Out := onTile t (fun _ => effSnapCopy t s)

/-- One byte into CRC-64/ECMA-182 (R418). -/
def crc64Byte (crc : Nat) (b : Byte) : Nat :=
  (List.range 8).foldl (fun c _ => if 2 ^ 63 ≤ c then ((c * 2) % 2 ^ 64) ^^^ 0x42F0E1EBA9EA3693 else c * 2) (crc ^^^ (b.toNat * 2 ^ 56))

/-- CRC-64/ECMA-182 of bytes. -/
def crc64 (bs : List Byte) : Nat := bs.foldl crc64Byte 0

/-- The header of Table 14-7 without its seal. -/
def sealHeader (p group step tiles digest beat body : Nat) : List Byte :=
  [0x53, 0x4E, 0x50, 0x31] ++ natLE 2 p ++ natLE 1 group ++ natLE 1 0 ++ natLE 4 step ++ natLE 4 tiles ++ natLE 4 digest ++ natLE 4 0 ++ natLE 8 beat
    ++ natLE 8 body ++ zeros 464

/-- The PLACEMENT group of a die for a polder: that of its image columns on the die (R191). -/
def State.groupOf (s : State) (p : Nat) (im : Image) (d : Nat) : Nat := im.groups.getD ((s.bound 0 p).findIdx (fun c => c / 36 == d)) 0

/-- The seal of die `d` at a step_bar release that ends window `step` (R418). -/
def State.sealDie (s : State) (p d step : Nat) : State :=
  match (s.pol p).image with
  | none => s
  | some im =>
    let pts := s.snapTiles p im d
    let w := mapGet (s.pol p).snaps d {}
    let clear (st : State) : State := st.onSnapWin p d (fun _ => {})
    let all := pts.all (fun pt => match s.tileOf p pt with | some t => w.issued.contains t && w.completed.contains t | none => false)
    if pts = [] ∨ s.snapBase d p = none then clear s
    else if !all ∨ (s.pol p).stopped then
      clear (s.fault { code := 0x1075, page := pgDie d, cls := 1, pol := some p, detail := natLE 1 p })
    else
      let k := s.snapOpen d p
      let base := s.snapSlot d p k
      let body := s.snapBody p im d
      match s.polLoad d p 2 (base + 512) body with
      | (.error _, s1) => clear (s1.fault { code := 0x1075, page := pgDie d, cls := 1, pol := some p, detail := natLE 1 p })
      | (.ok bs, s1) =>
        let h := sealHeader p (s1.groupOf p im d) step pts.length im.digest s1.beat body
        let (bad, s2) := s1.polStore d p 2 base (h ++ natLE 8 (crc64 (h ++ bs)))
        if bad.isSome then clear (s2.fault { code := 0x1075, page := pgDie d, cls := 1, pol := some p, detail := natLE 1 p })
        else
          let st := s2.reg (pgDie d) 0x434 p
          let s3 := s2.setReg (pgDie d) 0x434 p (BitVec.ofNat 64 (k + 2 + 4 * fld st 1 1))
          let s4 := s3.setReg (pgDie d) 0x438 p (BitVec.ofNat 64 (step % 2 ^ 32 + 2 ^ 32 * (if fld st 1 1 = 1 then s3.getF (pgDie d) 0x438 p 31 0 else 0)))
          clear (s4.bump (pgDie d) 0x440 p 1)

/-- The dies on which a polder has SNAPSETS tiles. -/
def State.snapDies (s : State) (p : Nat) : List Nat :=
  match (s.pol p).image with
  | none => []
  | some im => (List.range 4).filter (fun d => s.snapTiles p im d != [])

end Sys2Proof.Machine
end

