-- ==== Sys2Proof/Machine/SliceRows.lean ====
section
/-!
DEFINITION. The commands of slices, their write-combining buffers and the stack controllers (08_memory_system.md R241, R251 to R265).
-/
namespace Sys2Proof.Machine

/-! Loads and stores. -/

/-- A slice SRAM line fails its first read (R262): `sram` 1, cleared by the re-read; 2, lasting: a clean line is fetched again, a dirty one poisoned. -/
def State.sramError (s : State) (d p kind da sram : Nat) : State :=
  let near := homeSlice da / 16 != d
  let sl := if near && (mapFind? (s.slice (nearSlice d da)).lines (da / 128)).isSome then nearSlice d da else homeSlice da
  match mapFind? (s.slice sl).lines (da / 128) with
  | none => s
  | some l =>
    if sram = 1 then s.sat (pgSc sl) 0x180 0 15 0 1
    else if sram = 2 then
      let s1 := (s.sat (pgSc sl) 0x180 0 31 16 1).lasting (pgSc sl)
      let s2 := if l.dirty then { s1 with poison := if s1.poison.contains (da / 128) then s1.poison else s1.poison ++ [da / 128] }
        else s1.setSlice sl { s1.slice sl with lines := mapDrop (s1.slice sl).lines (fun k => k == da / 128) }
      s2.fault { code := 0x1524, page := pgSc sl, cls := 2, action := if l.dirty then 7 else 0, detail := daDetail da p kind }
    else s

/-- SLICE_LOAD (R241, R252, R262, R263, R359, R360): requester kind `kind` of polder `pol` on die `die` loads `len` bytes; `sram` is what the first line's
SRAM read meets. -/
def effSliceLoad (p d kind pa len sram : Nat) (s : State) : State :=
  let s0 := match s.xlate p pa with | .hbm da _ => s.sramError d p kind da sram | _ => s
  match s0.polLoad d p kind pa len with
  | (.ok bs, s1) => { s1 with loadData := bs }
  | (.error _, s1) => { s1 with loadData := [] }

/-- SLICE_LOAD. -/
def execSliceLoad (pol die kind pa len sram : Nat) (s : State) : Out :=
  if pol < 64 ∧ die < 4 ∧ kind < 7 then .next (effSliceLoad pol die kind pa len sram s) else .fault .noSuchUnit

/-- SLICE_STORE (R241, R251, R258): a store of any source but a mover path. -/
def execSliceStore (pol die kind pa : Nat) (data : List Byte) (s : State) : Out :=
  if pol < 64 ∧ die < 4 ∧ kind < 7 then .next (s.polStore die pol kind pa data).2 else .fault .noSuchUnit

/-! Held stores. -/

/-- Changes a slice's held entries. -/
def State.onHeld (s : State) (sl : Nat) (f : List HeldEntry → List HeldEntry) : State :=
  s.setSlice sl { s.slice sl with held := f (s.slice sl).held }

/-- Marks the first entry that is not a PROV line as one. -/
def toProv : List HeldEntry → List HeldEntry
  | [] => []
  | h :: hs => if h.prov then h :: toProv hs else { h with prov := true } :: hs

/-- Whether slice `sl` can take one more held entry now (R254, R256): a held entry is free, or the oldest can become a PROV line. -/
def State.heldRoom (s : State) (sl : Nat) : Bool :=
  let hs := (s.slice sl).held
  (hs.filter (fun h => !h.prov)).length < 32 ||
    (match hs.find? (fun h => !h.prov) with
     | none => true
     | some h => (hs.filter (fun g => g.prov && daSet (g.line * 128) == daSet (h.line * 128))).length < 4)

/-- The oldest held entry becomes a PROV line, evicting a HOME or NEAR line of a full set. -/
def State.moveProv (s : State) (sl : Nat) : State :=
  let c := s.slice sl
  match c.held.find? (fun h => !h.prov) with
  | none => s
  | some h =>
    let set := daSet (h.line * 128)
    let inSet := c.lines.filter (fun e => daSet (e.1 * 128) == set)
    let provs := c.held.filter (fun g => g.prov && daSet (g.line * 128) == set)
    let evict := inSet.filter (fun e => e.2.kind != .pin)
    let s1 := s.onHeld sl toProv
    if inSet.length + provs.length < 16 ∨ evict = [] then s1
    else
      let (v, s2) := drawFree s1
      match evict[v % evict.length]? with
      | none => s2
      | some e =>
        let s3 := s2.setSlice sl { s2.slice sl with lines := mapDrop (s2.slice sl).lines (fun k => k == e.1) }
        if e.2.dirty then (s3.bump (pgHbmc (daStack (e.1 * 128))) 0x148 0 128).countEv (pgHbmc (daStack (e.1 * 128))) 0x11 1 else s3

/-- A held entry is made, or the store joins the one its command holds for the line (R254). -/
def State.hold (s : State) (sl : Nat) (h : HeldEntry) : State :=
  let same (g : HeldEntry) : Bool := g.line == h.line && g.tile == h.tile && g.path == h.path && g.ord == h.ord
  if (s.slice sl).held.any same then s.onHeld sl (fun hs => hs.map (fun g => if same g then { g with img := imgOver h.img g.img } else g))
  else
    let s1 := if ((s.slice sl).held.filter (fun g => !g.prov)).length < 32 then s else s.moveProv sl
    State.highDrain 65 sl (s1.onHeld sl (fun hs => hs ++ [h]))

/-- The command whose store stands first on a mover path. -/
def Tile.ofOrd (x : Tile) (ord : Nat) : Option IssuedCmd := (x.dq.flatMap (·.2)).find? (fun i => i.ord == ord)

/-- HELD_STORE (R254, R258 to R260): the first store of a mover path of tile `t` reaches its slice, or the host-window bridge. -/
def effHeldStore (t path : Nat) (s : State) : State :=
  let x := s.tile t
  match x.outs.find? (fun o => o.path == path) with
  | none => s
  | some o =>
    let p := s.ownerOr t
    let i := (x.ofOrd o.ord).getD { word := 0, index := x.cmdIndex, ord := o.ord }
    let take (st : State) : State := st.onT t (fun y => { y with outs := y.outs.erase o })
    match s.xlate p o.addr with
    | .nowhere => s.mvFault t path i 0x2070 o.addr
    | .host w _ =>
      if !s.hwinWr p w then s.mvFault t path i 0x2072 o.addr
      else take { s with bridge := { s.bridge with held := s.bridge.held ++ [⟨o.addr / 128, lineImg (o.addr % 128) o.bytes, p, t, path, o.ord, false⟩] } }
    | .hbm da via =>
      let sl := homeSlice da
      let ee := s.sliceDike p 0 1 da
      if via = 1 then s.mvFault t path i 0x2072 o.addr
      else if ee ≠ 0 then (s.dikeRefuse sl ee p 0 da).mvFault t path i (0x1500 + ee) o.addr
      else if !s.serves (pgSc sl) ∨ (s.slice sl).stopped then (s.err (pgSc sl) 0x157E).mvFault t path i 0x157E o.addr
      else if !s.heldRoom sl then s
      else
        let s1 := s.portGrant sl (s.portWho (tDie t) sl (s.logCol (tDie t) (tCol t) / 4)) (da / 128)
        let s2 := if sl / 16 = tDie t then s1 else s1.dropNear (tDie t) (da / 128)
        take (s2.hold sl ⟨da / 128, lineImg (da % 128) o.bytes, (s.owner 1 (da / 2 ^ 28)).getD p, t, path, o.ord, false⟩)

/-- HELD_STORE. -/
def execHeldStore (t path : Nat) (s : State) : Out := onTile t (fun _ => effHeldStore t path s)

/-- The bytes that an image holds, as runs from their first offset. -/
def imgRuns : Nat → List (Option Byte) → List (Nat × List Byte)
  | _, [] => []
  | k, none :: xs => imgRuns (k + 1) xs
  | k, some b :: xs =>
    match imgRuns (k + 1) xs with
    | (o, bs) :: rest => if o = k + 1 then (k, b :: bs) :: rest else (k, [b]) :: (o, bs) :: rest
    | [] => [(k, [b])]

/-- A held host-window entry leaves as posted writes (R449), which are lost where the function can issue none. -/
def State.bridgeOut (s : State) (h : HeldEntry) : State :=
  (imgRuns 0 h.img).foldl (fun st r =>
    match st.xlate h.pol (h.line * 128 + r.1) with
    | .host w o => if !st.fnLive h.pol then st else st.hostWrite h.pol ((st.reg (pgIntake h.pol) 0x148 w).toNat + o) r.2
    | _ => st) s

/-- COMMIT (R254): once the last store of the path's front command has left it, its held entries and PROV lines become committed entries in the order
they were issued, and the command has nothing left to do. -/
def effCommit (t path : Nat) (s : State) : State :=
  let x := s.tile t
  match mapGet x.dq path [] with
  | [] => s
  | i :: _ =>
    if !i.started ∨ i.finished ∨ x.outs.any (fun o => o.ord == i.ord) then s
    else
      let mine (h : HeldEntry) : Bool := h.tile == t && h.path == path && h.ord == i.ord
      if !((s.slices.any (fun e => e.2.held.any mine)) || s.bridge.held.any mine) then s
      else
        let s1 := s.slices.foldl (fun st e =>
          let hs := e.2.held.filter mine
          if hs = [] then st
          else
            let st1 := st.onHeld e.1 (fun l => l.filter (fun h => !mine h))
            (hs.foldl (fun u h => u.storeIn { line := h.line, img := h.img, pol := h.pol, tile := t, path := path, ord := i.ord }) st1).countEv (pgSc e.1) 0x16 hs.length) s
        let s2 := (s1.bridge.held.filter mine).foldl State.bridgeOut { s1 with bridge := { s1.bridge with held := s1.bridge.held.filter (fun h => !mine h) } }
        s2.onT t (fun y => y.onCmd path i.ord (fun k => { k with finished := true }))

/-- COMMIT. -/
def execCommit (t path : Nat) (s : State) : Out := onTile t (fun _ => effCommit t path s)

/-- DISCARD (R255): the held entries and PROV lines of commands that a path no longer holds are freed. -/
def effDiscard (t path : Nat) (s : State) : State :=
  let x := s.tile t
  let gone (q ord : Nat) : Bool := q == path && (x.ofOrd ord).isNone
  s.dropHeld t gone

/-- DISCARD. -/
def execDiscard (t path : Nat) (s : State) : Out := onTile t (fun _ => effDiscard t path s)

/-- PROV_FULL (R256): the first store of a path has waited prov_wait beats and is refused. -/
def effProvFull (t path : Nat) (s : State) : State :=
  let x := s.tile t
  match x.outs.find? (fun o => o.path == path) with
  | none => s
  | some o =>
    let p := s.ownerOr t
    match s.xlate p o.addr, x.ofOrd o.ord with
    | .hbm da _, some i =>
      let sl := homeSlice da
      if s.heldRoom sl then s
      else (s.fault { code := 0x1521, page := pgSc sl, detail := daDetail da p 0 }).mvFault t path i 0x1521 o.addr
    | _, _ => s

/-- PROV_FULL. -/
def execProvFull (t path : Nat) (s : State) : Out := onTile t (fun _ => effProvFull t path s)

/-- WCB_DRAIN_AGE (R253): the oldest committed entry of a slice has reached drain_age and drains. -/
def effDrainAge (sl : Nat) (s : State) : State :=
  match (s.slice sl).wcb with
  | [] => s
  | e :: es => (s.setSlice sl { s.slice sl with wcb := es }).drain sl e

/-- WCB_DRAIN_AGE. -/
def execWcbDrainAge (sl : Nat) (s : State) : Out := onSlice sl (fun _ => effDrainAge sl s)

/-- NEAR_INVALIDATE (R241): an invalidation of a line on its way to die `die` arrives. -/
def effInval (d ln : Nat) (s : State) : State :=
  if s.inval.contains (d, ln) then { s with inval := s.inval.erase (d, ln) }.dropNear d ln else s

/-- NEAR_INVALIDATE. -/
def execNearInvalidate (die line : Nat) (s : State) : Out := onDie die (fun _ => effInval die line s)

/-! Stack controllers. -/

/-- The detail polder of a controller record: the owner of the field. -/
def State.ofField (s : State) (da : Nat) : Nat := (s.owner 1 (da / 2 ^ 28)).getD 0xFF

/-- PIN lines of a slice. -/
def Slice.pins (c : Slice) : Nat := (c.lines.filter (fun e => e.2.kind == .pin)).length

/-- A row is retired (R264): its lines become PIN lines; columns in `bad` could not be read. -/
def State.retireRow (s : State) (da : Nat) (bad : List Nat) : State :=
  let k := daStack da
  let (ch, pc, bank, row, _) := daPlace da
  let x := s.stack k
  if x.rows.any (fun r => r.channel == ch && r.pc == pc && r.bank == bank && r.row == row && r.state != 2) then s
  else
    let lns := (List.range 8).map (fun c => placeDa k ch pc bank row c / 128)
    if lns.any (fun ln => 256 ≤ (s.slice (homeSlice (ln * 128))).pins) then
      s.fault { code := 0x1422, page := pgHbmc k, cls := 2, detail := daDetail da (s.ofField da) 6 }
    else
      let dead := bad.filter (fun c => c < 8 && !(match mapFind? (s.slice (homeSlice (placeDa k ch pc bank row c))).lines (placeDa k ch pc bank row c / 128) with | some l => l.dirty | none => false))
      let s1 := lns.foldl (fun st ln =>
        let sl := homeSlice (ln * 128)
        let old := mapFind? (st.slice sl).lines ln
        st.setSlice sl { st.slice sl with lines := mapSet (st.slice sl).lines ln { kind := .pin, dirty := match old with | some l => l.dirty | none => false } }) s
      let pl := dead.map (fun c => placeDa k ch pc bank row c / 128)
      let s2 := { s1 with poison := s1.poison ++ pl.filter (fun l => !s1.poison.contains l) }
      let mask := lns.zipIdx.foldl (fun m q => if s2.poison.contains q.1 then m + 2 ^ q.2 else m) 0
      let y := s2.stack k
      let s3 := (s2.setStack k { y with rows := y.rows.filter (fun r => !(r.channel == ch && r.pc == pc && r.bank == bank && r.row == row)) ++ [⟨ch, pc, bank, row, 1, mask⟩] }).sat
        (pgHbmc k) 0x100 0 25 16 1
      s3.fault { code := 0x1421, page := pgHbmc k, cls := 2, action := 2, detail := daDetail da (s.ofField da) 6 }

/-- Corrected errors of a row that retire it (R277); 0 acts as 1. -/
def State.retireThresh (s : State) (k : Nat) : Nat := max 1 (s.getF (pgHbmc k) 0x128 0 15 8)

/-- What a read of a line from HBM meets (R262, R264): 0 clean, 1 corrected, 2 clean on the re-read, 3 lasting. -/
def State.hbmOutcome (s : State) (da outcome kind : Nat) (bad : List Nat) : State :=
  let k := daStack da
  match outcome with
  | 1 =>
    let (ch, pc, bank, row, _) := daPlace da
    let key := ((row * 64 + bank) * 2 + pc) * 32 + ch
    let x := s.stack k
    let n := mapGet x.corr key 0 + 1
    let s1 := (s.setStack k { x with corr := mapSet x.corr key n }).sat (pgHbmc k) 0x110 0 31 0 1
    if s.retireThresh k ≤ n then s1.retireRow da bad else s1
  | 2 => s.sat (pgHbmc k) 0x110 0 47 32 1
  | 3 =>
    let ln := da / 128
    let s1 := (s.sat (pgHbmc k) 0x110 0 63 48 1).lasting (pgHbmc k)
    let s2 := { s1 with poison := if s1.poison.contains ln then s1.poison else s1.poison ++ [ln] }
    let (_, _, _, _, col) := daPlace da
    (s2.fault { code := 0x1420, page := pgHbmc k, cls := 2, action := 7, detail := daDetail da (s.ofField da) kind }).retireRow da (if bad.contains col then bad else col :: bad)
  | _ => s

/-- HBM_READ_RETURN (R259, R262, R264): the fill of the line at `da` returns to its home slice. A resident dirty line is not filled. -/
def effHbmReturn (da outcome : Nat) (bad : List Nat) (s : State) : State :=
  let sl := homeSlice da
  let ln := da / 128
  if (mapFind? (s.slice sl).lines ln).isSome ∨ s.fresh da then s
  else (s.touch sl ln false).hbmOutcome da outcome 0 bad

/-- HBM_READ_RETURN. -/
def execHbmReadReturn (da outcome : Nat) (bad : List Nat) (s : State) : Out :=
  if da < 12 * 0x9_0000_0000 then .next (effHbmReturn da outcome bad s) else .fault .noSuchUnit

/-- A block has been zeroed: its fresh bit clears and what waited for it proceeds in order (R258). -/
def State.zeroed (s : State) (blk : Nat) : State :=
  let k := daStack (blk * 2 ^ 21)
  let ready := s.waitSt.filter (fun w => w.line * 128 / 2 ^ 21 == blk)
  let s1 := { s with clean := blk :: s.clean, zeroing := s.zeroing.filter (· != blk), waitSt := s.waitSt.filter (fun w => w.line * 128 / 2 ^ 21 != blk) }.bump
    (pgHbmc k) 0x148 0 2097152
  ready.foldl (fun st w => st.accept { line := w.line, img := w.img, pol := w.pol }) s1

/-- FRESH_ZERO_DONE (R258). -/
def execFreshZeroDone (blk : Nat) (s : State) : Out :=
  onUnit blk 221184 (fun _ => if s.zeroing.contains blk ∧ !s.clean.contains blk then s.zeroed blk else s)

/-- The lowest block from `b` on that is not listed; `n` bounds the search. -/
def firstFresh (clean : List Nat) : Nat → Nat → Nat
  | 0, b => b
  | n + 1, b => if clean.contains b then firstFresh clean n (b + 1) else b

/-- SCRUB_ZERO_BLOCK (R261): the next block of the stack whose fresh bit is set, in ascending order, is zeroed. -/
def effScrub (k : Nat) (s : State) : State :=
  let b := firstFresh s.clean s.clean.length (k * 18432)
  if b < (k + 1) * 18432 then s.zeroed b else s

/-- SCRUB_ZERO_BLOCK. -/
def execScrubZeroBlock (stack : Nat) (s : State) : Out := onStack stack (fun _ => effScrub stack s)

/-- PATROL_READ (R261, R262, R264): the next line of the stack's patrol; fresh blocks and dirty resident lines are skipped; a period of 0 turns it off. -/
def effPatrol (k outcome : Nat) (bad : List Nat) (s : State) : State :=
  if s.getF (pgHbmc k) 0x128 0 7 0 = 0 then s
  else
    let x := s.stack k
    let da := k * 0x9_0000_0000 + x.patrol * 128
    let nxt := (x.patrol + 1) % 0x1200_0000
    let s0 := s.setStack k { x with patrol := nxt, corr := if nxt = 0 then [] else x.corr }
    let dirty := match mapFind? (s.slice (homeSlice da)).lines (da / 128) with | some l => l.dirty | none => false
    if s.fresh da || dirty then s0
    else
      let s1 := ((s0.portGrant (homeSlice da) 16 (da / 128)).bump (pgHbmc k) 0x140 0 128).countEv (pgHbmc k) 0x10 1
      let s2 := if outcome = 1 then (s1.bump (pgHbmc k) 0x148 0 128).countEv (pgHbmc k) 0x11 1 else s1
      s2.hbmOutcome da outcome 6 bad

/-- PATROL_READ. -/
def execPatrolRead (stack outcome : Nat) (bad : List Nat) (s : State) : Out := onStack stack (fun _ => effPatrol stack outcome bad s)

end Sys2Proof.Machine
end

