-- ==== Sys2Proof/Machine/ResetOps.lean ====
section
/-!
DEFINITION. What the reset domains do (14_reliability_and_recovery.md R411 to R413; 08_memory_system.md R265, R273 to R275).
-/
namespace Sys2Proof.Machine

/-- Registers at the given offsets of a page return to their reset values, in every selection. -/
def State.dropRegs (s : State) (pg : Nat) (offs : List Nat) : State :=
  { s with regs := s.regs.filter (fun e => !(keyPage e.1 == pg && offs.contains (keyOff e.1))) }

/-- Offsets of the six common counters. -/
def commonCnt : List Nat := [0x30, 0x38, 0x40, 0x48, 0x50, 0x58]

/-! Polder reset (Table 14-6). -/

/-- A polder's buffer entries, held and committed, and PROV lines are freed; each slice that freed one posts 0x1523 with their number after the
detail of Table 14-3 (R273). -/
def State.freePolder (s : State) (p : Nat) : State :=
  let mine (ln : Nat) : Bool := s.owner 1 (ln * 128 / 2 ^ 28) == some p
  let s0 : State := { s with bridge := { s.bridge with held := s.bridge.held.filter (fun h => h.pol != p) } }
  s0.slices.foldl (fun st e =>
    let n := (e.2.wcb.filter (fun x => mine x.line)).length + (e.2.held.filter (fun x => mine x.line)).length
    if n = 0 then st
    else (st.setSlice e.1 { e.2 with wcb := e.2.wcb.filter (fun x => !mine x.line), held := e.2.held.filter (fun x => !mine x.line) }).fault
      { code := 0x1523, page := pgSc e.1, detail := daDetail 0 p 0 ++ natLE 4 n }) s0

/-- A polder's image, protected range, gate, ramps and step windows are gone. -/
def State.unloaded (s : State) (p : Nat) : State :=
  s.setPol p { s.pol p with image := none, gate := none, prot := none, ramp := [], running := [], barRefs := [], snaps := [] }

/-- Polder reset: stop, aborts, load abandoned, descriptors invalid, buffers freed, every tile cleared, a new flow epoch. -/
def State.resetPolder (s : State) (p : Nat) : State :=
  let s1 := if (s.tilesOf p).any (fun t => (s.tile t).task == .running) then s.polderStop p 0x0141 true else s
  let s2 := (s1.abortPolder p 0x1248).abandonLoad p
  let s3 := ((s2.bound 3 p).foldl State.emptySlot s2).freePolder p
  let s4 := (s3.tilesOf p).foldl State.startClear s3
  let s5 : State := { s4 with flight := s4.flight.filter (fun l => l.pol != p), linkRes := s4.linkRes.map (fun x => (x.1, x.2.filter (fun r => r.pol != p))),
                              inReset := if s4.inReset.contains p then s4.inReset else s4.inReset ++ [p] }
  (s5.unloaded p).newEpoch p

/-- Every tile of die `d`. -/
def dieTiles (d : Nat) : List Nat := (List.range 1216).map (fun i => d * 1216 + i)

/-! Slices (R274). -/

/-- Steps 2 to 4 of R274 at slice `sl`: held stores go, committed entries drain, dirty lines are written back. -/
def State.settleSlice (s : State) (sl : Nat) : State :=
  let c := s.slice sl
  let s1 := if c.held = [] then s else (s.setSlice sl { c with held := [] }).countEv (pgSc sl) 0x17 c.held.length
  let es := (s1.slice sl).wcb
  let s2 := es.foldl (fun st e => st.drain sl e) (s1.setSlice sl { s1.slice sl with wcb := [] })
  let s3 := (s2.slice sl).lines.foldl (fun st l =>
    if l.2.dirty && l.2.kind != .pin then
      (st.bump (pgHbmc (daStack (l.1 * 128))) 0x148 0 128).countEv (pgHbmc (daStack (l.1 * 128))) 0x11 1
    else st) s2
  s3.setSlice sl { s3.slice sl with lines := (s3.slice sl).lines.map (fun l => (l.1, { l.2 with dirty := false })) }

/-- A slice after a die-core reset: it holds its PIN lines and its lock table. -/
def State.resetSlice (s : State) (sl : Nat) : State :=
  let s1 := s.settleSlice sl
  (s1.setSlice sl { lines := (s1.slice sl).lines.filter (fun l => l.2.kind == .pin), locks := (s1.slice sl).locks }).dropRegs (pgSc sl)
    (commonCnt ++ [0x130, 0x138, 0x140, 0x148, 0x150, 0x158, 0x168, 0x170, 0x178, 0x180])

/-- Die-core reset of die `d` (Table 14-6, R412). -/
def State.resetDie (s : State) (d : Nat) : State :=
  let ps := (List.range 64).filter (fun p => (s.bound 0 p).any (fun c => c / 36 == d) || (s.bound 3 p).any (fun k => k / 16 == d) ||
    (s.bound 4 p).any (fun q => q / 64 == d))
  let s1 := ps.foldl State.resetPolder s
  let s2 := (dieTiles d).foldl (fun st t => if st.part (pgTile t) = 1 then st else st.startClear t) s1
  let s3 := (List.range 16).foldl (fun st h => st.resetSlice (16 * d + h)) s2
  let s4 : State := { s3 with inval := s3.inval.filter (fun e => e.1 != d), waitSt := s3.waitSt.filter (fun w => homeSlice (w.line * 128) / 16 != d) }
  (s4.setKnd d {}).dropRegs (pgDie d) (commonCnt ++ [0x300, 0x304, 0x308, 0x310, 0x320, 0x430, 0x434, 0x438, 0x440, 0x458])

/-! Post-package repair (R265). -/

/-- Repairs row `r` of stack `k`: outcome 0 no spare row in its bank, 1 done, 2 failed. -/
def State.repairRow (s : State) (k : Nat) (r : RetiredRow) (o : Nat) : State :=
  let da (c : Nat) := placeDa k r.channel r.pc r.bank r.row c
  let put (st : State) (n : Nat) : State :=
    let x := st.stack k
    st.setStack k { x with rows := x.rows.map (fun y => if y = r then { y with state := n } else y) }
  match o with
  | 1 =>
    let s1 := (List.range 8).foldl (fun st c =>
      let sl := homeSlice (da c)
      let x := st.slice sl
      st.setSlice sl { x with lines := x.lines.map (fun l => if l.1 = da c / 128 ∧ l.2.kind = .pin then (l.1, { kind := .home }) else l) }) s
    ((put s1 2).setF (pgHbmc k) 0x100 0 25 16 (s1.getF (pgHbmc k) 0x100 0 25 16 - 1)).fault
      { code := 0x1423, page := pgHbmc k, action := 0, detail := daDetail (da 0) (s.ofField (da 0)) 6 }
  | 2 => (put s 3).fault { code := 0x1424, page := pgHbmc k, cls := 2, action := 2, detail := daDetail (da 0) (s.ofField (da 0)) 6 }
  | _ => s

/-- Repairs every retired row, in order of stack and list; `os` holds their outcomes. -/
def State.repairRows (s : State) (os : List Nat) : State :=
  let rows := (List.range 12).flatMap (fun k => ((s.stack k).rows.filter (fun r => r.state != 2)).map (fun r => (k, r)))
  (rows.zip os).foldl (fun st q => st.repairRow q.1.1 q.1.2 q.2) s

/-- Device-core reset (Table 14-6). -/
def State.resetDevice (s : State) (os : List Nat) : State :=
  let s1 := (List.range 4).foldl State.resetDie s
  let s2 := (List.range 12).foldl (fun st k =>
    ((st.setStack k { st.stack k with corr := [], patrol := 0 }).dropRegs (pgHbmc k) (commonCnt ++ [0x104, 0x110, 0x140, 0x148])).setF (pgHbmc k) 0x100 0 6 4 0) s1
  ((List.range 8).foldl (fun st i => if i % 2 = 0 ∧ !st.d2dUp i then st.retrainLink i else st) s2).repairRows os

/-! Cold reset. -/

/-- Every field at its reset value but what the Steward keeps, what has left the device, and the rows awaiting repair (R265, R275, R405, R411). -/
def State.cold (s : State) : State :=
  let m := s.module
  let keep (x : Stack) : Stack := { rows := x.rows.filter (fun r => r.state != 2) }
  let s1 : State := { State.reset with
    module := { m with fallback := false, powerDown := false, eids := [], mboxReq := [], mboxRsp := [], algs := [], jtagOut := 0, bscan := 0, driven := none,
                       dbgSeq := 0, dbgDie := 3, dbgDrops := [], portTrained := !m.perst, slot := if m.stewardOk then (mapGet m.flash 1 {}).next else m.slot,
                       flash := m.flash.map (fun e => (e.1, { e.2 with inUse := e.2.next, staged := [] })) },
    hostOut := s.hostOut, mgmtOut := s.mgmtOut, freeCtr := s.freeCtr, pending := s.pending, stackSt := s.stackSt.map (fun e => (e.1, keep e.2)) }
  let s2 := s1.stackSt.foldl (fun st e => e.2.rows.foldl (fun u r => (List.range 8).foldl (fun v c =>
    let da := placeDa e.1 r.channel r.pc r.bank r.row c
    v.setSlice (homeSlice da) { v.slice (homeSlice da) with lines := mapSet (v.slice (homeSlice da)).lines (da / 128) { kind := .pin } }) 
      (u.sat (pgHbmc e.1) 0x100 0 25 16 1)) st) s1
  m.retireMap.foldl (fun st e => (st.setReg (pgDie e.1) 0x400 0 (BitVec.ofNat 64 e.2)).setReg (pgDie e.1) 0x410 0 (BitVec.ofNat 64 e.2)) s2

end Sys2Proof.Machine
end

