-- ==== Sys2Proof/Machine/ModOps.lean ====
section
/-!
DEFINITION. Loss of power, graceful power-down and trips (15_host_interface.md R458; 08_memory_system.md R274, R275; 17_module_hardware.md R484 to R488).
-/
namespace Sys2Proof.Machine

/-- The device without its rails: what they held is lost, and the next power-good is a cold reset (R275, R429). -/
def State.railsOff (s : State) : State :=
  { s.cold with module := { s.cold.module with railsOn := false, pwrGood := false, portTrained := false } }

/-- Loss of the input: the Steward loses power too (R275, R484). -/
def State.inputLost (s : State) : State :=
  if !s.module.hotswap then s
  else { s.railsOff with module := { s.railsOff.module with hotswap := false, stewardOk := false, stewardFailed := false, thermtrip := false } }

/-- The rails start once the Steward's firmware has verified and MODULE_EN is high (R486). -/
def State.startRails (s : State) : State :=
  if s.module.stewardOk ∧ s.module.moduleEn ∧ !s.module.thermtrip then { s with module := { s.module with railsOn := true } } else s

/-- A trip point is reached (R488): THERMTRIP# asserted, PWR_GOOD deasserted, rails off; the Steward logs it (R382). -/
def State.thermTrip (s : State) (reason unit : Nat) : State :=
  if s.module.thermtrip ∨ !s.module.railsOn then s
  else { s.railsOff with module := { s.railsOff.module with thermtrip := true, tripLog := s.module.tripLog ++ [(reason, unit)] } }

/-- Steps 1 and 2 of the graceful power-down (R458): the INTAKE pages stop fetching, polders with a RUNNING task stop with 0x0150. -/
def State.shutPolders (s : State) : State :=
  let s1 := ({ s with module := { s.module with powerDown := true } } : State).fault { code := 0x0150, page := pgDev, detail := detOther 0xFF [] }
  (List.range 64).foldl (fun st p => if (st.tilesOf p).any (fun t => (st.tile t).task == .running) then st.polderStop p 0x0150 true else st) s1

/-- Step 3 (R274): the slices refuse, discard held stores, drain and write back; the stacks enter self-refresh. -/
def State.shutSlices (s : State) : State :=
  let s1 := (List.range 64).foldl (fun st sl => (st.setSlice sl { st.slice sl with stopped := true }).settleSlice sl) s
  (List.range 12).foldl (fun st k => st.setF (pgHbmc k) 0x100 0 2 0 3) s1

/-- The graceful power-down (R458), to the loss of power that ends it. A module without power-good, or that has tripped, has nothing to end. -/
def State.graceful (s : State) : State := if !s.module.pwrGood then s else s.shutPolders.shutSlices.railsOff

end Sys2Proof.Machine
end

