-- ==== Sys2Proof/Machine/ModuleRows.lean ====
section
/-!
DEFINITION. The module's input, sideband pins, trips and boot (15_host_interface.md R456 to R458; 17_module_hardware.md R484 to R488).
-/
namespace Sys2Proof.Machine

/-- Changes the module's state. -/
def State.onModule (s : State) (f : Module → Module) : State := { s with module := f s.module }

/-- Loss of input power is a cold reset of all but the Steward's non-volatile state (R275, R484). -/
def State.inputOff (s : State) (f : Module → Module) : State := s.inputLost.onModule f

/-- HOTSWAP_ON (Table 17-8): MATE_LAST is grounded and the input is at least 38 V; held off after an overcurrent, or while an overvoltage lasts. -/
def effHotswapOn (s : State) : State :=
  if s.module.ocpLatched ∨ s.module.ovp then s.onModule (fun m => { m with mateLast := true })
  else s.onModule (fun m => { m with mateLast := true, hotswap := true })

/-- HOTSWAP_ON. -/
def execHotswapOn (s : State) : Out := .next (effHotswapOn s)

/-- HOTSWAP_UVLO (Table 17-8): the input goes off; removal of 54 V also ends an overcurrent hold. -/
def execHotswapUvlo (s : State) : Out := .next (s.inputOff (fun m => { m with ocpLatched := false }))

/-- HOTSWAP_OVP (Table 17-8): the input goes off until OVP_RECOVERY. -/
def execHotswapOvp (s : State) : Out := .next (if s.module.hotswap then s.inputOff (fun m => { m with ovp := true }) else s)

/-- OVP_RECOVERY (Table 17-8): 1 s below 59.5 V turns the input on again. -/
def effOvpRecovery (s : State) : State :=
  if !s.module.ovp then s
  else s.onModule (fun m => { m with ovp := false, hotswap := m.hotswap || (m.mateLast && !m.ocpLatched) })

/-- OVP_RECOVERY. -/
def execOvpRecovery (s : State) : Out := .next (effOvpRecovery s)

/-- HOTSWAP_OCP (Table 17-8): the input goes off and stays off until 54 V is removed or MATE_LAST is released. -/
def execHotswapOcp (s : State) : Out := .next (if s.module.hotswap then s.inputOff (fun m => { m with ocpLatched := true }) else s)

/-- MATE_LAST_RELEASE (Table 17-8): the input goes off; what held it off ends. -/
def execMateLastRelease (s : State) : Out := .next (s.inputOff (fun m => { m with mateLast := false, ovp := false, ocpLatched := false }))

/-- STEWARD_VERIFIED (R457, R486): firmware of slot 0 (A) or 1 (B) verified; any other value stands for failure in both slots. -/
def effSteward (slot : Nat) (s : State) : State :=
  if !s.module.hotswap ∨ s.module.stewardOk then s
  else if 2 ≤ slot then s.onModule (fun m => { m with stewardFailed := true })
  else (s.onModule (fun m => { m with stewardOk := true, slot := slot, fallback := m.fallback || (mapGet m.flash 1 {}).inUse != slot })).startRails

/-- STEWARD_VERIFIED. -/
def execStewardVerified (slot : Nat) (s : State) : Out := .next (effSteward slot s)

/-- MODULE_EN_RISE (R486): the rails start, or wait for the Steward. -/
def execModuleEnRise (s : State) : Out := .next (s.onModule (fun m => { m with moduleEn := true })).startRails

/-- MODULE_EN_FALL (R487): after power-good the graceful power-down, before it the rails alone. -/
def effModuleEnFall (s : State) : State :=
  let s1 := s.onModule (fun m => { m with moduleEn := false })
  if s.module.pwrGood then s1.graceful else if s.module.railsOn then s1.railsOff else s1

/-- MODULE_EN_FALL. -/
def execModuleEnFall (s : State) : Out := .next (effModuleEnFall s)

/-- POWER_GOOD (R456, R486): the rails are up and the PLLs locked; boot enters DIE_FW. -/
def effPowerGood (s : State) : State :=
  if !s.module.railsOn ∨ s.module.pwrGood then s
  else ((s.onModule (fun m => { m with pwrGood := true, portTrained := !m.perst })).setF pgDev 0x100 0 2 0 1).setF pgDev 0x100 0 16 16 (b2n s.module.fallback)

/-- POWER_GOOD. -/
def execPowerGood (s : State) : Out := .next (effPowerGood s)

/-- PLDM_POWER_DOWN (R452, R458). -/
def execPldmPowerDown (s : State) : Out := .next s.graceful

/-- THERMTRIP (R382, R488). -/
def execThermtrip (reason unit : Nat) (s : State) : Out := onSensor reason unit (fun _ => s.thermTrip reason unit)

/-- THERMTRIP_CLEAR (R488): MODULE_EN low for 100 ms and every trip sensor 15 °C below its trip point release THERMTRIP#. -/
def effTripClear (s : State) : State :=
  if s.module.thermtrip ∧ !s.module.moduleEn then s.onModule (fun m => { m with thermtrip := false }) else s

/-- THERMTRIP_CLEAR. -/
def execThermtripClear (s : State) : Out := .next (effTripClear s)

/-! Boot (Table 15-12). -/

/-- BOOT_DIE_FW_DONE: boot moves to MEMORY; `fallback` where a component came from its other slot (R457). -/
def effBootFw (fallback : Bool) (s : State) : State :=
  if s.bootState ≠ 1 then s
  else
    let s1 := s.setF pgDev 0x100 0 2 0 2
    if fallback then (s1.onModule (fun m => { m with fallback := true })).setF pgDev 0x100 0 16 16 1 else s1

/-- BOOT_DIE_FW_DONE. -/
def execBootDieFwDone (fallback : Bool) (s : State) : Out := .next (effBootFw fallback s)

/-- BOOT_MEMORY_DONE: HBM trained and repaired (R265), every block fresh under new keys (R275), every tile cleared; boot moves to LINKS. -/
def effBootMemory (ppr : List Nat) (s : State) : State :=
  if s.bootState ≠ 2 then s
  else
    let s1 : State := { s with hbm := [], clean := [], zeroing := [], poison := [], tiles := [], scr := [] }
    let s2 := (List.range 12).foldl (fun st k => st.setF (pgHbmc k) 0x100 0 2 0 2) s1
    (s2.repairRows ppr).setF pgDev 0x100 0 2 0 3

/-- BOOT_MEMORY_DONE. -/
def execBootMemoryDone (ppr : List Nat) (s : State) : Out := .next (effBootMemory ppr s)

/-- The firmware version in use of a component, die firmware from the other slot after a fallback that was not the Steward's (R457). -/
def Module.version (m : Module) (comp : Nat) : Nat :=
  let c := mapGet m.flash comp {}
  let slot := if comp = 1 then m.slot else if m.fallback ∧ (mapGet m.flash 1 {}).inUse = m.slot then 1 - c.inUse else c.inUse
  mapGet c.versions slot (Config.fwVersion (2 * comp + slot)) % 65536

/-- The BOOT record comes first in the PF's ring (Table 15-8, Table 15-10). -/
def State.postFirst (s : State) (r : Record) : State :=
  let k := s.intake 0
  let s1 := { s with recSeq := s.recSeq + 1 }
  if k.backlog = [] then s1.postTo 0 r
  else (s1.setIntake 0 { k with backlog := (r :: k.backlog).take 64, lostPend := k.lostPend + (k.backlog.length + 1 - 64) }).setF (pgIntake 0) 0x13C 0 6 0
    (min 64 (k.backlog.length + 1))

/-- BOOT_LINKS_DONE: D2D links trained, beat counters loaded (R215); boot reaches READY and queues the BOOT record, then the trips (R382, R457). -/
def effBootLinks (ms : Nat) (s : State) : State :=
  if s.bootState ≠ 3 then s
  else
    let m := s.module
    let s1 := (List.range 8).foldl State.d2dFresh s
    let s2 := (s1.setF pgDev 0x100 0 2 0 4).setF pgDev 0x104 0 31 0 ms
    let code := if m.fallback then 0x0152 else 0
    let s3 := if m.fallback then s2.err pgDev 0x0152 else s2
    let body := natLE 2 6 ++ natLE 2 code ++ natLE 4 ms ++ natLE 2 (m.version 1) ++ natLE 2 (m.version 2) ++ natLE 1 m.slot ++ zeros 3
    let s4 := s3.postFirst { recType := 6, length := 16, body := body }
    (m.tripLog.foldl (fun st e => st.fault { code := 0x0206, page := pgPwr, cls := 6, detail := detOther 0xFF [e.1, e.2] }) s4).onModule
      (fun x => { x with tripLog := [] })

/-- BOOT_LINKS_DONE. -/
def execBootLinksDone (ms : Nat) (s : State) : Out := .next (effBootLinks ms s)

/-- BOOT_STAGE_TIMEOUT (R457): a stage failed or passed its limit. -/
def effBootFail (reason ms : Nat) (s : State) : State :=
  if s.bootState = 0 ∨ 4 ≤ s.bootState then s
  else (((s.setF pgDev 0x100 0 2 0 5).setF pgDev 0x100 0 15 8 reason).setF pgDev 0x104 0 31 0 ms).fault
    { code := 0x0153, page := pgDev, cls := 6, detail := detOther 0xFF [reason] }

/-- BOOT_STAGE_TIMEOUT. -/
def execBootStageTimeout (reason ms : Nat) (s : State) : Out := .next (effBootFail reason ms s)

end Sys2Proof.Machine
end

