-- ==== Sys2Proof/Machine/KndMath.lean ====
section
/-!
DEFINITION. The kneader's reductions and ring parts (11_kneader.md R328, R338 to R340).
-/
namespace Sys2Proof.Machine

/-- P of R328: the payload loaves of a range of `len` loaves, if the format allows that length. -/
def payloadOf (f len : Nat) : Option Nat :=
  if f != 3 then some len
  else
    let p := len - ceilDiv len 129
    if p + ceilDiv p 128 = len then some p else none

/-- Payload loaves with their group scales, from the loaves of a range. -/
def kloaves (f p : Nat) (ls : List (List Byte)) : List KLoaf :=
  let sc := (ls.drop p).flatten
  (ls.take p).mapIdx (fun i b => { bytes := b, scales := if f == 3 then (sc.drop (4 * i)).take 4 else [] })

/-- The loaves that hold payload loaves and, for SF16, their group scale array (R328). -/
def rangeLoaves (f : Nat) (ks : List KLoaf) : List (List Byte) :=
  ks.map (·.bytes) ++ (if f == 3 then (pieces (4 * ks.length) 512 (ks.flatMap (·.scales))).map (padTo 512) else [])

/-- part(buf, j, m) of R338. -/
def kpart (buf : List KLoaf) (j m : Nat) : List KLoaf :=
  let lo := j * buf.length / m
  (buf.drop lo).take ((j + 1) * buf.length / m - lo)

/-- The vector with part j of m replaced. -/
def ksetPart (buf : List KLoaf) (j m : Nat) (new : List KLoaf) : List KLoaf :=
  buf.take (j * buf.length / m) ++ new ++ buf.drop ((j + 1) * buf.length / m)

/-- The exact sum of two values, and whether it is +Inf + −Inf. -/
def fvSum (x y : FV) : FV × Bool :=
  match x, y with
  | .nan, _ => (.nan, false)
  | _, .nan => (.nan, false)
  | .inf a, .inf b => if a == b then (.inf a, false) else (.nan, true)
  | .inf a, _ => (.inf a, false)
  | _, .inf b => (.inf b, false)
  | .fin n m e, .fin n' m' e' =>
    let (v, k) := dyAdd (signed n m) e (signed n' m') e'
    (.fin (if v == 0 then n && n' && m == 0 && m' == 0 else decide (v < 0)) v.natAbs k, false)

/-- MAX or MIN of two values under R173: NaN wins, −0 is below +0. -/
def fvPick (wantMax : Bool) (x y : FV) : FV :=
  match x, y with
  | .nan, _ => .nan
  | _, .nan => .nan
  | _, _ => if fvLt x y == wantMax then y else x

/-- KND_FLAGS bits of a set of conditions. -/
def kndBits (f : OpFlags) : Nat := b2n f.nanIn + 2 * b2n f.infIn + 4 * b2n f.inv + 8 * b2n f.ovf + 16 * b2n f.unf + 32 * b2n f.iovf

/-- combine of two elements of an unscaled format (Table 11-5): `red` 0 SUM, 1 MAX, 2 MIN; the received value stands first. -/
def kelem (f red a b : Nat) : Nat × Nat :=
  if f == 9 then
    if red == 0 then
      let (v, o) := wrap32 (sext 32 a + sext 32 b)
      (v, kndBits o)
    else (if decide (sext 32 a < sext 32 b) == (red == 1) then b else a, 0)
  else
    let x := decodeElem f false a
    let y := decodeElem f false b
    let (v, o) := if red == 0 then fvAdd f x y else (floatPick f (red == 1) a b, {})
    (v, kndBits (o.or ((inFlags x).or (inFlags y))))

/-- The SF16 control word of R340: AUTO scale, RNE. -/
def sf16Word : Nat := 0x33

/-- SF16 rescaling of one loaf (R340). -/
def ksf16 (red : Nat) (a b : KLoaf) : KLoaf × Nat :=
  let dec (k : KLoaf) := decodeSrc 3 false (unpackLoaf 3 k.bytes) (k.scales.map (·.toNat))
  let xs := dec a
  let ys := dec b
  let zs := List.zipWith (fun (x y : SrcElem) => if red == 0 then fvSum x.val y.val else (fvPick (red == 1) x.val y.val, false)) xs ys
  let groups := (pieces 256 64 zs).map (fun g => convBlock sf16Word {} 0 64 (g.map (fun z => ⟨0, z.1, false⟩)) none)
  let inF := (xs ++ ys).foldl (fun (o : OpFlags) e => o.or (inFlags e.val)) {}
  let ff := (a.scales ++ b.scales).any (fun c => c == 0xFF)
  let fl := groups.foldl (fun n g => n ||| g.flags) 0
  ({ bytes := packLoaf 3 (groups.flatMap (·.codes)), scales := groups.map (fun g => BitVec.ofNat 8 (g.scales.headD 0)) },
    kndBits { inF with inv := zs.any (·.2), ovf := fl.testBit 2, unf := fl.testBit 3 } + 64 * b2n ff)

/-- combine of one loaf. -/
def kcombine1 (f red : Nat) (a b : KLoaf) : KLoaf × Nat :=
  if f == 3 then ksf16 red a b
  else
    let rs := List.zipWith (kelem f red) (unpackLoaf f a.bytes) (unpackLoaf f b.bytes)
    ({ bytes := packLoaf f (rs.map (·.1)), scales := [] }, rs.foldl (fun n r => n ||| r.2) 0)

/-- combine of two parts: the received one and the member's own (R338, R339), with the KND_FLAGS bits. -/
def kcombine (f red : Nat) (a b : List KLoaf) : List KLoaf × Nat :=
  let rs := List.zipWith (kcombine1 f red) a b
  (rs.map (·.1), rs.foldl (fun n r => n ||| r.2) 0)

/-- The flits of one part: payload, then for SF16 its scale flits (R335): scale mark and 512 bytes. -/
def partFlits (f : Nat) (ks : List KLoaf) : List (Bool × List Byte) :=
  ks.map (fun k => (false, k.bytes)) ++
    (if f == 3 then (pieces (4 * ks.length) 512 (ks.flatMap (·.scales))).map (fun b => (true, padTo 512 b)) else [])

/-- Flits of a part of `n` loaves. -/
def partLen (f n : Nat) : Nat := n + (if f == 3 then ceilDiv n 128 else 0)

/-- Parts from the flits of a step: lengths of the parts in order. -/
def flitParts (f : Nat) : List Nat → List (Bool × List Byte) → List (List KLoaf)
  | [], _ => []
  | n :: ns, fs =>
    kloaves f n (((fs.take (partLen f n)).filter (fun x => !x.1)).map (·.2) ++ ((fs.take (partLen f n)).filter (·.1)).map (·.2)) ::
      flitParts f ns (fs.drop (partLen f n))

end Sys2Proof.Machine
end

