-- ==== Sys2Proof/Machine/Kneader.lean ====
section
/-!
DEFINITION. Kneader instances (11_kneader.md R331, R336 to R345, R349): triggers, ring steps, waves and aborts.
-/
namespace Sys2Proof.Machine

/-- An abort with its polder stop (R349): `code` is posted and is the stop's cause. -/
def State.kndAbort (s : State) (d key code : Nat) : State :=
  match s.slotPol d (key / 256) with
  | none => s.abortInst d key code code
  | some p => (s.abortInst d key code code).polderStop p code true

/-! The vector and its parts (R328, R338, R341). -/

/-- Member tiles of a descriptor, in ptile order. -/
def KDesc.members' (x : KDesc) : List Nat := (List.range x.ptiles).map (fun k => x.first + k)

/-- Payload loaves of a source and of a destination range. -/
def KDesc.pSrc (x : KDesc) : Nat := (payloadOf x.fmt x.srcLen).getD 0
def KDesc.pDst (x : KDesc) : Nat := (payloadOf x.fmt x.dstLen).getD 0

/-- Why the DMA could not read or write a member tile's loaf: the tile, and 0x1245 or 0x2015. -/
abbrev DmaErr := Nat × Nat

/-- The DMA reads one loaf of a tile (R95, R343). -/
def State.dmaRead (s : State) (d t loaf : Nat) : Except DmaErr (List Byte) × State :=
  if (s.tile t).orderBad (loaf * 512) false then (.error (t, 0x1245), s)
  else match s.scrRead t 2 (loaf * 512) 512 with
    | (some b, s1) => (.ok b, s1.countEv (pgKnd d) 0x11 1)
    | (none, s1) => (.error (t, 0x2015), s1)

/-- The DMA reads the source ranges of every member tile: V (R328, R341). -/
def State.readV (s : State) (d p : Nat) (x : KDesc) : Except DmaErr (List KLoaf) × State :=
  x.members'.foldl (fun (acc : Except DmaErr (List KLoaf) × State) pt =>
    match acc with
    | (.error e, st) => (.error e, st)
    | (.ok v, st) =>
      match st.tileOf p pt with
      | none => (.ok v, st)
      | some t =>
        match (List.range x.srcLen).foldl (fun (a : Except DmaErr (List (List Byte)) × State) k =>
          match a with
          | (.error e, st2) => (.error e, st2)
          | (.ok ls, st2) => match st2.dmaRead d t (x.srcLo + k) with
            | (.ok b, st3) => (.ok (ls ++ [b]), st3)
            | (.error e, st3) => (.error e, st3)) (.ok [], st) with
        | (.ok ls, st1) => (.ok (v ++ kloaves x.fmt x.pSrc ls), st1)
        | (.error e, st1) => (.error e, st1)) (.ok [], s)

/-- An instance's DMA met an error (R94, R343): the instance aborts, the tile's task faults, the polder stops. -/
def State.dmaFail (s : State) (d key : Nat) (e : DmaErr) : State :=
  let code := if e.2 = 0x1245 then 0x1245 else 0x1248
  let s1 := s.abortInst d key code e.2
  let s2 := s1.taskFault e.1 (s1.tile e.1).progress e.2 { index := (s1.tile e.1).cmdIndex, cls := 0 }
  match s.slotPol d (key / 256) with
  | some p => s2.polderStop p code true
  | none => s2

/-- The dimensions of an instance's half in their order: the gather half runs backwards. -/
def State.khalfDims (s : State) (p : Nat) (x : KDesc) (half : Nat) : List Nat := if half = 1 then (s.kdims p x).reverse else s.kdims p x

/-- Loaves of part j of m of a vector of `l`. -/
def partSize (l j m : Nat) : Nat := (j + 1) * l / m - j * l / m

/-- Length of the vector before dimension `dim` of the reduce half (R338). -/
def State.lenBefore (s : State) (p : Nat) (x : KDesc) (dim : Nat) : Nat :=
  ((s.kdims p x).takeWhile (· != dim)).foldl (fun l d => partSize l (s.kpos p x d) (s.kgroup p x d)) (x.pSrc * x.ptiles)

/-- The root's position in a dimension (R333). -/
def KDesc.rootPos (x : KDesc) (dim : Nat) : Nat :=
  match dim with
  | 0 => x.root / (x.gy * x.gz)
  | 1 => x.root / x.gz % x.gy
  | _ => x.root % x.gz

/-- Whether this member takes part in dimension `dim` of a chain. -/
def State.chainIn (s : State) (p : Nat) (x : KDesc) (dim : Nat) : Bool :=
  ((List.range 3).filter (fun e => decide (dim < e))).all (fun e => s.kpos p x e == x.rootPos e)

/-- Ring size and own position of the current dimension. -/
def State.kring (s : State) (p : Nat) (x : KDesc) (dim : Nat) : Nat × Nat := (s.kgroup p x dim, s.kpos p x dim)

/-- Distance from the root in the + direction. -/
def State.kdist (s : State) (p : Nat) (x : KDesc) (dim : Nat) : Nat :=
  let (m, q) := s.kring p x dim
  (q + m - x.rootPos dim % m) % m

/-- What the current step sends: its parts in order. -/
def State.stepOut (s : State) (p : Nat) (x : KDesc) (i : KInst) (dim : Nat) : List (List KLoaf) :=
  let (m, q) := s.kring p x dim
  match i.half with
  | 0 => [kpart i.buf ((q + 2 * m - i.step - 1) % m) m]
  | 1 => [mapGet i.out ((q + m - i.step) % m) []]
  | 2 => if i.step = 1 then [i.buf] else []
  | _ =>
    let o := (q + m - i.step) % m
    let ls := mapGet i.out o []
    (((List.range m).filter (fun k => decide (i.step < k))).foldl (fun (acc : List (List KLoaf) × List KLoaf) k =>
      let n := partSize (x.pSrc * x.ptiles) ((o + k) % m) m
      (acc.1 ++ [acc.2.take n], acc.2.drop n)) ([], ls)).1

/-- What the current step receives: the lengths of its parts in order. -/
def State.stepIn (s : State) (p : Nat) (x : KDesc) (i : KInst) (dim : Nat) : List Nat :=
  let (m, q) := s.kring p x dim
  match i.half with
  | 0 => [partSize i.buf.length ((q + 2 * m - i.step - 2) % m) m]
  | 1 => [if x.kind = 1 then partSize (s.lenBefore p x dim) ((q + m - i.step - 1) % m) m else (mapGet i.out q []).length]
  | 2 => if i.step = 0 then [x.pSrc * x.ptiles] else []
  | _ =>
    let o := (q + 2 * m - i.step - 1) % m
    ((List.range m).filter (fun k => decide (i.step < k))).map (fun k => partSize (x.pSrc * x.ptiles) ((o + k) % m) m)

/-- The ring step that the flits of the current step bear: a chain numbers the hop from the root (DESIGN CHOICE, log entry 31). -/
def State.stepNo (s : State) (p : Nat) (x : KDesc) (i : KInst) (dim : Nat) (sending : Bool) : Nat :=
  if i.half = 2 then (if sending then s.kdist p x dim else s.kdist p x dim - 1) else i.step

/-- The kword of Table 11-3. -/
def kwordOf (rank desc phase gather step : Nat) (scale : Bool) : Nat :=
  rank % 64 + desc % 256 * 64 + phase % 4 * 2 ^ 14 + gather * 2 ^ 16 + step % 32 * 2 ^ 17 + b2n scale * 2 ^ 22

/-- Sends the current step's parts to the + neighbour (R335, R338). `false` where no port leads there. -/
def State.sendStep (s : State) (d p key : Nat) (x : KDesc) (i : KInst) (dim : Nat) : Bool × State :=
  let (m, q) := s.kring p x dim
  let role := s.kdir p x dim true
  let rank := s.rankOf 3 p (d * 16 + key / 256)
  ((s.stepOut p x i dim).flatMap (partFlits x.fmt)).foldl (fun (acc : Bool × State) fl =>
    if !acc.1 then acc
    else acc.2.sendFlit d p
      { res := false, dst := acc.2.kpeer p x dim ((q + 1) % m), dstDie := d, src := acc.2.nodeId, srcDie := d, ftid := acc.2.ftid p,
        sgn := if role % 2 = 1 then 2 ^ dim else 0, kword := kwordOf rank (key % 256) dim (b2n (i.half == 1)) (acc.2.stepNo p x i dim true) fl.1,
        payload := fl.2 }) (true, s)

/-- What a completed step makes of an instance, with its KND_FLAGS bits and the loaves combined (R338, R339). -/
def State.ringDone (s : State) (p : Nat) (x : KDesc) (i : KInst) (dim : Nat) : KInst × Nat × Nat :=
  let (m, q) := s.kring p x dim
  let parts := flitParts x.fmt (s.stepIn p x i dim) i.got
  let next (j : KInst) : KInst := { j with step := i.step + 1, got := [], sent := false }
  match i.half with
  | 0 =>
    let j := (q + 2 * m - i.step - 2) % m
    let (r, fl) := kcombine x.fmt x.red (parts.headD []) (kpart i.buf j m)
    (next { i with buf := ksetPart i.buf j m r }, fl, r.length)
  | 1 => (next { i with out := mapSet i.out ((q + m - i.step - 1) % m) (parts.headD []) }, 0, 0)
  | 2 => (next { i with buf := if i.step = 0 then parts.headD [] else i.buf }, 0, 0)
  | _ =>
    let o := (q + 2 * m - i.step - 1) % m
    (next { i with out := mapSet (mapSet i.out o ((parts.drop 1).flatten)) (64 + o) (parts.headD []) }, 0, 0)

/-- Steps of a dimension: m − 1, or a receive and a send in a chain. -/
def stepsOf (half m : Nat) : Nat := if half = 2 then 2 else m - 1

/-- The vector at the end of a dimension. -/
def State.dimDone (s : State) (p : Nat) (x : KDesc) (i : KInst) (dim : Nat) : List KLoaf :=
  let (m, q) := s.kring p x dim
  match i.half with
  | 0 => kpart i.buf q m
  | 1 => (List.range m).flatMap (fun j => mapGet i.out j [])
  | 2 => i.buf
  | _ => (List.range m).flatMap (fun o => if o = q then kpart i.buf q m else mapGet i.out (64 + o) [])

/-- What a half begins a dimension with: gather slots, or the parts to relay. -/
def State.dimStart (s : State) (p : Nat) (x : KDesc) (i : KInst) (dim : Nat) : SMap (List KLoaf) :=
  let (m, q) := s.kring p x dim
  match i.half with
  | 1 => [(q, i.buf)]
  | 3 => [(q, ((List.range m).filter (fun k => decide (0 < k))).flatMap (fun k => kpart i.buf ((q + k) % m) m))]
  | _ => []

/-- Whether the current step waits for nothing to send, or nothing to receive. -/
def KInst.sends (i : KInst) (m dist : Nat) : Bool := if i.half = 2 then i.step == 1 && decide (dist + 1 < m) else true

/-- Runs an instance as far as it can go (R337, R338); `n` bounds its moves. -/
def State.kgo : Nat → Nat → Nat → State → State
  | 0, _, _, s => s
  | n + 1, d, key, s =>
    match s.kinst d key, s.slotPol d (key / 256) with
    | some i, some p =>
      let x := s.kdesc d (key / 256) (key % 256)
      let ds := s.khalfDims p x i.half
      if i.state = 0 ∨ 2 < i.state ∨ 4 ≤ i.half then s
      else match ds[i.dim]? with
        | none =>
          let j : KInst := if i.half = 0 ∧ x.kind = 1 then { i with half := 1, dim := 0, step := 0, got := [], sent := false, out := [] }
            else { i with half := 4, state := 2, got := [], out := [] }
          State.kgo n d key (s.setKinst d key j)
        | some dim =>
          let m := s.kgroup p x dim
          let dist := s.kdist p x dim
          if i.half = 2 ∧ !s.chainIn p x dim then State.kgo n d key (s.setKinst d key { i with dim := i.dim + 1, step := 0 })
          else if !i.readySent.contains dim then
            match s.sendMsg d p (s.kdir p x dim false) (s.kmsg d (key / 256) (key % 256) p 1 dim i.num 0) with
            | (false, s1) => s1.kndAbort d key 0x1246
            | (true, s1) => State.kgo n d key (s1.onKinst d key (fun j => { j with readySent := j.readySent ++ [dim] }))
          else if i.step = 0 ∧ i.out = [] ∧ s.dimStart p x i dim ≠ [] then
            State.kgo n d key (s.setKinst d key { i with out := s.dimStart p x i dim })
          else if stepsOf i.half m ≤ i.step then
            State.kgo n d key (s.setKinst d key { i with buf := s.dimDone p x i dim, out := [], dim := i.dim + 1, step := 0 })
          else if !i.sent ∧ i.sends m dist then
            if !i.readySeen.contains dim then s.setKinst d key { i with state := 1 }
            else match s.sendStep d p key x i dim with
              | (false, s1) => s1.kndAbort d key 0x1246
              | (true, s1) => State.kgo n d key (s1.onKinst d key (fun j => { j with sent := true, state := 2 }))
          else
            let need := if i.half = 2 ∧ dist = 0 then 0 else ((s.stepIn p x i dim).map (partLen x.fmt)).foldl (· + ·) 0
            if i.half = 2 ∧ dist = 0 ∧ i.step = 0 then State.kgo n d key (s.setKinst d key { i with step := 1, sent := false })
            else if i.got.length < need then s.setKinst d key { i with state := 2 }
            else
              let (j, fl, k) := s.ringDone p x i dim
              State.kgo n d key (((s.setKinst d key j).orReg (pgKnd d) 0x198 0 fl).countEv (pgKnd d) 0x10 k)
    | _, _ => s

/-- Moves an instance can make at once, at most. -/
def kgoFuel : Nat := 600

/-! Waves (R337). -/

/-- Messages of a type and phase an instance has seen. -/
def KInst.waveSeen (i : KInst) (type phase : Nat) : Nat := (i.seen.filter (fun e => e.1 == type && e.2.1 == phase)).length

/-- Runs a wave as far as it can go; when it is complete a barrier is done and data commits (R342, R344, R345). -/
def State.waveGo : Nat → Nat → Nat → State → State
  | 0, _, _, s => s
  | n + 1, d, key, s =>
    match s.kinst d key, s.slotPol d (key / 256) with
    | some i, some p =>
      let x := s.kdesc d (key / 256) (key % 256)
      if i.wave = 0 ∨ !i.active then s
      else match (s.kdims p x)[i.waveDim]? with
        | none => s.setKinst d key (if i.wave = 1 then { i with wave := 0, doneAt := some s.beat } else { i with wave := 0, state := 4 })
        | some dim =>
          let type := i.wave + 1
          if !i.seen.contains (type, dim, s.kpos p x dim) then
            match s.sendMsg d p (s.kdir p x dim true) (s.kmsg d (key / 256) (key % 256) p type dim i.num 0) with
            | (false, s1) => s1.kndAbort d key 0x1246
            | (true, s1) => State.waveGo n d key (s1.onKinst d key (fun j => { j with seen := j.seen ++ [(type, dim, s.kpos p x dim)] }))
          else if i.waveSeen type dim < s.kgroup p x dim then s
          else State.waveGo n d key (s.setKinst d key { i with waveDim := i.waveDim + 1 })
    | _, _ => s

/-- Starts a wave: 1 ARRIVE, 2 DONE. -/
def State.startWave (s : State) (d key w : Nat) : State := State.waveGo 20 d key (s.onKinst d key (fun i => { i with wave := w, waveDim := 0 }))

/-! Triggers (R331, R344, R345). -/

/-- Where a data-carrying kind begins (R338). -/
def kindHalf (kind : Nat) : Nat := if kind = 3 then 1 else if kind = 4 then 2 else if kind = 5 then 3 else 0

/-- Whether a kneader holds back a polder's triggers (R351). -/
def State.quiesced (s : State) (d p : Nat) : Bool := match (s.knd d).quiesce with | some (q, _) => q == p | none => false

/-- A new instance of a descriptor. -/
def State.newInst (s : State) (d key : Nat) : State :=
  s.setKinst d key { desc := key % 256, num := ((s.kdesc d (key / 256) (key % 256)).done + 1) % 2 ^ 32, state := 2 }

/-- Triggers an instance where R331 lets it. -/
def State.tryTrigger (s : State) (d key : Nat) : State :=
  let x := s.kdesc d (key / 256) (key % 256)
  match s.slotPol d (key / 256) with
  | none => s
  | some p =>
    let busy : Bool := match s.kinst d key with | some i => i.active | none => false
    if !x.valid ∨ busy ∨ x.ready < x.readyCount ∨ x.readyCount = 0 ∨ x.kind = 7 ∨ s.quiesced d p ∨ (s.pol p).stopped then s
    else
      let s1 := (s.setKdesc d (key / 256) (key % 256) { x with ready := x.ready - x.readyCount }).newInst d key
      if x.kind = 6 then
        (if s1.kdims p x = [] then s1.onKinst d key (fun i => { i with doneAt := some s1.beat }) else s1.startWave d key 1)
      else match s1.readV d p x with
        | (.error e, s2) => s2.dmaFail d key e
        | (.ok v, s2) => State.kgo kgoFuel d key (s2.onKinst d key (fun i => { i with half := kindHalf x.kind, buf := v }))

/-! Arrivals (R334, R336, R337). -/

/-- A flit or message that maps to no slot of this die is dropped (R334). -/
def State.stray (s : State) (d : Nat) : State :=
  let s1 := s.sat (pgKnd d) 0x1A4 0 31 0 1
  if (s1.knd d).strayPosted then s1
  else (s1.setKnd d { s1.knd d with strayPosted := true }).fault
    { code := 0x1249, page := pgKnd d, cls := 1, detail := kndDetail 0 0 0 0 0 0 }

/-- The polder and slot of kneader `d` that a tenant's slot rank names, if any. -/
def State.slotFor (s : State) (d ftid rank : Nat) : Option (Nat × Nat) :=
  (s.ftidPols ftid).findSome? (fun p => match s.ofRank 3 p rank with
    | some k => if k / 16 = d then some (p, k % 16) else none
    | none => none)

/-- What becomes of a message at a kneader: 0 it acts on instance n, 1 it waits for instance n + 1, 2 it is dropped, 3 it lies beyond n + 1. -/
def State.msgFate (s : State) (d key num : Nat) : Nat :=
  let done := (s.kdesc d (key / 256) (key % 256)).done
  match s.kinst d key with
  | some i =>
    if i.active then (if num = i.num then 0 else if num = i.num + 1 then 1 else if num < i.num then 2 else 3)
    else if i.state = 5 ∧ num = i.num then 2
    else if num = done + 1 then 1 else if num ≤ done then 2 else 3
  | none => if num = done + 1 then 1 else if num ≤ done then 2 else 3

/-- An instance beyond n + 1 (R337): the descriptor's instance in progress aborts; with none in progress the code is only recorded. -/
def State.beyond (s : State) (d key : Nat) : State :=
  match (s.knd d).activeKeys (some (key / 256)) with
  | [] => s.err (pgKnd d) 0x124B
  | ks => ks.foldl (fun st k => st.kndAbort d k 0x124B) s

/-- Whether a READY, ARRIVE or DONE that came in at `port` only passes this member: it runs on a closing link that leads back across the group
(R333; log entry 34). -/
def State.passes (s : State) (p : Nat) (x : KDesc) (m : KMsg) (port : Nat) : Bool :=
  let q := s.kpos p x m.phase
  let g := s.kgroup p x m.phase
  let minus : Bool := portRole port % 2 == 1
  if m.type = 1 then minus && decide (q + 1 < g) && m.origin == 0 && decide (0 < q) else !minus && decide (0 < q) && decide (2 < g)

/-- Acts on one message (R336, R337, R342, R349). -/
def State.actMsg (s : State) (d p slot at_ : Nat) (m : KMsg) : State :=
  let key := slot * 256 + m.desc
  let x := s.kdesc d slot m.desc
  match s.kinst d key with
  | none => s
  | some i =>
    if m.type = 4 then s.kndAbort d key 0x1248
    else if m.type = 1 then
      State.kgo kgoFuel d key (s.setKinst d key { i with readySeen := if i.readySeen.contains m.phase then i.readySeen else i.readySeen ++ [m.phase] })
    else if i.seen.contains (m.type, m.phase, m.origin) then s
    else
      let q := s.kpos p x m.phase
      let g := s.kgroup p x m.phase
      let s1 := s.setKinst d key { i with seen := i.seen ++ [(m.type, m.phase, m.origin)], lagR := if m.type = 2 then i.lagR ++ [at_] else i.lagR }
      let s2 := if m.origin = (q + 1) % g then s1 else (s1.sendMsg d p (s1.kdir p x m.phase true) m).2
      State.waveGo 20 d key s2

/-- Takes the first message of a type that this kneader can act on, drop or pass on. -/
def State.takeMsg (s : State) (d type : Nat) : State :=
  let fate (e : Nat × Nat × KMsg) : Option (Nat × Nat × Nat) :=   -- fate, polder, slot; 4 passes, 5 stray
    let m := e.2.2
    if m.type ≠ type then none
    else match s.slotFor d m.ftid m.kslot with
      | none => some (5, 0, 0)
      | some (p, slot) =>
        if s.passes p (s.kdesc d slot m.desc) m e.1 then some (4, p, slot)
        else
          let f := s.msgFate d (slot * 256 + m.desc) m.inst
          if f = 1 then none else some (f, p, slot)
  match (s.knd d).inMsgs.find? (fun e => (fate e).isSome) with
  | none => s
  | some e =>
    let s1 := s.setKnd d { s.knd d with inMsgs := (s.knd d).inMsgs.erase e }
    match fate e with
    | some (0, p, slot) => s1.actMsg d p slot e.2.1 e.2.2
    | some (3, _, slot) => s1.beyond d (slot * 256 + e.2.2.desc)
    | some (4, p, _) => (s1.sendMsg d p (portRole e.1 ^^^ 1) e.2.2).2
    | some (5, _, _) => s1.stray d
    | _ => s1

/-- What becomes of a flit: 0 it belongs to the current step, 1 it waits for a later one, 2 it is dropped. -/
def State.flitFate (s : State) (d p slot : Nat) (f : Flit) : Nat :=
  let desc := bitsOf f.kword 13 6
  let x := s.kdesc d slot desc
  match s.kinst d (slot * 256 + desc) with
  | none => 2
  | some i =>
    if i.state = 0 ∨ 2 < i.state ∨ 4 ≤ i.half then 2
    else match (s.khalfDims p x i.half)[i.dim]? with
      | none => 1
      | some dim =>
        if bitsOf f.kword 15 14 = dim ∧ bitsOf f.kword 16 16 = b2n (i.half == 1) ∧ bitsOf f.kword 21 17 = s.stepNo p x i dim false then 0 else 1

/-- Takes the first flit that this kneader can act on or drop (R338). -/
def State.takeFlit (s : State) (d : Nat) : State :=
  let fate (f : Flit) : Nat := match s.slotFor d f.ftid (bitsOf f.kword 5 0) with
    | none => 3
    | some (p, slot) => s.flitFate d p slot f
  match (s.knd d).inFlits.find? (fun f => fate f != 1) with
  | none => s
  | some f =>
    let s1 := s.setKnd d { s.knd d with inFlits := (s.knd d).inFlits.erase f }
    if fate f = 3 then s1.stray d
    else if fate f = 2 then s1
    else match s.slotFor d f.ftid (bitsOf f.kword 5 0) with
      | none => s1
      | some (_, slot) =>
        let key := slot * 256 + bitsOf f.kword 13 6
        State.kgo kgoFuel d key (s1.onKinst d key (fun i => { i with got := i.got ++ [(bitOf f.kword 22, f.payload)] }))

/-! Ends (R331, R342, R345). -/

/-- An instance ends with its commit: the completion count advances and the next one may trigger. -/
def State.kndCommit (s : State) (d key : Nat) : State :=
  let x := s.kdesc d (key / 256) (key % 256)
  let s1 := (s.setKdesc d (key / 256) (key % 256) { x with done := (x.done + 1) % 2 ^ 32 }).onKinst d key (fun i =>
    ({ desc := i.desc, num := i.num, state := 0 } : KInst))
  let s2 := s1.bump (pgKnd d) 0x178 0 1
  match s.slotPol d (key / 256) with
  | some p => (s2.beatHeart p).tryTrigger d key
  | none => s2

/-- The first instance of a slot, by descriptor, that meets a condition. -/
def State.firstInst (s : State) (d slot : Nat) (f : KDesc → KInst → Bool) : Option Nat :=
  ((s.knd d).insts.find? (fun e => e.1 / 256 == slot && f (s.kdesc d slot (e.1 % 256)) e.2)).map (·.1)

end Sys2Proof.Machine
end

