-- ==== Sys2Proof/Machine/KndRows.lean ====
section
/-!
DEFINITION. The kneader's commands but the release of a frame barrier (11_kneader.md R330, R331, R337, R342 to R345, R347 to R351).
-/
namespace Sys2Proof.Machine

/-! Posts (R329, R330). -/

/-- The staged words as bytes. -/
def State.staged64 (s : State) (d : Nat) : List Byte := (List.range 16).flatMap (fun k => natLE 4 (s.getF (pgKnd d) (0x120 + 4 * k) 0 31 0))

/-- Field of a posted descriptor: offset and width. -/
def postField (bs : List Byte) (o w : Nat) : Nat := leNat ((bs.drop o).take w)

/-- The descriptor that posted bytes spell (Table 11-2). -/
def postDesc (bs : List Byte) : KDesc :=
  { valid := true, kind := postField bs 0 1, fmt := postField bs 1 1, red := postField bs 2 1, first := postField bs 6 2, ptiles := postField bs 8 2,
    srcLo := postField bs 0xA 2, srcLen := postField bs 0xC 2, dstLo := postField bs 0xE 2, dstLen := postField bs 0x10 2, root := postField bs 0x12 2,
    readyCount := postField bs 0x14 4, gx := postField bs 0x18 1, gy := postField bs 0x19 1, gz := postField bs 0x1A 1, shadow := postField bs 0x20 8,
    members := postField bs 0x18 1 * postField bs 0x19 1 * postField bs 0x1A 1 }

/-- Whether the image declares exactly what is posted (R330, first check). -/
def declMatch (k : KDecl) (x : KDesc) : Bool :=
  k.kind == x.kind && k.fmt == x.fmt && k.red == x.red && k.first == x.first && k.ptiles == x.ptiles && k.srcLo == x.srcLo && k.srcLen == x.srcLen &&
    k.dstLo == x.dstLo && k.dstLen == x.dstLen && k.readyCount == x.readyCount && k.members == x.members

/-- The size rule of Table 11-1. -/
def sizeRule (x : KDesc) : Bool :=
  match payloadOf x.fmt x.srcLen, payloadOf x.fmt x.dstLen with
  | some a, some b =>
    match x.kind with
    | 1 => a == b
    | 2 => a % x.members == 0 && b == a / x.members
    | 3 => b == a * x.members
    | 4 => a == b
    | 5 => a * x.ptiles % x.members == 0 && a == b && ([x.gx, x.gy, x.gz].filter (fun g => decide (1 < g))).length ≤ 1
    | _ => false
  | _, _ => false

/-- Bytes of the shadow region: dst_len × ptiles loaves (R341; log entry 33). -/
def KDesc.shadowLen (x : KDesc) : Nat := x.dstLen * x.ptiles * 512

/-- Whether [pa, pa + n) lies in HBM fields bound to `p`, outside spillway pools (R330). -/
def State.shadowOk (s : State) (p pa n : Nat) : Bool :=
  (n == 0 || s.inRankRun p pa n) && (List.range (n / 2 ^ 28 + 2)).all (fun k =>
    let a := min (pa + k * 2 ^ 28) (pa + n - 1)
    match s.ofRank 1 p (a / 2 ^ 28) with
    | some f => n == 0 || !s.inSpillway f
    | none => n == 0)

/-- The form checks of R330, second. -/
def State.postForm (s : State) (p : Nat) (bs : List Byte) (x : KDesc) : Bool :=
  postField bs 3 1 == 0 && postField bs 4 2 == 0xFFFF && postField bs 0x1B 5 == 0 && (bs.drop 0x28).all (· == 0) &&
    1 ≤ x.kind && x.kind ≤ 5 && 1 ≤ x.readyCount && (if x.kind = 4 then decide (x.root < x.members) else x.root == 0) &&
    (List.range 3).all (fun d => (s.sliceDim p d).2 % [x.gx, x.gy, x.gz].getD d 1 == 0 && 1 ≤ [x.gx, x.gy, x.gz].getD d 1) &&
    sizeRule x && x.shadow % 512 == 0 && s.shadowOk p x.shadow x.shadowLen

/-- KND_POST: KND_DESC_POST.go through function `f`'s window (R330). A VF posts only to a slot of its own polder. -/
def effKndPost (f d : Nat) (s : State) : State :=
  let desc := s.getF (pgKnd d) 0x110 0 15 8
  match s.slotThrough f d (s.getF (pgKnd d) 0x110 0 5 0) with
  | none => s
  | some slot =>
    let bs := s.staged64 d
    let x := postDesc bs
    let old := s.kdesc d slot desc
    let fail (c : Nat) : State := (s.setF (pgKnd d) 0x164 0 31 16 c).err (pgKnd d) c
    match s.slotPol d slot with
    | none => fail 0x1241
    | some p =>
      let decl := match (s.pol p).image with
        | some im => im.kneads.find? (fun k => k.kslot == s.rankOf 3 p (d * 16 + slot) && k.desc == desc)
        | none => none
      match decl with
      | none => fail 0x1241
      | some k =>
        if !declMatch k x then fail 0x1241
        else if !s.postForm p bs x then fail 0x1240
        else if (match s.kinst d (slot * 256 + desc) with | some i => i.active | none => false) then fail 0x1242
        else ((s.setKdesc d slot desc { x with ready := old.ready, done := old.done }).setF (pgKnd d) 0x164 0 31 16 0).tryTrigger d (slot * 256 + desc)

/-- KND_POST. -/
def execKndPost (fn die : Nat) (s : State) : Out := if fn < 64 ∧ die < 4 then .next (effKndPost fn die s) else .fault .noSuchUnit

/-! Flags and arrivals. -/

/-- KFLAG_ACCEPT (R144, R331): the kneader adds the front KFLAG of tile `t` to its descriptor's ready count. -/
def effKflagAccept (t : Nat) (s : State) : State :=
  match mapGet (s.tile t).dq 5 [] with
  | [] => s
  | i :: _ =>
    match s.kOf t i.word.toNat with
    | none => s
    | some (d, slot, desc) =>
      let x := s.kdesc d slot desc
      ((s.setKdesc d slot desc { x with ready := min (x.ready + i.count) (2 ^ 32 - 1) }).leave t 5 { i with finished := true }).tryTrigger d (slot * 256 + desc)

/-- KFLAG_ACCEPT. -/
def execKflagAccept (t : Nat) (s : State) : Out := onTile t (fun _ => effKflagAccept t s)

/-- KND_DATA_FLIT (R338). -/
def execKndDataFlit (die : Nat) (s : State) : Out := onDie die (fun _ => s.takeFlit die)
/-- KND_READY (R337). -/
def execKndReady (die : Nat) (s : State) : Out := onDie die (fun _ => s.takeMsg die 1)
/-- KND_ARRIVE (R337). -/
def execKndArrive (die : Nat) (s : State) : Out := onDie die (fun _ => s.takeMsg die 2)
/-- KND_DONE (R337, R342). -/
def execKndDone (die : Nat) (s : State) : Out := onDie die (fun _ => s.takeMsg die 3)
/-- KND_ABORT_MSG (R348, R349). -/
def execKndAbortMsg (die : Nat) (s : State) : Out := onDie die (fun _ => s.takeMsg die 4)

/-! Shadow and commit (R341 to R343). -/

/-- The result as the destination ranges lay it out. -/
def resultBytes (x : KDesc) (v : List KLoaf) : List Byte :=
  ((pieces x.ptiles (max 1 x.pDst) v).flatMap (rangeLoaves x.fmt)).flatten

/-- KND_SHADOW_COMPLETE: a finished result is written to the shadow region and the DONE wave starts (R341, R342). -/
def effShadow (d slot : Nat) (s : State) : State :=
  match s.firstInst d slot (fun x i => i.state == 2 && i.half == 4 && !x.barrier), s.slotPol d slot with
  | some key, some p =>
    let x := s.kdesc d slot (key % 256)
    match s.kinst d key with
    | none => s
    | some i =>
      match s.polStore d p 1 x.shadow (resultBytes x i.buf) with
      | (some _, s1) => s1.kndAbort d key 0x124A
      | (none, s1) => (s1.onKinst d key (fun j => { j with state := 3, buf := [] })).startWave d key 2
  | _, _ => s

/-- KND_SHADOW_COMPLETE. -/
def execKndShadowComplete (die slot : Nat) (s : State) : Out := onDie die (fun _ => effShadow die slot s)

/-- The DMA writes destination loaves of a tile: discarded while it is CLEARING (R113), refused by the scoreboard (R343). -/
def State.dmaWrite (s : State) (d t loaf : Nat) (ls : List (List Byte)) : Option DmaErr × State :=
  (ls.mapIdx (fun k b => (loaf + k, b))).foldl (fun (acc : Option DmaErr × State) e =>
    match acc with
    | (some x, st) => (some x, st)
    | (none, st) =>
      if (st.tile t).task = .clearing then (none, st)
      else if (st.tile t).orderBad (e.1 * 512 : Nat) true then (some (t, 0x1245), st)
      else (none, (st.scrWrite t 2 (e.1 * 512) e.2).countEv (pgKnd d) 0x11 1)) (none, s)

/-- KND_COMMIT_COMPLETE: the shadow region is copied to the destination loaves and the completion count advances (R342). -/
def effCommit' (d slot : Nat) (s : State) : State :=
  match s.firstInst d slot (fun _ i => i.state == 4), s.slotPol d slot with
  | some key, some p =>
    let x := s.kdesc d slot (key % 256)
    match s.polLoad d p 1 x.shadow x.shadowLen with
    | (.error _, s1) =>
      let s2 := x.members'.foldl (fun st pt => match st.tileOf p pt with
        | some t => if x.dstLen = 0 then st else st.scrUndefine t x.dstLo (x.dstLo + x.dstLen - 1)
        | none => st) s1
      (s2.onKinst d key (fun i => { i with state := 3 })).kndAbort d key 0x124A
    | (.ok bs, s1) =>
      let ls := (pieces (x.dstLen * x.ptiles) 512 bs).map (padTo 512)
      let r := (x.members'.mapIdx (fun k pt => (k, pt))).foldl (fun (acc : Option DmaErr × State) e =>
        match acc with
        | (some er, st) => (some er, st)
        | (none, st) => match st.tileOf p e.2 with
          | some t => st.dmaWrite d t x.dstLo ((ls.drop (e.1 * x.dstLen)).take x.dstLen)
          | none => (none, st)) (none, s1)
      match r with
      | (some e, s2) => (s2.onKinst d key (fun i => { i with state := 3 })).dmaFail d key e
      | (none, s2) => s2.kndCommit d key
  | _, _ => s

/-- KND_COMMIT_COMPLETE. -/
def execKndCommitComplete (die slot : Nat) (s : State) : Out := onDie die (fun _ => effCommit' die slot s)

/-! Aborts, quiesce, deadlines. -/

/-- Aborts every instance of a polder on a die; one that is committing goes on, and only the polder stops (R349, Table 11-10). -/
def State.abortOn (s : State) (d p : Nat) : State :=
  let keys := (s.knd d).activeKeys none
  (keys.filter (fun k => s.slotPol d (k / 256) == some p)).foldl (fun st key =>
    match st.kinst d key with
    | some i =>
      if i.state = 4 then (st.fault
        { code := 0x1248, page := pgKnd d, cls := 4, action := 5, detail := kndDetail (key / 256) (key % 256) 0 i.step i.num 0x1248 }).polderStop p 0x1248 true
      else st.kndAbort d key 0x1248
    | none => st) s

/-- KND_ABORT (R349). -/
def execKndAbort (die pol : Nat) (s : State) : Out := onDie die (fun _ => s.abortOn die pol)

/-- Quiesce runs out (R351): uncommitted instances abort; quiesce_busy clears once none is committing. -/
def State.quiesceEnd (s : State) (d : Nat) : State :=
  match (s.knd d).quiesce with
  | some (p, 0) =>
    let mine (st : State) : List Nat := ((st.knd d).activeKeys none).filter (fun k => st.slotPol d (k / 256) == some p)
    let s1 := (mine s).foldl (fun st key => match st.kinst d key with
      | some i => if i.state = 4 then st else st.kndAbort d key 0x1248
      | none => st) s
    if mine s1 ≠ [] then s1
    else
      let s2 := s1.setKnd d { s1.knd d with quiesce := none }
      ((s2.knd d).descs.map (·.1)).foldl (fun st key => if st.slotPol d (key / 256) = some p then st.tryTrigger d key else st) s2
  | _ => s

/-- KND_QUIESCE (R351): ignored while one runs; with 0 frames its end comes at once. -/
def execKndQuiesce (die pol frames : Nat) (s : State) : Out := onDie die (fun _ =>
  if (s.knd die).quiesce.isSome then s
  else (s.setKnd die { s.knd die with quiesce := some (pol % 64, frames % 256) }).quiesceEnd die)

/-- QUIESCE_EXPIRY (R351). -/
def execQuiesceExpiry (die : Nat) (s : State) : Out := onDie die (fun _ => s.quiesceEnd die)

/-- A frame boundary at the kneaders: deadlines and quiesces count it, a stray may be recorded again (R334, R347, R351). -/
def State.kndFrame (s : State) : State :=
  { s with kneaders := s.kneaders.map (fun e => (e.1, { e.2 with
      strayPosted := false, quiesce := e.2.quiesce.map (fun q => (q.1, q.2 - 1)),
      insts := e.2.insts.map (fun k => (k.1, { k.2 with frames := k.2.frames + 1 })) })) }

/-- KND_DEADLINE (R347): an instance of the slot has met its deadline's frame boundary uncommitted. -/
def effDeadline (d slot : Nat) (s : State) : State :=
  let dl := s.getF (pgKnd d) 0x108 slot 15 0
  match s.firstInst d slot (fun _ i => i.active && i.state != 4 && i.doneAt.isNone && !i.late && decide (dl ≠ 0) && decide (dl ≤ i.frames)) with
  | none => s
  | some key =>
    match s.kinst d key with
    | none => s
    | some i =>
      if s.getF (pgKnd d) 0x108 slot 16 16 = 1 then s.kndAbort d key 0x1247
      else
        let x := s.kdesc d slot (key % 256)
        let ph := s.kphase ((s.slotPol d slot).getD 0) x i
        ((s.setKinst d key { i with late := true }).kndErr d slot (key % 256) i.num 0x1247).fault
          { code := 0x1247, page := pgKnd d, cls := 1, detail := kndDetail slot (key % 256) ph i.step i.num 0 }

/-- KND_DEADLINE. -/
def execKndDeadline (die slot : Nat) (s : State) : Out := onDie die (fun _ => effDeadline die slot s)

/-! Barriers. -/

/-- Die, slot and descriptor of polder `p`'s frame barrier `bar`. -/
def State.barHome (s : State) (p bar : Nat) : Option (Nat × Nat) :=
  match (s.pol p).image with
  | none => none
  | some im => match im.kneads.find? (fun k => k.kind == 7 && k.bar == bar) with
    | none => none
    | some k => (s.ofRank 3 p k.kslot).map (fun q => (q / 16, q % 16 * 256 + k.desc))

/-- FBAR_ARRIVAL (R344): a tile's arrival reaches the home kneader, which triggers the instance, or completes the local part. -/
def effFbarArrival (t : Nat) (s : State) : State :=
  let p := s.ownerOr t
  match (s.tile t).fbarAt with
  | none => s
  | some bar =>
    match s.barHome p bar with
    | none => s
    | some (d, key) =>
      let x := s.kdesc d (key / 256) (key % 256)
      let busy : Bool := match s.kinst d key with | some i => i.active | none => false
      if !busy && s.quiesced d p then s
      else
        let s1 := if busy then s else s.newInst d key
        match s1.kinst d key with
        | none => s1
        | some i =>
          if i.arrived.contains t ∨ i.doneAt.isSome then s1
          else
            let s2 := s1.setKinst d key { i with arrived := i.arrived ++ [t] }
            if x.members'.all (fun pt => match s2.tileOf p pt with | some u => (i.arrived ++ [t]).contains u | none => true) then
              (if s2.kdims p x = [] then s2.onKinst d key (fun j => { j with doneAt := some s2.beat })
              else (s2.onKinst d key (fun j => { j with arriveAt := s2.beat })).startWave d key 1)
            else s2

/-- FBAR_ARRIVAL. -/
def execFbarArrival (t : Nat) (s : State) : Out := onTile t (fun _ => effFbarArrival t s)

/-- BARRIER_COMPLETION (R345): at or after beat c + 4 the completion count advances. -/
def effBarrier (d slot : Nat) (s : State) : State :=
  match s.firstInst d slot (fun x i => x.kind == 6 && i.active && (match i.doneAt with | some c => decide (c + 4 ≤ s.beat) | none => false)) with
  | none => s
  | some key => s.kndCommit d key

/-- BARRIER_COMPLETION. -/
def execBarrierCompletion (die slot : Nat) (s : State) : Out := onDie die (fun _ => effBarrier die slot s)

end Sys2Proof.Machine
end

