-- ==== Sys2Proof/Machine/Links.lean ====
section
/-!
DEFINITION. The Ryulon ports' commands (10_ryulon_links.md R301 to R325; 17_module_hardware.md R479): flits received, training, failure and siblings, torus registers.
-/
namespace Sys2Proof.Machine

/-! Failure and siblings (R309, R310, R348). -/

/-- The instances whose flows a port of die `d` in dimension `dim` carries abort (R348). A barrier that is complete does not. -/
def State.losePeer (s : State) (d dim p : Nat) : State :=
  ((s.knd d).activeKeys none).foldl (fun st key =>
    match st.kinst d key with
    | some i =>
      if st.slotPol d (key / 256) = some p ∧ i.state ≠ 4 ∧ i.doneAt.isNone ∧ (st.kdims p (st.kdesc d (key / 256) (key % 256))).contains dim then
        st.kndAbort d key 0x1246
      else st
    | none => st) s

/-- The ports whose traffic goes through port `pt`. -/
def State.carriedBy (s : State) (pt : Nat) : List Nat :=
  (List.range 32).filter (fun r => s.getF (pgLnk r) 0x100 0 17 17 == 1 && s.getF (pgLnk r) 0x100 0 22 18 == pt)

/-- Sets or clears a port's moved and via fields. -/
def State.setVia (s : State) (r : Nat) (q : Option Nat) : State :=
  (s.setF (pgLnk r) 0x100 0 17 17 (b2n q.isSome)).setF (pgLnk r) 0x100 0 22 18 (q.getD 0)

/-- The first sibling that can take a port's traffic (R309). -/
def State.sibling (s : State) (pt p : Nat) (flits : List Flit) : Option Nat :=
  (siblings pt).find? (fun q => s.lnkState q == 3 && s.owner 2 q == some p && flits.all (fun f => bitOf (s.rtEntry (pt / 8) f.dst) (2 + q / 8)))

/-- A port leaves UP (R309, R310): its traffic, the replay buffer first, moves to a sibling, or is lost. -/
def State.leaveUp (s : State) (pt : Nat) : State :=
  let x := s.port pt
  if x.left then s
  else
    let s0 := s.setPort pt { x with replay := [], gate := [], msgs := [], left := true, badSeq := none, discarding := false }
    let riders := s0.carriedBy pt
    match s0.owner 2 pt with
    | none => riders.foldl (fun st r => st.setVia r none) s0
    | some p =>
      let sent := x.replay.map (fun f => ({ own := false, pol := p, flit := f } : GateFlit))
      match s0.sibling pt p ((sent ++ x.gate).map (·.flit)) with
      | some q =>
        let s1 := ((pt :: riders).foldl (fun st r => st.setVia r (some q)) s0).setF (pgLnk q) 0x100 0 16 16 1
        let s2 := (s1.setF (pgLnk pt) 0x100 0 16 16 0).setPort q { s1.port q with gate := sent ++ x.gate ++ (s1.port q).gate }
        let s3 := x.msgs.foldl (fun st m => st.putMsg q m.2) (s2.bump (pgLnk q) 0x130 0 sent.length)
        (s3.lnkPost pt 0x1316 1 0 0 0 p).pumpPort q
      | none =>
        let s1 := ((riders.foldl (fun st r => st.setVia r none) s0).setF (pgLnk pt) 0x100 0 16 16 0).lnkPost pt 0x1317 1 0 0 0 p
        ((pt :: riders).map (· / 8)).foldl (fun st d => st.losePeer d (portRole pt / 2) p) s1

/-- The identity that R308 asks of a port's peer, as LNK_PEER holds it. -/
def State.wantPeer (s : State) (pt : Nat) : Nat :=
  s.neighbour (portRole pt) + (pt / 8) * 2 ^ 14 + (portRole pt ^^^ 1) * 2 ^ 16 + 2 ^ 19 + portPair pt * 2 ^ 20

/-- A port becomes MISWIRED (R308). -/
def State.miswired (s : State) (pt : Nat) : State :=
  ((if s.lnkState pt = 3 then s.leaveUp pt else s).setLnk pt 5).lnkPost pt 0x1313 1 0 0 0 0xFF

/-! Acknowledgements, credits, replays (R301 to R304). -/

/-- Flits up to and with lseq `a` are acknowledged. -/
def Port.acked (x : Port) (a : Nat) : Port := { x with replay := x.replay.filter (fun f => 2048 ≤ (a + 4096 - f.lseq) % 4096) }

/-- `n` credits of one class and vc come back. -/
def Port.credit (x : Port) (i n : Nat) : Port :=
  { x with credits := x.credits.set i (x.credits.getD i 0 + n), credSeen := x.credSeen.set i ((x.credSeen.getD i 0 + n) % 65536) }

/-- A cumulative credit count of a control flit. -/
def Port.creditTo (x : Port) (i c : Nat) : Port :=
  let n := (c + 65536 - x.credSeen.getD i 0) % 65536
  if n < 32768 then x.credit i n else x

/-- Resends flits of the replay buffer in order (R303, R306). -/
def State.resend (s : State) (pt : Nat) (fs : List Flit) : State :=
  let s1 := { s with sentFlits := (fs.map (fun f => (pt, f))).reverse ++ s.sentFlits }
  (s1.bump (pgLnk pt) 0x130 0 fs.length).bump (pgLnk pt) 0x138 0 fs.length

/-- A rapid retrain begins: DATA is held, everything kept (R304, R306). -/
def State.startRetrain (s : State) (pt : Nat) : State := s.setLnk pt 4

/-! DATA flits (R300, R302 to R304, R314 to R317). -/

/-- The flit that a header and payload spell (Table 10-3). -/
def flitOf (h : Nat) (payload : List Byte) : Flit :=
  { res := bitsOf h 2 0 == 1, vc := bitsOf h 3 3, lseq := bitsOf h 15 4, dst := bitsOf h 29 16, dstDie := bitsOf h 31 30, src := bitsOf h 45 32,
    srcDie := bitsOf h 47 46, ftid := bitsOf h 63 48, mtag := bitsOf h 79 64, fseq := bitsOf h 95 80, epoch := bitsOf h 101 96, sgn := bitsOf h 104 102,
    kword := bitsOf h 127 105, payload := padTo 512 payload }

/-- Whether polder `p` holds a port or one of its siblings (R316). -/
def State.holdsPort (s : State) (p pt : Nat) : Bool := (pt :: siblings pt).any (fun q => s.owner 2 q == some p)

/-- Delivery at the destination die in flow order, exactly once (R314). -/
def State.deliver (s : State) (pt : Nat) (f : Flit) : State :=
  let tb := mapGet s.flows f.dstDie []
  let late (st : State) : State := st.sat (pgLnk pt) 0x14C 0 31 0 1
  match mapFind? tb f.flow with
  | none =>
    if 4096 ≤ tb.length then s.lnkPost pt 0x1315 1 0 0 f.lseq 0xFF
    else put s tb { epoch := f.epoch, expected := 0 }
  | some e =>
    let d := (f.epoch + 64 - e.epoch) % 64
    if 32 ≤ d then late s
    else put s tb (if d = 0 then e else { epoch := f.epoch, expected := 0 })
where
  /-- The flit meets its flow's entry: delivered where it is the expected one; a duplicate, or one after a lost flit, is dropped. -/
  put (s : State) (tb : SMap FlowEntry) (e : FlowEntry) : State :=
    if f.fseq = e.expected then
      let s1 := { s with flows := mapSet s.flows f.dstDie (mapSet tb f.flow { e with expected := (e.expected + 1) % 65536 }) }
      (s1.setKnd f.dstDie { s1.knd f.dstDie with inFlits := (s1.knd f.dstDie).inFlits ++ [f] }).bump (pgKnd f.dstDie) 0x190 0 1
    else { s with flows := mapSet s.flows f.dstDie (mapSet tb f.flow e) }

/-- A flit goes on to its next port (R314 to R316). -/
def State.transit (s : State) (pt p : Nat) (f : Flit) (role : Nat) (wrap : Bool) : State :=
  match s.egress (pt / 8) p role with
  | none => s.linkDike pt p
  | some q =>
    if !s.mayGo (pt / 8) f.dst (q / 8) then s.sat (pgLnk q) 0x148 0 31 0 1
    else s.gatePut q { own := false, pol := p, flit := { f with vc := if wrap then 1 else if portRole pt / 2 = role / 2 then f.vc else 0 } }

/-- An accepted flit passes the ingress dike and is delivered, forwarded or dropped (R314, R316, R317). -/
def State.ingress (s : State) (pt : Nat) (f : Flit) : State :=
  match (s.ftidPols f.ftid).find? (fun p => s.holdsPort p pt && s.inSlice p f.src) with
  | none => s.linkDike pt 0xFF
  | some p =>
    if s.inReset.contains p then s.sat (pgLnk pt) 0x14C 0 31 0 1
    else match s.nextHop f.dst f.sgn with
      | none => s.deliver pt f
      | some (role, wrap) => s.transit pt p f role wrap

/-- A piggyback field (Table 10-2). -/
def Port.piggy (x : Port) (w : Nat) : Port :=
  let y := if bitOf w 12 then x.acked (bitsOf w 11 0) else x
  if bitsOf w 15 13 < 4 then y.credit (bitsOf w 15 13) (bitsOf w 23 16) else y

/-- LNK_DATA_FLIT: a bad flit is discarded with a NAK and its second failure starts a retrain; a good one is taken in lseq order. -/
def effDataFlit (pt : Nat) (crcOk : Bool) (hdr : Nat) (payload : List Byte) (piggy : Nat) (s : State) : State :=
  let x := s.port pt
  let f := flitOf hdr payload
  if s.lnkState pt ≠ 3 ∨ (bitsOf hdr 2 0 ≠ 1 ∧ bitsOf hdr 2 0 ≠ 2) then s
  else if !crcOk then
    if x.badSeq = some f.lseq then (s.startRetrain pt).lasting (pgLnk pt)
    else if f.lseq = x.expSeq then s.setPort pt { x with badSeq := some f.lseq, discarding := true }
    else s
  else if f.lseq ≠ x.expSeq then s
  else
    let i := classVc f.res f.vc
    let y := { x.piggy piggy with expSeq := (x.expSeq + 1) % 4096, badSeq := none, discarding := false,
                                  returned := x.returned.set i ((x.returned.getD i 0 + 1) % 65536) }
    let s1 := (s.setPort pt y).bump (pgLnk pt) 0x140 0 1
    let s2 := if x.badSeq.isSome then s1.bump (pgLnk pt) 0x130 0 1 else s1
    (s2.ingress pt f).pumpPort pt

/-- LNK_DATA_FLIT. -/
def execLnkDataFlit (port : Nat) (crcOk : Bool) (hdr : Nat) (payload : List Byte) (piggy : Nat) (s : State) : Out :=
  onPort port (fun _ => effDataFlit port crcOk hdr payload piggy s)

/-! Control flits (R301, R308, R316, R322). -/

/-- Bytes [o, o + n) of a control flit as a number. -/
def ctl (bs : List Byte) (o n : Nat) : Nat := leNat ((bs.drop o).take n)

/-- The barrier message at byte `o` of a control flit with its bseq (Tables 10-4 and 11-4). -/
def ctlMsg (bs : List Byte) (o : Nat) : Nat × KMsg :=
  (ctl bs (o + 2) 2, { ftid := ctl bs o 2, type := ctl bs (o + 4) 1, kslot := ctl bs (o + 5) 1 % 64, desc := ctl bs (o + 6) 1, phase := ctl bs (o + 7) 1 % 4,
                       inst := ctl bs (o + 8) 4, origin := ctl bs (o + 0xC) 1 % 32, reason := ctl bs (o + 0xE) 2 })

/-- The kneader that takes a message from port `pt`: that of the port's die, or of the slot's die whose own port's traffic comes through `pt`. -/
def State.msgDie (s : State) (pt p kslot : Nat) : Nat :=
  match s.ofRank 3 p kslot with
  | some k => if k / 16 ≠ pt / 8 ∧ (s.carriedBy pt).any (fun r => r / 8 == k / 16) then k / 16 else pt / 8
  | none => pt / 8

/-- A barrier message is taken in bseq order, once, through the dike (R301, R316). -/
def State.takeBarrier (s : State) (pt : Nat) (e : Nat × KMsg) : State :=
  let x := s.port pt
  if e.1 ≠ x.expBseq then s
  else
    let s1 := s.setPort pt { x with expBseq := (x.expBseq + 1) % 65536 }
    match (s1.ftidPols e.2.ftid).find? (fun p => s1.holdsPort p pt) with
    | none => s1.linkDike pt 0xFF
    | some p =>
      let d := s1.msgDie pt p e.2.kslot
      s1.setKnd d { s1.knd d with inMsgs := (s1.knd d).inMsgs ++ [(pt, s1.beat, e.2)] }

/-- A new frame mark (R322): a mark equal to the last one is a repeat. The TCLK cycle of its arrival is a free value (log entry 2). -/
def State.frameMark (s : State) (pt fr bt : Nat) : State :=
  let pg := pgLnk pt
  if s.getF pg 0x158 0 55 0 = fr ∧ s.getF pg 0x160 0 55 0 = bt then s
  else
    let (c, s0) := drawFree s
    let s1 := (((s0.setReg pg 0x158 0 (BitVec.ofNat 64 fr)).setReg pg 0x160 0 (BitVec.ofNat 64 bt)).setReg pg 0x168 0
      (BitVec.ofNat 64 (s0.beat % 2 ^ 56 + c % 64 * 2 ^ 56))).countEv pg 0x14 1
    let diff := (fr - s1.frame) + (s1.frame - fr)
    let due := match (s1.port pt).skewFrame with | some f => decide (f + 1024 ≤ s1.frame) | none => true
    if s1.getF pgDev 0x218 0 7 0 < diff ∧ due = true then
      (s1.setPort pt { s1.port pt with skewFrame := some s1.frame }).lnkPost pt 0x1318 1 0 0 0 0xFF
    else s1

/-- What an UP port does with a good control flit. -/
def State.ctlUp (s : State) (pt : Nat) (bs : List Byte) : State :=
  let w := ctl bs 0x10 4
  let a := (s.port pt).acked (bitsOf w 11 0)
  let b := (List.range 4).foldl (fun y i => Port.creditTo y i (ctl bs (0x14 + 2 * i) 2)) a
  let m := bitsOf (ctl bs 0x38 4) 15 0
  let c := { b with msgs := b.msgs.filter (fun e => 32768 ≤ (m + 65536 - e.1) % 65536) }
  let s1 := s.setPort pt c
  let s2 := if bitOf w 12 then s1.resend pt (c.replay.filter (fun f => (f.lseq + 4096 - bitsOf w 24 13) % 4096 < 2048)) else s1
  let s3 := s2.frameMark pt (ctl bs 0x20 8 % 2 ^ 48) (ctl bs 0x28 8 % 2 ^ 56)
  let n := min 14 (bitsOf (ctl bs 0x38 4) 19 16)
  let s4 := (List.range n).foldl (fun st k => st.takeBarrier pt (ctlMsg bs (0x50 + 32 * k))) s3
  s4.pumpPort pt

/-- LNK_CTL_FLIT: the identity is kept and checked; an UP port takes the rest. A bad control flit is made good by the next one (R301). -/
def effCtl (pt : Nat) (crcOk : Bool) (bs : List Byte) (s : State) : State :=
  let st := s.lnkState pt
  if !crcOk ∨ (st ≠ 2 ∧ st ≠ 3) then s
  else
    let id := ctl bs 0x30 4 % 2 ^ 21
    let s1 := if bitOf id 19 then s.setReg (pgLnk pt) 0x110 0 (BitVec.ofNat 64 id) else s
    if st = 2 then
      if !s1.nodeValid ∨ !bitOf id 19 then s1
      else if id = s1.wantPeer pt then (s1.setLnk pt 3).setPort pt { s1.port pt with left := false }
      else s1.miswired pt
    else if id ≠ s1.wantPeer pt then s1.miswired pt
    else s1.ctlUp pt bs

/-- LNK_CTL_FLIT. -/
def execLnkCtlFlit (port : Nat) (crcOk : Bool) (body : List Byte) (s : State) : Out := onPort port (fun _ => effCtl port crcOk body s)

/-! Training (R305 to R307, R311, R479). -/

/-- Whether LNK_CTRL.enable is set. -/
def State.lnkOn (s : State) (pt : Nat) : Bool := s.getF (pgLnk pt) 0x104 0 0 0 == 1

/-- LNK_SIGNAL_DETECT (R305, R479). -/
def execLnkSignalDetect (port : Nat) (s : State) : Out := onPort port (fun _ =>
  if s.lnkState port ≠ 0 ∨ !s.lnkOn port ∨ !(s.port port).present then s
  else (s.setLnk port 1).setPort port { s.port port with tries := 1 })

/-- FULL_TRAINING_END (R305, R307): lock gives NODE_WAIT with the link layer at its start; a failure tries again or ends DOWN. -/
def effTrainEnd (pt : Nat) (ok : Bool) (s : State) : State :=
  let x := s.port pt
  if s.lnkState pt ≠ 1 then s
  else if ok then
    ((((s.setPort pt { present := x.present, left := true, gate := x.gate, dikePosted := x.dikePosted, skewFrame := x.skewFrame }).setLnk pt 2).setF
      (pgLnk pt) 0x100 0 3 3 0).setF (pgLnk pt) 0x100 0 4 4 0).setReg (pgLnk pt) 0x110 0 0
  else if 1 < x.tries then s.setPort pt { x with tries := x.tries - 1 }
  else ((s.setPort pt { x with tries := 0 }).setLnk pt 0).lnkPost pt 0x1310 2 0 0 0 0xFF

/-- FULL_TRAINING_END. -/
def execFullTrainingEnd (port : Nat) (ok : Bool) (s : State) : Out := onPort port (fun _ => effTrainEnd port ok s)

/-- Sets the width and half of a port. -/
def State.setWidth (s : State) (pt w half : Nat) : State := (s.setF (pgLnk pt) 0x100 0 3 3 w).setF (pgLnk pt) 0x100 0 4 4 half

/-- RETRAIN_END (R306, Table 10-8): success at ×8 or ×4 with a resend, or full trainings; both halves bad allow no ×4. `lo` and `hi` are the
uncorrectable codewords of the last frame on lanes 0–3 and 4–7. -/
def effRetrainEnd (pt : Nat) (ok : Bool) (lo hi : Nat) (s : State) : State :=
  let pg := pgLnk pt
  let thr := max 1 (s.getF pg 0x108 0 7 0)
  let badLo : Bool := decide (thr ≤ lo)
  let badHi : Bool := decide (thr ≤ hi)
  if s.lnkState pt ≠ 4 then s
  else
    let s0 := s.bump pg 0x128 0 (lo + hi)
    if !ok ∨ (badLo && badHi) = true then
      let s1 := s0.leaveUp pt
      (s1.setPort pt { s1.port pt with tries := max 1 (s1.getF pg 0x108 0 11 9) }).setLnk pt 1
    else
      let force := s0.getF pg 0x104 0 3 2
      let s1 :=
        if force = 1 then s0.setWidth pt 1 0 else if force = 2 then s0.setWidth pt 1 1
        else if s0.getF pg 0x108 0 8 8 = 1 ∧ badLo != badHi then
          (s0.setWidth pt 1 (b2n badLo)).lnkPost pt 0x1311 2 0 (b2n badLo) 0 0xFF
        else s0.setWidth pt 0 0
      let x := s1.port pt
      let s2 := (s1.setPort pt { x with left := false, badSeq := none, discarding := false }).setLnk pt 3
      ((s2.lnkPost pt 0x1319 2 0 0 0 0xFF).resend pt x.replay).pumpPort pt

/-- RETRAIN_END. -/
def execRetrainEnd (port : Nat) (ok : Bool) (lo hi : Nat) (s : State) : Out := onPort port (fun _ => effRetrainEnd port ok lo hi s)

/-- LNK_LOCK_LOSS (R309): an UP port, or one in a retrain, has left UP. -/
def execLnkLockLoss (port : Nat) (s : State) : Out := onPort port (fun _ =>
  if s.lnkState port = 3 ∨ s.lnkState port = 4 then (s.leaveUp port).setLnk port 4 else s)

/-- PORT_RESTORED (R311): the port is UP again and everything sent through its sibling is acknowledged. -/
def effRestoredPort (pt : Nat) (s : State) : State :=
  let w := s.reg (pgLnk pt) 0x100 0
  let q := fld w 22 18
  if fld w 2 0 ≠ 3 ∨ fld w 17 17 ≠ 1 ∨ (s.port q).replay ≠ [] ∨ (s.port q).gate ≠ [] then s
  else
    let s1 := s.setVia pt none
    let s2 := if s1.carriedBy q = [] then s1.setF (pgLnk q) 0x100 0 16 16 0 else s1
    s2.lnkPost pt 0x1312 1 0 0 0 ((s2.owner 2 pt).getD 0xFF)

/-- PORT_RESTORED. -/
def execPortRestored (port : Nat) (s : State) : Out := onPort port (fun _ => effRestoredPort port s)

/-- LNK_ENABLE: a write of LNK_CTRL.enable (Table 10-5). -/
def effLnkEnable (pt : Nat) (en : Bool) (s : State) : State :=
  let s1 := s.setF (pgLnk pt) 0x104 0 0 0 (b2n en)
  if en then (if s.lnkState pt = 6 then s1.setLnk pt 0 else s1)
  else ((if s.lnkState pt = 3 ∨ s.lnkState pt = 4 then s1.leaveUp pt else s1)).setLnk pt 6

/-- LNK_ENABLE. -/
def execLnkEnable (port : Nat) (en : Bool) (s : State) : Out := onPort port (fun _ => effLnkEnable port en s)

/-- LNK_RETRAIN: LNK_CTRL.retrain, ignored unless UP (R306). -/
def execLnkRetrain (port : Nat) (s : State) : Out := onPort port (fun _ => if s.lnkState port = 3 then s.startRetrain port else s)

/-- CBL_PRSNT_CHANGE (R479): an absent cable keeps a port DOWN and fails an UP one. -/
def effCable (pt : Nat) (present : Bool) (s : State) : State :=
  let s1 := s.setPort pt { s.port pt with present := present }
  let st := s.lnkState pt
  if present ∨ st = 0 ∨ st = 5 ∨ st = 6 then s1
  else if st = 3 ∨ st = 4 then ((s1.leaveUp pt).setLnk pt 0).lnkPost pt 0x1310 2 0 0 0 0xFF
  else s1.setLnk pt 0

/-- CBL_PRSNT_CHANGE. -/
def execCblPrsntChange (port : Nat) (present : Bool) (s : State) : Out := onPort port (fun _ => effCable port present s)

/-! Torus registers (R312, R313, R321). -/

/-- Whether any port is UP. -/
def State.anyUp (s : State) : Bool := (List.range 32).any (fun q => s.lnkState q == 3)

/-- DEV_NODE_WRITE (R312). -/
def execDevNodeWrite (val : Nat) (s : State) : Out :=
  .next (if s.anyUp then s.err pgDev 0x0131 else (s.setF pgDev 0x200 0 13 0 val).setF pgDev 0x200 0 16 16 (val / 65536))

/-- DEV_TORUS_WRITE (R312). -/
def execDevTorusWrite (val : Nat) (s : State) : Out := .next (if s.anyUp then s.err pgDev 0x0131 else s.setF pgDev 0x204 0 17 0 val)

/-- ROUTE_TABLE_WRITE: a write of DEV_RT_DATA sets all four copies and makes the entry trusted (R313, R410). -/
def execRouteTableWrite (node entry : Nat) (s : State) : Out :=
  .next { s with rt := (List.range 4).foldl (fun m d => mapSet m (d * 16384 + node % 16384) (entry % 64)) s.rt,
                 untrusted := s.untrusted.filter (· != 7 * 65536 + node % 16384) }

/-- FRAME_LOAD: a write of DEV_FRAME_LOAD with go (R321). -/
def execFrameLoad (val : Nat) (s : State) : Out :=
  .next (if !bitOf val 63 then s
    else if s.frameLoad.isSome ∨ s.armF.isSome then s.err pgDev 0x0130
    else { s with frameLoad := some (val % 2 ^ 48) })

/-! Beats and frames. -/

/-- A beat boundary at the egress gates (R318). -/
def State.lnkBeat (s : State) : State := (s.ports.map (·.1)).foldl (fun st pt => (st.newAllowance pt).pumpPort pt) s

/-- A frame boundary at the ports: a dike may post again (R316). -/
def State.lnkFrame (s : State) : State := { s with ports := s.ports.map (fun e => (e.1, { e.2 with dikePosted := false })) }

end Sys2Proof.Machine
end

