-- ==== Sys2Proof/Machine/Release.lean ====
section
/-!
DEFINITION. The release of a frame barrier (11_kneader.md R344) and what goes with it: proof ramps (R389), lag (R393), step fingerprints (R415) and
seals (R418).
-/
namespace Sys2Proof.Machine

/-- The release beat of a barrier complete at beat `c` (R344). -/
def releaseBeat (c : Nat) : Nat := ceilDiv (c + 4) 1024 * 1024

/-- Whether the gate of a gated run holds back a release of step_bar (R443). -/
def Polder.gateHolds (x : Polder) (bar : Nat) : Bool :=
  match x.image, x.gate with
  | some im, some g => im.stepBar == bar && g == x.step
  | _, _ => false

/-- The release beat of barrier `bar` of a polder, complete at beat `c`: for the step barrier of a gated run the first boundary that R344 allows
after the STEP that lets it go (R443). -/
def Polder.releaseAt (x : Polder) (bar c : Nat) : Nat :=
  if x.gate.isSome && (x.image.map (·.stepBar)) == some bar then releaseBeat (max c x.gateAt) else releaseBeat c

/-- An arrived tile passes its FBAR (R142, R143): the release beat becomes its beat reference. -/
def State.passFbar (s : State) (t r : Nat) : State :=
  let x := s.tile t
  if x.fbarAt.isNone then s
  else ((s.setTile t { x with fbarAt := none, beatRef := r }).passed t x.cmdIndex (x.cmdIndex + 1) 6 0x10).settleTask t

/-- The gauge's lag counters of polder `p` (R393). -/
def State.noteLag (s : State) (p : Nat) (i : KInst) (c : Nat) : State :=
  (((s.bump pgGauge 0x158 p 1).bump pgGauge 0x160 p (c - i.arriveAt)).bump pgGauge 0x168 p
    (i.lagR.foldl (fun n r => n + (i.arriveAt - r)) 0)).bump pgGauge 0x170 p i.lagR.length

/-- The polder's loaded tiles as (ptile, tile), in ptile order. -/
def State.loadedTiles (s : State) (p : Nat) : List (Nat × Nat) :=
  ((s.tilesOf p).filter (fun t => decide ((s.tile t).task ≠ .idle) && decide ((s.tile t).task ≠ .clearing))).map (fun t => (s.ptileOf p t, t))

/-- The step fingerprints and the step counter at a release of step_bar (R415), after the seals of R418. -/
def State.stepEnd (s : State) (p : Nat) : State :=
  let step := (s.pol p).step
  let s1 := (s.snapDies p).foldl (fun st d => st.sealDie p d step) s
  let ts := s1.loadedTiles p
  let s2 := ts.foldl (fun st e => st.onT e.2 (fun x => { x with fpStep := crc32c 0 (x.stepFps.flatMap (natLE 4)), stepFps := [] })) s1
  let fp := crc32c 0 (ts.flatMap (fun e => natLE 2 e.1 ++ natLE 4 (s2.tile e.2).fpStep))
  let s3 := s2.setPol p { s2.pol p with step := (step + 1) % 2 ^ 32, stepFp := fp, stepFpStep := step }
  let body := natLE 2 4 ++ natLE 2 p ++ natLE 4 step ++ natLE 4 fp ++ natLE 4 ts.length ++ natLE 8 (s3.beat % 2 ^ 56)
  s3.post (some p) { recType := 4, length := 24, body := body }

/-- FRAME_BARRIER_RELEASE (R344, R443): the first complete frame barrier of a slot releases, from its release beat on. -/
def effRelease (d slot : Nat) (s : State) : State :=
  match s.firstInst d slot (fun x i => x.kind == 7 && i.active && (match i.doneAt with | some c => decide (releaseBeat c ≤ s.beat) | none => false)),
        s.slotPol d slot with
  | some key, some p =>
    match s.kinst d key, (s.pol p).image.bind (fun im => im.kneads.find? (fun k => s.barHome p k.bar == some (d, key) && k.kind == 7)) with
    | some i, some k =>
      let c := i.doneAt.getD 0
      let r := (s.pol p).releaseAt k.bar c
      if (s.pol p).gateHolds k.bar ∨ s.beat < r then s
      else
        let isStep : Bool := (((s.pol p).image).map (·.stepBar)) == some k.bar
        let s1 := i.arrived.foldl (fun st t => st.passFbar t r) s
        let s2 := s1.setPol p { s1.pol p with barRefs := mapSet (s1.pol p).barRefs k.bar r }
        let s3 := if 1 < (s.kdesc d slot (key % 256)).members then s2.noteLag p i c else s2
        let s4 := ((s3.kndCommit d key).startRamp p i.arrived r).traceRec d 8 (pgKnd d) 0xFFFF (natLE 1 p ++ [0] ++ natLE 2 k.bar ++ natLE 4 i.num)
        let s5 := if isStep then s4.stepEnd p else s4
        (s5.bound 2 p).foldl (fun st pt => (st.newAllowance pt).pumpPort pt) s5
    | _, _ => s
  | _, _ => s

/-- FRAME_BARRIER_RELEASE. -/
def execFrameBarrierRelease (die slot : Nat) (s : State) : Out := onDie die (fun _ => effRelease die slot s)

end Sys2Proof.Machine
end

