-- ==== Sys2Proof/Machine/Debug.lean ====
section
/-!
DEFINITION. Holding and stepping, the trace ring's readers, the debug port and JTAG (16_debug_and_observation.md R462 to R465, R470 to R474).
-/
namespace Sys2Proof.Machine

/-! Holding and stepping (R462, R463). -/

/-- Hold is set on a tile in handshake mode; a tile in static mode discards it and records 0x2050. -/
def State.holdTile (s : State) (t : Nat) : State :=
  if s.handshake t then s.setF (pgTile t) 0xE00 0 0 0 1 else s.err (pgTile t) 0x2050

/-- Hold is cleared: normal issue resumes. -/
def State.unholdTile (s : State) (t : Nat) : State := s.setF (pgTile t) 0xE00 0 0 0 0

/-- Whether issue of a tile is held now (TILE_DBG_STATUS.held). -/
def State.held (s : State) (t : Nat) : Bool := s.getF (pgTile t) 0xE00 0 0 0 == 1 && s.handshake t && (s.tile t).task == .running

/-- A step releases one command of a held tile; ignored where it is not held or a step is in progress. -/
def State.stepTile (s : State) (t : Nat) : State :=
  if !s.handshake t then s.err (pgTile t) 0x2050
  else if s.held t ∧ !(s.tile t).dbgStep then s.onT t (fun x => { x with dbgStep := true })
  else s

/-- DBG_HOLD. -/
def execDbgHold (t : Nat) (s : State) : Out := onTile t (fun _ => s.holdTile t)

/-- DBG_UNHOLD. -/
def execDbgUnhold (t : Nat) (s : State) : Out := onTile t (fun _ => s.unholdTile t)

/-- DBG_STEP. -/
def execDbgStep (t : Nat) (s : State) : Out := onTile t (fun _ => s.stepTile t)

/-- A write of TRACE_HOLD (R465): die 0's alone; it takes effect 4 beats later. -/
def State.askHold (s : State) (d p : Nat) (hold : Bool) : State :=
  if d = 0 then { s with holds := s.holds ++ [(p % 64, hold, s.beat + 4)] } else s

/-- TRACE_POLDER_HOLD. -/
def execTracePolderHold (die pol : Nat) (s : State) : Out := onDie die (fun _ => s.askHold die pol true)

/-- TRACE_POLDER_RELEASE. -/
def execTracePolderRelease (die pol : Nat) (s : State) : Out := onDie die (fun _ => s.askHold die pol false)

/-- POLDER_HOLD_APPLY (R465): the holds and releases that are due reach every tile of their polders, in the order written. -/
def effHoldApply (s : State) : State :=
  let due := s.holds.filter (fun h => decide (h.2.2 ≤ s.beat))
  let s1 : State := { s with holds := s.holds.filter (fun h => decide (s.beat < h.2.2)) }
  due.foldl (fun st h => (st.tilesOf h.1).foldl (fun u t => if h.2.1 then u.holdTile t else u.unholdTile t) st) s1

/-- POLDER_HOLD_APPLY. -/
def execPolderHoldApply (s : State) : Out := .next (effHoldApply s)

/-! The trace ring's readers (R471). -/

/-- Whether the debug port is the ring's only reader. -/
def State.tracePort (s : State) (d : Nat) : Bool := s.getF (pgTrace d) 0x100 0 2 2 == 1

/-- The record at TAIL as RD_DATA shows it: zeros where the ring is empty or the port reads it. -/
def State.traceTail (s : State) (d : Nat) : List Byte :=
  let g := s.ring d
  if g.fill = 0 ∨ s.tracePort d = true then zeros 32 else padTo 32 (mapGet g.recs g.tail [])

/-- TAIL advances by one. -/
def TraceRing.advance (g : TraceRing) : TraceRing :=
  if g.fill = 0 then g else { g with recs := mapDrop g.recs (· == g.tail), tail := (g.tail + 1) % 524288, fill := g.fill - 1 }

/-- A ring that has room again writes records once more (R470). -/
def State.traceRoom (s : State) (d : Nat) : State :=
  if (s.ring d).fill < 524288 then s.setF (pgTrace d) 0x110 0 20 20 0 else s

/-- TRACE_READ: a read of RD_DATA7 takes the record at TAIL. -/
def effTraceRead (d : Nat) (s : State) : State :=
  let s1 : State := { s with readData := leNat ((s.traceTail d).drop 28) }
  if s.tracePort d then s1 else (s1.setRing d (s1.ring d).advance).traceRoom d

/-- TRACE_READ. -/
def execTraceRead (die : Nat) (s : State) : Out := onDie die (fun _ => effTraceRead die s)

/-- A TRACE code: in PG_ERR and posted (R476). -/
def State.tracePost (s : State) (d code : Nat) : State :=
  s.fault { code := code, page := pgTrace d, detail := detOther 0xFF [] }

/-- TRACE_DUMP (R471): a dump starts; ignored while one runs, discarded with 0x1702 while the port reads the ring. -/
def effDump (d : Nat) (s : State) : State :=
  if (s.ring d).dumpTo.isSome then s
  else if s.tracePort d then s.tracePost d 0x1702
  else s.setRing d { s.ring d with dumpTo := some (s.ring d).seq }

/-- TRACE_DUMP. -/
def execTraceDump (die : Nat) (s : State) : Out := onDie die (fun _ => effDump die s)

/-- Sends `n` records through the PF, oldest first, TAIL advancing with them. -/
def State.dumpRecs : Nat → Nat → State → State
  | 0, _, s => s
  | n + 1, d, s =>
    let g := s.ring d
    State.dumpRecs n d ((s.hostWrite 0 ((s.reg (pgTrace d) 0x160 0).toNat + 32 * g.tail) (padTo 32 (mapGet g.recs g.tail []))).setRing d g.advance)

/-- TRACE_DUMP_DONE: the records from TAIL to HEAD as they stood at the start have been written, or a write failed. Records that the ring has
overwritten since are gone. -/
def effDumpDone (d : Nat) (fail : Bool) (s : State) : State :=
  let g := s.ring d
  match g.dumpTo with
  | none => s
  | some upTo =>
    let s1 := s.setRing d { g with dumpTo := none }
    if fail || !s.fnLive 0 then s1.tracePost d 0x1702
    else (State.dumpRecs (upTo - (g.seq - g.fill)) d s1).traceRoom d

/-- TRACE_DUMP_DONE. -/
def execTraceDumpDone (die : Nat) (fail : Bool) (s : State) : Out := onDie die (fun _ => effDumpDone die fail s)

/-- TRACE_ANCHOR_CAPTURE (R474): die 0's alone. -/
def effAnchor (d : Nat) (s : State) : State :=
  if d ≠ 0 then s
  else (s.setReg (pgTrace 0) 0x198 0 (BitVec.ofNat 64 (s.frame % 2 ^ 48))).setReg (pgTrace 0) 0x1A0 0 (BitVec.ofNat 64 (s.frameAt % 2 ^ 56))

/-- TRACE_ANCHOR_CAPTURE. -/
def execTraceAnchorCapture (die : Nat) (s : State) : Out := onDie die (fun _ => effAnchor die s)

/-! The debug port (R472). -/

/-- TRACE_PORT_STATUS.state of die 0: 0 DOWN, 1 LOCKING, 2 UP. -/
def State.dbgPort (s : State) : Nat := s.getF (pgTrace 0) 0x1A8 0 1 0

/-- DEBUG_PORT_LOCK: the port comes UP once it locks. -/
def execDebugPortLock (s : State) : Out := .next (s.setF (pgTrace 0) 0x1A8 0 1 0 2)

/-- DEBUG_PORT_DOWN: an UP port that has lost lock for 1 ms goes DOWN. -/
def execDebugPortDown (s : State) : Out := .next (if s.dbgPort = 2 then (s.setF (pgTrace 0) 0x1A8 0 1 0 0).tracePost 0 0x1703 else s)

/-- A frame of the port: sequence, die, records, drops since the last frame of that die. -/
def debugFrame (seq die drops : Nat) (recs : List (List Byte)) : List Byte :=
  let body := padTo 0xFC (natLE 2 seq ++ natLE 1 die ++ natLE 1 recs.length ++ natLE 4 drops ++ zeros 8 ++ padTo 224 (recs.flatMap (padTo 32)))
  body ++ natLE 4 (crc32c 0 body)

/-- Takes up to `n` records from a ring. -/
def takeRecs : Nat → TraceRing → List (List Byte) × TraceRing
  | 0, g => ([], g)
  | n + 1, g =>
    if g.fill = 0 then ([], g)
    else
      let (rs, g') := takeRecs n g.advance
      (padTo 32 (mapGet g.recs g.tail []) :: rs, g')

/-- DEBUG_PORT_FRAME: the next die in turn whose ring the port reads and that holds a record; a frame with count 0 where none does. -/
def effDebugFrame (s : State) : State :=
  if s.dbgPort ≠ 2 then s
  else
    let m := s.module
    let ready (d : Nat) : Bool := s.tracePort d && decide (0 < (s.ring d).fill)
    let d := (((List.range 4).map (fun k => (m.dbgDie + 1 + k) % 4)).find? ready).getD ((m.dbgDie + 1) % 4)
    let (rs, g) := if ready d then takeRecs 7 (s.ring d) else ([], s.ring d)
    let total := (s.reg (pgTrace d) 0x120 0).toNat
    let drops := total - mapGet m.dbgDrops d 0
    ((s.setRing d g).traceRoom d).onModule (fun x => { x with
      dbgOut := debugFrame m.dbgSeq d drops rs :: x.dbgOut, dbgSeq := (m.dbgSeq + 1) % 65536, dbgDie := d, dbgDrops := mapSet m.dbgDrops d total })

/-- DEBUG_PORT_FRAME. -/
def execDebugPortFrame (s : State) : Out := .next (effDebugFrame s)

/-! JTAG (R473). -/

/-- What JTAG shifts out. -/
def State.jtag (s : State) (v : Nat) : State := s.onModule (fun m => { m with jtagOut := v })

/-- JTAG_BYPASS: the bypass register holds one bit, 0 (IEEE 1149.1). -/
def execJtagBypass (s : State) : Out := .next (s.jtag 0)

/-- JTAG_IDCODE. -/
def execJtagIdcode (s : State) : Out := .next (s.jtag (Config.jtagIdcode % 2 ^ 32))

/-- JTAG_SAMPLE_PRELOAD: acts while MODULE_EN is low, else as BYPASS. It captures the pins, whose values are free, and preloads `pins`. -/
def effSample (pins : Nat) (s : State) : State :=
  if s.module.moduleEn then s.jtag 0
  else
    let (v, s1) := drawFree s
    (s1.jtag v).onModule (fun m => { m with bscan := pins })

/-- JTAG_SAMPLE_PRELOAD. -/
def execJtagSamplePreload (pins : Nat) (s : State) : Out := .next (effSample pins s)

/-- JTAG_EXTEST: acts while MODULE_EN is low, else as BYPASS. The preloaded values drive the pins; the register captures the pins and takes `pins`. -/
def effExtest (pins : Nat) (s : State) : State :=
  if s.module.moduleEn then s.jtag 0
  else
    let (v, s1) := drawFree s
    (s1.jtag v).onModule (fun m => { m with driven := some m.bscan, bscan := pins })

/-- JTAG_EXTEST. -/
def execJtagExtest (pins : Nat) (s : State) : Out := .next (effExtest pins s)

end Sys2Proof.Machine
end

