-- ==== Sys2Proof/Machine/Recovery.lean ====
section
/-!
DEFINITION. The commands of DEV_RESET_CTRL and DEV_UNIT_CTRL, the vote on replicated tables and the Steward's retirement map
(14_reliability_and_recovery.md R405 to R413).
-/
namespace Sys2Proof.Machine

/-! Reset requests (R411, R413). -/

/-- The DEV block refuses a request (R407, R413). -/
def State.refuseReq (s : State) : State := s.fault { code := 0x0147, page := pgDev, detail := detOther 0xFF [] }

/-- A reset request of domain `dom`: refused with 0x0147 while busy, while an activation acts, or for a target that does not exist. -/
def State.resetReq (s : State) (dom target : Nat) (ok : Bool) (eff : State → State) : State :=
  let w := s.setF pgDev 0x31C 0 3 1 dom
  if s.getF pgDev 0x31C 0 0 0 = 1 ∨ s.armState = 3 ∨ !ok then (w.setF pgDev 0x31C 0 31 16 0x0147).refuseReq
  else { eff ((w.setF pgDev 0x31C 0 31 16 0).setF pgDev 0x31C 0 0 0 1) with resetTarget := target }

/-- The physical tile of a TILE page that exists and is awake. -/
def State.tileOfPage (s : State) (pg : Nat) : Option Nat :=
  match pageBlock pg with
  | some (.tile, t) => if s.part pg = 1 then none else some t
  | _ => none

/-- TILE_RESET: the tile's polder stops if the tile has a RUNNING task; the tile is cleared. -/
def effTileReset (pg : Nat) (s : State) : State :=
  s.resetReq 1 pg (s.tileOfPage pg).isSome (fun st =>
    match st.tileOfPage pg, pageBlock pg with
    | some t, _ =>
      let s1 := if (st.tile t).task = .running then (match st.tileOwner t with | some p => st.polderStop p 0x0141 true | none => st) else st
      s1.startClear t
    | none, _ => st)

/-- TILE_RESET. -/
def execTileReset (target : Nat) (s : State) : Out := .next (effTileReset target s)

/-- POLDER_RESET. -/
def effPolderReset (p : Nat) (s : State) : State := s.resetReq 2 p (decide (p < 64)) (fun st => st.resetPolder p)

/-- POLDER_RESET. -/
def execPolderReset (target : Nat) (s : State) : Out := .next (effPolderReset target s)

/-- DIE_CORE_RESET. -/
def effDieReset (d : Nat) (s : State) : State := s.resetReq 3 d (decide (d < 4)) (fun st => st.resetDie d)

/-- DIE_CORE_RESET. -/
def execDieCoreReset (target : Nat) (s : State) : Out := .next (effDieReset target s)

/-- DEVICE_CORE_RESET; `ppr` holds the outcomes of post-package repair. -/
def effDeviceReset (ppr : List Nat) (s : State) : State := s.resetReq 4 0 true (fun st => st.resetDevice ppr)

/-- DEVICE_CORE_RESET. -/
def execDeviceCoreReset (ppr : List Nat) (s : State) : Out := .next (effDeviceReset ppr s)

/-- COLD_RESET: everything resets, and the boot starts again at DIE_FW where the module is powered (R456). -/
def effColdReset (ppr : List Nat) (s : State) : State :=
  if s.getF pgDev 0x31C 0 0 0 = 1 ∨ s.armState = 3 then s.resetReq 5 0 false id
  else (s.cold.repairRows ppr).setF pgDev 0x100 0 2 0 (if s.module.pwrGood then 1 else 0)

/-- COLD_RESET. -/
def execColdReset (ppr : List Nat) (s : State) : Out := .next (effColdReset ppr s)

/-- Whether tiles that the reset in progress covers still clear. -/
def State.resetClears (s : State) : Bool :=
  let dom := s.getF pgDev 0x31C 0 3 1
  s.tiles.any (fun e => e.2.task == .clearing &&
    (dom == 4 || (dom == 3 && tDie e.1 == s.resetTarget) || (dom == 1 && pgTile e.1 == s.resetTarget) ||
      (match s.tileOwner e.1 with | some p => s.inReset.contains p | none => false)))

/-- RESET_DONE (R413, R445): the domain completes; a RESET request of a polder it covers completes with it. -/
def effResetDone (s : State) : State :=
  if s.resetClears then s
  else if s.getF pgDev 0x31C 0 0 0 = 0 then { s with inReset := [] }
  else
    let dom := s.getF pgDev 0x31C 0 3 1
    let ps := s.inReset
    let pol := if dom = 2 then some s.resetTarget else none
    let s1 := (({ s with inReset := [] } : State).setF pgDev 0x31C 0 0 0 0).fault
      { code := 0x0141, page := pgDev, detail := detOther (pol.getD 0xFF) [dom, s.resetTarget], pol := pol }
    ps.foldl (fun st p => if st.getF (pgIntake p) 0x104 0 15 8 = 6 then st.reqDone p 0 else st) s1

/-- RESET_DONE. -/
def execResetDone (s : State) : Out := .next (effResetDone s)

/-! Unit parts (R406, R407). -/

/-- UNIT_FENCE. -/
def execUnitFence (page : Nat) (s : State) : Out := onPage page (fun _ => s.fenceUnit page)

/-- UNIT_UNFENCE. -/
def execUnitUnfence (page : Nat) (s : State) : Out := onPage page (fun _ => if s.part page = 2 then s.wakeUnit page else s.refuseReq)

/-- UNIT_REPAIR. -/
def execUnitRepair (page : Nat) (s : State) : Out := onPage page (fun _ => if s.part page = 2 then s.setF page 0x24 0 1 0 3 else s.refuseReq)

/-- REPAIR_DONE: ACTIVE on a pass, a tile cleared; FENCED on a failure, a tile's column pending retirement. -/
def effRepairDone (pg : Nat) (pass : Bool) (s : State) : State :=
  if s.part pg ≠ 3 then s
  else
    let s1 := s.setF pgDev 0x348 pg 9 8 (if pass then 1 else 2)
    if pass then
      let s2 := match pageBlock pg with | some (.tile, t) => s1.startClear t | _ => s1
      (s2.wakeUnit pg).fault { code := 0x0145, page := pgDev, detail := detOther 0xFF [pg] }
    else
      let s2 := (s1.setF pg 0x24 0 1 0 2).fault { code := 0x0146, page := pgDev, cls := 2, action := 3, detail := detOther 0xFF [pg] }
      match pageBlock pg with | some (.tile, t) => s2.colPending t false | _ => s2

/-- REPAIR_DONE. -/
def execRepairDone (page : Nat) (pass : Bool) (s : State) : Out := onPage page (fun _ => effRepairDone page pass s)

/-! The vote (R408 to R410). -/

/-- Entries of each replicated table. -/
def voteSize (tb : Nat) : Nat := [144, 1728, 32, 64, 256, 64, 64, 16384].getD tb 0

/-- The value that at least three copies that pass hold. -/
def voteWinner (cs : List Nat) (ok : List Nat) : Option Nat :=
  ((List.range 4).find? (fun i => 3 ≤ ((List.range 4).filter (fun j => ok.contains i && ok.contains j && cs.getD j 0 == cs.getD i 0)).length)).map
    (fun i => cs.getD i 0)

/-- The detail of 0x0142 and 0x0143 (Table 14-3). -/
def voteDetail (tb i : Nat) (cs ok : List Nat) : List Byte :=
  natLE 1 tb ++ natLE 1 0 ++ natLE 2 i ++ ((List.range 4).flatMap (fun d => natLE 8 (cs.getD d 0))) ++
    natLE 1 ((List.range 4).foldl (fun m d => if ok.contains d then m + 2 ^ d else m) 0)

/-- Every copy of an entry takes the winning value. A polder entry's layout is not given; its value stands. -/
def State.voteWrite (s : State) (tb i v : Nat) : State :=
  if tb < 5 then
    s.setAct pgPld 0x104 (tb * 4096 + i) (setFld (s.regAct pgPld 0x104 (tb * 4096 + i)) 6 0 v)
  else if tb = 6 then s.setAct pgPld 0x148 i (BitVec.ofNat 64 v)
  else if tb = 7 then { s with rt := (List.range 4).foldl (fun m d => mapSet m (d * 16384 + i) (v % 64)) s.rt }
  else s

/-- What an untrusted entry does beside what every lookup of it does (R410). -/
def State.distrust (s : State) (tb i : Nat) (cs : List Nat) : State :=
  let stop (st : State) (p : Nat) : State := st.polderStop p 0x0143 true
  let named := ((cs.filter (fun c => bitOf c 6)).map (fun c => c % 64)).eraseDups
  let s0 := if tb < 5 then named.foldl stop s else s
  let s1 : State := { s0 with untrusted := if s0.untrusted.contains (tb * 65536 + i) then s0.untrusted else s0.untrusted ++ [tb * 65536 + i] }
  match tb with
  | 0 =>
    (List.range 32).foldl (fun st y => match st.physTile (i / 36) y (i % 36) with
      | some t => st.fenceUnit (pgTile t)
      | none => st) s1
  | 2 => s1.fenceUnit (pgLnk i)
  | 5 => stop { s1 with badFtids := mapSet s1.badFtids i ((cs.map (· % 65536)).eraseDups) } i
  | _ => s1

/-- VOTE_SWEEP: the vote on one entry; `ok` lists the dies whose copy passes ECC. -/
def effVote (tb i : Nat) (cs ok : List Nat) (s : State) : State :=
  if voteSize tb ≤ i ∨ cs.length ≠ 4 then s
  else
    let info (code cls act : Nat) : FaultInfo := { code := code, page := pgDev, cls := cls, action := act, detail := voteDetail tb i cs ok }
    match voteWinner cs ok with
    | none => (s.fault (info 0x0143 2 0)).distrust tb i cs
    | some v =>
      (List.range 4).foldl (fun st d =>
        if !ok.contains d then st.bump pgDev 0x358 0 1
        else if cs.getD d 0 ≠ v then (st.fault (info 0x0142 1 0)).sat pgDev 0x354 0 31 16 1
        else st) (s.voteWrite tb i v)

/-- VOTE_SWEEP. -/
def execVoteSweep (table index : Nat) (copies ok : List Nat) (s : State) : Out := .next (effVote table index copies ok s)

/-- RETIREMENT_MAP_WRITE (R405). -/
def execRetirementMapWrite (die : Nat) (s : State) : Out := onDie die (fun _ =>
  { s with module := { s.module with retireMap := mapSet s.module.retireMap die (s.retired die) } })

end Sys2Proof.Machine
end

