-- ==== Sys2Proof/Machine/HostReq.lean ====
section
/-!
DEFINITION. INTAKE requests, host windows and the PCIe functions (15_host_interface.md R428 to R430, R439 to R450; 06_images_and_verifier.md
R200, R201, R212; 14_reliability_and_recovery.md R420).
-/
namespace Sys2Proof.Machine

/-! Enable, disable, doorbell (R439, R440, R448). -/

/-- INTAKE_ENABLE: a write of 1 zeroes the indices; discarded before READY (Table 15-12). A halted INTAKE stays halted until enable has been 0. -/
def effEnable (p : Nat) (s : State) : State :=
  if s.bootState ≠ 4 then s
  else
    let pg := pgIntake p
    let s1 := [0x114, 0x118, 0x11C, 0x138].foldl (fun st o => st.setF pg o 0 31 0 0) (s.setF pg 0x100 0 0 0 1)
    if s.inState p = 0 then (s1.setIn p (if s1.fnLive p then 1 else 3)).setF pg 0x104 0 31 16 0
    else if s.inState p = 5 then s1.setIn p (if s1.fnLive p then 2 else 3)
    else s1

/-- INTAKE_ENABLE. -/
def execIntakeEnable (p : Nat) (s : State) : Out := onPol p (fun _ => effEnable p s)

/-- INTAKE_DISABLE: DISABLING while a request is in progress. -/
def effDisable (p : Nat) (s : State) : State :=
  let s1 := s.setF (pgIntake p) 0x100 0 0 0 0
  if s.inState p ≠ 4 ∧ (s.intake p).entry.isSome then s1.setIn p 5 else s1.setIn p 0

/-- INTAKE_DISABLE. -/
def execIntakeDisable (p : Nat) (s : State) : Out := onPol p (fun _ => effDisable p s)

/-- RQ_DOORBELL: a write of INTAKE_RQ_TAIL. -/
def effDoorbell (p tail : Nat) (s : State) : State := (s.setF (pgIntake p) 0x114 0 31 0 tail).fetchReqs p

/-- RQ_DOORBELL. -/
def execRqDoorbell (p tail : Nat) (s : State) : Out := onPol p (fun _ => effDoorbell p tail s)

/-! Requests (Table 15-7). -/

/-- NOP. -/
def execNopReq (p : Nat) (entry : List Byte) (s : State) : Out := onPol p (fun _ => s.request p entry (· == 0) (fun st => st.reqDone p 0))

/-- BAD_REQUEST: an opcode that Table 15-7 does not list. -/
def execBadRequest (p : Nat) (entry : List Byte) (s : State) : Out :=
  onPol p (fun _ => s.request p entry (fun o => decide (6 < o)) (fun st => st.reqDone p 0x0663))

/-- LOAD, phase 1 (R201): rejected with 0x105F, or accepted to wait for its dies' loader cores. -/
def effLoad (p : Nat) (entry : List Byte) (s : State) : State :=
  s.request p entry (· == 1) (fun st =>
    if (st.tilesOf p).any (fun t => (st.tile t).task == .running) ∨ (st.pol p).loading.isSome ∨ st.loadWait.contains p ∨ st.armChanges p then
      st.reportLoad p (st.leadDie p) (reqField entry 4 4) { result := 0x105F }
    else ({ st with loadWait := st.loadWait ++ [p] } : State).nextLoads)

/-- LOAD. -/
def execLoad (p : Nat) (entry : List Byte) (s : State) : Out := onPol p (fun _ => effLoad p entry s)

/-- LOAD_ABORT: DIE_LDR_ABORT.go (R211, R212). A load that waits ends at once, one that runs at its next check. -/
def effLoadAbort (d val : Nat) (s : State) : State :=
  let p := bitsOf val 5 0
  if !bitOf val 31 then s
  else match (s.pol p).loading with
    | some r => if r.lead = d then s.setPol p { s.pol p with loading := some { r with abort := true } } else s
    | none => if s.loadWait.contains p ∧ s.leadDie p = d then s.abandonLoad p else s

/-- LOAD_ABORT. -/
def execLoadAbort (die val : Nat) (s : State) : Out := onDie die (fun _ => effLoadAbort die val s)

/-- The tiles with a TILE_DIR entry. -/
def State.dirTiles (s : State) (p : Nat) (im : Image) : List Nat := im.tiles.filterMap (fun e => s.tileOf p e.ptile)

/-- Whether every tile with a TILE_DIR entry is LOADED and no load is in progress (R442). -/
def State.runnable (s : State) (p : Nat) : Bool :=
  match (s.pol p).image with
  | none => false
  | some im => (s.pol p).loading.isNone && !s.loadWait.contains p && s.dirTiles p im != [] && (s.dirTiles p im).all (fun t => (s.tile t).task == .loaded)

/-- An accepted RUN (R442): seed, step counter, gate, and one start beat for every loaded tile, with its proof ramp. -/
def State.runPol (s : State) (p seed start : Nat) (gated : Bool) : State :=
  let before := (start + 2 ^ 32 - 1) % 2 ^ 32
  let ts := match (s.pol p).image with | some im => s.dirTiles p im | none => []
  let b := s.startBeat (s.beat + 4)
  let s1 := s.setPol p { s.pol p with seed := seed, step := before, started := start, gate := if gated then some before else none }
  (ts.foldl (fun st t => st.startTask t b) s1).startRamp p ts b

/-- RUN. -/
def effRun (p : Nat) (entry : List Byte) (s : State) : State :=
  s.request p entry (· == 2) (fun st =>
    if !st.runnable p then st.reqDone p 0x0664
    else (st.runPol p (reqField entry 8 8) (reqField entry 0x10 4) (bitOf (reqField entry 1 1) 0)).reqDone p 0)

/-- RUN. -/
def execRun (p : Nat) (entry : List Byte) (s : State) : Out := onPol p (fun _ => effRun p entry s)

/-- STEP (R443). -/
def effStep (p : Nat) (entry : List Byte) (s : State) : State :=
  s.request p entry (· == 3) (fun st =>
    let k := reqField entry 8 4
    match (st.pol p).gate with
    | some g => if k = (g + 1) % 2 ^ 32 then (st.setPol p { st.pol p with gate := some k, gateAt := st.beat }).reqDone p 0 else st.reqDone p 0x0665
    | none => st.reqDone p 0x0665)

/-- STEP. -/
def execStep (p : Nat) (entry : List Byte) (s : State) : Out := onPol p (fun _ => effStep p entry s)

/-! RESTORE (R420). -/

/-- The slot of die `d` whose header names step `k`: its address and header bytes, with the state after the reads. -/
def State.findSnap (s : State) (p d k : Nat) : Option (Nat × List Byte) × State :=
  if s.snapBase d p = none then (none, s)
  else [0, 1].foldl (fun (acc : Option (Nat × List Byte) × State) j =>
    match acc with
    | (some r, st) => (some r, st)
    | (none, st) =>
      match st.polLoad d p 2 (st.snapSlot d p j) 512 with
      | (.ok h, st1) => if h.take 4 = [0x53, 0x4E, 0x50, 0x31] ∧ leNat ((h.drop 8).take 4) = k then (some (st1.snapSlot d p j, h), st1) else (none, st1)
      | (.error _, st1) => (none, st1)) (none, s)

/-- The check of die `d`: its slot's address and body, or the code that refuses the restore. `bad` tells that its seal fails twice. -/
def State.checkSnap (s : State) (p d k : Nat) (im : Image) (bad : Bool) : Except Nat (List Byte) × State :=
  match s.findSnap p d k with
  | (none, s1) => (.error 0x1077, s1)
  | (some (a, h), s1) =>
    let n := leNat ((h.drop 0x20).take 8)
    if bad ∨ s1.snapSize d p < 512 + n then (.error 0x1076, s1)
    else match s1.polLoad d p 2 (a + 512) n with
      | (.error _, s2) => (.error 0x1076, s2)
      | (.ok body, s2) =>
        if crc64 (h.take 0x1F8 ++ body) ≠ leNat ((h.drop 0x1F8).take 8) ∨ leNat ((h.drop 0x10).take 4) ≠ im.digest then (.error 0x1076, s2)
        else (.ok body, s2)

/-- Writes tile `t`'s registers and its set's loaves from its place in a slot's body. -/
def State.restoreTile (s : State) (t pt : Nat) (im : Image) (place : List Byte) : State :=
  let reg := place.take 512
  let set := leNat ((reg.drop 2).take 1)
  let s1 := (List.range 29).foldl (fun st j => st.onT t (fun x => x.setS (j + 3) (leNat ((reg.drop (0x40 + 8 * (j + 3))).take 8)))) s
  let s2 := s1.onT t (fun x => { x with preds := leNat ((reg.drop 8).take 1) ||| 1 })
  let ls := (im.setOf pt set).flatMap (fun e => (List.range e.len).map (fun j => e.lo + j))
  ls.zipIdx.foldl (fun st q => st.scrWrite t 12 (q.1 * 512) (padTo 512 ((place.drop (512 * (q.2 + 1))).take 512))) s2

/-- The restore of a die from its body. -/
def State.restoreDie (s : State) (p d : Nat) (im : Image) (body : List Byte) : State :=
  (s.snapTiles p im d).foldl (fun st pt =>
    match st.tileOf p pt with
    | some t => st.restoreTile t pt im ((body.drop (st.snapPlace p im d pt - 512)).take (im.placeLen pt))
    | none => st) s

/-- RESTORE; `bad` lists the dies whose seal does not match on either read. -/
def effRestore (p : Nat) (entry : List Byte) (bad : List Nat) (s : State) : State :=
  s.request p entry (· == 4) (fun st =>
    match st.runnable p, (st.pol p).image with
    | true, some im =>
      let k := reqField entry 8 4
      let (r, s1) := (st.snapDies p).foldl (fun (acc : Except (Nat × Nat) (List (Nat × List Byte)) × State) d =>
        match acc with
        | (.error e, u) => (.error e, u)
        | (.ok bs, u) =>
          match u.checkSnap p d k im (bad.contains d) with
          | (.ok b, u1) => (.ok (bs ++ [(d, b)]), u1)
          | (.error c, u1) => (.error (c, d), u1)) (.ok [], st)
      match r with
      | .error (c, d) => (s1.fault { code := c, page := pgDie d, detail := detOther p [k], pol := some p }).reqDone p c
      | .ok bs => (bs.foldl (fun u b => u.restoreDie p b.1 im b.2) s1).reqDone p 0
    | _, _ => st.reqDone p 0x0664)

/-- RESTORE. -/
def execRestore (p : Nat) (entry : List Byte) (bad : List Nat) (s : State) : Out := onPol p (fun _ => effRestore p entry bad s)

/-! COPY (R444). -/

/-- Moves `n` lines from line `j` of the COPY on; answers the code that ended it early, 0 where none. -/
def State.copyLines (s : State) (p ha pa : Nat) (toHost : Bool) (data : List Byte) (n : Nat) : Nat × State :=
  (List.range n).foldl (fun (acc : Nat × State) j =>
    if acc.1 ≠ 0 then acc
    else if toHost then
      match acc.2.polLoad 0 p 5 (pa + 128 * j) 128 with
      | (.ok b, st) => (0, st.hostWrite p (ha + 128 * j) b)
      | (.error e, st) => (e.1, st)
    else
      match acc.2.polStore 0 p 5 (pa + 128 * j) (padTo 128 ((data.drop (128 * j)).take 128)) with
      | (none, st) => (0, st)
      | (some e, st) => (e.1, st)) (0, s)

/-- What a COPY does; it ends with 0x0666 after `fails` lines where those are fewer than its own. -/
def State.copyReq (s : State) (p : Nat) (entry data : List Byte) (fails : Nat) : State :=
  let ha := reqField entry 8 8
  let pa := reqField entry 0x10 8
  let n := reqField entry 0x18 4
  if n % 128 ≠ 0 ∨ n < 128 ∨ 2 ^ 31 < n ∨ !s.inRankRun p pa n then s.reqDone p 0x0666
  else
    let (c, s1) := s.copyLines p ha pa (bitOf (reqField entry 1 1) 0) data (min (n / 128) fails)
    s1.reqDone p (if c ≠ 0 then c else if fails < n / 128 then 0x0666 else 0)

/-- COPY: `data` are the bytes that host memory gives, `fails` the lines moved before a host read failed twice or the function's bus
mastering ended. A COPY that the latter interrupts arrives with the INTAKE already in WAIT (Table 15-10). -/
def effCopy (p : Nat) (entry data : List Byte) (fails : Nat) (s : State) : State :=
  if s.inState p = 3 ∧ (s.intake p).entry = none ∧ s.rqIdx p 0x118 ≠ s.rqIdx p 0x11C ∧ fails < reqField entry 0x18 4 / 128 ∧ reqField entry 0 1 = 5 then
    ((s.setIntake p { s.intake p with entry := some (padTo 64 entry) }).setF (pgIntake p) 0x104 0 15 8 5).copyReq p entry data fails
  else s.request p entry (· == 5) (fun st => st.copyReq p entry data fails)

/-- COPY. -/
def execCopy (p : Nat) (entry data : List Byte) (fails : Nat) (s : State) : Out := onPol p (fun _ => effCopy p entry data fails s)

/-- RESET (R445): a polder reset of the own polder; the request completes with RESET_DONE, or at once with 0x0147. -/
def effResetReq (p : Nat) (entry : List Byte) (s : State) : State :=
  s.request p entry (· == 6) (fun st =>
    let st1 := effPolderReset p st
    if st1.getF pgDev 0x31C 0 31 16 = 0 then st1 else st1.reqDone p 0x0147)

/-- RESET. -/
def execResetReq (p : Nat) (entry : List Byte) (s : State) : Out := onPol p (fun _ => effResetReq p entry s)

/-! Rings (R446, R448). -/

/-- RECORD_BACKLOG_DRAIN. -/
def execRecordBacklogDrain (p : Nat) (s : State) : Out := onPol p (fun _ => State.drainBacklog 66 p s)

/-- RING_FAULT: an access to a ring or the tally has failed after one retry. -/
def effRingFault (p : Nat) (s : State) : State :=
  if s.getF (pgIntake p) 0x100 0 0 0 = 0 ∨ s.inState p = 4 ∨ !s.fnLive p then s else s.haltIntake p 0x0662 false

/-- RING_FAULT. -/
def execRingFault (p : Nat) (s : State) : Out := onPol p (fun _ => effRingFault p s)

/-! Host-window reads (R449). -/

/-- The mover path (0 load, 1 store) whose front command waits for a host-window read, and the command. -/
def State.hostWaiter (s : State) (t : Nat) : Option (Nat × IssuedCmd) :=
  [0, 1].findSome? (fun e =>
    match mapGet (s.tile t).dq e [] with
    | [] => none
    | i :: _ =>
      let held (h : HeldEntry) : Bool := h.tile == t && h.path == e && h.ord == i.ord
      if !i.started ∨ i.finished ∨ (s.tile t).outs.any (fun o => o.ord == i.ord) ∨ s.slices.any (fun c => c.2.held.any held) ∨ s.bridge.held.any held then none
      else some (e, i))

/-- HOST_WINDOW_READ_COMPLETE: `chunks` hold the bytes by polder address; `ok` is false where both tries failed. -/
def effHwinRead (t : Nat) (ok : Bool) (chunks : List (Nat × List Byte)) (s : State) : State :=
  match s.hostWaiter t with
  | none => s
  | some (e, i) =>
    let sl := (opSlots i.word.toNat i.count).getD 0 ⟨false, 0, 0, .any, 0⟩
    let pa := (((s.tile t).seg ((i.walker sl).space - 4)).base + (i.addr sl 0).toNat)
    if !ok ∨ !s.fnLive ((s.tile t).ctx / 1024 % 64) then s.mvFault t e i 0x0660 pa else s.runMove t e e i chunks

/-- HOST_WINDOW_READ_COMPLETE, with the upsets that the command's scratchpad reads may meet (R94). -/
def execHostWindowReadComplete (t : Nat) (ok : Bool) (chunks : List (Nat × List Byte)) (ecc : List (Nat × Nat)) (s : State) : Out :=
  onTile t (fun _ => effHwinRead t ok chunks (s.addUpsets t ecc))

/-! Functions (R428 to R430). -/

/-- Polder reset and INTAKE reset of polder `p` (R429, R450): requests end without results, and what the reset posts goes to the PF's ring only. -/
def State.flrPol (s : State) (p : Nat) : State := ((if (s.intake p).entry.isSome then s.setIn p 4 else s).resetPolder p).resetIntake p

/-- FLR_PF: every polder and INTAKE is reset, and VF Enable is cleared. -/
def effFlrPf (s : State) : State :=
  let s1 := (List.range 64).foldl (fun st p => if (st.intake p).entry.isSome then st.setIn p 4 else st) s
  let s2 := (List.range 64).foldl State.resetPolder s1
  { (List.range 64).foldl State.resetIntake s2 with fns := [], numVfs := 0 }

/-- FLR_PF. -/
def execFlrPf (s : State) : Out := .next (effFlrPf s)

/-- FLR_VF: Function Level Reset of VF n. -/
def effFlrVf (n : Nat) (s : State) : State := (s.flrPol n).setFn n { enabled := (s.fn n).enabled }

/-- FLR_VF. -/
def execFlrVf (n : Nat) (s : State) : Out := if n = 0 then .fault .noSuchUnit else onPol n (fun _ => effFlrVf n s)

/-- Post-package repair outcomes where the command carries none: which rows find a spare and which repairs pass, the spec leaves open. -/
def State.drawPpr (s : State) : List Nat × State :=
  let n := (List.range 12).foldl (fun m k => m + ((s.stack k).rows.filter (fun r => r.state != 2)).length) 0
  ((List.range n).map (fun i => Config.freeValue (s.freeCtr + i) % 3), { s with freeCtr := s.freeCtr + n })

/-- A PCIe reset (Table 15-2): device-core reset where boot has reached READY, every INTAKE page and every function reset. -/
def State.pcieReset (s : State) : State :=
  let s1 := (List.range 64).foldl (fun st p => if (st.intake p).entry.isSome then st.setIn p 4 else st) s
  let (os, s2) := s1.drawPpr
  let s3 := if s.bootState = 4 then s2.resetDevice os else s1
  { (List.range 64).foldl State.resetIntake s3 with fns := [], numVfs := 0 }

/-- PERST_ASSERT. -/
def effPerst (s : State) : State :=
  if s.module.perst then s else { s.pcieReset with module := { s.pcieReset.module with perst := true, portTrained := false } }

/-- PERST_ASSERT. -/
def execPerstAssert (s : State) : Out := .next (effPerst s)

/-- PERST_DEASSERT (R456): the port trains once the module has power-good. -/
def execPerstDeassert (s : State) : Out := .next { s with module := { s.module with perst := false, portTrained := s.module.pwrGood } }

/-- HOT_RESET. -/
def execHotReset (s : State) : Out := .next s.pcieReset

/-- SECONDARY_BUS_RESET. -/
def execSecondaryBusReset (s : State) : Out := .next s.pcieReset

/-- PCIE_LINK_DOWN. -/
def execPcieLinkDown (s : State) : Out := .next s.pcieReset

/-- Whether function `f` has a configuration space: the PF, and a VF that VF Enable and NumVFs give. -/
def State.fnThere (s : State) (f : Nat) : Bool := f == 0 || (s.fn f).enabled

/-- D3HOT_ENTRY. -/
def effD3 (f : Nat) (s : State) : State := if s.fnThere f then (s.setFn f { s.fn f with d3hot := true }).pauseIntake f else s

/-- D3HOT_ENTRY. -/
def execD3hotEntry (fn : Nat) (s : State) : Out := onPol fn (fun _ => effD3 fn s)

/-- D0_ENTRY: with Bus Master Enable set, the INTAKE resumes. -/
def effD0 (f : Nat) (s : State) : State := if s.fnThere f then (s.setFn f { s.fn f with d3hot := false }).resumeIntake f else s

/-- D0_ENTRY. -/
def execD0Entry (fn : Nat) (s : State) : Out := onPol fn (fun _ => effD0 fn s)

/-- BUS_MASTER_ENABLE_CHANGE. -/
def effBme (f : Nat) (en : Bool) (s : State) : State :=
  if !s.fnThere f then s
  else if en then (s.setFn f { s.fn f with bme := true }).resumeIntake f else (s.setFn f { s.fn f with bme := false }).pauseIntake f

/-- BUS_MASTER_ENABLE_CHANGE. -/
def execBusMasterEnableChange (fn : Nat) (en : Bool) (s : State) : Out := onPol fn (fun _ => effBme fn en s)

/-- VF_ENABLE_CHANGE (R428): VFs 1 to `num` are enabled, or none; a VF that comes or goes has its configuration space at reset. -/
def effVfEnable (en : Bool) (num : Nat) (s : State) : State :=
  (List.range 64).foldl (fun st f =>
    let on := en && decide (1 ≤ f) && decide (f ≤ num)
    if f = 0 ∨ (st.fn f).enabled = on then st else (st.setFn f { enabled := on }).pauseIntake f) { s with numVfs := num }

/-- VF_ENABLE_CHANGE. -/
def execVfEnableChange (en : Bool) (num : Nat) (s : State) : Out := .next (effVfEnable en num s)

end Sys2Proof.Machine
end

