-- ==== Sys2Proof/Machine/Image.lean ====
section
/-!
DEFINITION. The .gyi image as the loader reads it, and the verifier's checks of its header, sections, placement, tile directory, segments and
walkers (06_images_and_verifier.md R188 to R194, R204, R205).
-/
namespace Sys2Proof.Machine

/-! Bytes and sections. -/

/-- An image: its bytes and the length that the LOAD request gives. -/
structure Img where
  b : Array Byte
  len : Nat

/-- The little-endian number of `w` bytes at an offset; bytes beyond the image read as 0. -/
def Img.u (m : Img) (off w : Nat) : Nat := leNat ((List.range w).map (fun i => m.b.getD (off + i) 0))

/-- Bytes of an image. -/
def Img.bytes (m : Img) (off n : Nat) : List Byte := (List.range n).map (fun i => m.b.getD (off + i) 0)

/-- A section table entry in use (R190). -/
structure Sec where
  idx : Nat
  ty : Nat
  off : Nat
  size : Nat
  crc : Nat
deriving DecidableEq, Repr

/-- The section table's entries in use, in table order. -/
def Img.secs (m : Img) : List Sec := (List.range (min 32 (m.u 0xC 2))).map (fun i =>
  let o := 0x100 + 16 * i
  ⟨i, m.u o 2, m.u (o + 4) 4, m.u (o + 8) 4, m.u (o + 12) 4⟩)

/-- The section of a type; an absent one is empty. -/
def Img.sec (m : Img) (ty : Nat) : Sec := (m.secs.find? (fun s => s.ty == ty)).getD ⟨0, ty, 0, 0, 0⟩

/-- Whether a section is present. -/
def Img.has (m : Img) (ty : Nat) : Bool := m.secs.any (fun s => s.ty == ty)

/-- Entry size of a section type; 1 where the table gives none (Table 6-2). -/
def entrySize : Nat → Nat
  | 2 => 32 | 3 => 32 | 4 => 96 | 5 => 8 | 6 => 128 | 7 => 24 | 8 => 16 | 9 => 32 | 0xB => 8 | _ => 1

/-- Entries of a section, as index and image offset. -/
def Img.entries (m : Img) (ty : Nat) : List (Nat × Nat) :=
  let s := m.sec ty
  (List.range (s.size / entrySize ty)).map (fun i => (i, s.off + entrySize ty * i))

/-- Columns and torus shape of the header. -/
def Img.columns (m : Img) : Nat := m.u 0x10 2
/-- The header's torus slice shape. -/
def Img.shape (m : Img) : List Nat := [m.u 0x14 1, m.u 0x15 1, m.u 0x16 1]

/-! Failures (R204, R210). -/

/-- A failing check: its code, and where: `at_` the image offset of its section (0 the header, 0x100 the section table), section type, ptile, entry,
command, image byte offset; a field that names nothing holds all ones. -/
structure Rej where
  code : Nat
  at_ : Nat := 0
  sect : Nat := 0
  pt : Nat := 0xFFFF
  entry : Nat := 0xFFFF_FFFF
  cmd : Nat := 0xFFFF_FFFF
  off : Nat := 0xFFFF_FFFF
deriving DecidableEq, Repr

/-- Lexicographic order of number lists. -/
def lexLt : List Nat → List Nat → Bool
  | [], _ => false
  | _ :: _, [] => false
  | a :: as, b :: bs => decide (a < b) || (a == b && lexLt as bs)

/-- R204's order within a check: section offset, ptile, command index, entry index; then the byte offset. -/
def Rej.before (a b : Rej) : Bool := lexLt [a.at_, a.pt, a.cmd, a.entry, a.off] [b.at_, b.pt, b.cmd, b.entry, b.off]

/-- The failure that comes first. -/
def firstRej : List Rej → Option Rej
  | [] => none
  | r :: rs => match firstRej rs with
    | none => some r
    | some q => some (if q.before r then q else r)

/-- The failures of entries: those of a section whose field test `bad` answers the failing field's place in the entry. -/
def Img.badEntries (m : Img) (code ty : Nat) (pt : Nat → Nat) (bad : Nat → Nat → Option Nat) : List Rej :=
  (m.entries ty).filterMap (fun e => (bad e.1 e.2).map (fun o =>
    { code := code, at_ := (m.sec ty).off, sect := ty, pt := pt e.2, entry := e.1, off := e.2 + o }))

/-- The first offset of a list of fields that fails. -/
def firstBad : List (Nat × Bool) → Option Nat
  | [] => none
  | (o, bad) :: rest => if bad then some o else firstBad rest

/-! Header and section table (R188 to R190). -/

/-- 0x1040. -/
def Img.checkMagic (m : Img) : List Rej :=
  match firstBad [(0, m.u 0 4 != 0x31495947), (4, m.u 4 2 != 1)] with
  | some o => [{ code := 0x1040, off := o }]
  | none => []

/-- 0x1041: the header's fields in ascending order (Table 6-1). -/
def Img.checkHeader (m : Img) : List Rej :=
  let inR (o w lo hi : Nat) : Nat × Bool := (o, !(decide (lo ≤ m.u o w) && decide (m.u o w ≤ hi)))
  let crc := crc32c 0 (m.bytes 0 0x20 ++ zeros 4 ++ m.bytes 0x24 220)
  match firstBad [(6, m.u 6 2 / 4 != 0), (8, decide (m.u 8 4 < 512) || m.u 8 4 != m.len), inR 0xC 2 1 32, (0xE, decide (1024 ≤ m.u 0xE 2)),
      inR 0x10 2 1 144, (0x12, decide (4 ≤ m.u 0x12 1)), (0x13, m.u 0x13 1 != 0), inR 0x14 1 1 16, inR 0x15 1 1 32, inR 0x16 1 1 32,
      (0x17, m.u 0x17 1 != 0), inR 0x1A 2 1 65535, inR 0x1C 2 4 4096, (0x1E, m.u 0x1E 2 != 0), (0x20, m.u 0x20 4 != crc), (0x24, m.u 0x24 220 != 0)] with
  | some o => [{ code := 0x1041, off := o }]
  | none => []

/-- 0x1042: the section table, entry by entry, with the entry's type; of a missing required type, only the type is named. -/
def Img.checkTable (m : Img) : List Rej :=
  let ss := m.secs
  let rej (i o : Nat) : Rej := { code := 0x1042, at_ := 0x100, sect := m.u (0x100 + 16 * i) 2, entry := i, off := 0x100 + 16 * i + o }
  let used := ss.filterMap (fun s => (firstBad [
    (0, decide (s.ty < 1) || decide (12 < s.ty) || (ss.take s.idx).any (fun r => r.ty == s.ty)),
    (2, m.u (0x102 + 16 * s.idx) 2 != 0),
    (4, s.off % 512 != 0 || (s.size != 0 && decide (s.off < 0x300)) ||
        (ss.take s.idx).any (fun r => r.size != 0 && s.size != 0 && decide (r.off < s.off + s.size) && decide (s.off < r.off + r.size))),
    (8, decide (m.len < s.off + s.size) || s.size % entrySize s.ty != 0)]).map (rej s.idx))
  let unused := ((List.range 32).filter (fun i => decide (ss.length ≤ i) && m.u (0x100 + 16 * i) 16 != 0)).map (fun i => rej i 0)
  let missing := ([1, 2, 3, 6, 0xA].filter (fun t => !m.has t)).map (fun t => ({ code := 0x1042, at_ := 0x100, sect := t } : Rej))
  used ++ unused ++ missing

/-- 0x1043: a section whose bytes do not have its CRC. -/
def Img.checkCrcs (m : Img) : List Rej :=
  (m.secs.filter (fun s => crc32c 0 (m.bytes s.off s.size) != s.crc)).map (fun s =>
    { code := 0x1043, at_ := s.off, sect := s.ty, off := 0x10C + 16 * s.idx })

/-- The digest of the completion record: CRC-32C over the section CRCs in table order (Table 6-11). -/
def Img.digest (m : Img) : Nat := crc32c 0 (m.secs.flatMap (fun s => natLE 4 s.crc))

/-! Placement (R191). -/

/-- Group of image column `i`. -/
def Img.group (m : Img) (i : Nat) : Nat := m.u ((m.sec 1).off + 2 + i) 1

/-- adj[g]. -/
def Img.adj (m : Img) (g : Nat) : Nat := m.u ((m.sec 1).off + 2 + m.columns + g) 1

/-- Whether some column belongs to a group. -/
def Img.groupUsed (m : Img) (g : Nat) : Bool := (List.range m.columns).any (fun i => m.group i == g)

/-- 0x1044. -/
def State.checkPlacement (s : State) (p : Nat) (m : Img) : List Rej :=
  let q := m.sec 1
  let n := m.u q.off 2
  let rej (e o : Nat) : Rej := { code := 0x1044, at_ := q.off, sect := 1, entry := e, off := q.off + o }
  let none_ := 0xFFFF_FFFF
  if n ≠ m.columns ∨ n ≠ (s.bound 0 p).length ∨ q.size ≠ 6 + n then [rej none_ 0]
  else ((List.range n).filter (fun i => decide (3 < m.group i))).map (fun i => rej i (2 + i)) ++
    ((List.range 4).filter (fun g => decide (15 < m.adj g))).map (fun g => rej none_ (2 + n + g))

/-- Every assignment of the four groups to four different dies. -/
def dieMaps : List (List Nat) :=
  (List.range 256).filterMap (fun k =>
    let l := [k % 4, k / 4 % 4, k / 16 % 4, k / 64]
    if l.eraseDups.length = 4 then some l else none)

/-- Whether two dies are neighbours in the D2D ring (R217). -/
def ringNear (a b : Nat) : Bool := (a + 1) % 4 == b || (b + 1) % 4 == a

/-- 0x1045: no assignment of groups to dies serves, or a bound column is unavailable. A group without columns may lie on any free die. -/
def State.checkGroups (s : State) (p : Nat) (m : Img) : List Rej :=
  let cs := s.bound 0 p
  let fits (f : List Nat) : Bool :=
    (List.range m.columns).all (fun i => cs[i]?.map (· / 36) == f[m.group i]?) &&
    (List.range 4).all (fun g => (List.range 4).all (fun h => !(m.adj g).testBit h || ringNear (f.getD g 0) (f.getD h 0)))
  if cs.any s.colUnavail ∨ !dieMaps.any fits then [{ code := 0x1045, at_ := (m.sec 1).off, sect := 1 }] else []

/-- 0x1046. -/
def State.checkShape (s : State) (p : Nat) (m : Img) : List Rej :=
  match (List.range 3).find? (fun d => (s.sliceDim p d).2 != m.shape.getD d 0) with
  | some d => [{ code := 0x1046, off := 0x14 + d }]
  | none => []

/-! Tile directory (R192). -/

/-- The tile directory, in table order. -/
def Img.dir (m : Img) : List TileDir := (m.entries 2).map (fun e =>
  { ptile := m.u e.2 2, segSet := m.u (e.2 + 2) 1, wlkCount := m.u (e.2 + 3) 1, cmdOff := m.u (e.2 + 4) 4, cmdLen := m.u (e.2 + 8) 4,
    wlkOff := m.u (e.2 + 0xC) 4, regOff := m.u (e.2 + 0x10) 4, regMask := m.u (e.2 + 0x14) 4 })

/-- Registers that a mask names. -/
def maskRegs (mask : Nat) : List Nat := (List.range 32).filter (fun i => mask.testBit i)

/-- Whether [o, o + n) lies inside a section. -/
def Sec.holds (s : Sec) (o n : Nat) : Bool := decide (s.off ≤ o) && decide (o + n ≤ s.off + s.size)

/-- 0x1047. -/
def Img.checkDir (m : Img) : List Rej :=
  let d := m.dir
  m.badEntries 0x1047 2 (fun o => m.u o 2) (fun i o =>
    match d[i]? with
    | none => none
    | some e => firstBad [
      (0, decide (32 * m.columns ≤ e.ptile) || (d.take i).any (fun r => decide (e.ptile ≤ r.ptile))),
      (3, decide (16 < e.wlkCount)),
      (4, e.cmdOff % 512 != 0 || !(m.sec 3).holds e.cmdOff 0 || decide ((m.sec 3).off + (m.sec 3).size ≤ e.cmdOff)),
      (8, decide (e.cmdLen < 1) || decide (2 ^ 24 ≤ e.cmdLen) || !(m.sec 3).holds e.cmdOff (32 * e.cmdLen)),
      (0xC, if e.wlkCount = 0 then e.wlkOff != 0 else !m.has 4 || !(m.sec 4).holds e.wlkOff (96 * e.wlkCount)),
      (0x10, if e.regMask = 0 then e.regOff != 0 else !m.has 5 || !(m.sec 5).holds e.regOff (8 * (maskRegs e.regMask).length)),
      (0x14, e.regMask % 8 != 0),
      (0x18, m.u (o + 0x18) 8 != 0)])

/-! Segments (R194). -/

/-- An entry of a segment set: base, bound, permissions, init, data offset and length. -/
structure SegDecl where
  base : Nat
  bound : Nat
  perm : Nat
  init : Nat
  dataOff : Nat
  dataLen : Nat
deriving DecidableEq, Repr

/-- Entry `k` of set `i`. -/
def Img.seg (m : Img) (i k : Nat) : SegDecl :=
  let o := (m.sec 6).off + 128 * i + 32 * k
  { base := m.u o 8, bound := m.u (o + 8) 8, perm := m.u (o + 0x10) 1, init := m.u (o + 0x11) 1, dataOff := m.u (o + 0x14) 4, dataLen := m.u (o + 0x18) 4 }

/-- Segment sets of the image. -/
def Img.sets (m : Img) : Nat := (m.sec 6).size / 128

/-- The segment that a declaration makes. -/
def SegDecl.toSeg (e : SegDecl) : Segment := { base := e.base, bound := e.bound, rd := bitOf e.perm 0, wr := bitOf e.perm 1, atom := bitOf e.perm 2 }

/-- Whether two declarations overlap. -/
def SegDecl.meets (a b : SegDecl) : Bool := decide (a.base < b.base + b.bound) && decide (b.base < a.base + a.bound)

/-- Whether the loader may write a region (R194, R360): own HBM fields, a WRITE sluice window or a host window. -/
def State.loaderMayWrite (s : State) (p pa : Nat) : Bool :=
  match s.xlate p pa with
  | .hbm _ via => via != 1
  | .host _ _ => true
  | .nowhere => false

/-- The failing field of entry `k` of set `i`. `addr` is the image's polder address. -/
def State.segBad (s : State) (p addr : Nat) (m : Img) (i k : Nat) : Option Nat :=
  let e := m.seg i k
  let o := (m.sec 6).off + 128 * i + 32 * k
  let on := e.bound != 0
  let cmd : SegDecl := { base := (addr + (m.sec 3).off) / 128 * 128, perm := 0, init := 0, dataOff := 0, dataLen := 0,
                         bound := ceilDiv (addr + (m.sec 3).off + (m.sec 3).size) 128 * 128 - (addr + (m.sec 3).off) / 128 * 128 }
  let clash := (List.range i).any (fun j => (List.range 4).any (fun h =>
    let r := m.seg j h
    on && r.bound != 0 && e.meets r && (e.init != r.init || (e.init == 2 && (e.base != r.base || e.dataOff != r.dataOff || e.dataLen != r.dataLen)))))
  (firstBad [
    (0, e.base % 4096 != 0 || (on && !s.oneRegion p e.base e.bound) || (on && (e.init == 1 || e.init == 2) && (e.meets cmd || !s.loaderMayWrite p e.base || !s.loaderMayWrite p (e.base + e.bound - 1)))),
    (8, e.bound % 4096 != 0),
    (0x10, decide (7 < e.perm)),
    (0x11, decide (2 < e.init) || clash),
    (0x12, m.u (o + 0x12) 2 != 0),
    (0x14, e.init == 2 && !(m.has 0xC && decide (e.dataOff + e.dataLen ≤ (m.sec 0xC).size))),
    (0x18, e.init == 2 && decide (e.bound < e.dataLen)),
    (0x1C, m.u (o + 0x1C) 4 != 0)]).map (· + 32 * k)

/-- 0x104C. -/
def State.checkSegs (s : State) (p addr : Nat) (m : Img) : List Rej :=
  m.badEntries 0x104C 6 (fun _ => 0xFFFF) (fun i _ => (List.range 4).foldr (fun k acc => (s.segBad p addr m i k).orElse (fun _ => acc)) none) ++
  m.badEntries 0x104C 2 (fun o => m.u o 2) (fun _ o => if m.sets ≤ m.u (o + 2) 1 then some 2 else none)

/-! Walkers (R193). -/

/-- The walker that a record at an offset gives: its number and setup. -/
def Img.walker (m : Img) (o : Nat) : Nat × Walker :=
  (m.u o 1, { space := m.u (o + 1) 1, base := m.u (o + 8) 5, cursor := m.u (o + 0x10) 6, counts := (List.range 6).map (fun i => m.u (o + 0x18 + 2 * i) 2),
              strides := (List.range 6).map (fun i => sext 64 (m.u (o + 0x28 + 8 * i) 8)) })

/-- Offsets of a tile's walker records. -/
def TileDir.records (e : TileDir) : List Nat := (List.range e.wlkCount).map (fun j => e.wlkOff + 96 * j)

/-- 0x104A: the walker records of every tile. -/
def Img.checkWalkers (m : Img) : List Rej :=
  m.dir.flatMap (fun e => ((List.range e.wlkCount).zip e.records).filterMap (fun jo =>
    let o := jo.2
    let (k, w) := m.walker o
    (firstBad [
      (0, decide (15 < k) || (e.records.take jo.1).any (fun r => m.u r 1 == k)),
      (1, !spaceValid w.space),
      (2, m.u (o + 2) 6 != 0),
      (8, m.u (o + 0xD) 3 != 0),
      (0x10, m.u (o + 0x16) 2 != 0 || (w.len != 0 && decide (w.len ≤ w.cursor))),
      (0x18, w.counts.contains 0 || decide (2 ^ 48 < w.len)),
      (0x24, m.u (o + 0x24) 4 != 0),
      (0x28, w.strides.any (fun st => decide (st < -(2 ^ 39 : Int)) || decide ((2 ^ 39 : Int) ≤ st))),
      (0x58, m.u (o + 0x58) 8 != 0)]).map (fun b =>
        { code := 0x104A, at_ := (m.sec 4).off, sect := 4, pt := e.ptile, entry := (o - (m.sec 4).off) / 96, off := o + b })))

end Sys2Proof.Machine
end

