-- ==== Sys2Proof/Machine/VerifyCmd.lean ====
section
/-!
DEFINITION. The verifier's checks of command streams (06_images_and_verifier.md R192, R199, R204 to R206; Table 6-8 codes 0x1048, 0x1050, 0x1049,
0x104B, 0x104D, 0x104E, 0x104F, 0x105D and 0x105B): which commands are reachable, what registers hold, and where walkers lead.
-/
namespace Sys2Proof.Machine

/-! Reachable commands. -/

/-- Whether a command is a HALT that always issues. -/
def alwaysHalts (c : Nat) : Bool := cClass c == 14 && cPred c == 0 && cPneg c == 0

/-- Which commands of a stream some path reaches, and whether a path reaches the stream's end; `i` is the index of the list's head, `live` whether
the command before falls through to it, `tg` where loops of register count may skip to (R145). -/
def reachScan : List Nat → Nat → Bool → List Nat → List Bool × Bool
  | [], i, live, tg => ([], live || tg.contains i)
  | c :: cs, i, live, tg =>
    let on := live || tg.contains i
    let tg' := if on && cClass c == 7 && cCreg c then (i + 1 + cf c 1 23 0) :: tg else tg
    let r := reachScan cs (i + 1) (on && !alwaysHalts c) tg'
    (on :: r.1, r.2)

/-- A stream's commands. -/
def Img.stream (m : Img) (e : TileDir) : List Nat := (List.range e.cmdLen).map (fun k => m.u (e.cmdOff + 32 * k) 32)

/-- A tile of the image as the verifier sees it: its directory entry, its reachable commands with their indices, whether a path reaches its stream's end,
and the tile that the loader would install. -/
structure VTile where
  dir : TileDir
  cmds : List (Nat × Nat)
  ends : Bool
  tile : Tile
deriving DecidableEq, Repr

/-- Initial register values of a tile (R192). -/
def Img.initRegs (m : Img) (e : TileDir) : List (Nat × Nat) := (maskRegs e.regMask).mapIdx (fun j r => (r, m.u (e.regOff + 8 * j) 8))

/-- The tile that the loader would install: walkers, segments and registers (R192 to R194). -/
def Img.freshTile (m : Img) (e : TileDir) : Tile :=
  let x : Tile := { segs := (List.range 4).map (fun k => (m.seg e.segSet k).toSeg),
                    walkers := (e.records.map m.walker).foldl (fun w r => mapSet w r.1 r.2) [] }
  (m.initRegs e).foldl (fun y r => y.setS r.1 r.2) x

/-- The tile of a directory entry. -/
def Img.vtile (m : Img) (e : TileDir) : VTile :=
  let cs := m.stream e
  let r := reachScan cs 0 true []
  let ix := cs.mapIdx (fun i c => (i, c))
  { dir := e, cmds := ((ix.zip r.1).filter (·.2)).map (·.1), ends := r.2, tile := m.freshTile e }

/-- The image's tiles, in ascending ptile order. -/
def Img.vtiles (m : Img) : List VTile := m.dir.map m.vtile

/-- A failure of command `k` of a tile. -/
def Img.cmdRej (m : Img) (code : Nat) (v : VTile) (k word : Nat) : Rej :=
  { code := code, at_ := (m.sec 3).off, sect := 3, pt := v.dir.ptile, cmd := k, off := v.dir.cmdOff + 32 * k + 4 * word }

/-- The failures of a test of every reachable command of every tile; the test answers the word at fault. -/
def Img.badCmds (m : Img) (vs : List VTile) (code : Nat) (f : VTile → Nat → Nat → Option Nat) : List Rej :=
  vs.flatMap (fun v => v.cmds.filterMap (fun e => (f v e.1 e.2).map (m.cmdRej code v e.1)))

/-- The loops of a tile that enclose command `k`: their indices and last body commands, innermost first. -/
def VTile.loopsAt (v : VTile) (k : Nat) : List (Nat × Nat) :=
  ((v.cmds.filter (fun e => cClass e.2 == 7 && e.1 < k && k ≤ e.1 + cf e.2 1 23 0)).map (fun e => (e.1, e.1 + cf e.2 1 23 0))).reverse

/-- Whether the image's XSLOT holds a stream. -/
def Img.hasStream (m : Img) (st : Nat) : Bool := (m.entries 7).any (fun e => m.u e.2 2 == st)

/-- 0x1048. -/
def Img.checkEncoding (m : Img) (vs : List VTile) : List Rej :=
  m.badCmds vs 0x1048 (fun v k c =>
    let code := decodeCode c k v.dir.cmdLen [] m.hasStream
    if code = 0x2020 ∨ code = 0x2021 ∨ code = 0x2022 then some 0 else none)

/-- 0x1050: a loop would raise 0x2023 or 0x2024. -/
def Img.checkLoops (m : Img) (vs : List VTile) : List Rej :=
  m.badCmds vs 0x1050 (fun v k c =>
    if cClass c ≠ 7 then none
    else
      let around := v.loopsAt k
      let last := k + cf c 1 23 0
      if cf c 1 23 0 = 0 ∨ v.dir.cmdLen ≤ last ∨ around.any (fun l => l.2 < last) then some 1
      else if 4 ≤ around.length then some 0 else none)

/-- 0x1049: a path reaches the end of a stream, the index behind its last command. -/
def Img.checkHalt (m : Img) (vs : List VTile) : List Rej :=
  (vs.filter (·.ends)).map (fun v => { m.cmdRej 0x1049 v v.dir.cmdLen 0 with off := 0xFFFF_FFFF })

/-! What registers hold (R206): a constant or a loop index, plus or minus a constant or shifted left by one. -/

/-- What is known of a tile's registers before a command: intervals of the bounded ones (s0 stays 0), and the loops open there as last body command, index
register, iterations where immediate, and the registers their bodies write. -/
structure RegView where
  known : SMap (Nat × Nat) := []
  loops : List (Nat × Nat × Option Nat × List Nat) := []
deriving DecidableEq, Repr

/-- The interval of a register. -/
def RegView.get (r : RegView) (k : Nat) : Option (Nat × Nat) := if k = 0 then some (0, 0) else mapFind? r.known k

/-- Puts what is known of a register. -/
def RegView.put (r : RegView) (k : Nat) (v : Option (Nat × Nat)) : RegView :=
  if k = 0 then r else { r with known := match v with | some i => mapSet r.known k i | none => mapDrop r.known (fun j => j == k) }

/-- An interval moved by a constant, where it stays inside 0 … 2^64 − 1 or leaves it as a whole. -/
def moveIv (i : Nat × Nat) (k : Int) : Option (Nat × Nat) :=
  let lo := toU 64 ((i.1 : Int) + k)
  let hi := toU 64 ((i.2 : Int) + k)
  if lo ≤ hi then some (lo, hi) else none

/-- What an ALU command gives (R206). -/
def RegView.alu (r : RegView) (c : Nat) : Option (Nat × Nat) :=
  let a := r.get (cf c 1 15 11)
  let b : Option (Nat × Nat) := if cf c 1 21 21 = 1 then let v := toU 64 (imm32 (cw c 2)); some (v, v) else r.get (cf c 1 20 16)
  match a, b with
  | some (al, ah), some (bl, bh) =>
    let fn := cf c 1 5 0
    if al = ah ∧ bl = bh then let v := aluFn fn al bl; some (v, v)
    else if fn = 0 ∧ bl = bh then moveIv (al, ah) (sext 64 bl)
    else if fn = 0 ∧ al = ah then moveIv (bl, bh) (sext 64 al)
    else if fn = 1 ∧ bl = bh then moveIv (al, ah) (-(sext 64 bl))
    else if fn = 3 ∧ bl = bh ∧ ah * 2 ^ (bl % 64) < 2 ^ 64 then some (al * 2 ^ (bl % 64), ah * 2 ^ (bl % 64))
    else none
  | _, _ => none

/-- The hull of what a predicated command may leave. -/
def hull (a b : Option (Nat × Nat)) : Option (Nat × Nat) :=
  match a, b with | some x, some y => some (min x.1 y.1, max x.2 y.2) | _, _ => none

/-- The loops whose bodies end before command `k` are closed. -/
def RegView.close : Nat → Nat → RegView → RegView
  | 0, _, r => r
  | n + 1, k, r =>
    match r.loops with
    | [] => r
    | (last, sidx, it, ws) :: ls =>
      if k ≤ last then r
      else
        let r1 := { r with loops := ls }
        let r2 := match it with
          | some total => r1.put sidx (if ws.contains sidx then none else some (total - 1, total - 1))
          | none => (ws.foldl (fun q w => q.put w none) r1).put sidx none
        RegView.close n k r2

/-- The effect of command `k` on what is known; `writes` gives the registers that a body writes. -/
def RegView.after (r : RegView) (k c : Nat) (writes : Nat → Nat → List Nat) : RegView :=
  if cPred c = 0 ∧ cPneg c = 1 then r
  else if cClass c = 7 then
    let last := k + cf c 1 23 0
    let sidx := cf c 1 28 24
    let ws := writes (k + 1) last
    let it := if cCreg c then none else some (cCount c)
    let r1 := (ws.foldl (fun q w => q.put w none) r).put sidx (match it with | some n => if ws.contains sidx then none else some (0, n - 1) | none => none)
    { r1 with loops := (last, sidx, it, ws) :: r1.loops }
  else
    let d := writesS c
    if d = 0 then r
    else
      let v := if cClass c = 8 ∧ cOp c = 3 then let x := cw c 2 + cw c 3 * 2 ^ 32; some (x, x) else if cClass c = 8 ∧ cOp c = 0 then r.alu c else none
      r.put d (if cPred c = 0 then v else hull v (r.get d))

/-- What is known before each of a list of commands. -/
def regScan (writes : Nat → Nat → List Nat) : List (Nat × Nat) → RegView → List RegView
  | [], _ => []
  | (k, c) :: cs, r =>
    let q := r.close 6 k
    q :: regScan writes cs (q.after k c writes)

/-- What is known before each reachable command of a tile: the loader's initial values, the ptile in s1, and nothing of s2 (Table 3-2). -/
def VTile.views (v : VTile) : List RegView :=
  let init : RegView := { known := (List.range 32).filterMap (fun k => if k = 0 ∨ k = 2 then none else
    some (k, (if k = 1 then (v.dir.ptile, v.dir.ptile) else (v.tile.s k, v.tile.s k)))) }
  let writes (a b : Nat) : List Nat := (v.cmds.filter (fun e => a ≤ e.1 && e.1 ≤ b && writesS e.2 != 0)).map (fun e => writesS e.2)
  regScan writes v.cmds init

/-- Failures of a test that also sees what registers hold. -/
def Img.badViews (m : Img) (vs : List VTile) (code : Nat) (f : VTile → RegView → Nat → Option Nat) : List Rej :=
  vs.flatMap (fun v => (v.cmds.zip v.views).filterMap (fun e => (f v e.2 e.1.2).map (m.cmdRej code v e.1.1)))

/-! Footprints (R206). -/

/-- Whether used slot `k` of a command stays in its space at every position and stands in the space that Table 4-3 requires. -/
def Tile.footprintOk (x : Tile) (c k : Nat) (sl : OpSlot) : Bool :=
  let w := x.wlk sl.wlk
  let top : Int := if w.space < 4 then 0x70000 else ((x.seg (w.space - 4)).bound : Int)
  !x.spaceBad sl && decide (0 ≤ w.span.1) && decide (w.span.2 + posBytes c k (4 ≤ w.space) ≤ top)

/-- The register and signed offset that address an ATOM, LDC or STC. -/
def regAddress (c : Nat) : Option (Nat × Int) :=
  if cClass c = 10 then some (cf c 1 4 0, imm32 (cw c 2))
  else if cClass c = 8 ∧ (cOp c = 4 ∨ cOp c = 5) then some (cf c 1 15 11, imm32 (cw c 2)) else none

/-- The interval of addresses of an ATOM, LDC or STC whose register is bounded. -/
def RegView.address (r : RegView) (c : Nat) : Option (Nat × Nat) :=
  match regAddress c with
  | some (k, o) => (r.get k).bind (fun i => moveIv i o)
  | none => none

/-- Bytes that an ATOM, LDC or STC accesses. -/
def regAccess (c : Nat) : Nat := if cClass c = 10 then atomSize (cf c 1 21 20) else 8

/-- 0x104B. -/
def Img.checkRanges (m : Img) (vs : List VTile) : List Rej :=
  m.badViews vs 0x104B (fun v r c =>
    let x := v.tile
    if ((opSlots c 1).mapIdx (fun k sl => (k, sl))).any (fun q => q.2.used && !x.footprintOk c q.1 q.2) then some 0
    else
      let top := if cClass c = 10 then (x.seg (cf c 1 23 22)).bound else 0x70000
      match regAddress c, r.address c with
      | some _, some (_, hi) => if top < hi + regAccess c then some 1 else none
      | some _, none => if top = 0 then some 1 else none
      | none, _ => none)

/-- 0x104D. -/
def Img.checkPerms (m : Img) (vs : List VTile) : List Rej :=
  m.badCmds vs 0x104D (fun v _ c =>
    let x := v.tile
    let bad (q : Nat × OpSlot) : Bool :=
      let sp := (x.wlk q.2.wlk).space
      q.2.used && 4 ≤ sp && !(if slotWrites (cClass c) (cOp c) q.1 then (x.seg (sp - 4)).wr else (x.seg (sp - 4)).rd)
    if ((opSlots c 1).mapIdx (fun k sl => (k, sl))).any bad ∨ (cClass c = 10 ∧ !(x.seg (cf c 1 23 22)).atom) then some 0 else none)

/-! Declared ranges (R124 to R127). -/

/-- A range descriptor's low end and length where they can be evaluated statically: immediates, and s0 as the low end. -/
def rangeAt (d : Nat) : Option (Nat × Nat) :=
  if bitOf d 5 ∨ (bitOf d 4 && bitsOf d 10 6 != 0) then none else some (if bitOf d 4 then 0 else bitsOf d 15 6, bitsOf d 31 16)

/-- Whether an evaluated range is malformed (R125). -/
def Tile.rangeBad (x : Tile) (d lo len : Nat) : Bool :=
  if bitOf d 1 then
    let g := x.seg (bitsOf d 3 2)
    len == 0 || g.bound == 0 || decide (g.bound < (lo / 128 + len) * 128)
  else len == 0 || decide (895 < lo + len - 1)

/-- The ranges of a command that may cover an access of a space, where all of them can be evaluated: lines or loaves, first and last. -/
def Tile.staticRanges (x : Tile) (c : Nat) (mem write : Bool) : Option (List (Nat × Nat)) :=
  let ds := ((List.range (cNrng c)).map (fun i => cw c (4 + i))).filter (fun d => bitOf d 1 == mem && (!write || bitOf d 0))
  ds.foldr (fun d acc =>
    match acc, rangeAt d with
    | some es, some (lo, len) =>
      let a := if mem then (x.seg (bitsOf d 3 2)).base / 128 + lo / 128 else lo
      some ((a, a + len - 1) :: es)
    | _, _ => none) (some [])

/-- Whether a command's accesses are held to its declared ranges (R126, R127); a POP's depend on its packet. -/
def rangeHeld (c : Nat) : Bool := [1, 2, 3, 4, 10, 11].contains (cClass c) || (cClass c == 9 && cOp c == 1)

/-- Whether an access that can be evaluated lies outside every range of its direction, all of which can be evaluated. -/
def Tile.coverBad (x : Tile) (r : RegView) (c : Nat) : Bool :=
  let count := if noCount (cClass c) (cOp c) then some 0 else if cCreg c then none else some (cCount c)
  let slots := match count with
    | some e => ((opSlots c e).mapIdx (fun k sl => (k, sl))).any (fun q =>
        let w := x.wlk q.2.wlk
        let mem : Bool := decide (4 ≤ w.space)
        q.2.used && q.2.start == 0 &&
          (match x.staticRanges c mem (slotWrites (cClass c) (cOp c) q.1) with
           | none => false
           | some rs => (List.range q.2.n).any (fun j =>
               let a := (w.addr j).toNat
               if mem then
                 let b := (x.seg (w.space - 4)).base + a
                 !rs.any (fun e => e.1 ≤ b / 128 && (b + posBytes c q.1 true - 1) / 128 ≤ e.2)
               else !rs.any (fun e => e.1 ≤ a / 512 && a / 512 ≤ e.2))))
    | none => false
  let atom := cClass c == 10 && (match r.address c, x.staticRanges c true true with
    | some (lo, hi), some rs =>
      let b := (x.seg (cf c 1 23 22)).base + lo
      lo == hi && !rs.any (fun e => e.1 ≤ b / 128 && (b + regAccess c - 1) / 128 ≤ e.2)
    | _, _ => false)
  rangeHeld c && (slots || atom)

/-- 0x104E. -/
def Img.checkDeclared (m : Img) (vs : List VTile) : List Rej :=
  m.badViews vs 0x104E (fun v r c =>
    let ds := (List.range (cNrng c)).map (fun i => (i, cw c (4 + i)))
    let xk := cClass c == 5 || (cClass c == 6 && cOp c == 2)
    match ds.find? (fun d => (xk && (bitOf d.2 4 || bitOf d.2 5)) ||
        (match rangeAt d.2 with | some (lo, len) => v.tile.rangeBad d.2 lo len | none => false)) with
    | some d => some (4 + d.1)
    | none => if v.tile.coverBad r c then some 4 else none)

/-- 0x104F: an immediate element count that breaks R56. -/
def Img.checkBlocks (m : Img) (vs : List VTile) : List Rej :=
  m.badCmds vs 0x104F (fun _ _ c =>
    let cv := (cClass c == 1 && cCvt c) || cClass c == 4 || (cClass c == 3 && cOp c == 0)
    if cv && !cCreg c && cCount c % ccwBlockMultiple (cCcw c) != 0 then some 0 else none)

/-- 0x105D. -/
def State.checkQueues (s : State) (p : Nat) (m : Img) (vs : List VTile) : List Rej :=
  m.badCmds vs 0x105D (fun _ _ c => if cClass c = 9 ∧ (s.bound 4 p).length ≤ cf c 1 7 0 then some 1 else none)

/-! Snapshot sets (R199). -/

/-- The snapshot-set entries, in table order. -/
def Img.snaps (m : Img) : List SnapSet := (m.entries 0xB).map (fun e => { set := m.u e.2 1, ptile := m.u (e.2 + 2) 2, lo := m.u (e.2 + 4) 2, len := m.u (e.2 + 6) 2 })

/-- 0x105B. -/
def Img.checkSnaps (m : Img) (vs : List VTile) : List Rej :=
  let ss := m.snaps
  let ents := m.badEntries 0x105B 0xB (fun o => m.u (o + 2) 2) (fun i o =>
    match ss[i]? with
    | none => none
    | some e => firstBad [
      (0, decide (4 ≤ ((ss.take i).filter (fun r => r.set == e.set && r.ptile == e.ptile)).length)),
      (1, m.u (o + 1) 1 != 0),
      (6, e.len == 0 || decide (896 < e.lo + e.len))])
  let cmds := m.badCmds vs 0x105B (fun v _ c =>
    if cClass c ≠ 12 then none
    else
      let es := ss.filter (fun e => e.set == cf c 1 7 0 && e.ptile == v.dir.ptile)
      let ds := ((List.range (cNrng c)).map (fun i => cw c (4 + i))).filter (fun d => !bitOf d 0 && !bitOf d 1)
      let rs := ds.filterMap rangeAt
      let inside := decide (rs.length < ds.length) || es.all (fun e => rs.any (fun q => q.1 ≤ e.lo && e.lo + e.len ≤ q.1 + q.2))
      if es = [] ∨ !inside then some 1 else none)
  ents ++ cmds

end Sys2Proof.Machine
end

