-- ==== Sys2Proof/Machine/VerifyNet.lean ====
section
/-!
DEFINITION. The verifier's checks of kneader declarations, exchange streams, link reservations and the current profile (06_images_and_verifier.md R195
to R198, R204, R205; 07_exchange_and_time.md R217 to R221; 11_kneader.md R328).
-/
namespace Sys2Proof.Machine

/-! Walks through a stream. -/

/-- A command that a walk through a stream passes: how often it issues there, where that is known, and whether it issues on every path. -/
structure Ev where
  idx : Nat
  cmd : Nat
  mult : Option Nat
  sure : Bool
deriving DecidableEq, Repr

/-- Product of counts, unknown where one is. -/
def mulOpt (a b : Option Nat) : Option Nat := match a, b with | some x, some y => some (x * y) | _, _ => none

/-- The commands that a walk passes from index `i` to before `stop`, and whether it always ends there. A loop whose body holds an FBAR is walked once
per iteration, or twice where its count is a register's; any other loop once, its commands counted as often as it runs. -/
def walk (cmds : List (Nat × Nat)) : Nat → Nat → Nat → Option Nat → Bool → List Ev × Bool
  | 0, _, _, _, _ => ([], false)
  | n + 1, i, stop, mult, sure =>
    if stop ≤ i then ([], false)
    else match mapFind? cmds i with
      | none => ([], true)
      | some c =>
        if cClass c = 7 then
          let last := i + cf c 1 23 0
          let hasBar := cmds.any (fun e => i < e.1 && e.1 ≤ last && cClass e.2 == 6 && cOp e.2 == 1)
          let total := if cCreg c then none else some (cCount c)
          let body :=
            if hasBar then
              (List.range (total.getD 2)).foldl (fun (acc : List Ev × Bool) _ =>
                if acc.2 then acc else
                let r := walk cmds n (i + 1) (last + 1) mult (sure && !cCreg c)
                (acc.1 ++ r.1, r.2)) ([], false)
            else walk cmds n (i + 1) (last + 1) (mulOpt mult total) (sure && !cCreg c)
          if body.2 ∧ !cCreg c then (⟨i, c, mult, sure⟩ :: body.1, true)
          else
            let rest := walk cmds n (last + 1) stop mult (sure && !body.2)
            (⟨i, c, mult, sure⟩ :: body.1 ++ rest.1, rest.2)
        else if alwaysHalts c then ([⟨i, c, mult, sure⟩], true)
        else if cPred c = 0 ∧ cPneg c = 1 then walk cmds n (i + 1) stop mult sure
        else
          let cond := cPred c != 0
          let rest := walk cmds n (i + 1) stop mult (sure && !(cond && cClass c == 14))
          (⟨i, c, if cond then none else mult, sure && !cond⟩ :: rest.1, rest.2)

/-- The walk of a tile. -/
def VTile.walk (v : VTile) : List Ev := (Sys2Proof.Machine.walk v.cmds (v.dir.cmdLen + 1) 0 v.dir.cmdLen (some 1) true).1

/-- Whether a command is an FBAR, and its barrier. -/
def fbarOf (c : Nat) : Option Nat := if cClass c = 6 ∧ cOp c = 1 then some (cf c 1 15 0) else none

/-! Kneader declarations (R197, R328). -/

/-- The KNEAD entries, in table order. -/
def Img.kneads (m : Img) : List KDecl := (m.entries 9).map (fun e =>
  let u (o w : Nat) := m.u (e.2 + o) w
  { kslot := u 0 1, desc := u 1 1, kind := u 2 1, fmt := u 3 1, red := u 4 1, bar := u 6 2, first := u 8 2, ptiles := u 0xA 2, srcLo := u 0xC 2,
    srcLen := u 0xE 2, dstLo := u 0x10 2, dstLen := u 0x12 2, readyCount := u 0x14 4, members := u 0x18 4 })

/-- Whether a ptile lies among a declaration's members. -/
def KDecl.has (k : KDecl) (pt : Nat) : Bool := decide (k.first ≤ pt) && decide (pt < k.first + k.ptiles)

/-- Whether the image declares a frame barrier. -/
def Img.isBar (m : Img) (bar : Nat) : Bool := m.kneads.any (fun k => k.kind == 7 && k.bar == bar)

/-- The failing field of KNEAD entry `i` (Tables 6-6 and 11-1). -/
def State.kneadBad (s : State) (p : Nat) (m : Img) (ks : List KDecl) (i o : Nat) : Option Nat :=
  match ks[i]? with
  | none => none
  | some k =>
    let barrier := k.kind == 6 || k.kind == 7
    let reduces := k.kind == 1 || k.kind == 2
    firstBad [
      (0, decide ((s.bound 3 p).length ≤ k.kslot) || (ks.take i).any (fun r => r.kslot == k.kslot && r.desc == k.desc)),
      (2, decide (k.kind < 1) || decide (7 < k.kind)),
      (3, if barrier then k.fmt != 0 else if reduces then !(([0, 1, 3, 5, 9] : List Nat).contains k.fmt) else decide (9 < k.fmt)),
      (4, if reduces then decide (2 < k.red) else k.red != 0xFF),
      (5, m.u (o + 5) 1 != 0),
      (6, if barrier then k.bar == 0xFFFF || (ks.take i).any (fun r => (r.kind == 6 || r.kind == 7) && r.bar == k.bar) else k.bar != 0xFFFF),
      (0xA, decide (k.ptiles < 1) || decide (32 * m.columns < k.first + k.ptiles)),
      (0xC, decide (896 < k.srcLo + k.srcLen) || (barrier && k.srcLen != 0)),
      (0x10, decide (896 < k.dstLo + k.dstLen) || (barrier && k.dstLen != 0)),
      (0x14, k.kind != 7 && k.readyCount == 0),
      (0x18, decide (k.members < 1) || decide (m.shape.foldl (· * ·) 1 < k.members)),
      (0x1C, m.u (o + 0x1C) 4 != 0)]

/-- 0x1056. -/
def State.checkKneads (s : State) (p : Nat) (m : Img) (vs : List VTile) : List Rej :=
  let ks := m.kneads
  let head : List Rej := if m.isBar (m.u 0x18 2) then [] else [{ code := 0x1056, off := 0x18 }]
  head ++ m.badEntries 0x1056 9 (fun _ => 0xFFFF) (s.kneadBad p m ks) ++
  m.badCmds vs 0x1056 (fun v _ c =>
    match fbarOf c with
    | some b => if ks.any (fun k => k.kind == 7 && k.bar == b && k.has v.dir.ptile) then none else some 1
    | none =>
      if cClass c = 6 ∧ 2 ≤ cOp c then
        if ks.any (fun k => k.kslot == cf c 1 5 0 && k.desc == cf c 1 15 8 && k.has v.dir.ptile) then none else some 1
      else none)

/-! Exchange streams (R195, R217 to R221). -/

/-- The XSLOT entries, in table order. -/
def Img.streams (m : Img) : List Stream := (m.entries 7).map (fun e =>
  { id := m.u e.2 2, src := m.u (e.2 + 2) 2, dst := m.u (e.2 + 4) 2, bar := m.u (e.2 + 6) 2, firstBeat := m.u (e.2 + 8) 4, cycle := m.u (e.2 + 0xC) 1,
    period := m.u (e.2 + 0xD) 1, loaves := m.u (e.2 + 0xE) 2 })

/-- The counts of a tile's SENDs (op 0) or RECVs (op 1) on a stream within each span of its beat reference; none where a count is not static. -/
def spanCounts (x : Stream) (op : Nat) : List Ev → Option Nat → List (Option Nat)
  | [], acc => [acc]
  | e :: es, acc =>
    if x.bar ≠ 0xFFFF ∧ fbarOf e.cmd = some x.bar then acc :: spanCounts x op es (some 0)
    else if cClass e.cmd = 5 ∧ cOp e.cmd = op ∧ cf e.cmd 1 11 0 = x.id then
      let n := if cCreg e.cmd then none else mulOpt e.mult (some (cCount e.cmd))
      spanCounts x op es (match acc, n with | some a, some b => some (a + b) | _, _ => none)
    else spanCounts x op es acc

/-- Whether some span of a tile carries a number of loaves that is neither none nor the stream's. -/
def VTile.spanBad (v : VTile) (x : Stream) (op : Nat) : Bool :=
  (spanCounts x op v.walk (some 0)).any (fun n => match n with | some k => k != 0 && k != x.loaves | none => false)

/-- The group of a ptile. -/
def Img.groupOf (m : Img) (pt : Nat) : Nat := m.group (pt / 32)

/-- 0x1051: an entry of Table 6-5 that is malformed, or a SEND or RECV of the wrong tile. -/
def Img.checkStreams (m : Img) (vs : List VTile) : List Rej :=
  let xs := m.streams
  let tile (pt : Nat) : Option VTile := vs.find? (fun v => v.dir.ptile == pt)
  m.badEntries 0x1051 7 (fun _ => 0xFFFF) (fun i o =>
    match xs[i]? with
    | none => none
    | some x =>
      let gs := m.groupOf x.src
      let gd := m.groupOf x.dst
      firstBad [
        (0, decide (4095 < x.id) || (xs.take i).any (fun r => r.id == x.id)),
        (2, (tile x.src).isNone),
        (4, (tile x.dst).isNone || x.src == x.dst || (gs != gd && !((m.adj gs).testBit gd || (m.adj gd).testBit gs))),
        (6, x.bar != 0xFFFF && !m.isBar x.bar),
        (0xC, decide (63 < x.cycle)),
        (0xD, x.period == 0),
        (0xE, x.loaves == 0 || (match tile x.src with | some v => v.spanBad x 0 | none => false) ||
              (match tile x.dst with | some v => v.spanBad x 1 | none => false)),
        (0x10, m.u (o + 0x10) 8 != 0)]) ++
  m.badCmds vs 0x1051 (fun v _ c =>
    if cClass c ≠ 5 then none
    else match xs.find? (fun x => x.id == cf c 1 11 0) with
      | none => none
      | some x => if (if cOp c = 0 then x.src else x.dst) = v.dir.ptile then none else some 1)

/-- Die, logical column and row of a ptile. -/
def State.placeOf (s : State) (p pt : Nat) : Nat × Nat × Nat :=
  let c := (s.ofRank 0 p (pt / 32)).getD 0
  (c / 36, c % 36, pt % 32)

/-- Links along a line from `a` to `b`: the node each leaves and whether it leads upward. -/
def hopsOf (a b : Nat) : List (Nat × Nat) :=
  if a ≤ b then (List.range (b - a)).map (fun k => (a + k, 1)) else (List.range (a - b)).map (fun k => (a - k, 0))

/-- The first crossing slot of column `x` at or after a cycle (R220). -/
def nextSlot (x a : Nat) : Nat :=
  let own (c : Nat) : Bool := c % 64 == x / 2 || c % 64 == x / 2 + 18 || c % 64 == x / 2 + 36
  a + ((List.range 64).find? (fun k => own (a + k))).getD 0

/-- What loaf `i` of a stream holds: resources with the cycle from the beat reference, and its stay in its source column's gateway (R219 to R221).
Resources: 1 row link, 2 column link, 3 egress, 4 ingress, 5 release into a column, 6 crossing slot; a row link outside the polder's columns is 0. -/
def State.loafHolds (s : State) (p : Nat) (x : Stream) (i : Nat) : List (List Nat × Nat) × Option (List Nat × Nat × Nat) :=
  let (d, xs, ys) := s.placeOf p x.src
  let (e, xd, yd) := s.placeOf p x.dst
  let t := 64 * x.firstBeat + x.cycle + i * x.period
  let mine (c : Nat) : Bool := s.owner 0 (36 * d + c) == some p
  if d = e then
    let rows := (hopsOf xs xd).map (fun h =>
      if mine h.1 && mine (if h.2 = 1 then h.1 + 1 else h.1 - 1) then [1, d, ys, h.1, h.2] else [0])
    let cols := (hopsOf ys yd).map (fun h => [2, d, xd, h.1, h.2])
    let links := rows ++ cols
    (([3, x.src], t + 12) :: links.mapIdx (fun k l => (l, t + 13 + k)) ++ [([4, x.dst], t + links.length + 13)], none)
  else
    let up := (hopsOf ys 0).mapIdx (fun k h => ([2, d, xs, h.1, h.2], t + 13 + k))
    let a := t + 13 + ys
    let g := nextSlot xs a
    let down := (hopsOf 0 yd).mapIdx (fun k h => ([2, e, xd, h.1, h.2], g + 49 + k))
    (([3, x.src], t + 12) :: up ++ [([6, d, e, xs], g), ([5, e, xd], g + 48)] ++ down ++ [([4, x.dst], g + 49 + yd)], some ([d, xs], a, g))

/-- 0x1052: two loaves of one beat reference in one resource in one cycle, a link outside the polder, or a fifth loaf in a gateway. -/
def State.checkPaths (s : State) (p : Nat) (m : Img) : List Rej :=
  let xs := m.streams.mapIdx (fun i x => (i, x))
  let held (x : Stream) := (List.range x.loaves).map (s.loafHolds p x)
  let bad (q : Nat × Stream) : Bool :=
    let own := (held q.2).flatMap (·.1)
    let refs := xs.filter (fun r => r.2.bar == q.2.bar)
    let others := (refs.filter (fun r => r.1 != q.1)).flatMap (fun r => (held r.2).flatMap (·.1))
    let stays := refs.flatMap (fun r => (held r.2).filterMap (·.2))
    own.any (fun h => h.1 == [0] || others.contains h) || own.eraseDups.length != own.length ||
      stays.any (fun a => decide (4 < (stays.filter (fun b => b.1 == a.1 && b.2.1 ≤ a.2.1 && a.2.1 < b.2.2)).length))
  (xs.filter bad).map (fun q => { code := 0x1052, at_ := (m.sec 7).off, sect := 7, entry := q.1, off := (m.sec 7).off + 24 * q.1 + 8 })

/-! Link reservations (R196). -/

/-- The LINKRES entries, in table order. -/
def Img.links (m : Img) : List LinkResDecl := (m.entries 8).map (fun e =>
  { port := m.u e.2 1, dir := m.u (e.2 + 1) 1, bar := m.u (e.2 + 2) 2, firstBeat := m.u (e.2 + 4) 4, beats := m.u (e.2 + 8) 4, rate := m.u (e.2 + 0xC) 2 })

/-- 0x1054, for a malformed entry too. -/
def State.checkPorts (s : State) (p : Nat) (m : Img) : List Rej :=
  m.badEntries 0x1054 8 (fun _ => 0xFFFF) (fun _ o => firstBad [
    (0, decide ((s.bound 2 p).length ≤ m.u o 1)), (1, decide (1 < m.u (o + 1) 1)), (0xE, m.u (o + 0xE) 2 != 0)])

/-- 0x1055: reservations of one barrier on one port and direction that ask for more than 25 loaves in the first beat of an entry. -/
def Img.checkRates (m : Img) : List Rej :=
  let ls := m.links
  m.badEntries 0x1055 8 (fun _ => 0xFFFF) (fun i _ =>
    match ls[i]? with
    | none => none
    | some l =>
      let b := l.firstBeat
      let here := ls.filter (fun r => r.port == l.port && r.dir == l.dir && r.bar == l.bar && r.firstBeat ≤ b && b < r.firstBeat + r.beats)
      if 25 < here.foldl (fun (n : Nat) r => n + r.rate) 0 then some 0xC else none)

/-! Current profile (R198). -/

/-- A group's profile: the group, the offset of its prologue count, prologue and step entries as (beats, class), and the offset behind it. -/
structure Prof where
  group : Nat
  at_ : Nat
  pro : List (Nat × Nat)
  steps : List (Nat × Nat)
  next : Nat
deriving DecidableEq, Repr

/-- The profile of a group at an offset. -/
def Img.prof (m : Img) (g o : Nat) : Prof :=
  let np := m.u o 2
  let nq := m.u (o + 2) 2
  let ent (k : Nat) : Nat × Nat := (m.u (o + 4 + 4 * k) 2, m.u (o + 6 + 4 * k) 2)
  { group := g, at_ := o, pro := (List.range np).map ent, steps := (List.range nq).map (fun k => ent (np + k)), next := o + 4 + 4 * (np + nq) }

/-- The profiles of the groups that PLACEMENT uses, in ascending order. -/
def Img.profs (m : Img) : List Prof :=
  (((List.range 4).filter m.groupUsed).foldl (fun (acc : List Prof × Nat) g => let q := m.prof g acc.2; (q :: acc.1, q.next)) ([], (m.sec 0xA).off)).1.reverse

/-- A failure of entry `k` of a profile, counted over prologue and steps; the record's entry index is that within its list. -/
def Img.profRej (m : Img) (code : Nat) (q : Prof) (k word : Nat) : Rej :=
  { code := code, at_ := (m.sec 0xA).off, sect := 0xA, entry := if k < q.pro.length then k else k - q.pro.length, off := q.at_ + 4 + 4 * k + word }

/-- The profile failure that lies lowest in the image. -/
def lowestRej (rs : List Rej) : List Rej := match rs with | [] => [] | r :: qs => [qs.foldl (fun a b => if b.off < a.off then b else a) r]

/-- 0x1058. -/
def Img.checkProfForm (m : Img) : List Rej :=
  let top := (m.sec 0xA).off + (m.sec 0xA).size
  let qs := m.profs
  let ends := (qs.getLast?).map (·.next)
  lowestRej (qs.flatMap (fun q =>
    (if q.next ≤ top ∧ q.pro ≠ [] ∧ q.steps ≠ [] then [] else [{ code := 0x1058, at_ := (m.sec 0xA).off, sect := 0xA, off := q.at_ }]) ++
    (if q.next ≤ top then ((q.pro ++ q.steps).mapIdx (fun k e => (k, e))).filterMap (fun e =>
      if e.2.1 = 0 then some (m.profRej 0x1058 q e.1 0) else if 4096 ≤ e.2.2 then some (m.profRej 0x1058 q e.1 2) else none) else [])) ++
    (if ends = some top then [] else [{ code := 0x1058, at_ := (m.sec 0xA).off, sect := 0xA, off := ends.getD top }]))

/-- The allotment of a polder on a die (R386). -/
def State.allot (s : State) (p d : Nat) : Nat := s.getA pgWeir 0x124 (p + 64 * d) 11 0

/-- 0x1059. -/
def State.checkBudget (s : State) (p : Nat) (m : Img) : List Rej :=
  lowestRej (m.profs.flatMap (fun q =>
    let d := (((List.range m.columns).find? (fun i => m.group i == q.group)).bind (s.ofRank 0 p)).getD 0 / 36
    ((q.pro ++ q.steps).mapIdx (fun k e => (k, e))).filterMap (fun e => if s.allot p d < e.2.2 then some (m.profRej 0x1059 q e.1 2) else none)))

/-- 0x105A: a change of more than 40 classes, from 0 at task start through both lists and then from the step list's last entry back to its first: the first
such change, at the entry it leads to. -/
def Img.checkRamp (m : Img) : List Rej :=
  let far (a b : Nat) : Bool := decide (40 < a - b) || decide (40 < b - a)
  (m.profs.flatMap (fun q =>
    let cs := (q.pro ++ q.steps).map (·.2)
    let seq := ((0 :: cs).zip cs).mapIdx (fun k e => (k, far e.1 e.2))
    let wrap := far ((cs.getLast?).getD 0) ((q.steps.map (·.2)).headD 0)
    ((seq ++ [(q.pro.length, wrap)]).filter (·.2)).map (fun e => m.profRej 0x105A q e.1 2))).take 1

end Sys2Proof.Machine
end

