-- ==== Sys2Proof/Machine/VerifyDet.lean ====
section
/-!
DEFINITION. The verifier's analysis of the DET and REPLAY_SAFE flags (06_images_and_verifier.md R206, R208, R209; 01_architecture.md R41).
-/
namespace Sys2Proof.Machine

/-! Sets of addresses. -/

/-- A footprint: accesses of `size` bytes at base + Σ iₖ × strideₖ, with iₖ below countₖ, every count at least 2. -/
structure Foot where
  base : Int
  dims : List (Nat × Int)
  size : Nat
deriving DecidableEq, Repr

/-- The lowest address of a footprint and the first one above it. -/
def Foot.hull (f : Foot) : Int × Int :=
  let e := f.dims.foldl (fun (a : Int × Int) q => let d := ((q.1 - 1 : Nat) : Int) * q.2; (a.1 + min 0 d, a.2 + max 0 d)) (f.base, f.base)
  (e.1, e.2 + f.size)

/-- The two halves of a footprint along its first dimension. -/
def Foot.halve (f : Foot) : Option (Foot × Foot) :=
  match f.dims with
  | [] => none
  | (n, st) :: ds =>
    let cut (k : Nat) : List (Nat × Int) := if k < 2 then ds else (k, st) :: ds
    some ({ f with dims := cut (n / 2) }, { f with base := f.base + ((n / 2 : Nat) : Int) * st, dims := cut (n - n / 2) })

/-- Whether two footprints share a byte; `fuel` bounds the halvings, of which at most 204 are ever nested. -/
def Foot.meets : Nat → Foot → Foot → Bool
  | 0, _, _ => true
  | n + 1, a, b =>
    let x := a.hull
    let y := b.hull
    if x.2 ≤ y.1 ∨ y.2 ≤ x.1 then false
    else
      let half (p q : Foot) (flip : Bool) : Option Bool := p.halve.map (fun h =>
        if flip then Foot.meets n q h.1 || Foot.meets n q h.2 else Foot.meets n h.1 q || Foot.meets n h.2 q)
      let r := if y.2 - y.1 ≤ x.2 - x.1 then (half a b false).orElse (fun _ => half b a true) else (half b a true).orElse (fun _ => half a b false)
      r.getD true

/-- The footprint of a walker in a segment, in polder addresses (R206), its widest dimension first. -/
def Walker.foot (w : Walker) (g : Segment) (size : Nat) : Foot :=
  let ds := (w.counts.zip w.strides).filter (fun q => decide (2 ≤ q.1))
  let wide (q : Nat × Int) : Nat := (q.1 - 1) * q.2.natAbs
  { base := (g.base : Int) + w.base, size := size,
    dims := ds.foldr (fun q acc => acc.takeWhile (fun r => wide q < wide r) ++ q :: acc.dropWhile (fun r => wide q < wide r)) [] }

/-! Memory accesses of a tile. -/

/-- A memory access of a reachable command: its tile and command, whether it only reads, its footprint, whether the verifier bounds it, and how many releases
of each barrier come before it in the tile's stream. -/
structure MemAcc where
  pt : Nat
  idx : Nat
  reads : Bool
  foot : Foot
  bounded : Bool
  after : SMap Nat
deriving DecidableEq, Repr

/-- The memory accesses of one command (R206, R208). -/
def VTile.accesses (v : VTile) (r : RegView) (idx c : Nat) (after : SMap Nat) : List MemAcc :=
  let x := v.tile
  let slots := ((opSlots c 1).mapIdx (fun k sl => (k, sl))).filter (fun q => q.2.used && 4 ≤ (x.wlk q.2.wlk).space)
  let walks := slots.map (fun q =>
    let w := x.wlk q.2.wlk
    { pt := v.dir.ptile, idx := idx, reads := !slotWrites (cClass c) (cOp c) q.1, foot := w.foot (x.seg (w.space - 4)) (posBytes c q.1 true),
      bounded := true, after := after : MemAcc })
  if cClass c = 10 then
    let g := x.seg (cf c 1 23 22)
    match r.address c with
    | some (lo, hi) => [{ pt := v.dir.ptile, idx := idx, reads := false, bounded := true, after := after,
                          foot := { base := (g.base : Int) + lo, dims := [], size := hi - lo + regAccess c } }]
    | none => [{ pt := v.dir.ptile, idx := idx, reads := false, foot := { base := g.base, dims := [], size := g.bound }, bounded := false, after := after }]
  else walks

/-- What is known of registers before each reachable command, by index. -/
def VTile.viewMap (v : VTile) : SMap RegView := (v.cmds.map (·.1)).zip v.views

/-- The walk of a tile with, for each command it passes, the releases before it. -/
def VTile.timeline (v : VTile) : List (Ev × SMap Nat) :=
  (v.walk.foldl (fun (acc : List (Ev × SMap Nat) × SMap Nat) e =>
    ((e, acc.2) :: acc.1, match fbarOf e.cmd with | some b => mapSet acc.2 b (mapGet acc.2 b 0 + 1) | none => acc.2)) ([], [])).1.reverse

/-- How often a tile's stream passes each barrier in all. -/
def VTile.barTotals (v : VTile) : SMap Nat :=
  v.walk.foldl (fun m e => match fbarOf e.cmd with | some b => mapSet m b (mapGet m b 0 + 1) | none => m) []

/-- What the analysis needs of a tile: its accesses, the passes of each barrier, and whether its barrier sequence is known. -/
structure TileRun where
  accs : List MemAcc
  totals : SMap Nat
  known : Bool
deriving DecidableEq, Repr

/-- The run of a tile. -/
def VTile.run (v : VTile) : TileRun :=
  let vm := v.viewMap
  { accs := v.timeline.flatMap (fun e => v.accesses (mapGet vm e.1.idx {}) e.1.idx e.1.cmd e.2), totals := v.barTotals,
    known := v.walk.all (fun e => (fbarOf e.cmd).isNone || e.sure) }

/-- Whether a release of one barrier falls between two accesses in both tiles' streams (R208). -/
def ordered (ra rb : TileRun) (a b : MemAcc) : Bool :=
  ra.totals.any (fun q =>
    let ca := mapGet a.after q.1 0
    let cb := mapGet b.after q.1 0
    (decide (ca < cb) && decide (ca < q.2)) || (decide (cb < ca) && decide (cb < mapGet rb.totals q.1 0)))

/-- What clears DET, with the access: ptile, command and bit of Table 6-9. -/
abbrev DetHit := Nat × Nat × Nat

/-- Bit 0: an ATOM ADD on FP32 or BF16. -/
def VTile.fpAtomics (v : VTile) : List DetHit :=
  (v.cmds.filter (fun e => cClass e.2 == 10 && cOp e.2 == 0 && (cf e.2 1 21 20 == 1 || cf e.2 1 21 20 == 2))).map (fun e => (v.dir.ptile, e.1, 0))

/-- Bits 1 and 3 for two tiles: unordered accesses that overlap, one of which does not only read; bit 3 where the finding rests on a footprint or a
barrier sequence that the verifier cannot bound or match. -/
def pairHits (ra rb : TileRun) : List DetHit :=
  ra.accs.flatMap (fun a => rb.accs.flatMap (fun b =>
    if (a.reads && b.reads) || !Foot.meets 256 a.foot b.foot then []
    else
      let known := ra.known && rb.known
      if known && ordered ra rb a b then []
      else (a.pt, a.idx, 1) :: (if known && a.bounded && b.bounded then [] else [(a.pt, a.idx, 3)])))

/-- The hits of every pair of tiles. -/
def multiSource : List TileRun → List DetHit
  | [] => []
  | r :: rs => rs.flatMap (pairHits r) ++ multiSource rs

/-! Polling (bit 2). -/

/-- Commands that may follow command `k` (R145): the next, a loop's end by a register count of 0, and back to the start of each body that ends there. -/
def VTile.succs (v : VTile) (k c : Nat) : List Nat :=
  let skip := if cClass c = 7 ∧ cCreg c then [k + 1 + cf c 1 23 0] else []
  let back := (v.cmds.filter (fun e => cClass e.2 == 7 && (e.1 + cf e.2 1 23 0 == k || (skip != [] && e.1 + cf e.2 1 23 0 == k + cf c 1 23 0)))).map (fun e => e.1 + 1)
  if alwaysHalts c then [] else (k + 1) :: skip ++ back

/-- Loaves that an LDC or STC may touch. -/
def RegView.crumbLoaves (r : RegView) (c : Nat) : Nat × Nat := match r.address c with | some (lo, hi) => (lo / 512, hi / 512) | none => (0, 895)

/-- Loaves of the scratchpad that the tile's MOVE LOADs fill from segments. -/
def VTile.loadSpans (v : VTile) : List (Nat × Nat) :=
  (v.cmds.filter (fun e => cClass e.2 == 1 && cOp e.2 == 0)).map (fun e =>
    let sp := (v.tile.wlk (cf e.2 2 7 4)).span
    (sp.1.toNat / 512, sp.2.toNat / 512))

/-- Whether two spans of loaves meet. -/
def spansMeet (a b : Nat × Nat) : Bool := decide (a.1 ≤ b.2) && decide (b.1 ≤ a.2)

/-- The registers that hold a value read from a segment after a command, given those before and the spans that hold one. -/
def taintAfter (r : RegView) (spans : List (Nat × Nat)) (c : Nat) (t : List Nat) : List Nat :=
  let d := writesS c
  if d = 0 ∨ (cPred c = 0 ∧ cPneg c = 1) then t
  else
    let hit := if cClass c = 10 then true
      else if cClass c = 8 ∧ cOp c = 0 then t.contains (cf c 1 15 11) || (cf c 1 21 21 == 0 && t.contains (cf c 1 20 16))
      else if cClass c = 8 ∧ cOp c = 4 then spans.any (spansMeet (r.crumbLoaves c))
      else false
    if hit then (if t.contains d then t else d :: t) else if cPred c = 0 then t.filter (· != d) else t

/-- One pass of the taint analysis: the registers before each command, and the spans with those that STC adds. -/
def VTile.taintPass (v : VTile) (vm : SMap RegView) (st : SMap (List Nat) × List (Nat × Nat)) : SMap (List Nat) × List (Nat × Nat) :=
  v.cmds.foldl (fun acc e =>
    let r := mapGet vm e.1 {}
    let before := mapGet acc.1 e.1 []
    let after := taintAfter r acc.2 e.2 before
    let ins := (v.succs e.1 e.2).foldl (fun m k => mapSet m k ((mapGet m k [] ++ after).eraseDups)) acc.1
    let sp := r.crumbLoaves e.2
    let spans := if cClass e.2 = 8 ∧ cOp e.2 = 5 ∧ before.contains (cf e.2 1 20 16) ∧ !acc.2.contains sp then sp :: acc.2 else acc.2
    (ins, spans)) st

/-- Bits 2 and 3 for a tile: a value read from a segment flows through a register into a LOOP count, a CMP's predicate or the address of an ATOM;
bit 3 where an LDC that cannot be bounded takes part. 64 passes reach the fixed point: at most 31 registers can join, and each STC's span once. -/
def VTile.polling (v : VTile) : List DetHit :=
  let vm := v.viewMap
  let fin := (List.range (64 + v.cmds.length)).foldl (fun st _ => v.taintPass vm st) ([], v.loadSpans)
  let hits := v.cmds.filter (fun e =>
    let t := mapGet fin.1 e.1 []
    let c := e.2
    (cClass c == 7 && cCreg c && t.contains (cCount c % 32)) ||
      (cClass c == 8 && cOp c == 1 && (t.contains (cf c 1 15 11) || (cf c 1 21 21 == 0 && t.contains (cf c 1 20 16)))) ||
      (cClass c == 10 && t.contains (cf c 1 4 0)))
  let loose := v.cmds.any (fun e => cClass e.2 == 8 && cOp e.2 == 4 && ((mapGet vm e.1 {}).address e.2).isNone)
  hits.flatMap (fun e => (v.dir.ptile, e.1, 2) :: (if loose then [(v.dir.ptile, e.1, 3)] else []))

/-- Everything that clears DET but the header (Table 6-9). -/
def detHits (vs : List VTile) : List DetHit := vs.flatMap VTile.fpAtomics ++ multiSource (vs.map VTile.run) ++ vs.flatMap VTile.polling

/-- det_clear: the bits of the hits, and bit 4 where the header arrived with DET = 0. -/
def detClear (m : Img) (hits : List DetHit) : Nat :=
  (List.range 4).foldl (fun n b => if hits.any (fun h => h.2.2 == b) then n + 2 ^ b else n) 0 + (if bitOf (m.u 6 2) 0 then 0 else 16)

/-- The hit that R204's order puts first. -/
def firstHit : List DetHit → Option DetHit
  | [] => none
  | h :: hs => some (hs.foldl (fun a b => if lexLt [b.1, b.2.1, b.2.2] [a.1, a.2.1, a.2.2] then b else a) h)

/-- DIE_LDR_FLAGLOC: the tile and command of the first access that cleared DET, and its reason; with no such access, reason 4 where the header arrived
clear, or none. -/
def flagLoc (m : Img) (hits : List DetHit) : Word :=
  match firstHit hits with
  | some (pt, k, b) => BitVec.ofNat 64 (pt + k * 2 ^ 16 + b * 2 ^ 40)
  | none => BitVec.ofNat 64 (0xFF_FFFF_FFFF + (if bitOf (m.u 6 2) 0 then 0x1F else 4) * 2 ^ 40)

/-! REPLAY_SAFE (R209). -/

/-- Whether two consecutive FBARs on the step barrier have no SNAP between them that issues on every path. -/
def stepWithoutSnap (bar : Nat) : List Ev → Option Bool → Bool
  | [], _ => false
  | e :: es, seen =>
    if fbarOf e.cmd = some bar then seen == some false || stepWithoutSnap bar es (some false)
    else if cClass e.cmd = 12 ∧ e.sure then stepWithoutSnap bar es (seen.map (fun _ => true))
    else stepWithoutSnap bar es seen

/-- The releases before each packet operation `op` of a tile on queue rank `q`, one entry per packet where the number is known. -/
def VTile.packets (v : VTile) (q op : Nat) : List (SMap Nat) :=
  v.timeline.flatMap (fun e =>
    if cClass e.1.cmd = 9 ∧ cOp e.1.cmd = op ∧ cf e.1.cmd 1 7 0 = q then List.replicate (e.1.mult.getD 1) e.2 else [])

/-- Whether the step windows of a packet's two ends differ in a barrier that both tiles pass. -/
def windowsDiffer (ta tb : SMap Nat) (a b : SMap Nat) : Bool := ta.any (fun q => (mapFind? tb q.1).isSome && mapGet a q.1 0 != mapGet b q.1 0)

/-- Whether a packet of a queue is opened in one step window and closed or popped in another. -/
def packetSplit (vs : List VTile) (q : Nat) : Bool :=
  let ends (op : Nat) : List (SMap Nat × SMap Nat) := vs.flatMap (fun v => (v.packets q op).map (fun w => (v.barTotals, w)))
  let differ (xs ys : List (SMap Nat × SMap Nat)) : Bool := (xs.zip ys).any (fun e => windowsDiffer e.1.1 e.2.1 e.1.2 e.2.2)
  differ (ends 0) (ends 2) || differ (ends 0) (ends 3)

/-- replay_clear (Table 6-11). -/
def replayClear (m : Img) (vs : List VTile) (det : Nat) : Nat :=
  let qs := (vs.flatMap (fun v => (v.cmds.filter (fun e => cClass e.2 == 9)).map (fun e => cf e.2 1 7 0))).eraseDups
  b2n (det != 0) + 2 * b2n (!m.has 0xB) + 4 * b2n (vs.any (fun v => stepWithoutSnap (m.u 0x18 2) v.walk none)) +
    8 * b2n (qs.any (packetSplit vs)) + 16 * b2n (!bitOf (m.u 6 2) 1)

end Sys2Proof.Machine
end

