-- ==== Sys2Proof/Machine/LoadDone.lean ====
section
/-!
DEFINITION. LOAD_DONE: reading, verifying, installing and reporting an image (06_images_and_verifier.md R201 to R212; 13_power_current_thermal.md R387,
R388; 11_kneader.md R330; 09_spill_queues.md R291).
-/
namespace Sys2Proof.Machine

/-- The first failure of a list of checks, in check order. -/
def runChecks : List (Unit → List Rej) → Option Rej
  | [] => none
  | f :: fs => (firstRej (f ())).orElse (fun _ => runChecks fs)

/-- The outcome of the timing model (R110, R207, R222): 0 passes; 1, 2, 3 fail with 0x1052, 0x1053 or 0x1057. The model takes it from the command; where it
fails, what the record names in the section is a free value. -/
def timingRej (m : Img) (v t : Nat) : List Rej :=
  let rej (code ty : Nat) : List Rej :=
    [{ code := code, at_ := (m.sec ty).off, sect := ty, pt := v % 2 ^ 16, entry := v / 2 ^ 16 % 2 ^ 32, cmd := v / 2 ^ 48 % 2 ^ 32, off := v / 2 ^ 80 % 2 ^ 32 }]
  match t with | 0 => [] | 1 => rej 0x1052 7 | 2 => rej 0x1053 7 | _ => rej 0x1057 9

/-- Phase 4's checks (R201, Table 6-8). -/
def Img.readChecks (m : Img) : Option Rej := runChecks [fun _ => m.checkMagic, fun _ => m.checkHeader, fun _ => m.checkTable, fun _ => m.checkCrcs]

/-- Phase 5's checks of the placement and the tile directory, in the order of Table 6-8. -/
def State.verifyPlaces (s : State) (p : Nat) (m : Img) : Option Rej :=
  runChecks [fun _ => s.checkPlacement p m, fun _ => s.checkGroups p m, fun _ => s.checkShape p m, fun _ => m.checkDir]

/-- The rest of phase 5's checks, in the order of Table 6-8. -/
def State.verifyTiles (s : State) (p addr : Nat) (m : Img) (vs : List VTile) (timing free : Nat) : Option Rej :=
  let at_ (k : Nat) : List Rej := if timing = k then timingRej m free k else []
  runChecks [fun _ => s.checkSegs p addr m,
    fun _ => m.checkWalkers, fun _ => m.checkEncoding vs, fun _ => m.checkLoops vs, fun _ => m.checkHalt vs, fun _ => m.checkRanges vs,
    fun _ => m.checkPerms vs, fun _ => m.checkDeclared vs, fun _ => m.checkBlocks vs, fun _ => s.checkQueues p m vs, fun _ => m.checkSnaps vs,
    fun _ => s.checkKneads p m vs, fun _ => m.checkStreams vs, fun _ => s.checkPaths p m ++ at_ 1, fun _ => at_ 2, fun _ => if timing < 3 then [] else timingRej m free 3,
    fun _ => s.checkPorts p m, fun _ => m.checkRates, fun _ => m.checkProfForm, fun _ => s.checkBudget p m, fun _ => m.checkRamp]

/-! Installing (R201 phases 6 and 7). -/

/-- The loader writes a segment's initial contents (R194); through a host window they go to host memory where the window serves. -/
def State.initWrite (s : State) (p pa : Nat) (bs : List Byte) : State :=
  match s.xlate p pa with
  | .host _ _ => (s.polStore (s.leadDie p) p 3 pa bs).2
  | _ => s.loaderWrite p pa bs

/-- Every segment that has initial contents. -/
def State.initSegs (s : State) (p : Nat) (m : Img) : State :=
  (List.range m.sets).foldl (fun st i => (List.range 4).foldl (fun u k =>
    let e := m.seg i k
    if e.bound = 0 then u
    else if e.init = 1 then u.initWrite p e.base (zeros e.bound)
    else if e.init = 2 then u.initWrite p e.base (m.bytes ((m.sec 0xC).off + e.dataOff) e.dataLen ++ zeros (e.bound - e.dataLen))
    else u) st) s

/-- The bound register of a segment. -/
def Segment.boundReg (g : Segment) : Word :=
  BitVec.ofNat 64 (g.bound + b2n g.rd * 2 ^ 48 + b2n g.wr * 2 ^ 49 + b2n g.atom * 2 ^ 50)

/-- The ramp weight of a tile: its largest matrix weight plus its largest vector weight (R388). -/
def VTile.rampWeight (v : VTile) : Nat :=
  let top (f : Nat → Bool) : Nat := (v.cmds.filter (fun e => f e.2)).foldl (fun n e => max n (actWeight (actClass e.2))) 0
  top (fun c => cClass c == 2) + top (fun c => cClass c == 3 || (cClass c == 4 && cOp c == 2))

/-- One listed tile's registers; the tile enters LOADED. -/
def State.installTile (s : State) (p addr : Nat) (m : Img) (v : VTile) : State :=
  match s.tileOf p v.dir.ptile with
  | none => s
  | some t =>
    let pg := pgTile t
    let s1 := ((s.setReg pg 0x108 0 (BitVec.ofNat 64 (ctxId p (m.u 0xE 2)))).setReg pg 0x110 0 (BitVec.ofNat 64 (addr + v.dir.cmdOff))).setReg pg 0x118 0
      (BitVec.ofNat 64 v.dir.cmdLen)
    let s2 := (List.range 4).foldl (fun st k =>
      let g := v.tile.seg k
      (st.setReg pg (0x180 + 0x10 * k) 0 (BitVec.ofNat 64 g.base)).setReg pg (0x188 + 0x10 * k) 0 g.boundReg) s1
    let s3 := (s2.setReg pg 0xE40 0 (BitVec.ofNat 64 (m.u 0x12 1))).setF pg 0x14 0 11 0 (ceilDiv v.rampWeight 20)
    s3.onT t (fun x => { x with task := .loaded, ctx := ctxId p (m.u 0xE 2), walkers := v.tile.walkers, sregs := v.tile.sregs, preds := 1 })

/-- The kneaders' part: every descriptor of the polder's slots becomes invalid with its counts 0, and barrier declarations become valid (R330). -/
def State.installKneads (s : State) (p : Nat) (ks : List KDecl) : State :=
  let s1 := (s.bound 3 p).foldl State.emptySlot s
  ks.foldl (fun st k =>
    match st.ofRank 3 p k.kslot with
    | some q =>
      if k.kind = 6 ∨ k.kind = 7 then
        st.setKdesc (q / 16) (q % 16) k.desc { valid := true, kind := k.kind, fmt := k.fmt, red := k.red, first := k.first, ptiles := k.ptiles,
                                               readyCount := k.readyCount, members := k.members }
      else st
    | none => st) s1

/-- Link reservations at the polder's ports (R196, R318). -/
def State.installLinks (s : State) (p : Nat) (ls : List LinkResDecl) : State :=
  ls.foldl (fun st l =>
    match st.ofRank 2 p l.port with
    | some q =>
      let r : LinkRes := { pol := p, recv := l.dir == 1, bar := l.bar, firstBeat := l.firstBeat, beats := l.beats, rate := l.rate }
      { st with linkRes := mapSet st.linkRes q (mapGet st.linkRes q [] ++ [r]) }
    | none => st) s

/-- The admission timetable of each die (R388), with WEIR_RAMP_VIEW. -/
def State.installRamps (s : State) (p : Nat) (vs : List VTile) : State :=
  let budget := max 1 (s.getA pgWeir 0x110 0 8 0)
  let wave := max 1 (min 64 (s.getA pgWeir 0x110 0 22 16))
  (List.range 4).foldl (fun st d =>
    let ws := vs.filterMap (fun v =>
      match st.tileOf p v.dir.ptile with
      | some t => if tDie t = d ∧ v.rampWeight ≠ 0 then some (t, v.rampWeight) else none
      | none => none)
    let c := ((st.bound 0 p).filter (fun x => x / 36 == d)).length
    let adm := admissions (max 1 (budget * c / 36)) (max 1 (wave * c / 36)) (ws.map (·.2)) 0 0
    let view := (match adm.getLast? with | some a => a / 32 + 1 | none => 0) % 2 ^ 16 + adm.length * 2 ^ 16
    let st1 := st.setPol p { st.pol p with ramp := mapSet (st.pol p).ramp d ((ws.map (·.1)).zip adm) }
    st1.setReg pgWeir 0x12C (p + 64 * d) (BitVec.ofNat 64 view)) s

/-- Phases 6 and 7. -/
def State.install (s : State) (p : Nat) (r : LoadReq) (m : Img) (vs : List VTile) (flags : Nat) : State :=
  let im : Image :=
    { task := m.u 0xE 2, digest := m.digest, flags := flags, stepBar := m.u 0x18 2, groups := (List.range m.columns).map m.group, tiles := m.dir,
      streams := m.streams, links := m.links, kneads := m.kneads, snaps := m.snaps, profile := m.profs.map (fun q => (q.group, q.pro, q.steps)) }
  let s1 := vs.foldl (fun st v => st.installTile p r.addr m v) (s.initSegs p m)
  let s2 := ((s1.installKneads p im.kneads).installLinks p im.links).installRamps p vs
  let c := m.sec 3
  (s2.setPol p { s2.pol p with image := some im, prot := some (r.addr + c.off, ceilDiv c.size 512 * 512) }).sealPol p true

/-! The command. -/

/-- A rejected load: tiles stay cleared, the fence is lifted, the polder is sealed, and the record says why and where (R201, R210). -/
def State.rejectLoad (s : State) (p : Nat) (r : LoadReq) (task digest us : Nat) (e : Rej) : State :=
  (s.undoLoad p).endLoad p r { result := e.code, task := task, section_ := e.sect, ptile := e.pt, entry := e.entry, cmd := e.cmd, offset := e.off,
                               digest := digest, us := us }

/-- The image's bytes, or none where it does not lie in the polder's HBM at a multiple of 512, or a read of it fails (0x1060). -/
def State.readImage (s : State) (p : Nat) (r : LoadReq) (fails : Bool) : Option Img × State :=
  if fails ∨ r.addr % 512 ≠ 0 ∨ !s.inRankRun p r.addr r.length then (none, s)
  else match s.polLoad r.lead p 3 r.addr r.length with
    | (.ok bs, s1) => (some { b := bs.toArray, len := r.length }, s1)
    | (.error _, s1) => (none, s1)

/-- A load that passed its checks is installed and reported (R201 phases 6 to 8, R210). -/
def State.finishLoad (s : State) (p : Nat) (r : LoadReq) (us : Nat) (m : Img) (vs : List VTile) : State :=
  let hits := detHits vs
  let det := detClear m hits
  let rep := replayClear m vs det
  let flags := b2n (det == 0) + 2 * b2n (rep == 0)
  let s1 := (s.install p r m vs flags).setReg (pgDie r.lead) 0x320 0 (flagLoc m hits)
  s1.endLoad p r { result := 0, task := m.u 0xE 2 % 1024, flags := flags, detClear := det, replayClear := rep, digest := m.digest, tiles := vs.length, us := us }

/-- LOAD_DONE: once every tile of the polder is clear, phases 3 to 8 end. -/
def effLoadDone (p : Nat) (readFail : Bool) (us timing : Nat) (s : State) : State :=
  match (s.pol p).loading with
  | none => s
  | some r =>
    if (s.tilesOf p).any (fun t => (s.tile t).task == .clearing) then s
    else if r.abort then s.abandonLoad p
    else
      let s1 := ((s.bound 4 p).foldl State.flushQ s).setReg (pgDie r.lead) 0x320 0 (BitVec.ofNat 64 0x1FFF_FFFF_FFFF)
      match s1.readImage p r readFail with
      | (none, s2) => s2.rejectLoad p r 0 0 us { code := 0x1060, sect := 0xFFFF }
      | (some m, s2) =>
        let task := m.u 0xE 2 % 1024
        match m.readChecks with
        | some e => s2.rejectLoad p r task 0 us e
        | none =>
          match s2.verifyPlaces p m with
          | some e => s2.rejectLoad p r task m.digest us e
          | none =>
            let (v, s3) := if timing = 0 then (0, s2) else drawFree s2
            let vs := m.vtiles
            match s3.verifyTiles p r.addr m vs timing v with
            | some e => s3.rejectLoad p r task m.digest us e
            | none => s3.finishLoad p r us m vs

/-- LOAD_DONE. -/
def execLoadDone (p : Nat) (readFail : Bool) (us timing : Nat) (s : State) : Out := onPol p (fun _ => effLoadDone p readFail us timing s)

end Sys2Proof.Machine
end

