-- ==== Sys2Proof/Machine/Power.lean ====
section
/-!
DEFINITION. The power cap, the clock level, temperatures, tokens, proof ramps, and the beat and frame boundaries (13_power_current_thermal.md;
01_architecture.md R26 to R28; 08_memory_system.md R266).
-/
namespace Sys2Proof.Machine

/-! Tokens and ramps (R182, R385, R389). -/

/-- TOKEN_GRANT (R182, R385): the weir grants the token that the command at the front of tile `t`'s matrix or vector queue waits for, once the tile is
admitted and the engine idle; the command starts. -/
def effToken (t : Nat) (vec : Bool) (s : State) : State :=
  let x := s.tile t
  let eng := if vec then 3 else 2
  match mapGet x.dq eng [] with
  | [] => s
  | i :: _ =>
    let c := i.word.toNat
    if i.started ∨ x.tokenOk eng c ∨ x.admitAt.isSome ∨ x.task ≠ .running ∨ s.beat < x.beatRef then s
    else
      let s1 := s.onT t (fun y => if vec then { y with tokV := actClass c } else { y with tokM := actClass c })
      (((s1.ampNote t).noteTok (tDie t)).countEv pgWeir 0x10 1).startFront t eng

/-- TOKEN_GRANT, with the upsets that the command's reads may meet (R94). -/
def execTokenGrant (t : Nat) (vec : Bool) (ecc : List (Nat × Nat)) (s : State) : Out := onTile t (fun _ => effToken t vec (s.addUpsets t ecc))

/-- RAMP_ADMISSION (R389): from cycle adm[k] of its ramp, tile `k` of the timetable may hold a token. -/
def effAdmit (p d k : Nat) (s : State) : State :=
  match (mapGet (s.pol p).ramp d [])[k]? with
  | none => s
  | some (t, adm) =>
    match (s.tile t).admitAt with
    | some b => if b + adm / 64 ≤ s.beat then s.onT t (fun x => { x with admitAt := none }) else s
    | none => s

/-- RAMP_ADMISSION. -/
def execRampAdmission (pol die k : Nat) (s : State) : Out := onPol pol (fun _ => effAdmit pol die k s)

/-- RAMP_END (R389): no tile of the ramp waits for its admission any more. -/
def effRampEnd (p d : Nat) (s : State) : State :=
  match mapFind? (s.pol p).running d with
  | none => s
  | some b =>
    let adm := ((mapGet (s.pol p).ramp d []).map (·.2)).foldl max 0
    if (mapGet (s.pol p).ramp d []).any (fun e => (s.tile e.1).admitAt == some b) ∨ s.beat < b + (adm + 32) / 64 then s
    else
      let s1 := s.setPol p { s.pol p with running := mapDrop (s.pol p).running (fun k => k == d) }
      { s1 with power := { s1.power with lastRampEnd := some s.beat } }

/-- RAMP_END. -/
def execRampEnd (pol die : Nat) (s : State) : Out := onPol pol (fun _ => effRampEnd pol die s)

/-- TASK_START: TILE_TASK_CTRL.start (R116, R377, R389): starts a LOADED task or resumes a STOPPED one, 16 beats clear of a level rise. -/
def effStart (t : Nat) (s : State) : State :=
  let x := s.tile t
  match s.tileOwner t with
  | none => s
  | some p =>
    if (s.pol p).stopped then s
    else
      let b := s.startBeat s.beat
      if x.task = .loaded then (s.startTask t b).startRamp p [t] b
      else if x.task = .stopped then (s.resumeTask t).startRamp p [t] b
      else s

/-- TASK_START. -/
def execTaskStart (t : Nat) (s : State) : Out := onTile t (fun _ => effStart t s)

/-! The cap (R378 to R380). -/

/-- PWR_CAP in W: the field, in 5 W steps from 600 to 1,200. -/
def State.capW (s : State) : Nat := max 120 (min (s.getF pgPwr 0x100 0 7 0) 240) * 5

/-- PWR_SHIFT in W. -/
def State.shiftW (s : State) : Int := sext 9 (s.getF pgPwr 0x104 0 8 0) * 5

/-- The effective cap in W. -/
def State.effCap (s : State) : Nat := (max 600 (min ((s.capW : Int) + s.shiftW) 1200)).toNat

/-- The cap changes: PWR_EFF_CAP follows, and CAP_UNMET may be posted again. -/
def State.capChanged (s : State) : State := ({ s with power := { s.power with unmetPosted := false } } : State).setF pgPwr 0x108 0 7 0 (s.effCap / 5)

/-- PWR_CAP_WRITE. -/
def execPwrCapWrite (val : Nat) (s : State) : Out := .next (s.setF pgPwr 0x100 0 7 0 val).capChanged

/-- PWR_SHIFT_WRITE. -/
def execPwrShiftWrite (val : Nat) (s : State) : Out := .next (s.setF pgPwr 0x104 0 8 0 val).capChanged

/-- The HOST_REQUEST ceiling follows PWR_CFG.host_level; values other than 6 to 16 act as 16. -/
def State.hostLevel (s : State) : State :=
  let v := s.getF pgPwr 0x114 0 4 0
  s.setCeil 7 0 (if 6 ≤ v ∧ v ≤ 16 then v else 16) 0

/-- HOST_LEVEL_WRITE. -/
def execHostLevelWrite (val : Nat) (s : State) : Out := .next (s.setF pgPwr 0x114 0 4 0 val).hostLevel

/-- The formula of R379: level `n`, cap `c`, power `p` and fixed power `f` in W. -/
def capCeil (n c p f : Nat) : Nat := if p ≤ f then 16 else if c ≤ f then 6 else max 6 (min (n * (c - f) / (p - f)) 16)

/-- CAP_CONTROL_TICK (R379, R380): `watts` is the mean input power over the last 50 µs. -/
def effCapTick (watts : Nat) (s : State) : State :=
  let f := s.getF pgPwr 0x110 0 10 0
  let n := s.level
  let own := capCeil n (if 0 ≤ s.shiftW then s.effCap else s.capW) watts f
  let eff := capCeil n s.effCap watts f
  let e := s.power.energy + watts * 50
  let s1 := (({ s with power := { s.power with energy := e % 1000 } } : State).bump pgPwr 0x128 0 (e / 1000)).setF pgPwr 0x10C 0 15 0 watts
  let s2 := (s1.setCeil 0 0 own watts).setCeil 8 0 (if eff < own then eff else 16) watts
  if min own eff = 6 ∧ s.effCap < watts then s2.setF pgPwr 0x108 0 8 8 1
  else if watts + 40 ≤ s.effCap then s2.setF pgPwr 0x108 0 8 8 0
  else s2

/-- CAP_CONTROL_TICK. -/
def execCapControlTick (watts : Nat) (s : State) : Out := .next (effCapTick watts s)

/-- CAP_UNMET (R379): posted once per change of the cap. -/
def effUnmet (s : State) : State :=
  if s.getF pgPwr 0x108 0 8 8 = 0 ∨ s.getF pgPwr 0x10C 0 15 0 ≤ s.effCap ∨ s.power.unmetPosted then s
  else (({ s with power := { s.power with unmetPosted := true } } : State).setCeil 0 0 6 (s.getF pgPwr 0x10C 0 15 0)).fault
    { code := 0x0201, page := pgPwr, detail := detOther 0xFF [] }

/-- CAP_UNMET. -/
def execCapUnmet (s : State) : Out := .next (effUnmet s)

/-! The level (R377). -/

/-- LEVEL_FALL. -/
def execLevelFall (s : State) : Out := .next (if s.target < s.level then s.setLevel s.target else s)

/-- Whether the weir may raise the level now. -/
def State.mayRise (s : State) : Bool :=
  decide (s.level < s.target) && decide (48 ≤ s.beat % 1024) && decide (s.beat % 1024 ≤ 1007) && !s.rampRuns &&
    (match s.power.lastRise with | some b => decide (b + 2 ≤ s.beat) | none => true) &&
    (match s.power.lastRampEnd with | some b => decide (b + 16 ≤ s.beat) | none => true)

/-- LEVEL_RISE. -/
def effRise (s : State) : State :=
  if !s.mayRise then s else ({ s with power := { s.power with lastRise := some s.beat } } : State).setLevel (s.level + 1)

/-- LEVEL_RISE. -/
def execLevelRise (s : State) : Out := .next (effRise s)

/-- CURRENT_RAMP_RECOVER (R385): 64 beats without excess on the die. -/
def effRecover (d : Nat) (s : State) : State :=
  match mapFind? s.power.excessAt d with
  | none => s
  | some b =>
    if s.beat < b + 64 then s
    else ({ s with power := { s.power with excessAt := mapDrop s.power.excessAt (fun k => k == d) } } : State).setCeil 1 d 16 0

/-- CURRENT_RAMP_RECOVER. -/
def execCurrentRampRecover (die : Nat) (s : State) : Out := onDie die (fun _ => effRecover die s)

/-! Temperatures (R382, R383, R266). -/

/-- A threshold field, with what other values act as. -/
def inRange (v lo hi other : Nat) : Nat := if lo ≤ v ∧ v ≤ hi then v else other

/-- Throttle point and limit of a sensor: reason 2 DIE_TEMP, 3 HBM_TEMP, 4 VR_TEMP, 9 LINK_TEMP. An HBM throttle point below 80 acts as 80. -/
def State.thermCfg (s : State) (r u : Nat) : Nat × Nat :=
  match r with
  | 2 => let t := inRange (s.getF pgGauge 0x108 0 7 0) 85 103 100; (t, inRange (s.getF pgGauge 0x108 0 15 8) (t + 1) 105 105)
  | 3 => let t := max 80 (min (s.getF (pgHbmc u) 0x108 0 7 0) 92); (t, inRange (s.getF (pgHbmc u) 0x108 0 15 8) (t + 1) 95 95)
  | 4 => let t := inRange (s.getF pgPwr 0x120 0 7 0) 100 120 115; (t, inRange (s.getF pgPwr 0x120 0 15 8) (t + 1) 125 125)
  | _ => let t := inRange (s.getF pgGauge 0x108 0 23 16) 85 106 100; (t, inRange (s.getF pgGauge 0x108 0 31 24) (t + 1) 108 108)

/-- The last reading of a sensor. -/
def State.reading (s : State) (r u : Nat) : Nat :=
  match r with
  | 2 => s.getF pgGauge 0x104 u 7 0
  | 3 => s.getF (pgHbmc u) 0x104 0 7 0
  | 4 => s.getF pgPwr 0x11C u 19 12
  | _ => s.getF pgGauge 0x104 u 23 16

/-- A reading enters its register, and the peak beside it. -/
def State.noteReading (s : State) (r u c : Nat) : State :=
  let put (st : State) (pg off sel hi lo : Nat) (peak : Bool) : State :=
    let st1 := st.setF pg off sel hi lo c
    if peak && decide (st.getF pg off sel (hi + 8) (lo + 8) < min c 255) then st1.setF pg off sel (hi + 8) (lo + 8) (min c 255) else st1
  match r with
  | 2 => put s pgGauge 0x104 u 7 0 true
  | 3 => put s (pgHbmc u) 0x104 0 7 0 true
  | 4 => put s pgPwr 0x11C u 19 12 false
  | _ => put s pgGauge 0x104 u 23 16 true

/-- The ceiling after a reading: 6 at the limit; one lower at once where it comes to the throttle point. A failed sensor's stays 6. -/
def State.thermRead (s : State) (r u c : Nat) : State :=
  let s1 := s.noteReading r u c
  let k := ceilKey r u
  let (thr, lim) := s.thermCfg r u
  let hot := s.power.hot.contains k
  let setHot (st : State) (on : Bool) : State :=
    { st with power := { st.power with hot := if on then (if hot then st.power.hot else st.power.hot ++ [k]) else st.power.hot.filter (· != k) } }
  if s.power.failed.contains k then (setHot s1 (decide (thr ≤ c))).notePeak r u c
  else if lim ≤ c then (setHot s1 true).setCeil r u 6 c
  else if thr ≤ c then (if hot then s1.notePeak r u c else (setHot s1 true).setCeil r u (s.ceilOf r u - 1) c)
  else (setHot s1 false).notePeak r u c

/-- DIE_TEMP_SAMPLE: the hottest junction of a die. -/
def execDieTempSample (die temp : Nat) (s : State) : Out := onDie die (fun _ =>
  if 115 ≤ temp then (s.noteReading 2 die temp).thermTrip 2 die else s.thermRead 2 die temp)

/-- VR_TEMP_SAMPLE. -/
def execVrTempSample (vr temp : Nat) (s : State) : Out := onUnit vr 7 (fun _ =>
  if 135 ≤ temp then (s.noteReading 4 vr temp).thermTrip 4 vr else s.thermRead 4 vr temp)

/-- LINK_TEMP_SAMPLE: the hotter SerDes macro of a die. -/
def execLinkTempSample (die temp : Nat) (s : State) : Out := onDie die (fun _ =>
  if 120 ≤ temp then (s.noteReading 9 die temp).thermTrip 9 die else s.thermRead 9 die temp)

/-- A stack's thermal state below TRIP from a reading and the state it is in: it leaves a state 2 °C below its entry point (Table 8-3). -/
def stackTherm (thr lim cur c : Nat) : Nat :=
  let up := if lim ≤ c then 3 else if thr ≤ c then 2 else if 85 ≤ c then 1 else 0
  let keep (k entry : Nat) : Bool := decide (k ≤ cur) && decide (entry ≤ c + 1)
  if keep 3 lim then 3 else if keep 2 thr then max up 2 else if keep 1 85 then max up 1 else up

/-- The state of stack `k` follows a reading; THROTTLE and LIMIT are recorded where they are entered from below. -/
def State.stackRead (s : State) (k c : Nat) : State :=
  let cur := s.getF (pgHbmc k) 0x100 0 6 4
  let (thr, lim) := s.thermCfg 3 k
  let n := stackTherm thr lim cur c
  let s1 := s.setF (pgHbmc k) 0x100 0 6 4 n
  if cur < n ∧ 2 ≤ n then s1.fault { code := if n = 2 then 0x1430 else 0x1431, page := pgHbmc k, detail := daDetail (k * 0x9_0000_0000) 0xFF 6 } else s1

/-- HBM_TEMP_SAMPLE (R266): `trip` is the stack's catastrophic flag. -/
def effHbmTemp (k c : Nat) (trip : Bool) (s : State) : State :=
  if trip then
    let s1 := (s.noteReading 3 k c).setF (pgHbmc k) 0x100 0 6 4 4
    let s2 := (s1.setStack k { s1.stack k with tripped := true }).fault
      { code := 0x1432, page := pgHbmc k, cls := 6, detail := daDetail (k * 0x9_0000_0000) 0xFF 6 }
    s2.thermTrip 3 k
  else if (s.stack k).tripped then s
  else (s.stackRead k c).thermRead 3 k c

/-- HBM_TEMP_SAMPLE. -/
def execHbmTempSample (stack temp : Nat) (trip : Bool) (s : State) : Out := onStack stack (fun _ => effHbmTemp stack temp trip s)

/-- THERMAL_STEP (R382): down by one for each 100 µs at or above the throttle point, up by one for each 1 ms 2 °C or more below it. -/
def effThermStep (r u : Nat) (s : State) : State :=
  let c := s.reading r u
  if s.power.failed.contains (ceilKey r u) then s
  else if s.power.hot.contains (ceilKey r u) then s.setCeil r u (s.ceilOf r u - 1) c
  else if c + 2 ≤ (s.thermCfg r u).1 ∧ s.ceilOf r u < 16 then s.setCeil r u (s.ceilOf r u + 1) c
  else s

/-- THERMAL_STEP. -/
def execThermalStep (reason unit : Nat) (s : State) : Out := onSensor reason unit (fun _ => effThermStep reason unit s)

/-- SENSOR_FAIL (R383): treated as reading its limit. -/
def effSensorFail (r u : Nat) (s : State) : State :=
  let k := ceilKey r u
  if s.power.failed.contains k then s
  else
    let lim := (s.thermCfg r u).2
    let s1 := ({ s with power := { s.power with failed := s.power.failed ++ [k] } } : State).setCeil r u 6 lim
    (if r = 3 then s1.stackRead u lim else s1).fault { code := 0x0405, page := pgGauge, detail := detOther 0xFF [r, u] }

/-- SENSOR_FAIL. -/
def execSensorFail (reason unit : Nat) (s : State) : Out := onSensor reason unit (fun _ => effSensorFail reason unit s)

/-- SENSOR_RECOVER: 1 s of valid readings; stepped control takes over from ceiling 6 (DEDUCED). -/
def execSensorRecover (reason unit : Nat) (s : State) : Out := onSensor reason unit (fun _ =>
  { s with power := { s.power with failed := s.power.failed.filter (· != ceilKey reason unit) } })

/-! Regulators and input (R376, R384). -/

/-- VR_WARN: the ceiling is n − 4, at least 6. -/
def effVrWarn (v : Nat) (s : State) : State :=
  (({ s with power := { s.power with vrHold := s.power.vrHold.filter (· != v) } } : State).setF pgPwr 0x11C v 20 20 1).setCeil 5 v (s.level - 4) 0

/-- VR_WARN. -/
def execVrWarn (vr : Nat) (s : State) : Out := onUnit vr 7 (fun _ => effVrWarn vr s)

/-- VR_WARN_CLEAR: the warning deasserts, and its hold begins. -/
def execVrWarnClear (vr : Nat) (s : State) : Out := onUnit vr 7 (fun _ =>
  if s.getF pgPwr 0x11C vr 20 20 = 0 then s
  else ({ s with power := { s.power with vrHold := s.power.vrHold ++ [vr] } } : State).setF pgPwr 0x11C vr 20 20 0)

/-- VR_WARN_HOLD_EXPIRY. -/
def execVrWarnHoldExpiry (vr : Nat) (s : State) : Out := onUnit vr 7 (fun _ =>
  if !s.power.vrHold.contains vr then s
  else ({ s with power := { s.power with vrHold := s.power.vrHold.filter (· != vr) } } : State).setCeil 5 vr 16 0)

/-- INPUT_LOW: the input voltage in mV against in_crit and in_low; each entry below in_low posts 0x0202. -/
def effInputLow (mv : Nat) (s : State) : State :=
  let low := s.getF pgPwr 0x114 0 15 8 * 250
  let crit := s.getF pgPwr 0x114 0 23 16 * 250
  let s1 := s.setF pgPwr 0x10C 0 31 16 (mv / 10)
  if low ≤ mv then { s1 with power := { s1.power with lowSeen := false } }
  else
    let s2 := (({ s1 with power := { s1.power with lowSeen := true } } : State)).setCeil 6 0 (if mv < crit then 6 else 8) 0
    if s.power.lowSeen then s2 else s2.fault { code := 0x0202, page := pgPwr, detail := detOther 0xFF [mv] }

/-- INPUT_LOW. -/
def execInputLow (mv : Nat) (s : State) : Out := .next (effInputLow mv s)

/-- INPUT_LOW_CLEAR: 10 ms at 1 V above in_low. -/
def execInputLowClear (s : State) : Out := .next (({ s with power := { s.power with lowSeen := false } } : State).setCeil 6 0 16 0)

/-- INPUT_UV: 1 ms below 40 V. -/
def execInputUv (s : State) : Out := .next (s.fault { code := 0x0203, page := pgPwr, cls := 6, detail := detOther 0xFF [] }).graceful

/-! Beats (R26, R108, R318, R385, R386, R437, R467). -/

/-- What the weir of die `d` measures at a boundary: `low` the lowest token current of the trailing 1 µs, `mean` the token current averaged over the beat,
both in token weight × level, `vr` the core rail's current in classes. -/
def State.weigh (s : State) (d vr low mean : Nat) : State :=
  let cur := s.dieTok d none * s.level
  let rise := cur - low
  let s1 := s.noteTok d
  let (rc, s2) := s1.inClasses rise
  let s3 := s2.setF pgWeir 0x118 d 11 0 rc
  let s4 := if s3.getF pgWeir 0x118 d 27 16 < rc then s3.setF pgWeir 0x118 d 27 16 rc else s3
  if 204800 < rise ∨ s.getF pgWeir 0x10C d 11 0 * 320 < cur + (vr * 320 - mean) then
    let fr := s.beat / 1024 + 1
    let s5 := (({ s4 with power := { s4.power with excessAt := mapSet s4.power.excessAt d s.beat } } : State).setCeil 1 d (s.level - 2) 0).sat pgWeir 0x138 d 31 0 1
    if mapGet s.power.excessFrame d 0 = fr then s5
    else ({ s5 with power := { s5.power with excessFrame := mapSet s5.power.excessFrame d fr } } : State).fault
      { code := 0x0301, page := pgWeir, detail := detOther 0xFF [d] }
  else s4

/-- Polders whose token current on die `d` exceeds their allotment (R386). -/
def State.allotBeat (s : State) (d : Nat) : State :=
  ((List.range 64).filter (fun p => s.getA pgWeir 0x124 (p + 64 * d) 11 0 * 320 < s.dieTok d (some p) * s.level)).foldl (fun st p =>
    let fr := st.beat / 1024 + 1
    let st1 := st.sat pgWeir 0x128 (p + 64 * d) 31 0 1
    if mapGet st.power.overFrame p 0 = fr then st1
    else ({ st1 with power := { st1.power with overFrame := mapSet st1.power.overFrame p fr } } : State).fault
      { code := 0x0302, page := pgWeir, detail := detOther p [d], pol := some p }) s

/-- Pages whose common counters select an event. -/
def State.countingPages (s : State) : List Nat :=
  ((s.regs.filter (fun e => (keyOff e.1 == 0x60 || keyOff e.1 == 0x64) && e.2 != 0)).map (fun e => keyPage e.1)).eraseDups

/-- The events of page `pg` in one beat: beats, the measured quantities of Table 16-3, and TCLK cycles (64 in a beat) of tile pages. -/
def State.beatEvents (s : State) (pg : Nat) : State :=
  let ev (st : State) (l : List (Nat × Nat)) : State := l.foldl (fun u e => u.countEv pg e.1 e.2) st
  let rail := ((List.range 4).map (fun d => s.getF pgPwr 0x11C d 11 0)).foldl (· + ·) 0
  let tok := ((List.range 4).map (fun d => s.getF pgWeir 0x114 d 11 0)).foldl (· + ·) 0
  let hot := ((List.range 4).map (fun d => s.getF pgGauge 0x104 d 7 0)).foldl max 0
  let s1 := s.countEv pg 2 1
  match pageBlock pg with
  | some (.tile, t) =>
    let x := s.tile t
    ev s1 [(1, 64), (0x22, if x.tokM = 0 then 0 else 64), (0x23, if x.tokV = 0 then 0 else 64), (0x25, 64 * x.tokWeight)]
  | some (.hbmc, _) => ev s1 [(0x15, s.getF pg 0x104 0 7 0)]
  | some (.weir, _) => ev s1 [(0x11, tok), (0x12, b2n (decide (s.reasonCeil 1 < 16)))]
  | some (.pwr, _) => ev s1 [(0x10, s.getF pgPwr 0x10C 0 15 0), (0x11, rail)]
  | some (.gauge, _) => ev s1 [(0x10, hot), (0x11, b2n (decide ((s.thermCfg 2 0).1 ≤ hot)))]
  | _ => s1

/-- BEAT_BOUNDARY: durations, the beat stamp, arbiter windows, the weirs, allotments, egress allowances and measured events. -/
def effBeat (vr low mean : List Nat) (s : State) : State :=
  let s1 : State := { s.countReasons with beat := (s.beat + 1) % 2 ^ 56 }
  let s2 : State := { s1 with tiles := s1.tiles.map (fun e => (e.1, { e.2 with arbs := e.2.arbs.map (fun a => (a.1, { a.2 with used := [] })) })) }
  let s3 := vr.zipIdx.foldl (fun st v => if v.2 < 7 then st.setF pgPwr 0x11C v.2 11 0 (min v.1 4095) else st) s2
  let s4 := (List.range 4).foldl (fun st d => (st.weigh d (vr.getD d 0) (low.getD d 0) (mean.getD d 0)).allotBeat d) s3
  let s5 := (s4.tiles.filter (fun e => e.2.tokWeight != 0)).foldl (fun st e => st.ampNote e.1) s4
  s5.countingPages.foldl State.beatEvents s5.lnkBeat

/-- BEAT_BOUNDARY. -/
def execBeatBoundary (vr low mean : List Nat) (s : State) : Out := .next (effBeat vr low mean s)

/-! Frames (R28, R321, R322). -/

/-- FRAME_BOUNDARY: once per local frame, the frame counter advances by one or takes the value that waits for it. -/
def effFrame (s : State) : State :=
  if s.beat / 1024 ≤ s.frameAt / 1024 then s
  else
    let s1 : State := match s.frameLoad with
      | some f => ({ s with frame := f, frameLoad := none, frameAt := s.beat / 1024 * 1024 } : State).traceRec 0 9 pgDev 0xFFFF (natLE 8 s.frame ++ natLE 8 f)
      | none => { s with frame := (s.frame + 1) % 2 ^ 48, frameAt := s.beat / 1024 * 1024 }
    (s1.lnkFrame.kndFrame).d2dFrame

/-- FRAME_BOUNDARY. -/
def execFrameBoundary (s : State) : Out := .next (effFrame s)

/-- GAUGE_LOG_PASS (R392): a write of GAUGE_LOG_SEL; head − 1 marks every record up to it as passed. -/
def execGaugeLogPass (idx : Nat) (s : State) : Out :=
  let s1 := s.setF pgGauge 0x12C 0 7 0 idx
  .next (if idx % 256 = (s.getF pgGauge 0x128 0 7 0 + 255) % 256 then { s1 with power := { s1.power with passed := s1.power.logN } } else s1)

end Sys2Proof.Machine
end

