-- ==== Sys2Proof/Machine/Mgmt.lean ====
section
/-!
DEFINITION. The management mailbox and the Module Steward's MCTP, PLDM and SPDM answers (15_host_interface.md R451 to R455). The paths are 0 SMBus,
1 PCIe VDM, 2 the mailbox, and for SPDM also 3, the PF's DOE.
-/
namespace Sys2Proof.Machine

/-! The mailbox (R452). -/

/-- MBOX_STATUS.state. -/
def State.mboxState (s : State) : Nat := s.getF pgMbox 0x104 0 1 0

/-- Sets MBOX_STATUS: state, error and response length. -/
def State.setMbox (s : State) (st err len : Nat) : State :=
  s.setReg pgMbox 0x104 0 (BitVec.ofNat 64 (st % 4 + err % 256 * 2 ^ 8 + len % 2 ^ 11 * 2 ^ 16))

/-- MBOX_SEND: ignored unless IDLE or DONE; a length outside 1 to 1,024 ends in ERROR. -/
def effMboxSend (s : State) : State :=
  if s.mboxState ≠ 0 ∧ s.mboxState ≠ 2 then s
  else
    let n := s.getF pgMbox 0x108 0 10 0
    if n = 0 ∨ 1024 < n then s.setMbox 3 1 0 else s.setMbox 1 0 0

/-- MBOX_SEND. -/
def execMboxSend (s : State) : Out := .next (effMboxSend s)

/-- MBOX_ABORT: the request in progress is dropped and the mailbox is IDLE. -/
def execMboxAbort (s : State) : Out := .next (s.setMbox 0 0 0)

/-- MBOX_RESPONSE: the Steward answers, or refuses with an error code. -/
def effMboxResponse (err : Nat) (data : List Byte) (s : State) : State :=
  if s.mboxState ≠ 1 then s
  else if err ≠ 0 then s.setMbox 3 err 0
  else (s.onModule (fun m => { m with mboxRsp := data.take 1024 })).setMbox 2 0 (min data.length 1024)

/-- MBOX_RESPONSE. -/
def execMboxResponse (err : Nat) (data : List Byte) (s : State) : Out := .next (effMboxResponse err data s)

/-- MBOX_TIMEOUT. -/
def execMboxTimeout (s : State) : Out := .next (if s.mboxState = 1 then s.setMbox 3 3 0 else s)

/-! Answers. -/

/-- Whether the Steward takes a request on a path (R451, R457): while its firmware failed in both slots, over SMBus alone. -/
def State.answers (s : State) (b : Nat) : Bool :=
  let m := s.module
  match b with
  | 0 => m.hotswap && (m.stewardOk || m.stewardFailed)
  | 2 => m.hotswap && m.stewardOk && s.mboxState == 1
  | _ => m.hotswap && m.stewardOk && m.portTrained

/-- The bytes of an answer that other standards fix, the same at every request. -/
def mgmtBytes (k i off n : Nat) : List Byte := (List.range n).map (fun j => Config.mgmtByte k i (off + j))

/-- The Steward sends an answer. -/
def State.answer (s : State) (a : MgmtAnswer) : State := { s with mgmtOut := a :: s.mgmtOut }

/-- A request on one of `n` paths: the effect where the Steward answers. -/
def onPath (b n : Nat) (s : State) (f : Unit → State) : Out := onUnit b n (fun _ => if s.answers b then f () else s)

/-- SET_ENDPOINT_ID (R451): each path keeps its own. -/
def effSetEid (b eid : Nat) (s : State) : State :=
  (s.onModule (fun m => { m with eids := mapSet m.eids b (eid % 256) })).answer { binding := b, kind := .setEndpointId, values := [eid % 256] }

/-- SET_ENDPOINT_ID. -/
def execSetEndpointId (binding eid : Nat) (s : State) : Out := onPath binding 3 s (fun _ => effSetEid binding eid s)

/-- GET_ENDPOINT_ID (R451). -/
def execGetEndpointId (binding : Nat) (s : State) : Out := onPath binding 3 s (fun _ =>
  s.answer { binding := binding, kind := .getEndpointId, values := [mapGet s.module.eids binding 0] })

/-- An answer whose contents the spec leaves to another standard. -/
def State.openAnswer (s : State) (b : Nat) (k : MgmtKind) (code idx : Nat) : State :=
  s.answer { binding := b, kind := k, bytes := mgmtBytes code idx 0 (Config.mgmtLen code idx) }

/-- GET_MCTP_VERSION_SUPPORT (R451). -/
def execGetMctpVersionSupport (binding typ : Nat) (s : State) : Out := onPath binding 3 s (fun _ => s.openAnswer binding .mctpVersions 0 typ)

/-- GET_MESSAGE_TYPE_SUPPORT (R451). -/
def execGetMessageTypeSupport (binding : Nat) (s : State) : Out := onPath binding 3 s (fun _ => s.openAnswer binding .messageTypes 1 0)

/-- GET_ENDPOINT_UUID (R451). -/
def execGetEndpointUuid (binding : Nat) (s : State) : Out := onPath binding 3 s (fun _ => s.openAnswer binding .endpointUuid 2 0)

/-- PLDM_TYPE0_REQUEST (R453). -/
def execPldmType0Request (binding cmd : Nat) (s : State) : Out := onPath binding 3 s (fun _ => s.openAnswer binding .pldmBase 3 cmd)

/-- GET_PDR (R453). -/
def execGetPdr (binding handle : Nat) (s : State) : Out := onPath binding 3 s (fun _ => s.openAnswer binding .pdr 4 handle)

/-! PLDM Type 2 (R453, Table 15-11). -/

/-- The register field behind a numeric sensor. -/
def State.sensor (s : State) (id : Nat) : Option Nat :=
  if id = 0 then none
  else if id ≤ 4 then some (s.reading 2 (id - 1))
  else if id ≤ 16 then some (s.reading 3 (id - 5))
  else if id ≤ 20 then some (s.reading 9 (id - 17))
  else if id ≤ 27 then some (s.reading 4 (id - 21))
  else if id = 28 then some (s.getF pgPwr 0x10C 0 15 0)
  else if id = 29 then some (s.getF pgPwr 0x10C 0 31 16)
  else if id = 30 then some (s.reg pgPwr 0x128 0).toNat
  else if id = 31 then some s.level
  else none

/-- An answer of one value, refused where there is none. -/
def State.valueAnswer (s : State) (b : Nat) (k : MgmtKind) (v : Option (List Nat)) : State :=
  s.answer { binding := b, kind := k, refused := v.isNone, values := v.getD [] }

/-- GET_SENSOR_READING. -/
def execGetSensorReading (binding id : Nat) (s : State) : Out := onPath binding 3 s (fun _ => s.valueAnswer binding .sensor ((s.sensor id).map (fun v => [v])))

/-- GET_STATE_SENSOR_READINGS: sensor 32 has ten states, the throttle reasons. -/
def execGetStateSensorReadings (binding id : Nat) (s : State) : Out := onPath binding 3 s (fun _ =>
  s.valueAnswer binding .stateSensor (if id = 32 then some ((List.range 10).map (fun r => b2n (s.activeMask.testBit r))) else none))

/-- GET_NUMERIC_EFFECTER_VALUE: the power cap in W, or the host level. -/
def execGetNumericEffecterValue (binding id : Nat) (s : State) : Out := onPath binding 3 s (fun _ =>
  s.valueAnswer binding .effecterValue
    (if id = 1 then some [s.getF pgPwr 0x100 0 7 0 * 5] else if id = 2 then some [s.getF pgPwr 0x114 0 4 0] else none))

/-- SET_NUMERIC_EFFECTER_VALUE: a setting of Table 15-11 acts as a BAR write of its register; another is refused. -/
def effSetEffecter (b id v : Nat) (s : State) : State :=
  if id = 1 ∧ 600 ≤ v ∧ v ≤ 1200 ∧ v % 5 = 0 then ((s.setF pgPwr 0x100 0 7 0 (v / 5)).capChanged).valueAnswer b .effecterSet (some [v])
  else if id = 2 ∧ 6 ≤ v ∧ v ≤ 16 then ((s.setF pgPwr 0x114 0 4 0 v).hostLevel).valueAnswer b .effecterSet (some [v])
  else s.valueAnswer b .effecterSet none

/-- SET_NUMERIC_EFFECTER_VALUE. -/
def execSetNumericEffecterValue (binding id val : Nat) (s : State) : Out := onPath binding 3 s (fun _ => effSetEffecter binding id val s)

/-! PLDM Type 5 (R454). -/

/-- Changes a flash component. -/
def Module.onFlash (m : Module) (comp : Nat) (f : FlashComp → FlashComp) : Module := { m with flash := mapSet m.flash comp (f (mapGet m.flash comp {})) }

/-- Whether the Steward runs an update of a component: also in recovery (R457). -/
def State.updates (s : State) (comp : Nat) : Bool := s.module.hotswap && (s.module.stewardOk || s.module.stewardFailed) && 1 ≤ comp && comp ≤ 3

/-- FW_UPDATE_TRANSFER: image bytes go to the slot not in use. -/
def effFwTransfer (comp off : Nat) (data : List Byte) (s : State) : State :=
  if !s.updates comp then s
  else s.onModule (fun m => m.onFlash comp (fun c => { c with staged := memWrite c.staged off data }))

/-- FW_UPDATE_TRANSFER. -/
def execFwUpdateTransfer (comp off : Nat) (data : List Byte) (s : State) : Out := .next (effFwTransfer comp off data s)

/-- VERIFY_COMPLETE: an image with a good signature and security version takes effect at the next cold reset; another changes no slot. -/
def effVerify (comp : Nat) (sigOk svnOk : Bool) (ver : Nat) (s : State) : State :=
  if !s.updates comp then s
  else s.onModule (fun m => m.onFlash comp (fun c =>
    if sigOk && svnOk then { c with versions := mapSet c.versions (1 - c.inUse) (ver % 65536), next := 1 - c.inUse, staged := [] } else { c with staged := [] }))

/-- VERIFY_COMPLETE. -/
def execVerifyComplete (comp : Nat) (sigOk svnOk : Bool) (ver : Nat) (s : State) : Out := .next (effVerify comp sigOk svnOk ver s)

/-! SPDM (R455). -/

/-- GET_VERSION: SPDM 1.2. -/
def execGetVersion (binding : Nat) (s : State) : Out := onPath binding 4 s (fun _ => s.answer { binding := binding, kind := .spdmVersion, values := [1, 2] })

/-- GET_CAPABILITIES: CERT_CAP 1, CHAL_CAP 1, MEAS_CAP with signature 2. -/
def execGetCapabilities (binding : Nat) (s : State) : Out := onPath binding 4 s (fun _ =>
  s.answer { binding := binding, kind := .spdmCapabilities, values := [1, 1, 2] })

/-- NEGOTIATE_ALGORITHMS: ECDSA P-384 and SHA-384 only; their bits 7 and 1 of the requested sets are PRESUMED from DSP0274. -/
def effNegotiate (b asym hash : Nat) (s : State) : State :=
  if asym.testBit 7 && hash.testBit 1 then
    (s.onModule (fun m => { m with algs := if m.algs.contains b then m.algs else m.algs ++ [b] })).answer
      { binding := b, kind := .spdmAlgorithms, values := [0x80, 2] }
  else (s.onModule (fun m => { m with algs := m.algs.filter (· != b) })).answer { binding := b, kind := .spdmAlgorithms, refused := true }

/-- NEGOTIATE_ALGORITHMS. -/
def execNegotiateAlgorithms (binding asym hash : Nat) (s : State) : Out := onPath binding 4 s (fun _ => effNegotiate binding asym hash s)

/-- GET_DIGESTS: the SHA-384 digest of slot 0's chain. -/
def execGetDigests (binding : Nat) (s : State) : Out := onPath binding 4 s (fun _ =>
  s.answer { binding := binding, kind := .digests, bytes := mgmtBytes 5 0 0 48 })

/-- GET_CERTIFICATE: part of the chain of slot 0, the only one. -/
def execGetCertificate (binding slot off len : Nat) (s : State) : Out := onPath binding 4 s (fun _ =>
  if slot = 0 then s.answer { binding := binding, kind := .certificate, bytes := mgmtBytes 6 0 off (min len (Config.mgmtLen 6 0 - off)) }
  else s.answer { binding := binding, kind := .certificate, refused := true })

/-- Signed contents: the nonce and the algorithms negotiated, then bytes that are free. -/
def State.signed (s : State) (b : Nat) (k : MgmtKind) (vals : List Nat) (nonce : List Byte) (n : Nat) : State :=
  let (bs, s1) := s.drawBytes n
  s1.answer { binding := b, kind := k, values := vals ++ (if s.module.algs.contains b then [0x80, 2] else []), bytes := nonce ++ bs }

/-- CHALLENGE: a response signed for slot 0, over the nonce. -/
def execChallenge (binding slot : Nat) (nonce : List Byte) (s : State) : Out := onPath binding 4 s (fun _ =>
  if slot = 0 then s.signed binding .challenge [] nonce 96 else s.answer { binding := binding, kind := .challenge, refused := true })

/-- The measurements a request names: index 0 asks their number, 1 to 4 one of them, 255 all (PRESUMED from DSP0274). -/
def measured (idx : Nat) : Option (List Nat) := if idx = 0 then some [] else if idx = 255 then some [1, 2, 3, 4] else if idx ≤ 4 then some [idx] else none

/-- GET_MEASUREMENTS: their SHA-384 digests and a signature. -/
def execGetMeasurements (binding idx : Nat) (nonce : List Byte) (s : State) : Out := onPath binding 4 s (fun _ =>
  match measured idx with
  | some is => s.signed binding .measurements (4 :: is) nonce (48 * is.length + 96)
  | none => s.answer { binding := binding, kind := .measurements, refused := true })

end Sys2Proof.Machine
end

