-- ==== Sys2Proof/Machine/RegView.lean ====
section
/-!
DEFINITION. What a read of each register shows (R9, R10 and the register rules of every chapter): the registers whose value follows from other state, and
for all the others the register store. `fv` stands for a value the spec leaves open to the reader.
-/
namespace Sys2Proof.Machine

/-- A bit at a place. -/
def bitAt (b : Bool) (lo : Nat) : Nat := b2n b * 2 ^ lo

/-- A number cut to a field's width, at its place. -/
def fieldAt (v w lo : Nat) : Nat := v % 2 ^ w * 2 ^ lo

/-! The common header (R363, R372, R437). -/

/-- The binding table and entry that PG_OWNER of a page presents, if it has one. -/
def State.pageEntry (s : State) (pg : Nat) : Option (Nat × Nat) :=
  match pageBlock pg with
  | some (.tile, t) => if s.devCol t < 144 then some (0, s.devCol t) else none
  | some (.lnk, q) => some (2, q)
  | _ => none

/-- The polder that owns a page, if one alone does. -/
def State.pageOwner (s : State) (pg : Nat) : Option Nat :=
  match pageBlock pg with
  | some (.intake, p) => some p
  | some (.tile, t) => s.tileOwner t
  | some (.lnk, q) => s.owner 2 q
  | _ => none

/-- Whether a page holds a staged value not yet active (R363). -/
def State.pagePending (s : State) (pg : Nat) : Bool := s.staged.any (fun k => keyPage k == pg)

/-- PG_STATUS.ready: the unit has finished its initialisation. -/
def State.unitReady (s : State) (pg : Nat) : Bool :=
  match pageBlock pg with
  | some (.tile, t) => s.bootState == 4 && (s.tile t).task != .clearing
  | some (.dev, _) => s.module.pwrGood
  | some (.mbox, _) => s.module.pwrGood
  | _ => s.bootState == 4

/-- Whether PG_AMP of a page measures current. -/
def ampMeasures (pg : Nat) : Bool := match pageBlock pg with | some (.tile, _) => true | _ => Config.ampMeasured pg

/-- The header registers that follow from other state. -/
def State.viewHdr (s : State) (b : Block) (i pg off : Nat) : Option Nat :=
  match off with
  | 0x00 => some (b.typeId + i * 65536)
  | 0x08 => some (bitAt (b == .tile || b == .lnk || b == .knd || (b == .intake && i != 0)) 0 + 2 + 4 + bitAt (ampMeasures pg) 3)
  | 0x0C => some (bitAt (s.unitReady pg) 0 + s.getF pg 0x18 0 0 0 * 2 + bitAt (match s.pageOwner pg with | some p => s.sealed p | none => false) 2)
  | 0x14 => some (if b = .tile then (s.reg pg 0x14 0).toNat else Config.ampBudget pg % 4096 + s.getF pg 0x14 0 27 16 * 65536)
  | 0x24 => some (s.part pg + bitAt (s.stale pg) 2 + bitAt (s.pagePending pg) 3)
  | 0x28 =>
    let act := (s.missedGen pg).getD s.gen
    some ((if s.pagePending pg then (s.gen + 1) % 65536 else act) + act * 65536)
  | 0x2C => match s.pageEntry pg with
    | some (tb, e) => some ((s.regAct pgPld 0x104 (tb * 4096 + e)).toNat % 128)
    | none => some 0
  | _ => none

/-! Device-global pages. -/

/-- The greatest step that every die with snapshot places holds sealed (R418, DEV_SEALED_STEP). -/
def State.sealedStep (s : State) (p : Nat) : Nat :=
  let steps (d : Nat) : List Nat :=
    let st := s.reg (pgDie d) 0x434 p
    (if fld st 1 1 = 1 then [s.getF (pgDie d) 0x438 p 31 0] else []) ++ (if fld st 2 2 = 1 then [s.getF (pgDie d) 0x438 p 63 32] else [])
  match s.snapDies p with
  | [] => 0
  | d :: ds => ((steps d).filter (fun k => ds.all (fun e => (steps e).contains k))).foldl max 0

/-- DEV registers. -/
def State.viewDev (s : State) (off sel : Nat) : Option Nat :=
  match off with
  | 0x108 => some (Config.fwVersion s.module.slot % 65536 + Config.fwVersion (2 + s.module.slot) % 65536 * 65536)
  | 0x110 => some (Config.serial % 2 ^ 64)
  | 0x200 => some ((s.reg pgDev 0x200 0).toNat % 65536 + bitAt s.nodeValid 16)
  | 0x208 => some (s.frame % 2 ^ 48)
  | 0x224 => some (mapGet s.rt sel 0 % 256)
  | 0x328 => some (s.pol sel).heartbeat
  | 0x330 => some (s.pol sel).step
  | 0x334 => some (s.sealedStep sel)
  | 0x338 => some (s.pol sel).stepFp
  | 0x33C => some (s.pol sel).stepFpStep
  | 0x348 =>
    if (pageBlock sel).isNone then some 0
    else some (s.part sel + bitAt (s.stale sel) 2 + s.getF pgDev 0x348 sel 9 8 * 256 + s.getF pgDev 0x348 sel 31 16 * 65536)
  | 0x354 => some (min s.untrusted.length 65535 + s.getF pgDev 0x354 0 31 16 * 65536)
  | _ => none

/-- GAUGE registers: the throttle log, and reasons 10 to 15, which read 0. -/
def State.viewGauge (s : State) (off sel : Nat) : Option Nat :=
  if 0x130 ≤ off ∧ off < 0x150 then some (leNat (((mapGet s.power.log sel (zeros 32)).drop (off - 0x130)).take 4))
  else if (off = 0x118 ∨ off = 0x120) ∧ 10 ≤ sel then some 0
  else none

/-- The size of a binding table (R356). -/
def bindSize (tb : Nat) : Nat := [144, 1728, 32, 64, 256].getD tb 0

/-- PLD table registers (R374). -/
def State.viewPld (s : State) (off sel : Nat) : Option Nat :=
  let tb := sel / 4096
  let e := sel % 4096
  match off with
  | 0x104 => if e < bindSize tb then none else some 0
  | 0x108 =>
    if bindSize tb ≤ e then some 0
    else
      let w := s.regAct pgPld 0x104 sel
      some (w.toNat % 128 + bitAt (decide (tb = 0) && s.colUnavail e) 7 +
        fieldAt (if fld w 6 6 = 1 then s.rankOf tb (fld w 5 0) e else 0) 11 8)
  | 0x120 => some (fieldAt (s.pol sel).flowEpoch 6 0 + bitAt (s.sealed sel) 6 + fieldAt (s.pol sel).bindEpoch 16 16)
  | 0x128 => some (match (s.pol sel).prot with | some (a, _) => a / 512 * 512 % 2 ^ 48 | none => 0)
  | 0x130 => some (match (s.pol sel).prot with | some (_, n) => n / 512 % 2 ^ 32 | none => 0)
  | 0x150 => some (s.regAct pgPld 0x148 sel).toNat
  | _ => none

/-- PLD mode-arm registers (R374). -/
def State.viewArm (s : State) (off : Nat) : Option Nat :=
  match off with
  | 0x118 => some ((if s.staged = [] then s.gen else (s.gen + 1) % 65536) + s.gen * 65536)
  | 0x128 => some ((s.regs.filter (fun e => keyOff e.1 == 0x24 && fld e.2 2 2 == 1)).length % 65536)
  | _ => none

/-- INTAKE registers of polder `p` (R439). -/
def State.viewIntake (s : State) (p off : Nat) : Option Nat :=
  let x := s.pol p
  match off with
  | 0x158 => some (x.seed % 2 ^ 64)
  | 0x160 => some x.step
  | 0x164 => some (s.sealedStep p)
  | 0x168 => some x.stepFp
  | 0x16C => some x.stepFpStep
  | 0x170 => some x.heartbeat
  | _ => none

/-! Pages of a die. -/

/-- The load in which die `d` takes part, if one runs there. -/
def State.loadOn (s : State) (d : Nat) : Option (Nat × LoadReq) :=
  s.pols.findSome? (fun e => match e.2.loading with
    | some r => if (s.polDies e.1).contains d then some (e.1, r) else none
    | none => none)

/-- DIE registers (R211, R425). While a load runs, its phase and the tiles verified so far are open values. -/
def State.viewDie (s : State) (fv d off sel : Nat) : Option Nat :=
  let fp (f : Tile → Nat) : Nat := match s.tileOf (sel / 65536) (sel % 65536) with
    | some t => if tDie t = d then f (s.tile t) else 0
    | none => 0
  match off with
  | 0x300 => match s.loadOn d with
    | some (p, r) => some (1 + fv % 8 + bitAt (r.lead == d) 4 + p % 64 * 32 + fv / 8 % 2048 * 65536)
    | none => some 0
  | 0x410 => some (s.stagedRetire d)
  | 0x44C => some (fp Tile.fpFrame)
  | 0x450 => some (fp Tile.fpStep)
  | _ => none

/-- D2D_STATUS of instance `i` (R244). -/
def State.viewD2d (s : State) (i off : Nat) : Option Nat :=
  if off = 0x100 then
    let spares := (List.range 8).foldl (fun n b => n + ((List.range 4).filter (fun k => s.spareLane i b k != 0x7F)).length) 0
    some (s.getF (pgD2d i) 0x100 0 2 0 + s.getF (pgD2d i) 0x100 0 11 8 * 256 + spares * 65536 + bitAt (s.route (i / 2) (d2dPeer i / 2) == 1) 24)
  else none

/-- A slot as a field shows it through function `f`: its number through the PF, its rank through a VF, if the VF's polder owns it (R353). -/
def State.slotAs (s : State) (f d k : Nat) : Option Nat :=
  if f = 0 then some k else if s.owner 3 (d * 16 + k) = some f then some (s.rankOf 3 f (d * 16 + k)) else none

/-- Whether an instance is in progress at slot `k` of die `d`. -/
def State.slotBusy (s : State) (d k : Nat) : Bool := (s.knd d).activeKeys (some k) != []

/-- KND_SLOT_STATUS: the instance in progress, else one that ended in an abort. -/
def State.slotStatus (s : State) (d k : Nat) : Nat :=
  let key : Option Nat := match (s.knd d).activeKeys (some k) with
    | q :: _ => some q
    | [] => ((s.knd d).insts.find? (fun e => e.1 / 256 == k && e.2.state == 5)).map (·.1)
  match key.bind (fun (q : Nat) => (s.kinst d q).map (fun (i : KInst) => (q, i))) with
  | some (q, i) =>
    let ph := match s.slotPol d k with | some p => s.kphase p (s.kdesc d k (q % 256)) i | none => 0
    i.state + q % 256 * 256 + ph % 4 * 65536 + bitAt (i.half == 1) 18 + i.step % 32 * 2 ^ 19
  | none => 0

/-- KND registers of die `d` through function `f` (R353). -/
def State.viewKnd (s : State) (f d off : Nat) : Option Nat :=
  let pg := pgKnd d
  let slot := s.slotThrough f d (s.getF pg 0x104 0 5 0)
  let dslot := s.slotThrough f d (s.getF pg 0x110 0 5 0)
  let di := s.getF pg 0x110 0 15 8
  match off with
  | 0x100 =>
    let act := (List.range 16).foldl (fun n k => match s.slotAs f d k with
      | some r => if s.slotBusy d k && decide (r < 16) then n + 2 ^ r else n
      | none => n) 0
    some (act + bitAt (s.knd d).quiesce.isSome 16)
  | 0x108 => match slot with
    | some k => some (s.reg pg 0x108 k).toNat
    | none => some 0
  | 0x10C => match slot with
    | some k => some (s.slotStatus d k)
    | none => some 0
  | 0x164 => match dslot with
    | some k => some (bitAt (s.kdesc d k di).valid 0 + bitAt (match s.kinst d (k * 256 + di) with | some i => i.active | none => false) 1 +
        s.getF pg 0x164 0 31 16 * 65536)
    | none => some 0
  | 0x168 => some (match dslot with | some k => (s.kdesc d k di).ready % 2 ^ 32 | none => 0)
  | 0x16C => some (match dslot with | some k => (s.kdesc d k di).done % 2 ^ 32 | none => 0)
  | 0x19C =>
    let w := (s.reg pg 0x19C 0).toNat
    match s.slotAs f d (w % 16) with
    | some r => some (w / 16 * 16 + r % 16)
    | none => some 0
  | _ => none

/-- LNK_STATUS of port `q` (R323). -/
def State.viewLnk (s : State) (q off : Nat) : Option Nat :=
  if off = 0x100 then some ((setFld (setFld (s.reg (pgLnk q) 0x100 0) 10 8 (portRole q)) 11 11 (portPair q)).toNat) else none

/-- HBMC registers of stack `k` (R277). -/
def State.viewHbmc (s : State) (k off sel : Nat) : Option Nat :=
  match off with
  | 0x120 => some (match (s.stack k).rows[sel]? with
    | some r => r.channel + r.pc * 2 ^ 5 + r.bank * 2 ^ 6 + r.row * 2 ^ 12 + r.state * 2 ^ 26 + r.poisoned * 2 ^ 28
    | none => 0)
  | 0x12C => some (18432 - (s.clean.filter (fun b => b / 18432 == k)).length + (s.stack k).patrol * 100 / 0x1200_0000 * 65536)
  | 0x134 => some (b2n (!(s.clean.contains (k * 18432 + sel))))
  | _ => none

/-- SC registers of slice instance `sl` (R278). -/
def State.viewSc (s : State) (sl off sel : Nat) : Option Nat :=
  let x := s.slice sl
  match off with
  | 0x100 => some (x.wcb.length + (x.held.filter (fun h => !h.prov)).length * 256 + (x.lines.filter (fun e => e.2.kind == .pin)).length * 65536)
  | 0x108 => some (x.held.filter (·.prov)).length
  | 0x10C => some ((x.locks.filter (fun e => !e.2.broken)).length + (x.locks.filter (·.2.broken)).length * 65536)
  | 0x118 => some (match mapFind? x.locks sel with
    | some l => (if l.broken then 2 else 1) + (if l.broken then lockWord 0 none l.prev else lockWord 0 (some (l.tile, l.ctx)) l.prev) / 256 * 256
    | none => 0)
  | 0x120 => some (match mapFind? x.locks sel with | some l => l.da / 8 * 8 % 2 ^ 48 | none => 0)
  | _ => if (off = 0x168 ∨ off = 0x170 ∨ off = 0x178) ∧ 17 ≤ sel % 32 then some 0 else none

/-- SQ registers of page `k` (R294). -/
def State.viewSq (s : State) (k off sel : Nat) : Option Nat :=
  let q := k * 16 + sel
  let x := s.sq q
  match off with
  | 0x10C => some (bitAt x.openPkt.isSome 0 + bitAt (s.sqFull q) 1 + bitAt (s.flushBusy q) 2 + bitAt x.error 3 + fieldAt x.tail.length 4 8 +
      fieldAt x.head.length 4 12 + fieldAt x.gen 6 16)
  | 0x110 => some (x.prod.getD 0 % 8192 + bitAt x.prod.isSome 13 + x.cons.getD 0 % 8192 * 65536 + bitAt x.cons.isSome 29)
  | 0x114 => some (fieldAt x.segs.length 15 0 + min ((x.head ++ x.mid ++ x.tail).filter (fun l => l.hdr && l.closed)).length 65535 * 65536)
  | 0x188 =>
    let p := k % 4 * 16 + sel
    some (fieldAt (s.poolFree (k / 4) p) 17 0 + bitAt (s.pool (k / 4) p).isSome 17)
  | _ => none

/-- TRACE registers of die `d` (R476). -/
def State.viewTrace (s : State) (d off : Nat) : Option Nat :=
  let g := s.ring d
  if 0x140 ≤ off ∧ off < 0x160 then some (leNat (((s.traceTail d).drop (off - 0x140)).take 4))
  else match off with
    | 0x110 => some (g.fill % 2 ^ 20 + s.getF (pgTrace d) 0x110 0 21 20 * 2 ^ 20 + bitAt g.dumpTo.isSome 22)
    | 0x114 => some g.head
    | 0x118 => some g.tail
    | _ => none

/-! The tile page (R116, R158, R186, R243, R475). -/

/-- Whether a dispatch queue's front command is in its engine. -/
def Tile.busyEng (x : Tile) (eng : Nat) : Bool := match mapGet x.dq eng [] with | i :: _ => i.started | [] => false

/-- Commands in a dispatch queue. -/
def Tile.queued (x : Tile) (eng : Nat) : Nat := (mapGet x.dq eng []).length

/-- The scoreboard entry that TILE_SB_SEL shows: 0 to 23, then the crumb buffer's. -/
def Tile.sbView (x : Tile) (k : Nat) : Option SbEntry :=
  if k < 24 then x.sb[k]? else if k < 28 then (x.crumbs[k - 24]?).map Crumb.entry else none

/-- EXCH commands with loaves left: direction 0 send, 1 receive. -/
def Tile.exchOpen (x : Tile) (dir : Nat) : List IssuedCmd := (mapGet x.dq 4 []).filter (fun i => cOp i.word.toNat == dir && !i.finished)

/-- Loaves held at a tile's receiving port, at most 4 (R223). -/
def State.held4 (s : State) (t : Nat) : Nat := min 4 (s.flight.filter (fun l => l.dst == t && l.stage == 3)).length

/-- A selected arbiter counter: one bank's, or over all seven (R111, R116); requester 15 reads 0. -/
def State.arbView (s : State) (t off sel : Nat) : Nat :=
  let v (b : Nat) : Nat := (s.reg (pgTile t) off (b * 16 + sel % 16)).toNat
  if sel % 16 = 15 then 0
  else if sel / 16 % 8 ≠ 7 then v (sel / 16 % 8)
  else if off = 0x718 then (List.range 7).foldl (fun m b => max m (v b)) 0
  else (List.range 7).foldl (fun n b => n + v b) 0 % 2 ^ 64

/-- Registers of the walker window (R116). -/
def Walker.view (w : Walker) (off : Nat) : Nat :=
  if off = 0x408 then w.space % 8
  else if off = 0x410 then w.base % 2 ^ 40
  else if off = 0x418 then w.cursor % 2 ^ 48
  else if off < 0x440 then w.counts.getD ((off - 0x420) / 4) 0 % 65536
  else toU 40 (w.strides.getD ((off - 0x440) / 8) 0)

/-- TILE registers. -/
def State.viewTile (s : State) (t off sel : Nat) : Option Nat :=
  let x := s.tile t
  let eng (k tok : Nat) : Nat := bitAt (x.busyEng k) 0 + bitAt (tok != 0) 1 + fieldAt (x.queued k) 3 8 + fieldAt tok 4 16
  if 0x200 ≤ off ∧ off < 0x300 then some (x.s ((off - 0x200) / 8))
  else if 0x408 ≤ off ∧ off < 0x470 then some ((x.wlk sel).view off)
  else match off with
    | 0x104 => some (x.task.code + (if x.task ≠ .running then 0 else if s.held t ∧ !x.dbgStep ∧ x.fbarAt.isNone then 9 else x.stall) * 256)
    | 0x11C => some (x.cmdIndex % 2 ^ 24)
    | 0x120 => some (fieldAt (x.queue.filter (fun e => x.cmdIndex ≤ e.1)).length 10 0 + fieldAt (x.queue.filter (fun e => x.retains e.1)).length 10 16)
    | 0x128 => some x.progress
    | 0x130 => some (x.preds % 256 ||| 1)
    | 0x600 => some (fieldAt x.sb.length 5 0 + fieldAt x.crumbs.length 3 8)
    | 0x610 => some (match x.sbView sel with | some e => 1 + bitAt e.write 1 + bitAt e.mem 2 + fieldAt e.index 24 8 | none => 0)
    | 0x618 => some (match x.sbView sel with | some e => e.lo % 2 ^ 41 | none => 0)
    | 0x620 => some (match x.sbView sel with | some e => e.hi % 2 ^ 41 | none => 0)
    | 0x708 => some (s.arbView t off sel)
    | 0x710 => some (s.arbView t off sel)
    | 0x718 => some (s.arbView t off sel)
    | 0x900 => some (eng 2 x.tokM)
    | 0xA00 => some (eng 3 x.tokV)
    | 0xB04 => some (s.getA (pgTile t) 0xB00 0 0 0 + bitAt (x.exchOpen 0 != []) 1 + bitAt (x.exchOpen 1 != []) 2 + s.held4 t * 16 +
        fieldAt x.xp.guards.length 4 8 + (match x.exchOpen 0 with | i :: _ => cf i.word.toNat 1 11 0 | [] => 0) * 65536)
    | 0xC00 => some (bitAt (x.busyEng 0) 0 + bitAt (x.busyEng 1) 1 + fieldAt (x.queued 0) 4 8 + fieldAt (x.queued 1) 4 12)
    | 0xE04 => some (bitAt (s.held t) 0 + s.getF (pgTile t) 0xE04 0 2 1 * 2 + (if s.held t then x.cmdIndex % 2 ^ 24 * 256 else 0))
    | _ => none

/-! Every register. -/

/-- The entry that a register's select register picks (WEIR registers of one polder also depend on the die; log entry 38). -/
def State.selOf (s : State) (pg : Nat) (r : RegSpec) : Nat :=
  match r.sel with
  | none => 0
  | some (o, hi, lo) => s.getF pg o 0 hi lo + (if pg = pgWeir ∧ o = 0x120 then 64 * s.getF pg 0x108 0 1 0 else 0)

/-- What a register shows through function `f`. -/
def State.view (s : State) (fv f pg : Nat) (r : RegSpec) : Nat :=
  match pageBlock pg with
  | none => 0
  | some (b, i) =>
    let sel := s.selOf pg r
    let v := if r.off < 0x100 then s.viewHdr b i pg r.off else match b with
      | .dev => s.viewDev r.off sel
      | .gauge => s.viewGauge r.off sel
      | .pld => s.viewPld r.off sel
      | .arm => s.viewArm r.off
      | .intake => s.viewIntake i r.off
      | .die => s.viewDie fv i r.off sel
      | .d2d => s.viewD2d i r.off
      | .knd => s.viewKnd f i r.off
      | .lnk => s.viewLnk i r.off
      | .hbmc => s.viewHbmc i r.off sel
      | .sc => s.viewSc i r.off sel
      | .sq => s.viewSq i r.off sel
      | .trace => s.viewTrace i r.off
      | .tile => s.viewTile i r.off sel
      | .pwr => none
      | .weir => none
      | .mbox => none
    let w := v.getD (s.reg pg r.off sel).toNat
    if r.wide then w % 2 ^ 64 else w % 2 ^ 32

end Sys2Proof.Machine
end

