-- ==== Sys2Proof/Machine/SpillQueue.lean ====
section
/-!
DEFINITION. The commands of the queue engines (09_spill_queues.md R279 to R293).
-/
namespace Sys2Proof.Machine

/-- The physical tile of a tile source ID (R34). -/
def State.tileOfSrc (s : State) (src : Nat) : Option Nat := s.physTile (src / 2048) (src % 2048 / 36) (src % 2048 % 36)

/-- SQ_TAIL_ARRIVAL (R280, R282, R290): the next loaf, OPEN or CLOSE of tile `t`'s port reaches its queue's tail. -/
def execSqTailArrival (t : Nat) (s : State) : Out := onTile t (fun _ => s.sqArrive t)

/-- SQ_MIDDLE_REFILL (R280, R288, R289): loaves read from the spillway refill the head; a lasting read error puts the queue in error. -/
def effRefill (q : Nat) (err : Bool) (s : State) : State :=
  let x := s.sq q
  match x.mid with
  | [] => s
  | l :: ls => s.onSq q (SqQueue.refill (if err then { x with mid := { l with bad := true } :: ls, error := true } else x))

/-- SQ_MIDDLE_REFILL. -/
def execSqMiddleRefill (q : Nat) (err : Bool) (s : State) : Out := onQueue q (fun _ => effRefill q err s)

/-- SQ_SEGMENT_REQUEST (R289). -/
def execSqSegmentRequest (q : Nat) (s : State) : Out := onQueue q (fun _ => s.grantSeg q)

/-- POOL_EMPTY (R289, R293): the queue has waited empty_wait beats for a segment with its producer's OPEN or PUSH held; a segment that is free now is
granted instead. -/
def effPoolEmpty (q : Nat) (s : State) : State :=
  let x := s.sq q
  if !x.asked then s
  else if s.segAvail q then s.grantSeg q
  else match s.owner 4 q, x.prod with
    | some p, some src =>
      match s.tileOfSrc src with
      | none => s
      | some t =>
        match (s.tile t).sqOut with
        | [] => s
        | a :: _ =>
          if a.q ≠ q ∨ a.kind = 2 ∨ a.gen ≠ x.gen ∨ x.tail.length < 8 then s
          else match (s.tile t).ofOrd a.ord with
            | none => s
            | some i => (s.sqFault t i q 0x1645).sat (pgSq (q / 64 * 4 + p / 16)) 0x190 (p % 16) 31 0 1
    | _, _ => s

/-- POOL_EMPTY. -/
def execPoolEmpty (q : Nat) (s : State) : Out := onQueue q (fun _ => effPoolEmpty q s)

/-- Whether a latched end of queue `q` has a RUNNING task (R291). -/
def State.endRuns (s : State) (o : Option Nat) : Bool :=
  match o with
  | none => false
  | some src => match s.tileOfSrc src with | some t => (s.tile t).task == .running | none => false

/-- SQ_FLUSH: SQ_Q_CTRL.flush (R290, R291): refused with 0x1647 while busy or while a latched task runs. -/
def effSqFlush (q : Nat) (s : State) : State :=
  let x := s.sq q
  if s.flushBusy q ∨ s.endRuns x.prod ∨ s.endRuns x.cons then s.err (pgSq (q / 16)) 0x1647 else s.flushQ q

/-- SQ_FLUSH. -/
def execSqFlush (q : Nat) (s : State) : Out := onQueue q (fun _ => effSqFlush q s)

end Sys2Proof.Machine
end

