-- ==== Sys2Proof/Machine/RegWrite.lean ====
section
/-!
DEFINITION. Register accesses (15_host_interface.md R431 to R438, R10, R11): the pages each function reaches, the halves of 64-bit registers, access codes,
staging, locking, and the registers whose write is a command of its own. Also COUNTER_CLEAR, the JTAG access and the watch network.
-/
namespace Sys2Proof.Machine

/-- The state a meaning answers; `s` where it stops. -/
def afterOut (s : State) (o : Out) : State := match o with | .next t => t | _ => s

/-! Writes under the access codes (R10, R11, R363, R364, R438). -/

/-- Whether an activation is armed or in progress (R364). -/
def State.armBusy (s : State) : Bool := s.armState != 0

/-- Whether the owner of a page's LK fields is sealed; a KND slot's is its polder (R372). -/
def State.lockSealed (s : State) (pg sel : Nat) : Bool :=
  let o := match pageBlock pg with
    | some (.knd, d) => s.owner 3 (d * 16 + sel)
    | _ => s.pageOwner pg
  match o with
  | some p => s.sealed p
  | none => false

/-- The word after one field of a write. -/
def writeField (sealedP busy : Bool) (v : Nat) (w : Word) (f : FieldSpec) : Word :=
  let x := bitsOf v f.hi f.lo
  match f.acc with
  | .rw => setFld w f.hi f.lo x
  | .w1c => setFld w f.hi f.lo (fld w f.hi f.lo &&& (2 ^ (f.hi + 1 - f.lo) - 1 - x))
  | .lk => if sealedP then w else setFld w f.hi f.lo x
  | .st => if busy then w else setFld w f.hi f.lo x
  | .ro => w
  | .wo => w

/-- A write of `v` to the register `r` of page `pg` at entry `sel` under its fields' access codes. -/
def State.writeFields (s : State) (pg sel : Nat) (r : RegSpec) (v : Nat) : State :=
  let lk := r.fields.any (·.acc == .lk)
  let st := r.fields.any (·.acc == .st)
  let sealedP := lk && s.lockSealed pg sel
  let busy := st && s.armBusy
  let w := r.fields.foldl (writeField sealedP busy v) (s.reg pg r.off sel)
  let k := regKey pg r.off sel
  let s1 := s.setReg pg r.off sel w
  let s2 := if st && !busy then ({ s1 with staged := if s1.staged.contains k then s1.staged else s1.staged ++ [k] } : State).countEv pg 4 1 else s1
  let s3 := if busy then s2.err pg ((pageBlock pg).elim 0 (fun b => b.1.typeId) * 256 % 65536 + 0x7D) else s2
  if sealedP then s3.err pg ((pageBlock pg).elim 0 (fun b => b.1.typeId) * 256 % 65536 + 0x7F) else s3

/-- PG_OWNER: a write that LK permits stages the page's binding entry, as a write of PLD_BIND would (R372). -/
def State.writeOwner (s : State) (pg v : Nat) : State :=
  match s.pageEntry pg with
  | none => s
  | some (tb, e) =>
    let bb := (pageBlock pg).elim 0 (fun b => b.1.typeId) * 256 % 65536
    if s.lockSealed pg 0 then s.err pg (bb + 0x7F)
    else if s.armBusy then s.err pg (bb + 0x7D)
    else
      let k := regKey pgPld 0x104 (tb * 4096 + e)
      ({ s.setReg pgPld 0x104 (tb * 4096 + e) (BitVec.ofNat 64 (v % 128)) with
          staged := if s.staged.contains k then s.staged else s.staged ++ [k] } : State).countEv pg 4 1

/-! Registers whose write does more. -/

/-- DEV_RESET_CTRL (R413, R424): a request of a domain; others than the five are refused. -/
def State.writeReset (s : State) (v : Nat) : State :=
  let dom := bitsOf v 2 0
  let tg := bitsOf v 18 4
  if !bitOf v 31 then s
  else match dom with
    | 1 => effTileReset tg s
    | 2 => effPolderReset tg s
    | 3 => effDieReset tg s
    | 4 => effDeviceReset s.drawPpr.1 s.drawPpr.2
    | 5 => effColdReset s.drawPpr.1 s.drawPpr.2
    | _ => s.resetReq dom tg false id

/-- DEV registers (R324, R424). -/
def State.writeDev (s : State) (r : RegSpec) (sel v : Nat) : State :=
  match r.off with
  | 0x200 => afterOut s (execDevNodeWrite v s)
  | 0x204 => afterOut s (execDevTorusWrite v s)
  | 0x210 => afterOut s (execFrameLoad v s)
  | 0x224 => afterOut s (execRouteTableWrite sel (v % 256) s)
  | 0x318 => s.writeReset v
  | 0x344 =>
    if !bitOf v 31 then s
    else match bitsOf v 1 0 with
      | 1 => afterOut s (execUnitFence sel s)
      | 2 => afterOut s (execUnitUnfence sel s)
      | 3 => afterOut s (execUnitRepair sel s)
      | _ => s
  | _ => s.writeFields pgDev sel r v

/-- PWR registers (R378, R379, R395). -/
def State.writePwr (s : State) (r : RegSpec) (sel v : Nat) : State :=
  match r.off with
  | 0x100 => afterOut s (execPwrCapWrite (v % 256) s)
  | 0x104 => afterOut s (execPwrShiftWrite (v % 512) s)
  | 0x114 => (s.writeFields pgPwr sel r v).hostLevel
  | _ => s.writeFields pgPwr sel r v

/-- PLD table registers (R374): an index beyond the table takes no write; PLD_BIND_SEL advances after each write of PLD_BIND. -/
def State.writePld (s : State) (r : RegSpec) (sel v : Nat) : State :=
  if r.off = 0x104 then
    let s1 := if sel % 4096 < bindSize (sel / 4096) then s.writeFields pgPld sel r v else s
    if s.getF pgPld 0x100 0 15 15 = 1 then s1.setF pgPld 0x100 0 10 0 (s.getF pgPld 0x100 0 10 0 + 1) else s1
  else s.writeFields pgPld sel r v

/-- PLD mode-arm registers (R364 to R368, R495). -/
def State.writeArm (s : State) (r : RegSpec) (sel v : Nat) : State :=
  match r.off with
  | 0x100 =>
    if 2 ≤ ((List.range 4).filter (fun i => bitOf v i)).length then afterOut s (execArmCtrlMulti v s)
    else if bitOf v 0 then effArmBeat s
    else if bitOf v 1 then effArmFrame s
    else if bitOf v 2 then effDisarm s
    else if bitOf v 3 then effArmDiscard s
    else s
  | 0x130 => afterOut s (execRejoin v s)
  | 0x134 => s.setReg pgArm 0x134 0 (BitVec.ofNat 64 (v % 65536))
  | _ => s.writeFields pgArm sel r v

/-- INTAKE registers of polder `p` (R439): ring and tally registers refuse a write while enabled; enable = 1 waits for READY (R435). -/
def State.writeIntake (s : State) (p : Nat) (r : RegSpec) (sel v : Nat) : State :=
  if r.off = 0x100 then (if bitOf v 0 then effEnable p s else effDisable p s)
  else if r.off = 0x114 then effDoorbell p v s
  else if ([0x108, 0x110, 0x120, 0x128, 0x130] : List Nat).contains r.off ∧ s.getF (pgIntake p) 0x100 0 0 0 = 1 then s.intakePost p 0x0661 true
  else s.writeFields (pgIntake p) sel r v

/-- Mailbox registers (R452). -/
def State.writeMbox (s : State) (r : RegSpec) (sel v : Nat) : State :=
  if r.off = 0x100 then
    let s1 := if bitOf v 0 then effMboxSend s else s
    if bitOf v 1 then s1.setMbox 0 0 0 else s1
  else s.writeFields pgMbox sel r v

/-- DIE registers (R211, R404, R425): a retired column's bit in DIE_COL_RETIRE stays. -/
def State.writeDie (s : State) (d : Nat) (r : RegSpec) (sel v : Nat) : State :=
  match r.off with
  | 0x318 => effLoadAbort d v s
  | 0x410 => s.writeFields (pgDie d) sel r (v ||| s.retired d)
  | _ => s.writeFields (pgDie d) sel r v

/-- D2D registers (R244): retrain, then fail, where both are written. -/
def State.writeD2d (s : State) (i : Nat) (r : RegSpec) (sel v : Nat) : State :=
  if r.off = 0x108 then
    let s1 := if bitOf v 0 ∧ s.d2dState i = 4 then s.retrainLink i else s
    if bitOf v 1 then s1.failLink i else s1
  else s.writeFields (pgD2d i) sel r v

/-- KND registers of die `d` through function `f` (R330, R349, R351, R353). -/
def State.writeKnd (s : State) (f d : Nat) (r : RegSpec) (sel v : Nat) : State :=
  match r.off with
  | 0x108 => match s.slotThrough f d (s.getF (pgKnd d) 0x104 0 5 0) with
    | some k => s.writeFields (pgKnd d) k r v
    | none => s
  | 0x160 => if bitOf v 0 then effKndPost f d s else s
  | 0x170 => if f = 0 ∧ bitOf v 31 then s.abortOn d (bitsOf v 5 0) else s
  | 0x174 => if f = 0 ∧ bitOf v 31 then afterOut s (execKndQuiesce d (bitsOf v 5 0) (bitsOf v 15 8) s) else s
  | _ => s.writeFields (pgKnd d) sel r v

/-- LNK registers of port `q` (R306, R323). -/
def State.writeLnk (s : State) (q : Nat) (r : RegSpec) (sel v : Nat) : State :=
  if r.off = 0x104 then
    let s1 := effLnkEnable q (bitOf v 0) (s.writeFields (pgLnk q) sel r (setFld (BitVec.ofNat 64 v) 0 0 (s.getF (pgLnk q) 0x104 0 0 0)).toNat)
    if bitOf v 1 ∧ s1.lnkState q = 3 then s1.startRetrain q else s1
  else s.writeFields (pgLnk q) sel r v

/-- SC registers (R272, R278): arbiter requesters 17 to 31 do not exist. -/
def State.writeSc (s : State) (sl : Nat) (r : RegSpec) (sel v : Nat) : State :=
  if r.off = 0x128 then (if bitOf v 0 then effLockFree sl s else s)
  else if (r.off = 0x168 ∨ r.off = 0x170 ∨ r.off = 0x178) ∧ 17 ≤ sel % 32 then s
  else s.writeFields (pgSc sl) sel r v

/-- SQ registers of page `k` (R290, R294). -/
def State.writeSq (s : State) (k : Nat) (r : RegSpec) (sel v : Nat) : State :=
  if r.off = 0x108 then (if bitOf v 0 then effSqFlush (k * 16 + sel) s else s) else s.writeFields (pgSq k) sel r v

/-- TRACE registers of die `d` (R465, R471, R474, R476). -/
def State.writeTrace (s : State) (d : Nat) (r : RegSpec) (sel v : Nat) : State :=
  match r.off with
  | 0x100 => (s.writeFields (pgTrace d) sel r v).setF (pgTrace d) 0x100 0 16 16 0
  | 0x168 => if bitOf v 0 then effDump d s else s
  | 0x190 => if bitOf v 0 then effAnchor d s else s
  | 0x1B0 => if bitOf v 8 then s.askHold d (bitsOf v 5 0) true else if bitOf v 9 then s.askHold d (bitsOf v 5 0) false else s
  | _ => s.writeFields (pgTrace d) sel r v

/-- A walker with one register of its window written (R116). -/
def Walker.write (w : Walker) (off v : Nat) : Walker :=
  if off = 0x408 then { w with space := v % 8 }
  else if off = 0x410 then { w with base := v % 2 ^ 40 }
  else if off = 0x418 then { w with cursor := v % 2 ^ 48 }
  else if off < 0x440 then { w with counts := w.counts.set ((off - 0x420) / 4) (v % 65536) }
  else { w with strides := w.strides.set ((off - 0x440) / 8) (sext 40 v) }

/-- TILE_DBG_CTRL (R462, R463): a write of hold or step to a static-mode tile is discarded. -/
def State.writeDbg (s : State) (t : Nat) (r : RegSpec) (v : Nat) : State :=
  if (bitOf v 0 ∨ bitOf v 1) ∧ !s.handshake t then s.err (pgTile t) 0x2050
  else
    let s1 := if bitOf v 1 then s.stepTile t else s
    s1.writeFields (pgTile t) 0 r v

/-- TILE registers (R111, R116, R117, R462, R463); those of a task's own state take no write while it RUNs. -/
def State.writeTile (s : State) (t : Nat) (r : RegSpec) (sel v : Nat) : State :=
  let o := r.off
  let pg := pgTile t
  if (0x200 ≤ o ∧ o < 0x300) ∨ (0x408 ≤ o ∧ o < 0x470) ∨ o = 0x130 then
    if (s.tile t).task = .running then s.err pg 0x2019
    else if o = 0x130 then s.onT t (fun x => { x with preds := v % 256 ||| 1 })
    else if o < 0x300 then s.onT t (fun x => x.setS ((o - 0x200) / 8) v)
    else s.onT t (fun x => { x with walkers := mapSet x.walkers sel ((x.wlk sel).write o v) })
  else match o with
    | 0x100 =>
      let s1 := if bitOf v 0 then effStart t s else s
      if bitOf v 1 then effStop t s1 else s1
    | 0x7F0 => if bitOf v 0 then s.startClear t else s
    | 0xE00 => s.writeDbg t r v
    | 0xE44 => if bitOf v 0 then (s.writeFields pg sel r v).setF pg 0xE44 0 31 16 0 else s
    | _ =>
      if 0x708 ≤ o ∧ o ≤ 0x718 ∧ (sel % 16 = 15 ∨ sel / 16 % 8 = 7) then s
      else s.writeFields pg (if 0x708 ≤ o ∧ o ≤ 0x718 then sel / 16 % 8 * 16 + sel % 16 else sel) r v

/-- The six common counters of a page become 0 (R437). -/
def State.clearCounters (s : State) (pg : Nat) : State := (List.range 6).foldl (fun st i => st.setReg pg (0x30 + 8 * i) 0 0) s

/-- Header registers (R363, R372, R437, R438): PG_OWNER through the PF alone; clearing err clears more. -/
def State.writeHdr (s : State) (f pg : Nat) (r : RegSpec) (v : Nat) : State :=
  match r.off with
  | 0x10 =>
    let s1 := s.writeFields pg 0 r v
    if bitOf v 1 then s1.clearCounters pg else s1
  | 0x18 => s.writeFields pg 0 r (if bitOf v 0 then v ||| 2 else v)
  | 0x2C => if f = 0 then s.writeOwner pg v else s
  | _ => s.writeFields pg 0 r v

/-- A whole register of a page takes a write through function `f`. -/
def State.writeReg (s : State) (f pg : Nat) (r : RegSpec) (v : Nat) : State :=
  match pageBlock pg with
  | none => s
  | some (b, i) =>
    let sel := s.selOf pg r
    if r.off < 0x100 then s.writeHdr f pg r v
    else match b with
      | .dev => s.writeDev r sel v
      | .pwr => s.writePwr r sel v
      | .weir => s.writeFields pg sel r v
      | .gauge =>
        if r.off = 0x12C then afterOut s (execGaugeLogPass (v % 256) s)
        else if (r.off = 0x118 ∨ r.off = 0x120) ∧ 10 ≤ sel then s
        else s.writeFields pg sel r v
      | .pld => s.writePld r sel v
      | .arm => s.writeArm r sel v
      | .intake => s.writeIntake i r sel v
      | .mbox => s.writeMbox r sel v
      | .die => s.writeDie i r sel v
      | .d2d => s.writeD2d i r sel v
      | .knd => s.writeKnd f i r sel v
      | .lnk => s.writeLnk i r sel v
      | .hbmc => s.writeFields pg sel r v
      | .sc => s.writeSc i r sel v
      | .sq => s.writeSq i r sel v
      | .trace => s.writeTrace i r sel v
      | .tile => s.writeTile i r sel v

/-! Pages and accesses (R431 to R435). -/

/-- The page that offset `off` of function `f`'s BAR0 reaches (Tables 15-3 to 15-5). -/
def State.barPage (s : State) (f off : Nat) : Option Nat :=
  let o := off / 4096
  if f = 0 then (if off < 0x800_0000 ∧ (pageBlock o).isSome then some o else none)
  else if o = 0 then some (pgIntake f)
  else if o < 5 then some (pgKnd (o - 1))
  else if 8 ≤ o ∧ o < 40 then (s.ofRank 2 f (o - 8)).map pgLnk
  else if 0x400 ≤ o ∧ o < 0x800 then (s.tileOf f (min (s.getF (pgIntake f) 0x154 0 2 0) 4 * 1024 + (o - 0x400))).map pgTile
  else none

/-- Whether a function's BAR decodes: the link is up, the function exists and is in D0 (R426, R428, R430). -/
def State.decodes (s : State) (f : Nat) : Bool := s.module.portTrained && s.fnThere f && !(s.fn f).d3hot

/-- Whether a page answers before READY (R435). -/
def answersEarly (b : Block) : Bool := b == .dev || b == .mbox || b == .intake

/-- Whether a page answers now. -/
def State.pageAnswers (s : State) (pg : Nat) : Bool :=
  match pageBlock pg with
  | some (b, _) => s.bootState == 4 || answersEarly b
  | none => false

/-- Whether the load of a tile page's polder fences it (R201 phase 2). -/
def State.loadFenced (s : State) (pg : Nat) : Bool :=
  match pageBlock pg with
  | some (.tile, t) => (match s.tileOwner t with | some p => (s.pol p).loading.isSome | none => false)
  | _ => false

/-- The register at a page offset and the half that a 4-byte access there reaches: 0 a 32-bit register, 1 a low half, 2 a high half. -/
def regHalf (b : Block) (o : Nat) : Option (RegSpec × Nat) :=
  match regAt b o with
  | some r => some (r, if r.wide then 1 else 0)
  | none => match (if 4 ≤ o then regAt b (o - 4) else none) with
    | some r => if r.wide then some (r, 2) else none
    | none => none

/-- The key of a 64-bit register's held and captured halves. -/
def halfKey (pg : Nat) (r : RegSpec) : Nat := pg * 4096 + r.off

/-- A 4-byte write at page offset `o` (R434). -/
def State.write4 (s : State) (f pg o v : Nat) : State :=
  match pageBlock pg with
  | none => s
  | some (b, _) =>
    if b = .mbox ∧ 0x800 ≤ o then
      if o < 0xC00 then { s with module := { s.module with mboxReq := memWrite s.module.mboxReq (o - 0x800) (natLE 4 v) } } else s
    else match regHalf b o with
      | none => s
      | some (r, 0) => s.writeReg f pg r v
      | some (r, 1) => { s with lowHeld := mapSet s.lowHeld (halfKey pg r) (v % 2 ^ 32) }
      | some (r, _) =>
        let k := halfKey pg r
        let lo := (mapFind? s.lowHeld k).getD (s.view 0 f pg r % 2 ^ 32)
        ({ s with lowHeld := mapDrop s.lowHeld (· == k) } : State).writeReg f pg r (lo + v % 2 ^ 32 * 2 ^ 32)

/-- An aligned write of 4 or 8 bytes at page offset `o`: a 64-bit register whole, else one or two 4-byte accesses, the lower first (R434). -/
def State.writeAt (s : State) (f pg o size v : Nat) : State :=
  if size = 4 then s.write4 f pg o (v % 2 ^ 32)
  else match (pageBlock pg).bind (fun b => regAt b.1 o) with
    | some r =>
      if r.wide then ({ s with lowHeld := mapDrop s.lowHeld (· == halfKey pg r) } : State).writeReg f pg r (v % 2 ^ 64)
      else (s.write4 f pg o (v % 2 ^ 32)).write4 f pg (o + 4) (v / 2 ^ 32 % 2 ^ 32)
    | none => (s.write4 f pg o (v % 2 ^ 32)).write4 f pg (o + 4) (v / 2 ^ 32 % 2 ^ 32)

/-- A 4-byte read at page offset `o`: its value and the state after; TRACE_RD_DATA7 advances TAIL (R434, R471). -/
def State.read4 (s : State) (f pg o : Nat) : Nat × State :=
  match pageBlock pg with
  | none => (0, s)
  | some (b, i) =>
    if b = .mbox ∧ 0x800 ≤ o then
      (if o < 0xC00 then memNat s.module.mboxReq (o - 0x800) 4 else leNat ((s.module.mboxRsp.drop (o - 0xC00)).take 4), s)
    else
      let (fv, s0) := if b = .die ∧ o = 0x300 then drawFree s else (0, s)
      match regHalf b o with
      | none => (0, s0)
      | some (r, 0) => (s0.view fv f pg r, if b = .trace ∧ o = 0x15C then effTraceRead i s0 else s0)
      | some (r, 1) =>
        let v := s0.view fv f pg r
        (v % 2 ^ 32, { s0 with hiCap := mapSet s0.hiCap (halfKey pg r) (v / 2 ^ 32) })
      | some (r, _) =>
        let k := halfKey pg r
        ((mapFind? s0.hiCap k).getD (s0.view fv f pg r / 2 ^ 32), { s0 with hiCap := mapDrop s0.hiCap (· == k) })

/-- An aligned read of 4 or 8 bytes at page offset `o`. -/
def State.readAt (s : State) (f pg o size : Nat) : Nat × State :=
  let two : Nat × State :=
    let (lo, s1) := s.read4 f pg o
    let (hi, s2) := s1.read4 f pg (o + 4)
    (lo + hi * 2 ^ 32, s2)
  if size = 4 then s.read4 f pg o
  else match (pageBlock pg).bind (fun b => regAt b.1 o) with
    | some r => if r.wide then (s.view 0 f pg r, s) else two
    | none => two

/-- Whether an access's size and alignment are those of R434. -/
def goodSize (off size : Nat) : Bool := (size == 4 || size == 8) && off % size == 0

/-- A write that reaches function `f`'s BAR (R431 to R436). -/
def State.barWrite (s : State) (f off size v : Nat) : State :=
  if !goodSize off size then s.err pgDev 0x0151
  else match s.barPage f off with
    | none => s
    | some pg => if !s.pageAnswers pg || s.loadFenced pg then s else s.writeAt f pg (off % 4096) size v

/-- A read that reaches function `f`'s BAR (R431 to R436). -/
def State.barRead (s : State) (f off size : Nat) : Nat × State :=
  if !goodSize off size then (0xFFFF_FFFF, s.err pgDev 0x0151)
  else match s.barPage f off with
    | none => (0, s)
    | some pg => if !s.pageAnswers pg then (0, s) else s.readAt f pg (off % 4096) size

/-! The commands. -/

/-- REGISTER_WRITE: a BAR write; a function that decodes nothing takes none. -/
def effRegisterWrite (f off size v : Nat) (s : State) : State := if s.decodes f then s.barWrite f off size v else s

/-- REGISTER_WRITE. -/
def execRegisterWrite (fn off size val : Nat) (s : State) : Out := onPol fn (fun _ => effRegisterWrite fn off size val s)

/-- BAR_READ: the data returned stands in `readData`; a function that decodes nothing returns none. -/
def effBarRead (f off size : Nat) (s : State) : State :=
  if s.decodes f then { (s.barRead f off size).2 with readData := (s.barRead f off size).1 } else s

/-- BAR_READ. -/
def execBarRead (fn off size : Nat) (s : State) : Out := onPol fn (fun _ => effBarRead fn off size s)

/-- COUNTER_CLEAR: PG_CTRL.cnt_clear. -/
def execCounterClear (page : Nat) (s : State) : Out := onPage page (fun _ => s.clearCounters page)

/-- JTAG_REGISTER_ACCESS (R473): an access of PF BAR0 where the board configuration enables it; else the instruction acts as BYPASS (log entry 114). -/
def effJtagAccess (write : Bool) (off size v : Nat) (s : State) : State :=
  if !s.module.jtagRegs then s.jtag 0
  else if write then s.barWrite 0 off size v
  else (s.barRead 0 off size).2.jtag (s.barRead 0 off size).1

/-- JTAG_REGISTER_ACCESS. -/
def execJtagRegisterAccess (write : Bool) (off size val : Nat) (s : State) : Out := .next (effJtagAccess write off size val s)

/-! The watch network (R468). -/

/-- The value of the counter a watch slot names: 0 for a page of another die or an offset without a 64-bit register. -/
def State.watched (s : State) (d pg o : Nat) : Nat :=
  match pageBlock pg with
  | some (b, _) => if pageDie pg ≠ d then 0 else (match regAt b o with | some r => if r.wide then s.view 0 0 pg r else 0 | none => 0)
  | none => 0

/-- Slot `k` of die `d` samples where its period divides the beat. -/
def State.watchSlot (s : State) (d k : Nat) : State :=
  let pg := pgTrace d
  let c := s.reg pg 0x184 k
  let o := fld c 27 19 * 8
  if fld c 15 15 = 1 ∧ s.beat % max 1 (s.getF pg 0x188 k 15 0) = 0 then
    s.traceRec d 4 pg 0xFFFF (natLE 2 (fld c 14 0) ++ natLE 2 (fld c 27 16) ++ natLE 1 k ++ zeros 3 ++ natLE 8 (s.watched d (fld c 14 0) o))
  else s

/-- WATCH_SAMPLE: every slot of a die that falls due in this beat. -/
def effWatch (d : Nat) (s : State) : State := (List.range 16).foldl (fun st k => st.watchSlot d k) s

/-- WATCH_SAMPLE. -/
def execWatchSample (die : Nat) (s : State) : Out := onDie die (fun _ => effWatch die s)

end Sys2Proof.Machine
end

