-- ==== Sys2Proof/Machine/Dispatch.lean ====
section
/-!
DEFINITION. The meaning of every command of spec/opcode_table.json, one arm per constructor of Instr in the table's order.
-/
namespace Sys2Proof.Machine

/-- The effect of a command on everything but the queue. -/
def exec (i : Instr) (s : State) : Host.Outcome State Fault Refusal :=
  match i with
  | .commandFetch t err => Sys2Proof.Machine.execCommandFetch t err s
  | .moveLoad t ecc => Sys2Proof.Machine.execMoveLoad t ecc s
  | .moveStore t ecc => Sys2Proof.Machine.execMoveStore t ecc s
  | .mma t ecc => Sys2Proof.Machine.execMma t ecc s
  | .mmz t ecc => Sys2Proof.Machine.execMmz t ecc s
  | .vecMap t ecc => Sys2Proof.Machine.execVecMap t ecc s
  | .vecReduce t ecc => Sys2Proof.Machine.execVecReduce t ecc s
  | .convL t ecc => Sys2Proof.Machine.execConvL t ecc s
  | .convS t ecc => Sys2Proof.Machine.execConvS t ecc s
  | .convV t ecc => Sys2Proof.Machine.execConvV t ecc s
  | .exchSend t => Sys2Proof.Machine.execExchSend t s
  | .exchRecv t => Sys2Proof.Machine.execExchRecv t s
  | .waitb t => Sys2Proof.Machine.execWaitb t s
  | .fbar t => Sys2Proof.Machine.execFbar t s
  | .kflag t => Sys2Proof.Machine.execKflag t s
  | .kwait t => Sys2Proof.Machine.execKwait t s
  | .loop t => Sys2Proof.Machine.execLoop t s
  | .alu t => Sys2Proof.Machine.execAlu t s
  | .cmp t => Sys2Proof.Machine.execCmp t s
  | .pbool t => Sys2Proof.Machine.execPbool t s
  | .ldi t => Sys2Proof.Machine.execLdi t s
  | .ldc t ecc => Sys2Proof.Machine.execLdc t ecc s
  | .stc t => Sys2Proof.Machine.execStc t s
  | .amxr t => Sys2Proof.Machine.execAmxr t s
  | .sqOpen t => Sys2Proof.Machine.execSqOpen t s
  | .sqPush t ecc => Sys2Proof.Machine.execSqPush t ecc s
  | .sqClose t => Sys2Proof.Machine.execSqClose t s
  | .sqPop t => Sys2Proof.Machine.execSqPop t s
  | .atomAdd t => Sys2Proof.Machine.execAtomAdd t s
  | .atomMin t => Sys2Proof.Machine.execAtomMin t s
  | .atomMax t => Sys2Proof.Machine.execAtomMax t s
  | .atomCas t => Sys2Proof.Machine.execAtomCas t s
  | .atomSwap t => Sys2Proof.Machine.execAtomSwap t s
  | .atomFinc t => Sys2Proof.Machine.execAtomFinc t s
  | .lacq t => Sys2Proof.Machine.execLacq t s
  | .lrel t => Sys2Proof.Machine.execLrel t s
  | .cntCount t ecc => Sys2Proof.Machine.execCntCount t ecc s
  | .cntMask t ecc => Sys2Proof.Machine.execCntMask t ecc s
  | .cntHist t ecc => Sys2Proof.Machine.execCntHist t ecc s
  | .snap t ecc => Sys2Proof.Machine.execSnap t ecc s
  | .mark t => Sys2Proof.Machine.execMark t s
  | .halt t => Sys2Proof.Machine.execHalt t s
  | .commandComplete t eng ecc => Sys2Proof.Machine.execCommandComplete t eng ecc s
  | .taskStart t => Sys2Proof.Machine.execTaskStart t s
  | .taskStop t => Sys2Proof.Machine.execTaskStop t s
  | .tileClear t => Sys2Proof.Machine.execTileClear t s
  | .clearComplete t => Sys2Proof.Machine.execClearComplete t s
  | .scratchpadWindowWrite fn t addr data => Sys2Proof.Machine.execScratchpadWindowWrite fn t addr data s
  | .tokenGrant t vec ecc => Sys2Proof.Machine.execTokenGrant t vec ecc s
  | .tokenIdleReturn t vec => Sys2Proof.Machine.execTokenIdleReturn t vec s
  | .rampAdmission pol die k => Sys2Proof.Machine.execRampAdmission pol die k s
  | .rampEnd pol die => Sys2Proof.Machine.execRampEnd pol die s
  | .exchSlot t stream late ecc => Sys2Proof.Machine.execExchSlot t stream late ecc s
  | .exchLoafArrival t stream idx => Sys2Proof.Machine.execExchLoafArrival t stream idx s
  | .crossingSlot die col retry => Sys2Proof.Machine.execCrossingSlot die col retry s
  | .xpCrossLate t stream idx => Sys2Proof.Machine.execXpCrossLate t stream idx s
  | .handshakeCredit t stream ecc => Sys2Proof.Machine.execHandshakeCredit t stream ecc s
  | .sliceLoad pol die kind pa len sram => Sys2Proof.Machine.execSliceLoad pol die kind pa len sram s
  | .sliceStore pol die kind pa data => Sys2Proof.Machine.execSliceStore pol die kind pa data s
  | .heldStore t path => Sys2Proof.Machine.execHeldStore t path s
  | .commit t path => Sys2Proof.Machine.execCommit t path s
  | .discard t path => Sys2Proof.Machine.execDiscard t path s
  | .provFull t path => Sys2Proof.Machine.execProvFull t path s
  | .wcbDrainAge sl => Sys2Proof.Machine.execWcbDrainAge sl s
  | .nearInvalidate die line => Sys2Proof.Machine.execNearInvalidate die line s
  | .sliceAtomic t => Sys2Proof.Machine.execSliceAtomic t s
  | .lockOp t => Sys2Proof.Machine.execLockOp t s
  | .lockFree sl => Sys2Proof.Machine.execLockFree sl s
  | .hbmReadReturn da outcome bad => Sys2Proof.Machine.execHbmReadReturn da outcome bad s
  | .freshZeroDone blk => Sys2Proof.Machine.execFreshZeroDone blk s
  | .scrubZeroBlock stack => Sys2Proof.Machine.execScrubZeroBlock stack s
  | .patrolRead stack outcome bad => Sys2Proof.Machine.execPatrolRead stack outcome bad s
  | .hbmTempSample stack temp trip => Sys2Proof.Machine.execHbmTempSample stack temp trip s
  | .sqTailArrival t => Sys2Proof.Machine.execSqTailArrival t s
  | .sqMiddleRefill q err => Sys2Proof.Machine.execSqMiddleRefill q err s
  | .sqSegmentRequest q => Sys2Proof.Machine.execSqSegmentRequest q s
  | .poolEmpty q => Sys2Proof.Machine.execPoolEmpty q s
  | .sqFlush q => Sys2Proof.Machine.execSqFlush q s
  | .kndPost fn die => Sys2Proof.Machine.execKndPost fn die s
  | .kflagAccept t => Sys2Proof.Machine.execKflagAccept t s
  | .kndDataFlit die => Sys2Proof.Machine.execKndDataFlit die s
  | .kndReady die => Sys2Proof.Machine.execKndReady die s
  | .kndArrive die => Sys2Proof.Machine.execKndArrive die s
  | .kndDone die => Sys2Proof.Machine.execKndDone die s
  | .kndShadowComplete die slot => Sys2Proof.Machine.execKndShadowComplete die slot s
  | .kndCommitComplete die slot => Sys2Proof.Machine.execKndCommitComplete die slot s
  | .kndAbortMsg die => Sys2Proof.Machine.execKndAbortMsg die s
  | .kndAbort die pol => Sys2Proof.Machine.execKndAbort die pol s
  | .kndQuiesce die pol frames => Sys2Proof.Machine.execKndQuiesce die pol frames s
  | .quiesceExpiry die => Sys2Proof.Machine.execQuiesceExpiry die s
  | .kndDeadline die slot => Sys2Proof.Machine.execKndDeadline die slot s
  | .fbarArrival t => Sys2Proof.Machine.execFbarArrival t s
  | .frameBarrierRelease die slot => Sys2Proof.Machine.execFrameBarrierRelease die slot s
  | .barrierCompletion die slot => Sys2Proof.Machine.execBarrierCompletion die slot s
  | .snapCopyComplete t => Sys2Proof.Machine.execSnapCopyComplete t s
  | .lnkDataFlit port crcOk hdr payload piggy => Sys2Proof.Machine.execLnkDataFlit port crcOk hdr payload piggy s
  | .lnkCtlFlit port crcOk body => Sys2Proof.Machine.execLnkCtlFlit port crcOk body s
  | .lnkSignalDetect port => Sys2Proof.Machine.execLnkSignalDetect port s
  | .fullTrainingEnd port ok => Sys2Proof.Machine.execFullTrainingEnd port ok s
  | .retrainEnd port ok lo hi => Sys2Proof.Machine.execRetrainEnd port ok lo hi s
  | .lnkLockLoss port => Sys2Proof.Machine.execLnkLockLoss port s
  | .portRestored port => Sys2Proof.Machine.execPortRestored port s
  | .lnkEnable port en => Sys2Proof.Machine.execLnkEnable port en s
  | .lnkRetrain port => Sys2Proof.Machine.execLnkRetrain port s
  | .cblPrsntChange port present => Sys2Proof.Machine.execCblPrsntChange port present s
  | .d2dFlit link cls src dst seq bundle lanes bad => Sys2Proof.Machine.execD2dFlit link cls src dst seq bundle lanes bad s
  | .d2dSpareReq link bundle lane => Sys2Proof.Machine.execD2dSpareReq link bundle lane s
  | .d2dSpareTrained link ok => Sys2Proof.Machine.execD2dSpareTrained link ok s
  | .d2dSpareGo link => Sys2Proof.Machine.execD2dSpareGo link s
  | .d2dNoFlitTimeout link => Sys2Proof.Machine.execD2dNoFlitTimeout link s
  | .d2dFail link => Sys2Proof.Machine.execD2dFail link s
  | .d2dRouteNotice die => Sys2Proof.Machine.execD2dRouteNotice die s
  | .d2dRouteSwitch src dst => Sys2Proof.Machine.execD2dRouteSwitch src dst s
  | .d2dRetrain link => Sys2Proof.Machine.execD2dRetrain link s
  | .linkRestored link => Sys2Proof.Machine.execLinkRestored link s
  | .armBeat => Sys2Proof.Machine.execArmBeat s
  | .armFrame => Sys2Proof.Machine.execArmFrame s
  | .disarm => Sys2Proof.Machine.execDisarm s
  | .armCtrlDiscard => Sys2Proof.Machine.execArmCtrlDiscard s
  | .armCtrlMulti val => Sys2Proof.Machine.execArmCtrlMulti val s
  | .activation => Sys2Proof.Machine.execActivation s
  | .loadAbandon pol => Sys2Proof.Machine.execLoadAbandon pol s
  | .activationComplete => Sys2Proof.Machine.execActivationComplete s
  | .rejoin val => Sys2Proof.Machine.execRejoin val s
  | .rejoinApply => Sys2Proof.Machine.execRejoinApply s
  | .tileReset target => Sys2Proof.Machine.execTileReset target s
  | .polderReset target => Sys2Proof.Machine.execPolderReset target s
  | .dieCoreReset target => Sys2Proof.Machine.execDieCoreReset target s
  | .deviceCoreReset ppr => Sys2Proof.Machine.execDeviceCoreReset ppr s
  | .coldReset ppr => Sys2Proof.Machine.execColdReset ppr s
  | .resetDone => Sys2Proof.Machine.execResetDone s
  | .unitFence page => Sys2Proof.Machine.execUnitFence page s
  | .unitUnfence page => Sys2Proof.Machine.execUnitUnfence page s
  | .unitRepair page => Sys2Proof.Machine.execUnitRepair page s
  | .repairDone page pass => Sys2Proof.Machine.execRepairDone page pass s
  | .voteSweep table index copies ok => Sys2Proof.Machine.execVoteSweep table index copies ok s
  | .retirementMapWrite die => Sys2Proof.Machine.execRetirementMapWrite die s
  | .intakeEnable p => Sys2Proof.Machine.execIntakeEnable p s
  | .intakeDisable p => Sys2Proof.Machine.execIntakeDisable p s
  | .rqDoorbell p tail => Sys2Proof.Machine.execRqDoorbell p tail s
  | .nopReq p entry => Sys2Proof.Machine.execNopReq p entry s
  | .load p entry => Sys2Proof.Machine.execLoad p entry s
  | .loadDone p readFail us timing => Sys2Proof.Machine.execLoadDone p readFail us timing s
  | .loadAbort die val => Sys2Proof.Machine.execLoadAbort die val s
  | .run p entry => Sys2Proof.Machine.execRun p entry s
  | .step p entry => Sys2Proof.Machine.execStep p entry s
  | .restore p entry bad => Sys2Proof.Machine.execRestore p entry bad s
  | .copy p entry data fails => Sys2Proof.Machine.execCopy p entry data fails s
  | .resetReq p entry => Sys2Proof.Machine.execResetReq p entry s
  | .badRequest p entry => Sys2Proof.Machine.execBadRequest p entry s
  | .recordBacklogDrain p => Sys2Proof.Machine.execRecordBacklogDrain p s
  | .ringFault p => Sys2Proof.Machine.execRingFault p s
  | .hostWindowReadComplete t ok chunks ecc => Sys2Proof.Machine.execHostWindowReadComplete t ok chunks ecc s
  | .flrPf => Sys2Proof.Machine.execFlrPf s
  | .flrVf n => Sys2Proof.Machine.execFlrVf n s
  | .perstAssert => Sys2Proof.Machine.execPerstAssert s
  | .perstDeassert => Sys2Proof.Machine.execPerstDeassert s
  | .hotReset => Sys2Proof.Machine.execHotReset s
  | .secondaryBusReset => Sys2Proof.Machine.execSecondaryBusReset s
  | .pcieLinkDown => Sys2Proof.Machine.execPcieLinkDown s
  | .d3hotEntry fn => Sys2Proof.Machine.execD3hotEntry fn s
  | .d0Entry fn => Sys2Proof.Machine.execD0Entry fn s
  | .busMasterEnableChange fn en => Sys2Proof.Machine.execBusMasterEnableChange fn en s
  | .registerWrite fn off size val => Sys2Proof.Machine.execRegisterWrite fn off size val s
  | .counterClear page => Sys2Proof.Machine.execCounterClear page s
  | .gaugeLogPass idx => Sys2Proof.Machine.execGaugeLogPass idx s
  | .mboxSend => Sys2Proof.Machine.execMboxSend s
  | .mboxAbort => Sys2Proof.Machine.execMboxAbort s
  | .mboxResponse err data => Sys2Proof.Machine.execMboxResponse err data s
  | .setEndpointId binding eid => Sys2Proof.Machine.execSetEndpointId binding eid s
  | .getEndpointId binding => Sys2Proof.Machine.execGetEndpointId binding s
  | .getMctpVersionSupport binding typ => Sys2Proof.Machine.execGetMctpVersionSupport binding typ s
  | .getMessageTypeSupport binding => Sys2Proof.Machine.execGetMessageTypeSupport binding s
  | .getEndpointUuid binding => Sys2Proof.Machine.execGetEndpointUuid binding s
  | .pldmType0Request binding cmd => Sys2Proof.Machine.execPldmType0Request binding cmd s
  | .getPdr binding handle => Sys2Proof.Machine.execGetPdr binding handle s
  | .getSensorReading binding id => Sys2Proof.Machine.execGetSensorReading binding id s
  | .getStateSensorReadings binding id => Sys2Proof.Machine.execGetStateSensorReadings binding id s
  | .getNumericEffecterValue binding id => Sys2Proof.Machine.execGetNumericEffecterValue binding id s
  | .setNumericEffecterValue binding id val => Sys2Proof.Machine.execSetNumericEffecterValue binding id val s
  | .pldmPowerDown => Sys2Proof.Machine.execPldmPowerDown s
  | .fwUpdateTransfer comp off data => Sys2Proof.Machine.execFwUpdateTransfer comp off data s
  | .verifyComplete comp sigOk svnOk ver => Sys2Proof.Machine.execVerifyComplete comp sigOk svnOk ver s
  | .getVersion binding => Sys2Proof.Machine.execGetVersion binding s
  | .getCapabilities binding => Sys2Proof.Machine.execGetCapabilities binding s
  | .negotiateAlgorithms binding asym hash => Sys2Proof.Machine.execNegotiateAlgorithms binding asym hash s
  | .getDigests binding => Sys2Proof.Machine.execGetDigests binding s
  | .getCertificate binding slot off len => Sys2Proof.Machine.execGetCertificate binding slot off len s
  | .challenge binding slot nonce => Sys2Proof.Machine.execChallenge binding slot nonce s
  | .getMeasurements binding idx nonce => Sys2Proof.Machine.execGetMeasurements binding idx nonce s
  | .pwrCapWrite val => Sys2Proof.Machine.execPwrCapWrite val s
  | .pwrShiftWrite val => Sys2Proof.Machine.execPwrShiftWrite val s
  | .hostLevelWrite val => Sys2Proof.Machine.execHostLevelWrite val s
  | .capControlTick watts => Sys2Proof.Machine.execCapControlTick watts s
  | .capUnmet => Sys2Proof.Machine.execCapUnmet s
  | .levelFall => Sys2Proof.Machine.execLevelFall s
  | .levelRise => Sys2Proof.Machine.execLevelRise s
  | .beatBoundary vr low mean => Sys2Proof.Machine.execBeatBoundary vr low mean s
  | .currentRampRecover die => Sys2Proof.Machine.execCurrentRampRecover die s
  | .dieTempSample die temp => Sys2Proof.Machine.execDieTempSample die temp s
  | .vrTempSample vr temp => Sys2Proof.Machine.execVrTempSample vr temp s
  | .linkTempSample die temp => Sys2Proof.Machine.execLinkTempSample die temp s
  | .thermalStep reason unit => Sys2Proof.Machine.execThermalStep reason unit s
  | .sensorFail reason unit => Sys2Proof.Machine.execSensorFail reason unit s
  | .sensorRecover reason unit => Sys2Proof.Machine.execSensorRecover reason unit s
  | .vrWarn vr => Sys2Proof.Machine.execVrWarn vr s
  | .vrWarnHoldExpiry vr => Sys2Proof.Machine.execVrWarnHoldExpiry vr s
  | .inputLow mv => Sys2Proof.Machine.execInputLow mv s
  | .inputLowClear => Sys2Proof.Machine.execInputLowClear s
  | .inputUv => Sys2Proof.Machine.execInputUv s
  | .thermtrip reason unit => Sys2Proof.Machine.execThermtrip reason unit s
  | .thermtripClear => Sys2Proof.Machine.execThermtripClear s
  | .frameBoundary => Sys2Proof.Machine.execFrameBoundary s
  | .frameLoad val => Sys2Proof.Machine.execFrameLoad val s
  | .devNodeWrite val => Sys2Proof.Machine.execDevNodeWrite val s
  | .devTorusWrite val => Sys2Proof.Machine.execDevTorusWrite val s
  | .routeTableWrite node entry => Sys2Proof.Machine.execRouteTableWrite node entry s
  | .hotswapOn => Sys2Proof.Machine.execHotswapOn s
  | .hotswapUvlo => Sys2Proof.Machine.execHotswapUvlo s
  | .hotswapOvp => Sys2Proof.Machine.execHotswapOvp s
  | .ovpRecovery => Sys2Proof.Machine.execOvpRecovery s
  | .hotswapOcp => Sys2Proof.Machine.execHotswapOcp s
  | .mateLastRelease => Sys2Proof.Machine.execMateLastRelease s
  | .stewardVerified slot => Sys2Proof.Machine.execStewardVerified slot s
  | .moduleEnRise => Sys2Proof.Machine.execModuleEnRise s
  | .moduleEnFall => Sys2Proof.Machine.execModuleEnFall s
  | .powerGood => Sys2Proof.Machine.execPowerGood s
  | .bootDieFwDone fallback => Sys2Proof.Machine.execBootDieFwDone fallback s
  | .bootMemoryDone ppr => Sys2Proof.Machine.execBootMemoryDone ppr s
  | .bootLinksDone ms => Sys2Proof.Machine.execBootLinksDone ms s
  | .bootStageTimeout reason ms => Sys2Proof.Machine.execBootStageTimeout reason ms s
  | .dbgHold t => Sys2Proof.Machine.execDbgHold t s
  | .dbgUnhold t => Sys2Proof.Machine.execDbgUnhold t s
  | .dbgStep t => Sys2Proof.Machine.execDbgStep t s
  | .tracePolderHold die pol => Sys2Proof.Machine.execTracePolderHold die pol s
  | .tracePolderRelease die pol => Sys2Proof.Machine.execTracePolderRelease die pol s
  | .polderHoldApply => Sys2Proof.Machine.execPolderHoldApply s
  | .watchSample die => Sys2Proof.Machine.execWatchSample die s
  | .traceRead die => Sys2Proof.Machine.execTraceRead die s
  | .traceDump die => Sys2Proof.Machine.execTraceDump die s
  | .traceDumpDone die fail => Sys2Proof.Machine.execTraceDumpDone die fail s
  | .traceAnchorCapture die => Sys2Proof.Machine.execTraceAnchorCapture die s
  | .debugPortLock => Sys2Proof.Machine.execDebugPortLock s
  | .debugPortDown => Sys2Proof.Machine.execDebugPortDown s
  | .debugPortFrame => Sys2Proof.Machine.execDebugPortFrame s
  | .jtagBypass => Sys2Proof.Machine.execJtagBypass s
  | .jtagIdcode => Sys2Proof.Machine.execJtagIdcode s
  | .jtagSamplePreload pins => Sys2Proof.Machine.execJtagSamplePreload pins s
  | .jtagExtest pins => Sys2Proof.Machine.execJtagExtest pins s
  | .jtagRegisterAccess write off size val => Sys2Proof.Machine.execJtagRegisterAccess write off size val s
  | .vfEnableChange en num => Sys2Proof.Machine.execVfEnableChange en num s
  | .barRead fn off size => Sys2Proof.Machine.execBarRead fn off size s
  | .mboxTimeout => Sys2Proof.Machine.execMboxTimeout s
  | .vrWarnClear vr => Sys2Proof.Machine.execVrWarnClear vr s

end Sys2Proof.Machine
end

