-- ==== Sys2Proof/Safety.lean ====
section
/-!
DEFINITION. What claims about runs use: which parts of the state a command leaves alone, and the form that both memories keep.
-/
namespace Sys2Proof.Machine

/-- The parts of the state, by name. -/
inductive Field where
  | regs | act | staged | lowHeld | hiCap | readData | freeCtr | beat | frame | frameAt | frameLoad | armB | armF | rejoin | holds | notTaken
  | recSeq | scr | hbm | upsets | tiles | pols | intakes | fns | numVfs | hostOut | mgmtOut | trace | slices | bridge | stackSt | clean | zeroing
  | waitSt | poison | inval | loadData | sqs | pools | d2d | routes | notices | unreach | flight | ports | sentFlits | flows | sendSeq | linkRes | rt
  | untrusted | badFtids | kneaders | power | module | loadWait | inReset | resetTarget | pending
deriving DecidableEq, Repr

/-- A part is the same in two states. -/
def Field.same : Field → State → State → Prop
  | .regs, s, t => t.regs = s.regs
  | .act, s, t => t.act = s.act
  | .staged, s, t => t.staged = s.staged
  | .lowHeld, s, t => t.lowHeld = s.lowHeld
  | .hiCap, s, t => t.hiCap = s.hiCap
  | .readData, s, t => t.readData = s.readData
  | .freeCtr, s, t => t.freeCtr = s.freeCtr
  | .beat, s, t => t.beat = s.beat
  | .frame, s, t => t.frame = s.frame
  | .frameAt, s, t => t.frameAt = s.frameAt
  | .frameLoad, s, t => t.frameLoad = s.frameLoad
  | .armB, s, t => t.armB = s.armB
  | .armF, s, t => t.armF = s.armF
  | .rejoin, s, t => t.rejoin = s.rejoin
  | .holds, s, t => t.holds = s.holds
  | .notTaken, s, t => t.notTaken = s.notTaken
  | .recSeq, s, t => t.recSeq = s.recSeq
  | .scr, s, t => t.scr = s.scr
  | .hbm, s, t => t.hbm = s.hbm
  | .upsets, s, t => t.upsets = s.upsets
  | .tiles, s, t => t.tiles = s.tiles
  | .pols, s, t => t.pols = s.pols
  | .intakes, s, t => t.intakes = s.intakes
  | .fns, s, t => t.fns = s.fns
  | .numVfs, s, t => t.numVfs = s.numVfs
  | .hostOut, s, t => t.hostOut = s.hostOut
  | .mgmtOut, s, t => t.mgmtOut = s.mgmtOut
  | .trace, s, t => t.trace = s.trace
  | .slices, s, t => t.slices = s.slices
  | .bridge, s, t => t.bridge = s.bridge
  | .stackSt, s, t => t.stackSt = s.stackSt
  | .clean, s, t => t.clean = s.clean
  | .zeroing, s, t => t.zeroing = s.zeroing
  | .waitSt, s, t => t.waitSt = s.waitSt
  | .poison, s, t => t.poison = s.poison
  | .inval, s, t => t.inval = s.inval
  | .loadData, s, t => t.loadData = s.loadData
  | .sqs, s, t => t.sqs = s.sqs
  | .pools, s, t => t.pools = s.pools
  | .d2d, s, t => t.d2d = s.d2d
  | .routes, s, t => t.routes = s.routes
  | .notices, s, t => t.notices = s.notices
  | .unreach, s, t => t.unreach = s.unreach
  | .flight, s, t => t.flight = s.flight
  | .ports, s, t => t.ports = s.ports
  | .sentFlits, s, t => t.sentFlits = s.sentFlits
  | .flows, s, t => t.flows = s.flows
  | .sendSeq, s, t => t.sendSeq = s.sendSeq
  | .linkRes, s, t => t.linkRes = s.linkRes
  | .rt, s, t => t.rt = s.rt
  | .untrusted, s, t => t.untrusted = s.untrusted
  | .badFtids, s, t => t.badFtids = s.badFtids
  | .kneaders, s, t => t.kneaders = s.kneaders
  | .power, s, t => t.power = s.power
  | .module, s, t => t.module = s.module
  | .loadWait, s, t => t.loadWait = s.loadWait
  | .inReset, s, t => t.inReset = s.inReset
  | .resetTarget, s, t => t.resetTarget = s.resetTarget
  | .pending, s, t => t.pending = s.pending

/-- Outside the named parts, `t` is `s`. -/
def State.sameBut (fs : List Field) (s t : State) : Prop := ∀ f, f ∉ fs → f.same s t

/-- Both memories are in canonical form: rising addresses, no cell that holds what an unlisted address reads as. -/
def State.Sound (s : State) : Prop := Memory.wf s.hbm = true ∧ Memory.wf s.scr = true

/-- Every part but the queue. -/
def Field.all : List Field := [
  .regs, .act, .staged, .lowHeld, .hiCap, .readData, .freeCtr, .beat, .frame, .frameAt, .frameLoad, .armB, .armF, .rejoin, .holds, .notTaken,
  .recSeq, .scr, .hbm, .upsets, .tiles, .pols, .intakes, .fns, .numVfs, .hostOut, .mgmtOut, .trace, .slices, .bridge, .stackSt, .clean, .zeroing,
  .waitSt, .poison, .inval, .loadData, .sqs, .pools, .d2d, .routes, .notices, .unreach, .flight, .ports, .sentFlits, .flows, .sendSeq, .linkRes, .rt,
  .untrusted, .badFtids, .kneaders, .power, .module, .loadWait, .inReset, .resetTarget]

/-- The parts of the state that a command may change, whatever else it meets on the way (a fault of its task, a polder stop, a record). -/
def touches : Instr → List Field
  | .taskStop .. | .tokenIdleReturn .. | .rampAdmission ..
    => [.tiles]
  | .lockFree ..
    => [.slices]
  | .lnkRetrain .. | .armCtrlMulti .. | .intakeEnable .. | .intakeDisable .. | .counterClear .. | .mboxSend .. | .mboxAbort .. | .devNodeWrite ..
  | .devTorusWrite .. | .dbgHold .. | .dbgUnhold .. | .traceAnchorCapture .. | .debugPortLock .. | .mboxTimeout ..
    => [.regs]
  | .d2dSpareReq ..
    => [.d2d]
  | .rejoin ..
    => [.rejoin]
  | .retirementMapWrite .. | .perstDeassert .. | .fwUpdateTransfer .. | .verifyComplete .. | .thermtripClear .. | .hotswapOn .. | .ovpRecovery ..
  | .stewardVerified .. | .moduleEnRise .. | .jtagBypass .. | .jtagIdcode ..
    => [.module]
  | .getEndpointId .. | .getMctpVersionSupport .. | .getMessageTypeSupport .. | .getEndpointUuid .. | .pldmType0Request .. | .getPdr ..
  | .getSensorReading .. | .getStateSensorReadings .. | .getNumericEffecterValue .. | .getVersion .. | .getCapabilities .. | .getDigests ..
  | .getCertificate ..
    => [.mgmtOut]
  | .sensorRecover ..
    => [.power]
  | .tracePolderHold .. | .tracePolderRelease ..
    => [.holds]
  | .rampEnd ..
    => [.pols, .power]
  | .crossingSlot ..
    => [.regs, .flight]
  | .nearInvalidate ..
    => [.slices, .inval]
  | .sqMiddleRefill .. | .sqSegmentRequest .. | .sqFlush ..
    => [.regs, .sqs]
  | .lnkSignalDetect ..
    => [.regs, .ports]
  | .d2dRetrain ..
    => [.regs, .d2d]
  | .armBeat ..
    => [.regs, .armB]
  | .armFrame ..
    => [.regs, .armF]
  | .armCtrlDiscard ..
    => [.regs, .staged]
  | .d3hotEntry ..
    => [.regs, .fns]
  | .gaugeLogPass .. | .pwrCapWrite .. | .pwrShiftWrite .. | .vrWarnClear ..
    => [.regs, .power]
  | .mboxResponse .. | .powerGood .. | .bootDieFwDone ..
    => [.regs, .module]
  | .setEndpointId .. | .negotiateAlgorithms ..
    => [.mgmtOut, .module]
  | .challenge .. | .getMeasurements ..
    => [.freeCtr, .mgmtOut]
  | .frameLoad ..
    => [.regs, .frameLoad]
  | .routeTableWrite ..
    => [.rt, .untrusted]
  | .dbgStep ..
    => [.regs, .tiles]
  | .polderHoldApply ..
    => [.regs, .holds]
  | .jtagSamplePreload .. | .jtagExtest ..
    => [.freeCtr, .module]
  | .taskStart ..
    => [.regs, .tiles, .pols]
  | .discard ..
    => [.regs, .slices, .bridge]
  | .sqTailArrival ..
    => [.regs, .tiles, .sqs]
  | .d2dRouteSwitch ..
    => [.regs, .routes, .flight]
  | .disarm ..
    => [.regs, .armB, .armF]
  | .nopReq .. | .badRequest ..
    => [.regs, .intakes, .hostOut]
  | .levelFall .. | .watchSample ..
    => [.regs, .freeCtr, .trace]
  | .traceRead ..
    => [.regs, .readData, .trace]
  | .debugPortFrame ..
    => [.regs, .trace, .module]
  | .vfEnableChange ..
    => [.regs, .fns, .numVfs]
  | .step ..
    => [.regs, .pols, .intakes, .hostOut]
  | .levelRise ..
    => [.regs, .freeCtr, .trace, .power]
  | .tileClear ..
    => [.regs, .freeCtr, .tiles, .slices, .bridge]
  | .clearComplete ..
    => [.regs, .freeCtr, .scr, .upsets, .tiles]
  | .wcbDrainAge ..
    => [.regs, .freeCtr, .hbm, .slices, .poison]
  | .run ..
    => [.regs, .tiles, .pols, .intakes, .hostOut]
  | .recordBacklogDrain ..
    => [.regs, .recSeq, .pols, .intakes, .hostOut]
  | .barRead ..
    => [.regs, .hiCap, .readData, .freeCtr, .trace]
  | .portRestored .. | .activationComplete .. | .unitFence .. | .unitUnfence .. | .unitRepair .. | .rqDoorbell .. | .ringFault ..
  | .bootStageTimeout .. | .traceDump .. | .traceDumpDone .. | .debugPortDown ..
    => [.regs, .freeCtr, .recSeq, .pols, .intakes, .hostOut, .trace]
  | .fullTrainingEnd ..
    => [.regs, .freeCtr, .recSeq, .pols, .intakes, .hostOut, .trace, .ports]
  | .resetDone ..
    => [.regs, .freeCtr, .recSeq, .pols, .intakes, .hostOut, .trace, .inReset]
  | .d0Entry .. | .busMasterEnableChange ..
    => [.regs, .freeCtr, .recSeq, .pols, .intakes, .fns, .hostOut, .trace]
  | .hostLevelWrite .. | .capControlTick .. | .capUnmet .. | .currentRampRecover .. | .thermalStep .. | .sensorFail .. | .vrWarn ..
  | .vrWarnHoldExpiry .. | .inputLow .. | .inputLowClear ..
    => [.regs, .freeCtr, .recSeq, .pols, .intakes, .hostOut, .trace, .power]
  | .freshZeroDone .. | .scrubZeroBlock ..
    => [.regs, .freeCtr, .hbm, .slices, .clean, .zeroing, .waitSt, .poison, .inval]
  | .setNumericEffecterValue ..
    => [.regs, .freeCtr, .recSeq, .pols, .intakes, .hostOut, .mgmtOut, .trace, .power]
  | .frameBoundary ..
    => [.regs, .freeCtr, .frame, .frameAt, .frameLoad, .trace, .d2d, .ports, .kneaders]
  | .bootLinksDone ..
    => [.regs, .freeCtr, .recSeq, .pols, .intakes, .hostOut, .trace, .d2d, .module]
  | .scratchpadWindowWrite ..
    => [.regs, .freeCtr, .recSeq, .scr, .upsets, .tiles, .pols, .intakes, .hostOut, .trace]
  | .hbmReadReturn .. | .patrolRead ..
    => [.regs, .freeCtr, .recSeq, .pols, .intakes, .hostOut, .trace, .slices, .stackSt, .poison]
  | .repairDone ..
    => [.regs, .freeCtr, .recSeq, .tiles, .pols, .intakes, .hostOut, .trace, .slices, .bridge]
  | .sliceLoad ..
    => [.regs, .freeCtr, .recSeq, .hbm, .pols, .intakes, .hostOut, .trace, .slices, .poison, .loadData]
  | .commit ..
    => [.regs, .freeCtr, .hbm, .tiles, .hostOut, .slices, .bridge, .zeroing, .waitSt, .poison, .inval]
  | .kndAbort .. | .kndDeadline .. | .fbarArrival ..
    => [.regs, .freeCtr, .recSeq, .tiles, .pols, .intakes, .hostOut, .trace, .flight, .ports, .kneaders]
  | .loadAbandon .. | .load .. | .loadAbort ..
    => [.regs, .freeCtr, .recSeq, .tiles, .pols, .intakes, .hostOut, .slices, .bridge, .linkRes, .loadWait]
  | .lnkDataFlit ..
    => [.regs, .freeCtr, .recSeq, .pols, .intakes, .hostOut, .trace, .ports, .sentFlits, .flows, .sendSeq, .kneaders]
  | .linkRestored ..
    => [.regs, .freeCtr, .recSeq, .pols, .intakes, .hostOut, .trace, .d2d, .routes, .notices, .unreach, .flight]
  | .exchSend .. | .exchRecv .. | .waitb .. | .fbar .. | .kflag .. | .kwait .. | .loop .. | .alu .. | .cmp .. | .pbool .. | .ldi .. | .ldc ..
  | .stc .. | .amxr .. | .snap .. | .mark .. | .halt .. | .exchSlot .. | .exchLoafArrival .. | .xpCrossLate .. | .handshakeCredit .. | .provFull ..
    => [.regs, .freeCtr, .recSeq, .scr, .upsets, .tiles, .pols, .intakes, .hostOut, .trace, .flight, .ports, .kneaders]
  | .sliceStore .. | .copy ..
    => [.regs, .freeCtr, .recSeq, .hbm, .pols, .intakes, .hostOut, .trace, .slices, .zeroing, .waitSt, .poison, .inval]
  | .kndDataFlit .. | .kndReady .. | .kndArrive .. | .kndDone .. | .kndAbortMsg .. | .lnkCtlFlit .. | .retrainEnd .. | .lnkLockLoss .. | .lnkEnable ..
  | .cblPrsntChange ..
    => [.regs, .freeCtr, .recSeq, .tiles, .pols, .intakes, .hostOut, .trace, .flight, .ports, .sentFlits, .sendSeq, .kneaders]
  | .d2dRouteNotice ..
    => [.regs, .freeCtr, .recSeq, .tiles, .pols, .intakes, .hostOut, .trace, .notices, .unreach, .flight, .ports, .kneaders]
  | .rejoinApply ..
    => [.regs, .act, .staged, .freeCtr, .rejoin, .recSeq, .tiles, .pols, .intakes, .hostOut, .trace, .slices, .bridge]
  | .restore ..
    => [.regs, .freeCtr, .recSeq, .scr, .hbm, .upsets, .tiles, .pols, .intakes, .hostOut, .trace, .slices, .poison]
  | .beatBoundary ..
    => [.regs, .freeCtr, .beat, .recSeq, .tiles, .pols, .intakes, .hostOut, .trace, .ports, .sentFlits, .sendSeq, .power]
  | .lockOp ..
    => [.regs, .freeCtr, .recSeq, .scr, .upsets, .tiles, .pols, .intakes, .hostOut, .trace, .slices, .flight, .ports, .kneaders]
  | .poolEmpty ..
    => [.regs, .freeCtr, .recSeq, .scr, .upsets, .tiles, .pols, .intakes, .hostOut, .trace, .sqs, .flight, .ports, .kneaders]
  | .d2dFlit .. | .d2dSpareTrained .. | .d2dSpareGo .. | .d2dNoFlitTimeout .. | .d2dFail ..
    => [.regs, .freeCtr, .recSeq, .tiles, .pols, .intakes, .hostOut, .trace, .d2d, .notices, .unreach, .flight, .ports, .kneaders]
  | .tileReset ..
    => [.regs, .freeCtr, .recSeq, .tiles, .pols, .intakes, .hostOut, .trace, .slices, .bridge, .flight, .ports, .kneaders, .resetTarget]
  | .kndPost .. | .kndQuiesce .. | .quiesceExpiry .. | .barrierCompletion ..
    => [.regs, .freeCtr, .recSeq, .scr, .upsets, .tiles, .pols, .intakes, .hostOut, .trace, .flight, .ports, .sentFlits, .sendSeq, .kneaders]
  | .voteSweep ..
    => [.regs, .act, .freeCtr, .recSeq, .tiles, .pols, .intakes, .hostOut, .trace, .flight, .ports, .rt, .untrusted, .badFtids, .kneaders]
  | .bootMemoryDone ..
    => [.regs, .freeCtr, .recSeq, .scr, .hbm, .tiles, .pols, .intakes, .hostOut, .trace, .slices, .stackSt, .clean, .zeroing, .poison]
  | .commandFetch .. | .hostWindowReadComplete ..
    => [.regs, .freeCtr, .recSeq, .scr, .hbm, .upsets, .tiles, .pols, .intakes, .hostOut, .trace, .slices, .poison, .flight, .ports, .kneaders]
  | .moveLoad .. | .moveStore .. | .mma .. | .mmz .. | .vecMap .. | .vecReduce .. | .convL .. | .convS .. | .convV .. | .sqOpen .. | .sqPush ..
  | .sqClose .. | .sqPop .. | .atomAdd .. | .atomMin .. | .atomMax .. | .atomCas .. | .atomSwap .. | .atomFinc .. | .lacq .. | .lrel .. | .cntCount ..
  | .cntMask .. | .cntHist .. | .commandComplete .. | .tokenGrant ..
    => [.regs, .freeCtr, .recSeq, .scr, .hbm, .upsets, .tiles, .pols, .intakes, .hostOut, .trace, .slices, .poison, .sqs, .flight, .ports, .kneaders]
  | .heldStore ..
    => [.regs, .freeCtr, .recSeq, .scr, .hbm, .upsets, .tiles, .pols, .intakes, .hostOut, .trace, .slices, .bridge, .poison, .flight, .ports, .kneaders]
  | .kndShadowComplete ..
    => [.regs, .freeCtr, .recSeq, .hbm, .tiles, .pols, .intakes, .hostOut, .trace, .slices, .zeroing, .waitSt, .poison, .inval, .flight, .ports, .kneaders]
  | .sliceAtomic ..
    => [.regs, .freeCtr, .recSeq, .scr, .hbm, .upsets, .tiles, .pols, .intakes, .hostOut, .trace, .slices, .zeroing, .poison, .inval, .flight, .ports, .kneaders]
  | .kndCommitComplete ..
    => [.regs, .freeCtr, .recSeq, .scr, .hbm, .upsets, .tiles, .pols, .intakes, .hostOut, .trace, .slices, .poison, .flight, .ports, .sentFlits, .sendSeq, .kneaders]
  | .polderReset .. | .resetReq ..
    => [.regs, .freeCtr, .recSeq, .tiles, .pols, .intakes, .hostOut, .trace, .slices, .bridge, .flight, .ports, .sendSeq, .linkRes, .kneaders, .loadWait, .inReset, .resetTarget]
  | .kflagAccept ..
    => [.regs, .freeCtr, .recSeq, .scr, .hbm, .upsets, .tiles, .pols, .intakes, .hostOut, .trace, .slices, .poison, .sqs, .flight, .ports, .sentFlits, .sendSeq, .kneaders]
  | .loadDone ..
    => [.regs, .freeCtr, .recSeq, .hbm, .tiles, .pols, .intakes, .hostOut, .trace, .slices, .bridge, .zeroing, .waitSt, .poison, .inval, .sqs, .linkRes, .kneaders, .loadWait]
  | .snapCopyComplete ..
    => [.regs, .freeCtr, .recSeq, .scr, .hbm, .upsets, .tiles, .pols, .intakes, .hostOut, .trace, .slices, .zeroing, .waitSt, .poison, .inval, .sqs, .flight, .ports, .kneaders]
  | .frameBarrierRelease ..
    => [.regs, .freeCtr, .recSeq, .scr, .hbm, .upsets, .tiles, .pols, .intakes, .hostOut, .trace, .slices, .zeroing, .waitSt, .poison, .inval, .flight, .ports, .sentFlits, .sendSeq, .kneaders]
  | .dieCoreReset ..
    => [.regs, .freeCtr, .recSeq, .hbm, .tiles, .pols, .intakes, .hostOut, .trace, .slices, .bridge, .waitSt, .poison, .inval, .flight, .ports, .sendSeq, .linkRes, .kneaders, .loadWait, .inReset, .resetTarget]
  | .flrVf ..
    => [.regs, .act, .staged, .lowHeld, .hiCap, .freeCtr, .recSeq, .tiles, .pols, .intakes, .fns, .hostOut, .trace, .slices, .bridge, .flight, .ports, .sendSeq, .linkRes, .kneaders, .loadWait, .inReset]
  | .flrPf ..
    => [.regs, .act, .staged, .lowHeld, .hiCap, .freeCtr, .recSeq, .tiles, .pols, .intakes, .fns, .numVfs, .hostOut, .trace, .slices, .bridge, .flight, .ports, .sendSeq, .linkRes, .kneaders, .loadWait, .inReset]
  | .deviceCoreReset ..
    => [.regs, .freeCtr, .recSeq, .hbm, .tiles, .pols, .intakes, .hostOut, .trace, .slices, .bridge, .stackSt, .waitSt, .poison, .inval, .d2d, .flight, .ports, .sendSeq, .linkRes, .kneaders, .loadWait, .inReset, .resetTarget]
  | .hotReset .. | .secondaryBusReset .. | .pcieLinkDown ..
    => [.regs, .act, .staged, .lowHeld, .hiCap, .freeCtr, .recSeq, .hbm, .tiles, .pols, .intakes, .fns, .numVfs, .hostOut, .trace, .slices, .bridge, .stackSt, .waitSt, .poison, .inval, .d2d, .flight, .ports, .sendSeq, .linkRes, .kneaders, .loadWait, .inReset]
  | .activation ..
    => Field.all.filter (fun f => !([.lowHeld, .hiCap, .readData, .beat, .frame, .frameAt, .frameLoad, .rejoin, .holds, .scr, .upsets, .fns, .numVfs, .mgmtOut, .stackSt, .inval, .loadData, .d2d, .routes, .notices, .unreach, .sentFlits, .flows, .rt, .power, .module, .inReset, .resetTarget].contains f))
  | .perstAssert ..
    => Field.all.filter (fun f => !([.readData, .beat, .frame, .frameAt, .frameLoad, .armB, .armF, .rejoin, .holds, .notTaken, .scr, .upsets, .mgmtOut, .clean, .zeroing, .loadData, .sqs, .pools, .routes, .notices, .unreach, .sentFlits, .flows, .rt, .untrusted, .badFtids, .power, .resetTarget].contains f))
  | .hbmTempSample .. | .coldReset .. | .registerWrite .. | .pldmPowerDown .. | .dieTempSample .. | .vrTempSample .. | .linkTempSample ..
  | .inputUv .. | .thermtrip .. | .hotswapUvlo .. | .hotswapOvp .. | .hotswapOcp .. | .mateLastRelease .. | .moduleEnFall .. | .jtagRegisterAccess ..
    => Field.all

/-! Issue (R88, R145). -/

/-- No open loop's body ends at command `idx`: the innermost loop is checked first, and a body that ends there ends it too (R145). -/
def Tile.noLoopEnd (x : Tile) (idx : Nat) : Prop := ∀ l, x.loops.head? = some l → l.last ≠ idx

/-- The head command `h` of tile `t` has gone by and nothing else of the machine moved: the command index and TILE_PROGRESS advance, every other tile,
every register of another page than the tile's and its die's TRACE page, and every other part of the state is as it was. -/
def State.wentBy (s u : State) (t : Nat) (h : Head) : Prop :=
  (u.tile t).cmdIndex = h.idx + 1 ∧ (u.tile t).progress = ((s.tile t).progress + 1) % 2 ^ 64 ∧ (u.tile t).task = (s.tile t).task ∧
    (∀ k, k ≠ t → u.tile k = s.tile k) ∧
    (∀ key, keyPage key ≠ pgTile t → keyPage key ≠ pgTrace (tDie t) → mapFind? u.regs key = mapFind? s.regs key) ∧
    s.sameBut [.tiles, .regs, .trace, .freeCtr] u

/-- The head command has gone by and left the scalar registers, predicates, dispatch queues and scoreboard of its tile alone too. -/
def State.wentByOnly (s u : State) (t : Nat) (h : Head) : Prop :=
  s.wentBy u t h ∧ (u.tile t).sregs = (s.tile t).sregs ∧ (u.tile t).preds = (s.tile t).preds ∧ (u.tile t).dq = (s.tile t).dq ∧
    (u.tile t).sb = (s.tile t).sb ∧ (u.tile t).walkers = (s.tile t).walkers

/-- Steps 1 to 4 of R88 have made `h` ready for the row of class `cls` and operation `op`, in state `s1`; another command of the region follows it, and no
loop's body ends at it. -/
def State.ready (s s1 : State) (t cls op : Nat) (h : Head) : Prop :=
  t < 4864 ∧ s.headFor t cls op = .ok (s1, h) ∧ h.idx + 1 < (s1.tile t).cmdrLen ∧ (s1.tile t).noLoopEnd h.idx

/-- The head command `h` stands at the end of dispatch queue `eng` with the registers, predicates and walkers as they were at its issue (R85, R99); its
ranges are in the scoreboard where `sb`, the register it writes is pending, its walkers' cursors have moved on, and it has gone by. -/
def State.queued (s v : State) (t eng : Nat) (h : Head) (sb : Bool) (guard : List SbEntry) (done : Bool) : Prop :=
  s.wentBy v t h ∧
    mapGet (v.tile t).dq eng [] = mapGet (s.tile t).dq eng [] ++
      [{ word := BitVec.ofNat 256 h.c, index := h.idx, ord := (s.tile t).progress, sregs := (s.tile t).sregs, preds := (s.tile t).preds,
         walkers := (s.tile t).walkers, finished := done }] ∧
    (∀ e, e ≠ eng → mapGet (v.tile t).dq e [] = mapGet (s.tile t).dq e []) ∧
    (v.tile t).sb = (if sb then (s.tile t).sb ++ h.ranges else (s.tile t).sb) ∧
    (v.tile t).xp.guards = (s.tile t).xp.guards ++ guard ∧
    (v.tile t).pendS = (if writesS h.c = 0 then (s.tile t).pendS else (s.tile t).pendS ++ [(writesS h.c, (s.tile t).progress)]) ∧
    (v.tile t).sregs = (s.tile t).sregs ∧ (v.tile t).preds = (s.tile t).preds ∧
    (v.tile t).walkers = ((s.tile t).moveCursors h.c h.e).walkers

/-- Only tile `t` may differ, and of the rest of the state nothing. -/
def State.onlyTile (s u : State) (t : Nat) : Prop := (∀ k, k ≠ t → u.tile k = s.tile k) ∧ s.sameBut [.tiles] u

/-! HBM as loads at the home slice see it (R251, R252). -/

/-- The byte at device address `a` as a load at its home slice sees it: that of the line's committed store where it has one, else that of HBM. -/
def State.sees (s : State) (a : Nat) : Byte :=
  match (s.slice (homeSlice a)).wcb.find? (fun e => e.line == a / 128) with
  | some e => (e.img.getD (a % 128) none).getD (memGet s.hbm a)
  | none => memGet s.hbm a

/-- The write-combining buffers in order: HBM canonical, the slices listed in ascending order, and at each slice whole line images of that slice's lines,
one a line. -/
def State.buffersOk (s : State) : Prop :=
  Memory.wf s.hbm = true ∧ (s.slices.map (·.1)).Pairwise (· < ·) ∧ ∀ sl, ((s.slice sl).wcb.map (·.line)).Nodup ∧
    ∀ e, e ∈ (s.slice sl).wcb → e.img.length = 128 ∧ homeSlice (e.line * 128) = sl

/-- A polder's access of [pa, pa + n) from a die to one line at device address `da`: kind `kind`, operation `op` (0 load, 1 store, 2 atomic); the dike lets it
pass, the home slice serves, and the line is not poisoned where it is read. -/
def State.reaches (s : State) (p kind op pa da n : Nat) : Prop :=
  (∃ via, s.xlate p pa = .hbm da via ∧ (op = 0 → via ≠ 2)) ∧ 0 < n ∧ pa % 128 + n ≤ 128 ∧ pa % 128 = da % 128 ∧ s.sliceDike p kind op da = 0 ∧
    s.serves (pgSc (homeSlice da)) = true ∧ (s.slice (homeSlice da)).stopped = false ∧ (op = 1 ∨ da / 128 ∉ s.poison)

/-- Every byte of [pa, pa + n) of polder `p` lies in HBM where a store of kind `kind` passes its dike and its home slice serves. -/
def State.storable (s : State) (p kind pa n : Nat) : Prop :=
  ∀ a, pa ≤ a → a < pa + n → ∃ da via, s.xlate p a = .hbm da via ∧ s.sliceDike p kind 1 da = 0 ∧ s.serves (pgSc (homeSlice da)) = true ∧
    (s.slice (homeSlice da)).stopped = false

/-- No upset stands in bytes [a, a + n) of tile `t`'s scratchpad. -/
def State.clear (s : State) (t a n : Nat) : Prop := ∀ q, q ∈ s.upsets → ¬(scrKey t a ≤ q.1 ∧ q.1 < scrKey t a + n)

/-- Tile `t` clears (R112). -/
def State.clears (s : State) (t : Nat) : Prop := (s.tile t).task = .clearing

/-- Nothing staged re-binds a polder, changes a pool, wakes a unit, changes a running tile's exchange mode or retires a column. -/
def State.quietStage (s : State) : Prop :=
  s.changedPols = [] ∧ s.bindChanges = [] ∧ s.poolChanges = [] ∧ s.wakers = [] ∧ s.modeStops = [] ∧
    ∀ d, d < 4 → s.stagedRetire d = s.retired d ∧ s.retired d ||| s.getA (pgDie d) 0x410 0 37 0 = s.retired d

/-- The state in which the work of request `e` of INTAKE `p` begins: BUSY, with the entry and its opcode (R440). -/
def State.begun (s : State) (p : Nat) (e : List Byte) : State :=
  ((s.setIntake p { s.intake p with entry := some (padTo 64 e) }).setIn p 2).setF (pgIntake p) 0x104 0 15 8 ((e.headD 0).toNat)

/-- A request of INTAKE `p` that began in `s` has completed with result `r` (R441): the result is in its entry's place, DONE has advanced, and the INTAKE
is IDLE. -/
def State.completed (s u : State) (p r : Nat) : Prop :=
  u.rqIdx p 0x11C = (s.rqIdx p 0x11C + 1) % 2 ^ 32 ∧ u.inState p = 1 ∧ (u.intake p).entry = none ∧
    ∃ w, w ∈ u.hostOut ∧ w.fn = p ∧ w.addr = (s.reg (pgIntake p) 0x108 0).toNat + s.rqIdx p 0x11C % 2 ^ s.rqLog p * 64 + 2 ∧ w.bytes = natLE 2 r

end Sys2Proof.Machine
end

