-- ==== Sys2Proof/WellFormed.lean ====
section
/-!
DEFINITION. The commands that name units the device has (Table 1-1, Table 1-7, Table 15-3): 4 dies of 32 rows and 38 physical
columns, 16 slices a die, 12 stacks of 18,432 blocks, 256 spill queues, 32 ports, 8 D2D instances, 64 polders, INTAKEs and
functions. Nothing else about a command is a condition of its form: the checks the rules make are the command's own effect.
-/
namespace Sys2Proof

/-- A sensor the device has: the dies' core sensors, the stacks', the regulators' and the dies' link sensors, by reason (R375, R382). -/
def sensorExists (reason unit : Nat) : Bool :=
  decide (unit < Machine.sensorCount reason)

/-- The command names only units that exist. -/
def Instr.wf : Instr → Bool
  | .commandFetch t _ => t < 4864
  | .moveLoad t _ => t < 4864
  | .moveStore t _ => t < 4864
  | .mma t _ => t < 4864
  | .mmz t _ => t < 4864
  | .vecMap t _ => t < 4864
  | .vecReduce t _ => t < 4864
  | .convL t _ => t < 4864
  | .convS t _ => t < 4864
  | .convV t _ => t < 4864
  | .exchSend t => t < 4864
  | .exchRecv t => t < 4864
  | .waitb t => t < 4864
  | .fbar t => t < 4864
  | .kflag t => t < 4864
  | .kwait t => t < 4864
  | .loop t => t < 4864
  | .alu t => t < 4864
  | .cmp t => t < 4864
  | .pbool t => t < 4864
  | .ldi t => t < 4864
  | .ldc t _ => t < 4864
  | .stc t => t < 4864
  | .amxr t => t < 4864
  | .sqOpen t => t < 4864
  | .sqPush t _ => t < 4864
  | .sqClose t => t < 4864
  | .sqPop t => t < 4864
  | .atomAdd t => t < 4864
  | .atomMin t => t < 4864
  | .atomMax t => t < 4864
  | .atomCas t => t < 4864
  | .atomSwap t => t < 4864
  | .atomFinc t => t < 4864
  | .lacq t => t < 4864
  | .lrel t => t < 4864
  | .cntCount t _ => t < 4864
  | .cntMask t _ => t < 4864
  | .cntHist t _ => t < 4864
  | .snap t _ => t < 4864
  | .mark t => t < 4864
  | .halt t => t < 4864
  | .commandComplete t _ _ => t < 4864
  | .taskStart t => t < 4864
  | .taskStop t => t < 4864
  | .tileClear t => t < 4864
  | .clearComplete t => t < 4864
  | .scratchpadWindowWrite _ t _ _ => t < 4864
  | .tokenGrant t _ _ => t < 4864
  | .tokenIdleReturn t _ => t < 4864
  | .rampAdmission pol _ _ => pol < 64
  | .rampEnd pol _ => pol < 64
  | .exchSlot t _ _ _ => t < 4864
  | .exchLoafArrival t _ _ => t < 4864
  | .crossingSlot die col _ => die < 4 && col < 36
  | .xpCrossLate t _ _ => t < 4864
  | .handshakeCredit t _ _ => t < 4864
  | .sliceLoad pol die kind _ _ _ => pol < 64 && die < 4 && kind < 7
  | .sliceStore pol die kind _ _ => pol < 64 && die < 4 && kind < 7
  | .heldStore t _ => t < 4864
  | .commit t _ => t < 4864
  | .discard t _ => t < 4864
  | .provFull t _ => t < 4864
  | .wcbDrainAge sl => sl < 64
  | .nearInvalidate die _ => die < 4
  | .sliceAtomic t => t < 4864
  | .lockOp t => t < 4864
  | .lockFree sl => sl < 64
  | .hbmReadReturn da _ _ => da < 12 * 0x9_0000_0000
  | .freshZeroDone blk => blk < 221184
  | .scrubZeroBlock stack => stack < 12
  | .patrolRead stack _ _ => stack < 12
  | .hbmTempSample stack _ _ => stack < 12
  | .sqTailArrival t => t < 4864
  | .sqMiddleRefill q _ => q < 256
  | .sqSegmentRequest q => q < 256
  | .poolEmpty q => q < 256
  | .sqFlush q => q < 256
  | .kndPost fn die => fn < 64 && die < 4
  | .kflagAccept t => t < 4864
  | .kndDataFlit die => die < 4
  | .kndReady die => die < 4
  | .kndArrive die => die < 4
  | .kndDone die => die < 4
  | .kndShadowComplete die _ => die < 4
  | .kndCommitComplete die _ => die < 4
  | .kndAbortMsg die => die < 4
  | .kndAbort die _ => die < 4
  | .kndQuiesce die _ _ => die < 4
  | .quiesceExpiry die => die < 4
  | .kndDeadline die _ => die < 4
  | .fbarArrival t => t < 4864
  | .frameBarrierRelease die _ => die < 4
  | .barrierCompletion die _ => die < 4
  | .snapCopyComplete t => t < 4864
  | .lnkDataFlit port _ _ _ _ => port < 32
  | .lnkCtlFlit port _ _ => port < 32
  | .lnkSignalDetect port => port < 32
  | .fullTrainingEnd port _ => port < 32
  | .retrainEnd port _ _ _ => port < 32
  | .lnkLockLoss port => port < 32
  | .portRestored port => port < 32
  | .lnkEnable port _ => port < 32
  | .lnkRetrain port => port < 32
  | .cblPrsntChange port _ => port < 32
  | .d2dFlit link cls src dst _ bundle _ _ => link < 8 && bundle < 8 && src < 4 && dst < 4 && cls < 5
  | .d2dSpareReq link _ _ => link < 8
  | .d2dSpareTrained link _ => link < 8
  | .d2dSpareGo link => link < 8
  | .d2dNoFlitTimeout link => link < 8
  | .d2dFail link => link < 8
  | .d2dRouteNotice die => die < 4
  | .d2dRouteSwitch src dst => src < 4 && dst < 4
  | .d2dRetrain link => link < 8
  | .linkRestored link => link < 8
  | .armBeat => true
  | .armFrame => true
  | .disarm => true
  | .armCtrlDiscard => true
  | .armCtrlMulti _ => true
  | .activation => true
  | .loadAbandon pol => pol < 64
  | .activationComplete => true
  | .rejoin _ => true
  | .rejoinApply => true
  | .tileReset _ => true
  | .polderReset _ => true
  | .dieCoreReset _ => true
  | .deviceCoreReset _ => true
  | .coldReset _ => true
  | .resetDone => true
  | .unitFence page => (Machine.pageBlock page).isSome
  | .unitUnfence page => (Machine.pageBlock page).isSome
  | .unitRepair page => (Machine.pageBlock page).isSome
  | .repairDone page _ => (Machine.pageBlock page).isSome
  | .voteSweep _ _ _ _ => true
  | .retirementMapWrite die => die < 4
  | .intakeEnable p => p < 64
  | .intakeDisable p => p < 64
  | .rqDoorbell p _ => p < 64
  | .nopReq p _ => p < 64
  | .load p _ => p < 64
  | .loadDone p _ _ _ => p < 64
  | .loadAbort die _ => die < 4
  | .run p _ => p < 64
  | .step p _ => p < 64
  | .restore p _ _ => p < 64
  | .copy p _ _ _ => p < 64
  | .resetReq p _ => p < 64
  | .badRequest p _ => p < 64
  | .recordBacklogDrain p => p < 64
  | .ringFault p => p < 64
  | .hostWindowReadComplete t _ _ _ => t < 4864
  | .flrPf => true
  | .flrVf n => 0 < n && n < 64
  | .perstAssert => true
  | .perstDeassert => true
  | .hotReset => true
  | .secondaryBusReset => true
  | .pcieLinkDown => true
  | .d3hotEntry fn => fn < 64
  | .d0Entry fn => fn < 64
  | .busMasterEnableChange fn _ => fn < 64
  | .registerWrite fn _ _ _ => fn < 64
  | .counterClear page => (Machine.pageBlock page).isSome
  | .gaugeLogPass _ => true
  | .mboxSend => true
  | .mboxAbort => true
  | .mboxResponse _ _ => true
  | .setEndpointId binding _ => binding < 3
  | .getEndpointId binding => binding < 3
  | .getMctpVersionSupport binding _ => binding < 3
  | .getMessageTypeSupport binding => binding < 3
  | .getEndpointUuid binding => binding < 3
  | .pldmType0Request binding _ => binding < 3
  | .getPdr binding _ => binding < 3
  | .getSensorReading binding _ => binding < 3
  | .getStateSensorReadings binding _ => binding < 3
  | .getNumericEffecterValue binding _ => binding < 3
  | .setNumericEffecterValue binding _ _ => binding < 3
  | .pldmPowerDown => true
  | .fwUpdateTransfer _ _ _ => true
  | .verifyComplete _ _ _ _ => true
  | .getVersion binding => binding < 4
  | .getCapabilities binding => binding < 4
  | .negotiateAlgorithms binding _ _ => binding < 4
  | .getDigests binding => binding < 4
  | .getCertificate binding _ _ _ => binding < 4
  | .challenge binding _ _ => binding < 4
  | .getMeasurements binding _ _ => binding < 4
  | .pwrCapWrite _ => true
  | .pwrShiftWrite _ => true
  | .hostLevelWrite _ => true
  | .capControlTick _ => true
  | .capUnmet => true
  | .levelFall => true
  | .levelRise => true
  | .beatBoundary _ _ _ => true
  | .currentRampRecover die => die < 4
  | .dieTempSample die _ => die < 4
  | .vrTempSample vr _ => vr < 7
  | .linkTempSample die _ => die < 4
  | .thermalStep reason unit => sensorExists reason unit
  | .sensorFail reason unit => sensorExists reason unit
  | .sensorRecover reason unit => sensorExists reason unit
  | .vrWarn vr => vr < 7
  | .vrWarnHoldExpiry vr => vr < 7
  | .inputLow _ => true
  | .inputLowClear => true
  | .inputUv => true
  | .thermtrip reason unit => sensorExists reason unit
  | .thermtripClear => true
  | .frameBoundary => true
  | .frameLoad _ => true
  | .devNodeWrite _ => true
  | .devTorusWrite _ => true
  | .routeTableWrite _ _ => true
  | .hotswapOn => true
  | .hotswapUvlo => true
  | .hotswapOvp => true
  | .ovpRecovery => true
  | .hotswapOcp => true
  | .mateLastRelease => true
  | .stewardVerified _ => true
  | .moduleEnRise => true
  | .moduleEnFall => true
  | .powerGood => true
  | .bootDieFwDone _ => true
  | .bootMemoryDone _ => true
  | .bootLinksDone _ => true
  | .bootStageTimeout _ _ => true
  | .dbgHold t => t < 4864
  | .dbgUnhold t => t < 4864
  | .dbgStep t => t < 4864
  | .tracePolderHold die _ => die < 4
  | .tracePolderRelease die _ => die < 4
  | .polderHoldApply => true
  | .watchSample die => die < 4
  | .traceRead die => die < 4
  | .traceDump die => die < 4
  | .traceDumpDone die _ => die < 4
  | .traceAnchorCapture die => die < 4
  | .debugPortLock => true
  | .debugPortDown => true
  | .debugPortFrame => true
  | .jtagBypass => true
  | .jtagIdcode => true
  | .jtagSamplePreload _ => true
  | .jtagExtest _ => true
  | .jtagRegisterAccess _ _ _ _ => true
  | .vfEnableChange _ _ => true
  | .barRead fn _ _ => fn < 64
  | .mboxTimeout => true
  | .vrWarnClear vr => vr < 7

end Sys2Proof
end

