-- ==== Sys2Proof/Certificates/Slice0/Obligations.lean ====
section
/-!
DEFINITION. The statements for the provers.
-/
section
open Sys2Proof Sys2Proof.Machine


/-! The block as a whole. -/

/-- A step takes the command at the front of the queue and runs it with the rest of the queue; with none waiting, the block idles (the model's choice,
log entry 1). -/
def Obligations.StepRunsFrontCommand : Prop :=
  (∀ (c : Instr) (rest : List Instr) (s : State), step { s with pending := c :: rest } = exec c { s with pending := rest }) ∧
    (∀ s : State, s.pending = [] → step s = .next s)

/-- What the spec gives for cold reset: memory reads as zero everywhere, every tile is IDLE, no resource is bound, every column is there, the beat and
frame counters stand at 0, and the queue is empty. The empty queue and the contents of memories are the model's reading: log entries 1 and 16. -/
def Obligations.ResetLeaves : Prop :=
  State.reset.Sound ∧ State.reset.pending = [] ∧ State.reset.beat = 0 ∧ State.reset.frame = 0 ∧ State.reset.bootState = 0 ∧ State.reset.level = 16 ∧
    (∀ a, memGet State.reset.hbm a = 0 ∧ memGet State.reset.scr a = 0) ∧
    (∀ t, (State.reset.tile t).task = .idle) ∧
    (∀ tb i, State.reset.owner tb i = none) ∧
    (∀ d, d < 4 → State.reset.retired d = 0) ∧
    (∀ pg off sel, State.reset.reg pg off sel = regReset pg off)

/-- Every step keeps both memories in canonical form, from every state in which they have it, not only from those that runs reach. The canonical form
is the model's: log entry 16. -/
def Obligations.EveryStepKeepsMemoriesSound : Prop :=
  ∀ s t : State, s.Sound → step s = .next t → t.Sound

/-- A command answers a next state exactly where every unit it names exists; the only other answer is the fault that says the unit does not. The fault
for absent units is the model's: log entry 10. -/
def Obligations.CommandsAnswerWhereTheirUnitsExist : Prop :=
  ∀ (c : Instr) (s : State), (c.wf = true → ∃ t, exec c s = .next t) ∧ (c.wf = false → exec c s = .fault .noSuchUnit)

/-- The frame of every command: whatever it meets on its way (a fault of the task, a polder stop, a record), it changes no part of the state outside
those that `touches` lists for it, and puts no command into the queue. The parts are fields of the model's State. -/
def Obligations.CommandsTouchOnlyTheirParts : Prop :=
  ∀ (c : Instr) (s t : State), exec c s = .next t → t.pending = s.pending ∧ s.sameBut (touches c) t

/-! Memory (R7, R91 to R95, R112, R258). -/

/-- A read after a write gives what was written where it was written, and what was there elsewhere; zeroing a range makes exactly that range zero.
Equal memories are equal lists: two canonical memories that read alike at every address are one. The list form is the model's: log entry 16. -/
def Obligations.MemoryReadsWhatWasWritten : Prop :=
  (∀ (m : List Host.Cell), Memory.wf m = true →
     (∀ (a : Nat) (bs : List Byte) (x : Nat), memGet (memWrite m a bs) x = if a ≤ x ∧ x < a + bs.length then bs.getD (x - a) 0 else memGet m x) ∧
     (∀ a n x : Nat, memGet (memZero m a n) x = if a ≤ x ∧ x < a + n then 0 else memGet m x) ∧
     (∀ a n : Nat, memRead m a n = (List.range n).map (fun i => memGet m (a + i)))) ∧
  (∀ m n : List Host.Cell, Memory.wf m = true → Memory.wf n = true → (∀ a, memGet m a = memGet n a) → m = n)

/-! Issue at a tile (03_tile.md, 04_command_set.md). -/

/-- Steps 1 to 4 of R88: with the task RUNNING and nothing that holds its issue, a well-formed head command whose predicate passes, whose registers
are not pending and whose count, spaces, walkers and ranges are in order is ready for the row of its class and operation; getting there changes
only the tile's mark that its breakpoints were looked at. One row per command class is the model's: log entry 19. -/
def Obligations.HeadCommandGetsReady : Prop :=
  ∀ (s : State) (t : Nat) (w : CmdWord) (rs : List SbEntry),
    (s.tile t).task = .running → (s.tile t).stopReq = false → (s.tile t).haltIssued = false → (s.tile t).fbarAt = none → s.part (pgTile t) = 0 →
    (s.tile t).cmdIndex < (s.tile t).cmdrLen →
    (s.tile t).queue.find? (fun e => e.1 == (s.tile t).cmdIndex) = some ((s.tile t).cmdIndex, w) →
    (∀ b, b < 2 → s.getF (pgTile t) (0xE08 + 4 * b) 0 0 0 ≠ 1) →
    s.getF (pgTile t) 0xE00 0 0 0 ≠ 1 →
    decodeCode w.toNat (s.tile t).cmdIndex (s.tile t).cmdrLen ((s.tile t).loops.map (·.last)) (s.hasStream t) = 0 →
    (s.tile t).p (cPred w.toNat) ≠ (cPneg w.toNat == 1) →
    (∀ l, (s.tile t).loops.head? = some l → l.owed = false) →
    (∀ r, r ∈ readsS w.toNat ++ [writesS w.toNat] → r ≠ 0 → ∀ q, q ∈ (s.tile t).pendS → q.1 ≠ r) →
    (cClass w.toNat = 12 → (s.tile t).pendS = []) →
    (s.tile t).issueCode w.toNat ((s.tile t).count w.toNat) = 0 →
    (s.tile t).ranges w.toNat (s.tile t).cmdIndex = some rs →
    ∃ s1, s.headFor t (cClass w.toNat) (cOp w.toNat) = .ok (s1, ⟨w.toNat, (s.tile t).cmdIndex, (s.tile t).count w.toNat, rs⟩) ∧
      s1.tile t = { s.tile t with brkSeen := true } ∧ s.onlyTile s1 t

/-- What keeps a command from issuing: a task that does not run leaves the state as it is for every row at the head; a command whose decode fails
faults its task, which then is FAULTED with its tokens returned; a failing predicate lets the command go by as skipped, with no register,
predicate or queue changed. That a row for another state of the head does nothing is the model's: log entries 9 and 17. -/
def Obligations.HeadCommandIsHeldSkippedOrFaults : Prop :=
  ∀ (s : State) (t cls op : Nat),
    ((s.tile t).task ≠ .running → s.headFor t cls op = .error s) ∧
    (∀ w : CmdWord, (s.tile t).task = .running → (s.tile t).stopReq = false → (s.tile t).haltIssued = false → (s.tile t).fbarAt = none →
      s.part (pgTile t) = 0 → (s.tile t).brkSeen = true → s.getF (pgTile t) 0xE00 0 0 0 ≠ 1 →
      (s.tile t).queue.find? (fun e => e.1 == (s.tile t).cmdIndex) = some ((s.tile t).cmdIndex, w) → cClass w.toNat = cls → cOp w.toNat = op →
      (s.tile t).cmdIndex < (s.tile t).cmdrLen →
      (decodeCode w.toNat (s.tile t).cmdIndex (s.tile t).cmdrLen ((s.tile t).loops.map (·.last)) (s.hasStream t) ≠ 0 →
        ∃ u, s.headFor t cls op = .error u ∧ (u.tile t).task = .faulted ∧ (u.tile t).tokM = 0 ∧ (u.tile t).tokV = 0) ∧
      (decodeCode w.toNat (s.tile t).cmdIndex (s.tile t).cmdrLen ((s.tile t).loops.map (·.last)) (s.hasStream t) = 0 →
        (s.tile t).p (cPred w.toNat) = (cPneg w.toNat == 1) → (s.tile t).cmdIndex + 1 < (s.tile t).cmdrLen → (s.tile t).noLoopEnd (s.tile t).cmdIndex →
        ∃ u, s.headFor t cls op = .error u ∧ s.wentByOnly u t ⟨w.toNat, (s.tile t).cmdIndex, 0, []⟩))

/-- ALU and LDI write their destination register with the function's result or the 64-bit immediate, and no other register and no predicate; s0 keeps
reading 0. CMP and PBOOL write their destination predicate and nothing else; p0 keeps reading 1. PBOOL's functions 0 to 3 are AND, OR, XOR and AND
NOT. AMXR writes the bits of the named slot of TILE_AMAX to its register, or waits for the conversions before it that name the slot with its
register pending. -/
def Obligations.ScalarCommandsWriteTheirDestination : Prop :=
  (∀ (s s1 : State) (t : Nat) (h : Head),
     (s.ready s1 t 8 0 h → ∃ u, exec (.alu t) s = .next u ∧ s1.wentBy u t h ∧ (u.tile t).preds = (s1.tile t).preds ∧
       ∀ r, (u.tile t).s r = if r = cf h.c 1 10 6 ∧ r ≠ 0
         then aluFn (cf h.c 1 5 0) ((s1.tile t).s (cf h.c 1 15 11)) ((s1.tile t).opB h.c) % 2 ^ 64 else (s1.tile t).s r) ∧
     (s.ready s1 t 8 3 h → ∃ u, exec (.ldi t) s = .next u ∧ s1.wentBy u t h ∧ (u.tile t).preds = (s1.tile t).preds ∧
       ∀ r, (u.tile t).s r = if r = cf h.c 1 10 6 ∧ r ≠ 0 then cw h.c 2 + 2 ^ 32 * cw h.c 3 else (s1.tile t).s r)) ∧
  ((∀ x y : Bool, pboolFn 0 x y = (x && y) ∧ pboolFn 1 x y = (x || y) ∧ pboolFn 2 x y = xor x y ∧ pboolFn 3 x y = (x && !y)) ∧
   ∀ (s s1 : State) (t : Nat) (h : Head),
     (s.ready s1 t 8 1 h → ∃ u, exec (.cmp t) s = .next u ∧ s1.wentBy u t h ∧ (u.tile t).sregs = (s1.tile t).sregs ∧
       ∀ p, p < 8 → (u.tile t).p p = if p = cf h.c 1 10 8 ∧ p ≠ 0
         then cmpFn (cf h.c 1 3 0) ((s1.tile t).s (cf h.c 1 15 11)) ((s1.tile t).opB h.c) else (s1.tile t).p p) ∧
     (s.ready s1 t 8 2 h → ∃ u, exec (.pbool t) s = .next u ∧ s1.wentBy u t h ∧ (u.tile t).sregs = (s1.tile t).sregs ∧
       ∀ p, p < 8 → (u.tile t).p p = if p = cf h.c 1 10 8 ∧ p ≠ 0
         then pboolFn (cf h.c 1 1 0) ((s1.tile t).p (cf h.c 1 13 11)) ((s1.tile t).p (cf h.c 1 16 14)) else (s1.tile t).p p)) ∧
  (∀ (s s1 : State) (t : Nat) (h : Head), s.ready s1 t 8 6 h →
     ∃ u, exec (.amxr t) s = .next u ∧ s1.wentBy u t h ∧
       (if (mapGet (s1.tile t).dq (unitEng (cf h.c 1 23 22)) []).any (fun i => i.namesAmax (cf h.c 1 23 22) (cf h.c 1 25 24))
        then (u.tile t).sregs = (s1.tile t).sregs ∧
          (u.tile t).amxWait = (s1.tile t).amxWait ++ [(cf h.c 1 23 22, cf h.c 1 25 24, cf h.c 1 10 6, (s1.tile t).progress)]
        else ∀ r, (u.tile t).s r = if r = cf h.c 1 10 6 ∧ r ≠ 0
          then s1.getF (pgTile t) (unitBase (cf h.c 1 23 22) + 4 * cf h.c 1 25 24) 0 31 0 else (s1.tile t).s r))

/-- The ALU functions and CMP conditions of Table 4-16 are those of 64-bit two's-complement arithmetic; shift counts are taken modulo 64. -/
def Obligations.AluAndCmpFunctionsAreTable416 : Prop :=
  ∀ a b : BitVec 64,
    aluFn 0x00 a.toNat b.toNat = (a + b).toNat ∧ aluFn 0x01 a.toNat b.toNat = (a - b).toNat ∧ aluFn 0x02 a.toNat b.toNat = (a * b).toNat ∧
    aluFn 0x03 a.toNat b.toNat = (a <<< (b.toNat % 64)).toNat ∧ aluFn 0x04 a.toNat b.toNat = (a >>> (b.toNat % 64)).toNat ∧
    aluFn 0x05 a.toNat b.toNat = (a.sshiftRight (b.toNat % 64)).toNat ∧
    aluFn 0x06 a.toNat b.toNat = (a &&& b).toNat ∧ aluFn 0x07 a.toNat b.toNat = (a ||| b).toNat ∧ aluFn 0x08 a.toNat b.toNat = (a ^^^ b).toNat ∧
    aluFn 0x09 a.toNat b.toNat = (if a.slt b then a else b).toNat ∧ aluFn 0x0A a.toNat b.toNat = (if a.ult b then a else b).toNat ∧
    aluFn 0x0B a.toNat b.toNat = (if a.slt b then b else a).toNat ∧ aluFn 0x0C a.toNat b.toNat = (if a.ult b then b else a).toNat ∧
    cmpFn 0 a.toNat b.toNat = decide (a = b) ∧ cmpFn 1 a.toNat b.toNat = decide (a ≠ b) ∧ cmpFn 2 a.toNat b.toNat = a.slt b ∧
    cmpFn 3 a.toNat b.toNat = a.sle b ∧ cmpFn 4 a.toNat b.toNat = b.slt a ∧ cmpFn 5 a.toNat b.toNat = b.sle a ∧ cmpFn 6 a.toNat b.toNat = a.ult b ∧
    cmpFn 7 a.toNat b.toNat = a.ule b ∧ cmpFn 8 a.toNat b.toNat = b.ult a ∧ cmpFn 9 a.toNat b.toNat = b.ule a

/-- STC puts the crumb into the store buffer; LDC first writes the buffered crumbs out, then reads the crumb at its address into its register (no
upset there). COMMAND_COMPLETE of the crumb store buffer writes its oldest crumb: exactly the eight bytes at its address change. That LDC writes
the whole buffer out first is the model's order: log entry 18. -/
def Obligations.CrumbsAreStoredAndLoaded : Prop :=
  (∀ (s s1 : State) (t : Nat) (h : Head) (a : Nat),
     (s.ready s1 t 8 5 h → (s1.tile t).crumbAddr h.c = (a, 0) → (s1.tile t).crumbWait a true = false → (s1.tile t).crumbs.length < 4 →
       ∃ u, exec (.stc t) s = .next u ∧ s1.wentByOnly u t h ∧
         (u.tile t).crumbs = (s1.tile t).crumbs ++ [⟨a, BitVec.ofNat 64 ((s1.tile t).s (cf h.c 1 20 16)), h.idx, (s1.tile t).progress⟩]) ∧
     (∀ ecc, (s.addUpsets t ecc).ready s1 t 8 4 h → (s1.tile t).crumbAddr h.c = (a, 0) → (s1.tile t).crumbWait a false = false →
       (s1.crumbFlush t).clear t a 8 →
       ∃ u, exec (.ldc t ecc) s = .next u ∧ (s1.crumbFlush t).wentBy u t h ∧ (u.tile t).crumbs = [] ∧ (u.tile t).preds = (s1.tile t).preds ∧
         ∀ r, (u.tile t).s r = if r = cf h.c 1 10 6 ∧ r ≠ 0 then leNat (memRead (s1.crumbFlush t).scr (scrKey t a) 8) else (s1.tile t).s r)) ∧
  (∀ (s : State) (t : Nat) (k : Crumb) (ks : List Crumb), t < 4864 → Memory.wf s.scr = true → (s.tile t).crumbs = k :: ks →
     ∃ u, exec (.commandComplete t 10 []) s = .next u ∧ (u.tile t).crumbs = ks ∧ s.sameBut [.regs, .scr, .upsets, .tiles] u ∧
       (∀ j, j ≠ t → u.tile j = s.tile j) ∧
       ∀ a, memGet u.scr a = if scrKey t k.addr ≤ a ∧ a < scrKey t k.addr + 8 then (natLE 8 k.val.toNat).getD (a - scrKey t k.addr) 0 else memGet s.scr a)

/-- WAITB goes by once its beat has begun, and at once in handshake mode; before that it stalls and changes nothing else. KWAIT goes by once its
descriptor's completion count has reached its target, and stalls until then. FBAR arrives once nothing of its tile is in flight: the tile waits at
the barrier with its frame's fingerprint closed and its tokens returned, and the command index stands; before that it stalls. MARK goes by; with
tracing off and no breakpoint enabled it changes nothing else. HALT ends issue: the task is HALTED as soon as nothing is in flight, and its tokens
go back. FBAR closes its fingerprint at its arrival: log entry 47. -/
def Obligations.WaitsMarksAndHaltsActAtIssue : Prop :=
  (∀ (s s1 : State) (t : Nat) (h : Head),
     (s.ready s1 t 6 0 h → ∃ u, exec (.waitb t) s = .next u ∧
       (if s1.handshake t = true ∨ (s1.tile t).beatRef + h.e ≤ s1.beat then s1.wentByOnly u t h
        else u.tile t = { s1.tile t with stall := 6 } ∧ s1.onlyTile u t)) ∧
     (∀ d slot desc, s.ready s1 t 6 3 h → s1.kOf t h.c = some (d, slot, desc) → ∃ u, exec (.kwait t) s = .next u ∧
       (if h.e ≤ (s1.kdesc d slot desc).done then s1.wentByOnly u t h
        else u.tile t = { s1.tile t with stall := 6 } ∧ s1.onlyTile u t))) ∧
  (∀ (s s1 : State) (t : Nat) (h : Head), s.ready s1 t 6 1 h →
     ∃ u, exec (.fbar t) s = .next u ∧ s1.onlyTile u t ∧ (u.tile t).stall = 6 ∧ (u.tile t).cmdIndex = (s1.tile t).cmdIndex ∧
       (if (s1.tile t).quiet
        then (u.tile t).fbarAt = some (cf h.c 1 15 0) ∧ (u.tile t).tokM = 0 ∧ (u.tile t).tokV = 0 ∧ (u.tile t).fpItems = [] ∧
          (u.tile t).stepFps = (s1.tile t).stepFps ++ [(u.tile t).fpFrame]
        else (u.tile t).fbarAt = (s1.tile t).fbarAt ∧ (u.tile t).stepFps = (s1.tile t).stepFps)) ∧
  (∀ (s s1 : State) (t : Nat) (h : Head),
     (s.ready s1 t 13 0 h → (∀ b, b < 2 → s1.getF (pgTile t) (0xE08 + 4 * b) 0 0 0 ≠ 1) → ∃ u, exec (.mark t) s = .next u ∧ s1.wentByOnly u t h) ∧
     (t < 4864 → s.headFor t 14 0 = .ok (s1, h) → (s1.tile t).noLoopEnd h.idx → (s1.tile t).task = .running →
       ∃ u, exec (.halt t) s = .next u ∧ (∀ k, k ≠ t → u.tile k = s1.tile k) ∧ s1.sameBut [.tiles, .regs, .trace, .freeCtr] u ∧
       (if (s1.tile t).quiet then (u.tile t).task = .halted ∧ (u.tile t).haltIssued = false ∧ (u.tile t).tokM = 0 ∧ (u.tile t).tokV = 0
        else (u.tile t).task = .running ∧ (u.tile t).haltIssued = true)))

/-- LOOP opens a loop over the commands behind it with its index register at 0; with a count of 0 it passes its body by. At the end of an innermost
loop's body issue returns to the body's first command with the next iteration's number in the index register; after the last iteration the loop
closes, and issue goes on behind it. A loop with no iteration: log entry 59. -/
def Obligations.LoopsOpenRepeatAndClose : Prop :=
  (∀ (s s1 : State) (t : Nat) (h : Head), t < 4864 → s.headFor t 7 0 = .ok (s1, h) → 0 < cf h.c 1 23 0 → h.idx + cf h.c 1 23 0 + 1 < (s1.tile t).cmdrLen →
     ∃ u, exec (.loop t) s = .next u ∧
       (0 < h.e → s1.wentBy u t h ∧
         (u.tile t).loops = { first := h.idx + 1, last := h.idx + cf h.c 1 23 0, total := h.e, iter := 0, sidx := cf h.c 1 28 24 } :: (s1.tile t).loops ∧
         ∀ r, (u.tile t).s r = if r = cf h.c 1 28 24 then 0 else (s1.tile t).s r) ∧
       (h.e = 0 → (s1.tile t).noLoopEnd (h.idx + cf h.c 1 23 0) →
         (u.tile t).cmdIndex = h.idx + cf h.c 1 23 0 + 1 ∧ (u.tile t).loops = (s1.tile t).loops ∧ (u.tile t).sregs = (s1.tile t).sregs ∧
         (∀ k, k ≠ t → u.tile k = s1.tile k) ∧ s1.sameBut [.tiles, .regs, .trace, .freeCtr] u)) ∧
  (∀ (x : Tile) (l : LoopCtx) (ls : List LoopCtx), x.loops = l :: ls → (∀ q, q ∈ x.pendS → q.1 ≠ l.sidx) → (∀ q, ls.head? = some q → q.last ≠ l.last) →
     (l.iter + 1 < l.total → (x.pass l.last (l.last + 1)).cmdIndex = l.first ∧
       (x.pass l.last (l.last + 1)).loops = { l with iter := l.iter + 1, owed := false } :: ls ∧
       ∀ r, (x.pass l.last (l.last + 1)).s r = if r = l.sidx ∧ r ≠ 0 then (l.iter + 1) % 2 ^ 64 else x.s r) ∧
     (l.total ≤ l.iter + 1 → (x.pass l.last (l.last + 1)).cmdIndex = l.last + 1 ∧ (x.pass l.last (l.last + 1)).loops = ls ∧
       (x.pass l.last (l.last + 1)).sregs = x.sregs) ∧
     (x.pass l.last (l.last + 1)).progress = (x.progress + 1) % 2 ^ 64)

/-! Engines, task control and the scratchpad (03_tile.md, 04_command_set.md). -/

/-- A mover, matrix, vector, conversion, count, atomic or lock command that conflicts with nothing in flight enters its engine's dispatch queue, with
its ranges in the scoreboard, and starts at once where the queue was empty; where its ranges conflict with work in flight it stalls, and nothing
else changes. SQ commands enter the spill-queue port's queue where their rank names a bound queue, and start where it was empty; otherwise the
task faults. EXCH SEND, EXCH RECV and KFLAG enter the exchange port's and the kneader trigger's queues and take no scoreboard entries; in
handshake mode an EXCH takes a guard entry over its walker's span, and a KFLAG waits while its ranges conflict with one. SNAP enters the snapshot
engine's queue where its polder's region is in order: its tile counts as issued and no longer as completed in the step window. One queue per
engine and the effect at its front's start are the model's: log entries 18, 29 and 45. -/
def Obligations.CommandsEnterTheirEnginesQueues : Prop :=
  (∀ (s s1 : State) (t : Nat) (ecc : List (Nat × Nat)) (h : Head) (i : Instr) (cls op eng : Nat),
     ((i, cls, op, eng) ∈ [(Instr.moveLoad t ecc, 1, 0, 0), (.moveStore t ecc, 1, 1, 1), (.mma t ecc, 2, 0, 2), (.mmz t ecc, 2, 1, 2), (.vecMap t ecc, 3, 0, 3),
         (.vecReduce t ecc, 3, 1, 3), (.convL t ecc, 4, 0, 0), (.convS t ecc, 4, 1, 1), (.convV t ecc, 4, 2, 3), (.cntCount t ecc, 11, 0, 6),
         (.cntMask t ecc, 11, 1, 6), (.cntHist t ecc, 11, 2, 6)] ∨
       ecc = [] ∧ (i, cls, op, eng) ∈ [(Instr.atomAdd t, 10, 0, 8), (.atomMin t, 10, 1, 8), (.atomMax t, 10, 2, 8), (.atomCas t, 10, 3, 8), (.atomSwap t, 10, 4, 8),
         (.atomFinc t, 10, 5, 8), (.lacq t, 10, 6, 8), (.lrel t, 10, 7, 8)]) →
     (s.addUpsets t ecc).ready s1 t cls op h →
     ((s1.tile t).sbWait h.ranges = 0 → (mapGet (s1.tile t).dq eng []).length < dqDepth eng →
       ∃ v, s1.queued v t eng h true [] false ∧ exec i s = .next (if mapGet (s1.tile t).dq eng [] = [] then v.startFront t eng else v)) ∧
     ((s1.tile t).sbWait h.ranges ≠ 0 →
       ∃ u, exec i s = .next u ∧ u.tile t = { s1.tile t with stall := (s1.tile t).sbWait h.ranges } ∧ s1.onlyTile u t)) ∧
  (∀ (s s1 : State) (t : Nat) (ecc : List (Nat × Nat)) (h : Head) (i : Instr) (op : Nat),
     (ecc = [] ∧ (i, op) ∈ [(Instr.sqOpen t, 0), (.sqClose t, 2), (.sqPop t, 3)] ∧ s.ready s1 t 9 op h ∨
       i = .sqPush t ecc ∧ op = 1 ∧ (s.addUpsets t ecc).ready s1 t 9 op h) →
     (∀ q, s1.sqOf t h.c = some q → (s1.tile t).sbWait h.ranges = 0 → (mapGet (s1.tile t).dq 7 []).length < 4 →
       ∃ v, s1.queued v t 7 h true [] false ∧ exec i s = .next (if mapGet (s1.tile t).dq 7 [] = [] then v.startFront t 7 else v)) ∧
     (s1.sqOf t h.c = none → (s1.tile t).task = .running → ∃ u, exec i s = .next u ∧ (u.tile t).task = .faulted)) ∧
  (∀ (s s1 : State) (t : Nat) (h : Head) (i : Instr) (op : Nat),
     ((i, op) ∈ [(Instr.exchSend t, 0), (.exchRecv t, 1)] → s.ready s1 t 5 op h → (mapGet (s1.tile t).dq 4 []).length < 16 →
       (s1.handshake t = true → (s1.tile t).guardWait ((s1.tile t).guardOf h.c h.idx) = false) →
       ∃ v, exec i s = .next v ∧ s1.queued v t 4 h false (if s1.handshake t then [(s1.tile t).guardOf h.c h.idx] else []) (h.e == 0)) ∧
     (∀ k, s.ready s1 t 6 2 h → s1.kOf t h.c = some k → (mapGet (s1.tile t).dq 5 []).length < 4 →
       (∀ r, r ∈ h.ranges → ∀ g, g ∈ (s1.tile t).xp.guards → r.conflicts g = false) →
       ∃ v, exec (.kflag t) s = .next v ∧ s1.queued v t 5 h false [] false)) ∧
  (∀ (s s1 : State) (t b : Nat) (ecc : List (Nat × Nat)) (h : Head),
     (s.addUpsets t ecc).ready s1 t 12 0 h → s1.snapBase (tDie t) (s1.ownerOr t) = some b →
     s1.inRankRun (s1.ownerOr t) b (2 * s1.snapSize (tDie t) (s1.ownerOr t)) = true →
     (s1.tile t).sbWait h.ranges = 0 → mapGet (s1.tile t).dq 9 [] = [] →
     ∃ v u, s1.queued v t 9 h true [] false ∧ exec (.snap t ecc) s = .next u ∧
       u.tiles = v.tiles ∧ v.sameBut [.pols] u ∧ (∀ p, p ≠ s1.ownerOr t → u.pol p = v.pol p) ∧
       t ∈ (mapGet (u.pol (s1.ownerOr t)).snaps (tDie t) {}).issued ∧ t ∉ (mapGet (u.pol (s1.ownerOr t)).snaps (tDie t) {}).completed ∧
       (mapGet (u.pol (s1.ownerOr t)).snaps (tDie t) {}).busy = true)

/-- COMMAND_COMPLETE takes the finished command of an engine away: its scoreboard entries and its pending register are free, its result is in the
register it names, and no other register or tile changes. The row COMMAND_COMPLETE ends what a command's start did: log entry 18. -/
def Obligations.CommandCompletes : Prop :=
  ∀ (s : State) (t eng : Nat) (i : IssuedCmd), t < 4864 → eng ≠ 10 → mapGet (s.tile t).dq eng [] = [i] → i.started = true → i.finished = true →
    s.storesLeft t i.ord = false → (s.tile t).amxWait = [] → (s.tile t).stopReq = false → (s.tile t).haltIssued = false →
    ∃ u, exec (.commandComplete t eng []) s = .next u ∧ s.onlyTile u t ∧ mapGet (u.tile t).dq eng [] = [] ∧
      (∀ e, e ≠ eng → mapGet (u.tile t).dq e [] = mapGet (s.tile t).dq e []) ∧
      (u.tile t).sb = (s.tile t).sb.filter (fun e => e.ord != i.ord) ∧ (u.tile t).pendS = (s.tile t).pendS.filter (fun p => p.2 != i.ord) ∧
      (u.tile t).task = (s.tile t).task ∧ (u.tile t).preds = (s.tile t).preds ∧
      ∀ r, (u.tile t).s r = if i.data ≠ [] ∧ r = writesS i.word.toNat ∧ r ≠ 0 then leNat i.data % 2 ^ 64 else (s.tile t).s r

/-- TASK_START: a LOADED task of a polder that is not stopped runs from command 0 with TILE_PROGRESS 0, its queue, scoreboard and loops empty, s1 its
polder-relative index and s2 the polder's step; a STOPPED one runs on with its registers and command index as they are; any other stays as it is.
TASK_STOP: a running task with nothing in flight is STOPPED; with work in flight it is asked to stop; any other task stays as it is. TILE_CLEAR
starts a clear: the tile is CLEARING, its in-flight commands and buffers are gone, its tokens returned and its held stores dropped; a clear under
way is left alone. CLEAR_COMPLETE ends it: every byte of the tile's scratchpad is zero, no other tile's byte changes, and the tile is IDLE with
its registers and predicates at their reset values. What stays at a clear: log entries 2 and 73. -/
def Obligations.TasksStartStopAndClear : Prop :=
  (∀ (s : State) (t p : Nat), t < 4864 → s.tileOwner t = some p → (s.pol p).stopped = false →
     ((s.tile t).task = .loaded → ∃ u, exec (.taskStart t) s = .next u ∧ (u.tile t).task = .running ∧ (u.tile t).cmdIndex = 0 ∧ (u.tile t).progress = 0 ∧
       (u.tile t).queue = [] ∧ (u.tile t).sb = [] ∧ (u.tile t).loops = [] ∧ (u.tile t).ctx = s.getF (pgTile t) 0x108 0 15 0 ∧
       (u.tile t).s 1 = s.ptileOf (s.getF (pgTile t) 0x108 0 15 0 / 1024) t % 2 ^ 64 ∧
       (u.tile t).s 2 = (s.pol (s.getF (pgTile t) 0x108 0 15 0 / 1024)).started % 2 ^ 64 ∧ (u.tile t).beatRef = s.startBeat s.beat ∧
       s.sameBut [.tiles, .pols, .regs] u) ∧
     ((s.tile t).task = .stopped → ∃ u, exec (.taskStart t) s = .next u ∧ (u.tile t).task = .running ∧ (u.tile t).sregs = (s.tile t).sregs ∧
       (u.tile t).preds = (s.tile t).preds ∧ (u.tile t).cmdIndex = (s.tile t).cmdIndex ∧ (u.tile t).progress = (s.tile t).progress ∧
       s.sameBut [.tiles, .pols, .regs] u) ∧
     ((s.tile t).task ≠ .loaded → (s.tile t).task ≠ .stopped → exec (.taskStart t) s = .next s)) ∧
  (∀ (s : State) (t : Nat), t < 4864 → ∃ u, exec (.taskStop t) s = .next u ∧ s.onlyTile u t ∧
     (if (s.tile t).task = .running then
       (if (s.tile t).quiet ∧ !(s.tile t).haltIssued then (u.tile t).task = .stopped ∧ (u.tile t).stopReq = false
        else if (s.tile t).quiet then (u.tile t).task = .halted
        else (u.tile t).task = .running ∧ (u.tile t).stopReq = true)
      else u = s)) ∧
  (∀ (s : State) (t : Nat), t < 4864 → Memory.wf s.scr = true →
     (∃ u, exec (.tileClear t) s = .next u ∧ (u.tile t).task = .clearing ∧ (∀ j, j ≠ t → u.tile j = s.tile j) ∧
       ((s.tile t).task = .clearing → u = s) ∧
       ((s.tile t).task ≠ .clearing → (u.tile t).dq = [] ∧ (u.tile t).sb = [] ∧ (u.tile t).crumbs = [] ∧ (u.tile t).queue = [] ∧ (u.tile t).tokM = 0 ∧
         (u.tile t).tokV = 0 ∧ (u.tile t).loops = [] ∧ (∀ e, e ∈ u.bridge.held → e.tile ≠ t) ∧ u.scr = s.scr ∧ u.hbm = s.hbm)) ∧
     (∃ u, exec (.clearComplete t) s = .next u ∧ (∀ j, j ≠ t → u.tile j = s.tile j) ∧
       ((s.tile t).task ≠ .clearing → u = s) ∧
       ((s.tile t).task = .clearing → (u.tile t).task = .idle ∧ (∀ r, (u.tile t).s r = 0) ∧ (u.tile t).preds = 1 ∧
         u.getF (pgTile t) 0x7F4 0 0 0 = 0 ∧
         (∀ a, memGet u.scr a = if scrKey t 0 ≤ a ∧ a < scrKey t 0 + 2 ^ 20 then 0 else memGet s.scr a) ∧
         s.sameBut [.regs, .freeCtr, .scr, .upsets, .tiles] u)))

/-- COMMAND_FETCH of a clean line puts the commands up to the next loaf's end behind the queue, each read from the command region at 32 bytes a
command; with no room, or the region fetched, it changes nothing. A scratchpad window write by the tile's owner, of whole crumbs or loaves inside
the scratchpad, of a tile that is ACTIVE and neither RUNNING nor CLEARING writes exactly its bytes; while the task RUNS it is discarded with
0x2019; another function's is refused. -/
def Obligations.FetchesAndWindowWrites : Prop :=
  (∀ (s s1 : State) (t : Nat) (bs : List Byte), t < 4864 → (s.tile t).task = .running → (s.tile t).fetchNext < (s.tile t).cmdrLen → s.part (pgTile t) = 0 →
     (let x := s.tile t
      let stop := min ((x.fetchNext / 16 + 1) * 16) x.cmdrLen
      x.queue.length + (stop - x.fetchNext) ≤ 512 →
      s.tileLoad t (s.ownerOr t) (x.cmdrBase + x.fetchNext / 16 * 512) 512 [] = (.bytes bs, s1) →
      ∃ u, exec (.commandFetch t 0) s = .next u ∧ s1.onlyTile u t ∧ (u.tile t).fetchNext = stop ∧
        (u.tile t).queue = (s1.tile t).queue ++ (List.range (stop - x.fetchNext)).map (fun k =>
          (x.fetchNext + k, BitVec.ofNat 256 (leNat ((bs.drop ((x.fetchNext + k) % 16 * 32)).take 32)))) ∧
        (u.tile t).sregs = (s1.tile t).sregs ∧ (u.tile t).cmdIndex = (s1.tile t).cmdIndex) ∧
     (512 < (s.tile t).queue.length + (min (((s.tile t).fetchNext / 16 + 1) * 16) (s.tile t).cmdrLen - (s.tile t).fetchNext) →
       exec (.commandFetch t 0) s = .next s)) ∧
  (∀ (s : State) (fn t addr : Nat) (data : List Byte), t < 4864 → Memory.wf s.scr = true →
     (s.tileOwner t = some fn → addr + data.length ≤ 0x70000 → 0 < data.length → data.length % 8 = 0 → addr % 8 = 0 → s.serves (pgTile t) = true →
       ((s.tile t).task ≠ .running → (s.tile t).task ≠ .clearing →
         ∃ u, exec (.scratchpadWindowWrite fn t addr data) s = .next u ∧ s.sameBut [.regs, .scr, .upsets, .tiles] u ∧ (u.tile t).task = (s.tile t).task ∧
           (∀ j, j ≠ t → u.tile j = s.tile j) ∧
           ∀ a, memGet u.scr a = if scrKey t addr ≤ a ∧ a < scrKey t addr + data.length then data.getD (a - scrKey t addr) 0 else memGet s.scr a) ∧
       ((s.tile t).task = .running → exec (.scratchpadWindowWrite fn t addr data) s = .next (s.err (pgTile t) 0x2019))) ∧
     (s.tileOwner t ≠ some fn → ∃ u, exec (.scratchpadWindowWrite fn t addr data) s = .next u ∧ u.scr = s.scr ∧ u.tiles = s.tiles ∧ u.getF (pgTile t) 0x18 0 31 16 = 0x2071))

/-! Power, current and temperature (13_power_current_thermal.md). -/

/-- TOKEN_GRANT gives the matrix engine or the vector unit of an admitted, running tile the token class of the command at the front of its queue,
which then starts; TOKEN_IDLE_RETURN takes the token of an idle engine back and changes nothing else. RAMP_ADMISSION admits tile `k` of a running
ramp's timetable once its beat has come, and before it changes nothing; RAMP_END ends the ramp of a die once none of its tiles waits and its last
admission has passed. The order of these rows is the sender's: log entry 131. -/
def Obligations.TokensAndRamps : Prop :=
  (∀ (s : State) (t : Nat) (vec : Bool), t < 4864 →
     (∀ (i : IssuedCmd) (q : List IssuedCmd), mapGet (s.tile t).dq (if vec then 3 else 2) [] = i :: q → i.started = false →
       (s.tile t).tokenOk (if vec then 3 else 2) i.word.toNat = false → (s.tile t).admitAt = none → (s.tile t).task = .running → (s.tile t).beatRef ≤ s.beat →
       ∃ v, v.tile t = (if vec then { s.tile t with tokV := actClass i.word.toNat } else { s.tile t with tokM := actClass i.word.toNat }) ∧
         (∀ k, k ≠ t → v.tile k = s.tile k) ∧ s.sameBut [.tiles, .regs, .freeCtr] v ∧
         exec (.tokenGrant t vec []) s = .next (v.startFront t (if vec then 3 else 2))) ∧
     (∃ u, exec (.tokenIdleReturn t vec) s = .next u ∧ s.onlyTile u t ∧
       (u.tile t).tokV = (if vec = true ∧ mapGet (s.tile t).dq 3 [] = [] then 0 else (s.tile t).tokV) ∧
       (u.tile t).tokM = (if vec = false ∧ mapGet (s.tile t).dq 2 [] = [] then 0 else (s.tile t).tokM))) ∧
  (∀ (s : State) (p d : Nat), p < 64 →
     (∀ k t adm b, (mapGet (s.pol p).ramp d [])[k]? = some (t, adm) → (s.tile t).admitAt = some b →
       ∃ u, exec (.rampAdmission p d k) s = .next u ∧ s.onlyTile u t ∧ (u.tile t).admitAt = (if b + adm / 64 ≤ s.beat then none else some b)) ∧
     (∀ b, mapFind? (s.pol p).running d = some b → (∀ e, e ∈ mapGet (s.pol p).ramp d [] → (s.tile e.1).admitAt ≠ some b) →
       b + (((mapGet (s.pol p).ramp d []).map (·.2)).foldl max 0 + 32) / 64 ≤ s.beat →
       ∃ u, exec (.rampEnd p d) s = .next u ∧ mapFind? (u.pol p).running d = none ∧ u.power.lastRampEnd = some s.beat ∧ s.sameBut [.pols, .power] u))

/-- The effective cap is PWR_CAP plus PWR_SHIFT in steps of 5 W, held between 600 W and 1,200 W, and PWR_EFF_CAP shows it after every write of either;
the writes change only the PWR page and the mark that the cap's miss was posted. A tick of the cap control sets the POWER_CAP ceiling by R379's
formula from the level, the cap and the measured power, and counts the energy; CAP_UNMET is posted once, with the ceiling at 6. Each throttle
reason sets its own ceiling, from 6 to 16, and the target level is the lowest of all ceilings: HOST_REQUEST on a write of host_level, VR_WARN at
four below the level, INPUT_LOW at 8 or 6, and each of them 16 again when its cause has ended. The level falls to its target in one step, and
rises one at a time, only between beats 48 and 1,007 of a frame, two beats after the last rise, with no proof ramp running and 16 beats after the
last one. One tick is one row: log entry 76. -/
def Obligations.CeilingsCapAndLevel : Prop :=
  (∀ (s : State) (val : Nat),
     (600 ≤ s.effCap ∧ s.effCap ≤ 1200 ∧ s.effCap % 5 = 0) ∧
     (∃ u, exec (.pwrCapWrite val) s = .next u ∧ u.getF pgPwr 0x100 0 7 0 = val % 2 ^ 8 ∧ u.getF pgPwr 0x108 0 7 0 = u.effCap / 5 ∧ u.shiftW = s.shiftW ∧
       u.power.unmetPosted = false ∧ s.sameBut [.regs, .power] u ∧ (∀ key, keyPage key ≠ pgPwr → mapFind? u.regs key = mapFind? s.regs key)) ∧
     (∃ u, exec (.pwrShiftWrite val) s = .next u ∧ u.getF pgPwr 0x104 0 8 0 = val % 2 ^ 9 ∧ u.getF pgPwr 0x108 0 7 0 = u.effCap / 5 ∧ u.capW = s.capW ∧
       u.power.unmetPosted = false ∧ s.sameBut [.regs, .power] u ∧ (∀ key, keyPage key ≠ pgPwr → mapFind? u.regs key = mapFind? s.regs key))) ∧
  (∀ (s : State),
     (∀ watts, ∃ u, exec (.capControlTick watts) s = .next u ∧ u.target = u.lowCeil ∧
       u.ceilOf 0 0 = capCeil s.level (if 0 ≤ s.shiftW then s.effCap else s.capW) watts (s.getF pgPwr 0x110 0 10 0)) ∧
     (∀ n c p f, 6 ≤ capCeil n c p f ∧ capCeil n c p f ≤ 16 ∧ (f < c → f < p → 6 ≤ n * (c - f) / (p - f) → n * (c - f) / (p - f) ≤ 16 →
       capCeil n c p f * (p - f) ≤ n * (c - f))) ∧
     (s.getF pgPwr 0x108 0 8 8 ≠ 0 → s.effCap < s.getF pgPwr 0x10C 0 15 0 → s.power.unmetPosted = false →
       ∃ u, exec .capUnmet s = .next u ∧ u.ceilOf 0 0 = 6 ∧ u.power.unmetPosted = true ∧ u.getF pgPwr 0x18 0 31 16 = 0x0201) ∧
     (s.power.unmetPosted = true → exec .capUnmet s = .next s)) ∧
  (∀ (s : State),
     (∀ val, ∃ u, exec (.hostLevelWrite val) s = .next u ∧ u.target = u.lowCeil ∧
       u.ceilOf 7 0 = if 6 ≤ val % 32 ∧ val % 32 ≤ 16 then val % 32 else 16) ∧
     (∀ v, v < 7 → ∃ u, exec (.vrWarn v) s = .next u ∧ u.target = u.lowCeil ∧ u.ceilOf 5 v = max 6 (min (s.level - 4) 16)) ∧
     (∀ v, v < 7 → s.getF pgPwr 0x11C v 20 20 ≠ 0 → ∃ u, exec (.vrWarnClear v) s = .next u ∧ u.getF pgPwr 0x11C v 20 20 = 0 ∧
       u.power.vrHold = s.power.vrHold ++ [v] ∧ u.power.ceil = s.power.ceil) ∧
     (∀ v, v < 7 → v ∈ s.power.vrHold → ∃ u, exec (.vrWarnHoldExpiry v) s = .next u ∧ u.target = u.lowCeil ∧ u.ceilOf 5 v = 16 ∧ v ∉ u.power.vrHold) ∧
     (∀ mv, mv < s.getF pgPwr 0x114 0 15 8 * 250 → ∃ u, exec (.inputLow mv) s = .next u ∧
       u.ceilOf 6 0 = (if mv < s.getF pgPwr 0x114 0 23 16 * 250 then 6 else 8) ∧ u.power.lowSeen = true) ∧
     (∃ u, exec .inputLowClear s = .next u ∧ u.target = u.lowCeil ∧ u.ceilOf 6 0 = 16 ∧ u.power.lowSeen = false) ∧
     (∀ d b, d < 4 → mapFind? s.power.excessAt d = some b → b + 64 ≤ s.beat → ∃ u, exec (.currentRampRecover d) s = .next u ∧ u.target = u.lowCeil ∧
       u.ceilOf 1 d = 16 ∧ mapFind? u.power.excessAt d = none)) ∧
  (∀ (s : State),
     (∃ u, exec .levelFall s = .next u ∧ u.level = min s.level s.target ∧ u.target = s.target ∧ u.power = s.power) ∧
     (s.level < s.target → 48 ≤ s.beat % 1024 → s.beat % 1024 ≤ 1007 → s.rampRuns = false → (∀ b, s.power.lastRise = some b → b + 2 ≤ s.beat) →
       (∀ b, s.power.lastRampEnd = some b → b + 16 ≤ s.beat) →
       ∃ u, exec .levelRise s = .next u ∧ u.level = s.level + 1 ∧ u.target = s.target ∧ u.power.lastRise = some s.beat) ∧
     (s.target ≤ s.level ∨ s.beat % 1024 < 48 ∨ 1007 < s.beat % 1024 ∨ s.rampRuns = true → exec .levelRise s = .next s))

/-- A temperature at its limit sets its sensor's ceiling to 6, one that comes to the throttle point lowers it by one at once, and one below it leaves
the ceilings as they are; a failed sensor counts as at its limit, and THERMAL_STEP moves the ceiling by one. One sample is one row: log entry 76. -/
def Obligations.TemperaturesStepTheirCeilings : Prop :=
  ∀ (s : State) (r u c : Nat) (i : Instr),
    (i = .dieTempSample u c ∧ r = 2 ∧ u < 4 ∧ c < 115 ∨ i = .vrTempSample u c ∧ r = 4 ∧ u < 7 ∧ c < 135 ∨ i = .linkTempSample u c ∧ r = 9 ∧ u < 4 ∧ c < 120 ∨
      i = .hbmTempSample u c false ∧ r = 3 ∧ u < 12 ∧ (s.stack u).tripped = false) →
    ceilKey r u ∉ s.power.failed →
    (∃ v, exec i s = .next v ∧
      ((s.thermCfg r u).2 ≤ c → v.ceilOf r u = 6 ∧ v.target = v.lowCeil ∧ ceilKey r u ∈ v.power.hot) ∧
      ((s.thermCfg r u).1 ≤ c → c < (s.thermCfg r u).2 → ceilKey r u ∉ s.power.hot →
        v.ceilOf r u = max 6 (min (s.ceilOf r u - 1) 16) ∧ v.target = v.lowCeil ∧ ceilKey r u ∈ v.power.hot) ∧
      (c < (s.thermCfg r u).1 → c < (s.thermCfg r u).2 → v.power.ceil = s.power.ceil ∧ ceilKey r u ∉ v.power.hot)) ∧
    (∃ v, exec (.sensorFail r u) s = .next v ∧ v.ceilOf r u = 6 ∧ ceilKey r u ∈ v.power.failed) ∧
    (∃ v, exec (.sensorRecover r u) s = .next v ∧ ceilKey r u ∉ v.power.failed ∧ v.power.ceil = s.power.ceil ∧ s.sameBut [.power] v) ∧
    (ceilKey r u ∈ s.power.hot → ∃ v, exec (.thermalStep r u) s = .next v ∧ v.ceilOf r u = max 6 (min (s.ceilOf r u - 1) 16)) ∧
    (ceilKey r u ∉ s.power.hot → s.reading r u + 2 ≤ (s.thermCfg r u).1 → s.ceilOf r u < 16 →
      ∃ v, exec (.thermalStep r u) s = .next v ∧ v.ceilOf r u = max 6 (s.ceilOf r u + 1))

/-- A beat boundary advances the beat by one modulo 2^56 and empties what each bank arbiter counted as used; a frame boundary advances the frame by
one, or sets it to the value that waits for it, once per local frame. A write of GAUGE_LOG_SEL at the record before the head marks every throttle
record up to it as passed; any other only selects. -/
def Obligations.BeatsFramesAndTheLogAdvance : Prop :=
  (∀ (s : State),
     (∀ vr low mean, ∃ u, exec (.beatBoundary vr low mean) s = .next u ∧ u.beat = (s.beat + 1) % 2 ^ 56 ∧ u.frame = s.frame ∧
       (∀ t, (u.tile t).arbs = (s.tile t).arbs.map (fun a => (a.1, { a.2 with used := [] }))) ∧ (∀ t, (u.tile t).task = (s.tile t).task) ∧
       u.scr = s.scr ∧ u.hbm = s.hbm) ∧
     (s.frameAt / 1024 < s.beat / 1024 → ∃ u, exec .frameBoundary s = .next u ∧ u.frame = s.frameLoad.getD ((s.frame + 1) % 2 ^ 48) ∧ u.frameLoad = none ∧
       u.frameAt = s.beat / 1024 * 1024 ∧ u.beat = s.beat ∧ u.tiles = s.tiles) ∧
     (s.beat / 1024 ≤ s.frameAt / 1024 → exec .frameBoundary s = .next s)) ∧
  (∀ (s : State) (idx : Nat), ∃ u, exec (.gaugeLogPass idx) s = .next u ∧ u.getF pgGauge 0x12C 0 7 0 = idx % 2 ^ 8 ∧
     u.power.passed = (if idx % 256 = (s.getF pgGauge 0x128 0 7 0 + 255) % 256 then s.power.logN else s.power.passed) ∧
     u.power.log = s.power.log ∧ u.power.ceil = s.power.ceil ∧ s.sameBut [.regs, .power] u)

/-! Debug and observation (16_debug_and_observation.md). -/

/-- Hold and step act on a tile in handshake mode: hold is set and cleared, and a step releases one command of a held tile; a static tile discards
hold and step and records 0x2050. A polder hold or release that is written at die 0 waits four beats, at another die it does nothing; once due it
reaches every handshake tile of its polder. Step is judged before hold: log entry 107. -/
def Obligations.HoldsAndStepsAct : Prop :=
  (∀ (s : State) (t : Nat), t < 4864 →
     (s.handshake t = true → ∃ u, exec (.dbgHold t) s = .next u ∧ u.getF (pgTile t) 0xE00 0 0 0 = 1 ∧ s.sameBut [.regs] u ∧
       (∀ key, keyPage key ≠ pgTile t → mapFind? u.regs key = mapFind? s.regs key)) ∧
     (s.handshake t = false → ∃ u, exec (.dbgHold t) s = .next u ∧ u.getF (pgTile t) 0xE00 0 0 0 = s.getF (pgTile t) 0xE00 0 0 0 ∧
       u.getF (pgTile t) 0x18 0 31 16 = 0x2050 ∧ s.sameBut [.regs] u) ∧
     (∃ u, exec (.dbgUnhold t) s = .next u ∧ u.getF (pgTile t) 0xE00 0 0 0 = 0 ∧ s.sameBut [.regs] u) ∧
     (s.handshake t = true → s.getF (pgTile t) 0xE00 0 0 0 = 1 → (s.tile t).task = .running →
       ∃ u, exec (.dbgStep t) s = .next u ∧ u.tile t = { s.tile t with dbgStep := true } ∧ s.onlyTile u t) ∧
     (s.handshake t = false → ∃ u, exec (.dbgStep t) s = .next u ∧ u.getF (pgTile t) 0x18 0 31 16 = 0x2050 ∧ s.sameBut [.regs] u)) ∧
  (∀ (s : State) (p : Nat),
     (∃ u, exec (.tracePolderHold 0 p) s = .next u ∧ u = { s with holds := s.holds ++ [(p % 64, true, s.beat + 4)] }) ∧
     (∃ u, exec (.tracePolderRelease 0 p) s = .next u ∧ u = { s with holds := s.holds ++ [(p % 64, false, s.beat + 4)] }) ∧
     (∀ d, 0 < d → d < 4 → exec (.tracePolderHold d p) s = .next s ∧ exec (.tracePolderRelease d p) s = .next s) ∧
     (∀ hold b, s.holds = [(p, hold, b)] → b ≤ s.beat → ∃ u, exec .polderHoldApply s = .next u ∧ u.holds = [] ∧ s.sameBut [.regs, .holds] u ∧
       ∀ t, t ∈ s.tilesOf p → s.handshake t = true → u.getF (pgTile t) 0xE00 0 0 0 = if hold then 1 else 0) ∧
     (∀ hold b, s.holds = [(p, hold, b)] → s.beat < b → exec .polderHoldApply s = .next s))

/-- A read of the trace ring's last data word takes the record at TAIL off the ring, unless the debug port reads it or the ring is empty; a dump notes
how far it goes, and its end sends that many records through the PF. The anchor of die 0 captures the frame and the beat of its start. The debug
port comes UP once it locks and goes DOWN with 0x1703; while it is UP a frame takes up to seven records of one ring, and its sequence number
advances. JTAG: BYPASS shifts out 0 and IDCODE the device's code; SAMPLE_PRELOAD and EXTEST act while MODULE_EN is low, EXTEST driving what was
preloaded, and as BYPASS while it is high. The debug port's round robin and JTAG as BYPASS are the model's: log entries 8 and 114. -/
def Obligations.TraceAnchorAndDebugPort : Prop :=
  (∀ (s : State) (d : Nat), d < 4 →
     (s.tracePort d = false → 0 < (s.ring d).fill → ∃ u, exec (.traceRead d) s = .next u ∧
       u.readData = leNat ((padTo 32 (mapGet (s.ring d).recs (s.ring d).tail [])).drop 28) ∧ (u.ring d).fill = (s.ring d).fill - 1 ∧
       (u.ring d).tail = ((s.ring d).tail + 1) % 524288 ∧ (u.ring d).head = (s.ring d).head ∧ s.sameBut [.regs, .readData, .trace] u) ∧
     (s.tracePort d = true ∨ (s.ring d).fill = 0 → ∃ u, exec (.traceRead d) s = .next u ∧ u.readData = 0 ∧ u.ring d = s.ring d) ∧
     ((s.ring d).dumpTo = none → s.tracePort d = false → ∃ u, exec (.traceDump d) s = .next u ∧ s.sameBut [.trace] u ∧
       u.ring d = { s.ring d with dumpTo := some (s.ring d).seq }) ∧
     (∀ n, (s.ring d).dumpTo ≠ none → s.fnLive 0 = true → n = ((s.ring d).dumpTo.getD 0) - ((s.ring d).seq - (s.ring d).fill) → n ≤ (s.ring d).fill →
       ∃ u, exec (.traceDumpDone d false) s = .next u ∧ (u.ring d).dumpTo = none ∧ (u.ring d).fill = (s.ring d).fill - n ∧
         u.hostOut.length = s.hostOut.length + n ∧ s.sameBut [.regs, .hostOut, .trace] u) ∧
     ((s.ring d).dumpTo ≠ none → ∃ u, exec (.traceDumpDone d true) s = .next u ∧ u.getF (pgTrace d) 0x18 0 31 16 = 0x1702)) ∧
  (∀ (s : State),
     (∃ u, exec (.traceAnchorCapture 0) s = .next u ∧ u.reg (pgTrace 0) 0x198 0 = BitVec.ofNat 64 (s.frame % 2 ^ 48) ∧
       u.reg (pgTrace 0) 0x1A0 0 = BitVec.ofNat 64 (s.frameAt % 2 ^ 56) ∧ s.sameBut [.regs] u) ∧
     (∀ d, 0 < d → d < 4 → exec (.traceAnchorCapture d) s = .next s) ∧
     (∃ u, exec .debugPortLock s = .next u ∧ u.dbgPort = 2 ∧ s.sameBut [.regs] u) ∧
     (s.dbgPort = 2 → ∃ u, exec .debugPortDown s = .next u ∧ u.dbgPort = 0 ∧ u.getF (pgTrace 0) 0x18 0 31 16 = 0x1703) ∧
     (s.dbgPort ≠ 2 → exec .debugPortDown s = .next s ∧ exec .debugPortFrame s = .next s) ∧
     (s.dbgPort = 2 → ∃ u d, exec .debugPortFrame s = .next u ∧ u.module.dbgSeq = (s.module.dbgSeq + 1) % 65536 ∧ u.module.dbgDie = d ∧ d < 4 ∧
       u.module.dbgOut.length = s.module.dbgOut.length + 1 ∧ (s.ring d).fill - 7 ≤ (u.ring d).fill ∧ s.sameBut [.regs, .trace, .module] u)) ∧
  (∀ (s : State) (pins : Nat),
     (∃ u, exec .jtagBypass s = .next u ∧ u = { s with module := { s.module with jtagOut := 0 } }) ∧
     (∃ u, exec .jtagIdcode s = .next u ∧ u.module.jtagOut = Config.jtagIdcode % 2 ^ 32 ∧ s.sameBut [.module] u) ∧
     (s.module.moduleEn = false →
       (∃ u, exec (.jtagSamplePreload pins) s = .next u ∧ u.module.bscan = pins ∧ u.module.driven = s.module.driven ∧ s.sameBut [.module, .freeCtr] u) ∧
       (∃ u, exec (.jtagExtest pins) s = .next u ∧ u.module.driven = some s.module.bscan ∧ u.module.bscan = pins ∧ s.sameBut [.module, .freeCtr] u)) ∧
     (s.module.moduleEn = true → exec (.jtagSamplePreload pins) s = exec .jtagBypass s ∧ exec (.jtagExtest pins) s = exec .jtagBypass s))

/-! Module hardware and boot (15_host_interface.md, 17_module_hardware.md). -/

/-- The input switch of Table 17-8: it comes on with MATE_LAST grounded unless an overcurrent holds it off or an overvoltage lasts, and goes off on
undervoltage, overvoltage, overcurrent and release of MATE_LAST; an overvoltage ends after OVP_RECOVERY. Rails and trips: the rails come on with
the Steward verified, MODULE_EN high and no trip; a trip takes them off and asserts THERMTRIP#, which MODULE_EN low releases; MODULE_EN's fall, a
power-down over PLDM and a lasting undervoltage end power-good. Pins at reset and overvoltage recovery: log entries 5 and 117. -/
def Obligations.InputAndRailsFollowTheirPins : Prop :=
  (∀ (s : State),
     (∃ u, exec .hotswapOn s = .next u ∧ u.module.mateLast = true ∧ s.sameBut [.module] u ∧
       u.module.hotswap = (if s.module.ocpLatched = true ∨ s.module.ovp = true then s.module.hotswap else true)) ∧
     (∃ u, exec .hotswapUvlo s = .next u ∧ u.module.hotswap = false ∧ u.module.ocpLatched = false) ∧
     (s.module.hotswap = true → ∃ u, exec .hotswapOvp s = .next u ∧ u.module.hotswap = false ∧ u.module.ovp = true ∧ u.module.railsOn = false) ∧
     (s.module.hotswap = true → ∃ u, exec .hotswapOcp s = .next u ∧ u.module.hotswap = false ∧ u.module.ocpLatched = true ∧ u.module.railsOn = false) ∧
     (∃ u, exec .mateLastRelease s = .next u ∧ u.module.hotswap = false ∧ u.module.mateLast = false ∧ u.module.ovp = false ∧ u.module.ocpLatched = false) ∧
     (s.module.ovp = true → ∃ u, exec .ovpRecovery s = .next u ∧ u.module.ovp = false ∧ s.sameBut [.module] u ∧
       u.module.hotswap = (s.module.hotswap || (s.module.mateLast && !s.module.ocpLatched)))) ∧
  (∀ (s : State),
     (∃ u, exec .moduleEnRise s = .next u ∧ u.module.moduleEn = true ∧ s.sameBut [.module] u ∧
       u.module.railsOn = (s.module.railsOn || (s.module.stewardOk && !s.module.thermtrip))) ∧
     (∀ k, k < 2 → s.module.hotswap = true → s.module.stewardOk = false → ∃ u, exec (.stewardVerified k) s = .next u ∧ u.module.stewardOk = true ∧
       u.module.slot = k ∧ u.module.railsOn = (s.module.railsOn || (s.module.moduleEn && !s.module.thermtrip)) ∧ s.sameBut [.module] u) ∧
     (∀ r k, k < sensorCount r → s.module.railsOn = true → s.module.thermtrip = false → ∃ u, exec (.thermtrip r k) s = .next u ∧ u.module.thermtrip = true ∧
       u.module.railsOn = false ∧ u.module.pwrGood = false ∧ u.module.tripLog = s.module.tripLog ++ [(r, k)] ∧ u.scr = [] ∧ u.hbm = []) ∧
     (s.module.moduleEn = false → ∃ u, exec .thermtripClear s = .next u ∧ u.module.thermtrip = false ∧ s.sameBut [.module] u) ∧
     (∃ u, exec .moduleEnFall s = .next u ∧ u.module.moduleEn = false ∧ u.module.pwrGood = false ∧ (s.module.railsOn = true → s.module.pwrGood = true → u.scr = []))
     ∧ (s.module.pwrGood = true → (∃ u, exec .pldmPowerDown s = .next u ∧ u.module.pwrGood = false ∧ u.module.railsOn = false ∧ u.scr = [] ∧ u.hbm = []) ∧
       (∃ u, exec .inputUv s = .next u ∧ u.module.pwrGood = false ∧ u.module.railsOn = false ∧ u.scr = [] ∧ u.hbm = [])))

/-- Boot runs through its stages: power-good enters DIE_FW, the die firmware's end MEMORY, which leaves every byte of memory zero and every block
fresh, then LINKS, then READY with the boot time shown; a failure ends in FAILED with its reason. Memory after its stage: log entries 16 and 117. -/
def Obligations.BootRunsThroughItsStages : Prop :=
  ∀ (s : State),
    (s.module.railsOn = true → s.module.pwrGood = false → ∃ u, exec .powerGood s = .next u ∧ u.bootState = 1 ∧ u.module.pwrGood = true ∧
      s.sameBut [.regs, .module] u) ∧
    (∀ f, s.bootState = 1 → ∃ u, exec (.bootDieFwDone f) s = .next u ∧ u.bootState = 2 ∧ u.module.fallback = (s.module.fallback || f) ∧
      s.sameBut [.regs, .module] u) ∧
    (∀ ppr, s.bootState = 2 → ∃ u, exec (.bootMemoryDone ppr) s = .next u ∧ u.bootState = 3 ∧ u.hbm = [] ∧ u.scr = [] ∧ u.clean = [] ∧
      (∀ t, (u.tile t).task = .idle)) ∧
    (∀ ms, s.bootState = 3 → ∃ u, exec (.bootLinksDone ms) s = .next u ∧ u.bootState = 4 ∧ u.getF pgDev 0x104 0 31 0 = ms % 2 ^ 32 ∧ u.module.tripLog = []) ∧
    (∀ reason ms, 0 < s.bootState → s.bootState < 4 → ∃ u, exec (.bootStageTimeout reason ms) s = .next u ∧ u.bootState = 5 ∧
      u.getF pgDev 0x100 0 15 8 = reason % 2 ^ 8 ∧ u.getF pgDev 0x18 0 31 16 = 0x0153)

/-! Slices, atomics, locks and HBM (08_memory_system.md). -/

/-- A load within one line at its home slice returns the bytes that the line's committed store and HBM hold (no SRAM error), and changes no byte that
loads see; a load that the dike refuses returns nothing. A store within one line of a block that is not fresh is seen by every later load: exactly
its bytes change, whatever drains; to a fresh block it waits, unseen, and the block is to be zeroed. HBM stands as its home slice presents it, and
a store to a fresh block waits: log entries 14 and 64. -/
def Obligations.LoadsSeeWhatIsStored : Prop :=
  (∀ (s : State) (p d kind pa da n : Nat), p < 64 → d < 4 → kind < 7 → s.buffersOk →
     (s.reaches p kind 0 pa da n → homeSlice da / 16 = d → ∃ u, exec (.sliceLoad p d kind pa n 0) s = .next u ∧
       u.loadData = (List.range n).map (fun k => s.sees (da + k)) ∧ (∀ a, u.sees a = s.sees a) ∧ u.tiles = s.tiles ∧ u.scr = s.scr) ∧
     (∀ via, s.xlate p pa = .hbm da via → via ≠ 2 → 0 < n → s.sliceDike p kind 0 da ≠ 0 → ∃ u, exec (.sliceLoad p d kind pa n 0) s = .next u ∧ u.loadData = [] ∧
       u.hbm = s.hbm ∧ u.scr = s.scr)) ∧
  (∀ (s : State) (p d kind pa da : Nat) (data : List Byte), p < 64 → d < 4 → kind < 7 → s.buffersOk → s.reaches p kind 1 pa da data.length →
     (s.fresh da = false → ∃ u, exec (.sliceStore p d kind pa data) s = .next u ∧ u.buffersOk ∧
       (∀ a, u.sees a = if da ≤ a ∧ a < da + data.length then data.getD (a - da) 0 else s.sees a) ∧ u.tiles = s.tiles ∧ u.scr = s.scr) ∧
     (s.fresh da = true → ∃ u, exec (.sliceStore p d kind pa data) s = .next u ∧ (∀ a, u.sees a = s.sees a) ∧ da / 2 ^ 21 ∈ u.zeroing ∧
       u.waitSt.length = s.waitSt.length + 1 ∧ u.tiles = s.tiles ∧ u.scr = s.scr))

/-- A mover's store that its slice accepts is held: no load sees it, and it leaves the tile. A drain by age empties the oldest committed store into
its line and changes no byte that loads see. DISCARD frees entries of commands that are gone, unseen. COMMIT of a command whose stores have all
left its path makes every entry it holds a committed store and ends the command; PROV_FULL refuses the first store of a path that finds no room
with 0x1521, and its task faults. The stages of a store are rows: log entries 65 and 135. -/
def Obligations.HeldStoresCommitUnseenUntilThen : Prop :=
  (∀ (s : State) (t path : Nat), t < 4864 → s.buffersOk →
     (∀ (o : OutStore) (da : Nat), (s.tile t).outs.find? (fun o => o.path == path) = some o → s.reaches (s.ownerOr t) 0 1 o.addr da o.bytes.length →
       (∀ via, s.xlate (s.ownerOr t) o.addr = .hbm da via → via ≠ 1) → s.heldRoom (homeSlice da) = true →
       ∃ u, exec (.heldStore t path) s = .next u ∧ (∀ a, u.sees a = s.sees a) ∧ (u.tile t).outs = (s.tile t).outs.erase o ∧
         (∃ g, g ∈ (u.slice (homeSlice da)).held ∧ g.line = da / 128 ∧ g.tile = t ∧ g.path = path ∧ g.ord = o.ord) ∧ (∀ k, k ≠ t → u.tile k = s.tile k)) ∧
     (∀ sl e es, sl < 64 → (s.slice sl).wcb = e :: es → ∃ u, exec (.wcbDrainAge sl) s = .next u ∧ (u.slice sl).wcb = es ∧ (∀ a, u.sees a = s.sees a) ∧
       u.tiles = s.tiles) ∧
     (∃ u, exec (.discard t path) s = .next u ∧ (∀ a, u.sees a = s.sees a) ∧ u.tiles = s.tiles ∧
       (∀ sl g, g ∈ (u.slice sl).held → g.tile = t → g.path = path → ((s.tile t).ofOrd g.ord).isSome = true))) ∧
  (∀ (s : State) (t path : Nat) (i : IssuedCmd) (q : List IssuedCmd), t < 4864 →
     (mapGet (s.tile t).dq path [] = i :: q → i.started = true → i.finished = false → (∀ o, o ∈ (s.tile t).outs → o.ord ≠ i.ord) →
       (∃ sl g, sl < 64 ∧ mapFind? s.slices sl = some (s.slice sl) ∧ g ∈ (s.slice sl).held ∧ g.tile = t ∧ g.path = path ∧ g.ord = i.ord) →
       ∃ u, exec (.commit t path) s = .next u ∧ (∀ k, k ≠ t → u.tile k = s.tile k) ∧
         mapGet (u.tile t).dq path [] = (i :: q).map (fun k => if k.ord = i.ord then { k with finished := true } else k) ∧ u.scr = s.scr ∧
         (∀ g, g ∈ u.bridge.held → ¬(g.tile = t ∧ g.path = path ∧ g.ord = i.ord))) ∧
     (∀ (o : OutStore) (da via : Nat), (s.tile t).outs.find? (fun o => o.path == path) = some o → s.xlate (s.ownerOr t) o.addr = .hbm da via →
       (s.tile t).ofOrd o.ord = some i → s.heldRoom (homeSlice da) = false → (s.tile t).task = .running →
       ∃ u, exec (.provFull t path) s = .next u ∧ (u.tile t).task = .faulted ∧ u.getF (pgSc (homeSlice da)) 0x18 0 31 16 = 0x1521))

/-- An invalidation that is on its way to a die takes that die's near copy of the line away, and no byte that its home slice holds changes. A fill
that returns clean makes its line resident and leaves HBM and every poison as they are; a lasting error poisons the line. A block that has been
zeroed for a waiting store, or by the scrub in ascending order, is no longer fresh. The patrol moves on by one line. Near copies and read
outcomes: log entries 15 and 66. -/
def Obligations.HbmReadsZeroingAndInvalidation : Prop :=
  (∀ (s : State) (d ln : Nat), d < 4 →
     ((d, ln) ∈ s.inval → ∃ u, exec (.nearInvalidate d ln) s = .next u ∧ u.inval = s.inval.erase (d, ln) ∧ s.sameBut [.inval, .slices] u ∧
       (∀ a, u.sees a = s.sees a) ∧ (∀ x, mapFind? (u.slice (nearSlice d (ln * 128))).lines ln = some x → x.kind ≠ .near)) ∧
     ((d, ln) ∉ s.inval → exec (.nearInvalidate d ln) s = .next s)) ∧
  (∀ (s : State),
     (∀ da bad, da < 12 * 0x9_0000_0000 → mapFind? (s.slice (homeSlice da)).lines (da / 128) = none → s.fresh da = false →
       (∃ u, exec (.hbmReadReturn da 0 bad) s = .next u ∧ mapFind? (u.slice (homeSlice da)).lines (da / 128) = some { kind := .home } ∧ u.hbm = s.hbm ∧
         u.poison = s.poison ∧ u.tiles = s.tiles) ∧
       (∃ u, exec (.hbmReadReturn da 3 bad) s = .next u ∧ da / 128 ∈ u.poison ∧ u.hbm = s.hbm)) ∧
     (∀ blk, blk < 221184 → blk ∈ s.zeroing → blk ∉ s.clean → ∃ u, exec (.freshZeroDone blk) s = .next u ∧ u.clean = blk :: s.clean ∧ blk ∉ u.zeroing ∧
       (∀ w, w ∈ u.waitSt → w.line * 128 / 2 ^ 21 ≠ blk)) ∧
     (∀ k blk, k < 12 → blk < 18432 → k * 18432 + blk ∉ s.clean → (∀ b, b < blk → k * 18432 + b ∈ s.clean) →
       ∃ u, exec (.scrubZeroBlock k) s = .next u ∧ u.clean = (k * 18432 + blk) :: s.clean ∧ u.tiles = s.tiles) ∧
     (∀ k outcome bad, k < 12 → s.getF (pgHbmc k) 0x128 0 7 0 ≠ 0 → ∃ u, exec (.patrolRead k outcome bad) s = .next u ∧
       (u.stack k).patrol = ((s.stack k).patrol + 1) % 0x1200_0000 ∧ u.hbm = s.hbm) ∧
     (∀ k outcome bad, k < 12 → s.getF (pgHbmc k) 0x128 0 7 0 = 0 → exec (.patrolRead k outcome bad) s = .next s))

/-- An atomic at its home slice returns the old value and stores the new one: exactly its operand's bytes change for loads. The integer atomics of
Table 8-4 at 32 bits: ADD wraps, MIN and MAX compare signed, CAS stores where the old value is the expected one, SWAP always, and FINC adds one at
each operand width. LOCK_OP hands the lock table of the line's home slice and the status word of Table 8-6 to the command: a free address is
acquired while an entry is free, the owner's release frees it, another's attempt leaves the table; LOCK_FREE frees a BROKEN entry only. -/
def Obligations.AtomicsAndLocks : Prop :=
  (∀ (s : State) (t sz da pa : Nat) (i : IssuedCmd), t < 4864 → s.buffersOk → s.atomFront t = some (i, sz, .ok da, pa) → cOp i.word.toNat < 6 →
     da % 128 + sz ≤ 128 → s.sliceDike (s.ownerOr t) 0 2 da = 0 → s.serves (pgSc (homeSlice da)) = true → (s.slice (homeSlice da)).stopped = false →
     s.fresh da = false → da / 128 ∉ s.poison →
     (let old := leNat ((List.range sz).map (fun k => s.sees (da + k)))
      let new := atomFn (cOp i.word.toNat) (cf i.word.toNat 1 21 20) old (i.s (cf i.word.toNat 1 9 5) % 2 ^ (8 * sz)) (i.s (cf i.word.toNat 1 14 10) % 2 ^ (8 * sz))
      ∃ u, exec (.sliceAtomic t) s = .next u ∧ (∀ a, u.sees a = if da ≤ a ∧ a < da + sz then (natLE sz new).getD (a - da) 0 else s.sees a) ∧
        (∀ k, k ≠ t → u.tile k = s.tile k) ∧ (u.tile t).sregs = (s.tile t).sregs ∧
        ∀ k, k ∈ mapGet (u.tile t).dq 8 [] → k.ord = i.ord → k.finished = true ∧ k.data = natLE 8 old)) ∧
  (∀ (a b c : BitVec 32) (w : BitVec 64),
     atomFn 0 0 a.toNat b.toNat c.toNat = (a + b).toNat ∧ atomFn 1 0 a.toNat b.toNat c.toNat = (if b.slt a then b else a).toNat ∧
     atomFn 2 0 a.toNat b.toNat c.toNat = (if a.slt b then b else a).toNat ∧ atomFn 3 0 a.toNat b.toNat c.toNat = (if a = c then b else a).toNat ∧
     atomFn 4 0 a.toNat b.toNat c.toNat = b.toNat ∧ atomFn 5 0 a.toNat b.toNat c.toNat = (a + 1).toNat ∧ atomFn 5 3 w.toNat 0 0 = (w + 1).toNat) ∧
  ((∀ (s : State) (t sz da pa : Nat) (i : IssuedCmd), t < 4864 → s.atomFront t = some (i, sz, .ok da, pa) → 6 ≤ cOp i.word.toNat →
     s.sliceDike (s.ownerOr t) 0 2 da = 0 → s.serves (pgSc (homeSlice da)) = true → (s.slice (homeSlice da)).stopped = false →
     ∃ u, exec (.lockOp t) s = .next u ∧ s.sameBut [.slices, .tiles] u ∧ (∀ k, k ≠ t → u.tile k = s.tile k) ∧
       (u.slice (homeSlice da)).locks = (lockFn (cOp i.word.toNat == 6) (s.slice (homeSlice da)).locks da (s.tile t).ctx (s.srcId t)).2 ∧
       ∀ k, k ∈ mapGet (u.tile t).dq 8 [] → k.ord = i.ord → k.finished = true ∧
         k.data = natLE 8 (lockFn (cOp i.word.toNat == 6) (s.slice (homeSlice da)).locks da (s.tile t).ctx (s.srcId t)).1) ∧
   (∀ (m : SMap LockEntry) (da ctx tile : Nat),
     (m.find? (fun e => e.2.da == da) = none → (∃ k, k < 256 ∧ mapFind? m k = none) →
       ∃ k, mapFind? (lockFn true m da ctx tile).2 k = some { da := da, ctx := ctx, tile := tile } ∧ (lockFn true m da ctx tile).1 % 16 = 0) ∧
     (∀ k l, m.find? (fun e => e.2.da == da) = some (k, l) → l.broken = false → ¬(l.ctx = ctx ∧ l.tile = tile) →
       (lockFn true m da ctx tile).2 = m ∧ (lockFn false m da ctx tile).2 = m) ∧
     (∀ k l, m.find? (fun e => e.2.da == da) = some (k, l) → l.broken = false → l.ctx = ctx ∧ l.tile = tile →
       (lockFn true m da ctx tile).2 = m ∧ mapFind? (lockFn false m da ctx tile).2 k = none)) ∧
   (∀ (s : State) (sl : Nat) (l : LockEntry), sl < 64 → mapFind? (s.slice sl).locks (s.getF (pgSc sl) 0x110 0 7 0) = some l →
     ∃ u, exec (.lockFree sl) s = .next u ∧ s.sameBut [.slices] u ∧
       mapFind? (u.slice sl).locks (s.getF (pgSc sl) 0x110 0 7 0) = if l.broken then none else some l))

/-- Device addresses and their places in a stack correspond one to one at every line of the twelve stacks. Log entry 70. -/
def Obligations.PlacementIsOneToOne : Prop :=
  (∀ da, da < 12 * 0x9_0000_0000 → daStack da < 12 ∧ (daPlace da).1 < 32 ∧ (daPlace da).2.1 < 2 ∧ (daPlace da).2.2.1 < 64 ∧ (daPlace da).2.2.2.1 < 9216 ∧
    (daPlace da).2.2.2.2 < 8 ∧
    placeDa (daStack da) (daPlace da).1 (daPlace da).2.1 (daPlace da).2.2.1 (daPlace da).2.2.2.1 (daPlace da).2.2.2.2 = da / 128 * 128) ∧
  (∀ k ch pc bank row col, k < 12 → ch < 32 → pc < 2 → bank < 64 → row < 9216 → col < 8 →
    daStack (placeDa k ch pc bank row col) = k ∧ daPlace (placeDa k ch pc bank row col) = (ch, pc, bank, row, col))

/-! Exchange, spill queues and snapshots (07_exchange_and_time.md, 09_spill_queues.md, 14_reliability_and_recovery.md). -/

/-- At its slot a sending tile in static mode reads the next loaf of its SEND from its scratchpad and puts it into the fabric, numbered in its stream;
a slot that comes late, or with no SEND issued, is an exchange fault that stops the polder. A loaf that arrives for an issued RECV leaves the
fabric and is written at the RECV's next position, exactly its 512 bytes; one that meets a clear or a stopped polder is discarded; a static one
that meets no RECV, or a tile that runs no task, is an exchange fault. A crossing slot takes the oldest loaf that waits at its column's gateway
over the link, or strands it where the link is not up; a static loaf that is late at its landing buffer is an exchange fault of the receiver and
stops the polder. In handshake mode a receiving port with room grants its stream one loaf of credit. The index of a loaf and what a fault does to
a tile that does not run are the model's: log entries 24, 25 and 120. -/
def Obligations.ExchangeMovesLoaves : Prop :=
  (∀ (s : State) (t st : Nat) (str : Stream), t < 4864 → s.stream (s.ownerOr t) st = some str → (s.tile t).task = .running → s.handshake t = false →
     s.tileOf (s.ownerOr t) str.src = some t → (s.pol (s.ownerOr t)).stopped = false →
     (∀ (i : IssuedCmd) (dst a : Nat) (c : CmdAt), (s.tile t).exchCmd 0 st = some i → s.tileOf (s.ownerOr t) str.dst = some dst →
       (s.tile t).exchAt i = ((a : Int), c) →
       ((s.tile t).accessCode [] 0 a 512 512 0 false = 0 → (s.tile t).orderBad a false = false → s.clear t a 512 →
         ∃ u l, exec (.exchSlot t st false []) s = .next u ∧ u.flight = s.flight ++ [l] ∧ l.bytes = memRead s.scr (scrKey t a) 512 ∧ l.stream = st ∧
           l.idx = mapGet (s.tile t).xp.sent st 0 % str.loaves ∧ l.src = t ∧ l.dst = dst ∧ l.dead = false ∧
           mapGet (u.tile t).xp.sent st 0 = mapGet (s.tile t).xp.sent st 0 + 1 ∧ (∀ k, k ≠ t → u.tile k = s.tile k) ∧ u.scr = s.scr ∧ u.hbm = s.hbm) ∧
       ((s.tile t).accessCode [] 0 a 512 512 0 false = 0 → ∃ u, exec (.exchSlot t st true []) s = .next u ∧ (u.tile t).task = .faulted ∧
         (u.pol (s.ownerOr t)).stopped = true)) ∧
     ((s.tile t).exchCmd 0 st = none → ∃ u, exec (.exchSlot t st false []) s = .next u ∧ (u.tile t).task = .faulted ∧ (u.pol (s.ownerOr t)).stopped = true)) ∧
  (∀ (s : State) (t st idx : Nat) (l : XLoaf), t < 4864 → Memory.wf s.scr = true → s.loafFor t st idx [3] = some l → l.stream = st →
     (∀ (i : IssuedCmd) (a : Nat) (c : CmdAt), (s.tile t).task = .running → l.dead = false → (s.pol l.pol).stopped = false → l.handshake = s.handshake t →
       (s.tile t).exchCmd 1 st = some i → (s.tile t).exchAt i = ((a : Int), c) → (s.tile t).accessCode [] 0 a 512 512 1 false = 0 →
       (s.tile t).orderBad a true = false → l.bytes.length = 512 →
       ∃ u, exec (.exchLoafArrival t st idx) s = .next u ∧ u.flight = s.flight.erase l ∧ mapGet (u.tile t).xp.rcvd st 0 = mapGet (s.tile t).xp.rcvd st 0 + 1 ∧
         (∀ k, k ≠ t → u.tile k = s.tile k) ∧ u.hbm = s.hbm ∧
         ∀ b, memGet u.scr b = if scrKey t a ≤ b ∧ b < scrKey t a + 512 then l.bytes.getD (b - scrKey t a) 0 else memGet s.scr b) ∧
     ((s.tile t).task = .clearing ∨ l.dead = true ∨ (s.pol l.pol).stopped = true → ∃ u, exec (.exchLoafArrival t st idx) s = .next u ∧
       u.flight = s.flight.erase l ∧ s.sameBut [.regs, .flight] u) ∧
     ((s.tile t).task = .running → l.dead = false → (s.pol l.pol).stopped = false → l.handshake = false → s.handshake t = false →
       (s.tile t).exchCmd 1 st = none → s.ownerOr t = l.pol → ∃ u, exec (.exchLoafArrival t st idx) s = .next u ∧ (u.tile t).task = .faulted ∧
         (u.pol l.pol).stopped = true)) ∧
  (∀ (s : State),
     (∀ die col retry l, die < 4 → col < 36 → s.flight.find? (fun l => l.stage == 1 && tDie l.src == die && s.logCol die (tCol l.src) == col) = some l →
       ∃ u, exec (.crossingSlot die col retry) s = .next u ∧ s.sameBut [.regs, .flight] u ∧
         u.flight = s.flight.map (fun m => if m = l then { m with stage := if s.d2dUp (d2dTo die (tDie l.dst)) then 3 else 2 } else m)) ∧
     (∀ t st idx l, t < 4864 → s.loafFor t st idx [1, 2] = some l → l.handshake = false → l.dead = false → (s.pol l.pol).stopped = false →
       s.ownerOr t = l.pol → (s.tile t).task = .running → ∃ u, exec (.xpCrossLate t st idx) s = .next u ∧ (u.tile t).task = .faulted ∧
         (u.pol l.pol).stopped = true ∧ u.flight.length + 1 = s.flight.length) ∧
     (∀ t st str, t < 4864 → s.stream (s.ownerOr t) st = some str → s.tileOf (s.ownerOr t) str.dst = some t → (s.pol (s.ownerOr t)).stopped = false →
       s.handshake t = true → (s.tile t).task = .running → s.creditOut t < 4 →
       mapGet (s.tile t).xp.credits st 0 + (s.flight.filter (fun l => l.dst == t && l.handshake && !l.dead && l.stream == st)).length <
         ((mapGet (s.tile t).dq 4 []).filter (fun i => cOp i.word.toNat == 1 && cf i.word.toNat 1 11 0 == st)).foldl (fun n i => n + (i.count - i.done)) 0 →
       (∀ v, s.tileOf (s.ownerOr t) str.src = some v → v ≠ t ∧ (s.tile v).exchCmd 0 st = none) →
       ∃ u, exec (.handshakeCredit t st []) s = .next u ∧ s.onlyTile u t ∧
         mapGet (u.tile t).xp.credits st 0 = mapGet (s.tile t).xp.credits st 0 + 1))

/-- A loaf that reaches its queue's tail stands behind every other loaf of the queue, in order; a refill from the middle and a granted segment move
loaves forward and change neither their order nor their contents; a lasting error of the middle puts the queue in error; a flush empties the queue
under the next generation, or is refused with 0x1647 while it is busy; an exhausted pool faults the producer with 0x1645. Log entry 119. -/
def Obligations.SpillQueuesKeepTheirOrder : Prop :=
  ∀ (s : State),
    (∀ t a rest, t < 4864 → (s.tile t).sqOut = a :: rest → a.gen = (s.sq a.q).gen → a.kind = 1 → (s.sq a.q).tail.length < 8 →
      ∃ u, exec (.sqTailArrival t) s = .next u ∧ (u.sq a.q).all = (s.sq a.q).all ++ [{ hdr := false, bytes := padTo 512 a.bytes }] ∧
        (u.tile t).sqOut = rest ∧ (∀ q, q ≠ a.q → u.sq q = s.sq q) ∧ (∀ k, k ≠ t → u.tile k = s.tile k) ∧ s.sameBut [.regs, .tiles, .sqs] u) ∧
    (∀ t a rest, t < 4864 → (s.tile t).sqOut = a :: rest → a.kind = 1 → a.gen = (s.sq a.q).gen → 8 ≤ (s.sq a.q).tail.length →
      exec (.sqTailArrival t) s = .next s) ∧
    (∀ q, q < 256 → (s.sq q).mid ≠ [] → (∃ u, exec (.sqMiddleRefill q false) s = .next u ∧ (u.sq q).all = (s.sq q).all ∧
        (s.sq q).head.length ≤ (u.sq q).head.length ∧ (∀ k, k ≠ q → u.sq k = s.sq k) ∧ s.sameBut [.regs, .sqs] u) ∧
      (∃ u, exec (.sqMiddleRefill q true) s = .next u ∧ (u.sq q).error = true ∧ s.sameBut [.regs, .sqs] u)) ∧
    (∀ q, q < 256 → (s.sq q).asked = true → s.segAvail q = true → ∃ u, exec (.sqSegmentRequest q) s = .next u ∧ (u.sq q).all = (s.sq q).all ∧
      (u.sq q).segs.length = (s.sq q).segs.length + 1 ∧ s.sameBut [.regs, .sqs] u) ∧
    (∀ q, q < 256 → s.flushBusy q = false → s.endRuns (s.sq q).prod = false → s.endRuns (s.sq q).cons = false →
      ∃ u, exec (.sqFlush q) s = .next u ∧ u.sq q = { gen := ((s.sq q).gen + 1) % 64 } ∧ s.sameBut [.sqs] u) ∧
    (∀ q, q < 256 → s.flushBusy q = true → ∃ u, exec (.sqFlush q) s = .next u ∧ u.sqs = s.sqs ∧ u.getF (pgSq (q / 16)) 0x18 0 31 16 = 0x1647) ∧
    (∀ q p src t a rest i, q < 256 → (s.sq q).asked = true → s.segAvail q = false → s.owner 4 q = some p → (s.sq q).prod = some src →
      s.tileOfSrc src = some t → (s.tile t).sqOut = a :: rest → a.q = q → a.kind ≠ 2 → a.gen = (s.sq q).gen → 8 ≤ (s.sq q).tail.length →
      (s.tile t).ofOrd a.ord = some i → (s.tile t).task = .running →
      ∃ u, exec (.poolEmpty q) s = .next u ∧ (u.tile t).task = .faulted ∧ u.getF (pgSq (q / 16)) 0x18 0 31 16 = 0x1645)

/-- A snapshot copy whose reads and writes all pass counts its tile as completed in the step window, and its SNAP leaves the engine. -/
def Obligations.SnapshotCopiesComplete : Prop :=
  ∀ (s : State) (t : Nat) (i : IssuedCmd) (im : Image), t < 4864 → mapGet (s.tile t).dq 9 [] = [i] → (s.pol (s.ownerOr t)).image = some im →
    s.upsets = [] → (mapGet (s.pol (s.ownerOr t)).snaps (tDie t) {}).opened = true → s.storesLeft t i.ord = false →
    (s.tile t).stopReq = false → (s.tile t).haltIssued = false →
    s.storable (s.ownerOr t) 2 (s.snapSlot (tDie t) (s.ownerOr t) (s.snapOpen (tDie t) (s.ownerOr t)) + s.snapPlace (s.ownerOr t) im (tDie t)
      (s.ptileOf (s.ownerOr t) t)) (512 * (1 + (im.setOf (s.ptileOf (s.ownerOr t) t) (cf i.word.toNat 1 7 0)).foldl (fun n e => n + e.len) 0)) →
    ∃ u, exec (.snapCopyComplete t) s = .next u ∧ t ∈ (mapGet (u.pol (s.ownerOr t)).snaps (tDie t) {}).completed ∧
      mapGet (u.tile t).dq 9 [] = [] ∧ (u.tile t).task = (s.tile t).task ∧ u.scr = s.scr ∧ (∀ k, k ≠ t → u.tile k = s.tile k)

/-! The kneader (11_kneader.md). -/

/-- A posted descriptor that its image declares and whose form is right is installed with the counts it had; one that is not declared, malformed or in
progress is refused with 0x1241, 0x1240 or 0x1242 in the result field and in PG_ERR, and changes no descriptor. A KFLAG adds its count to its
descriptor's ready count and leaves its tile's queue; a global barrier whose count is reached and whose slice is one device takes its ready count
off, starts the instance after the completed ones and is complete at once. Log entry 97. -/
def Obligations.KneaderPostsAndKflags : Prop :=
  (∀ (s : State) (fn d slot p desc : Nat) (im : Image) (k : KDecl), fn < 64 → d < 4 → s.slotThrough fn d (s.getF (pgKnd d) 0x110 0 5 0) = some slot →
     desc = s.getF (pgKnd d) 0x110 0 15 8 → s.slotPol d slot = some p → (s.pol p).image = some im →
     im.kneads.find? (fun k => k.kslot == s.rankOf 3 p (d * 16 + slot) && k.desc == desc) = some k →
     (declMatch k (postDesc (s.staged64 d)) = true → s.postForm p (s.staged64 d) (postDesc (s.staged64 d)) = true →
       (∀ i, s.kinst d (slot * 256 + desc) = some i → i.active = false) → (s.kdesc d slot desc).ready < (postDesc (s.staged64 d)).readyCount →
       ∃ u, exec (.kndPost fn d) s = .next u ∧ u.kdesc d slot desc =
           { postDesc (s.staged64 d) with ready := (s.kdesc d slot desc).ready, done := (s.kdesc d slot desc).done } ∧
         (∀ sl de, de < 256 → (sl, de) ≠ (slot, desc) → u.kdesc d sl de = s.kdesc d sl de) ∧ u.getF (pgKnd d) 0x164 0 31 16 = 0 ∧
         s.sameBut [.regs, .kneaders] u) ∧
     (∀ code, code = (if declMatch k (postDesc (s.staged64 d)) = false then 0x1241
         else if s.postForm p (s.staged64 d) (postDesc (s.staged64 d)) = false then 0x1240 else 0x1242) →
       (code = 0x1242 → ∃ i, s.kinst d (slot * 256 + desc) = some i ∧ i.active = true) →
       ∃ u, exec (.kndPost fn d) s = .next u ∧ u.getF (pgKnd d) 0x164 0 31 16 = code ∧ u.getF (pgKnd d) 0x18 0 31 16 = code ∧ s.sameBut [.regs] u)) ∧
  (∀ (s : State) (t d slot desc p : Nat) (i : IssuedCmd) (rest : List IssuedCmd) (x : KDesc), t < 4864 → mapGet (s.tile t).dq 5 [] = i :: rest →
     (∀ j, j ∈ rest → j.ord ≠ i.ord) → s.kOf t i.word.toNat = some (d, slot, desc) → x = s.kdesc d slot desc → s.slotPol d slot = some p →
     x.ready + i.count < 2 ^ 32 →
     (x.ready + i.count < x.readyCount → ∃ u, exec (.kflagAccept t) s = .next u ∧ u.kdesc d slot desc = { x with ready := x.ready + i.count } ∧
       u.kinst d (slot * 256 + desc) = s.kinst d (slot * 256 + desc) ∧ (mapGet (u.tile t).dq 5 []).length = rest.length ∧
       (∀ k, k ≠ t → u.tile k = s.tile k)) ∧
     (x.valid = true → x.kind = 6 → 1 ≤ x.readyCount → x.readyCount ≤ x.ready + i.count → s.kdims p x = [] → s.quiesced d p = false →
       (s.pol p).stopped = false → (∀ j, s.kinst d (slot * 256 + desc) = some j → j.active = false) →
       ∃ u, exec (.kflagAccept t) s = .next u ∧ u.kdesc d slot desc = { x with ready := x.ready + i.count - x.readyCount } ∧
         u.kinst d (slot * 256 + desc) = some { desc := desc, num := (x.done + 1) % 2 ^ 32, state := 2, doneAt := some s.beat }))

/-- READY, ARRIVE, DONE and ABORT messages: one that names no slot of this die is a stray, dropped and counted; one of an instance that is over is
dropped; READY lets the instance's ring in its dimension send; ARRIVE and DONE join their wave, each once; ABORT ends the instance and stops its
polder. A DATA flit that names no slot of this die is a stray; one of no running instance is dropped; one of the step in progress joins what that
step has got, while more are still to come. Strays and messages beyond the next instance: log entry 127. -/
def Obligations.KneaderMessagesAndFlitsAct : Prop :=
  (∀ (s : State) (d ty at_ port : Nat) (c : Instr) (m : KMsg) (rest : List (Nat × Nat × KMsg)), d < 4 →
     (ty, c) ∈ [(1, Instr.kndReady d), (2, Instr.kndArrive d), (3, Instr.kndDone d), (4, Instr.kndAbortMsg d)] →
     ((∀ e, e ∈ (s.knd d).inMsgs → e.2.2.type ≠ ty) → exec c s = .next s) ∧
     ((s.knd d).inMsgs = (port, at_, m) :: rest → m.type = ty →
       (s.slotFor d m.ftid m.kslot = none → ∃ u, exec c s = .next u ∧ (u.knd d).inMsgs = rest ∧ (u.knd d).insts = (s.knd d).insts ∧
         u.getF (pgKnd d) 0x1A4 0 31 0 = min (s.getF (pgKnd d) 0x1A4 0 31 0 + 1) (2 ^ 32 - 1) ∧
         s.sameBut [.regs, .kneaders, .trace, .freeCtr, .intakes, .pols, .hostOut, .recSeq] u) ∧
       (∀ p slot i, s.slotFor d m.ftid m.kslot = some (p, slot) → s.passes p (s.kdesc d slot m.desc) m port = false →
         (s.msgFate d (slot * 256 + m.desc) m.inst = 2 → ∃ u, exec c s = .next u ∧ (u.knd d).inMsgs = rest ∧ (u.knd d).insts = (s.knd d).insts ∧
           s.sameBut [.kneaders] u) ∧
         (s.kinst d (slot * 256 + m.desc) = some i → i.active = true → m.inst = i.num → m.desc < 256 → s.slotPol d slot = some p →
           ((ty = 2 ∨ ty = 3) → i.wave = 0 → (ty, m.phase, m.origin) ∉ i.seen →
             m.origin = (s.kpos p (s.kdesc d slot m.desc) m.phase + 1) % s.kgroup p (s.kdesc d slot m.desc) m.phase →
             ∃ u, exec c s = .next u ∧ (u.knd d).inMsgs = rest ∧ s.sameBut [.kneaders] u ∧ u.kinst d (slot * 256 + m.desc) =
               some { i with seen := i.seen ++ [(ty, m.phase, m.origin)], lagR := if ty = 2 then i.lagR ++ [at_] else i.lagR }) ∧
           (∀ dim, ty = 1 → i.half = 0 → i.state ≤ 2 → (s.kdims p (s.kdesc d slot m.desc))[i.dim]? = some dim → dim ∈ i.readySent →
             i.step < s.kgroup p (s.kdesc d slot m.desc) dim - 1 → i.sent = true →
             i.got.length < ((s.stepIn p (s.kdesc d slot m.desc) i dim).map (partLen (s.kdesc d slot m.desc).fmt)).foldl (· + ·) 0 →
             ∃ u, exec c s = .next u ∧ (u.knd d).inMsgs = rest ∧ s.sameBut [.kneaders] u ∧ u.kinst d (slot * 256 + m.desc) =
               some { i with state := 2, readySeen := if i.readySeen.contains m.phase then i.readySeen else i.readySeen ++ [m.phase] }) ∧
           (ty = 4 → i.state ≠ 4 → ∃ u, exec c s = .next u ∧ (u.pol p).stopped = true ∧
             u.kinst d (slot * 256 + m.desc) = some { desc := m.desc, num := i.num, state := 5 }))))) ∧
  (∀ (s : State) (d : Nat) (f : Flit) (rest : List Flit), d < 4 → (s.knd d).inFlits = f :: rest →
     (s.slotFor d f.ftid (bitsOf f.kword 5 0) = none → ∃ u, exec (.kndDataFlit d) s = .next u ∧ (u.knd d).inFlits = rest ∧
       (u.knd d).insts = (s.knd d).insts ∧ u.getF (pgKnd d) 0x1A4 0 31 0 = min (s.getF (pgKnd d) 0x1A4 0 31 0 + 1) (2 ^ 32 - 1)) ∧
     (∀ p slot desc, s.slotFor d f.ftid (bitsOf f.kword 5 0) = some (p, slot) → desc = bitsOf f.kword 13 6 →
       (s.flitFate d p slot f = 2 → ∃ u, exec (.kndDataFlit d) s = .next u ∧ (u.knd d).inFlits = rest ∧ (u.knd d).insts = (s.knd d).insts ∧
         s.sameBut [.kneaders] u) ∧
       (∀ i dim, s.slotPol d slot = some p → s.kinst d (slot * 256 + desc) = some i → i.half = 0 → 1 ≤ i.state → i.state ≤ 2 →
         (s.kdims p (s.kdesc d slot desc))[i.dim]? = some dim → bitsOf f.kword 15 14 = dim → bitsOf f.kword 16 16 = 0 → bitsOf f.kword 21 17 = i.step →
         dim ∈ i.readySent → i.step < s.kgroup p (s.kdesc d slot desc) dim - 1 → i.sent = true →
         i.got.length + 1 < ((s.stepIn p (s.kdesc d slot desc) i dim).map (partLen (s.kdesc d slot desc).fmt)).foldl (· + ·) 0 →
         ∃ u, exec (.kndDataFlit d) s = .next u ∧ (u.knd d).inFlits = rest ∧ s.sameBut [.kneaders] u ∧
           u.kinst d (slot * 256 + desc) = some { i with state := 2, got := i.got ++ [(bitOf f.kword 22, f.payload)] })))

/-- A result that is written to its shadow region lets a group of one device commit at once; a commit that reads the region and writes its member
tiles counts one completion, ends the instance and writes no scratchpad byte outside the destination loaves. An abort through KND_CTRL ends every
uncommitted instance of the polder on the die and stops the polder. A quiesce holds for its frames, one at a time, and is over once no instance of
its polder is in progress. An instance past its deadline is recorded once, or aborts with its polder where the slot says so. The size of the
shadow region and frames of a quiesce: log entries 33 and 128. -/
def Obligations.KneaderCommitsAndAborts : Prop :=
  (∀ (s : State) (d slot key p : Nat) (x : KDesc) (i : KInst), d < 4 → x = s.kdesc d slot (key % 256) → s.slotPol d slot = some p →
     s.kinst d key = some i →
     (s.firstInst d slot (fun x i => i.state == 2 && i.half == 4 && !x.barrier) = some key → s.kdims p x = [] →
       s.storable p 1 x.shadow (resultBytes x i.buf).length → ∃ u, exec (.kndShadowComplete d slot) s = .next u ∧
         u.kinst d key = some { i with state := 4, buf := [], wave := 0, waveDim := 0 } ∧ (∀ k, u.tile k = s.tile k) ∧ u.scr = s.scr) ∧
     (s.firstInst d slot (fun _ i => i.state == 4) = some key → x.ready < x.readyCount →
       (∀ a, x.shadow ≤ a → a < x.shadow + x.shadowLen → ∃ da via, s.xlate p a = .hbm da via ∧ via ≠ 2 ∧ s.sliceDike p 1 0 da = 0 ∧
         s.serves (pgSc (homeSlice da)) = true ∧ (s.slice (homeSlice da)).stopped = false ∧ da / 128 ∉ s.poison) →
       (∀ pt t loaf, pt ∈ x.members' → s.tileOf p pt = some t → x.dstLo ≤ loaf → loaf < x.dstLo + x.dstLen → (s.tile t).task ≠ .clearing ∧
         (s.tile t).orderBad (loaf * 512 : Nat) true = false) →
       ∃ u, exec (.kndCommitComplete d slot) s = .next u ∧ (u.kdesc d slot (key % 256)).done = (x.done + 1) % 2 ^ 32 ∧
         u.kinst d key = some { desc := i.desc, num := i.num, state := 0 } ∧ u.reg (pgKnd d) 0x178 0 = s.reg (pgKnd d) 0x178 0 + 1 ∧
         ∀ a, (∀ pt t, pt ∈ x.members' → s.tileOf p pt = some t → ¬(scrKey t (x.dstLo * 512) ≤ a ∧ a < scrKey t ((x.dstLo + x.dstLen) * 512))) →
           memGet u.scr a = memGet s.scr a)) ∧
  (∀ (s : State) (d p : Nat), d < 4 →
     (∃ u, exec (.kndAbort d p) s = .next u ∧ ∀ key i, s.kinst d key = some i → i.active = true → i.state ≠ 4 → s.slotPol d (key / 256) = some p →
       u.kinst d key = some { desc := key % 256, num := i.num, state := 5 } ∧ (u.pol p).stopped = true) ∧
     (∀ frames, (s.knd d).quiesce = none → frames % 256 ≠ 0 → ∃ u, exec (.kndQuiesce d p frames) s = .next u ∧
       u.knd d = { s.knd d with quiesce := some (p % 64, frames % 256) } ∧ s.sameBut [.kneaders] u) ∧
     (∀ frames, (s.knd d).quiesce ≠ none → exec (.kndQuiesce d p frames) s = .next s) ∧
     (∀ n, (s.knd d).quiesce = some (p, n + 1) → exec (.quiesceExpiry d) s = .next s) ∧
     ((s.knd d).quiesce = some (p, 0) → (∀ key i, (key, i) ∈ (s.knd d).insts → s.slotPol d (key / 256) = some p → i.active = false) →
       (∀ key x, (key, x) ∈ (s.knd d).descs → x.ready < x.readyCount) →
       ∃ u, exec (.quiesceExpiry d) s = .next u ∧ u.knd d = { s.knd d with quiesce := none } ∧ s.sameBut [.kneaders] u) ∧
     (∀ slot key i, s.slotPol d slot = some p → s.kinst d key = some i → s.firstInst d slot (fun _ i => i.active && i.state != 4 && i.doneAt.isNone &&
         !i.late && decide (s.getF (pgKnd d) 0x108 slot 15 0 ≠ 0) && decide (s.getF (pgKnd d) 0x108 slot 15 0 ≤ i.frames)) = some key →
       (s.getF (pgKnd d) 0x108 slot 16 16 = 0 → ∃ u, exec (.kndDeadline d slot) s = .next u ∧ u.kinst d key = some { i with late := true } ∧
         u.getF (pgKnd d) 0x19C 0 31 16 = 0x1247 ∧ u.getF (pgKnd d) 0x18 0 31 16 = 0x1247 ∧ (u.pol p).stopped = (s.pol p).stopped) ∧
       (s.getF (pgKnd d) 0x108 slot 16 16 = 1 → ∃ u, exec (.kndDeadline d slot) s = .next u ∧ (u.pol p).stopped = true ∧
         u.kinst d key = some { desc := key % 256, num := i.num, state := 5 })))

/-- A tile that arrives at a frame barrier whose instance runs is counted once; the last one completes the local part at this beat. At its release
beat the barrier lets every arrived tile go on with that beat as its reference and counts a completion; before it, or while a gate holds its step
barrier, nothing happens. A global barrier complete at beat c counts its completion from beat c + 4 on. The beat of a gated release: log entry 89. -/
def Obligations.BarriersArriveAndRelease : Prop :=
  ∀ (s : State) (d slot key p : Nat) (x : KDesc) (i : KInst), d < 4 → x = s.kdesc d (key / 256) (key % 256) → s.kinst d key = some i →
    (∀ t bar, t < 4864 → s.ownerOr t = p → (s.tile t).fbarAt = some bar → s.barHome p bar = some (d, key) → i.active = true → t ∉ i.arrived →
      i.doneAt = none →
      ((∃ pt v, pt ∈ x.members' ∧ s.tileOf p pt = some v ∧ v ∉ i.arrived ∧ v ≠ t) → ∃ u, exec (.fbarArrival t) s = .next u ∧
        u.kinst d key = some { i with arrived := i.arrived ++ [t] } ∧ s.sameBut [.kneaders] u) ∧
      ((∀ pt v, pt ∈ x.members' → s.tileOf p pt = some v → v ∈ i.arrived ∨ v = t) → s.kdims p x = [] → ∃ u, exec (.fbarArrival t) s = .next u ∧
        u.kinst d key = some { i with arrived := i.arrived ++ [t], doneAt := some s.beat } ∧ s.sameBut [.kneaders] u)) ∧
    (∀ im k c, s.slotPol d slot = some p → (s.pol p).image = some im →
      im.kneads.find? (fun k => s.barHome p k.bar == some (d, key) && k.kind == 7) = some k → i.doneAt = some c → x.kind = 7 →
      s.firstInst d slot (fun x i => x.kind == 7 && i.active && (match i.doneAt with | some c => decide (releaseBeat c ≤ s.beat) | none => false)) =
        some key →
      ((s.pol p).gateHolds k.bar = true ∨ s.beat < (s.pol p).releaseAt k.bar c → exec (.frameBarrierRelease d slot) s = .next s) ∧
      ((s.pol p).gateHolds k.bar = false → (s.pol p).releaseAt k.bar c ≤ s.beat →
        (∀ t, t ∈ i.arrived → (s.tile t).cmdIndex + 1 < (s.tile t).cmdrLen ∧ (s.tile t).noLoopEnd (s.tile t).cmdIndex) → ∃ u, exec (.frameBarrierRelease d slot) s = .next u ∧
        (u.kdesc d slot (key % 256)).done = (x.done + 1) % 2 ^ 32 ∧
        ∀ t, t ∈ i.arrived → (s.tile t).fbarAt ≠ none → (u.tile t).fbarAt = none ∧ (u.tile t).beatRef = (s.pol p).releaseAt k.bar c)) ∧
    (s.slotPol d slot = some p → x.ready < x.readyCount → s.firstInst d slot (fun x i => x.kind == 6 && i.active && (match i.doneAt with | some c => decide (c + 4 ≤ s.beat) | none => false)) =
        some key → ∃ u, exec (.barrierCompletion d slot) s = .next u ∧ (u.kdesc d slot (key % 256)).done = (x.done + 1) % 2 ^ 32 ∧
      u.kinst d key = some { desc := i.desc, num := i.num, state := 0 } ∧ s.sameBut [.regs, .kneaders, .pols] u) ∧
    ((∀ e, e ∈ (s.knd d).insts → ∀ c, e.2.doneAt = some c → s.beat < c + 4) → exec (.barrierCompletion d slot) s = .next s)

/-! Ryulon links and the torus (10_ryulon_links.md). -/

/-- A detected signal starts the training of a DOWN port that is enabled and has its cable. Training ends in NODE_WAIT with the link layer at its
start, or tries again while tries are left, else in DOWN with 0x1310. In NODE_WAIT the control flit that bears the identity of the neighbour
brings the port UP; any other identity makes it MISWIRED with 0x1313. -/
def Obligations.PortsTrainAndMeetTheirPeer : Prop :=
  ∀ (s : State) (pt : Nat), pt < 32 →
    (s.lnkState pt = 0 → s.getF (pgLnk pt) 0x104 0 0 0 = 1 → (s.port pt).present = true → ∃ u, exec (.lnkSignalDetect pt) s = .next u ∧
      u.lnkState pt = 1 ∧ u.port pt = { s.port pt with tries := 1 } ∧ s.sameBut [.regs, .ports] u) ∧
    (s.lnkState pt ≠ 0 ∨ s.getF (pgLnk pt) 0x104 0 0 0 = 0 ∨ (s.port pt).present = false → exec (.lnkSignalDetect pt) s = .next s) ∧
    (s.lnkState pt = 1 → ∃ u, exec (.fullTrainingEnd pt true) s = .next u ∧ u.lnkState pt = 2 ∧ (u.port pt).expSeq = 0 ∧ (u.port pt).nextSeq = 0 ∧
      (u.port pt).replay = [] ∧ (u.port pt).credits = [160, 160, 32, 32] ∧ (u.port pt).present = (s.port pt).present ∧ s.sameBut [.regs, .ports] u) ∧
    (s.lnkState pt = 1 → 1 < (s.port pt).tries → ∃ u, exec (.fullTrainingEnd pt false) s = .next u ∧
      u.port pt = { s.port pt with tries := (s.port pt).tries - 1 } ∧ s.sameBut [.ports] u) ∧
    (s.lnkState pt = 1 → (s.port pt).tries ≤ 1 → ∃ u, exec (.fullTrainingEnd pt false) s = .next u ∧ u.lnkState pt = 0 ∧
      u.getF (pgLnk pt) 0x18 0 31 16 = 0x1310) ∧
    (s.lnkState pt ≠ 1 → ∀ ok, exec (.fullTrainingEnd pt ok) s = .next s) ∧
    (∀ bs, s.lnkState pt = 2 → s.nodeValid = true → bitOf (ctl bs 0x30 4 % 2 ^ 21) 19 = true →
      (ctl bs 0x30 4 % 2 ^ 21 = s.wantPeer pt → ∃ u, exec (.lnkCtlFlit pt true bs) s = .next u ∧ u.lnkState pt = 3 ∧
        u.port pt = { s.port pt with left := false } ∧ u.reg (pgLnk pt) 0x110 0 = BitVec.ofNat 64 (s.wantPeer pt) ∧ s.sameBut [.regs, .ports] u) ∧
      (ctl bs 0x30 4 % 2 ^ 21 ≠ s.wantPeer pt → ∃ u, exec (.lnkCtlFlit pt true bs) s = .next u ∧ u.lnkState pt = 5 ∧
        u.getF (pgLnk pt) 0x18 0 31 16 = 0x1313)) ∧
    (∀ bs, exec (.lnkCtlFlit pt false bs) s = .next s)

/-- A port that loses lock, is disabled, or loses its cable leaves UP: its replay buffer is empty here, and its traffic goes through the first sibling
that can take it, with 0x1316, or is lost with 0x1317. LNK_CTRL.enable moves it to and from DISABLED, LNK_CTRL.retrain to RETRAIN. A rapid retrain
that succeeds brings the port UP, at the width forced, at ×4 where one half's count reached the threshold and ×4 is allowed, else at ×8, counts
the replays and posts 0x1319; one that fails, or finds both halves bad, goes to full training with its tries. A port UP again whose traffic has
drained from its sibling takes it back with 0x1312. Siblings: log entry 124. -/
def Obligations.PortsRetrainAndLeaveUp : Prop :=
  (∀ (s : State) (pt : Nat), pt < 32 →
     ((s.lnkState pt = 3 ∨ s.lnkState pt = 4) → (s.port pt).left = false →
       (∀ p q, s.owner 2 pt = some p → s.sibling pt p ((s.port pt).replay ++ (s.port pt).gate.map (·.flit)) = some q →
         ∃ u, exec (.lnkLockLoss pt) s = .next u ∧ u.lnkState pt = 4 ∧ (u.port pt).left = true ∧ (u.port pt).replay = [] ∧
           u.getF (pgLnk pt) 0x100 0 17 17 = 1 ∧ u.getF (pgLnk pt) 0x100 0 22 18 = q ∧ u.getF (pgLnk pt) 0x18 0 31 16 = 0x1316) ∧
       (∀ p, s.owner 2 pt = some p → s.sibling pt p ((s.port pt).replay ++ (s.port pt).gate.map (·.flit)) = none →
         ∃ u, exec (.lnkLockLoss pt) s = .next u ∧ u.lnkState pt = 4 ∧ (u.port pt).left = true ∧ (u.port pt).replay = [] ∧
           u.getF (pgLnk pt) 0x18 0 31 16 = 0x1317)) ∧
     (s.lnkState pt ≠ 3 → s.lnkState pt ≠ 4 → exec (.lnkLockLoss pt) s = .next s) ∧
     (s.lnkState pt = 3 → ∃ u, exec (.lnkRetrain pt) s = .next u ∧ u.lnkState pt = 4 ∧ s.sameBut [.regs] u) ∧
     (s.lnkState pt ≠ 3 → exec (.lnkRetrain pt) s = .next s) ∧
     (∀ en, ∃ u, exec (.lnkEnable pt en) s = .next u ∧ u.getF (pgLnk pt) 0x104 0 0 0 = (if en then 1 else 0) ∧
       u.lnkState pt = (if en then (if s.lnkState pt = 6 then 0 else s.lnkState pt) else 6) ∧
       (en = true ∨ (s.lnkState pt ≠ 3 ∧ s.lnkState pt ≠ 4) → s.sameBut [.regs] u)) ∧
     (∀ pr, ∃ u, exec (.cblPrsntChange pt pr) s = .next u ∧ (u.port pt).present = pr ∧
       u.lnkState pt = (if pr = true ∨ s.lnkState pt = 5 ∨ s.lnkState pt = 6 then s.lnkState pt else 0) ∧
       (pr = false → (s.lnkState pt = 3 ∨ s.lnkState pt = 4) → u.getF (pgLnk pt) 0x18 0 31 16 = 0x1310))) ∧
  (∀ (s : State) (pt lo hi thr : Nat), pt < 32 → thr = max 1 (s.getF (pgLnk pt) 0x108 0 7 0) →
     (s.lnkState pt = 4 → ¬(thr ≤ lo ∧ thr ≤ hi) → ∃ u, exec (.retrainEnd pt true lo hi) s = .next u ∧ u.lnkState pt = 3 ∧
       u.getF (pgLnk pt) 0x100 0 4 3 = (if s.getF (pgLnk pt) 0x104 0 3 2 = 1 then 1 else if s.getF (pgLnk pt) 0x104 0 3 2 = 2 then 3
         else if s.getF (pgLnk pt) 0x108 0 8 8 = 1 ∧ thr ≤ lo then 3 else if s.getF (pgLnk pt) 0x108 0 8 8 = 1 ∧ thr ≤ hi then 1 else 0) ∧
       u.reg (pgLnk pt) 0x128 0 = s.reg (pgLnk pt) 0x128 0 + BitVec.ofNat 64 (lo + hi) ∧
       u.reg (pgLnk pt) 0x130 0 = s.reg (pgLnk pt) 0x130 0 + BitVec.ofNat 64 (s.port pt).replay.length ∧
       (u.port pt).left = false ∧ u.getF (pgLnk pt) 0x18 0 31 16 = 0x1319) ∧
     (s.lnkState pt = 4 → ∀ ok, ok = false ∨ (thr ≤ lo ∧ thr ≤ hi) → ∃ u, exec (.retrainEnd pt ok lo hi) s = .next u ∧ u.lnkState pt = 1 ∧
       (u.port pt).tries = max 1 (s.getF (pgLnk pt) 0x108 0 11 9)) ∧
     (s.lnkState pt ≠ 4 → ∀ ok, exec (.retrainEnd pt ok lo hi) s = .next s) ∧
     (∀ q, s.lnkState pt = 3 → s.getF (pgLnk pt) 0x100 0 17 17 = 1 → s.getF (pgLnk pt) 0x100 0 22 18 = q → 
       ((s.port q).replay = [] → (s.port q).gate = [] → ∃ u, exec (.portRestored pt) s = .next u ∧ u.lnkState pt = 3 ∧
         u.getF (pgLnk pt) 0x100 0 17 17 = 0 ∧ u.getF (pgLnk pt) 0x18 0 31 16 = 0x1312 ∧ ∀ k, u.port k = s.port k) ∧
       ((s.port q).replay ≠ [] → exec (.portRestored pt) s = .next s)) ∧
     (s.lnkState pt ≠ 3 → exec (.portRestored pt) s = .next s))

/-- An UP port takes DATA flits in lseq order: a bad one is discarded and asked for again, its second failure starts a retrain; one out of order
changes nothing; a good one for this device that the dike passes and that is the next of its flow is delivered once to its die's kneader, and one
that the dike refuses is dropped and counted. A control flit of an UP port acknowledges the flits before it. Acknowledgement numbers: log entry
122. -/
def Obligations.PortsDeliverFlitsInOrder : Prop :=
  ∀ (s : State) (pt hdr piggy : Nat) (pay bs : List Byte) (f : Flit), pt < 32 → f = flitOf hdr pay → s.lnkState pt = 3 →
    (bitsOf hdr 2 0 = 1 ∨ bitsOf hdr 2 0 = 2) →
    (f.lseq = (s.port pt).expSeq → (s.port pt).badSeq ≠ some f.lseq → ∃ u, exec (.lnkDataFlit pt false hdr pay piggy) s = .next u ∧
      u.port pt = { s.port pt with badSeq := some f.lseq, discarding := true } ∧ s.sameBut [.ports] u) ∧
    ((s.port pt).badSeq = some f.lseq → ∃ u, exec (.lnkDataFlit pt false hdr pay piggy) s = .next u ∧ u.lnkState pt = 4 ∧ (∀ k, u.port k = s.port k)) ∧
    (f.lseq ≠ (s.port pt).expSeq → exec (.lnkDataFlit pt true hdr pay piggy) s = .next s) ∧
    (f.lseq = (s.port pt).expSeq → (s.port pt).gate = [] →
      (∀ p e, (s.ftidPols f.ftid).find? (fun p => s.holdsPort p pt && s.inSlice p f.src) = some p → p ∉ s.inReset → s.nextHop f.dst f.sgn = none →
        mapFind? (mapGet s.flows f.dstDie []) f.flow = some e → e.epoch = f.epoch → f.epoch < 64 →
        ∃ u, exec (.lnkDataFlit pt true hdr pay piggy) s = .next u ∧ (u.port pt).expSeq = ((s.port pt).expSeq + 1) % 4096 ∧
          u.reg (pgLnk pt) 0x140 0 = s.reg (pgLnk pt) 0x140 0 + 1 ∧ (∀ k, k ≠ pt → u.port k = s.port k) ∧
          (f.fseq = e.expected → (u.knd f.dstDie).inFlits = (s.knd f.dstDie).inFlits ++ [f] ∧
            mapFind? (mapGet u.flows f.dstDie []) f.flow = some { e with expected := (e.expected + 1) % 65536 }) ∧
          (f.fseq ≠ e.expected → u.kneaders = s.kneaders)) ∧
      ((s.ftidPols f.ftid).find? (fun p => s.holdsPort p pt && s.inSlice p f.src) = none → ∃ u, exec (.lnkDataFlit pt true hdr pay piggy) s = .next u ∧
        (u.port pt).expSeq = ((s.port pt).expSeq + 1) % 4096 ∧ u.kneaders = s.kneaders ∧ u.flows = s.flows ∧
        u.getF (pgLnk pt) 0x148 0 31 0 = min (s.getF (pgLnk pt) 0x148 0 31 0 + 1) (2 ^ 32 - 1))) ∧
    (ctl bs 0x30 4 % 2 ^ 21 = s.wantPeer pt → (s.port pt).gate = [] → bitOf (ctl bs 0x10 4) 12 = false → bitsOf (ctl bs 0x38 4) 19 16 = 0 →
      ∃ u, exec (.lnkCtlFlit pt true bs) s = .next u ∧ u.lnkState pt = 3 ∧
        (u.port pt).replay = (s.port pt).replay.filter (fun g => 2048 ≤ (bitsOf (ctl bs 0x10 4) 11 0 + 4096 - g.lseq) % 4096) ∧
        u.getF (pgLnk pt) 0x158 0 55 0 = ctl bs 0x20 8 % 2 ^ 48 ∧ u.getF (pgLnk pt) 0x160 0 55 0 = ctl bs 0x28 8 % 2 ^ 56)

/-- The torus registers change only while no port is UP, else 0x0131; a route entry is written into all four copies and becomes trusted; a frame load
waits for its beat, and a second one, or one while a frame activation is armed, is 0x0130. -/
def Obligations.TorusRegistersAndFrameLoads : Prop :=
  ∀ (s : State) (val node : Nat),
    (s.anyUp = false → (∃ u, exec (.devNodeWrite val) s = .next u ∧ u.getF pgDev 0x200 0 13 0 = val % 2 ^ 14 ∧
        u.getF pgDev 0x200 0 16 16 = val / 65536 % 2 ∧ s.sameBut [.regs] u) ∧
      (∃ u, exec (.devTorusWrite val) s = .next u ∧ u.getF pgDev 0x204 0 17 0 = val % 2 ^ 18 ∧ s.sameBut [.regs] u)) ∧
    (s.anyUp = true → ∀ c, c ∈ [Instr.devNodeWrite val, Instr.devTorusWrite val] → ∃ u, exec c s = .next u ∧
      u.getF pgDev 0x18 0 31 16 = 0x0131 ∧ u.reg pgDev 0x200 0 = s.reg pgDev 0x200 0 ∧ u.reg pgDev 0x204 0 = s.reg pgDev 0x204 0 ∧ s.sameBut [.regs] u) ∧
    (node < 16384 → ∃ u, exec (.routeTableWrite node val) s = .next u ∧ (∀ d, d < 4 → mapGet u.rt (d * 16384 + node) 0 = val % 64) ∧
      (∀ d n, n < 16384 → n ≠ node → mapGet u.rt (d * 16384 + n) 0 = mapGet s.rt (d * 16384 + n) 0) ∧
      (∀ k, k ∈ u.untrusted ↔ k ∈ s.untrusted ∧ k ≠ 7 * 65536 + node) ∧ s.sameBut [.rt, .untrusted] u) ∧
    (bitOf val 63 = true → s.frameLoad = none → s.armF = none → ∃ u, exec (.frameLoad val) s = .next u ∧ u.frameLoad = some (val % 2 ^ 48) ∧
      s.sameBut [.frameLoad] u) ∧
    (bitOf val 63 = true → s.frameLoad ≠ none ∨ s.armF ≠ none → ∃ u, exec (.frameLoad val) s = .next u ∧ u.getF pgDev 0x18 0 31 16 = 0x0130 ∧
      s.sameBut [.regs] u) ∧
    (bitOf val 63 = false → exec (.frameLoad val) s = .next s)

/-! Die-to-die links (07_exchange_and_time.md). -/

/-- A good die-to-die flit is accepted at its destination die once, in order of its sequence numbers; the first failure of a flit is counted at its
sender and awaited again, the second retires the bundle with 0x1102: DEGRADED with at least 5 bundles left. Sparing goes its three steps: the
request mirrors the lane, a clean training asks for the switch, a failed one tries the next free spare or retires the bundle, and the switch
enters the lane in D2D_BMAP and counts it. Ends of a direction and spares that fail: log entries 26 and 121. -/
def Obligations.D2dFlitsAndSparing : Prop :=
  (∀ (s : State) (i cls src dst seq b : Nat), i < 8 → b < 8 → src < 4 → dst < 4 → cls < 5 → s.d2dUp i = true → s.getF (pgD2d i) 0x110 b 28 28 = 0 →
     (s.d2dl i).laneErr = [] →
     (dst = i / 2 → (∀ q, mapFind? (s.d2dl (2 * (i / 2))).accepted ((src * 4 + dst) * 8 + cls) = some q → q < seq) →
       ∃ u, exec (.d2dFlit i cls src dst seq b [] false) s = .next u ∧
         mapFind? (u.d2dl (2 * (i / 2))).accepted ((src * 4 + dst) * 8 + cls) = some seq ∧ s.sameBut [.regs, .d2d] u) ∧
     (∀ q, mapFind? (s.d2dl (2 * (i / 2))).accepted ((src * 4 + dst) * 8 + cls) = some q → seq ≤ q → ∃ u,
       exec (.d2dFlit i cls src dst seq b [] false) s = .next u ∧ (u.d2dl (2 * (i / 2))).accepted = (s.d2dl (2 * (i / 2))).accepted ∧
         s.sameBut [.regs, .d2d] u) ∧
     (((src * 4 + dst) * 8 + cls) * 65536 + seq % 65536 ∉ (s.d2dl i).failedOnce → ∃ u, exec (.d2dFlit i cls src dst seq b [] true) s = .next u ∧
       (u.d2dl i).failedOnce = (s.d2dl i).failedOnce ++ [((src * 4 + dst) * 8 + cls) * 65536 + seq % 65536] ∧
       u.reg (pgD2d (d2dPeer i)) 0x118 0 = s.reg (pgD2d (d2dPeer i)) 0x118 0 + 1 ∧ s.sameBut [.regs, .d2d] u) ∧
     (((src * 4 + dst) * 8 + cls) * 65536 + seq % 65536 ∈ (s.d2dl i).failedOnce → 6 ≤ s.getF (pgD2d i) 0x100 0 11 8 →
       ∃ u, exec (.d2dFlit i cls src dst seq b [] true) s = .next u ∧ u.getF (pgD2d i) 0x110 b 28 28 = 1 ∧
         u.getF (pgD2d i) 0x100 0 11 8 = s.getF (pgD2d i) 0x100 0 11 8 - 1 ∧ u.d2dState i = 3 ∧ u.d2dState (d2dPeer i) = 3 ∧
         u.getF (pgD2d i) 0x18 0 31 16 = 0x1102)) ∧
  (∀ (s : State) (i b l sp : Nat), i < 8 → b < 8 → l < 64 → sp < 4 →
     ((s.d2dl i).sparing = some (b, l, sp, 0) → ∃ u, exec (.d2dSpareReq i b l) s = .next u ∧
       u.d2dl i = { s.d2dl i with sparing := some (b, l, sp, 1) } ∧ s.sameBut [.d2d] u) ∧
     ((s.d2dl i).sparing = some (b, l, sp, 1) →
       (∃ u, exec (.d2dSpareTrained i true) s = .next u ∧ u.d2dl i = { s.d2dl i with sparing := some (b, l, sp, 2) } ∧ s.sameBut [.d2d] u) ∧
       (∀ k, s.freeSpare i b (sp + 1) = some k → ∃ u, exec (.d2dSpareTrained i false) s = .next u ∧
         u.d2dl i = { s.d2dl i with sparing := some (b, l, k, 0) } ∧ s.sameBut [.d2d] u) ∧
       (s.freeSpare i b (sp + 1) = none → s.getF (pgD2d i) 0x110 b 28 28 = 0 → ∃ u, exec (.d2dSpareTrained i false) s = .next u ∧
         u.getF (pgD2d i) 0x110 b 28 28 = 1 ∧ (u.d2dl i).sparing = none)) ∧
     ((s.d2dl i).sparing = some (b, l, sp, 2) → ∃ u, exec (.d2dSpareGo i) s = .next u ∧ u.spareLane i b sp = l ∧
       u.getF (pgD2d i) 0x100 0 21 16 = min (s.getF (pgD2d i) 0x100 0 21 16 + 1) 63) ∧
     ((s.d2dl i).sparing = none → (∀ b' l', exec (.d2dSpareReq i b' l') s = .next s) ∧ (∀ ok, exec (.d2dSpareTrained i ok) s = .next s) ∧
       exec (.d2dSpareGo i) s = .next s))

/-- A link without flits, or failed by its register, is FAILED at both ends. A die that learns of a change marks the dies it can no longer reach and
stops the polders that span them; once every die has, a pair takes the route that Table 7-8 gives, and its held handshake loaves go on. A FAILED
link retrains, and is UP with all its bundles once restored. Bundles after a retrain: log entry 27. -/
def Obligations.D2dLinksFailAndReturn : Prop :=
  ∀ (s : State) (i : Nat), i < 8 →
    (s.d2dUp i = true → ∀ c, c ∈ [Instr.d2dNoFlitTimeout i, Instr.d2dFail i] → ∃ u, exec c s = .next u ∧ u.d2dState i = 4 ∧ u.d2dState (d2dPeer i) = 4) ∧
    (s.d2dUp i = false → exec (.d2dNoFlitTimeout i) s = .next s) ∧ (s.d2dState i = 4 → exec (.d2dFail i) s = .next s) ∧
    (∀ d, d < 4 → ∃ u, exec (.d2dRouteNotice d) s = .next u ∧ d ∈ u.notices ∧ ((∀ e, e < 4 → s.routeOf d e ≠ 2) → s.sameBut [.notices] u) ∧
      ∀ e, e < 4 → e ≠ d → s.routeOf d e = 2 → 4 * d + e ∈ u.unreach ∧
        (4 * d + e ∉ s.unreach → ∀ p, p ∈ s.spanning d e → (u.pol p).stopped = true)) ∧
    (∀ a b, a < 4 → b < 4 → a ≠ b → (∀ d, d < 4 → d ∈ s.notices) → ∃ u, exec (.d2dRouteSwitch a b) s = .next u ∧ u.route a b = s.routeOf a b ∧
      (∀ a' b', b' < 4 → (a', b') ≠ (a, b) → u.route a' b' = s.route a' b') ∧ s.sameBut [.regs, .routes, .flight] u ∧
      (s.routeOf a b ≠ 2 → u.flight = s.flight.map (fun l => if l.stage = 2 ∧ l.handshake ∧ tDie l.src = a ∧ tDie l.dst = b then { l with stage := 3 }
        else l)) ∧ (s.routeOf a b = 2 → u.flight = s.flight)) ∧
    (∀ a b d, a < 4 → b < 4 → d < 4 → d ∉ s.notices → exec (.d2dRouteSwitch a b) s = .next s) ∧
    (s.d2dState i = 4 → ∃ u, exec (.d2dRetrain i) s = .next u ∧ u.d2dState i = 1 ∧ u.d2dState (d2dPeer i) = 1 ∧ (u.d2dl i).retraining = true ∧
      s.sameBut [.regs, .d2d] u) ∧
    (s.d2dState i ≠ 4 → exec (.d2dRetrain i) s = .next s) ∧
    ((s.d2dl i).retraining = true → ∃ u, exec (.linkRestored i) s = .next u ∧ u.d2dState i = 2 ∧ u.d2dState (d2dPeer i) = 2 ∧
      u.getF (pgD2d i) 0x100 0 11 8 = 8 ∧ (u.d2dl i).retraining = false ∧ u.getF (pgD2d i) 0x18 0 31 16 = 0x1106) ∧
    ((s.d2dl i).retraining = false → exec (.linkRestored i) s = .next s)

/-! Arming and activation (12_polders.md). -/

/-- An arm is refused with 0x0541 while one waits or acts or a frame load waits, with 0x0540 where its beat or frame comes too soon, and with 0x0542
and what failed where the staged tables fail a check of Table 12-4; else it waits for its beat or frame. A disarm takes an armed activation away
until 4 beats before it, else 0x0543, and the activation proceeds; one while nothing is armed does nothing. A discard returns every staged value
to its active one, unless one is armed. Several control bits at once are refused as a whole with 0x0548. Checks on staged retirements: log entry
79. -/
def Obligations.ArmsAndDisarms : Prop :=
  (∀ (s : State) (c : Instr) (soon : Bool), (c, soon) ∈ [(Instr.armBeat, decide (s.getF pgArm 0x108 0 55 0 < s.beat + 16)),
       (Instr.armFrame, decide (s.getF pgArm 0x110 0 47 0 < s.frame + 2))] →
     (∀ code, code = (if s.armState ≠ 0 ∨ s.frameLoad ≠ none then 0x0541 else if soon then 0x0540 else 0x0542) → (code = 0x0542 → s.armFail ≠ none) →
       ∃ u, exec c s = .next u ∧ u.getF pgArm 0x104 0 31 16 = code ∧ u.getF pgArm 0x18 0 31 16 = code ∧ u.armState = s.armState ∧ s.sameBut [.regs] u ∧
         ∀ r i t, code = 0x0542 → s.armFail = some (r, i, t) → u.reg pgArm 0x11C 0 = BitVec.ofNat 64 (r + i * 2 ^ 8 + t * 2 ^ 19)) ∧
     (s.armState = 0 → s.frameLoad = none → soon = false → s.armFail = none →
       ∃ u, exec c s = .next u ∧ u.getF pgArm 0x104 0 31 16 = 0 ∧ s.sameBut [.regs, .armB, .armF] u ∧
         (c = .armBeat → u.armB = some (s.getF pgArm 0x108 0 55 0) ∧ u.armF = s.armF ∧ u.armState = 1) ∧
         (c = .armFrame → u.armF = some (s.getF pgArm 0x110 0 47 0) ∧ u.armB = s.armB ∧ u.armState = 2))) ∧
  (∀ (s : State),
     (∀ b, s.armState ≠ 0 → s.armState ≠ 3 → s.armBeat = some b → s.beat + 4 ≤ b → ∃ u, exec .disarm s = .next u ∧ u.armB = none ∧ u.armF = none ∧
       u.armState = 0 ∧ u.getF pgArm 0x104 0 31 16 = 0 ∧ s.sameBut [.regs, .armB, .armF] u) ∧
     (s.armState ≠ 0 → s.armState = 3 ∨ (∀ b, s.armBeat = some b → b < s.beat + 4) → ∃ u, exec .disarm s = .next u ∧ u.getF pgArm 0x104 0 31 16 = 0x0543 ∧
       u.getF pgArm 0x18 0 31 16 = 0x0543 ∧ u.armState = s.armState ∧ s.sameBut [.regs] u) ∧
     (s.armState = 0 → ∃ u, exec .disarm s = .next u ∧ u.getF pgArm 0x104 0 31 16 = 0 ∧ u.armState = 0 ∧ s.sameBut [.regs] u ∧
       ∀ k, k ≠ regKey pgArm 0x104 0 → mapFind? u.regs k = mapFind? s.regs k) ∧
     (s.armState = 0 → ∃ u, exec .armCtrlDiscard s = .next u ∧ u.staged = [] ∧ u.getF pgArm 0x104 0 31 16 = 0 ∧ s.sameBut [.regs, .staged] u ∧
       (∀ k, k ∈ s.staged → k ≠ regKey pgArm 0x104 0 → ¬(keyPage k = pgPld ∧ keyOff k = 0x114) →
         mapFind? u.regs k = some ((mapFind? s.act k).getD (regReset (keyPage k) (keyOff k)))) ∧
       ∀ k, k ∉ s.staged → k ≠ regKey pgArm 0x104 0 → mapFind? u.regs k = mapFind? s.regs k) ∧
     (s.armState ≠ 0 → ∃ u, exec .armCtrlDiscard s = .next u ∧ u.getF pgArm 0x104 0 31 16 = 0x0541 ∧ s.sameBut [.regs] u) ∧
     (∀ val, ((List.range 4).filter (fun i => bitOf val i)).length < 2 → exec (.armCtrlMulti val) s = .next s) ∧
     (∀ val, 2 ≤ ((List.range 4).filter (fun i => bitOf val i)).length → ∃ u, exec (.armCtrlMulti val) s = .next u ∧
       u.getF pgArm 0x104 0 31 16 = 0x0548 ∧ u.getF pgArm 0x18 0 31 16 = 0x0548 ∧ u.armState = s.armState ∧ s.sameBut [.regs] u ∧
       ∀ k, k ∉ [regKey pgArm 0x104 0, regKey pgArm 0x18 0, regKey pgArm 0x1C 0] → mapFind? u.regs k = mapFind? s.regs k))

/-- An activation that is not due does nothing. One that is due takes effect at once: the arm is gone and ACTIVATING, the generation advances, its
beat is noted, and, where nothing moves between polders, the units that take it have exactly their staged values active. Its completion posts
0x0544. A rejoin waits for the beat boundary; there a stale unit whose owner and epoch are as written is stale no more, a tile of it is cleared,
and any other is refused with 0x0546. A load that the host abandons ends: nothing of it loads, is installed or protected. Generations of units:
log entry 36. -/
def Obligations.ActivationAndRejoin : Prop :=
  (∀ (s : State),
     (s.actDue = false → exec .activation s = .next s) ∧
     (s.actDue = true → ∃ u, exec .activation s = .next u ∧ u.armB = none ∧ u.armF = none) ∧
     (s.actDue = true → s.quietStage → ∃ u, exec .activation s = .next u ∧ u.armState = 3 ∧ u.gen = (s.gen + 1) % 65536 ∧
       u.reg pgArm 0x120 0 = BitVec.ofNat 64 (s.beat % 2 ^ 56) ∧ (∀ k, k ∈ u.staged ↔ k ∈ s.staged ∧ keyPage k ∉ s.takers) ∧
       (∀ k, k ∈ s.staged → keyPage k ∈ s.takers → keyPage k ≠ pgArm → keyOff k ≠ 0x24 → keyOff k ≠ 0x28 →
         mapFind? u.act k = some ((mapFind? s.regs k).getD (regReset (keyPage k) (keyOff k)))) ∧
       (∀ k, k ∉ s.staged ∨ keyPage k ∉ s.takers → mapFind? u.act k = mapFind? s.act k) ∧ u.tiles = s.tiles ∧ u.pols = s.pols) ∧
     (s.armState = 3 → ∃ u, exec .activationComplete s = .next u ∧ u.armState = 0 ∧ u.getF pgArm 0x18 0 31 16 = 0x0544 ∧ u.gen = s.gen) ∧
     (s.armState ≠ 3 → exec .activationComplete s = .next s)) ∧
  (∀ (s : State),
     (∀ val, bitOf val 31 = true → ∃ u, exec (.rejoin val) s = .next u ∧ u.rejoin = some (bitsOf val 14 0, bitsOf val 21 16, s.getF pgArm 0x134 0 15 0) ∧
       s.sameBut [.rejoin] u) ∧
     (∀ val, bitOf val 31 = false → exec (.rejoin val) s = .next s) ∧
     (s.rejoin = none → exec .rejoinApply s = .next s) ∧
     (∀ pg p ep, s.rejoin = some (pg, p, ep) →
       (s.part pg = 0 → s.stale pg = true → s.unitOwner pg = (p, ep) → ∃ u, exec .rejoinApply s = .next u ∧ u.rejoin = none ∧ u.stale pg = false ∧
         u.reg pgArm 0x138 0 = 0 ∧ (∀ k, k ∈ u.staged ↔ k ∈ s.staged ∧ keyPage k ≠ pg) ∧ ∀ t, pageBlock pg = some (.tile, t) → u.clears t) ∧
       (s.part pg ≠ 0 ∨ s.unitOwner pg ≠ (p, ep) → ∃ u, exec .rejoinApply s = .next u ∧ u.rejoin = none ∧ u.reg pgArm 0x138 0 = 0x0546 ∧
         u.stale pg = s.stale pg ∧ u.tiles = s.tiles)) ∧
     (∀ p r, p < 64 → (s.pol p).loading = some r → r.abort = true → p ∉ s.loadWait → ∃ u, exec (.loadAbandon p) s = .next u ∧ (u.pol p).loading = none ∧
       (u.pol p).image = none ∧ (u.pol p).prot = none) ∧
     (∀ p, p < 64 → (∀ r, (s.pol p).loading = some r → r.abort = false) → exec (.loadAbandon p) s = .next s))

/-! Reset domains, unit parts and the vote (14_reliability_and_recovery.md). -/

/-- A reset request is refused with 0x0147 while another is busy, while an activation acts, or for a target that does not exist; no tile changes. A
reset is done once no tile of its domain clears: busy is 0 again, 0x0141 is posted, no polder is in reset. The record of a reset that nothing
shows busy: log entry 83. -/
def Obligations.ResetRequestsStartAndEnd : Prop :=
  (∀ (s : State) (c : Instr) (dom tg : Nat) (os : List Nat) (there : Bool),
     (c, dom, there) ∈ [(Instr.tileReset tg, 1, (s.tileOfPage tg).isSome), (Instr.polderReset tg, 2, decide (tg < 64)),
       (Instr.dieCoreReset tg, 3, decide (tg < 4)), (Instr.deviceCoreReset os, 4, true), (Instr.coldReset os, 5, true)] →
     s.getF pgDev 0x31C 0 0 0 = 1 ∨ s.armState = 3 ∨ there = false →
     ∃ u, exec c s = .next u ∧ u.getF pgDev 0x31C 0 31 16 = 0x0147 ∧ u.getF pgDev 0x31C 0 3 1 = dom ∧ u.getF pgDev 0x31C 0 0 0 = s.getF pgDev 0x31C 0 0 0 ∧
       u.getF pgDev 0x18 0 31 16 = 0x0147 ∧ u.tiles = s.tiles ∧ u.hbm = s.hbm ∧ u.inReset = s.inReset) ∧
  (∀ (s : State), (s.resetClears = true → exec .resetDone s = .next s) ∧
     (s.resetClears = false → s.getF pgDev 0x31C 0 0 0 = 1 → ∃ u, exec .resetDone s = .next u ∧ u.getF pgDev 0x31C 0 0 0 = 0 ∧ u.inReset = [] ∧
       u.getF pgDev 0x18 0 31 16 = 0x0141 ∧ u.tiles = s.tiles) ∧
     (s.resetClears = false → s.getF pgDev 0x31C 0 0 0 = 0 → ∃ u, exec .resetDone s = .next u ∧ u.inReset = [] ∧ s.sameBut [.inReset] u))

/-- An accepted reset clears the tiles of its domain: one tile; a polder's, which is unloaded, starts a new flow epoch and has nothing in flight; a
die's that do not sleep, with its kneader; all of the device. A reset of a tile that runs stops its polder. FENCED and ASLEEP tiles: log entries
74 and 83. -/
def Obligations.ResetsClearTheirDomain : Prop :=
  ∀ (s : State), s.getF pgDev 0x31C 0 0 0 = 0 → s.armState ≠ 3 →
    (∀ pg t, s.tileOfPage pg = some t → ∃ u, exec (.tileReset pg) s = .next u ∧ u.clears t ∧ u.resetTarget = pg ∧
      u.getF pgDev 0x31C 0 0 0 = 1 ∧ ((s.tile t).task ≠ .running → ∀ k, k ≠ t → u.tile k = s.tile k) ∧
      ∀ p, (s.tile t).task = .running → s.tileOwner t = some p → (u.pol p).stopped = true) ∧
    (∀ p, p < 64 → ∃ u, exec (.polderReset p) s = .next u ∧ (∀ t, t ∈ s.tilesOf p → u.clears t) ∧ (u.pol p).image = none ∧ (u.pol p).prot = none ∧
      (u.pol p).flowEpoch = ((s.pol p).flowEpoch + 1) % 64 ∧ p ∈ u.inReset ∧ (∀ l, l ∈ u.flight → l.pol ≠ p) ∧ u.resetTarget = p) ∧
    (∀ d, d < 4 → ∃ u, exec (.dieCoreReset d) s = .next u ∧ u.knd d = {} ∧ u.resetTarget = d ∧
      ∀ t, t < 4864 → tDie t = d → s.part (pgTile t) ≠ 1 → u.clears t) ∧
    (∀ os, ∃ u, exec (.deviceCoreReset os) s = .next u ∧ ∀ t, t < 4864 → s.part (pgTile t) ≠ 1 → u.clears t) ∧
    (∀ os, ∃ u, exec (.coldReset os) s = .next u ∧ u.tiles = [] ∧ u.hbm = [] ∧ u.scr = [] ∧ u.flight = [] ∧ u.beat = 0 ∧
      u.getF pgDev 0x100 0 2 0 = (if s.module.pwrGood then 1 else 0) ∧ u.pending = s.pending)

/-- A fence makes a unit FENCED with 0x0144; only a FENCED unit is unfenced, stale where it missed an activation, or goes to REPAIR; else 0x0147. A
repair that passes makes it ACTIVE, a tile cleared, with 0x0145; one that fails leaves it FENCED with 0x0146. The vote on an entry: four good
copies that agree leave it with their value; without three good copies that agree the entry is untrusted, and each polder that a copy names as the
owner of a binding stops. The Steward keeps a die's retirement mask. Votes: log entry 82. -/
def Obligations.UnitsAndVotes : Prop :=
  (∀ (s : State) (pg : Nat), (pageBlock pg).isSome = true →
     (s.part pg ≠ 2 → ∃ u, exec (.unitFence pg) s = .next u ∧ u.part pg = 2 ∧ u.getF pgDev 0x18 0 31 16 = 0x0144) ∧
     (s.part pg = 2 → exec (.unitFence pg) s = .next s ∧
       (∃ u, exec (.unitUnfence pg) s = .next u ∧ u.getF pg 0x24 0 1 0 = 0 ∧ u.stale pg = (s.stale pg || (s.missedGen pg).isSome)) ∧
       (∃ u, exec (.unitRepair pg) s = .next u ∧ u.part pg = 3 ∧ s.sameBut [.regs] u)) ∧
     (s.part pg ≠ 2 → ∀ c, c ∈ [Instr.unitUnfence pg, Instr.unitRepair pg] → ∃ u, exec c s = .next u ∧ u.part pg = s.part pg ∧
       u.getF pgDev 0x18 0 31 16 = 0x0147 ∧ u.tiles = s.tiles) ∧
     (s.part pg = 3 →
       (∃ u, exec (.repairDone pg true) s = .next u ∧ u.getF pg 0x24 0 1 0 = 0 ∧ u.getF pgDev 0x348 pg 9 8 = 1 ∧ u.getF pgDev 0x18 0 31 16 = 0x0145 ∧
         ∀ t, pageBlock pg = some (.tile, t) → u.clears t) ∧
       (∃ u, exec (.repairDone pg false) s = .next u ∧ u.part pg = 2 ∧ u.getF pgDev 0x348 pg 9 8 = 2 ∧ u.getF pgDev 0x18 0 31 16 = 0x0146 ∧
         u.tiles = s.tiles)) ∧
     (s.part pg ≠ 3 → ∀ ok, exec (.repairDone pg ok) s = .next s)) ∧
  (∀ (s : State) (tb i v : Nat) (cs ok : List Nat), cs.length = 4 → i < voteSize tb →
     (cs = [v, v, v, v] → (∀ d, d < 4 → d ∈ ok) → ∃ u, exec (.voteSweep tb i cs ok) s = .next u ∧ s.sameBut [.act, .rt] u ∧
       (tb < 5 → fld (u.regAct pgPld 0x104 (tb * 4096 + i)) 6 0 = v % 128) ∧ (tb = 7 → ∀ d, d < 4 → mapGet u.rt (d * 16384 + i) 0 = v % 64)) ∧
     (voteWinner cs ok = none → ∃ u, exec (.voteSweep tb i cs ok) s = .next u ∧ tb * 65536 + i ∈ u.untrusted ∧ u.act = s.act ∧ u.rt = s.rt ∧
       ∀ c, tb < 5 → c ∈ cs → bitOf c 6 = true → (u.pol (c % 64)).stopped = true) ∧
     (∀ j, voteSize tb ≤ j → exec (.voteSweep tb j cs ok) s = .next s) ∧
     (∀ d, d < 4 → ∃ u, exec (.retirementMapWrite d) s = .next u ∧ mapGet u.module.retireMap d 0 = s.retired d ∧ s.sameBut [.module] u))

/-! Host requests (15_host_interface.md, 06_images_and_verifier.md). -/

/-- INTAKE_ENABLE, INTAKE_DISABLE and the doorbell: an enable at READY zeroes the indices and makes the INTAKE IDLE, or WAIT where its function cannot
write; a disable makes it DISABLED, or DISABLING while a request is in progress; a doorbell lets it fetch, or halts it with 0x0667 where the ring
would hold more than its size. A ring fault halts it with 0x0662. Waiting records are written in order as soon as they may be, a LOST record
first. A host-window read that failed faults its load with 0x0660; one that gave its bytes lets a plain MOVE LOAD finish. Fetching at once: log
entries 32 and 87. -/
def Obligations.IntakesRingsAndWindowReads : Prop :=
  (∀ (s : State) (p : Nat), p < 64 →
     (s.bootState ≠ 4 → exec (.intakeEnable p) s = .next s) ∧
     (s.bootState = 4 → ∃ u, exec (.intakeEnable p) s = .next u ∧ u.getF (pgIntake p) 0x100 0 0 0 = 1 ∧ u.rqIdx p 0x114 = 0 ∧ u.rqIdx p 0x118 = 0 ∧
       u.rqIdx p 0x11C = 0 ∧ u.rqIdx p 0x138 = 0 ∧ s.sameBut [.regs] u ∧ (s.inState p = 0 → u.inState p = if s.fnLive p then 1 else 3) ∧
       (s.inState p = 4 → u.inState p = 4)) ∧
     (∃ u, exec (.intakeDisable p) s = .next u ∧ u.getF (pgIntake p) 0x100 0 0 0 = 0 ∧ s.sameBut [.regs] u ∧
       u.inState p = if s.inState p ≠ 4 ∧ (s.intake p).entry ≠ none then 5 else 0) ∧
     (∀ tail, s.getF (pgIntake p) 0x100 0 0 0 = 1 → s.fnLive p = true → s.inState p ≠ 0 → s.inState p ≠ 4 → s.module.powerDown = false →
       ((tail % 2 ^ 32 + 2 ^ 32 - s.rqIdx p 0x11C) % 2 ^ 32 ≤ 2 ^ s.rqLog p → ∃ u, exec (.rqDoorbell p tail) s = .next u ∧
         u.rqIdx p 0x114 = tail % 2 ^ 32 ∧ u.rqIdx p 0x118 = tail % 2 ^ 32 ∧ u.inState p = s.inState p ∧ s.sameBut [.regs] u) ∧
       (2 ^ s.rqLog p < (tail % 2 ^ 32 + 2 ^ 32 - s.rqIdx p 0x11C) % 2 ^ 32 → ∃ u, exec (.rqDoorbell p tail) s = .next u ∧ u.inState p = 4 ∧
         u.getF (pgIntake p) 0x104 0 31 16 = 0x0667 ∧ u.rqIdx p 0x118 = s.rqIdx p 0x118)) ∧
     (s.getF (pgIntake p) 0x100 0 0 0 = 1 → s.inState p ≠ 4 → s.fnLive p = true → ∃ u, exec (.ringFault p) s = .next u ∧ u.inState p = 4 ∧
       u.getF (pgIntake p) 0x104 0 31 16 = 0x0662) ∧
     (s.getF (pgIntake p) 0x100 0 0 0 = 0 ∨ s.inState p = 4 ∨ s.fnLive p = false → exec (.ringFault p) s = .next s)) ∧
  (∀ (s : State) (p t : Nat), p < 64 → t < 4864 →
     (s.canPost p = false → exec (.recordBacklogDrain p) s = .next s) ∧
     (∀ r, s.canPost p = true → (s.intake p).lostPend = 0 → (s.intake p).backlog = [r] → ∃ u, exec (.recordBacklogDrain p) s = .next u ∧
       (u.intake p).backlog = [] ∧ u.getF (pgIntake p) 0x13C 0 6 0 = 0 ∧ u.rqIdx p 0x138 = (s.rqIdx p 0x138 + 1) % 2 ^ 32 ∧
       u.hostOut.length = s.hostOut.length + 2) ∧
     (s.canPost p = true → 0 < (s.intake p).lostPend → (s.intake p).backlog = [] → ∃ u, exec (.recordBacklogDrain p) s = .next u ∧
       (u.intake p).lostPend = 0 ∧ u.rqIdx p 0x138 = (s.rqIdx p 0x138 + 1) % 2 ^ 32 ∧ u.recSeq = s.recSeq + 1 ∧
       u.hostOut.length = s.hostOut.length + 2) ∧
     (∀ e i chunks, s.hostWaiter t = some (e, i) → (s.tile t).task = .running → ∃ u, exec (.hostWindowReadComplete t false chunks []) s = .next u ∧
       (u.tile t).task = .faulted) ∧
     (s.hostWaiter t = none → exec (.hostWindowReadComplete t true [] []) s = .next s) ∧
     (∀ i rest chunks bs b2 b4 s1 sl, s.hostWaiter t = some (0, i) → s.fnLive ((s.tile t).ctx / 1024 % 64) = true → cClass i.word.toNat = 1 →
       cOp i.word.toNat = 0 → cCvt i.word.toNat = false → cIsStore i.word.toNat = false → i.count ≠ 0 → (s.tile t).firstBad i true = none →
       sl = opSlots i.word.toNat i.count → s.readSlots t (fun _ => 8) (s.ownerOr t) i chunks [(0, sl.getD 0 ⟨false, 0, 0, .any, 0⟩),
         (2, sl.getD 2 ⟨false, 0, 0, .any, 0⟩), (4, sl.getD 4 ⟨false, 0, 0, .any, 0⟩)] = (.ok [bs, b2, b4], s1) →
       mapGet (s1.tile t).dq 0 [] = i :: rest → (∀ j, j ∈ rest → j.ord ≠ i.ord) → (∀ o, o ∈ (s1.tile t).outs → o.ord ≠ i.ord) →
       (i.walker (sl.getD 1 ⟨false, 0, 0, .any, 0⟩)).space < 4 → (∀ k, k = 3 ∨ k = 5 → (sl.getD k ⟨false, 0, 0, .any, 0⟩).used = false) →
       ∃ u, exec (.hostWindowReadComplete t true chunks []) s = .next u ∧ mapGet (u.tile t).dq 0 [] = { i with started := true, finished := true } :: rest ∧
         (∀ k, k ≠ t → u.tile k = s1.tile k) ∧ u.reg (pgTile t) 0xC08 0 = s1.reg (pgTile t) 0xC08 0 + BitVec.ofNat 64 (sl.getD 1 ⟨false, 0, 0, .any, 0⟩).n))

/-- A NOP completes with 0, an opcode that Table 15-7 does not list with 0x0663; a RUN or RESTORE whose tiles are not all LOADED completes with
0x0664, a STEP that is not the next of a gated run with 0x0665. None of them starts while the INTAKE may not take a request. An accepted RUN sets
the seed, the step before its start and the gate, starts every loaded tile at one beat, and completes with 0; an accepted STEP moves the gate on
by one step and completes with 0. RUN at once with its beat: log entries 87 and 89. -/
def Obligations.RequestsCompleteRunAndStep : Prop :=
  (∀ (s : State) (p r : Nat) (e : List Byte) (bad : List Nat) (c : Instr) (op : Nat → Bool), p < 64 →
     (c, r, op) ∈ [(Instr.nopReq p e, 0, fun o => o == 0), (.badRequest p e, 0x0663, fun o => decide (6 < o)), (.run p e, 0x0664, fun o => o == 2),
       (.restore p e bad, 0x0664, fun o => o == 4), (.step p e, 0x0665, fun o => o == 3)] →
     (s.canStart p e op = false → exec c s = .next s) ∧
     (s.canStart p e op = true → (r = 0x0664 → s.runnable p = false) → (r = 0x0665 → ∀ g, (s.pol p).gate = some g → reqField e 8 4 ≠ (g + 1) % 2 ^ 32) →
       ∃ u, exec c s = .next u ∧ s.completed u p r ∧ s.sameBut [.regs, .intakes, .hostOut] u)) ∧
  (∀ (s : State) (p : Nat) (e : List Byte) (im : Image), p < 64 →
     (s.canStart p e (fun o => o == 2) = true → s.runnable p = true → (s.pol p).image = some im → ∃ u, exec (.run p e) s = .next u ∧ s.completed u p 0 ∧
       (∀ t, t ∈ s.dirTiles p im → (u.tile t).task = .running ∧ (u.tile t).beatRef = s.startBeat (s.beat + 4) ∧ (u.tile t).cmdIndex = 0) ∧
       (∀ t, t ∉ s.dirTiles p im → u.tile t = s.tile t) ∧ (u.pol p).seed = reqField e 8 8 ∧
       (u.pol p).step = (reqField e 0x10 4 + 2 ^ 32 - 1) % 2 ^ 32 ∧
       (u.pol p).gate = (if bitOf (reqField e 1 1) 0 then some ((reqField e 0x10 4 + 2 ^ 32 - 1) % 2 ^ 32) else none)) ∧
     (∀ g, s.canStart p e (fun o => o == 3) = true → (s.pol p).gate = some g → reqField e 8 4 = (g + 1) % 2 ^ 32 → ∃ u, exec (.step p e) s = .next u ∧
       s.completed u p 0 ∧ (u.pol p).gate = some ((g + 1) % 2 ^ 32) ∧ (u.pol p).gateAt = s.beat ∧ u.tiles = s.tiles))

/-- A COPY whose lines all move completes with 0, one that moves fewer with 0x0666. A RESTORE of a polder with one die of tiles, whose slot passes its
checks, writes that die's tiles from it and completes with 0. A RESET clears its polder's tiles and completes with the reset, or at once with
0x0147. Lines moved before a failure: log entry 88. -/
def Obligations.CopyRestoreAndReset : Prop :=
  ∀ (s : State) (p : Nat) (e : List Byte), p < 64 →
    (∀ data fails s1, s.canStart p e (fun o => o == 5) = true → reqField e 0x18 4 % 128 = 0 → 128 ≤ reqField e 0x18 4 → reqField e 0x18 4 ≤ 2 ^ 31 →
      s.inRankRun p (reqField e 0x10 8) (reqField e 0x18 4) = true →
      (s.begun p e).copyLines p (reqField e 8 8) (reqField e 0x10 8) (bitOf (reqField e 1 1) 0) data (min (reqField e 0x18 4 / 128) fails) = (0, s1) →
      ∃ u, exec (.copy p e data fails) s = .next u ∧ s.completed u p (if fails < reqField e 0x18 4 / 128 then 0x0666 else 0) ∧ u.tiles = s.tiles ∧
        u.hbm = s1.hbm ∧ u.slices = s1.slices) ∧
    (∀ bad d im body s1, s.canStart p e (fun o => o == 4) = true → s.runnable p = true → (s.pol p).image = some im → s.snapDies p = [d] →
      (s.begun p e).checkSnap p d (reqField e 8 4) im (bad.contains d) = (.ok body, s1) → ∃ u, exec (.restore p e bad) s = .next u ∧ s.completed u p 0 ∧
        (∀ t, (∀ pt, pt ∈ s.snapTiles p im d → s.tileOf p pt ≠ some t) → u.tile t = s.tile t)) ∧
    (s.canStart p e (fun o => o == 6) = true → s.getF pgDev 0x31C 0 0 0 = 0 → s.armState ≠ 3 → ∃ u, exec (.resetReq p e) s = .next u ∧
      (∀ t, t ∈ s.tilesOf p → u.clears t) ∧ u.getF pgDev 0x31C 0 0 0 = 1 ∧ p ∈ u.inReset ∧ (u.intake p).entry = some (padTo 64 e)) ∧
    (s.canStart p e (fun o => o == 6) = true → s.getF pgDev 0x31C 0 0 0 = 1 ∨ s.armState = 3 → ∃ u, exec (.resetReq p e) s = .next u ∧
      s.completed u p 0x0147 ∧ u.tiles = s.tiles)

/-- A LOAD whose dies are free begins at once: its tiles clear, its stop and its image are gone, its image's lines are protected. LOAD_DONE waits for
the clears; an image that reads and passes every check is installed and its tiles are LOADED; one that cannot be read ends with nothing installed.
An abort is taken note of only by the load's lead die. Phases end together at LOAD_DONE: log entries 91 and 99. -/
def Obligations.LoadsBeginAndEnd : Prop :=
  ∀ (s : State) (p : Nat), p < 64 →
    (∀ e, s.canStart p e (fun o => o == 1) = true → (∀ t, t ∈ s.tilesOf p → (s.tile t).task ≠ .running) → (s.pol p).loading = none → s.loadWait = [] →
      s.armChanges p = false → (∀ d, d ∈ s.polDies p → s.loaderBusy [] d = false) → ∃ u, exec (.load p e) s = .next u ∧
        (u.pol p).loading = some { tag := reqField e 4 4, addr := reqField e 8 8, length := reqField e 0x10 4, lead := s.leadDie p } ∧
        (u.pol p).image = none ∧ (u.pol p).stopped = false ∧ (u.pol p).prot = some (reqField e 8 8, ceilDiv (reqField e 0x10 4) 512 * 512) ∧
        (∀ t, t ∈ s.tilesOf p → u.clears t) ∧ u.sealed p = false) ∧
    ((s.pol p).loading = none → ∀ rf us tm, exec (.loadDone p rf us tm) s = .next s) ∧
    (∀ r us, (s.pol p).loading = some r → (∃ t, t ∈ s.tilesOf p ∧ s.clears t) → ∀ rf tm, exec (.loadDone p rf us tm) s = .next s) ∧
    (∀ r us m s2, (s.pol p).loading = some r → (∀ t, t ∈ s.tilesOf p → ¬s.clears t) → r.abort = false → s.loadWait = [] →
      (∀ tm, ∃ u, exec (.loadDone p true us tm) s = .next u ∧ (u.pol p).loading = none ∧ (u.pol p).image = none ∧ u.sealed p = true) ∧
      ((((s.bound 4 p).foldl State.flushQ s).setReg (pgDie r.lead) 0x320 0 (BitVec.ofNat 64 0x1FFF_FFFF_FFFF)).readImage p r false = (some m, s2) →
        m.readChecks = none → s2.verifyPlaces p m = none → s2.verifyTiles p r.addr m m.vtiles 0 0 = none → ∃ u, exec (.loadDone p false us 0) s = .next u ∧
          (u.pol p).loading = none ∧ (∃ im, (u.pol p).image = some im ∧ im.digest = m.digest ∧ im.kneads = m.kneads) ∧ u.sealed p = true ∧
          ∀ v t, v ∈ m.vtiles → s.tileOf p v.dir.ptile = some t → (u.tile t).task = .loaded)) ∧
    (∀ d val r, d < 4 → bitOf val 31 = true → p = bitsOf val 5 0 → (s.pol p).loading = some r → ∃ u, exec (.loadAbort d val) s = .next u ∧
      (u.pol p).loading = some (if r.lead = d then { r with abort := true } else r) ∧ s.sameBut [.pols] u) ∧
    (∀ d val, d < 4 → bitOf val 31 = false → exec (.loadAbort d val) s = .next s)

/-! PCIe functions (15_host_interface.md R428 to R430). -/

/-- D3hot and a cleared Bus Master Enable keep a function that is there from its INTAKE's writes, which waits; its return to D0 with Bus Master Enable
set lets the INTAKE go on. VF Enable gives VFs 1 to NumVFs their configuration space, at reset where it comes or goes. A function level reset
resets its polder and its INTAKE page; that of the PF all of them and VF Enable. PERST, a hot reset, a secondary bus reset and a link that goes
down reset every function and INTAKE, and the device core where boot has reached READY. PCIe defaults and early resets: log entries 4 and 85. -/
def Obligations.PcieFunctions : Prop :=
  (∀ (s : State) (f : Nat), f < 64 →
     (s.fnThere f = true →
       (∃ u, exec (.d3hotEntry f) s = .next u ∧ u.fn f = { s.fn f with d3hot := true } ∧ (∀ k, k ≠ f → u.fn k = s.fn k) ∧
         u.inState f = (if s.inState f = 1 ∨ s.inState f = 2 then 3 else s.inState f) ∧ s.sameBut [.regs, .fns] u) ∧
       (∃ u, exec (.busMasterEnableChange f false) s = .next u ∧ u.fn f = { s.fn f with bme := false } ∧ (∀ k, k ≠ f → u.fn k = s.fn k) ∧
         u.inState f = (if s.inState f = 1 ∨ s.inState f = 2 then 3 else s.inState f) ∧ s.sameBut [.regs, .fns] u) ∧
       (∃ u, exec (.d0Entry f) s = .next u ∧ u.fn f = { s.fn f with d3hot := false } ∧ (∀ k, k ≠ f → u.fn k = s.fn k)) ∧
       (∃ u, exec (.busMasterEnableChange f true) s = .next u ∧ u.fn f = { s.fn f with bme := true } ∧ (∀ k, k ≠ f → u.fn k = s.fn k)) ∧
       (∀ c, c ∈ [Instr.d0Entry f, .busMasterEnableChange f true] → (c = .d0Entry f → (s.fn f).bme = true) →
         (c = .busMasterEnableChange f true → (s.fn f).d3hot = false) → s.inState f = 3 → (s.intake f).result = none → s.rqOwed f ≤ 2 ^ s.rqLog f →
         ∃ u, exec c s = .next u ∧ u.inState f = if (s.intake f).entry = none then 1 else 2)) ∧
     (s.fnThere f = false → ∀ c, c ∈ [Instr.d3hotEntry f, .d0Entry f, .busMasterEnableChange f true, .busMasterEnableChange f false] → exec c s = .next s) ∧
     (∀ en num, ∃ u, exec (.vfEnableChange en num) s = .next u ∧ u.numVfs = num ∧ u.fn 0 = s.fn 0 ∧ s.sameBut [.regs, .fns, .numVfs] u ∧
       (1 ≤ f → u.fn f = if (s.fn f).enabled = (en && decide (f ≤ num)) then s.fn f else { enabled := en && decide (f ≤ num) }))) ∧
  (∀ (s : State),
     (∀ n, 1 ≤ n → n < 64 → ∃ u, exec (.flrVf n) s = .next u ∧ u.fn n = { enabled := (s.fn n).enabled } ∧ u.intake n = {} ∧ (u.pol n).image = none ∧
       (u.pol n).seed = 0 ∧ u.getF (pgIntake n) 0x100 0 0 0 = 0 ∧ ∀ t, t ∈ s.tilesOf n → u.clears t) ∧
     (exec (.flrVf 0) s = .fault .noSuchUnit) ∧
     (∃ u, exec .flrPf s = .next u ∧ u.fns = [] ∧ u.numVfs = 0 ∧ ∀ p, p < 64 → u.intake p = {} ∧ (u.pol p).image = none ∧ (u.pol p).seed = 0 ∧
       ∀ t, t ∈ s.tilesOf p → u.clears t) ∧
     (∀ c, c ∈ [Instr.perstAssert, .hotReset, .secondaryBusReset, .pcieLinkDown] → (c = .perstAssert → s.module.perst = false) →
       ∃ u, exec c s = .next u ∧ u.fns = [] ∧ u.numVfs = 0 ∧ (∀ p, p < 64 → u.intake p = {} ∧ (u.pol p).seed = 0) ∧
         (s.bootState = 4 → ∀ t, t < 4864 → s.part (pgTile t) ≠ 1 → u.clears t) ∧ (s.bootState ≠ 4 → u.tiles = s.tiles ∧ u.hbm = s.hbm) ∧
         (c = .perstAssert → u.module.perst = true ∧ u.module.portTrained = false)) ∧
     (s.module.perst = true → exec .perstAssert s = .next s) ∧
     (∃ u, exec .perstDeassert s = .next u ∧ u.module.perst = false ∧ u.module.portTrained = s.module.pwrGood ∧ s.sameBut [.module] u))

/-! Register accesses (15_host_interface.md R431 to R438; 16_debug_and_observation.md R468, R473). -/

/-- A register write that no function decodes, or to no page, or to one that does not answer, does nothing; one of a wrong size or alignment only
records 0x0151. A low half of a 64-bit register waits for its high half, and the two then act as one write of 8 bytes. A ring register of an
enabled INTAKE refuses a write with 0x0661. A field takes a write as its access code says: RW the bits written, W1C 0 where 1 is written, LK and
ST the bits written unless the owner is sealed or an activation is armed, RO and WO nothing. A write of a WEIR register acts on its fields so,
stages its entry where it has ST fields and none is armed, else records 0x037D, and changes no active value. 0x0151, halves and discarded
accesses: log entries 42, 105 and 106. -/
def Obligations.RegisterWritesActByCode : Prop :=
  (∀ (s : State) (f off size v : Nat), f < 64 →
     (s.decodes f = false → exec (.registerWrite f off size v) s = .next s) ∧
     (s.decodes f = true → goodSize off size = false → ∃ u, exec (.registerWrite f off size v) s = .next u ∧ u.getF pgDev 0x18 0 31 16 = 0x0151 ∧
       s.sameBut [.regs] u) ∧
     (goodSize off size = true → (∀ pg, s.barPage f off = some pg → s.pageAnswers pg = false ∨ s.loadFenced pg = true) →
       exec (.registerWrite f off size v) s = .next s) ∧
     (∀ pg b i r, s.decodes f = true → goodSize off 4 = true → s.barPage f off = some pg → s.pageAnswers pg = true → s.loadFenced pg = false →
       pageBlock pg = some (b, i) → b ≠ .mbox → regHalf b (off % 4096) = some (r, 1) → ∃ u, exec (.registerWrite f off 4 v) s = .next u ∧
         mapFind? u.lowHeld (halfKey pg r) = some (v % 2 ^ 32) ∧ s.sameBut [.lowHeld] u) ∧
     (∀ pg b i r lo, s.barPage f off = some pg → pageBlock pg = some (b, i) → b ≠ .mbox → off % 8 = 4 → regHalf b (off % 4096) = some (r, 2) →
       mapFind? s.lowHeld (halfKey pg r) = some lo → lo < 2 ^ 32 →
       exec (.registerWrite f off 4 v) s = exec (.registerWrite f (off - 4) 8 (lo + v % 2 ^ 32 * 2 ^ 32)) s) ∧
     (∀ p, p < 64 → s.decodes 0 = true → s.getF (pgIntake p) 0x100 0 0 0 = 1 → ∃ u, exec (.registerWrite 0 (pgIntake p * 4096 + 0x108) 8 v) s = .next u ∧
       u.reg (pgIntake p) 0x108 0 = s.reg (pgIntake p) 0x108 0 ∧ u.getF (pgIntake p) 0x18 0 31 16 = 0x0661)) ∧
  ((∀ (sealedP busy : Bool) (v : Nat) (w : Word) (f : FieldSpec), f.lo ≤ f.hi → f.hi < 64 → fld (writeField sealedP busy v w f) f.hi f.lo =
     match f.acc with
     | .rw => bitsOf v f.hi f.lo
     | .w1c => fld w f.hi f.lo &&& (2 ^ (f.hi + 1 - f.lo) - 1 - bitsOf v f.hi f.lo)
     | .lk => if sealedP then fld w f.hi f.lo else bitsOf v f.hi f.lo
     | .st => if busy then fld w f.hi f.lo else bitsOf v f.hi f.lo
     | .ro => fld w f.hi f.lo
     | .wo => fld w f.hi f.lo) ∧
   ∀ (s : State) (r : RegSpec) (v : Nat) (st : Bool), s.decodes 0 = true → s.bootState = 4 → regAt .weir r.off = some r → r.wide = false → 0x100 ≤ r.off →
     r.off < 4096 → r.off % 4 = 0 → (∀ f, f ∈ r.fields → f.acc ≠ .lk) → st = r.fields.any (·.acc == .st) →
     ∃ u, exec (.registerWrite 0 (pgWeir * 4096 + r.off) 4 v) s = .next u ∧
       u.reg pgWeir r.off (s.selOf pgWeir r) = r.fields.foldl (writeField false (st && s.armBusy) (v % 2 ^ 32)) (s.reg pgWeir r.off (s.selOf pgWeir r)) ∧
       s.sameBut [.regs, .staged] u ∧ (st = true → s.armBusy = false → regKey pgWeir r.off (s.selOf pgWeir r) ∈ u.staged) ∧
       (st = false ∨ s.armBusy = true → u.staged = s.staged) ∧ (st = true → s.armBusy = true → u.getF pgWeir 0x18 0 31 16 = 0x037D))

/-- A read answers what its register shows, 0 where there is no page or it does not answer, all ones with 0x0151 for a wrong size or alignment; the
low half of a 64-bit register captures the high half for the next read of it. JTAG reads and writes the PF's registers where the board allows it,
and is BYPASS elsewhere. Halves, discarded accesses and JTAG: log entries 105, 106 and 114. -/
def Obligations.ReadsShowTheirRegister : Prop :=
  ∀ (s : State) (f off : Nat), f < 64 →
    (∀ size, s.decodes f = false → exec (.barRead f off size) s = .next s) ∧
    (∀ size, s.decodes f = true → goodSize off size = false → ∃ u, exec (.barRead f off size) s = .next u ∧ u.readData = 0xFFFF_FFFF ∧
      u.getF pgDev 0x18 0 31 16 = 0x0151 ∧ s.sameBut [.regs, .readData] u) ∧
    (∀ size, s.decodes f = true → goodSize off size = true → (∀ pg, s.barPage f off = some pg → s.pageAnswers pg = false) →
      ∃ u, exec (.barRead f off size) s = .next u ∧ u.readData = 0 ∧ s.sameBut [.readData] u) ∧
    (∀ pg b i r, s.decodes f = true → off % 4 = 0 → s.barPage f off = some pg → s.pageAnswers pg = true → pageBlock pg = some (b, i) → b ≠ .mbox →
      ¬(b = .die ∧ off % 4096 = 0x300) → ¬(b = .trace ∧ off % 4096 = 0x15C) →
      (regHalf b (off % 4096) = some (r, 0) → ∃ u, exec (.barRead f off 4) s = .next u ∧ u.readData = s.view 0 f pg r ∧ s.sameBut [.readData] u) ∧
      (regHalf b (off % 4096) = some (r, 1) → ∃ u, exec (.barRead f off 4) s = .next u ∧ u.readData = s.view 0 f pg r % 2 ^ 32 ∧
        mapFind? u.hiCap (halfKey pg r) = some (s.view 0 f pg r / 2 ^ 32) ∧ s.sameBut [.readData, .hiCap] u) ∧
      (∀ c, regHalf b (off % 4096) = some (r, 2) → mapFind? s.hiCap (halfKey pg r) = some c → ∃ u, exec (.barRead f off 4) s = .next u ∧ u.readData = c ∧
        mapFind? u.hiCap (halfKey pg r) = none ∧ s.sameBut [.readData, .hiCap] u)) ∧
    (∀ wr size v, s.module.jtagRegs = false → ∃ u, exec (.jtagRegisterAccess wr off size v) s = .next u ∧ u.module.jtagOut = 0 ∧ s.sameBut [.module] u) ∧
    (∀ size v, s.module.jtagRegs = true → s.decodes 0 = true →
      exec (.jtagRegisterAccess true off size v) s = exec (.registerWrite 0 off size v) s ∧
      ∃ u w, exec (.jtagRegisterAccess false off size v) s = .next u ∧ exec (.barRead 0 off size) s = .next w ∧ u.module.jtagOut = w.readData)

/-- PG_CTRL.cnt_clear sets the six common counters of its page to 0 and no other register. A watch slot that is due writes its counter's value into
the trace ring, and one that is not writes nothing. Watch slots without a register: log entry 115. -/
def Obligations.CountersClearAndAreWatched : Prop :=
  (∀ (s : State) (pg : Nat), (pageBlock pg).isSome = true → ∃ u, exec (.counterClear pg) s = .next u ∧
    (∀ i, i < 6 → u.reg pg (0x30 + 8 * i) 0 = 0) ∧ (∀ k, (∀ i, i < 6 → k ≠ regKey pg (0x30 + 8 * i) 0) → mapFind? u.regs k = mapFind? s.regs k) ∧
    s.sameBut [.regs] u) ∧
  ∀ (s : State) (d : Nat), d < 4 →
    ((∀ k, k < 16 → s.getF (pgTrace d) 0x184 k 15 15 = 0 ∨ s.beat % max 1 (s.getF (pgTrace d) 0x188 k 15 0) ≠ 0) →
      exec (.watchSample d) s = .next s) ∧
    (∀ k, k < 16 → s.getF (pgTrace d) 0x184 k 15 15 = 1 → s.beat % max 1 (s.getF (pgTrace d) 0x188 k 15 0) = 0 →
      (∀ j, j < 16 → j ≠ k → s.getF (pgTrace d) 0x184 j 15 15 = 0) → s.getF (pgTrace d) 0x100 0 0 0 = 1 → s.getF (pgTrace d) 0x100 0 20 20 = 1 →
      (s.ring d).fill < 524288 → (s.ring d).dropPend = 0 → ∃ u cyc, exec (.watchSample d) s = .next u ∧ (u.ring d).fill = (s.ring d).fill + 1 ∧
        (u.ring d).seq = (s.ring d).seq + 1 ∧ s.sameBut [.regs, .trace, .freeCtr] u ∧
        mapFind? (u.ring d).recs (s.ring d).head = some (traceBytes 4 d (pgTrace d) 0xFFFF (s.ring d).seq s.beat cyc
          (natLE 2 (s.getF (pgTrace d) 0x184 k 14 0) ++ natLE 2 (s.getF (pgTrace d) 0x184 k 27 16) ++ natLE 1 k ++ zeros 3 ++
            natLE 8 (s.watched d (s.getF (pgTrace d) 0x184 k 14 0) (s.getF (pgTrace d) 0x184 k 27 19 * 8)))))

/-! Management (15_host_interface.md R451 to R455). -/

/-- The mailbox: a send from IDLE or DONE with 1 to 1,024 bytes is BUSY, with any other length ERROR 1; while BUSY an answer makes it DONE with its
bytes and length, a refusal or a timeout ERROR; an abort makes it IDLE. A firmware image transferred goes to the staged bytes of its component;
one that verifies takes effect at the next cold reset, from the slot not in use, and another changes no slot. Without the Steward an update does
nothing. Log entry 112. -/
def Obligations.MailboxAndFirmware : Prop :=
  (∀ (s : State),
     (s.mboxState = 0 ∨ s.mboxState = 2 → ∃ u, exec .mboxSend s = .next u ∧ s.sameBut [.regs] u ∧
       (if 1 ≤ s.getF pgMbox 0x108 0 10 0 ∧ s.getF pgMbox 0x108 0 10 0 ≤ 1024 then u.mboxState = 1
        else u.mboxState = 3 ∧ u.getF pgMbox 0x104 0 15 8 = 1)) ∧
     (s.mboxState = 1 ∨ s.mboxState = 3 → exec .mboxSend s = .next s) ∧
     (∃ u, exec .mboxAbort s = .next u ∧ u.mboxState = 0 ∧ s.sameBut [.regs] u) ∧
     (∀ data, s.mboxState = 1 → (∃ u, exec (.mboxResponse 0 data) s = .next u ∧ u.mboxState = 2 ∧ u.module.mboxRsp = data.take 1024 ∧
       u.getF pgMbox 0x104 0 26 16 = min data.length 1024 ∧ s.sameBut [.regs, .module] u) ∧
       (∀ err, 1 ≤ err → err < 256 → ∃ u, exec (.mboxResponse err data) s = .next u ∧ u.mboxState = 3 ∧ u.getF pgMbox 0x104 0 15 8 = err ∧
         s.sameBut [.regs] u)) ∧
     (s.mboxState = 1 → ∃ u, exec .mboxTimeout s = .next u ∧ u.mboxState = 3 ∧ u.getF pgMbox 0x104 0 15 8 = 3 ∧ s.sameBut [.regs] u) ∧
     (s.mboxState ≠ 1 → exec .mboxTimeout s = .next s ∧ ∀ err data, exec (.mboxResponse err data) s = .next s)) ∧
  (∀ (s : State) (comp : Nat),
     (s.updates comp = false → (∀ off data, exec (.fwUpdateTransfer comp off data) s = .next s) ∧
       ∀ a b v, exec (.verifyComplete comp a b v) s = .next s) ∧
     (s.updates comp = true →
       (∀ off data, ∃ u, exec (.fwUpdateTransfer comp off data) s = .next u ∧
         mapGet u.module.flash comp {} = { mapGet s.module.flash comp {} with staged := memWrite (mapGet s.module.flash comp {}).staged off data } ∧
         (∀ k, k ≠ comp → mapGet u.module.flash k {} = mapGet s.module.flash k {}) ∧ s.sameBut [.module] u) ∧
       (∀ ver, ∃ u, exec (.verifyComplete comp true true ver) s = .next u ∧
         (mapGet u.module.flash comp {}).next = 1 - (mapGet s.module.flash comp {}).inUse ∧
         mapGet (mapGet u.module.flash comp {}).versions (1 - (mapGet s.module.flash comp {}).inUse) 0 = ver % 65536 ∧
         (mapGet u.module.flash comp {}).inUse = (mapGet s.module.flash comp {}).inUse ∧ s.sameBut [.module] u) ∧
       (∀ a b ver, (a && b) = false → ∃ u, exec (.verifyComplete comp a b ver) s = .next u ∧
         mapGet u.module.flash comp {} = { mapGet s.module.flash comp {} with staged := [] } ∧ s.sameBut [.module] u)))

/-- Each management request on a path that the Steward serves sends its answer over that path and, where it asks for a value, that value; on a path
that it does not serve nothing is sent. Set requests act before they are answered: an endpoint ID is kept for its path, a power cap or a host
level of Table 15-11 acts as a write of its register, and another is refused; SPDM takes only its one set of algorithms, and signs challenges and
measurements over the nonce. What DMTF documents fix is the model's: log entries 7 and 113. -/
def Obligations.ManagementAnswersAndSettings : Prop :=
  (∀ (s : State) (b x : Nat) (c : Instr) (a : MgmtAnswer) (n : Nat), b < n →
     (c, n, a) ∈ [
       (Instr.getEndpointId b, 3, { binding := b, kind := .getEndpointId, values := [mapGet s.module.eids b 0] }),
       (.getMctpVersionSupport b x, 3, { binding := b, kind := .mctpVersions, bytes := mgmtBytes 0 x 0 (Config.mgmtLen 0 x) }),
       (.getMessageTypeSupport b, 3, { binding := b, kind := .messageTypes, bytes := mgmtBytes 1 0 0 (Config.mgmtLen 1 0) }),
       (.getEndpointUuid b, 3, { binding := b, kind := .endpointUuid, bytes := mgmtBytes 2 0 0 (Config.mgmtLen 2 0) }),
       (.pldmType0Request b x, 3, { binding := b, kind := .pldmBase, bytes := mgmtBytes 3 x 0 (Config.mgmtLen 3 x) }),
       (.getPdr b x, 3, { binding := b, kind := .pdr, bytes := mgmtBytes 4 x 0 (Config.mgmtLen 4 x) }),
       (.getSensorReading b 28, 3, { binding := b, kind := .sensor, values := [s.getF pgPwr 0x10C 0 15 0] }),
       (.getSensorReading b 31, 3, { binding := b, kind := .sensor, values := [s.level] }),
       (.getSensorReading b 0, 3, { binding := b, kind := .sensor, refused := true }),
       (.getStateSensorReadings b 32, 3, { binding := b, kind := .stateSensor, values := (List.range 10).map (fun r => b2n (s.activeMask.testBit r)) }),
       (.getNumericEffecterValue b 1, 3, { binding := b, kind := .effecterValue, values := [s.getF pgPwr 0x100 0 7 0 * 5] }),
       (.getNumericEffecterValue b 2, 3, { binding := b, kind := .effecterValue, values := [s.getF pgPwr 0x114 0 4 0] }),
       (.getVersion b, 4, { binding := b, kind := .spdmVersion, values := [1, 2] }),
       (.getCapabilities b, 4, { binding := b, kind := .spdmCapabilities, values := [1, 1, 2] }),
       (.getDigests b, 4, { binding := b, kind := .digests, bytes := mgmtBytes 5 0 0 48 }),
       (.getCertificate b 0 x 64, 4, { binding := b, kind := .certificate, bytes := mgmtBytes 6 0 x (min 64 (Config.mgmtLen 6 0 - x)) }),
       (.getCertificate b 1 x 64, 4, { binding := b, kind := .certificate, refused := true })] →
     (s.answers b = true → ∃ u, exec c s = .next u ∧ u.mgmtOut = a :: s.mgmtOut ∧ s.sameBut [.mgmtOut] u) ∧ (s.answers b = false → exec c s = .next s)) ∧
  (∀ (s : State) (b : Nat), s.answers b = true →
     (b < 3 →
       (∀ eid, ∃ u, exec (.setEndpointId b eid) s = .next u ∧ mapGet u.module.eids b 0 = eid % 256 ∧
         (∀ k, k ≠ b → mapGet u.module.eids k 0 = mapGet s.module.eids k 0) ∧ u.mgmtOut.length = s.mgmtOut.length + 1 ∧ s.sameBut [.module, .mgmtOut] u) ∧
       (∀ v, 600 ≤ v → v ≤ 1200 → v % 5 = 0 → ∃ u a, exec (.setNumericEffecterValue b 1 v) s = .next u ∧ u.getF pgPwr 0x100 0 7 0 = v / 5 ∧
         u.mgmtOut = a :: s.mgmtOut ∧ a.refused = false) ∧
       (∀ v, 6 ≤ v → v ≤ 16 → ∃ u a, exec (.setNumericEffecterValue b 2 v) s = .next u ∧ u.getF pgPwr 0x114 0 4 0 = v ∧
         u.mgmtOut = a :: s.mgmtOut ∧ a.refused = false) ∧
       (∀ id v, ¬(id = 1 ∧ 600 ≤ v ∧ v ≤ 1200 ∧ v % 5 = 0) → ¬(id = 2 ∧ 6 ≤ v ∧ v ≤ 16) → ∃ u a, exec (.setNumericEffecterValue b id v) s = .next u ∧
         u.mgmtOut = a :: s.mgmtOut ∧ a.refused = true ∧ s.sameBut [.mgmtOut] u)) ∧
     (b < 4 →
       (∀ asym hash, ∃ u a, exec (.negotiateAlgorithms b asym hash) s = .next u ∧ u.mgmtOut = a :: s.mgmtOut ∧
         (a.refused = true ↔ b ∉ u.module.algs) ∧ (b ∈ u.module.algs ↔ asym.testBit 7 = true ∧ hash.testBit 1 = true)) ∧
       (∀ nonce, ∃ u a, exec (.challenge b 0 nonce) s = .next u ∧ u.mgmtOut = a :: s.mgmtOut ∧ a.refused = false ∧ a.bytes.take nonce.length = nonce ∧
         a.bytes.length = nonce.length + 96 ∧ s.sameBut [.freeCtr, .mgmtOut] u) ∧
       (∀ slot nonce, slot ≠ 0 → ∃ u a, exec (.challenge b slot nonce) s = .next u ∧ u.mgmtOut = a :: s.mgmtOut ∧ a.refused = true) ∧
       (∀ idx nonce is, measured idx = some is → ∃ u a, exec (.getMeasurements b idx nonce) s = .next u ∧ u.mgmtOut = a :: s.mgmtOut ∧
         a.bytes.length = nonce.length + (48 * is.length + 96) ∧ a.values.take (1 + is.length) = 4 :: is ∧ s.sameBut [.freeCtr, .mgmtOut] u)))

/-! Errors, records and numbers. -/

/-- A code is the last one of its page, the first one too where none stood, with the beat; a fault record goes to the PF's ring and to its polder's,
and the first TASK or POLDER record since it was cleared stands in the DEV page, later ones are counted. A record for an INTAKE that can write
goes into the next slot of its ring, body then trailer with the phase, and its tail and its polder's heartbeat advance; else it waits in the
backlog of 64, and one more is counted as lost. Rings and sequence numbers: log entries 41 and 43. -/
def Obligations.FaultsAndRecords : Prop :=
  ((∀ (s : State) (pg code : Nat), code < 65536 → (s.err pg code).getF pg 0x18 0 31 16 = code ∧ (s.err pg code).getF pg 0x18 0 0 0 = 1 ∧
     (s.getF pg 0x18 0 0 0 = 0 → (s.err pg code).getF pg 0x1C 0 15 0 = code ∧ (s.err pg code).getF pg 0x1C 0 31 16 = s.beat % 65536) ∧
     (s.getF pg 0x18 0 0 0 = 1 → (s.err pg code).getF pg 0x18 0 1 1 = 1 ∧ (s.err pg code).reg pg 0x1C 0 = s.reg pg 0x1C 0) ∧ s.sameBut [.regs] (s.err pg code)) ∧
   (∀ (s : State) (f : FaultInfo), (s.fault f).recSeq = s.recSeq + 1 ∧ s.sameBut [.regs, .freeCtr, .recSeq, .pols, .intakes, .hostOut, .trace] (s.fault f) ∧
     (f.cls = 3 ∨ f.cls = 4 → s.getF pgDev 0x300 0 48 48 = 0 → (s.fault f).getF pgDev 0x300 0 47 32 = f.code % 65536 ∧
       (s.fault f).getF pgDev 0x300 0 15 0 = f.ctx % 65536 ∧ (s.fault f).getF pgDev 0x300 0 28 16 = f.tile % 8192 ∧
       (s.fault f).getF pgDev 0x300 0 48 48 = 1 ∧ (s.fault f).reg pgDev 0x308 0 = BitVec.ofNat 64 (s.beat % 2 ^ 56)) ∧
     (f.cls = 3 ∨ f.cls = 4 → s.getF pgDev 0x300 0 48 48 = 1 → (s.fault f).reg pgDev 0x300 0 = s.reg pgDev 0x300 0 ∧
       (s.fault f).reg pgDev 0x308 0 = s.reg pgDev 0x308 0 ∧
       (s.fault f).getF pgDev 0x310 0 31 0 = min (s.getF pgDev 0x310 0 31 0 + 1) (2 ^ 32 - 1)))) ∧
  (∀ (s : State) (p : Nat) (r : Record), p < 64 →
     ((s.intake p).backlog = [] → s.canPost p = true → (s.postTo p r).rqIdx p 0x138 = (s.rqIdx p 0x138 + 1) % 2 ^ 32 ∧
       ((s.postTo p r).pol p).heartbeat = ((s.pol p).heartbeat + 1) % 2 ^ 64 ∧ s.sameBut [.regs, .pols, .hostOut] (s.postTo p r) ∧
       ∃ w v, (s.postTo p r).hostOut = w :: v :: s.hostOut ∧
         v.addr = (s.reg (pgIntake p) 0x128 0).toNat + s.rqIdx p 0x138 % 2 ^ s.recLog p * 128 ∧ v.bytes = padTo 120 r.body ∧ w.addr = v.addr + 120 ∧
         w.bytes.getD 7 0 = BitVec.ofNat 8 ((s.rqIdx p 0x138 / 2 ^ s.recLog p + 1) % 2) ∧ w.fn = p ∧ v.fn = p) ∧
     ((s.intake p).backlog ≠ [] ∨ s.canPost p = false → (s.intake p).backlog.length < 64 →
       ((s.postTo p r).intake p).backlog = (s.intake p).backlog ++ [r] ∧ (s.postTo p r).getF (pgIntake p) 0x13C 0 6 0 = (s.intake p).backlog.length + 1 ∧
       s.sameBut [.regs, .intakes] (s.postTo p r)) ∧
     (64 ≤ (s.intake p).backlog.length → ((s.postTo p r).intake p).lostPend = (s.intake p).lostPend + 1 ∧
       ((s.postTo p r).intake p).backlog = (s.intake p).backlog ∧ s.sameBut [.regs, .intakes] (s.postTo p r)))

/-- The numbers that MOVE, CONV, MM and VEC share: a loaf packs its element codes without loss; rounding picks the nearest multiple of the spacing,
the even one in a tie, or the one towards zero; every finite code of a float format is its own rounding; an INT8 chunk adds its exact sum of
products modulo 2^32; an INT32 lane adds modulo 2^32; a NaN operand gives the canonical NaN. Log entry 51. -/
def Obligations.NumbersPackRoundAndAccumulate : Prop :=
  (∀ (f : Nat) (cs : List Nat), f ≤ 9 → cs.length = epl f → (∀ c, c ∈ cs → c < 2 ^ fmtWidth f) →
    unpackLoaf f (packLoaf f cs) = cs ∧ (packLoaf f cs).length = 512) ∧
  (∀ (m p : Nat) (e ue : Int), e < ue → p = 2 ^ (ue - e).toNat →
    (2 * (m - (roundTo .rne m e ue).1 * p) ≤ p ∧ 2 * ((roundTo .rne m e ue).1 * p - m) ≤ p ∧
      (2 * (m % p) = p → (roundTo .rne m e ue).1 % 2 = 0)) ∧
    ((roundTo .rtz m e ue).1 * p ≤ m ∧ m < ((roundTo .rtz m e ue).1 + 1) * p) ∧ ∀ r, (roundTo r m e ue).2 = false ↔ m % p = 0) ∧
  (∀ (f c m : Nat) (n : Bool) (e : Int) (r : Rnd), f ≤ 7 → c < 2 ^ fmtWidth f → decodeElem f false c = .fin n m e → m ≠ 0 →
    roundFloat f r m e = (c % signBit f, false) ∧ n = decide (signBit f ≤ c)) ∧
  (∀ (as bs : List Nat) (sa sb c : Nat), as.length = bs.length →
    (mmElem .int (as.map (decodeElem 8 false)) (bs.map (decodeElem 8 false)) sa sb c).1 =
      toU 32 (sext 32 c + ((as.zip bs).map (fun q => sext 8 q.1 * sext 8 q.2)).foldr (· + ·) 0)) ∧
  (∀ x y a : Nat, x < 2 ^ 32 → y < 2 ^ 32 → (laneInt 1 x y a).1 = (x + y) % 2 ^ 32) ∧
  ∀ (free f vop x y z a : Nat), vop ∈ [1, 2, 3, 4, 5, 6] → decodeElem f false x = .nan → (laneFloat free f vop x y z a).1 = canonNaN f

end
end

