-- ==== Sys2Proof/Laws/Memory.lean ====
section
/-!
SUPPORT. The memory operations keep the canonical form, and reads after writes read what was written.
-/
namespace Sys2Proof.Machine

/-- Canonical form as addresses strictly rising and no cell zero. -/
theorem Memory.wf_iff (m : List Host.Cell) : Memory.wf m = true ↔ m.Pairwise (fun x y => x.1 < y.1) ∧ ∀ c ∈ m, c.2 ≠ 0 := by
  induction m with
  | nil => simp [Memory.wf]
  | cons c m ih =>
    obtain ⟨a, b⟩ := c
    cases m with
    | nil => simp [Memory.wf]
    | cons d m =>
      obtain ⟨a', b'⟩ := d
      simp only [Memory.wf, Bool.and_eq_true, ih, bne_iff_ne, decide_eq_true_eq, List.pairwise_cons, List.mem_cons, forall_eq_or_imp]
      constructor
      · rintro ⟨⟨h1, h2⟩, ⟨h3, h4⟩, h5, h6⟩
        exact ⟨⟨⟨h2, fun x hx => Nat.lt_trans h2 (h3 x hx)⟩, h3, h4⟩, h1, h5, h6⟩
      · rintro ⟨⟨⟨h2, _⟩, h3, h4⟩, h1, h5, h6⟩
        exact ⟨⟨h1, h2⟩, ⟨h3, h4⟩, h5, h6⟩

theorem memory_nil_wf : Memory.wf [] = true := rfl

theorem filter_wf {m : List Host.Cell} (p : Host.Cell → Bool) (h : Memory.wf m = true) : Memory.wf (m.filter p) = true := by
  rw [Memory.wf_iff] at *
  exact ⟨h.1.filter p, fun c hc => h.2 c (List.mem_filter.1 hc).1⟩

/-- Bytes written from `a` give cells from `a` to their end, none zero. -/
theorem cellsOf_mem (bs : List Byte) : ∀ (a : Nat) (c : Host.Cell), c ∈ cellsOf a bs → a ≤ c.1 ∧ c.1 < a + bs.length ∧ c.2 ≠ 0 := by
  induction bs with
  | nil => intro a c h; simp [cellsOf] at h
  | cons b bs ih =>
    intro a c h
    simp only [cellsOf] at h
    split at h
    · have := ih (a + 1) c h; simp only [List.length_cons]; refine ⟨?_, ?_, this.2.2⟩ <;> omega
    · rename_i hb
      rcases List.mem_cons.1 h with rfl | h
      · simp only [List.length_cons]; exact ⟨Nat.le_refl _, by omega, hb⟩
      · have := ih (a + 1) c h; simp only [List.length_cons]; refine ⟨?_, ?_, this.2.2⟩ <;> omega

theorem cellsOf_pairwise (bs : List Byte) : ∀ a, (cellsOf a bs).Pairwise (fun x y => x.1 < y.1) := by
  induction bs with
  | nil => intro a; simp [cellsOf]
  | cons b bs ih =>
    intro a
    simp only [cellsOf]
    split
    · exact ih (a + 1)
    · refine List.pairwise_cons.2 ⟨fun c hc => ?_, ih (a + 1)⟩
      have := cellsOf_mem bs (a + 1) c hc; simp only; omega

/-- A write keeps the canonical form. -/
theorem memWrite_wf {m : List Host.Cell} (a : Nat) (bs : List Byte) (h : Memory.wf m = true) : Memory.wf (memWrite m a bs) = true := by
  rw [Memory.wf_iff] at *
  unfold memWrite
  refine ⟨?_, ?_⟩
  · rw [List.pairwise_append, List.pairwise_append]
    refine ⟨⟨h.1.filter _, cellsOf_pairwise bs a, ?_⟩, h.1.filter _, ?_⟩
    · intro x hx y hy
      have h1 := (List.mem_filter.1 hx).2; have h2 := cellsOf_mem bs a y hy
      simp only [decide_eq_true_eq] at h1; omega
    · intro x hx y hy
      have h2 := (List.mem_filter.1 hy).2; simp only [decide_eq_true_eq] at h2
      rcases List.mem_append.1 hx with hx | hx
      · have h1 := (List.mem_filter.1 hx).2; simp only [decide_eq_true_eq] at h1; omega
      · have h1 := cellsOf_mem bs a x hx; omega
  · intro c hc
    rcases List.mem_append.1 hc with hc | hc
    · rcases List.mem_append.1 hc with hc | hc
      · exact h.2 c (List.mem_filter.1 hc).1
      · exact (cellsOf_mem bs a c hc).2.2
    · exact h.2 c (List.mem_filter.1 hc).1

/-- Zeroing keeps the canonical form. -/
theorem memZero_wf {m : List Host.Cell} (a n : Nat) (h : Memory.wf m = true) : Memory.wf (memZero m a n) = true := filter_wf _ h

theorem memGet_nil (a : Nat) : memGet [] a = 0 := rfl

/-- An address that no cell has reads as zero. -/
theorem memGet_absent {m : List Host.Cell} {a : Nat} (h : ∀ c ∈ m, c.1 ≠ a) : memGet m a = 0 := by
  induction m with
  | nil => rfl
  | cons c m ih =>
    obtain ⟨k, b⟩ := c
    have hk : k ≠ a := h (k, b) (List.mem_cons_self ..)
    simp only [memGet, if_neg hk]
    exact ih (fun c hc => h c (List.mem_cons_of_mem _ hc))

theorem memGet_append {m n : List Host.Cell} {a : Nat} (h : ∀ c ∈ m, c.1 ≠ a) : memGet (m ++ n) a = memGet n a := by
  induction m with
  | nil => rfl
  | cons c m ih =>
    obtain ⟨k, b⟩ := c
    have hk : k ≠ a := h (k, b) (List.mem_cons_self ..)
    simp only [List.cons_append, memGet, if_neg hk]
    exact ih (fun c hc => h c (List.mem_cons_of_mem _ hc))

theorem memGet_append_left {m n : List Host.Cell} {a : Nat} (h : ∀ c ∈ n, c.1 ≠ a) : memGet (m ++ n) a = memGet m a := by
  induction m with
  | nil => exact memGet_absent h
  | cons c m ih => obtain ⟨k, b⟩ := c; simp only [List.cons_append, memGet, ih]

theorem memGet_filter {m : List Host.Cell} {p : Host.Cell → Bool} {a : Nat} (h : ∀ c ∈ m, c.1 = a → p c = true) :
    memGet (m.filter p) a = memGet m a := by
  induction m with
  | nil => rfl
  | cons c m ih =>
    obtain ⟨k, b⟩ := c
    have ih' := ih (fun c hc => h c (List.mem_cons_of_mem _ hc))
    by_cases hp : p (k, b) = true
    · rw [List.filter_cons_of_pos hp]; simp only [memGet, ih']
    · rw [List.filter_cons_of_neg hp, ih']
      have hk : k ≠ a := fun e => hp (h (k, b) (List.mem_cons_self ..) e)
      simp only [memGet, if_neg hk]

theorem memGet_filter_out {m : List Host.Cell} {p : Host.Cell → Bool} {a : Nat} (h : ∀ c ∈ m, c.1 = a → p c = false) : memGet (m.filter p) a = 0 :=
  memGet_absent fun c hc e => by
    obtain ⟨h1, h2⟩ := List.mem_filter.1 hc
    rw [h c h1 e] at h2; exact Bool.noConfusion h2

theorem memGet_cellsOf (bs : List Byte) : ∀ a i : Nat, memGet (cellsOf a bs) (a + i) = bs.getD i 0 := by
  induction bs with
  | nil => intro a i; simp [cellsOf, memGet]
  | cons b bs ih =>
    intro a i
    cases i with
    | zero =>
      simp only [cellsOf, Nat.add_zero, List.getD_cons_zero]
      split
      · rename_i hb
        rw [hb]; exact memGet_absent fun c hc => by have := cellsOf_mem bs (a + 1) c hc; omega
      · simp [memGet]
    | succ i =>
      have e : a + (i + 1) = a + 1 + i := by omega
      simp only [cellsOf, List.getD_cons_succ]
      split
      · rw [e]; exact ih (a + 1) i
      · have hk : a ≠ a + (i + 1) := by omega
        simp only [memGet, if_neg hk]; rw [e]; exact ih (a + 1) i

/-- A byte outside the bytes written reads as before. -/
theorem memGet_memWrite_other {m : List Host.Cell} {a x : Nat} {bs : List Byte} (h : x < a ∨ a + bs.length ≤ x) :
    memGet (memWrite m a bs) x = memGet m x := by
  have hc : ∀ c ∈ cellsOf a bs, c.1 ≠ x := fun c hc => by have := cellsOf_mem bs a c hc; omega
  unfold memWrite
  rcases h with h | h
  · rw [memGet_append_left, memGet_append_left hc, memGet_filter]
    · intro c _ e; simp [e, h]
    · intro c hc e; have := (List.mem_filter.1 hc).2; simp only [decide_eq_true_eq] at this; omega
  · rw [List.append_assoc, memGet_append, memGet_append hc, memGet_filter]
    · intro c _ e; simp [e, h]
    · intro c hc e; have := (List.mem_filter.1 hc).2; simp only [decide_eq_true_eq] at this; omega

/-- A byte written reads as written. -/
theorem memGet_memWrite_same {m : List Host.Cell} {a i : Nat} {bs : List Byte} (h : i < bs.length) :
    memGet (memWrite m a bs) (a + i) = bs.getD i 0 := by
  unfold memWrite
  rw [memGet_append_left, memGet_append, memGet_cellsOf]
  · intro c hc e; have := (List.mem_filter.1 hc).2; simp only [decide_eq_true_eq] at this; omega
  · intro c hc e; have := (List.mem_filter.1 hc).2; simp only [decide_eq_true_eq] at this; omega

/-- A byte of a zeroed span reads zero; others read as before. -/
theorem memGet_memZero {m : List Host.Cell} {a n x : Nat} : memGet (memZero m a n) x = if a ≤ x ∧ x < a + n then 0 else memGet m x := by
  unfold memZero
  split
  · refine memGet_filter_out fun c _ e => ?_
    simp only [e, Bool.or_eq_false_iff, decide_eq_false_iff_not]; omega
  · refine memGet_filter fun c _ e => ?_
    simp only [e, Bool.or_eq_true, decide_eq_true_eq]; omega

end Sys2Proof.Machine
end

