-- ==== Sys2Proof/Laws/Frame.lean ====
section
/-!
SUPPORT. `Keeps w s t`: `t` differs from `s` in no part but those whose bit the mask `w` has, and each memory stays in canonical form. One lemma per
set of parts that a record update writes; the lemmas of the functions built from them stand in the other files of this folder.
-/
namespace Sys2Proof.Machine

/-- Parts outside the mask are the same, and the memories stay canonical. -/
def Keeps (w : Nat) (s t : State) : Prop :=
  (∀ f : Field, w.testBit f.ctorIdx = false → f.same s t) ∧ (Memory.wf s.hbm = true → Memory.wf t.hbm = true) ∧ (Memory.wf s.scr = true → Memory.wf t.scr = true)

/-- Every part of the mask `v` is one of the mask `w`. -/
def Within (v w : Nat) : Prop := v &&& w = v

theorem Within.trans {u v w : Nat} (h1 : u &&& v = u) (h2 : Within v w) : Within u w := by
  unfold Within at *; rw [← h1, Nat.and_assoc, h2]

theorem Within.bit {v w i : Nat} (hw : Within v w) (hi : v.testBit i = true) : w.testBit i = true := by
  unfold Within at hw; rw [← hw, Nat.testBit_and] at hi; simp at hi; exact hi.2

theorem Keeps.refl (w : Nat) (s : State) : Keeps w s s := ⟨fun f _ => by cases f <;> rfl, id, id⟩

theorem Keeps.foldl {α : Type} {w : Nat} {s0 : State} {f : State → α → State} (hf : ∀ st e, Keeps w s0 st → Keeps w s0 (f st e)) :
    ∀ (l : List α) (s : State), Keeps w s0 s → Keeps w s0 (l.foldl f s)
  | [], _, h => h
  | a :: l, s, h => Keeps.foldl hf l (f s a) (hf s a h)

/-- A named intermediate state: once for it, then for what is built on it. -/
theorem Keeps.cut {w : Nat} {s0 x v : State} {P : Prop} (e : x = v) (hv : Keeps w s0 v) (k : Keeps w s0 x → P) : P := k (e ▸ hv)

/-- A named intermediate pair that holds a state. -/
theorem Keeps.cutSnd {α : Type} {w : Nat} {s0 : State} {x v : α × State} {P : Prop} (e : x = v) (hv : Keeps w s0 v.2) (k : Keeps w s0 x.2 → P) : P :=
  k (e ▸ hv)

/-- A named intermediate pair that holds a state. -/
theorem Keeps.cutFst {α : Type} {w : Nat} {s0 : State} {x v : State × α} {P : Prop} (e : x = v) (hv : Keeps w s0 v.1) (k : Keeps w s0 x.1 → P) : P :=
  k (e ▸ hv)

theorem Keeps.foldlFst {α β : Type} {w : Nat} {s0 : State} {f : State × β → α → State × β}
    (hf : ∀ acc e, Keeps w s0 acc.1 → Keeps w s0 (f acc e).1) : ∀ (l : List α) (b : State × β), Keeps w s0 b.1 → Keeps w s0 (l.foldl f b).1
  | [], _, h => h
  | a :: l, b, h => Keeps.foldlFst hf l (f b a) (hf b a h)

theorem Keeps.foldlSnd {α β : Type} {w : Nat} {s0 : State} {f : β × State → α → β × State}
    (hf : ∀ acc e, Keeps w s0 acc.2 → Keeps w s0 (f acc e).2) : ∀ (l : List α) (b : β × State), Keeps w s0 b.2 → Keeps w s0 (l.foldl f b).2
  | [], _, h => h
  | a :: l, b, h => Keeps.foldlSnd hf l (f b a) (hf b a h)

/-- A state that a pair holds, from the pair's state. -/
theorem Keeps.snd {α : Type} {w : Nat} {s0 b : State} {a : α} {p : α × State} (e : p = (a, b)) (h : Keeps w s0 p.2) : Keeps w s0 b := by
  subst e; exact h

/-- A state that a pair holds, from the pair's state. -/
theorem Keeps.fst {α : Type} {w : Nat} {s0 b : State} {a : α} {p : State × α} (e : p = (b, a)) (h : Keeps w s0 p.1) : Keeps w s0 b := by
  subst e; exact h

/-- The state that the reading of a command's head gives, whether or not it may issue. -/
def headState : Except State (State × Head) → State
  | .error s => s
  | .ok p => p.1

/-- A state with empty memories that keeps the queue. -/
theorem Keeps.all {w : Nat} {s0 s t : State} (hw : Within 288230376151711743 w) (h : Keeps w s0 s) (hp : t.pending = s.pending) (hm : t.hbm = [])
    (hs : t.scr = []) : Keeps w s0 t := by
  refine ⟨fun f hf => ?_, fun _ => by rw [hm]; rfl, fun _ => by rw [hs]; rfl⟩
  cases f <;> first | exact absurd (hf.symm.trans (hw.bit (by decide))) Bool.false_ne_true | exact hp.trans (h.1 Field.pending hf)

/-- What a meaning's answer keeps, where it is a next state. -/
def KeepsO (w : Nat) (s0 : State) (o : Out) : Prop := ∀ t, o = .next t → Keeps w s0 t

theorem KeepsO.next {w : Nat} {s0 s : State} (h : Keeps w s0 s) : KeepsO w s0 (.next s) := fun t e => by cases e; exact h

theorem KeepsO.fault {w : Nat} {s0 : State} (f : Fault) : KeepsO w s0 (.fault f) := fun _ e => by cases e

theorem KeepsO.onUnit {w : Nat} {s0 : State} {n c : Nat} {f : Unit → State} (h : Keeps w s0 (f ())) : KeepsO w s0 (onUnit n c f) := by
  unfold Sys2Proof.Machine.onUnit; split
  · exact .next h
  · exact .fault _

theorem KeepsO.onPage {w : Nat} {s0 : State} {n : Nat} {f : Unit → State} (h : Keeps w s0 (f ())) : KeepsO w s0 (onPage n f) := by
  unfold Sys2Proof.Machine.onPage; split
  · exact .next h
  · exact .fault _

theorem KeepsO.onTile {w : Nat} {s0 : State} {n : Nat} {f : Unit → State} (h : Keeps w s0 (f ())) : KeepsO w s0 (onTile n f) := .onUnit h
theorem KeepsO.onDie {w : Nat} {s0 : State} {n : Nat} {f : Unit → State} (h : Keeps w s0 (f ())) : KeepsO w s0 (onDie n f) := .onUnit h
theorem KeepsO.onPol {w : Nat} {s0 : State} {n : Nat} {f : Unit → State} (h : Keeps w s0 (f ())) : KeepsO w s0 (onPol n f) := .onUnit h
theorem KeepsO.onSlice {w : Nat} {s0 : State} {n : Nat} {f : Unit → State} (h : Keeps w s0 (f ())) : KeepsO w s0 (onSlice n f) := .onUnit h
theorem KeepsO.onStack {w : Nat} {s0 : State} {n : Nat} {f : Unit → State} (h : Keeps w s0 (f ())) : KeepsO w s0 (onStack n f) := .onUnit h
theorem KeepsO.onQueue {w : Nat} {s0 : State} {n : Nat} {f : Unit → State} (h : Keeps w s0 (f ())) : KeepsO w s0 (onQueue n f) := .onUnit h
theorem KeepsO.onPort {w : Nat} {s0 : State} {n : Nat} {f : Unit → State} (h : Keeps w s0 (f ())) : KeepsO w s0 (onPort n f) := .onUnit h
theorem KeepsO.onLink {w : Nat} {s0 : State} {n : Nat} {f : Unit → State} (h : Keeps w s0 (f ())) : KeepsO w s0 (onLink n f) := .onUnit h
theorem KeepsO.onSensor {w : Nat} {s0 : State} {r u : Nat} {f : Unit → State} (h : Keeps w s0 (f ())) : KeepsO w s0 (onSensor r u f) := .onUnit h
theorem KeepsO.onPath {w : Nat} {s0 s : State} {b n : Nat} {f : Unit → State} (h1 : Keeps w s0 (f ())) (h2 : Keeps w s0 s) :
    KeepsO w s0 (onPath b n s f) := .onUnit (by split <;> assumption)

theorem Keeps.after {w : Nat} {s0 s : State} {o : Out} (ho : KeepsO w s0 o) (h : Keeps w s0 s) : Keeps w s0 (afterOut s o) := by
  unfold afterOut; split
  · exact ho _ rfl
  · exact h

theorem Keeps.frame {w : Nat} {fs : List Field} {s t : State} (h : Keeps w s t) (hw : ∀ f, f ∉ fs → w.testBit f.ctorIdx = false) : s.sameBut fs t :=
  fun f hf => h.1 f (hw f hf)

theorem Keeps.sound {w : Nat} {s t : State} (h : Keeps w s t) (hs : s.Sound) : t.Sound := ⟨h.2.1 hs.1, h.2.2 hs.2⟩

theorem Keeps.set_regs {w : Nat} {s0 s : State} {x0 : _} (hw : Within 1 w) (h : Keeps w s0 s) :
    Keeps w s0 { s with regs := x0 } := by
  refine ⟨fun f hf => ?_, h.2.1, h.2.2⟩
  cases f <;> first | exact h.1 _ hf | exact absurd (hf.symm.trans (hw.bit (by decide))) Bool.false_ne_true

theorem Keeps.set_regs_act_staged_lowHeld_hiCap_intakes {w : Nat} {s0 s : State} {x0 : _} {x1 : _} {x2 : _} {x3 : _} {x4 : _} {x22 : _} (hw : Within 4194335 w) (h : Keeps w s0 s) :
    Keeps w s0 { s with regs := x0, act := x1, staged := x2, lowHeld := x3, hiCap := x4, intakes := x22 } := by
  refine ⟨fun f hf => ?_, h.2.1, h.2.2⟩
  cases f <;> first | exact h.1 _ hf | exact absurd (hf.symm.trans (hw.bit (by decide))) Bool.false_ne_true

theorem Keeps.set_regs_scr_upsets {w : Nat} {s0 s : State} {x0 : _} {x17 : _} {x19 : _} (hw : Within 655361 w) (h : Keeps w s0 s)
    (ms : Memory.wf s.scr = true → Memory.wf x17 = true) :
    Keeps w s0 { s with regs := x0, scr := x17, upsets := x19 } := by
  refine ⟨fun f hf => ?_, h.2.1, fun m => ms (h.2.2 m)⟩
  cases f <;> first | exact h.1 _ hf | exact absurd (hf.symm.trans (hw.bit (by decide))) Bool.false_ne_true

theorem Keeps.set_act {w : Nat} {s0 s : State} {x1 : _} (hw : Within 2 w) (h : Keeps w s0 s) :
    Keeps w s0 { s with act := x1 } := by
  refine ⟨fun f hf => ?_, h.2.1, h.2.2⟩
  cases f <;> first | exact h.1 _ hf | exact absurd (hf.symm.trans (hw.bit (by decide))) Bool.false_ne_true

theorem Keeps.set_staged {w : Nat} {s0 s : State} {x2 : _} (hw : Within 4 w) (h : Keeps w s0 s) :
    Keeps w s0 { s with staged := x2 } := by
  refine ⟨fun f hf => ?_, h.2.1, h.2.2⟩
  cases f <;> first | exact h.1 _ hf | exact absurd (hf.symm.trans (hw.bit (by decide))) Bool.false_ne_true

theorem Keeps.set_lowHeld {w : Nat} {s0 s : State} {x3 : _} (hw : Within 8 w) (h : Keeps w s0 s) :
    Keeps w s0 { s with lowHeld := x3 } := by
  refine ⟨fun f hf => ?_, h.2.1, h.2.2⟩
  cases f <;> first | exact h.1 _ hf | exact absurd (hf.symm.trans (hw.bit (by decide))) Bool.false_ne_true

theorem Keeps.set_hiCap {w : Nat} {s0 s : State} {x4 : _} (hw : Within 16 w) (h : Keeps w s0 s) :
    Keeps w s0 { s with hiCap := x4 } := by
  refine ⟨fun f hf => ?_, h.2.1, h.2.2⟩
  cases f <;> first | exact h.1 _ hf | exact absurd (hf.symm.trans (hw.bit (by decide))) Bool.false_ne_true

theorem Keeps.set_readData {w : Nat} {s0 s : State} {x5 : _} (hw : Within 32 w) (h : Keeps w s0 s) :
    Keeps w s0 { s with readData := x5 } := by
  refine ⟨fun f hf => ?_, h.2.1, h.2.2⟩
  cases f <;> first | exact h.1 _ hf | exact absurd (hf.symm.trans (hw.bit (by decide))) Bool.false_ne_true

theorem Keeps.set_freeCtr {w : Nat} {s0 s : State} {x6 : _} (hw : Within 64 w) (h : Keeps w s0 s) :
    Keeps w s0 { s with freeCtr := x6 } := by
  refine ⟨fun f hf => ?_, h.2.1, h.2.2⟩
  cases f <;> first | exact h.1 _ hf | exact absurd (hf.symm.trans (hw.bit (by decide))) Bool.false_ne_true

theorem Keeps.set_beat {w : Nat} {s0 s : State} {x7 : _} (hw : Within 128 w) (h : Keeps w s0 s) :
    Keeps w s0 { s with beat := x7 } := by
  refine ⟨fun f hf => ?_, h.2.1, h.2.2⟩
  cases f <;> first | exact h.1 _ hf | exact absurd (hf.symm.trans (hw.bit (by decide))) Bool.false_ne_true

theorem Keeps.set_frame_frameAt {w : Nat} {s0 s : State} {x8 : _} {x9 : _} (hw : Within 768 w) (h : Keeps w s0 s) :
    Keeps w s0 { s with frame := x8, frameAt := x9 } := by
  refine ⟨fun f hf => ?_, h.2.1, h.2.2⟩
  cases f <;> first | exact h.1 _ hf | exact absurd (hf.symm.trans (hw.bit (by decide))) Bool.false_ne_true

theorem Keeps.set_frame_frameAt_frameLoad {w : Nat} {s0 s : State} {x8 : _} {x9 : _} {x10 : _} (hw : Within 1792 w) (h : Keeps w s0 s) :
    Keeps w s0 { s with frame := x8, frameAt := x9, frameLoad := x10 } := by
  refine ⟨fun f hf => ?_, h.2.1, h.2.2⟩
  cases f <;> first | exact h.1 _ hf | exact absurd (hf.symm.trans (hw.bit (by decide))) Bool.false_ne_true

theorem Keeps.set_frameLoad {w : Nat} {s0 s : State} {x10 : _} (hw : Within 1024 w) (h : Keeps w s0 s) :
    Keeps w s0 { s with frameLoad := x10 } := by
  refine ⟨fun f hf => ?_, h.2.1, h.2.2⟩
  cases f <;> first | exact h.1 _ hf | exact absurd (hf.symm.trans (hw.bit (by decide))) Bool.false_ne_true

theorem Keeps.set_armB {w : Nat} {s0 s : State} {x11 : _} (hw : Within 2048 w) (h : Keeps w s0 s) :
    Keeps w s0 { s with armB := x11 } := by
  refine ⟨fun f hf => ?_, h.2.1, h.2.2⟩
  cases f <;> first | exact h.1 _ hf | exact absurd (hf.symm.trans (hw.bit (by decide))) Bool.false_ne_true

theorem Keeps.set_armB_armF {w : Nat} {s0 s : State} {x11 : _} {x12 : _} (hw : Within 6144 w) (h : Keeps w s0 s) :
    Keeps w s0 { s with armB := x11, armF := x12 } := by
  refine ⟨fun f hf => ?_, h.2.1, h.2.2⟩
  cases f <;> first | exact h.1 _ hf | exact absurd (hf.symm.trans (hw.bit (by decide))) Bool.false_ne_true

theorem Keeps.set_armB_armF_notTaken {w : Nat} {s0 s : State} {x11 : _} {x12 : _} {x15 : _} (hw : Within 38912 w) (h : Keeps w s0 s) :
    Keeps w s0 { s with armB := x11, armF := x12, notTaken := x15 } := by
  refine ⟨fun f hf => ?_, h.2.1, h.2.2⟩
  cases f <;> first | exact h.1 _ hf | exact absurd (hf.symm.trans (hw.bit (by decide))) Bool.false_ne_true

theorem Keeps.set_armF {w : Nat} {s0 s : State} {x12 : _} (hw : Within 4096 w) (h : Keeps w s0 s) :
    Keeps w s0 { s with armF := x12 } := by
  refine ⟨fun f hf => ?_, h.2.1, h.2.2⟩
  cases f <;> first | exact h.1 _ hf | exact absurd (hf.symm.trans (hw.bit (by decide))) Bool.false_ne_true

theorem Keeps.set_rejoin {w : Nat} {s0 s : State} {x13 : _} (hw : Within 8192 w) (h : Keeps w s0 s) :
    Keeps w s0 { s with rejoin := x13 } := by
  refine ⟨fun f hf => ?_, h.2.1, h.2.2⟩
  cases f <;> first | exact h.1 _ hf | exact absurd (hf.symm.trans (hw.bit (by decide))) Bool.false_ne_true

theorem Keeps.set_holds {w : Nat} {s0 s : State} {x14 : _} (hw : Within 16384 w) (h : Keeps w s0 s) :
    Keeps w s0 { s with holds := x14 } := by
  refine ⟨fun f hf => ?_, h.2.1, h.2.2⟩
  cases f <;> first | exact h.1 _ hf | exact absurd (hf.symm.trans (hw.bit (by decide))) Bool.false_ne_true

theorem Keeps.set_recSeq {w : Nat} {s0 s : State} {x16 : _} (hw : Within 65536 w) (h : Keeps w s0 s) :
    Keeps w s0 { s with recSeq := x16 } := by
  refine ⟨fun f hf => ?_, h.2.1, h.2.2⟩
  cases f <;> first | exact h.1 _ hf | exact absurd (hf.symm.trans (hw.bit (by decide))) Bool.false_ne_true

theorem Keeps.set_scr_hbm_tiles_clean_zeroing_poison {w : Nat} {s0 s : State} {x17 : _} {x18 : _} {x20 : _} {x31 : _} {x32 : _} {x34 : _} (hw : Within 23623761920 w) (h : Keeps w s0 s)
    (mh : Memory.wf s.hbm = true → Memory.wf x18 = true)
    (ms : Memory.wf s.scr = true → Memory.wf x17 = true) :
    Keeps w s0 { s with scr := x17, hbm := x18, tiles := x20, clean := x31, zeroing := x32, poison := x34 } := by
  refine ⟨fun f hf => ?_, fun m => mh (h.2.1 m), fun m => ms (h.2.2 m)⟩
  cases f <;> first | exact h.1 _ hf | exact absurd (hf.symm.trans (hw.bit (by decide))) Bool.false_ne_true

theorem Keeps.set_scr_upsets {w : Nat} {s0 s : State} {x17 : _} {x19 : _} (hw : Within 655360 w) (h : Keeps w s0 s)
    (ms : Memory.wf s.scr = true → Memory.wf x17 = true) :
    Keeps w s0 { s with scr := x17, upsets := x19 } := by
  refine ⟨fun f hf => ?_, h.2.1, fun m => ms (h.2.2 m)⟩
  cases f <;> first | exact h.1 _ hf | exact absurd (hf.symm.trans (hw.bit (by decide))) Bool.false_ne_true

theorem Keeps.set_hbm {w : Nat} {s0 s : State} {x18 : _} (hw : Within 262144 w) (h : Keeps w s0 s)
    (mh : Memory.wf s.hbm = true → Memory.wf x18 = true) :
    Keeps w s0 { s with hbm := x18 } := by
  refine ⟨fun f hf => ?_, fun m => mh (h.2.1 m), h.2.2⟩
  cases f <;> first | exact h.1 _ hf | exact absurd (hf.symm.trans (hw.bit (by decide))) Bool.false_ne_true

theorem Keeps.set_hbm_clean_zeroing_poison {w : Nat} {s0 s : State} {x18 : _} {x31 : _} {x32 : _} {x34 : _} (hw : Within 23622582272 w) (h : Keeps w s0 s)
    (mh : Memory.wf s.hbm = true → Memory.wf x18 = true) :
    Keeps w s0 { s with hbm := x18, clean := x31, zeroing := x32, poison := x34 } := by
  refine ⟨fun f hf => ?_, fun m => mh (h.2.1 m), h.2.2⟩
  cases f <;> first | exact h.1 _ hf | exact absurd (hf.symm.trans (hw.bit (by decide))) Bool.false_ne_true

theorem Keeps.set_hbm_poison {w : Nat} {s0 s : State} {x18 : _} {x34 : _} (hw : Within 17180131328 w) (h : Keeps w s0 s)
    (mh : Memory.wf s.hbm = true → Memory.wf x18 = true) :
    Keeps w s0 { s with hbm := x18, poison := x34 } := by
  refine ⟨fun f hf => ?_, fun m => mh (h.2.1 m), h.2.2⟩
  cases f <;> first | exact h.1 _ hf | exact absurd (hf.symm.trans (hw.bit (by decide))) Bool.false_ne_true

theorem Keeps.set_upsets {w : Nat} {s0 s : State} {x19 : _} (hw : Within 524288 w) (h : Keeps w s0 s) :
    Keeps w s0 { s with upsets := x19 } := by
  refine ⟨fun f hf => ?_, h.2.1, h.2.2⟩
  cases f <;> first | exact h.1 _ hf | exact absurd (hf.symm.trans (hw.bit (by decide))) Bool.false_ne_true

theorem Keeps.set_tiles {w : Nat} {s0 s : State} {x20 : _} (hw : Within 1048576 w) (h : Keeps w s0 s) :
    Keeps w s0 { s with tiles := x20 } := by
  refine ⟨fun f hf => ?_, h.2.1, h.2.2⟩
  cases f <;> first | exact h.1 _ hf | exact absurd (hf.symm.trans (hw.bit (by decide))) Bool.false_ne_true

theorem Keeps.set_pols {w : Nat} {s0 s : State} {x21 : _} (hw : Within 2097152 w) (h : Keeps w s0 s) :
    Keeps w s0 { s with pols := x21 } := by
  refine ⟨fun f hf => ?_, h.2.1, h.2.2⟩
  cases f <;> first | exact h.1 _ hf | exact absurd (hf.symm.trans (hw.bit (by decide))) Bool.false_ne_true

theorem Keeps.set_intakes {w : Nat} {s0 s : State} {x22 : _} (hw : Within 4194304 w) (h : Keeps w s0 s) :
    Keeps w s0 { s with intakes := x22 } := by
  refine ⟨fun f hf => ?_, h.2.1, h.2.2⟩
  cases f <;> first | exact h.1 _ hf | exact absurd (hf.symm.trans (hw.bit (by decide))) Bool.false_ne_true

theorem Keeps.set_fns {w : Nat} {s0 s : State} {x23 : _} (hw : Within 8388608 w) (h : Keeps w s0 s) :
    Keeps w s0 { s with fns := x23 } := by
  refine ⟨fun f hf => ?_, h.2.1, h.2.2⟩
  cases f <;> first | exact h.1 _ hf | exact absurd (hf.symm.trans (hw.bit (by decide))) Bool.false_ne_true

theorem Keeps.set_fns_numVfs {w : Nat} {s0 s : State} {x23 : _} {x24 : _} (hw : Within 25165824 w) (h : Keeps w s0 s) :
    Keeps w s0 { s with fns := x23, numVfs := x24 } := by
  refine ⟨fun f hf => ?_, h.2.1, h.2.2⟩
  cases f <;> first | exact h.1 _ hf | exact absurd (hf.symm.trans (hw.bit (by decide))) Bool.false_ne_true

theorem Keeps.set_numVfs {w : Nat} {s0 s : State} {x24 : _} (hw : Within 16777216 w) (h : Keeps w s0 s) :
    Keeps w s0 { s with numVfs := x24 } := by
  refine ⟨fun f hf => ?_, h.2.1, h.2.2⟩
  cases f <;> first | exact h.1 _ hf | exact absurd (hf.symm.trans (hw.bit (by decide))) Bool.false_ne_true

theorem Keeps.set_hostOut {w : Nat} {s0 s : State} {x25 : _} (hw : Within 33554432 w) (h : Keeps w s0 s) :
    Keeps w s0 { s with hostOut := x25 } := by
  refine ⟨fun f hf => ?_, h.2.1, h.2.2⟩
  cases f <;> first | exact h.1 _ hf | exact absurd (hf.symm.trans (hw.bit (by decide))) Bool.false_ne_true

theorem Keeps.set_mgmtOut {w : Nat} {s0 s : State} {x26 : _} (hw : Within 67108864 w) (h : Keeps w s0 s) :
    Keeps w s0 { s with mgmtOut := x26 } := by
  refine ⟨fun f hf => ?_, h.2.1, h.2.2⟩
  cases f <;> first | exact h.1 _ hf | exact absurd (hf.symm.trans (hw.bit (by decide))) Bool.false_ne_true

theorem Keeps.set_trace {w : Nat} {s0 s : State} {x27 : _} (hw : Within 134217728 w) (h : Keeps w s0 s) :
    Keeps w s0 { s with trace := x27 } := by
  refine ⟨fun f hf => ?_, h.2.1, h.2.2⟩
  cases f <;> first | exact h.1 _ hf | exact absurd (hf.symm.trans (hw.bit (by decide))) Bool.false_ne_true

theorem Keeps.set_slices {w : Nat} {s0 s : State} {x28 : _} (hw : Within 268435456 w) (h : Keeps w s0 s) :
    Keeps w s0 { s with slices := x28 } := by
  refine ⟨fun f hf => ?_, h.2.1, h.2.2⟩
  cases f <;> first | exact h.1 _ hf | exact absurd (hf.symm.trans (hw.bit (by decide))) Bool.false_ne_true

theorem Keeps.set_slices_waitSt {w : Nat} {s0 s : State} {x28 : _} {x33 : _} (hw : Within 8858370048 w) (h : Keeps w s0 s) :
    Keeps w s0 { s with slices := x28, waitSt := x33 } := by
  refine ⟨fun f hf => ?_, h.2.1, h.2.2⟩
  cases f <;> first | exact h.1 _ hf | exact absurd (hf.symm.trans (hw.bit (by decide))) Bool.false_ne_true

theorem Keeps.set_bridge {w : Nat} {s0 s : State} {x29 : _} (hw : Within 536870912 w) (h : Keeps w s0 s) :
    Keeps w s0 { s with bridge := x29 } := by
  refine ⟨fun f hf => ?_, h.2.1, h.2.2⟩
  cases f <;> first | exact h.1 _ hf | exact absurd (hf.symm.trans (hw.bit (by decide))) Bool.false_ne_true

theorem Keeps.set_stackSt {w : Nat} {s0 s : State} {x30 : _} (hw : Within 1073741824 w) (h : Keeps w s0 s) :
    Keeps w s0 { s with stackSt := x30 } := by
  refine ⟨fun f hf => ?_, h.2.1, h.2.2⟩
  cases f <;> first | exact h.1 _ hf | exact absurd (hf.symm.trans (hw.bit (by decide))) Bool.false_ne_true

theorem Keeps.set_stackSt_module {w : Nat} {s0 s : State} {x30 : _} {x54 : _} (hw : Within 18014399583223808 w) (h : Keeps w s0 s) :
    Keeps w s0 { s with stackSt := x30, module := x54 } := by
  refine ⟨fun f hf => ?_, h.2.1, h.2.2⟩
  cases f <;> first | exact h.1 _ hf | exact absurd (hf.symm.trans (hw.bit (by decide))) Bool.false_ne_true

theorem Keeps.set_clean_zeroing_waitSt {w : Nat} {s0 s : State} {x31 : _} {x32 : _} {x33 : _} (hw : Within 15032385536 w) (h : Keeps w s0 s) :
    Keeps w s0 { s with clean := x31, zeroing := x32, waitSt := x33 } := by
  refine ⟨fun f hf => ?_, h.2.1, h.2.2⟩
  cases f <;> first | exact h.1 _ hf | exact absurd (hf.symm.trans (hw.bit (by decide))) Bool.false_ne_true

theorem Keeps.set_zeroing {w : Nat} {s0 s : State} {x32 : _} (hw : Within 4294967296 w) (h : Keeps w s0 s) :
    Keeps w s0 { s with zeroing := x32 } := by
  refine ⟨fun f hf => ?_, h.2.1, h.2.2⟩
  cases f <;> first | exact h.1 _ hf | exact absurd (hf.symm.trans (hw.bit (by decide))) Bool.false_ne_true

theorem Keeps.set_zeroing_waitSt {w : Nat} {s0 s : State} {x32 : _} {x33 : _} (hw : Within 12884901888 w) (h : Keeps w s0 s) :
    Keeps w s0 { s with zeroing := x32, waitSt := x33 } := by
  refine ⟨fun f hf => ?_, h.2.1, h.2.2⟩
  cases f <;> first | exact h.1 _ hf | exact absurd (hf.symm.trans (hw.bit (by decide))) Bool.false_ne_true

theorem Keeps.set_waitSt_inval {w : Nat} {s0 s : State} {x33 : _} {x35 : _} (hw : Within 42949672960 w) (h : Keeps w s0 s) :
    Keeps w s0 { s with waitSt := x33, inval := x35 } := by
  refine ⟨fun f hf => ?_, h.2.1, h.2.2⟩
  cases f <;> first | exact h.1 _ hf | exact absurd (hf.symm.trans (hw.bit (by decide))) Bool.false_ne_true

theorem Keeps.set_poison {w : Nat} {s0 s : State} {x34 : _} (hw : Within 17179869184 w) (h : Keeps w s0 s) :
    Keeps w s0 { s with poison := x34 } := by
  refine ⟨fun f hf => ?_, h.2.1, h.2.2⟩
  cases f <;> first | exact h.1 _ hf | exact absurd (hf.symm.trans (hw.bit (by decide))) Bool.false_ne_true

theorem Keeps.set_inval {w : Nat} {s0 s : State} {x35 : _} (hw : Within 34359738368 w) (h : Keeps w s0 s) :
    Keeps w s0 { s with inval := x35 } := by
  refine ⟨fun f hf => ?_, h.2.1, h.2.2⟩
  cases f <;> first | exact h.1 _ hf | exact absurd (hf.symm.trans (hw.bit (by decide))) Bool.false_ne_true

theorem Keeps.set_loadData {w : Nat} {s0 s : State} {x36 : _} (hw : Within 68719476736 w) (h : Keeps w s0 s) :
    Keeps w s0 { s with loadData := x36 } := by
  refine ⟨fun f hf => ?_, h.2.1, h.2.2⟩
  cases f <;> first | exact h.1 _ hf | exact absurd (hf.symm.trans (hw.bit (by decide))) Bool.false_ne_true

theorem Keeps.set_sqs {w : Nat} {s0 s : State} {x37 : _} (hw : Within 137438953472 w) (h : Keeps w s0 s) :
    Keeps w s0 { s with sqs := x37 } := by
  refine ⟨fun f hf => ?_, h.2.1, h.2.2⟩
  cases f <;> first | exact h.1 _ hf | exact absurd (hf.symm.trans (hw.bit (by decide))) Bool.false_ne_true

theorem Keeps.set_pools {w : Nat} {s0 s : State} {x38 : _} (hw : Within 274877906944 w) (h : Keeps w s0 s) :
    Keeps w s0 { s with pools := x38 } := by
  refine ⟨fun f hf => ?_, h.2.1, h.2.2⟩
  cases f <;> first | exact h.1 _ hf | exact absurd (hf.symm.trans (hw.bit (by decide))) Bool.false_ne_true

theorem Keeps.set_d2d {w : Nat} {s0 s : State} {x39 : _} (hw : Within 549755813888 w) (h : Keeps w s0 s) :
    Keeps w s0 { s with d2d := x39 } := by
  refine ⟨fun f hf => ?_, h.2.1, h.2.2⟩
  cases f <;> first | exact h.1 _ hf | exact absurd (hf.symm.trans (hw.bit (by decide))) Bool.false_ne_true

theorem Keeps.set_routes {w : Nat} {s0 s : State} {x40 : _} (hw : Within 1099511627776 w) (h : Keeps w s0 s) :
    Keeps w s0 { s with routes := x40 } := by
  refine ⟨fun f hf => ?_, h.2.1, h.2.2⟩
  cases f <;> first | exact h.1 _ hf | exact absurd (hf.symm.trans (hw.bit (by decide))) Bool.false_ne_true

theorem Keeps.set_notices {w : Nat} {s0 s : State} {x41 : _} (hw : Within 2199023255552 w) (h : Keeps w s0 s) :
    Keeps w s0 { s with notices := x41 } := by
  refine ⟨fun f hf => ?_, h.2.1, h.2.2⟩
  cases f <;> first | exact h.1 _ hf | exact absurd (hf.symm.trans (hw.bit (by decide))) Bool.false_ne_true

theorem Keeps.set_notices_unreach {w : Nat} {s0 s : State} {x41 : _} {x42 : _} (hw : Within 6597069766656 w) (h : Keeps w s0 s) :
    Keeps w s0 { s with notices := x41, unreach := x42 } := by
  refine ⟨fun f hf => ?_, h.2.1, h.2.2⟩
  cases f <;> first | exact h.1 _ hf | exact absurd (hf.symm.trans (hw.bit (by decide))) Bool.false_ne_true

theorem Keeps.set_unreach {w : Nat} {s0 s : State} {x42 : _} (hw : Within 4398046511104 w) (h : Keeps w s0 s) :
    Keeps w s0 { s with unreach := x42 } := by
  refine ⟨fun f hf => ?_, h.2.1, h.2.2⟩
  cases f <;> first | exact h.1 _ hf | exact absurd (hf.symm.trans (hw.bit (by decide))) Bool.false_ne_true

theorem Keeps.set_flight {w : Nat} {s0 s : State} {x43 : _} (hw : Within 8796093022208 w) (h : Keeps w s0 s) :
    Keeps w s0 { s with flight := x43 } := by
  refine ⟨fun f hf => ?_, h.2.1, h.2.2⟩
  cases f <;> first | exact h.1 _ hf | exact absurd (hf.symm.trans (hw.bit (by decide))) Bool.false_ne_true

theorem Keeps.set_flight_linkRes_inReset {w : Nat} {s0 s : State} {x43 : _} {x48 : _} {x56 : _} (hw : Within 72347865107660800 w) (h : Keeps w s0 s) :
    Keeps w s0 { s with flight := x43, linkRes := x48, inReset := x56 } := by
  refine ⟨fun f hf => ?_, h.2.1, h.2.2⟩
  cases f <;> first | exact h.1 _ hf | exact absurd (hf.symm.trans (hw.bit (by decide))) Bool.false_ne_true

theorem Keeps.set_ports {w : Nat} {s0 s : State} {x44 : _} (hw : Within 17592186044416 w) (h : Keeps w s0 s) :
    Keeps w s0 { s with ports := x44 } := by
  refine ⟨fun f hf => ?_, h.2.1, h.2.2⟩
  cases f <;> first | exact h.1 _ hf | exact absurd (hf.symm.trans (hw.bit (by decide))) Bool.false_ne_true

theorem Keeps.set_ports_linkRes {w : Nat} {s0 s : State} {x44 : _} {x48 : _} (hw : Within 299067162755072 w) (h : Keeps w s0 s) :
    Keeps w s0 { s with ports := x44, linkRes := x48 } := by
  refine ⟨fun f hf => ?_, h.2.1, h.2.2⟩
  cases f <;> first | exact h.1 _ hf | exact absurd (hf.symm.trans (hw.bit (by decide))) Bool.false_ne_true

theorem Keeps.set_sentFlits {w : Nat} {s0 s : State} {x45 : _} (hw : Within 35184372088832 w) (h : Keeps w s0 s) :
    Keeps w s0 { s with sentFlits := x45 } := by
  refine ⟨fun f hf => ?_, h.2.1, h.2.2⟩
  cases f <;> first | exact h.1 _ hf | exact absurd (hf.symm.trans (hw.bit (by decide))) Bool.false_ne_true

theorem Keeps.set_sentFlits_sendSeq {w : Nat} {s0 s : State} {x45 : _} {x47 : _} (hw : Within 175921860444160 w) (h : Keeps w s0 s) :
    Keeps w s0 { s with sentFlits := x45, sendSeq := x47 } := by
  refine ⟨fun f hf => ?_, h.2.1, h.2.2⟩
  cases f <;> first | exact h.1 _ hf | exact absurd (hf.symm.trans (hw.bit (by decide))) Bool.false_ne_true

theorem Keeps.set_flows {w : Nat} {s0 s : State} {x46 : _} (hw : Within 70368744177664 w) (h : Keeps w s0 s) :
    Keeps w s0 { s with flows := x46 } := by
  refine ⟨fun f hf => ?_, h.2.1, h.2.2⟩
  cases f <;> first | exact h.1 _ hf | exact absurd (hf.symm.trans (hw.bit (by decide))) Bool.false_ne_true

theorem Keeps.set_sendSeq {w : Nat} {s0 s : State} {x47 : _} (hw : Within 140737488355328 w) (h : Keeps w s0 s) :
    Keeps w s0 { s with sendSeq := x47 } := by
  refine ⟨fun f hf => ?_, h.2.1, h.2.2⟩
  cases f <;> first | exact h.1 _ hf | exact absurd (hf.symm.trans (hw.bit (by decide))) Bool.false_ne_true

theorem Keeps.set_linkRes {w : Nat} {s0 s : State} {x48 : _} (hw : Within 281474976710656 w) (h : Keeps w s0 s) :
    Keeps w s0 { s with linkRes := x48 } := by
  refine ⟨fun f hf => ?_, h.2.1, h.2.2⟩
  cases f <;> first | exact h.1 _ hf | exact absurd (hf.symm.trans (hw.bit (by decide))) Bool.false_ne_true

theorem Keeps.set_rt {w : Nat} {s0 s : State} {x49 : _} (hw : Within 562949953421312 w) (h : Keeps w s0 s) :
    Keeps w s0 { s with rt := x49 } := by
  refine ⟨fun f hf => ?_, h.2.1, h.2.2⟩
  cases f <;> first | exact h.1 _ hf | exact absurd (hf.symm.trans (hw.bit (by decide))) Bool.false_ne_true

theorem Keeps.set_rt_untrusted {w : Nat} {s0 s : State} {x49 : _} {x50 : _} (hw : Within 1688849860263936 w) (h : Keeps w s0 s) :
    Keeps w s0 { s with rt := x49, untrusted := x50 } := by
  refine ⟨fun f hf => ?_, h.2.1, h.2.2⟩
  cases f <;> first | exact h.1 _ hf | exact absurd (hf.symm.trans (hw.bit (by decide))) Bool.false_ne_true

theorem Keeps.set_untrusted {w : Nat} {s0 s : State} {x50 : _} (hw : Within 1125899906842624 w) (h : Keeps w s0 s) :
    Keeps w s0 { s with untrusted := x50 } := by
  refine ⟨fun f hf => ?_, h.2.1, h.2.2⟩
  cases f <;> first | exact h.1 _ hf | exact absurd (hf.symm.trans (hw.bit (by decide))) Bool.false_ne_true

theorem Keeps.set_untrusted_badFtids {w : Nat} {s0 s : State} {x50 : _} {x51 : _} (hw : Within 3377699720527872 w) (h : Keeps w s0 s) :
    Keeps w s0 { s with untrusted := x50, badFtids := x51 } := by
  refine ⟨fun f hf => ?_, h.2.1, h.2.2⟩
  cases f <;> first | exact h.1 _ hf | exact absurd (hf.symm.trans (hw.bit (by decide))) Bool.false_ne_true

theorem Keeps.set_badFtids {w : Nat} {s0 s : State} {x51 : _} (hw : Within 2251799813685248 w) (h : Keeps w s0 s) :
    Keeps w s0 { s with badFtids := x51 } := by
  refine ⟨fun f hf => ?_, h.2.1, h.2.2⟩
  cases f <;> first | exact h.1 _ hf | exact absurd (hf.symm.trans (hw.bit (by decide))) Bool.false_ne_true

theorem Keeps.set_kneaders {w : Nat} {s0 s : State} {x52 : _} (hw : Within 4503599627370496 w) (h : Keeps w s0 s) :
    Keeps w s0 { s with kneaders := x52 } := by
  refine ⟨fun f hf => ?_, h.2.1, h.2.2⟩
  cases f <;> first | exact h.1 _ hf | exact absurd (hf.symm.trans (hw.bit (by decide))) Bool.false_ne_true

theorem Keeps.set_power {w : Nat} {s0 s : State} {x53 : _} (hw : Within 9007199254740992 w) (h : Keeps w s0 s) :
    Keeps w s0 { s with power := x53 } := by
  refine ⟨fun f hf => ?_, h.2.1, h.2.2⟩
  cases f <;> first | exact h.1 _ hf | exact absurd (hf.symm.trans (hw.bit (by decide))) Bool.false_ne_true

theorem Keeps.set_module {w : Nat} {s0 s : State} {x54 : _} (hw : Within 18014398509481984 w) (h : Keeps w s0 s) :
    Keeps w s0 { s with module := x54 } := by
  refine ⟨fun f hf => ?_, h.2.1, h.2.2⟩
  cases f <;> first | exact h.1 _ hf | exact absurd (hf.symm.trans (hw.bit (by decide))) Bool.false_ne_true

theorem Keeps.set_loadWait {w : Nat} {s0 s : State} {x55 : _} (hw : Within 36028797018963968 w) (h : Keeps w s0 s) :
    Keeps w s0 { s with loadWait := x55 } := by
  refine ⟨fun f hf => ?_, h.2.1, h.2.2⟩
  cases f <;> first | exact h.1 _ hf | exact absurd (hf.symm.trans (hw.bit (by decide))) Bool.false_ne_true

theorem Keeps.set_inReset {w : Nat} {s0 s : State} {x56 : _} (hw : Within 72057594037927936 w) (h : Keeps w s0 s) :
    Keeps w s0 { s with inReset := x56 } := by
  refine ⟨fun f hf => ?_, h.2.1, h.2.2⟩
  cases f <;> first | exact h.1 _ hf | exact absurd (hf.symm.trans (hw.bit (by decide))) Bool.false_ne_true

theorem Keeps.set_resetTarget {w : Nat} {s0 s : State} {x57 : _} (hw : Within 144115188075855872 w) (h : Keeps w s0 s) :
    Keeps w s0 { s with resetTarget := x57 } := by
  refine ⟨fun f hf => ?_, h.2.1, h.2.2⟩
  cases f <;> first | exact h.1 _ hf | exact absurd (hf.symm.trans (hw.bit (by decide))) Bool.false_ne_true

end Sys2Proof.Machine
end

