-- ==== Sys2Proof/Laws/Registers.lean ====
section
/-!
SUPPORT. Laws of the register store: sparse maps, bit fields, and what each register operation leaves in a register.
-/
namespace Sys2Proof.Machine

/-! Sparse maps. -/

theorem mapFind?_mapSet_same {α : Type} (m : SMap α) (k : Nat) (v : α) : mapFind? (mapSet m k v) k = some v := by
  induction m with
  | nil => simp [mapSet, mapFind?]
  | cons e m ih =>
    obtain ⟨k', v'⟩ := e
    simp only [mapSet]
    split
    · simp [mapFind?]
    · split
      · simp [mapFind?]
      · simp only [mapFind?]; split
        · contradiction
        · exact ih

theorem mapFind?_mapSet_other {α : Type} (m : SMap α) (k j : Nat) (v : α) (h : k ≠ j) : mapFind? (mapSet m k v) j = mapFind? m j := by
  induction m with
  | nil => simp [mapSet, mapFind?, h]
  | cons e m ih =>
    obtain ⟨k', v'⟩ := e
    simp only [mapSet]
    split
    · simp [mapFind?, h]
    · split
      · next h2 => subst h2; simp [mapFind?, h]
      · simp only [mapFind?]; split
        · rfl
        · exact ih

@[simp] theorem mapGet_mapSet_same {α : Type} (m : SMap α) (k : Nat) (v d : α) : mapGet (mapSet m k v) k d = v := by
  simp [mapGet, mapFind?_mapSet_same]

theorem mapGet_mapSet_other {α : Type} (m : SMap α) (k j : Nat) (v d : α) (h : k ≠ j) : mapGet (mapSet m k v) j d = mapGet m j d := by
  simp [mapGet, mapFind?_mapSet_other m k j v h]

/-! Bit fields. -/

theorem fldMask_getLsbD (hi lo i : Nat) (h : lo ≤ hi) : (fldMask hi lo).getLsbD i = (decide (i < 64) && decide (lo ≤ i) && decide (i ≤ hi)) := by
  simp only [fldMask, BitVec.getLsbD_ofNat, Nat.testBit_mul_two_pow, Nat.testBit_two_pow_sub_one]
  by_cases h1 : i < 64 <;> by_cases h2 : lo ≤ i <;> simp [h1, h2]
  omega

theorem bitsOf_testBit (v hi lo i : Nat) : (bitsOf v hi lo).testBit i = (decide (i < hi + 1 - lo) && v.testBit (lo + i)) := by
  simp [bitsOf, Nat.testBit_mod_two_pow, Nat.testBit_shiftRight]

theorem fld_testBit (v : Word) (hi lo i : Nat) : (fld v hi lo).testBit i = (decide (i < hi + 1 - lo) && v.getLsbD (lo + i)) := by
  rw [fld, bitsOf_testBit]; rfl

/-- A field that was set reads as what was written. -/
theorem fld_setFld_same (v : Word) (hi lo x : Nat) (h : lo ≤ hi) (h64 : hi < 64) : fld (setFld v hi lo x) hi lo = x % 2 ^ (hi + 1 - lo) := by
  apply Nat.eq_of_testBit_eq; intro i
  rw [fld_testBit, Nat.testBit_mod_two_pow]
  by_cases hi' : i < hi + 1 - lo
  · have h1 : lo + i < 64 := by omega
    have h2 : lo + i ≤ hi := by omega
    have hm : (fldMask hi lo).getLsbD (lo + i) = true := by simp [fldMask_getLsbD _ _ _ h, h1, h2]
    simp only [setFld, BitVec.getLsbD_or, BitVec.getLsbD_and, BitVec.getLsbD_not, hm, BitVec.getLsbD_ofNat, Nat.testBit_mul_two_pow]
    simp [hi', h1]
  · simp [hi']

/-- Another field is as before. -/
theorem fld_setFld_other (v : Word) (hi lo x hi' lo' : Nat) (h : lo ≤ hi) (hd : hi' < lo ∨ hi < lo') : fld (setFld v hi lo x) hi' lo' = fld v hi' lo' := by
  apply Nat.eq_of_testBit_eq; intro i
  rw [fld_testBit, fld_testBit]
  by_cases hw : i < hi' + 1 - lo'
  · by_cases h64 : lo' + i < 64
    · have hn : ¬ (lo ≤ lo' + i ∧ lo' + i ≤ hi) := by omega
      have hm : (fldMask hi lo).getLsbD (lo' + i) = false := by
        rw [fldMask_getLsbD _ _ _ h]; simp only [h64, decide_true, Bool.true_and, Bool.and_eq_false_iff, decide_eq_false_iff_not]; omega
      simp only [setFld, BitVec.getLsbD_or, BitVec.getLsbD_and, BitVec.getLsbD_not, hm]
      simp [hw, h64]
    · rw [BitVec.getLsbD_of_ge _ _ (by omega), BitVec.getLsbD_of_ge _ _ (by omega)]
  · simp [hw]

/-- A field of a literal word. -/
theorem fld_ofNat (x hi lo : Nat) (h64 : hi < 64) : fld (BitVec.ofNat 64 x) hi lo = x / 2 ^ lo % 2 ^ (hi + 1 - lo) := by
  apply Nat.eq_of_testBit_eq; intro i
  rw [fld_testBit, Nat.testBit_mod_two_pow, Nat.testBit_div_two_pow]
  by_cases hi' : i < hi + 1 - lo
  · have h1 : lo + i < 64 := by omega
    rw [BitVec.getLsbD_ofNat]
    simp [hi', h1, Nat.add_comm]
  · simp [hi']

/-! Registers. -/

theorem reg_setReg_same (s : State) (pg off sel : Nat) (v : Word) : (s.setReg pg off sel v).reg pg off sel = v := by
  simp [State.reg, State.setReg, mapFind?_mapSet_same]

theorem reg_setReg_other (s : State) (pg off sel pg' off' sel' : Nat) (v : Word) (h : regKey pg off sel ≠ regKey pg' off' sel') :
    (s.setReg pg off sel v).reg pg' off' sel' = s.reg pg' off' sel' := by
  simp [State.reg, State.setReg, mapFind?_mapSet_other _ _ _ _ h]

/-- Register keys of different pages, offsets or selections differ. -/
theorem regKey_inj {pg off sel pg' off' sel' : Nat} (ho : off < 4096) (hs : sel < 32768) (ho' : off' < 4096) (hs' : sel' < 32768)
    (h : regKey pg off sel = regKey pg' off' sel') : pg = pg' ∧ off = off' ∧ sel = sel' := by
  simp only [regKey] at h; omega

theorem getF_setF_same (s : State) (pg off sel hi lo x : Nat) (h : lo ≤ hi) (h64 : hi < 64) :
    (s.setF pg off sel hi lo x).getF pg off sel hi lo = x % 2 ^ (hi + 1 - lo) := by
  simp [State.getF, State.setF, reg_setReg_same, fld_setFld_same _ _ _ _ h h64]

theorem getF_setF_field (s : State) (pg off sel hi lo x hi' lo' : Nat) (h : lo ≤ hi) (hd : hi' < lo ∨ hi < lo') :
    (s.setF pg off sel hi lo x).getF pg off sel hi' lo' = s.getF pg off sel hi' lo' := by
  simp [State.getF, State.setF, reg_setReg_same, fld_setFld_other _ _ _ _ _ _ h hd]

theorem getF_setF_other (s : State) (pg off sel hi lo x pg' off' sel' hi' lo' : Nat) (h : regKey pg off sel ≠ regKey pg' off' sel') :
    (s.setF pg off sel hi lo x).getF pg' off' sel' hi' lo' = s.getF pg' off' sel' hi' lo' := by
  simp [State.getF, State.setF, reg_setReg_other _ _ _ _ _ _ _ _ h]

theorem getF_setReg_same (s : State) (pg off sel hi lo : Nat) (v : Word) : (s.setReg pg off sel v).getF pg off sel hi lo = fld v hi lo := by
  simp [State.getF, reg_setReg_same]

theorem getF_setReg_other (s : State) (pg off sel pg' off' sel' hi lo : Nat) (v : Word) (h : regKey pg off sel ≠ regKey pg' off' sel') :
    (s.setReg pg off sel v).getF pg' off' sel' hi lo = s.getF pg' off' sel' hi lo := by
  simp [State.getF, reg_setReg_other _ _ _ _ _ _ _ _ h]

theorem reg_bump_same (s : State) (pg off sel n : Nat) : (s.bump pg off sel n).reg pg off sel = s.reg pg off sel + BitVec.ofNat 64 n := by
  simp [State.bump, reg_setReg_same]

end Sys2Proof.Machine
end

