-- ==== Sys2Proof/Laws/State.lean ====
section
/-!
SUPPORT. Each setter of a part of the state, on each field and on each accessor: true by unfolding, for simp.
-/
namespace Sys2Proof.Machine

section
variable (s : State) (pg off sel : Nat) (v : Word)
@[simp] theorem State.setReg_act : (s.setReg pg off sel v).act = s.act := rfl
@[simp] theorem State.setReg_staged : (s.setReg pg off sel v).staged = s.staged := rfl
@[simp] theorem State.setReg_lowHeld : (s.setReg pg off sel v).lowHeld = s.lowHeld := rfl
@[simp] theorem State.setReg_hiCap : (s.setReg pg off sel v).hiCap = s.hiCap := rfl
@[simp] theorem State.setReg_readData : (s.setReg pg off sel v).readData = s.readData := rfl
@[simp] theorem State.setReg_freeCtr : (s.setReg pg off sel v).freeCtr = s.freeCtr := rfl
@[simp] theorem State.setReg_beat : (s.setReg pg off sel v).beat = s.beat := rfl
@[simp] theorem State.setReg_frame : (s.setReg pg off sel v).frame = s.frame := rfl
@[simp] theorem State.setReg_frameAt : (s.setReg pg off sel v).frameAt = s.frameAt := rfl
@[simp] theorem State.setReg_frameLoad : (s.setReg pg off sel v).frameLoad = s.frameLoad := rfl
@[simp] theorem State.setReg_armB : (s.setReg pg off sel v).armB = s.armB := rfl
@[simp] theorem State.setReg_armF : (s.setReg pg off sel v).armF = s.armF := rfl
@[simp] theorem State.setReg_rejoin : (s.setReg pg off sel v).rejoin = s.rejoin := rfl
@[simp] theorem State.setReg_holds : (s.setReg pg off sel v).holds = s.holds := rfl
@[simp] theorem State.setReg_notTaken : (s.setReg pg off sel v).notTaken = s.notTaken := rfl
@[simp] theorem State.setReg_recSeq : (s.setReg pg off sel v).recSeq = s.recSeq := rfl
@[simp] theorem State.setReg_scr : (s.setReg pg off sel v).scr = s.scr := rfl
@[simp] theorem State.setReg_hbm : (s.setReg pg off sel v).hbm = s.hbm := rfl
@[simp] theorem State.setReg_upsets : (s.setReg pg off sel v).upsets = s.upsets := rfl
@[simp] theorem State.setReg_tiles : (s.setReg pg off sel v).tiles = s.tiles := rfl
@[simp] theorem State.setReg_pols : (s.setReg pg off sel v).pols = s.pols := rfl
@[simp] theorem State.setReg_intakes : (s.setReg pg off sel v).intakes = s.intakes := rfl
@[simp] theorem State.setReg_fns : (s.setReg pg off sel v).fns = s.fns := rfl
@[simp] theorem State.setReg_numVfs : (s.setReg pg off sel v).numVfs = s.numVfs := rfl
@[simp] theorem State.setReg_hostOut : (s.setReg pg off sel v).hostOut = s.hostOut := rfl
@[simp] theorem State.setReg_mgmtOut : (s.setReg pg off sel v).mgmtOut = s.mgmtOut := rfl
@[simp] theorem State.setReg_trace : (s.setReg pg off sel v).trace = s.trace := rfl
@[simp] theorem State.setReg_slices : (s.setReg pg off sel v).slices = s.slices := rfl
@[simp] theorem State.setReg_bridge : (s.setReg pg off sel v).bridge = s.bridge := rfl
@[simp] theorem State.setReg_stackSt : (s.setReg pg off sel v).stackSt = s.stackSt := rfl
@[simp] theorem State.setReg_clean : (s.setReg pg off sel v).clean = s.clean := rfl
@[simp] theorem State.setReg_zeroing : (s.setReg pg off sel v).zeroing = s.zeroing := rfl
@[simp] theorem State.setReg_waitSt : (s.setReg pg off sel v).waitSt = s.waitSt := rfl
@[simp] theorem State.setReg_poison : (s.setReg pg off sel v).poison = s.poison := rfl
@[simp] theorem State.setReg_inval : (s.setReg pg off sel v).inval = s.inval := rfl
@[simp] theorem State.setReg_loadData : (s.setReg pg off sel v).loadData = s.loadData := rfl
@[simp] theorem State.setReg_sqs : (s.setReg pg off sel v).sqs = s.sqs := rfl
@[simp] theorem State.setReg_pools : (s.setReg pg off sel v).pools = s.pools := rfl
@[simp] theorem State.setReg_d2d : (s.setReg pg off sel v).d2d = s.d2d := rfl
@[simp] theorem State.setReg_routes : (s.setReg pg off sel v).routes = s.routes := rfl
@[simp] theorem State.setReg_notices : (s.setReg pg off sel v).notices = s.notices := rfl
@[simp] theorem State.setReg_unreach : (s.setReg pg off sel v).unreach = s.unreach := rfl
@[simp] theorem State.setReg_flight : (s.setReg pg off sel v).flight = s.flight := rfl
@[simp] theorem State.setReg_ports : (s.setReg pg off sel v).ports = s.ports := rfl
@[simp] theorem State.setReg_sentFlits : (s.setReg pg off sel v).sentFlits = s.sentFlits := rfl
@[simp] theorem State.setReg_flows : (s.setReg pg off sel v).flows = s.flows := rfl
@[simp] theorem State.setReg_sendSeq : (s.setReg pg off sel v).sendSeq = s.sendSeq := rfl
@[simp] theorem State.setReg_linkRes : (s.setReg pg off sel v).linkRes = s.linkRes := rfl
@[simp] theorem State.setReg_rt : (s.setReg pg off sel v).rt = s.rt := rfl
@[simp] theorem State.setReg_untrusted : (s.setReg pg off sel v).untrusted = s.untrusted := rfl
@[simp] theorem State.setReg_badFtids : (s.setReg pg off sel v).badFtids = s.badFtids := rfl
@[simp] theorem State.setReg_kneaders : (s.setReg pg off sel v).kneaders = s.kneaders := rfl
@[simp] theorem State.setReg_power : (s.setReg pg off sel v).power = s.power := rfl
@[simp] theorem State.setReg_module : (s.setReg pg off sel v).module = s.module := rfl
@[simp] theorem State.setReg_loadWait : (s.setReg pg off sel v).loadWait = s.loadWait := rfl
@[simp] theorem State.setReg_inReset : (s.setReg pg off sel v).inReset = s.inReset := rfl
@[simp] theorem State.setReg_resetTarget : (s.setReg pg off sel v).resetTarget = s.resetTarget := rfl
@[simp] theorem State.setReg_pending : (s.setReg pg off sel v).pending = s.pending := rfl
@[simp] theorem State.setReg_at_tile (j : Nat) : (s.setReg pg off sel v).tile j = s.tile j := rfl
@[simp] theorem State.setReg_at_pol (j : Nat) : (s.setReg pg off sel v).pol j = s.pol j := rfl
@[simp] theorem State.setReg_at_intake (j : Nat) : (s.setReg pg off sel v).intake j = s.intake j := rfl
@[simp] theorem State.setReg_at_fn (j : Nat) : (s.setReg pg off sel v).fn j = s.fn j := rfl
@[simp] theorem State.setReg_at_slice (j : Nat) : (s.setReg pg off sel v).slice j = s.slice j := rfl
@[simp] theorem State.setReg_at_stack (j : Nat) : (s.setReg pg off sel v).stack j = s.stack j := rfl
@[simp] theorem State.setReg_at_sq (j : Nat) : (s.setReg pg off sel v).sq j = s.sq j := rfl
@[simp] theorem State.setReg_at_knd (j : Nat) : (s.setReg pg off sel v).knd j = s.knd j := rfl
@[simp] theorem State.setReg_at_port (j : Nat) : (s.setReg pg off sel v).port j = s.port j := rfl
@[simp] theorem State.setReg_at_d2dl (j : Nat) : (s.setReg pg off sel v).d2dl j = s.d2dl j := rfl
@[simp] theorem State.setReg_at_ring (j : Nat) : (s.setReg pg off sel v).ring j = s.ring j := rfl
@[simp] theorem State.setReg_regAct (g o e : Nat) : (s.setReg pg off sel v).regAct g o e = s.regAct g o e := rfl
@[simp] theorem State.setReg_getA (g o e hi lo : Nat) : (s.setReg pg off sel v).getA g o e hi lo = s.getA g o e hi lo := rfl
end

section
variable (s : State) (pg off sel : Nat) (v : Word)
@[simp] theorem State.setAct_regs : (s.setAct pg off sel v).regs = s.regs := rfl
@[simp] theorem State.setAct_staged : (s.setAct pg off sel v).staged = s.staged := rfl
@[simp] theorem State.setAct_lowHeld : (s.setAct pg off sel v).lowHeld = s.lowHeld := rfl
@[simp] theorem State.setAct_hiCap : (s.setAct pg off sel v).hiCap = s.hiCap := rfl
@[simp] theorem State.setAct_readData : (s.setAct pg off sel v).readData = s.readData := rfl
@[simp] theorem State.setAct_freeCtr : (s.setAct pg off sel v).freeCtr = s.freeCtr := rfl
@[simp] theorem State.setAct_beat : (s.setAct pg off sel v).beat = s.beat := rfl
@[simp] theorem State.setAct_frame : (s.setAct pg off sel v).frame = s.frame := rfl
@[simp] theorem State.setAct_frameAt : (s.setAct pg off sel v).frameAt = s.frameAt := rfl
@[simp] theorem State.setAct_frameLoad : (s.setAct pg off sel v).frameLoad = s.frameLoad := rfl
@[simp] theorem State.setAct_armB : (s.setAct pg off sel v).armB = s.armB := rfl
@[simp] theorem State.setAct_armF : (s.setAct pg off sel v).armF = s.armF := rfl
@[simp] theorem State.setAct_rejoin : (s.setAct pg off sel v).rejoin = s.rejoin := rfl
@[simp] theorem State.setAct_holds : (s.setAct pg off sel v).holds = s.holds := rfl
@[simp] theorem State.setAct_notTaken : (s.setAct pg off sel v).notTaken = s.notTaken := rfl
@[simp] theorem State.setAct_recSeq : (s.setAct pg off sel v).recSeq = s.recSeq := rfl
@[simp] theorem State.setAct_scr : (s.setAct pg off sel v).scr = s.scr := rfl
@[simp] theorem State.setAct_hbm : (s.setAct pg off sel v).hbm = s.hbm := rfl
@[simp] theorem State.setAct_upsets : (s.setAct pg off sel v).upsets = s.upsets := rfl
@[simp] theorem State.setAct_tiles : (s.setAct pg off sel v).tiles = s.tiles := rfl
@[simp] theorem State.setAct_pols : (s.setAct pg off sel v).pols = s.pols := rfl
@[simp] theorem State.setAct_intakes : (s.setAct pg off sel v).intakes = s.intakes := rfl
@[simp] theorem State.setAct_fns : (s.setAct pg off sel v).fns = s.fns := rfl
@[simp] theorem State.setAct_numVfs : (s.setAct pg off sel v).numVfs = s.numVfs := rfl
@[simp] theorem State.setAct_hostOut : (s.setAct pg off sel v).hostOut = s.hostOut := rfl
@[simp] theorem State.setAct_mgmtOut : (s.setAct pg off sel v).mgmtOut = s.mgmtOut := rfl
@[simp] theorem State.setAct_trace : (s.setAct pg off sel v).trace = s.trace := rfl
@[simp] theorem State.setAct_slices : (s.setAct pg off sel v).slices = s.slices := rfl
@[simp] theorem State.setAct_bridge : (s.setAct pg off sel v).bridge = s.bridge := rfl
@[simp] theorem State.setAct_stackSt : (s.setAct pg off sel v).stackSt = s.stackSt := rfl
@[simp] theorem State.setAct_clean : (s.setAct pg off sel v).clean = s.clean := rfl
@[simp] theorem State.setAct_zeroing : (s.setAct pg off sel v).zeroing = s.zeroing := rfl
@[simp] theorem State.setAct_waitSt : (s.setAct pg off sel v).waitSt = s.waitSt := rfl
@[simp] theorem State.setAct_poison : (s.setAct pg off sel v).poison = s.poison := rfl
@[simp] theorem State.setAct_inval : (s.setAct pg off sel v).inval = s.inval := rfl
@[simp] theorem State.setAct_loadData : (s.setAct pg off sel v).loadData = s.loadData := rfl
@[simp] theorem State.setAct_sqs : (s.setAct pg off sel v).sqs = s.sqs := rfl
@[simp] theorem State.setAct_pools : (s.setAct pg off sel v).pools = s.pools := rfl
@[simp] theorem State.setAct_d2d : (s.setAct pg off sel v).d2d = s.d2d := rfl
@[simp] theorem State.setAct_routes : (s.setAct pg off sel v).routes = s.routes := rfl
@[simp] theorem State.setAct_notices : (s.setAct pg off sel v).notices = s.notices := rfl
@[simp] theorem State.setAct_unreach : (s.setAct pg off sel v).unreach = s.unreach := rfl
@[simp] theorem State.setAct_flight : (s.setAct pg off sel v).flight = s.flight := rfl
@[simp] theorem State.setAct_ports : (s.setAct pg off sel v).ports = s.ports := rfl
@[simp] theorem State.setAct_sentFlits : (s.setAct pg off sel v).sentFlits = s.sentFlits := rfl
@[simp] theorem State.setAct_flows : (s.setAct pg off sel v).flows = s.flows := rfl
@[simp] theorem State.setAct_sendSeq : (s.setAct pg off sel v).sendSeq = s.sendSeq := rfl
@[simp] theorem State.setAct_linkRes : (s.setAct pg off sel v).linkRes = s.linkRes := rfl
@[simp] theorem State.setAct_rt : (s.setAct pg off sel v).rt = s.rt := rfl
@[simp] theorem State.setAct_untrusted : (s.setAct pg off sel v).untrusted = s.untrusted := rfl
@[simp] theorem State.setAct_badFtids : (s.setAct pg off sel v).badFtids = s.badFtids := rfl
@[simp] theorem State.setAct_kneaders : (s.setAct pg off sel v).kneaders = s.kneaders := rfl
@[simp] theorem State.setAct_power : (s.setAct pg off sel v).power = s.power := rfl
@[simp] theorem State.setAct_module : (s.setAct pg off sel v).module = s.module := rfl
@[simp] theorem State.setAct_loadWait : (s.setAct pg off sel v).loadWait = s.loadWait := rfl
@[simp] theorem State.setAct_inReset : (s.setAct pg off sel v).inReset = s.inReset := rfl
@[simp] theorem State.setAct_resetTarget : (s.setAct pg off sel v).resetTarget = s.resetTarget := rfl
@[simp] theorem State.setAct_pending : (s.setAct pg off sel v).pending = s.pending := rfl
@[simp] theorem State.setAct_at_tile (j : Nat) : (s.setAct pg off sel v).tile j = s.tile j := rfl
@[simp] theorem State.setAct_at_pol (j : Nat) : (s.setAct pg off sel v).pol j = s.pol j := rfl
@[simp] theorem State.setAct_at_intake (j : Nat) : (s.setAct pg off sel v).intake j = s.intake j := rfl
@[simp] theorem State.setAct_at_fn (j : Nat) : (s.setAct pg off sel v).fn j = s.fn j := rfl
@[simp] theorem State.setAct_at_slice (j : Nat) : (s.setAct pg off sel v).slice j = s.slice j := rfl
@[simp] theorem State.setAct_at_stack (j : Nat) : (s.setAct pg off sel v).stack j = s.stack j := rfl
@[simp] theorem State.setAct_at_sq (j : Nat) : (s.setAct pg off sel v).sq j = s.sq j := rfl
@[simp] theorem State.setAct_at_knd (j : Nat) : (s.setAct pg off sel v).knd j = s.knd j := rfl
@[simp] theorem State.setAct_at_port (j : Nat) : (s.setAct pg off sel v).port j = s.port j := rfl
@[simp] theorem State.setAct_at_d2dl (j : Nat) : (s.setAct pg off sel v).d2dl j = s.d2dl j := rfl
@[simp] theorem State.setAct_at_ring (j : Nat) : (s.setAct pg off sel v).ring j = s.ring j := rfl
@[simp] theorem State.setAct_reg (g o e : Nat) : (s.setAct pg off sel v).reg g o e = s.reg g o e := rfl
@[simp] theorem State.setAct_getF (g o e hi lo : Nat) : (s.setAct pg off sel v).getF g o e hi lo = s.getF g o e hi lo := rfl
end

section
variable (s : State) (t : Nat) (x : Tile)
@[simp] theorem State.setTile_regs : (s.setTile t x).regs = s.regs := rfl
@[simp] theorem State.setTile_act : (s.setTile t x).act = s.act := rfl
@[simp] theorem State.setTile_staged : (s.setTile t x).staged = s.staged := rfl
@[simp] theorem State.setTile_lowHeld : (s.setTile t x).lowHeld = s.lowHeld := rfl
@[simp] theorem State.setTile_hiCap : (s.setTile t x).hiCap = s.hiCap := rfl
@[simp] theorem State.setTile_readData : (s.setTile t x).readData = s.readData := rfl
@[simp] theorem State.setTile_freeCtr : (s.setTile t x).freeCtr = s.freeCtr := rfl
@[simp] theorem State.setTile_beat : (s.setTile t x).beat = s.beat := rfl
@[simp] theorem State.setTile_frame : (s.setTile t x).frame = s.frame := rfl
@[simp] theorem State.setTile_frameAt : (s.setTile t x).frameAt = s.frameAt := rfl
@[simp] theorem State.setTile_frameLoad : (s.setTile t x).frameLoad = s.frameLoad := rfl
@[simp] theorem State.setTile_armB : (s.setTile t x).armB = s.armB := rfl
@[simp] theorem State.setTile_armF : (s.setTile t x).armF = s.armF := rfl
@[simp] theorem State.setTile_rejoin : (s.setTile t x).rejoin = s.rejoin := rfl
@[simp] theorem State.setTile_holds : (s.setTile t x).holds = s.holds := rfl
@[simp] theorem State.setTile_notTaken : (s.setTile t x).notTaken = s.notTaken := rfl
@[simp] theorem State.setTile_recSeq : (s.setTile t x).recSeq = s.recSeq := rfl
@[simp] theorem State.setTile_scr : (s.setTile t x).scr = s.scr := rfl
@[simp] theorem State.setTile_hbm : (s.setTile t x).hbm = s.hbm := rfl
@[simp] theorem State.setTile_upsets : (s.setTile t x).upsets = s.upsets := rfl
@[simp] theorem State.setTile_pols : (s.setTile t x).pols = s.pols := rfl
@[simp] theorem State.setTile_intakes : (s.setTile t x).intakes = s.intakes := rfl
@[simp] theorem State.setTile_fns : (s.setTile t x).fns = s.fns := rfl
@[simp] theorem State.setTile_numVfs : (s.setTile t x).numVfs = s.numVfs := rfl
@[simp] theorem State.setTile_hostOut : (s.setTile t x).hostOut = s.hostOut := rfl
@[simp] theorem State.setTile_mgmtOut : (s.setTile t x).mgmtOut = s.mgmtOut := rfl
@[simp] theorem State.setTile_trace : (s.setTile t x).trace = s.trace := rfl
@[simp] theorem State.setTile_slices : (s.setTile t x).slices = s.slices := rfl
@[simp] theorem State.setTile_bridge : (s.setTile t x).bridge = s.bridge := rfl
@[simp] theorem State.setTile_stackSt : (s.setTile t x).stackSt = s.stackSt := rfl
@[simp] theorem State.setTile_clean : (s.setTile t x).clean = s.clean := rfl
@[simp] theorem State.setTile_zeroing : (s.setTile t x).zeroing = s.zeroing := rfl
@[simp] theorem State.setTile_waitSt : (s.setTile t x).waitSt = s.waitSt := rfl
@[simp] theorem State.setTile_poison : (s.setTile t x).poison = s.poison := rfl
@[simp] theorem State.setTile_inval : (s.setTile t x).inval = s.inval := rfl
@[simp] theorem State.setTile_loadData : (s.setTile t x).loadData = s.loadData := rfl
@[simp] theorem State.setTile_sqs : (s.setTile t x).sqs = s.sqs := rfl
@[simp] theorem State.setTile_pools : (s.setTile t x).pools = s.pools := rfl
@[simp] theorem State.setTile_d2d : (s.setTile t x).d2d = s.d2d := rfl
@[simp] theorem State.setTile_routes : (s.setTile t x).routes = s.routes := rfl
@[simp] theorem State.setTile_notices : (s.setTile t x).notices = s.notices := rfl
@[simp] theorem State.setTile_unreach : (s.setTile t x).unreach = s.unreach := rfl
@[simp] theorem State.setTile_flight : (s.setTile t x).flight = s.flight := rfl
@[simp] theorem State.setTile_ports : (s.setTile t x).ports = s.ports := rfl
@[simp] theorem State.setTile_sentFlits : (s.setTile t x).sentFlits = s.sentFlits := rfl
@[simp] theorem State.setTile_flows : (s.setTile t x).flows = s.flows := rfl
@[simp] theorem State.setTile_sendSeq : (s.setTile t x).sendSeq = s.sendSeq := rfl
@[simp] theorem State.setTile_linkRes : (s.setTile t x).linkRes = s.linkRes := rfl
@[simp] theorem State.setTile_rt : (s.setTile t x).rt = s.rt := rfl
@[simp] theorem State.setTile_untrusted : (s.setTile t x).untrusted = s.untrusted := rfl
@[simp] theorem State.setTile_badFtids : (s.setTile t x).badFtids = s.badFtids := rfl
@[simp] theorem State.setTile_kneaders : (s.setTile t x).kneaders = s.kneaders := rfl
@[simp] theorem State.setTile_power : (s.setTile t x).power = s.power := rfl
@[simp] theorem State.setTile_module : (s.setTile t x).module = s.module := rfl
@[simp] theorem State.setTile_loadWait : (s.setTile t x).loadWait = s.loadWait := rfl
@[simp] theorem State.setTile_inReset : (s.setTile t x).inReset = s.inReset := rfl
@[simp] theorem State.setTile_resetTarget : (s.setTile t x).resetTarget = s.resetTarget := rfl
@[simp] theorem State.setTile_pending : (s.setTile t x).pending = s.pending := rfl
@[simp] theorem State.setTile_at_pol (j : Nat) : (s.setTile t x).pol j = s.pol j := rfl
@[simp] theorem State.setTile_at_intake (j : Nat) : (s.setTile t x).intake j = s.intake j := rfl
@[simp] theorem State.setTile_at_fn (j : Nat) : (s.setTile t x).fn j = s.fn j := rfl
@[simp] theorem State.setTile_at_slice (j : Nat) : (s.setTile t x).slice j = s.slice j := rfl
@[simp] theorem State.setTile_at_stack (j : Nat) : (s.setTile t x).stack j = s.stack j := rfl
@[simp] theorem State.setTile_at_sq (j : Nat) : (s.setTile t x).sq j = s.sq j := rfl
@[simp] theorem State.setTile_at_knd (j : Nat) : (s.setTile t x).knd j = s.knd j := rfl
@[simp] theorem State.setTile_at_port (j : Nat) : (s.setTile t x).port j = s.port j := rfl
@[simp] theorem State.setTile_at_d2dl (j : Nat) : (s.setTile t x).d2dl j = s.d2dl j := rfl
@[simp] theorem State.setTile_at_ring (j : Nat) : (s.setTile t x).ring j = s.ring j := rfl
@[simp] theorem State.setTile_reg (g o e : Nat) : (s.setTile t x).reg g o e = s.reg g o e := rfl
@[simp] theorem State.setTile_getF (g o e hi lo : Nat) : (s.setTile t x).getF g o e hi lo = s.getF g o e hi lo := rfl
@[simp] theorem State.setTile_regAct (g o e : Nat) : (s.setTile t x).regAct g o e = s.regAct g o e := rfl
@[simp] theorem State.setTile_getA (g o e hi lo : Nat) : (s.setTile t x).getA g o e hi lo = s.getA g o e hi lo := rfl
end

section
variable (s : State) (p : Nat) (x : Polder)
@[simp] theorem State.setPol_regs : (s.setPol p x).regs = s.regs := rfl
@[simp] theorem State.setPol_act : (s.setPol p x).act = s.act := rfl
@[simp] theorem State.setPol_staged : (s.setPol p x).staged = s.staged := rfl
@[simp] theorem State.setPol_lowHeld : (s.setPol p x).lowHeld = s.lowHeld := rfl
@[simp] theorem State.setPol_hiCap : (s.setPol p x).hiCap = s.hiCap := rfl
@[simp] theorem State.setPol_readData : (s.setPol p x).readData = s.readData := rfl
@[simp] theorem State.setPol_freeCtr : (s.setPol p x).freeCtr = s.freeCtr := rfl
@[simp] theorem State.setPol_beat : (s.setPol p x).beat = s.beat := rfl
@[simp] theorem State.setPol_frame : (s.setPol p x).frame = s.frame := rfl
@[simp] theorem State.setPol_frameAt : (s.setPol p x).frameAt = s.frameAt := rfl
@[simp] theorem State.setPol_frameLoad : (s.setPol p x).frameLoad = s.frameLoad := rfl
@[simp] theorem State.setPol_armB : (s.setPol p x).armB = s.armB := rfl
@[simp] theorem State.setPol_armF : (s.setPol p x).armF = s.armF := rfl
@[simp] theorem State.setPol_rejoin : (s.setPol p x).rejoin = s.rejoin := rfl
@[simp] theorem State.setPol_holds : (s.setPol p x).holds = s.holds := rfl
@[simp] theorem State.setPol_notTaken : (s.setPol p x).notTaken = s.notTaken := rfl
@[simp] theorem State.setPol_recSeq : (s.setPol p x).recSeq = s.recSeq := rfl
@[simp] theorem State.setPol_scr : (s.setPol p x).scr = s.scr := rfl
@[simp] theorem State.setPol_hbm : (s.setPol p x).hbm = s.hbm := rfl
@[simp] theorem State.setPol_upsets : (s.setPol p x).upsets = s.upsets := rfl
@[simp] theorem State.setPol_tiles : (s.setPol p x).tiles = s.tiles := rfl
@[simp] theorem State.setPol_intakes : (s.setPol p x).intakes = s.intakes := rfl
@[simp] theorem State.setPol_fns : (s.setPol p x).fns = s.fns := rfl
@[simp] theorem State.setPol_numVfs : (s.setPol p x).numVfs = s.numVfs := rfl
@[simp] theorem State.setPol_hostOut : (s.setPol p x).hostOut = s.hostOut := rfl
@[simp] theorem State.setPol_mgmtOut : (s.setPol p x).mgmtOut = s.mgmtOut := rfl
@[simp] theorem State.setPol_trace : (s.setPol p x).trace = s.trace := rfl
@[simp] theorem State.setPol_slices : (s.setPol p x).slices = s.slices := rfl
@[simp] theorem State.setPol_bridge : (s.setPol p x).bridge = s.bridge := rfl
@[simp] theorem State.setPol_stackSt : (s.setPol p x).stackSt = s.stackSt := rfl
@[simp] theorem State.setPol_clean : (s.setPol p x).clean = s.clean := rfl
@[simp] theorem State.setPol_zeroing : (s.setPol p x).zeroing = s.zeroing := rfl
@[simp] theorem State.setPol_waitSt : (s.setPol p x).waitSt = s.waitSt := rfl
@[simp] theorem State.setPol_poison : (s.setPol p x).poison = s.poison := rfl
@[simp] theorem State.setPol_inval : (s.setPol p x).inval = s.inval := rfl
@[simp] theorem State.setPol_loadData : (s.setPol p x).loadData = s.loadData := rfl
@[simp] theorem State.setPol_sqs : (s.setPol p x).sqs = s.sqs := rfl
@[simp] theorem State.setPol_pools : (s.setPol p x).pools = s.pools := rfl
@[simp] theorem State.setPol_d2d : (s.setPol p x).d2d = s.d2d := rfl
@[simp] theorem State.setPol_routes : (s.setPol p x).routes = s.routes := rfl
@[simp] theorem State.setPol_notices : (s.setPol p x).notices = s.notices := rfl
@[simp] theorem State.setPol_unreach : (s.setPol p x).unreach = s.unreach := rfl
@[simp] theorem State.setPol_flight : (s.setPol p x).flight = s.flight := rfl
@[simp] theorem State.setPol_ports : (s.setPol p x).ports = s.ports := rfl
@[simp] theorem State.setPol_sentFlits : (s.setPol p x).sentFlits = s.sentFlits := rfl
@[simp] theorem State.setPol_flows : (s.setPol p x).flows = s.flows := rfl
@[simp] theorem State.setPol_sendSeq : (s.setPol p x).sendSeq = s.sendSeq := rfl
@[simp] theorem State.setPol_linkRes : (s.setPol p x).linkRes = s.linkRes := rfl
@[simp] theorem State.setPol_rt : (s.setPol p x).rt = s.rt := rfl
@[simp] theorem State.setPol_untrusted : (s.setPol p x).untrusted = s.untrusted := rfl
@[simp] theorem State.setPol_badFtids : (s.setPol p x).badFtids = s.badFtids := rfl
@[simp] theorem State.setPol_kneaders : (s.setPol p x).kneaders = s.kneaders := rfl
@[simp] theorem State.setPol_power : (s.setPol p x).power = s.power := rfl
@[simp] theorem State.setPol_module : (s.setPol p x).module = s.module := rfl
@[simp] theorem State.setPol_loadWait : (s.setPol p x).loadWait = s.loadWait := rfl
@[simp] theorem State.setPol_inReset : (s.setPol p x).inReset = s.inReset := rfl
@[simp] theorem State.setPol_resetTarget : (s.setPol p x).resetTarget = s.resetTarget := rfl
@[simp] theorem State.setPol_pending : (s.setPol p x).pending = s.pending := rfl
@[simp] theorem State.setPol_at_tile (j : Nat) : (s.setPol p x).tile j = s.tile j := rfl
@[simp] theorem State.setPol_at_intake (j : Nat) : (s.setPol p x).intake j = s.intake j := rfl
@[simp] theorem State.setPol_at_fn (j : Nat) : (s.setPol p x).fn j = s.fn j := rfl
@[simp] theorem State.setPol_at_slice (j : Nat) : (s.setPol p x).slice j = s.slice j := rfl
@[simp] theorem State.setPol_at_stack (j : Nat) : (s.setPol p x).stack j = s.stack j := rfl
@[simp] theorem State.setPol_at_sq (j : Nat) : (s.setPol p x).sq j = s.sq j := rfl
@[simp] theorem State.setPol_at_knd (j : Nat) : (s.setPol p x).knd j = s.knd j := rfl
@[simp] theorem State.setPol_at_port (j : Nat) : (s.setPol p x).port j = s.port j := rfl
@[simp] theorem State.setPol_at_d2dl (j : Nat) : (s.setPol p x).d2dl j = s.d2dl j := rfl
@[simp] theorem State.setPol_at_ring (j : Nat) : (s.setPol p x).ring j = s.ring j := rfl
@[simp] theorem State.setPol_reg (g o e : Nat) : (s.setPol p x).reg g o e = s.reg g o e := rfl
@[simp] theorem State.setPol_getF (g o e hi lo : Nat) : (s.setPol p x).getF g o e hi lo = s.getF g o e hi lo := rfl
@[simp] theorem State.setPol_regAct (g o e : Nat) : (s.setPol p x).regAct g o e = s.regAct g o e := rfl
@[simp] theorem State.setPol_getA (g o e hi lo : Nat) : (s.setPol p x).getA g o e hi lo = s.getA g o e hi lo := rfl
end

section
variable (s : State) (p : Nat) (x : Intake)
@[simp] theorem State.setIntake_regs : (s.setIntake p x).regs = s.regs := rfl
@[simp] theorem State.setIntake_act : (s.setIntake p x).act = s.act := rfl
@[simp] theorem State.setIntake_staged : (s.setIntake p x).staged = s.staged := rfl
@[simp] theorem State.setIntake_lowHeld : (s.setIntake p x).lowHeld = s.lowHeld := rfl
@[simp] theorem State.setIntake_hiCap : (s.setIntake p x).hiCap = s.hiCap := rfl
@[simp] theorem State.setIntake_readData : (s.setIntake p x).readData = s.readData := rfl
@[simp] theorem State.setIntake_freeCtr : (s.setIntake p x).freeCtr = s.freeCtr := rfl
@[simp] theorem State.setIntake_beat : (s.setIntake p x).beat = s.beat := rfl
@[simp] theorem State.setIntake_frame : (s.setIntake p x).frame = s.frame := rfl
@[simp] theorem State.setIntake_frameAt : (s.setIntake p x).frameAt = s.frameAt := rfl
@[simp] theorem State.setIntake_frameLoad : (s.setIntake p x).frameLoad = s.frameLoad := rfl
@[simp] theorem State.setIntake_armB : (s.setIntake p x).armB = s.armB := rfl
@[simp] theorem State.setIntake_armF : (s.setIntake p x).armF = s.armF := rfl
@[simp] theorem State.setIntake_rejoin : (s.setIntake p x).rejoin = s.rejoin := rfl
@[simp] theorem State.setIntake_holds : (s.setIntake p x).holds = s.holds := rfl
@[simp] theorem State.setIntake_notTaken : (s.setIntake p x).notTaken = s.notTaken := rfl
@[simp] theorem State.setIntake_recSeq : (s.setIntake p x).recSeq = s.recSeq := rfl
@[simp] theorem State.setIntake_scr : (s.setIntake p x).scr = s.scr := rfl
@[simp] theorem State.setIntake_hbm : (s.setIntake p x).hbm = s.hbm := rfl
@[simp] theorem State.setIntake_upsets : (s.setIntake p x).upsets = s.upsets := rfl
@[simp] theorem State.setIntake_tiles : (s.setIntake p x).tiles = s.tiles := rfl
@[simp] theorem State.setIntake_pols : (s.setIntake p x).pols = s.pols := rfl
@[simp] theorem State.setIntake_fns : (s.setIntake p x).fns = s.fns := rfl
@[simp] theorem State.setIntake_numVfs : (s.setIntake p x).numVfs = s.numVfs := rfl
@[simp] theorem State.setIntake_hostOut : (s.setIntake p x).hostOut = s.hostOut := rfl
@[simp] theorem State.setIntake_mgmtOut : (s.setIntake p x).mgmtOut = s.mgmtOut := rfl
@[simp] theorem State.setIntake_trace : (s.setIntake p x).trace = s.trace := rfl
@[simp] theorem State.setIntake_slices : (s.setIntake p x).slices = s.slices := rfl
@[simp] theorem State.setIntake_bridge : (s.setIntake p x).bridge = s.bridge := rfl
@[simp] theorem State.setIntake_stackSt : (s.setIntake p x).stackSt = s.stackSt := rfl
@[simp] theorem State.setIntake_clean : (s.setIntake p x).clean = s.clean := rfl
@[simp] theorem State.setIntake_zeroing : (s.setIntake p x).zeroing = s.zeroing := rfl
@[simp] theorem State.setIntake_waitSt : (s.setIntake p x).waitSt = s.waitSt := rfl
@[simp] theorem State.setIntake_poison : (s.setIntake p x).poison = s.poison := rfl
@[simp] theorem State.setIntake_inval : (s.setIntake p x).inval = s.inval := rfl
@[simp] theorem State.setIntake_loadData : (s.setIntake p x).loadData = s.loadData := rfl
@[simp] theorem State.setIntake_sqs : (s.setIntake p x).sqs = s.sqs := rfl
@[simp] theorem State.setIntake_pools : (s.setIntake p x).pools = s.pools := rfl
@[simp] theorem State.setIntake_d2d : (s.setIntake p x).d2d = s.d2d := rfl
@[simp] theorem State.setIntake_routes : (s.setIntake p x).routes = s.routes := rfl
@[simp] theorem State.setIntake_notices : (s.setIntake p x).notices = s.notices := rfl
@[simp] theorem State.setIntake_unreach : (s.setIntake p x).unreach = s.unreach := rfl
@[simp] theorem State.setIntake_flight : (s.setIntake p x).flight = s.flight := rfl
@[simp] theorem State.setIntake_ports : (s.setIntake p x).ports = s.ports := rfl
@[simp] theorem State.setIntake_sentFlits : (s.setIntake p x).sentFlits = s.sentFlits := rfl
@[simp] theorem State.setIntake_flows : (s.setIntake p x).flows = s.flows := rfl
@[simp] theorem State.setIntake_sendSeq : (s.setIntake p x).sendSeq = s.sendSeq := rfl
@[simp] theorem State.setIntake_linkRes : (s.setIntake p x).linkRes = s.linkRes := rfl
@[simp] theorem State.setIntake_rt : (s.setIntake p x).rt = s.rt := rfl
@[simp] theorem State.setIntake_untrusted : (s.setIntake p x).untrusted = s.untrusted := rfl
@[simp] theorem State.setIntake_badFtids : (s.setIntake p x).badFtids = s.badFtids := rfl
@[simp] theorem State.setIntake_kneaders : (s.setIntake p x).kneaders = s.kneaders := rfl
@[simp] theorem State.setIntake_power : (s.setIntake p x).power = s.power := rfl
@[simp] theorem State.setIntake_module : (s.setIntake p x).module = s.module := rfl
@[simp] theorem State.setIntake_loadWait : (s.setIntake p x).loadWait = s.loadWait := rfl
@[simp] theorem State.setIntake_inReset : (s.setIntake p x).inReset = s.inReset := rfl
@[simp] theorem State.setIntake_resetTarget : (s.setIntake p x).resetTarget = s.resetTarget := rfl
@[simp] theorem State.setIntake_pending : (s.setIntake p x).pending = s.pending := rfl
@[simp] theorem State.setIntake_at_tile (j : Nat) : (s.setIntake p x).tile j = s.tile j := rfl
@[simp] theorem State.setIntake_at_pol (j : Nat) : (s.setIntake p x).pol j = s.pol j := rfl
@[simp] theorem State.setIntake_at_fn (j : Nat) : (s.setIntake p x).fn j = s.fn j := rfl
@[simp] theorem State.setIntake_at_slice (j : Nat) : (s.setIntake p x).slice j = s.slice j := rfl
@[simp] theorem State.setIntake_at_stack (j : Nat) : (s.setIntake p x).stack j = s.stack j := rfl
@[simp] theorem State.setIntake_at_sq (j : Nat) : (s.setIntake p x).sq j = s.sq j := rfl
@[simp] theorem State.setIntake_at_knd (j : Nat) : (s.setIntake p x).knd j = s.knd j := rfl
@[simp] theorem State.setIntake_at_port (j : Nat) : (s.setIntake p x).port j = s.port j := rfl
@[simp] theorem State.setIntake_at_d2dl (j : Nat) : (s.setIntake p x).d2dl j = s.d2dl j := rfl
@[simp] theorem State.setIntake_at_ring (j : Nat) : (s.setIntake p x).ring j = s.ring j := rfl
@[simp] theorem State.setIntake_reg (g o e : Nat) : (s.setIntake p x).reg g o e = s.reg g o e := rfl
@[simp] theorem State.setIntake_getF (g o e hi lo : Nat) : (s.setIntake p x).getF g o e hi lo = s.getF g o e hi lo := rfl
@[simp] theorem State.setIntake_regAct (g o e : Nat) : (s.setIntake p x).regAct g o e = s.regAct g o e := rfl
@[simp] theorem State.setIntake_getA (g o e hi lo : Nat) : (s.setIntake p x).getA g o e hi lo = s.getA g o e hi lo := rfl
end

section
variable (s : State) (f : Nat) (x : PcieFn)
@[simp] theorem State.setFn_regs : (s.setFn f x).regs = s.regs := rfl
@[simp] theorem State.setFn_act : (s.setFn f x).act = s.act := rfl
@[simp] theorem State.setFn_staged : (s.setFn f x).staged = s.staged := rfl
@[simp] theorem State.setFn_lowHeld : (s.setFn f x).lowHeld = s.lowHeld := rfl
@[simp] theorem State.setFn_hiCap : (s.setFn f x).hiCap = s.hiCap := rfl
@[simp] theorem State.setFn_readData : (s.setFn f x).readData = s.readData := rfl
@[simp] theorem State.setFn_freeCtr : (s.setFn f x).freeCtr = s.freeCtr := rfl
@[simp] theorem State.setFn_beat : (s.setFn f x).beat = s.beat := rfl
@[simp] theorem State.setFn_frame : (s.setFn f x).frame = s.frame := rfl
@[simp] theorem State.setFn_frameAt : (s.setFn f x).frameAt = s.frameAt := rfl
@[simp] theorem State.setFn_frameLoad : (s.setFn f x).frameLoad = s.frameLoad := rfl
@[simp] theorem State.setFn_armB : (s.setFn f x).armB = s.armB := rfl
@[simp] theorem State.setFn_armF : (s.setFn f x).armF = s.armF := rfl
@[simp] theorem State.setFn_rejoin : (s.setFn f x).rejoin = s.rejoin := rfl
@[simp] theorem State.setFn_holds : (s.setFn f x).holds = s.holds := rfl
@[simp] theorem State.setFn_notTaken : (s.setFn f x).notTaken = s.notTaken := rfl
@[simp] theorem State.setFn_recSeq : (s.setFn f x).recSeq = s.recSeq := rfl
@[simp] theorem State.setFn_scr : (s.setFn f x).scr = s.scr := rfl
@[simp] theorem State.setFn_hbm : (s.setFn f x).hbm = s.hbm := rfl
@[simp] theorem State.setFn_upsets : (s.setFn f x).upsets = s.upsets := rfl
@[simp] theorem State.setFn_tiles : (s.setFn f x).tiles = s.tiles := rfl
@[simp] theorem State.setFn_pols : (s.setFn f x).pols = s.pols := rfl
@[simp] theorem State.setFn_intakes : (s.setFn f x).intakes = s.intakes := rfl
@[simp] theorem State.setFn_numVfs : (s.setFn f x).numVfs = s.numVfs := rfl
@[simp] theorem State.setFn_hostOut : (s.setFn f x).hostOut = s.hostOut := rfl
@[simp] theorem State.setFn_mgmtOut : (s.setFn f x).mgmtOut = s.mgmtOut := rfl
@[simp] theorem State.setFn_trace : (s.setFn f x).trace = s.trace := rfl
@[simp] theorem State.setFn_slices : (s.setFn f x).slices = s.slices := rfl
@[simp] theorem State.setFn_bridge : (s.setFn f x).bridge = s.bridge := rfl
@[simp] theorem State.setFn_stackSt : (s.setFn f x).stackSt = s.stackSt := rfl
@[simp] theorem State.setFn_clean : (s.setFn f x).clean = s.clean := rfl
@[simp] theorem State.setFn_zeroing : (s.setFn f x).zeroing = s.zeroing := rfl
@[simp] theorem State.setFn_waitSt : (s.setFn f x).waitSt = s.waitSt := rfl
@[simp] theorem State.setFn_poison : (s.setFn f x).poison = s.poison := rfl
@[simp] theorem State.setFn_inval : (s.setFn f x).inval = s.inval := rfl
@[simp] theorem State.setFn_loadData : (s.setFn f x).loadData = s.loadData := rfl
@[simp] theorem State.setFn_sqs : (s.setFn f x).sqs = s.sqs := rfl
@[simp] theorem State.setFn_pools : (s.setFn f x).pools = s.pools := rfl
@[simp] theorem State.setFn_d2d : (s.setFn f x).d2d = s.d2d := rfl
@[simp] theorem State.setFn_routes : (s.setFn f x).routes = s.routes := rfl
@[simp] theorem State.setFn_notices : (s.setFn f x).notices = s.notices := rfl
@[simp] theorem State.setFn_unreach : (s.setFn f x).unreach = s.unreach := rfl
@[simp] theorem State.setFn_flight : (s.setFn f x).flight = s.flight := rfl
@[simp] theorem State.setFn_ports : (s.setFn f x).ports = s.ports := rfl
@[simp] theorem State.setFn_sentFlits : (s.setFn f x).sentFlits = s.sentFlits := rfl
@[simp] theorem State.setFn_flows : (s.setFn f x).flows = s.flows := rfl
@[simp] theorem State.setFn_sendSeq : (s.setFn f x).sendSeq = s.sendSeq := rfl
@[simp] theorem State.setFn_linkRes : (s.setFn f x).linkRes = s.linkRes := rfl
@[simp] theorem State.setFn_rt : (s.setFn f x).rt = s.rt := rfl
@[simp] theorem State.setFn_untrusted : (s.setFn f x).untrusted = s.untrusted := rfl
@[simp] theorem State.setFn_badFtids : (s.setFn f x).badFtids = s.badFtids := rfl
@[simp] theorem State.setFn_kneaders : (s.setFn f x).kneaders = s.kneaders := rfl
@[simp] theorem State.setFn_power : (s.setFn f x).power = s.power := rfl
@[simp] theorem State.setFn_module : (s.setFn f x).module = s.module := rfl
@[simp] theorem State.setFn_loadWait : (s.setFn f x).loadWait = s.loadWait := rfl
@[simp] theorem State.setFn_inReset : (s.setFn f x).inReset = s.inReset := rfl
@[simp] theorem State.setFn_resetTarget : (s.setFn f x).resetTarget = s.resetTarget := rfl
@[simp] theorem State.setFn_pending : (s.setFn f x).pending = s.pending := rfl
@[simp] theorem State.setFn_at_tile (j : Nat) : (s.setFn f x).tile j = s.tile j := rfl
@[simp] theorem State.setFn_at_pol (j : Nat) : (s.setFn f x).pol j = s.pol j := rfl
@[simp] theorem State.setFn_at_intake (j : Nat) : (s.setFn f x).intake j = s.intake j := rfl
@[simp] theorem State.setFn_at_slice (j : Nat) : (s.setFn f x).slice j = s.slice j := rfl
@[simp] theorem State.setFn_at_stack (j : Nat) : (s.setFn f x).stack j = s.stack j := rfl
@[simp] theorem State.setFn_at_sq (j : Nat) : (s.setFn f x).sq j = s.sq j := rfl
@[simp] theorem State.setFn_at_knd (j : Nat) : (s.setFn f x).knd j = s.knd j := rfl
@[simp] theorem State.setFn_at_port (j : Nat) : (s.setFn f x).port j = s.port j := rfl
@[simp] theorem State.setFn_at_d2dl (j : Nat) : (s.setFn f x).d2dl j = s.d2dl j := rfl
@[simp] theorem State.setFn_at_ring (j : Nat) : (s.setFn f x).ring j = s.ring j := rfl
@[simp] theorem State.setFn_reg (g o e : Nat) : (s.setFn f x).reg g o e = s.reg g o e := rfl
@[simp] theorem State.setFn_getF (g o e hi lo : Nat) : (s.setFn f x).getF g o e hi lo = s.getF g o e hi lo := rfl
@[simp] theorem State.setFn_regAct (g o e : Nat) : (s.setFn f x).regAct g o e = s.regAct g o e := rfl
@[simp] theorem State.setFn_getA (g o e hi lo : Nat) : (s.setFn f x).getA g o e hi lo = s.getA g o e hi lo := rfl
end

section
variable (s : State) (sl : Nat) (x : Slice)
@[simp] theorem State.setSlice_regs : (s.setSlice sl x).regs = s.regs := rfl
@[simp] theorem State.setSlice_act : (s.setSlice sl x).act = s.act := rfl
@[simp] theorem State.setSlice_staged : (s.setSlice sl x).staged = s.staged := rfl
@[simp] theorem State.setSlice_lowHeld : (s.setSlice sl x).lowHeld = s.lowHeld := rfl
@[simp] theorem State.setSlice_hiCap : (s.setSlice sl x).hiCap = s.hiCap := rfl
@[simp] theorem State.setSlice_readData : (s.setSlice sl x).readData = s.readData := rfl
@[simp] theorem State.setSlice_freeCtr : (s.setSlice sl x).freeCtr = s.freeCtr := rfl
@[simp] theorem State.setSlice_beat : (s.setSlice sl x).beat = s.beat := rfl
@[simp] theorem State.setSlice_frame : (s.setSlice sl x).frame = s.frame := rfl
@[simp] theorem State.setSlice_frameAt : (s.setSlice sl x).frameAt = s.frameAt := rfl
@[simp] theorem State.setSlice_frameLoad : (s.setSlice sl x).frameLoad = s.frameLoad := rfl
@[simp] theorem State.setSlice_armB : (s.setSlice sl x).armB = s.armB := rfl
@[simp] theorem State.setSlice_armF : (s.setSlice sl x).armF = s.armF := rfl
@[simp] theorem State.setSlice_rejoin : (s.setSlice sl x).rejoin = s.rejoin := rfl
@[simp] theorem State.setSlice_holds : (s.setSlice sl x).holds = s.holds := rfl
@[simp] theorem State.setSlice_notTaken : (s.setSlice sl x).notTaken = s.notTaken := rfl
@[simp] theorem State.setSlice_recSeq : (s.setSlice sl x).recSeq = s.recSeq := rfl
@[simp] theorem State.setSlice_scr : (s.setSlice sl x).scr = s.scr := rfl
@[simp] theorem State.setSlice_hbm : (s.setSlice sl x).hbm = s.hbm := rfl
@[simp] theorem State.setSlice_upsets : (s.setSlice sl x).upsets = s.upsets := rfl
@[simp] theorem State.setSlice_tiles : (s.setSlice sl x).tiles = s.tiles := rfl
@[simp] theorem State.setSlice_pols : (s.setSlice sl x).pols = s.pols := rfl
@[simp] theorem State.setSlice_intakes : (s.setSlice sl x).intakes = s.intakes := rfl
@[simp] theorem State.setSlice_fns : (s.setSlice sl x).fns = s.fns := rfl
@[simp] theorem State.setSlice_numVfs : (s.setSlice sl x).numVfs = s.numVfs := rfl
@[simp] theorem State.setSlice_hostOut : (s.setSlice sl x).hostOut = s.hostOut := rfl
@[simp] theorem State.setSlice_mgmtOut : (s.setSlice sl x).mgmtOut = s.mgmtOut := rfl
@[simp] theorem State.setSlice_trace : (s.setSlice sl x).trace = s.trace := rfl
@[simp] theorem State.setSlice_bridge : (s.setSlice sl x).bridge = s.bridge := rfl
@[simp] theorem State.setSlice_stackSt : (s.setSlice sl x).stackSt = s.stackSt := rfl
@[simp] theorem State.setSlice_clean : (s.setSlice sl x).clean = s.clean := rfl
@[simp] theorem State.setSlice_zeroing : (s.setSlice sl x).zeroing = s.zeroing := rfl
@[simp] theorem State.setSlice_waitSt : (s.setSlice sl x).waitSt = s.waitSt := rfl
@[simp] theorem State.setSlice_poison : (s.setSlice sl x).poison = s.poison := rfl
@[simp] theorem State.setSlice_inval : (s.setSlice sl x).inval = s.inval := rfl
@[simp] theorem State.setSlice_loadData : (s.setSlice sl x).loadData = s.loadData := rfl
@[simp] theorem State.setSlice_sqs : (s.setSlice sl x).sqs = s.sqs := rfl
@[simp] theorem State.setSlice_pools : (s.setSlice sl x).pools = s.pools := rfl
@[simp] theorem State.setSlice_d2d : (s.setSlice sl x).d2d = s.d2d := rfl
@[simp] theorem State.setSlice_routes : (s.setSlice sl x).routes = s.routes := rfl
@[simp] theorem State.setSlice_notices : (s.setSlice sl x).notices = s.notices := rfl
@[simp] theorem State.setSlice_unreach : (s.setSlice sl x).unreach = s.unreach := rfl
@[simp] theorem State.setSlice_flight : (s.setSlice sl x).flight = s.flight := rfl
@[simp] theorem State.setSlice_ports : (s.setSlice sl x).ports = s.ports := rfl
@[simp] theorem State.setSlice_sentFlits : (s.setSlice sl x).sentFlits = s.sentFlits := rfl
@[simp] theorem State.setSlice_flows : (s.setSlice sl x).flows = s.flows := rfl
@[simp] theorem State.setSlice_sendSeq : (s.setSlice sl x).sendSeq = s.sendSeq := rfl
@[simp] theorem State.setSlice_linkRes : (s.setSlice sl x).linkRes = s.linkRes := rfl
@[simp] theorem State.setSlice_rt : (s.setSlice sl x).rt = s.rt := rfl
@[simp] theorem State.setSlice_untrusted : (s.setSlice sl x).untrusted = s.untrusted := rfl
@[simp] theorem State.setSlice_badFtids : (s.setSlice sl x).badFtids = s.badFtids := rfl
@[simp] theorem State.setSlice_kneaders : (s.setSlice sl x).kneaders = s.kneaders := rfl
@[simp] theorem State.setSlice_power : (s.setSlice sl x).power = s.power := rfl
@[simp] theorem State.setSlice_module : (s.setSlice sl x).module = s.module := rfl
@[simp] theorem State.setSlice_loadWait : (s.setSlice sl x).loadWait = s.loadWait := rfl
@[simp] theorem State.setSlice_inReset : (s.setSlice sl x).inReset = s.inReset := rfl
@[simp] theorem State.setSlice_resetTarget : (s.setSlice sl x).resetTarget = s.resetTarget := rfl
@[simp] theorem State.setSlice_pending : (s.setSlice sl x).pending = s.pending := rfl
@[simp] theorem State.setSlice_at_tile (j : Nat) : (s.setSlice sl x).tile j = s.tile j := rfl
@[simp] theorem State.setSlice_at_pol (j : Nat) : (s.setSlice sl x).pol j = s.pol j := rfl
@[simp] theorem State.setSlice_at_intake (j : Nat) : (s.setSlice sl x).intake j = s.intake j := rfl
@[simp] theorem State.setSlice_at_fn (j : Nat) : (s.setSlice sl x).fn j = s.fn j := rfl
@[simp] theorem State.setSlice_at_stack (j : Nat) : (s.setSlice sl x).stack j = s.stack j := rfl
@[simp] theorem State.setSlice_at_sq (j : Nat) : (s.setSlice sl x).sq j = s.sq j := rfl
@[simp] theorem State.setSlice_at_knd (j : Nat) : (s.setSlice sl x).knd j = s.knd j := rfl
@[simp] theorem State.setSlice_at_port (j : Nat) : (s.setSlice sl x).port j = s.port j := rfl
@[simp] theorem State.setSlice_at_d2dl (j : Nat) : (s.setSlice sl x).d2dl j = s.d2dl j := rfl
@[simp] theorem State.setSlice_at_ring (j : Nat) : (s.setSlice sl x).ring j = s.ring j := rfl
@[simp] theorem State.setSlice_reg (g o e : Nat) : (s.setSlice sl x).reg g o e = s.reg g o e := rfl
@[simp] theorem State.setSlice_getF (g o e hi lo : Nat) : (s.setSlice sl x).getF g o e hi lo = s.getF g o e hi lo := rfl
@[simp] theorem State.setSlice_regAct (g o e : Nat) : (s.setSlice sl x).regAct g o e = s.regAct g o e := rfl
@[simp] theorem State.setSlice_getA (g o e hi lo : Nat) : (s.setSlice sl x).getA g o e hi lo = s.getA g o e hi lo := rfl
end

section
variable (s : State) (k : Nat) (x : Stack)
@[simp] theorem State.setStack_regs : (s.setStack k x).regs = s.regs := rfl
@[simp] theorem State.setStack_act : (s.setStack k x).act = s.act := rfl
@[simp] theorem State.setStack_staged : (s.setStack k x).staged = s.staged := rfl
@[simp] theorem State.setStack_lowHeld : (s.setStack k x).lowHeld = s.lowHeld := rfl
@[simp] theorem State.setStack_hiCap : (s.setStack k x).hiCap = s.hiCap := rfl
@[simp] theorem State.setStack_readData : (s.setStack k x).readData = s.readData := rfl
@[simp] theorem State.setStack_freeCtr : (s.setStack k x).freeCtr = s.freeCtr := rfl
@[simp] theorem State.setStack_beat : (s.setStack k x).beat = s.beat := rfl
@[simp] theorem State.setStack_frame : (s.setStack k x).frame = s.frame := rfl
@[simp] theorem State.setStack_frameAt : (s.setStack k x).frameAt = s.frameAt := rfl
@[simp] theorem State.setStack_frameLoad : (s.setStack k x).frameLoad = s.frameLoad := rfl
@[simp] theorem State.setStack_armB : (s.setStack k x).armB = s.armB := rfl
@[simp] theorem State.setStack_armF : (s.setStack k x).armF = s.armF := rfl
@[simp] theorem State.setStack_rejoin : (s.setStack k x).rejoin = s.rejoin := rfl
@[simp] theorem State.setStack_holds : (s.setStack k x).holds = s.holds := rfl
@[simp] theorem State.setStack_notTaken : (s.setStack k x).notTaken = s.notTaken := rfl
@[simp] theorem State.setStack_recSeq : (s.setStack k x).recSeq = s.recSeq := rfl
@[simp] theorem State.setStack_scr : (s.setStack k x).scr = s.scr := rfl
@[simp] theorem State.setStack_hbm : (s.setStack k x).hbm = s.hbm := rfl
@[simp] theorem State.setStack_upsets : (s.setStack k x).upsets = s.upsets := rfl
@[simp] theorem State.setStack_tiles : (s.setStack k x).tiles = s.tiles := rfl
@[simp] theorem State.setStack_pols : (s.setStack k x).pols = s.pols := rfl
@[simp] theorem State.setStack_intakes : (s.setStack k x).intakes = s.intakes := rfl
@[simp] theorem State.setStack_fns : (s.setStack k x).fns = s.fns := rfl
@[simp] theorem State.setStack_numVfs : (s.setStack k x).numVfs = s.numVfs := rfl
@[simp] theorem State.setStack_hostOut : (s.setStack k x).hostOut = s.hostOut := rfl
@[simp] theorem State.setStack_mgmtOut : (s.setStack k x).mgmtOut = s.mgmtOut := rfl
@[simp] theorem State.setStack_trace : (s.setStack k x).trace = s.trace := rfl
@[simp] theorem State.setStack_slices : (s.setStack k x).slices = s.slices := rfl
@[simp] theorem State.setStack_bridge : (s.setStack k x).bridge = s.bridge := rfl
@[simp] theorem State.setStack_clean : (s.setStack k x).clean = s.clean := rfl
@[simp] theorem State.setStack_zeroing : (s.setStack k x).zeroing = s.zeroing := rfl
@[simp] theorem State.setStack_waitSt : (s.setStack k x).waitSt = s.waitSt := rfl
@[simp] theorem State.setStack_poison : (s.setStack k x).poison = s.poison := rfl
@[simp] theorem State.setStack_inval : (s.setStack k x).inval = s.inval := rfl
@[simp] theorem State.setStack_loadData : (s.setStack k x).loadData = s.loadData := rfl
@[simp] theorem State.setStack_sqs : (s.setStack k x).sqs = s.sqs := rfl
@[simp] theorem State.setStack_pools : (s.setStack k x).pools = s.pools := rfl
@[simp] theorem State.setStack_d2d : (s.setStack k x).d2d = s.d2d := rfl
@[simp] theorem State.setStack_routes : (s.setStack k x).routes = s.routes := rfl
@[simp] theorem State.setStack_notices : (s.setStack k x).notices = s.notices := rfl
@[simp] theorem State.setStack_unreach : (s.setStack k x).unreach = s.unreach := rfl
@[simp] theorem State.setStack_flight : (s.setStack k x).flight = s.flight := rfl
@[simp] theorem State.setStack_ports : (s.setStack k x).ports = s.ports := rfl
@[simp] theorem State.setStack_sentFlits : (s.setStack k x).sentFlits = s.sentFlits := rfl
@[simp] theorem State.setStack_flows : (s.setStack k x).flows = s.flows := rfl
@[simp] theorem State.setStack_sendSeq : (s.setStack k x).sendSeq = s.sendSeq := rfl
@[simp] theorem State.setStack_linkRes : (s.setStack k x).linkRes = s.linkRes := rfl
@[simp] theorem State.setStack_rt : (s.setStack k x).rt = s.rt := rfl
@[simp] theorem State.setStack_untrusted : (s.setStack k x).untrusted = s.untrusted := rfl
@[simp] theorem State.setStack_badFtids : (s.setStack k x).badFtids = s.badFtids := rfl
@[simp] theorem State.setStack_kneaders : (s.setStack k x).kneaders = s.kneaders := rfl
@[simp] theorem State.setStack_power : (s.setStack k x).power = s.power := rfl
@[simp] theorem State.setStack_module : (s.setStack k x).module = s.module := rfl
@[simp] theorem State.setStack_loadWait : (s.setStack k x).loadWait = s.loadWait := rfl
@[simp] theorem State.setStack_inReset : (s.setStack k x).inReset = s.inReset := rfl
@[simp] theorem State.setStack_resetTarget : (s.setStack k x).resetTarget = s.resetTarget := rfl
@[simp] theorem State.setStack_pending : (s.setStack k x).pending = s.pending := rfl
@[simp] theorem State.setStack_at_tile (j : Nat) : (s.setStack k x).tile j = s.tile j := rfl
@[simp] theorem State.setStack_at_pol (j : Nat) : (s.setStack k x).pol j = s.pol j := rfl
@[simp] theorem State.setStack_at_intake (j : Nat) : (s.setStack k x).intake j = s.intake j := rfl
@[simp] theorem State.setStack_at_fn (j : Nat) : (s.setStack k x).fn j = s.fn j := rfl
@[simp] theorem State.setStack_at_slice (j : Nat) : (s.setStack k x).slice j = s.slice j := rfl
@[simp] theorem State.setStack_at_sq (j : Nat) : (s.setStack k x).sq j = s.sq j := rfl
@[simp] theorem State.setStack_at_knd (j : Nat) : (s.setStack k x).knd j = s.knd j := rfl
@[simp] theorem State.setStack_at_port (j : Nat) : (s.setStack k x).port j = s.port j := rfl
@[simp] theorem State.setStack_at_d2dl (j : Nat) : (s.setStack k x).d2dl j = s.d2dl j := rfl
@[simp] theorem State.setStack_at_ring (j : Nat) : (s.setStack k x).ring j = s.ring j := rfl
@[simp] theorem State.setStack_reg (g o e : Nat) : (s.setStack k x).reg g o e = s.reg g o e := rfl
@[simp] theorem State.setStack_getF (g o e hi lo : Nat) : (s.setStack k x).getF g o e hi lo = s.getF g o e hi lo := rfl
@[simp] theorem State.setStack_regAct (g o e : Nat) : (s.setStack k x).regAct g o e = s.regAct g o e := rfl
@[simp] theorem State.setStack_getA (g o e hi lo : Nat) : (s.setStack k x).getA g o e hi lo = s.getA g o e hi lo := rfl
end

section
variable (s : State) (q : Nat) (x : SqQueue)
@[simp] theorem State.setSq_regs : (s.setSq q x).regs = s.regs := rfl
@[simp] theorem State.setSq_act : (s.setSq q x).act = s.act := rfl
@[simp] theorem State.setSq_staged : (s.setSq q x).staged = s.staged := rfl
@[simp] theorem State.setSq_lowHeld : (s.setSq q x).lowHeld = s.lowHeld := rfl
@[simp] theorem State.setSq_hiCap : (s.setSq q x).hiCap = s.hiCap := rfl
@[simp] theorem State.setSq_readData : (s.setSq q x).readData = s.readData := rfl
@[simp] theorem State.setSq_freeCtr : (s.setSq q x).freeCtr = s.freeCtr := rfl
@[simp] theorem State.setSq_beat : (s.setSq q x).beat = s.beat := rfl
@[simp] theorem State.setSq_frame : (s.setSq q x).frame = s.frame := rfl
@[simp] theorem State.setSq_frameAt : (s.setSq q x).frameAt = s.frameAt := rfl
@[simp] theorem State.setSq_frameLoad : (s.setSq q x).frameLoad = s.frameLoad := rfl
@[simp] theorem State.setSq_armB : (s.setSq q x).armB = s.armB := rfl
@[simp] theorem State.setSq_armF : (s.setSq q x).armF = s.armF := rfl
@[simp] theorem State.setSq_rejoin : (s.setSq q x).rejoin = s.rejoin := rfl
@[simp] theorem State.setSq_holds : (s.setSq q x).holds = s.holds := rfl
@[simp] theorem State.setSq_notTaken : (s.setSq q x).notTaken = s.notTaken := rfl
@[simp] theorem State.setSq_recSeq : (s.setSq q x).recSeq = s.recSeq := rfl
@[simp] theorem State.setSq_scr : (s.setSq q x).scr = s.scr := rfl
@[simp] theorem State.setSq_hbm : (s.setSq q x).hbm = s.hbm := rfl
@[simp] theorem State.setSq_upsets : (s.setSq q x).upsets = s.upsets := rfl
@[simp] theorem State.setSq_tiles : (s.setSq q x).tiles = s.tiles := rfl
@[simp] theorem State.setSq_pols : (s.setSq q x).pols = s.pols := rfl
@[simp] theorem State.setSq_intakes : (s.setSq q x).intakes = s.intakes := rfl
@[simp] theorem State.setSq_fns : (s.setSq q x).fns = s.fns := rfl
@[simp] theorem State.setSq_numVfs : (s.setSq q x).numVfs = s.numVfs := rfl
@[simp] theorem State.setSq_hostOut : (s.setSq q x).hostOut = s.hostOut := rfl
@[simp] theorem State.setSq_mgmtOut : (s.setSq q x).mgmtOut = s.mgmtOut := rfl
@[simp] theorem State.setSq_trace : (s.setSq q x).trace = s.trace := rfl
@[simp] theorem State.setSq_slices : (s.setSq q x).slices = s.slices := rfl
@[simp] theorem State.setSq_bridge : (s.setSq q x).bridge = s.bridge := rfl
@[simp] theorem State.setSq_stackSt : (s.setSq q x).stackSt = s.stackSt := rfl
@[simp] theorem State.setSq_clean : (s.setSq q x).clean = s.clean := rfl
@[simp] theorem State.setSq_zeroing : (s.setSq q x).zeroing = s.zeroing := rfl
@[simp] theorem State.setSq_waitSt : (s.setSq q x).waitSt = s.waitSt := rfl
@[simp] theorem State.setSq_poison : (s.setSq q x).poison = s.poison := rfl
@[simp] theorem State.setSq_inval : (s.setSq q x).inval = s.inval := rfl
@[simp] theorem State.setSq_loadData : (s.setSq q x).loadData = s.loadData := rfl
@[simp] theorem State.setSq_pools : (s.setSq q x).pools = s.pools := rfl
@[simp] theorem State.setSq_d2d : (s.setSq q x).d2d = s.d2d := rfl
@[simp] theorem State.setSq_routes : (s.setSq q x).routes = s.routes := rfl
@[simp] theorem State.setSq_notices : (s.setSq q x).notices = s.notices := rfl
@[simp] theorem State.setSq_unreach : (s.setSq q x).unreach = s.unreach := rfl
@[simp] theorem State.setSq_flight : (s.setSq q x).flight = s.flight := rfl
@[simp] theorem State.setSq_ports : (s.setSq q x).ports = s.ports := rfl
@[simp] theorem State.setSq_sentFlits : (s.setSq q x).sentFlits = s.sentFlits := rfl
@[simp] theorem State.setSq_flows : (s.setSq q x).flows = s.flows := rfl
@[simp] theorem State.setSq_sendSeq : (s.setSq q x).sendSeq = s.sendSeq := rfl
@[simp] theorem State.setSq_linkRes : (s.setSq q x).linkRes = s.linkRes := rfl
@[simp] theorem State.setSq_rt : (s.setSq q x).rt = s.rt := rfl
@[simp] theorem State.setSq_untrusted : (s.setSq q x).untrusted = s.untrusted := rfl
@[simp] theorem State.setSq_badFtids : (s.setSq q x).badFtids = s.badFtids := rfl
@[simp] theorem State.setSq_kneaders : (s.setSq q x).kneaders = s.kneaders := rfl
@[simp] theorem State.setSq_power : (s.setSq q x).power = s.power := rfl
@[simp] theorem State.setSq_module : (s.setSq q x).module = s.module := rfl
@[simp] theorem State.setSq_loadWait : (s.setSq q x).loadWait = s.loadWait := rfl
@[simp] theorem State.setSq_inReset : (s.setSq q x).inReset = s.inReset := rfl
@[simp] theorem State.setSq_resetTarget : (s.setSq q x).resetTarget = s.resetTarget := rfl
@[simp] theorem State.setSq_pending : (s.setSq q x).pending = s.pending := rfl
@[simp] theorem State.setSq_at_tile (j : Nat) : (s.setSq q x).tile j = s.tile j := rfl
@[simp] theorem State.setSq_at_pol (j : Nat) : (s.setSq q x).pol j = s.pol j := rfl
@[simp] theorem State.setSq_at_intake (j : Nat) : (s.setSq q x).intake j = s.intake j := rfl
@[simp] theorem State.setSq_at_fn (j : Nat) : (s.setSq q x).fn j = s.fn j := rfl
@[simp] theorem State.setSq_at_slice (j : Nat) : (s.setSq q x).slice j = s.slice j := rfl
@[simp] theorem State.setSq_at_stack (j : Nat) : (s.setSq q x).stack j = s.stack j := rfl
@[simp] theorem State.setSq_at_knd (j : Nat) : (s.setSq q x).knd j = s.knd j := rfl
@[simp] theorem State.setSq_at_port (j : Nat) : (s.setSq q x).port j = s.port j := rfl
@[simp] theorem State.setSq_at_d2dl (j : Nat) : (s.setSq q x).d2dl j = s.d2dl j := rfl
@[simp] theorem State.setSq_at_ring (j : Nat) : (s.setSq q x).ring j = s.ring j := rfl
@[simp] theorem State.setSq_reg (g o e : Nat) : (s.setSq q x).reg g o e = s.reg g o e := rfl
@[simp] theorem State.setSq_getF (g o e hi lo : Nat) : (s.setSq q x).getF g o e hi lo = s.getF g o e hi lo := rfl
@[simp] theorem State.setSq_regAct (g o e : Nat) : (s.setSq q x).regAct g o e = s.regAct g o e := rfl
@[simp] theorem State.setSq_getA (g o e hi lo : Nat) : (s.setSq q x).getA g o e hi lo = s.getA g o e hi lo := rfl
end

section
variable (s : State) (d : Nat) (x : Kneader)
@[simp] theorem State.setKnd_regs : (s.setKnd d x).regs = s.regs := rfl
@[simp] theorem State.setKnd_act : (s.setKnd d x).act = s.act := rfl
@[simp] theorem State.setKnd_staged : (s.setKnd d x).staged = s.staged := rfl
@[simp] theorem State.setKnd_lowHeld : (s.setKnd d x).lowHeld = s.lowHeld := rfl
@[simp] theorem State.setKnd_hiCap : (s.setKnd d x).hiCap = s.hiCap := rfl
@[simp] theorem State.setKnd_readData : (s.setKnd d x).readData = s.readData := rfl
@[simp] theorem State.setKnd_freeCtr : (s.setKnd d x).freeCtr = s.freeCtr := rfl
@[simp] theorem State.setKnd_beat : (s.setKnd d x).beat = s.beat := rfl
@[simp] theorem State.setKnd_frame : (s.setKnd d x).frame = s.frame := rfl
@[simp] theorem State.setKnd_frameAt : (s.setKnd d x).frameAt = s.frameAt := rfl
@[simp] theorem State.setKnd_frameLoad : (s.setKnd d x).frameLoad = s.frameLoad := rfl
@[simp] theorem State.setKnd_armB : (s.setKnd d x).armB = s.armB := rfl
@[simp] theorem State.setKnd_armF : (s.setKnd d x).armF = s.armF := rfl
@[simp] theorem State.setKnd_rejoin : (s.setKnd d x).rejoin = s.rejoin := rfl
@[simp] theorem State.setKnd_holds : (s.setKnd d x).holds = s.holds := rfl
@[simp] theorem State.setKnd_notTaken : (s.setKnd d x).notTaken = s.notTaken := rfl
@[simp] theorem State.setKnd_recSeq : (s.setKnd d x).recSeq = s.recSeq := rfl
@[simp] theorem State.setKnd_scr : (s.setKnd d x).scr = s.scr := rfl
@[simp] theorem State.setKnd_hbm : (s.setKnd d x).hbm = s.hbm := rfl
@[simp] theorem State.setKnd_upsets : (s.setKnd d x).upsets = s.upsets := rfl
@[simp] theorem State.setKnd_tiles : (s.setKnd d x).tiles = s.tiles := rfl
@[simp] theorem State.setKnd_pols : (s.setKnd d x).pols = s.pols := rfl
@[simp] theorem State.setKnd_intakes : (s.setKnd d x).intakes = s.intakes := rfl
@[simp] theorem State.setKnd_fns : (s.setKnd d x).fns = s.fns := rfl
@[simp] theorem State.setKnd_numVfs : (s.setKnd d x).numVfs = s.numVfs := rfl
@[simp] theorem State.setKnd_hostOut : (s.setKnd d x).hostOut = s.hostOut := rfl
@[simp] theorem State.setKnd_mgmtOut : (s.setKnd d x).mgmtOut = s.mgmtOut := rfl
@[simp] theorem State.setKnd_trace : (s.setKnd d x).trace = s.trace := rfl
@[simp] theorem State.setKnd_slices : (s.setKnd d x).slices = s.slices := rfl
@[simp] theorem State.setKnd_bridge : (s.setKnd d x).bridge = s.bridge := rfl
@[simp] theorem State.setKnd_stackSt : (s.setKnd d x).stackSt = s.stackSt := rfl
@[simp] theorem State.setKnd_clean : (s.setKnd d x).clean = s.clean := rfl
@[simp] theorem State.setKnd_zeroing : (s.setKnd d x).zeroing = s.zeroing := rfl
@[simp] theorem State.setKnd_waitSt : (s.setKnd d x).waitSt = s.waitSt := rfl
@[simp] theorem State.setKnd_poison : (s.setKnd d x).poison = s.poison := rfl
@[simp] theorem State.setKnd_inval : (s.setKnd d x).inval = s.inval := rfl
@[simp] theorem State.setKnd_loadData : (s.setKnd d x).loadData = s.loadData := rfl
@[simp] theorem State.setKnd_sqs : (s.setKnd d x).sqs = s.sqs := rfl
@[simp] theorem State.setKnd_pools : (s.setKnd d x).pools = s.pools := rfl
@[simp] theorem State.setKnd_d2d : (s.setKnd d x).d2d = s.d2d := rfl
@[simp] theorem State.setKnd_routes : (s.setKnd d x).routes = s.routes := rfl
@[simp] theorem State.setKnd_notices : (s.setKnd d x).notices = s.notices := rfl
@[simp] theorem State.setKnd_unreach : (s.setKnd d x).unreach = s.unreach := rfl
@[simp] theorem State.setKnd_flight : (s.setKnd d x).flight = s.flight := rfl
@[simp] theorem State.setKnd_ports : (s.setKnd d x).ports = s.ports := rfl
@[simp] theorem State.setKnd_sentFlits : (s.setKnd d x).sentFlits = s.sentFlits := rfl
@[simp] theorem State.setKnd_flows : (s.setKnd d x).flows = s.flows := rfl
@[simp] theorem State.setKnd_sendSeq : (s.setKnd d x).sendSeq = s.sendSeq := rfl
@[simp] theorem State.setKnd_linkRes : (s.setKnd d x).linkRes = s.linkRes := rfl
@[simp] theorem State.setKnd_rt : (s.setKnd d x).rt = s.rt := rfl
@[simp] theorem State.setKnd_untrusted : (s.setKnd d x).untrusted = s.untrusted := rfl
@[simp] theorem State.setKnd_badFtids : (s.setKnd d x).badFtids = s.badFtids := rfl
@[simp] theorem State.setKnd_power : (s.setKnd d x).power = s.power := rfl
@[simp] theorem State.setKnd_module : (s.setKnd d x).module = s.module := rfl
@[simp] theorem State.setKnd_loadWait : (s.setKnd d x).loadWait = s.loadWait := rfl
@[simp] theorem State.setKnd_inReset : (s.setKnd d x).inReset = s.inReset := rfl
@[simp] theorem State.setKnd_resetTarget : (s.setKnd d x).resetTarget = s.resetTarget := rfl
@[simp] theorem State.setKnd_pending : (s.setKnd d x).pending = s.pending := rfl
@[simp] theorem State.setKnd_at_tile (j : Nat) : (s.setKnd d x).tile j = s.tile j := rfl
@[simp] theorem State.setKnd_at_pol (j : Nat) : (s.setKnd d x).pol j = s.pol j := rfl
@[simp] theorem State.setKnd_at_intake (j : Nat) : (s.setKnd d x).intake j = s.intake j := rfl
@[simp] theorem State.setKnd_at_fn (j : Nat) : (s.setKnd d x).fn j = s.fn j := rfl
@[simp] theorem State.setKnd_at_slice (j : Nat) : (s.setKnd d x).slice j = s.slice j := rfl
@[simp] theorem State.setKnd_at_stack (j : Nat) : (s.setKnd d x).stack j = s.stack j := rfl
@[simp] theorem State.setKnd_at_sq (j : Nat) : (s.setKnd d x).sq j = s.sq j := rfl
@[simp] theorem State.setKnd_at_port (j : Nat) : (s.setKnd d x).port j = s.port j := rfl
@[simp] theorem State.setKnd_at_d2dl (j : Nat) : (s.setKnd d x).d2dl j = s.d2dl j := rfl
@[simp] theorem State.setKnd_at_ring (j : Nat) : (s.setKnd d x).ring j = s.ring j := rfl
@[simp] theorem State.setKnd_reg (g o e : Nat) : (s.setKnd d x).reg g o e = s.reg g o e := rfl
@[simp] theorem State.setKnd_getF (g o e hi lo : Nat) : (s.setKnd d x).getF g o e hi lo = s.getF g o e hi lo := rfl
@[simp] theorem State.setKnd_regAct (g o e : Nat) : (s.setKnd d x).regAct g o e = s.regAct g o e := rfl
@[simp] theorem State.setKnd_getA (g o e hi lo : Nat) : (s.setKnd d x).getA g o e hi lo = s.getA g o e hi lo := rfl
end

section
variable (s : State) (p : Nat) (x : Port)
@[simp] theorem State.setPort_regs : (s.setPort p x).regs = s.regs := rfl
@[simp] theorem State.setPort_act : (s.setPort p x).act = s.act := rfl
@[simp] theorem State.setPort_staged : (s.setPort p x).staged = s.staged := rfl
@[simp] theorem State.setPort_lowHeld : (s.setPort p x).lowHeld = s.lowHeld := rfl
@[simp] theorem State.setPort_hiCap : (s.setPort p x).hiCap = s.hiCap := rfl
@[simp] theorem State.setPort_readData : (s.setPort p x).readData = s.readData := rfl
@[simp] theorem State.setPort_freeCtr : (s.setPort p x).freeCtr = s.freeCtr := rfl
@[simp] theorem State.setPort_beat : (s.setPort p x).beat = s.beat := rfl
@[simp] theorem State.setPort_frame : (s.setPort p x).frame = s.frame := rfl
@[simp] theorem State.setPort_frameAt : (s.setPort p x).frameAt = s.frameAt := rfl
@[simp] theorem State.setPort_frameLoad : (s.setPort p x).frameLoad = s.frameLoad := rfl
@[simp] theorem State.setPort_armB : (s.setPort p x).armB = s.armB := rfl
@[simp] theorem State.setPort_armF : (s.setPort p x).armF = s.armF := rfl
@[simp] theorem State.setPort_rejoin : (s.setPort p x).rejoin = s.rejoin := rfl
@[simp] theorem State.setPort_holds : (s.setPort p x).holds = s.holds := rfl
@[simp] theorem State.setPort_notTaken : (s.setPort p x).notTaken = s.notTaken := rfl
@[simp] theorem State.setPort_recSeq : (s.setPort p x).recSeq = s.recSeq := rfl
@[simp] theorem State.setPort_scr : (s.setPort p x).scr = s.scr := rfl
@[simp] theorem State.setPort_hbm : (s.setPort p x).hbm = s.hbm := rfl
@[simp] theorem State.setPort_upsets : (s.setPort p x).upsets = s.upsets := rfl
@[simp] theorem State.setPort_tiles : (s.setPort p x).tiles = s.tiles := rfl
@[simp] theorem State.setPort_pols : (s.setPort p x).pols = s.pols := rfl
@[simp] theorem State.setPort_intakes : (s.setPort p x).intakes = s.intakes := rfl
@[simp] theorem State.setPort_fns : (s.setPort p x).fns = s.fns := rfl
@[simp] theorem State.setPort_numVfs : (s.setPort p x).numVfs = s.numVfs := rfl
@[simp] theorem State.setPort_hostOut : (s.setPort p x).hostOut = s.hostOut := rfl
@[simp] theorem State.setPort_mgmtOut : (s.setPort p x).mgmtOut = s.mgmtOut := rfl
@[simp] theorem State.setPort_trace : (s.setPort p x).trace = s.trace := rfl
@[simp] theorem State.setPort_slices : (s.setPort p x).slices = s.slices := rfl
@[simp] theorem State.setPort_bridge : (s.setPort p x).bridge = s.bridge := rfl
@[simp] theorem State.setPort_stackSt : (s.setPort p x).stackSt = s.stackSt := rfl
@[simp] theorem State.setPort_clean : (s.setPort p x).clean = s.clean := rfl
@[simp] theorem State.setPort_zeroing : (s.setPort p x).zeroing = s.zeroing := rfl
@[simp] theorem State.setPort_waitSt : (s.setPort p x).waitSt = s.waitSt := rfl
@[simp] theorem State.setPort_poison : (s.setPort p x).poison = s.poison := rfl
@[simp] theorem State.setPort_inval : (s.setPort p x).inval = s.inval := rfl
@[simp] theorem State.setPort_loadData : (s.setPort p x).loadData = s.loadData := rfl
@[simp] theorem State.setPort_sqs : (s.setPort p x).sqs = s.sqs := rfl
@[simp] theorem State.setPort_pools : (s.setPort p x).pools = s.pools := rfl
@[simp] theorem State.setPort_d2d : (s.setPort p x).d2d = s.d2d := rfl
@[simp] theorem State.setPort_routes : (s.setPort p x).routes = s.routes := rfl
@[simp] theorem State.setPort_notices : (s.setPort p x).notices = s.notices := rfl
@[simp] theorem State.setPort_unreach : (s.setPort p x).unreach = s.unreach := rfl
@[simp] theorem State.setPort_flight : (s.setPort p x).flight = s.flight := rfl
@[simp] theorem State.setPort_sentFlits : (s.setPort p x).sentFlits = s.sentFlits := rfl
@[simp] theorem State.setPort_flows : (s.setPort p x).flows = s.flows := rfl
@[simp] theorem State.setPort_sendSeq : (s.setPort p x).sendSeq = s.sendSeq := rfl
@[simp] theorem State.setPort_linkRes : (s.setPort p x).linkRes = s.linkRes := rfl
@[simp] theorem State.setPort_rt : (s.setPort p x).rt = s.rt := rfl
@[simp] theorem State.setPort_untrusted : (s.setPort p x).untrusted = s.untrusted := rfl
@[simp] theorem State.setPort_badFtids : (s.setPort p x).badFtids = s.badFtids := rfl
@[simp] theorem State.setPort_kneaders : (s.setPort p x).kneaders = s.kneaders := rfl
@[simp] theorem State.setPort_power : (s.setPort p x).power = s.power := rfl
@[simp] theorem State.setPort_module : (s.setPort p x).module = s.module := rfl
@[simp] theorem State.setPort_loadWait : (s.setPort p x).loadWait = s.loadWait := rfl
@[simp] theorem State.setPort_inReset : (s.setPort p x).inReset = s.inReset := rfl
@[simp] theorem State.setPort_resetTarget : (s.setPort p x).resetTarget = s.resetTarget := rfl
@[simp] theorem State.setPort_pending : (s.setPort p x).pending = s.pending := rfl
@[simp] theorem State.setPort_at_tile (j : Nat) : (s.setPort p x).tile j = s.tile j := rfl
@[simp] theorem State.setPort_at_pol (j : Nat) : (s.setPort p x).pol j = s.pol j := rfl
@[simp] theorem State.setPort_at_intake (j : Nat) : (s.setPort p x).intake j = s.intake j := rfl
@[simp] theorem State.setPort_at_fn (j : Nat) : (s.setPort p x).fn j = s.fn j := rfl
@[simp] theorem State.setPort_at_slice (j : Nat) : (s.setPort p x).slice j = s.slice j := rfl
@[simp] theorem State.setPort_at_stack (j : Nat) : (s.setPort p x).stack j = s.stack j := rfl
@[simp] theorem State.setPort_at_sq (j : Nat) : (s.setPort p x).sq j = s.sq j := rfl
@[simp] theorem State.setPort_at_knd (j : Nat) : (s.setPort p x).knd j = s.knd j := rfl
@[simp] theorem State.setPort_at_d2dl (j : Nat) : (s.setPort p x).d2dl j = s.d2dl j := rfl
@[simp] theorem State.setPort_at_ring (j : Nat) : (s.setPort p x).ring j = s.ring j := rfl
@[simp] theorem State.setPort_reg (g o e : Nat) : (s.setPort p x).reg g o e = s.reg g o e := rfl
@[simp] theorem State.setPort_getF (g o e hi lo : Nat) : (s.setPort p x).getF g o e hi lo = s.getF g o e hi lo := rfl
@[simp] theorem State.setPort_regAct (g o e : Nat) : (s.setPort p x).regAct g o e = s.regAct g o e := rfl
@[simp] theorem State.setPort_getA (g o e hi lo : Nat) : (s.setPort p x).getA g o e hi lo = s.getA g o e hi lo := rfl
end

section
variable (s : State) (i : Nat) (x : D2DLink)
@[simp] theorem State.setD2d_regs : (s.setD2d i x).regs = s.regs := rfl
@[simp] theorem State.setD2d_act : (s.setD2d i x).act = s.act := rfl
@[simp] theorem State.setD2d_staged : (s.setD2d i x).staged = s.staged := rfl
@[simp] theorem State.setD2d_lowHeld : (s.setD2d i x).lowHeld = s.lowHeld := rfl
@[simp] theorem State.setD2d_hiCap : (s.setD2d i x).hiCap = s.hiCap := rfl
@[simp] theorem State.setD2d_readData : (s.setD2d i x).readData = s.readData := rfl
@[simp] theorem State.setD2d_freeCtr : (s.setD2d i x).freeCtr = s.freeCtr := rfl
@[simp] theorem State.setD2d_beat : (s.setD2d i x).beat = s.beat := rfl
@[simp] theorem State.setD2d_frame : (s.setD2d i x).frame = s.frame := rfl
@[simp] theorem State.setD2d_frameAt : (s.setD2d i x).frameAt = s.frameAt := rfl
@[simp] theorem State.setD2d_frameLoad : (s.setD2d i x).frameLoad = s.frameLoad := rfl
@[simp] theorem State.setD2d_armB : (s.setD2d i x).armB = s.armB := rfl
@[simp] theorem State.setD2d_armF : (s.setD2d i x).armF = s.armF := rfl
@[simp] theorem State.setD2d_rejoin : (s.setD2d i x).rejoin = s.rejoin := rfl
@[simp] theorem State.setD2d_holds : (s.setD2d i x).holds = s.holds := rfl
@[simp] theorem State.setD2d_notTaken : (s.setD2d i x).notTaken = s.notTaken := rfl
@[simp] theorem State.setD2d_recSeq : (s.setD2d i x).recSeq = s.recSeq := rfl
@[simp] theorem State.setD2d_scr : (s.setD2d i x).scr = s.scr := rfl
@[simp] theorem State.setD2d_hbm : (s.setD2d i x).hbm = s.hbm := rfl
@[simp] theorem State.setD2d_upsets : (s.setD2d i x).upsets = s.upsets := rfl
@[simp] theorem State.setD2d_tiles : (s.setD2d i x).tiles = s.tiles := rfl
@[simp] theorem State.setD2d_pols : (s.setD2d i x).pols = s.pols := rfl
@[simp] theorem State.setD2d_intakes : (s.setD2d i x).intakes = s.intakes := rfl
@[simp] theorem State.setD2d_fns : (s.setD2d i x).fns = s.fns := rfl
@[simp] theorem State.setD2d_numVfs : (s.setD2d i x).numVfs = s.numVfs := rfl
@[simp] theorem State.setD2d_hostOut : (s.setD2d i x).hostOut = s.hostOut := rfl
@[simp] theorem State.setD2d_mgmtOut : (s.setD2d i x).mgmtOut = s.mgmtOut := rfl
@[simp] theorem State.setD2d_trace : (s.setD2d i x).trace = s.trace := rfl
@[simp] theorem State.setD2d_slices : (s.setD2d i x).slices = s.slices := rfl
@[simp] theorem State.setD2d_bridge : (s.setD2d i x).bridge = s.bridge := rfl
@[simp] theorem State.setD2d_stackSt : (s.setD2d i x).stackSt = s.stackSt := rfl
@[simp] theorem State.setD2d_clean : (s.setD2d i x).clean = s.clean := rfl
@[simp] theorem State.setD2d_zeroing : (s.setD2d i x).zeroing = s.zeroing := rfl
@[simp] theorem State.setD2d_waitSt : (s.setD2d i x).waitSt = s.waitSt := rfl
@[simp] theorem State.setD2d_poison : (s.setD2d i x).poison = s.poison := rfl
@[simp] theorem State.setD2d_inval : (s.setD2d i x).inval = s.inval := rfl
@[simp] theorem State.setD2d_loadData : (s.setD2d i x).loadData = s.loadData := rfl
@[simp] theorem State.setD2d_sqs : (s.setD2d i x).sqs = s.sqs := rfl
@[simp] theorem State.setD2d_pools : (s.setD2d i x).pools = s.pools := rfl
@[simp] theorem State.setD2d_routes : (s.setD2d i x).routes = s.routes := rfl
@[simp] theorem State.setD2d_notices : (s.setD2d i x).notices = s.notices := rfl
@[simp] theorem State.setD2d_unreach : (s.setD2d i x).unreach = s.unreach := rfl
@[simp] theorem State.setD2d_flight : (s.setD2d i x).flight = s.flight := rfl
@[simp] theorem State.setD2d_ports : (s.setD2d i x).ports = s.ports := rfl
@[simp] theorem State.setD2d_sentFlits : (s.setD2d i x).sentFlits = s.sentFlits := rfl
@[simp] theorem State.setD2d_flows : (s.setD2d i x).flows = s.flows := rfl
@[simp] theorem State.setD2d_sendSeq : (s.setD2d i x).sendSeq = s.sendSeq := rfl
@[simp] theorem State.setD2d_linkRes : (s.setD2d i x).linkRes = s.linkRes := rfl
@[simp] theorem State.setD2d_rt : (s.setD2d i x).rt = s.rt := rfl
@[simp] theorem State.setD2d_untrusted : (s.setD2d i x).untrusted = s.untrusted := rfl
@[simp] theorem State.setD2d_badFtids : (s.setD2d i x).badFtids = s.badFtids := rfl
@[simp] theorem State.setD2d_kneaders : (s.setD2d i x).kneaders = s.kneaders := rfl
@[simp] theorem State.setD2d_power : (s.setD2d i x).power = s.power := rfl
@[simp] theorem State.setD2d_module : (s.setD2d i x).module = s.module := rfl
@[simp] theorem State.setD2d_loadWait : (s.setD2d i x).loadWait = s.loadWait := rfl
@[simp] theorem State.setD2d_inReset : (s.setD2d i x).inReset = s.inReset := rfl
@[simp] theorem State.setD2d_resetTarget : (s.setD2d i x).resetTarget = s.resetTarget := rfl
@[simp] theorem State.setD2d_pending : (s.setD2d i x).pending = s.pending := rfl
@[simp] theorem State.setD2d_at_tile (j : Nat) : (s.setD2d i x).tile j = s.tile j := rfl
@[simp] theorem State.setD2d_at_pol (j : Nat) : (s.setD2d i x).pol j = s.pol j := rfl
@[simp] theorem State.setD2d_at_intake (j : Nat) : (s.setD2d i x).intake j = s.intake j := rfl
@[simp] theorem State.setD2d_at_fn (j : Nat) : (s.setD2d i x).fn j = s.fn j := rfl
@[simp] theorem State.setD2d_at_slice (j : Nat) : (s.setD2d i x).slice j = s.slice j := rfl
@[simp] theorem State.setD2d_at_stack (j : Nat) : (s.setD2d i x).stack j = s.stack j := rfl
@[simp] theorem State.setD2d_at_sq (j : Nat) : (s.setD2d i x).sq j = s.sq j := rfl
@[simp] theorem State.setD2d_at_knd (j : Nat) : (s.setD2d i x).knd j = s.knd j := rfl
@[simp] theorem State.setD2d_at_port (j : Nat) : (s.setD2d i x).port j = s.port j := rfl
@[simp] theorem State.setD2d_at_ring (j : Nat) : (s.setD2d i x).ring j = s.ring j := rfl
@[simp] theorem State.setD2d_reg (g o e : Nat) : (s.setD2d i x).reg g o e = s.reg g o e := rfl
@[simp] theorem State.setD2d_getF (g o e hi lo : Nat) : (s.setD2d i x).getF g o e hi lo = s.getF g o e hi lo := rfl
@[simp] theorem State.setD2d_regAct (g o e : Nat) : (s.setD2d i x).regAct g o e = s.regAct g o e := rfl
@[simp] theorem State.setD2d_getA (g o e hi lo : Nat) : (s.setD2d i x).getA g o e hi lo = s.getA g o e hi lo := rfl
end

section
variable (s : State) (d : Nat) (x : TraceRing)
@[simp] theorem State.setRing_regs : (s.setRing d x).regs = s.regs := rfl
@[simp] theorem State.setRing_act : (s.setRing d x).act = s.act := rfl
@[simp] theorem State.setRing_staged : (s.setRing d x).staged = s.staged := rfl
@[simp] theorem State.setRing_lowHeld : (s.setRing d x).lowHeld = s.lowHeld := rfl
@[simp] theorem State.setRing_hiCap : (s.setRing d x).hiCap = s.hiCap := rfl
@[simp] theorem State.setRing_readData : (s.setRing d x).readData = s.readData := rfl
@[simp] theorem State.setRing_freeCtr : (s.setRing d x).freeCtr = s.freeCtr := rfl
@[simp] theorem State.setRing_beat : (s.setRing d x).beat = s.beat := rfl
@[simp] theorem State.setRing_frame : (s.setRing d x).frame = s.frame := rfl
@[simp] theorem State.setRing_frameAt : (s.setRing d x).frameAt = s.frameAt := rfl
@[simp] theorem State.setRing_frameLoad : (s.setRing d x).frameLoad = s.frameLoad := rfl
@[simp] theorem State.setRing_armB : (s.setRing d x).armB = s.armB := rfl
@[simp] theorem State.setRing_armF : (s.setRing d x).armF = s.armF := rfl
@[simp] theorem State.setRing_rejoin : (s.setRing d x).rejoin = s.rejoin := rfl
@[simp] theorem State.setRing_holds : (s.setRing d x).holds = s.holds := rfl
@[simp] theorem State.setRing_notTaken : (s.setRing d x).notTaken = s.notTaken := rfl
@[simp] theorem State.setRing_recSeq : (s.setRing d x).recSeq = s.recSeq := rfl
@[simp] theorem State.setRing_scr : (s.setRing d x).scr = s.scr := rfl
@[simp] theorem State.setRing_hbm : (s.setRing d x).hbm = s.hbm := rfl
@[simp] theorem State.setRing_upsets : (s.setRing d x).upsets = s.upsets := rfl
@[simp] theorem State.setRing_tiles : (s.setRing d x).tiles = s.tiles := rfl
@[simp] theorem State.setRing_pols : (s.setRing d x).pols = s.pols := rfl
@[simp] theorem State.setRing_intakes : (s.setRing d x).intakes = s.intakes := rfl
@[simp] theorem State.setRing_fns : (s.setRing d x).fns = s.fns := rfl
@[simp] theorem State.setRing_numVfs : (s.setRing d x).numVfs = s.numVfs := rfl
@[simp] theorem State.setRing_hostOut : (s.setRing d x).hostOut = s.hostOut := rfl
@[simp] theorem State.setRing_mgmtOut : (s.setRing d x).mgmtOut = s.mgmtOut := rfl
@[simp] theorem State.setRing_slices : (s.setRing d x).slices = s.slices := rfl
@[simp] theorem State.setRing_bridge : (s.setRing d x).bridge = s.bridge := rfl
@[simp] theorem State.setRing_stackSt : (s.setRing d x).stackSt = s.stackSt := rfl
@[simp] theorem State.setRing_clean : (s.setRing d x).clean = s.clean := rfl
@[simp] theorem State.setRing_zeroing : (s.setRing d x).zeroing = s.zeroing := rfl
@[simp] theorem State.setRing_waitSt : (s.setRing d x).waitSt = s.waitSt := rfl
@[simp] theorem State.setRing_poison : (s.setRing d x).poison = s.poison := rfl
@[simp] theorem State.setRing_inval : (s.setRing d x).inval = s.inval := rfl
@[simp] theorem State.setRing_loadData : (s.setRing d x).loadData = s.loadData := rfl
@[simp] theorem State.setRing_sqs : (s.setRing d x).sqs = s.sqs := rfl
@[simp] theorem State.setRing_pools : (s.setRing d x).pools = s.pools := rfl
@[simp] theorem State.setRing_d2d : (s.setRing d x).d2d = s.d2d := rfl
@[simp] theorem State.setRing_routes : (s.setRing d x).routes = s.routes := rfl
@[simp] theorem State.setRing_notices : (s.setRing d x).notices = s.notices := rfl
@[simp] theorem State.setRing_unreach : (s.setRing d x).unreach = s.unreach := rfl
@[simp] theorem State.setRing_flight : (s.setRing d x).flight = s.flight := rfl
@[simp] theorem State.setRing_ports : (s.setRing d x).ports = s.ports := rfl
@[simp] theorem State.setRing_sentFlits : (s.setRing d x).sentFlits = s.sentFlits := rfl
@[simp] theorem State.setRing_flows : (s.setRing d x).flows = s.flows := rfl
@[simp] theorem State.setRing_sendSeq : (s.setRing d x).sendSeq = s.sendSeq := rfl
@[simp] theorem State.setRing_linkRes : (s.setRing d x).linkRes = s.linkRes := rfl
@[simp] theorem State.setRing_rt : (s.setRing d x).rt = s.rt := rfl
@[simp] theorem State.setRing_untrusted : (s.setRing d x).untrusted = s.untrusted := rfl
@[simp] theorem State.setRing_badFtids : (s.setRing d x).badFtids = s.badFtids := rfl
@[simp] theorem State.setRing_kneaders : (s.setRing d x).kneaders = s.kneaders := rfl
@[simp] theorem State.setRing_power : (s.setRing d x).power = s.power := rfl
@[simp] theorem State.setRing_module : (s.setRing d x).module = s.module := rfl
@[simp] theorem State.setRing_loadWait : (s.setRing d x).loadWait = s.loadWait := rfl
@[simp] theorem State.setRing_inReset : (s.setRing d x).inReset = s.inReset := rfl
@[simp] theorem State.setRing_resetTarget : (s.setRing d x).resetTarget = s.resetTarget := rfl
@[simp] theorem State.setRing_pending : (s.setRing d x).pending = s.pending := rfl
@[simp] theorem State.setRing_at_tile (j : Nat) : (s.setRing d x).tile j = s.tile j := rfl
@[simp] theorem State.setRing_at_pol (j : Nat) : (s.setRing d x).pol j = s.pol j := rfl
@[simp] theorem State.setRing_at_intake (j : Nat) : (s.setRing d x).intake j = s.intake j := rfl
@[simp] theorem State.setRing_at_fn (j : Nat) : (s.setRing d x).fn j = s.fn j := rfl
@[simp] theorem State.setRing_at_slice (j : Nat) : (s.setRing d x).slice j = s.slice j := rfl
@[simp] theorem State.setRing_at_stack (j : Nat) : (s.setRing d x).stack j = s.stack j := rfl
@[simp] theorem State.setRing_at_sq (j : Nat) : (s.setRing d x).sq j = s.sq j := rfl
@[simp] theorem State.setRing_at_knd (j : Nat) : (s.setRing d x).knd j = s.knd j := rfl
@[simp] theorem State.setRing_at_port (j : Nat) : (s.setRing d x).port j = s.port j := rfl
@[simp] theorem State.setRing_at_d2dl (j : Nat) : (s.setRing d x).d2dl j = s.d2dl j := rfl
@[simp] theorem State.setRing_reg (g o e : Nat) : (s.setRing d x).reg g o e = s.reg g o e := rfl
@[simp] theorem State.setRing_getF (g o e hi lo : Nat) : (s.setRing d x).getF g o e hi lo = s.getF g o e hi lo := rfl
@[simp] theorem State.setRing_regAct (g o e : Nat) : (s.setRing d x).regAct g o e = s.regAct g o e := rfl
@[simp] theorem State.setRing_getA (g o e hi lo : Nat) : (s.setRing d x).getA g o e hi lo = s.getA g o e hi lo := rfl
end

@[simp] theorem State.tile_setTile_same (s : State) (k : Nat) (x : Tile) : (s.setTile k x).tile k = x := mapGet_mapSet_same ..
theorem State.tile_setTile_other (s : State) (k j : Nat) (x : Tile) (h : k ≠ j) : (s.setTile k x).tile j = s.tile j := mapGet_mapSet_other _ _ _ _ _ h
@[simp] theorem State.pol_setPol_same (s : State) (k : Nat) (x : Polder) : (s.setPol k x).pol k = x := mapGet_mapSet_same ..
theorem State.pol_setPol_other (s : State) (k j : Nat) (x : Polder) (h : k ≠ j) : (s.setPol k x).pol j = s.pol j := mapGet_mapSet_other _ _ _ _ _ h
@[simp] theorem State.intake_setIntake_same (s : State) (k : Nat) (x : Intake) : (s.setIntake k x).intake k = x := mapGet_mapSet_same ..
theorem State.intake_setIntake_other (s : State) (k j : Nat) (x : Intake) (h : k ≠ j) : (s.setIntake k x).intake j = s.intake j := mapGet_mapSet_other _ _ _ _ _ h
@[simp] theorem State.fn_setFn_same (s : State) (k : Nat) (x : PcieFn) : (s.setFn k x).fn k = x := mapGet_mapSet_same ..
theorem State.fn_setFn_other (s : State) (k j : Nat) (x : PcieFn) (h : k ≠ j) : (s.setFn k x).fn j = s.fn j := mapGet_mapSet_other _ _ _ _ _ h
@[simp] theorem State.slice_setSlice_same (s : State) (k : Nat) (x : Slice) : (s.setSlice k x).slice k = x := mapGet_mapSet_same ..
theorem State.slice_setSlice_other (s : State) (k j : Nat) (x : Slice) (h : k ≠ j) : (s.setSlice k x).slice j = s.slice j := mapGet_mapSet_other _ _ _ _ _ h
@[simp] theorem State.stack_setStack_same (s : State) (k : Nat) (x : Stack) : (s.setStack k x).stack k = x := mapGet_mapSet_same ..
theorem State.stack_setStack_other (s : State) (k j : Nat) (x : Stack) (h : k ≠ j) : (s.setStack k x).stack j = s.stack j := mapGet_mapSet_other _ _ _ _ _ h
@[simp] theorem State.sq_setSq_same (s : State) (k : Nat) (x : SqQueue) : (s.setSq k x).sq k = x := mapGet_mapSet_same ..
theorem State.sq_setSq_other (s : State) (k j : Nat) (x : SqQueue) (h : k ≠ j) : (s.setSq k x).sq j = s.sq j := mapGet_mapSet_other _ _ _ _ _ h
@[simp] theorem State.knd_setKnd_same (s : State) (k : Nat) (x : Kneader) : (s.setKnd k x).knd k = x := mapGet_mapSet_same ..
theorem State.knd_setKnd_other (s : State) (k j : Nat) (x : Kneader) (h : k ≠ j) : (s.setKnd k x).knd j = s.knd j := mapGet_mapSet_other _ _ _ _ _ h
@[simp] theorem State.port_setPort_same (s : State) (k : Nat) (x : Port) : (s.setPort k x).port k = x := mapGet_mapSet_same ..
theorem State.port_setPort_other (s : State) (k j : Nat) (x : Port) (h : k ≠ j) : (s.setPort k x).port j = s.port j := mapGet_mapSet_other _ _ _ _ _ h
@[simp] theorem State.d2dl_setD2d_same (s : State) (k : Nat) (x : D2DLink) : (s.setD2d k x).d2dl k = x := mapGet_mapSet_same ..
theorem State.d2dl_setD2d_other (s : State) (k j : Nat) (x : D2DLink) (h : k ≠ j) : (s.setD2d k x).d2dl j = s.d2dl j := mapGet_mapSet_other _ _ _ _ _ h
@[simp] theorem State.ring_setRing_same (s : State) (k : Nat) (x : TraceRing) : (s.setRing k x).ring k = x := mapGet_mapSet_same ..
theorem State.ring_setRing_other (s : State) (k j : Nat) (x : TraceRing) (h : k ≠ j) : (s.setRing k x).ring j = s.ring j := mapGet_mapSet_other _ _ _ _ _ h

end Sys2Proof.Machine
end

