-- ==== Sys2Proof/Laws/Pages.lean ====
section
/-!
SUPPORT. Which pages' registers an operation can change: one lemma per operation of Machine/Ops.lean that the commands of a tile use.
-/
namespace Sys2Proof.Machine

/-- Every register of a page that is not in `ps` is the same. -/
def RegsOff (ps : List Nat) (s u : State) : Prop := ∀ key, keyPage key ∉ ps → mapFind? u.regs key = mapFind? s.regs key

theorem RegsOff.refl (ps : List Nat) (s : State) : RegsOff ps s s := fun _ _ => rfl

theorem RegsOff.of_regs {ps : List Nat} {s u v : State} (h : RegsOff ps s u) (e : v.regs = u.regs) : RegsOff ps s v := fun k hk => by rw [e]; exact h k hk

theorem RegsOff.mono {ps qs : List Nat} {s u : State} (h : RegsOff ps s u) (hs : ∀ p, p ∈ ps → p ∈ qs) : RegsOff qs s u :=
  fun k hk => h k (fun hp => hk (hs _ hp))

theorem RegsOff.trans {ps : List Nat} {s u v : State} (h : RegsOff ps s u) (g : RegsOff ps u v) : RegsOff ps s v :=
  fun k hk => (g k hk).trans (h k hk)

theorem keyPage_regKey (pg off sel : Nat) (ho : off < 4096) (hs : sel < 32768) : keyPage (regKey pg off sel) = pg := by
  unfold keyPage regKey; omega

theorem RegsOff.foldl {α : Type} {ps : List Nat} {s0 : State} {f : State → α → State} (hf : ∀ st e, RegsOff ps s0 st → RegsOff ps s0 (f st e)) :
    ∀ (l : List α) (s : State), RegsOff ps s0 s → RegsOff ps s0 (l.foldl f s)
  | [], _, h => h
  | a :: l, s, h => RegsOff.foldl hf l (f s a) (hf s a h)

section
variable {ps : List Nat} {s0 s : State} {pg off sel : Nat}

theorem RegsOff.setReg {v : Word} (h : RegsOff ps s0 s) (hp : pg ∈ ps) (ho : off < 4096) (hs : sel < 32768) : RegsOff ps s0 (s.setReg pg off sel v) := by
  intro k hk
  rw [← h k hk]
  refine mapFind?_mapSet_other s.regs (regKey pg off sel) k v ?_
  intro e
  rw [← e, keyPage_regKey pg off sel ho hs] at hk
  exact hk hp

theorem RegsOff.setF {hi lo x : Nat} (h : RegsOff ps s0 s) (hp : pg ∈ ps) (ho : off < 4096) (hs : sel < 32768) : RegsOff ps s0 (s.setF pg off sel hi lo x) :=
  h.setReg hp ho hs

theorem RegsOff.bump {n : Nat} (h : RegsOff ps s0 s) (hp : pg ∈ ps) (ho : off < 4096) (hs : sel < 32768) : RegsOff ps s0 (s.bump pg off sel n) :=
  h.setReg hp ho hs

theorem RegsOff.sat {hi lo n : Nat} (h : RegsOff ps s0 s) (hp : pg ∈ ps) (ho : off < 4096) (hs : sel < 32768) : RegsOff ps s0 (s.sat pg off sel hi lo n) :=
  h.setReg hp ho hs

theorem RegsOff.orReg {n : Nat} (h : RegsOff ps s0 s) (hp : pg ∈ ps) (ho : off < 4096) (hs : sel < 32768) : RegsOff ps s0 (s.orReg pg off sel n) :=
  h.setReg hp ho hs

theorem foldl_range_off {f : State → Nat → State} (n : Nat) (hf : ∀ st i, i < n → RegsOff ps s0 st → RegsOff ps s0 (f st i)) (h : RegsOff ps s0 s) :
    RegsOff ps s0 ((List.range n).foldl f s) := by
  have key : ∀ (l : List Nat), (∀ i, i ∈ l → i < n) → ∀ st, RegsOff ps s0 st → RegsOff ps s0 (l.foldl f st) := by
    intro l
    induction l with
    | nil => intro _ st hst; exact hst
    | cons a l ih => intro hl st hst; exact ih (fun i hi => hl i (List.mem_cons_of_mem a hi)) _ (hf st a (hl a (List.mem_cons_self ..)) hst)
  exact key _ (fun i hi => List.mem_range.1 hi) s h

theorem RegsOff.countEv {ev n : Nat} (h : RegsOff ps s0 s) (hp : pg ∈ ps) : RegsOff ps s0 (s.countEv pg ev n) := by
  unfold State.countEv
  split
  · exact h
  · refine foldl_range_off 6 (fun st i hi hst => ?_) h
    simp only
    split
    all_goals split <;> first | exact hst | exact hst.bump hp (by omega) (by omega)

theorem RegsOff.ringPut {d : Nat} {r : List Byte} (h : RegsOff ps s0 s) (hp : pgTrace d ∈ ps) : RegsOff ps s0 (s.ringPut d r) := by
  unfold State.ringPut
  simp only
  split
  · exact (h.of_regs (v := s.setRing d _) rfl).countEv hp
  · split
    · exact ((((h.of_regs (v := s.setRing d _) rfl).setF hp (by omega) (by omega)).bump hp (by omega) (by omega)).countEv hp)
    · exact ((h.of_regs (v := s.setRing d _) rfl).orReg hp (by omega) (by omega)).countEv hp

theorem RegsOff.traceRec {d kind src ctx : Nat} {p : List Byte} (h : RegsOff ps s0 s) (hp : pgTrace d ∈ ps) : RegsOff ps s0 (s.traceRec d kind src ctx p) := by
  unfold State.traceRec
  simp only
  split
  · exact h
  · refine RegsOff.ringPut ?_ hp
    split
    · exact (RegsOff.ringPut (h.of_regs (v := (drawFree s).2) rfl) hp).of_regs rfl
    · exact h.of_regs rfl

theorem RegsOff.err {code : Nat} (h : RegsOff ps s0 s) (hp : pg ∈ ps) : RegsOff ps s0 (s.err pg code) := by
  unfold State.err
  simp only
  split
  · exact (h.setReg hp (by omega) (by omega)).countEv hp
  · exact ((h.setReg hp (by omega) (by omega)).setReg hp (by omega) (by omega)).countEv hp

end

/-! What the counters, the trace and the error codes leave alone. -/

theorem countEv_parts (s : State) (pg ev n : Nat) : ∃ r, s.countEv pg ev n = { s with regs := r } := by
  unfold State.countEv
  split
  · exact ⟨s.regs, rfl⟩
  · have key : ∀ (f : State → Nat → State), (∀ st i, ∃ r, f st i = { st with regs := r }) → ∀ (l : List Nat) (st : State),
        ∃ r, l.foldl f st = { st with regs := r } := by
      intro f hf l
      induction l with
      | nil => intro st; exact ⟨st.regs, rfl⟩
      | cons a l ih =>
        intro st
        obtain ⟨r1, h1⟩ := hf st a
        obtain ⟨r2, h2⟩ := ih (f st a)
        exact ⟨r2, by rw [List.foldl_cons, h2, h1]⟩
    apply key
    intro st i
    simp only
    split <;> split <;> first | exact ⟨_, rfl⟩ | exact ⟨st.regs, rfl⟩

theorem ringPut_parts (s : State) (d : Nat) (r : List Byte) : ∃ g tr, s.ringPut d r = { s with regs := g, trace := tr } := by
  unfold State.ringPut
  simp only
  split
  · obtain ⟨g, e⟩ := countEv_parts (s.setRing d { s.ring d with recs := mapSet (s.ring d).recs (s.ring d).head r, head := ((s.ring d).head + 1) % 524288, fill := (s.ring d).fill + 1, seq := (s.ring d).seq + 1 }) (pgTrace d) 0x10 1
    exact ⟨g, _, e⟩
  · split
    · obtain ⟨g, e⟩ := countEv_parts (((s.setRing d { s.ring d with dropPend := (s.ring d).dropPend + 1 }).setF (pgTrace d) 0x110 0 20 20 1).bump (pgTrace d) 0x120 0 1)
        (pgTrace d) 0x11 1
      exact ⟨g, _, e⟩
    · obtain ⟨g, e⟩ := countEv_parts ((s.setRing d { s.ring d with recs := mapSet (s.ring d).recs (s.ring d).head r, head := ((s.ring d).head + 1) % 524288, tail := ((s.ring d).tail + 1) % 524288, seq := (s.ring d).seq + 1 }).orReg (pgTrace d) 0x110 0 0x200000) (pgTrace d) 0x10 1
      exact ⟨g, _, e⟩

theorem traceRec_parts (s : State) (d kind src ctx : Nat) (p : List Byte) :
    ∃ g tr fc, s.traceRec d kind src ctx p = { s with regs := g, trace := tr, freeCtr := fc } := by
  unfold State.traceRec
  simp only
  split
  · exact ⟨s.regs, s.trace, s.freeCtr, rfl⟩
  · split
    · obtain ⟨g1, tr1, e1⟩ := ringPut_parts (drawFree s).2 d (traceBytes 10 d (pgTrace d) 0xFFFF ((drawFree s).2.ring d).seq (drawFree s).2.beat (drawFree s).1
        (natLE 4 ((drawFree s).2.ring d).dropPend))
      rw [e1]
      obtain ⟨g2, tr2, e2⟩ := ringPut_parts (({ (drawFree s).2 with regs := g1, trace := tr1 } : State).setRing d
        { ({ (drawFree s).2 with regs := g1, trace := tr1 } : State).ring d with dropPend := 0 }) d
        (traceBytes kind d src ctx ((({ (drawFree s).2 with regs := g1, trace := tr1 } : State).setRing d
        { ({ (drawFree s).2 with regs := g1, trace := tr1 } : State).ring d with dropPend := 0 }).ring d).seq (drawFree s).2.beat (drawFree s).1 p)
      exact ⟨g2, tr2, _, e2⟩
    · obtain ⟨g2, tr2, e2⟩ := ringPut_parts (drawFree s).2 d (traceBytes kind d src ctx ((drawFree s).2.ring d).seq (drawFree s).2.beat (drawFree s).1 p)
      exact ⟨g2, tr2, _, e2⟩

theorem err_parts (s : State) (pg code : Nat) : ∃ r, s.err pg code = { s with regs := r } := by
  unfold State.err
  simp only
  split
  · obtain ⟨r, e⟩ := countEv_parts (s.setReg pg 0x18 0 (setFld (setFld (s.reg pg 0x18 0) 1 1 1) 31 16 code)) pg 3 1
    exact ⟨r, e⟩
  · obtain ⟨r, e⟩ := countEv_parts ((s.setReg pg 0x18 0 (setFld (setFld (s.reg pg 0x18 0) 0 0 1) 31 16 code)).setReg pg 0x1C 0
      (BitVec.ofNat 64 (code % 65536 + s.beat % 65536 * 65536))) pg 3 1
    exact ⟨r, e⟩

end Sys2Proof.Machine
end

