-- ==== Sys2Proof/Laws/Issue.lean ====
section
/-!
SUPPORT. Issue: what passing the head command does, and what a ready head command's row does with it.
-/
namespace Sys2Proof.Machine

theorem loopAdvance_none (n idx : Nat) (x : Tile) (h : x.noLoopEnd idx) : Tile.loopAdvance n idx x = x := by
  cases n with
  | zero => rfl
  | succ n =>
    unfold Tile.loopAdvance
    split
    · rfl
    · rename_i l ls e
      rw [if_pos]
      exact h l (by rw [e]; rfl)

/-- A tile past a command at which no loop's body ends. -/
theorem Tile.pass_eq (x : Tile) (idx next : Nat) (h : x.noLoopEnd (next - 1)) :
    ∃ q f, x.pass idx next = { x with cmdIndex := next, progress := (x.progress + 1) % 2 ^ 64, brkSeen := false, stall := 0, queue := q, fetchNext := f } := by
  unfold Tile.pass
  simp only
  rw [loopAdvance_none]
  · exact ⟨_, _, rfl⟩
  · exact h

/-- Only the registers of the tile's page and of its die's TRACE page, the trace rings and the free-value counter may differ, beside the tiles. -/
def Passing (s u : State) (t : Nat) : Prop :=
  (∀ k, k ≠ t → u.tile k = s.tile k) ∧ RegsOff [pgTile t, pgTrace (tDie t)] s u ∧ s.sameBut [.tiles, .regs, .trace, .freeCtr] u

theorem Passing.refl (s : State) (t : Nat) : Passing s s t := ⟨fun _ _ => rfl, RegsOff.refl _ _, fun f _ => by cases f <;> rfl⟩

theorem Passing.trans {s u v : State} {t : Nat} (h : Passing s u t) (g : Passing u v t) : Passing s v t :=
  ⟨fun k hk => (g.1 k hk).trans (h.1 k hk), h.2.1.trans g.2.1, fun f hf => by
    have a := h.2.2 f hf
    have b := g.2.2 f hf
    revert a b
    cases f <;> simp only [Field.same] <;> intro a b <;> exact b.trans a⟩

theorem Passing.setTile (s : State) (t : Nat) (x : Tile) : Passing s (s.setTile t x) t :=
  ⟨fun k hk => State.tile_setTile_other _ _ _ _ (Ne.symm hk), (RegsOff.refl _ _).of_regs rfl, fun f hf => by cases f <;> first | rfl | simp at hf⟩

theorem Passing.onT (s : State) (t : Nat) (f : Tile → Tile) : Passing s (s.onT t f) t := Passing.setTile s t _

theorem Passing.countEv (s : State) (t ev n : Nat) : Passing s (s.countEv (pgTile t) ev n) t := by
  refine ⟨?_, (RegsOff.refl _ _).countEv (by simp), ?_⟩
  · obtain ⟨r, e⟩ := countEv_parts s (pgTile t) ev n
    intro k _; rw [e]; rfl
  · obtain ⟨r, e⟩ := countEv_parts s (pgTile t) ev n
    intro f hf; rw [e]; cases f <;> first | rfl | simp at hf

theorem Passing.bump (s : State) (t off sel n : Nat) (ho : off < 4096) (hs : sel < 32768) : Passing s (s.bump (pgTile t) off sel n) t :=
  ⟨fun _ _ => rfl, (RegsOff.refl _ _).bump (by simp) ho hs, fun f hf => by cases f <;> first | rfl | simp at hf⟩

theorem Passing.traceRec (s : State) (t kind src ctx : Nat) (p : List Byte) : Passing s (s.traceRec (tDie t) kind src ctx p) t := by
  refine ⟨?_, (RegsOff.refl _ _).traceRec (by simp), ?_⟩
  · obtain ⟨g, tr, fc, e⟩ := traceRec_parts s (tDie t) kind src ctx p
    intro k _; rw [e]; rfl
  · obtain ⟨g, tr, fc, e⟩ := traceRec_parts s (tDie t) kind src ctx p
    intro f hf; rw [e]; cases f <;> first | rfl | simp at hf

theorem countEv_tile (s : State) (pg ev n k : Nat) : (s.countEv pg ev n).tile k = s.tile k := by
  obtain ⟨r, e⟩ := countEv_parts s pg ev n; rw [e]; rfl

theorem traceRec_tile (s : State) (d kind src ctx : Nat) (p : List Byte) (k : Nat) : (s.traceRec d kind src ctx p).tile k = s.tile k := by
  obtain ⟨g, tr, fc, e⟩ := traceRec_parts s d kind src ctx p; rw [e]; rfl

theorem onT_tile (s : State) (t : Nat) (f : Tile → Tile) : (s.onT t f).tile t = f (s.tile t) := State.tile_setTile_same _ _ _

theorem onT_tile_other (s : State) (t k : Nat) (f : Tile → Tile) (h : k ≠ t) : (s.onT t f).tile k = s.tile k := State.tile_setTile_other _ _ _ _ (Ne.symm h)

theorem stepDone_tile (s : State) (t idx cls : Nat) : ∃ b, (s.stepDone t idx cls).tile t = { s.tile t with dbgStep := b } := by
  unfold State.stepDone
  simp only
  split
  · exact ⟨(s.tile t).dbgStep, rfl⟩
  · refine ⟨false, ?_⟩
    rw [traceRec_tile]
    exact State.tile_setTile_same _ _ _

theorem Passing.stepDone (s : State) (t idx cls : Nat) : Passing s (s.stepDone t idx cls) t := by
  unfold State.stepDone
  simp only
  split
  · exact Passing.refl s t
  · exact ((Passing.setTile s t _).trans (Passing.bump _ _ _ _ _ (by omega) (by omega))).trans (Passing.traceRec _ _ _ _ _ _)

/-- The head command goes by: the tile is what `pass` makes of it, and beside it only counters and trace may differ. -/
theorem passed_spec (s : State) (t idx next cls ev : Nat)
    (hn : ((s.tile t).pass idx next).haltIssued = true ∨ ((s.tile t).pass idx next).cmdIndex < ((s.tile t).pass idx next).cmdrLen) :
    (∃ b, (s.passed t idx next cls ev).tile t = { (s.tile t).pass idx next with dbgStep := b }) ∧ Passing s (s.passed t idx next cls ev) t := by
  have hp : Passing s (((s.onT t (fun x => x.pass idx next)).countEv (pgTile t) ev 1).stepDone t idx cls) t :=
    ((Passing.onT s t _).trans (Passing.countEv _ _ _ _)).trans (Passing.stepDone _ _ _ _)
  obtain ⟨b, hb⟩ := stepDone_tile ((s.onT t (fun x => x.pass idx next)).countEv (pgTile t) ev 1) t idx cls
  rw [countEv_tile, onT_tile] at hb
  have he : s.passed t idx next cls ev = ((s.onT t (fun x => x.pass idx next)).countEv (pgTile t) ev 1).stepDone t idx cls := by
    unfold State.passed State.endCheck
    simp only [hb]
    rw [if_neg]
    rintro ⟨_, h1, h2⟩
    rcases hn with h | h
    · simp [h] at h1
    · omega
  rw [he]
  exact ⟨⟨b, hb⟩, hp⟩

/-- A command that is not the last of its region, at which no loop's body ends, goes by. -/
theorem passed_next (s : State) (t idx cls ev : Nat) (hl : (s.tile t).noLoopEnd idx)
    (hn : (s.tile t).haltIssued = true ∨ idx + 1 < (s.tile t).cmdrLen) :
    (∃ b q f, (s.passed t idx (idx + 1) cls ev).tile t = { s.tile t with cmdIndex := idx + 1, progress := ((s.tile t).progress + 1) % 2 ^ 64, brkSeen := false,
                                                                         stall := 0, queue := q, fetchNext := f, dbgStep := b }) ∧
      Passing s (s.passed t idx (idx + 1) cls ev) t := by
  obtain ⟨q, f, e⟩ := Tile.pass_eq (s.tile t) idx (idx + 1) hl
  have := passed_spec s t idx (idx + 1) cls ev (by rw [e]; exact hn)
  obtain ⟨⟨b, hb⟩, hp⟩ := this
  exact ⟨⟨b, q, f, by rw [hb, e]⟩, hp⟩

theorem Passing.wentBy {s u : State} {t : Nat} {h : Head} (hp : Passing s u t) (h1 : (u.tile t).cmdIndex = h.idx + 1)
    (h2 : (u.tile t).progress = ((s.tile t).progress + 1) % 2 ^ 64) (h3 : (u.tile t).task = (s.tile t).task) : s.wentBy u t h :=
  ⟨h1, h2, h3, hp.1, fun key k1 k2 => hp.2.1 key (by simp [k1, k2]), hp.2.2⟩

/-- A scalar command that completes at issue: its effect on the tile, and it goes by. -/
theorem issueNow_spec (s : State) (t : Nat) (h : Head) (f : Tile → Tile) (hi : (f (s.tile t)).loops = (s.tile t).loops)
    (hp : (f (s.tile t)).progress = (s.tile t).progress) (ht : (f (s.tile t)).task = (s.tile t).task)
    (hl : (s.tile t).noLoopEnd h.idx) (hn : (f (s.tile t)).haltIssued = true ∨ h.idx + 1 < (f (s.tile t)).cmdrLen) :
    (∃ b q n, (s.issueNow t h f).tile t = { f (s.tile t) with cmdIndex := h.idx + 1, progress := ((s.tile t).progress + 1) % 2 ^ 64, brkSeen := false,
                                                              stall := 0, queue := q, fetchNext := n, dbgStep := b }) ∧
      s.wentBy (s.issueNow t h f) t h := by
  have e : (s.onT t f).tile t = f (s.tile t) := onT_tile s t f
  obtain ⟨⟨b, q, n, hb⟩, hps⟩ := passed_next (s.onT t f) t h.idx (cClass h.c) 0x10
    (by unfold Tile.noLoopEnd; rw [e, hi]; exact hl) (by rw [e]; exact hn)
  rw [e, hp] at hb
  have hall : Passing s (s.issueNow t h f) t := (Passing.onT s t f).trans hps
  exact ⟨⟨b, q, n, hb⟩, hall.wentBy (by unfold State.issueNow; rw [hb]) (by unfold State.issueNow; rw [hb]) (by unfold State.issueNow; rw [hb]; exact ht)⟩

theorem moveCursors_eq (x : Tile) (c e : Nat) : x.moveCursors c e = { x with walkers := (x.moveCursors c e).walkers } := by
  unfold Tile.moveCursors
  generalize (opSlots c e).filter (·.used) = l
  induction l generalizing x with
  | nil => rfl
  | cons a l ih => rw [List.foldl_cons]; rw [ih]

theorem addUpsets_nil (s : State) (t : Nat) : s.addUpsets t [] = s := by
  unfold State.addUpsets; simp

/-- A command enters a dispatch queue. -/
theorem issueCmd_spec (s : State) (t eng : Nat) (h : Head) (sb : Bool) (g : List SbEntry) (d : Bool)
    (hl : (s.tile t).noLoopEnd h.idx) (hn : h.idx + 1 < (s.tile t).cmdrLen) : s.queued (s.issueCmd t eng h sb g d) t eng h sb g d := by
  unfold State.issueCmd
  simp only
  generalize hy : ({ s.tile t with dq := mapSet (s.tile t).dq eng (mapGet (s.tile t).dq eng [] ++ [_]), sb := _, xp := _, pendS := _ } : Tile) = y
  rw [moveCursors_eq y]
  have e : (s.setTile t { y with walkers := (y.moveCursors h.c h.e).walkers }).tile t = { y with walkers := (y.moveCursors h.c h.e).walkers } :=
    State.tile_setTile_same _ _ _
  have hw : (y.moveCursors h.c h.e).walkers = ((s.tile t).moveCursors h.c h.e).walkers := by
    have : ∀ (l : List OpSlot) (a b : Tile), a.walkers = b.walkers →
      (l.foldl (fun y sl => let w := y.wlk sl.wlk; let st := if sl.start = 1 then w.cursor else 0; { y with walkers := mapSet y.walkers sl.wlk { w with cursor := (st + sl.n) % w.len } }) a).walkers =
      (l.foldl (fun y sl => let w := y.wlk sl.wlk; let st := if sl.start = 1 then w.cursor else 0; { y with walkers := mapSet y.walkers sl.wlk { w with cursor := (st + sl.n) % w.len } }) b).walkers := by
      intro l
      induction l with
      | nil => intro a b h; exact h
      | cons c l ih => intro a b h; rw [List.foldl_cons, List.foldl_cons]; apply ih; simp only [Tile.wlk, h]
    exact this _ _ _ (by subst hy; rfl)
  obtain ⟨⟨b, q, n, hb⟩, hp⟩ := passed_next (s.setTile t { y with walkers := (y.moveCursors h.c h.e).walkers }) t h.idx (cClass h.c) 0x10
    (by rw [e]; subst hy; exact hl) (by rw [e]; subst hy; exact Or.inr hn)
  rw [e] at hb
  have hall := (Passing.setTile s t _).trans hp
  refine ⟨hall.wentBy ?_ ?_ ?_, ?_, ?_, ?_, ?_, ?_, ?_, ?_, ?_⟩ <;> simp only [hb] <;> try (subst hy; first | rfl | done)
  · subst hy; simp [mapGet, mapFind?_mapSet_same]
  · subst hy; intro e' he; exact mapGet_mapSet_other _ _ _ _ _ (Ne.symm he)
  · exact hw

end Sys2Proof.Machine
end

