-- ==== Sys2Proof/Laws/KeepsA.lean ====
section
/-!
SUPPORT. What each function of State, Ops, Dike, SliceOps may change: the mask of parts, and both memories stay canonical.
-/
namespace Sys2Proof.Machine

theorem State.hostWrite_keeps {w : Nat} {s0 s : State} {a0 : Nat} {a1 : Nat} {a2 : List Byte} (hw : Within 33554432 w) (h : Keeps w s0 s) : Keeps w s0 (State.hostWrite s a0 a1 a2) := by
  unfold State.hostWrite
  refine Keeps.set_hostOut (Within.trans (by decide) hw) ?_
  exact h

theorem State.setReg_keeps {w : Nat} {s0 s : State} {a0 : Nat} {a1 : Nat} {a2 : Nat} {a3 : Word} (hw : Within 1 w) (h : Keeps w s0 s) : Keeps w s0 (State.setReg s a0 a1 a2 a3) := by
  unfold State.setReg
  refine Keeps.set_regs (Within.trans (by decide) hw) ?_
  exact h

theorem State.setF_keeps {w : Nat} {s0 s : State} {a0 : Nat} {a1 : Nat} {a2 : Nat} {a3 : Nat} {a4 : Nat} {a5 : Nat} (hw : Within 1 w) (h : Keeps w s0 s) : Keeps w s0 (State.setF s a0 a1 a2 a3 a4 a5) := by
  unfold State.setF
  refine State.setReg_keeps (Within.trans (by decide) hw) ?_
  exact h

theorem State.setIntake_keeps {w : Nat} {s0 s : State} {a0 : Nat} {a1 : Intake} (hw : Within 4194304 w) (h : Keeps w s0 s) : Keeps w s0 (State.setIntake s a0 a1) := by
  unfold State.setIntake
  refine Keeps.set_intakes (Within.trans (by decide) hw) ?_
  exact h

theorem State.bump_keeps {w : Nat} {s0 s : State} {a0 : Nat} {a1 : Nat} {a2 : Nat} {a3 : Nat} (hw : Within 1 w) (h : Keeps w s0 s) : Keeps w s0 (State.bump s a0 a1 a2 a3) := by
  unfold State.bump
  refine State.setReg_keeps (Within.trans (by decide) hw) ?_
  exact h

theorem State.orReg_keeps {w : Nat} {s0 s : State} {a0 : Nat} {a1 : Nat} {a2 : Nat} {a3 : Nat} (hw : Within 1 w) (h : Keeps w s0 s) : Keeps w s0 (State.orReg s a0 a1 a2 a3) := by
  unfold State.orReg
  refine State.setReg_keeps (Within.trans (by decide) hw) ?_
  exact h

theorem State.setPol_keeps {w : Nat} {s0 s : State} {a0 : Nat} {a1 : Polder} (hw : Within 2097152 w) (h : Keeps w s0 s) : Keeps w s0 (State.setPol s a0 a1) := by
  unfold State.setPol
  refine Keeps.set_pols (Within.trans (by decide) hw) ?_
  exact h

theorem State.beatHeart_keeps {w : Nat} {s0 s : State} {a0 : Nat} (hw : Within 2097152 w) (h : Keeps w s0 s) : Keeps w s0 (State.beatHeart s a0) := by
  unfold State.beatHeart
  refine State.setPol_keeps (Within.trans (by decide) hw) ?_
  exact h

theorem State.slotWrite_keeps {w : Nat} {s0 s : State} {a0 : Nat} {a1 : Record} (hw : Within 35651585 w) (h : Keeps w s0 s) : Keeps w s0 (State.slotWrite s a0 a1) := by
  unfold State.slotWrite
  extract_lets +onlyGivenNames x1
  clear_value x1
  extract_lets +onlyGivenNames x2
  clear_value x2
  extract_lets +onlyGivenNames x3
  clear_value x3
  extract_lets +onlyGivenNames x4
  clear_value x4
  extract_lets +onlyGivenNames x5
  clear_value x5
  refine State.beatHeart_keeps (Within.trans (by decide) hw) ?_
  refine State.setF_keeps (Within.trans (by decide) hw) ?_
  refine State.hostWrite_keeps (Within.trans (by decide) hw) ?_
  refine State.hostWrite_keeps (Within.trans (by decide) hw) ?_
  exact h

theorem State.sat_keeps {w : Nat} {s0 s : State} {a0 : Nat} {a1 : Nat} {a2 : Nat} {a3 : Nat} {a4 : Nat} {a5 : Nat} (hw : Within 1 w) (h : Keeps w s0 s) : Keeps w s0 (State.sat s a0 a1 a2 a3 a4 a5) := by
  unfold State.sat
  refine State.setF_keeps (Within.trans (by decide) hw) ?_
  exact h

theorem State.postTo_keeps {w : Nat} {s0 s : State} {a0 : Nat} {a1 : Record} (hw : Within 39845889 w) (h : Keeps w s0 s) : Keeps w s0 (State.postTo s a0 a1) := by
  unfold State.postTo
  extract_lets +onlyGivenNames x1
  clear_value x1
  split
  · refine State.slotWrite_keeps (Within.trans (by decide) hw) ?_
    exact h
  · split
    · refine State.setF_keeps (Within.trans (by decide) hw) ?_
      refine State.setIntake_keeps (Within.trans (by decide) hw) ?_
      exact h
    · refine State.orReg_keeps (Within.trans (by decide) hw) ?_
      refine State.sat_keeps (Within.trans (by decide) hw) ?_
      refine State.setIntake_keeps (Within.trans (by decide) hw) ?_
      exact h

theorem State.post_keeps {w : Nat} {s0 s : State} {a0 : Option Nat} {a1 : Record} (hw : Within 39911425 w) (h : Keeps w s0 s) : Keeps w s0 (State.post s a0 a1) := by
  unfold State.post
  extract_lets +onlyGivenNames x1
  clear_value (e1 : x1 = _)
  refine Keeps.cut (w := w) (s0 := s0) e1 ?_ (fun h1 => ?_) <;> clear e1
  · refine Keeps.set_recSeq (Within.trans (by decide) hw) ?_
    exact h
  extract_lets +onlyGivenNames x2
  clear_value (e2 : x2 = _)
  refine Keeps.cut (w := w) (s0 := s0) e2 ?_ (fun h2 => ?_) <;> clear e2
  · refine State.postTo_keeps (Within.trans (by decide) hw) ?_
    exact h1
  split
  · split
    · exact h2
    · refine State.postTo_keeps (Within.trans (by decide) hw) ?_
      exact h2
  · exact h2

theorem State.setTile_keeps {w : Nat} {s0 s : State} {a0 : Nat} {a1 : Tile} (hw : Within 1048576 w) (h : Keeps w s0 s) : Keeps w s0 (State.setTile s a0 a1) := by
  unfold State.setTile
  refine Keeps.set_tiles (Within.trans (by decide) hw) ?_
  exact h

theorem drawFree_keeps {w : Nat} {s0 s : State} (hw : Within 64 w) (h : Keeps w s0 s) : Keeps w s0 (drawFree s).2 := by
  unfold drawFree
  dsimp only
  refine Keeps.set_freeCtr (Within.trans (by decide) hw) ?_
  exact h

theorem State.countEv_keeps {w : Nat} {s0 s : State} {a0 : Nat} {a1 : Nat} {a2 : Nat} (hw : Within 1 w) (h : Keeps w s0 s) : Keeps w s0 (State.countEv s a0 a1 a2) := by
  unfold State.countEv
  split
  · exact h
  · refine Keeps.foldl (fun st1 e1 h1 => ?_) _ _ ?_
    · extract_lets +onlyGivenNames x2
      clear_value x2
      split
      · refine State.bump_keeps (Within.trans (by decide) hw) ?_
        exact h1
      · exact h1
    · exact h

theorem State.setSlice_keeps {w : Nat} {s0 s : State} {a0 : Nat} {a1 : Slice} (hw : Within 268435456 w) (h : Keeps w s0 s) : Keeps w s0 (State.setSlice s a0 a1) := by
  unfold State.setSlice
  refine Keeps.set_slices (Within.trans (by decide) hw) ?_
  exact h

theorem State.setKnd_keeps {w : Nat} {s0 s : State} {a0 : Nat} {a1 : Kneader} (hw : Within 4503599627370496 w) (h : Keeps w s0 s) : Keeps w s0 (State.setKnd s a0 a1) := by
  unfold State.setKnd
  refine Keeps.set_kneaders (Within.trans (by decide) hw) ?_
  exact h

theorem State.setPort_keeps {w : Nat} {s0 s : State} {a0 : Nat} {a1 : Port} (hw : Within 17592186044416 w) (h : Keeps w s0 s) : Keeps w s0 (State.setPort s a0 a1) := by
  unfold State.setPort
  refine Keeps.set_ports (Within.trans (by decide) hw) ?_
  exact h

theorem State.setRing_keeps {w : Nat} {s0 s : State} {a0 : Nat} {a1 : TraceRing} (hw : Within 134217728 w) (h : Keeps w s0 s) : Keeps w s0 (State.setRing s a0 a1) := by
  unfold State.setRing
  refine Keeps.set_trace (Within.trans (by decide) hw) ?_
  exact h

theorem State.ringPut_keeps {w : Nat} {s0 s : State} {a0 : Nat} {a1 : List Byte} (hw : Within 134217729 w) (h : Keeps w s0 s) : Keeps w s0 (State.ringPut s a0 a1) := by
  unfold State.ringPut
  extract_lets +onlyGivenNames x1
  clear_value x1
  split
  · refine State.countEv_keeps (Within.trans (by decide) hw) ?_
    refine State.setRing_keeps (Within.trans (by decide) hw) ?_
    exact h
  · split
    · refine State.countEv_keeps (Within.trans (by decide) hw) ?_
      refine State.bump_keeps (Within.trans (by decide) hw) ?_
      refine State.setF_keeps (Within.trans (by decide) hw) ?_
      refine State.setRing_keeps (Within.trans (by decide) hw) ?_
      exact h
    · refine State.countEv_keeps (Within.trans (by decide) hw) ?_
      refine State.orReg_keeps (Within.trans (by decide) hw) ?_
      refine State.setRing_keeps (Within.trans (by decide) hw) ?_
      exact h

theorem State.traceRec_keeps {w : Nat} {s0 s : State} {a0 : Nat} {a1 : Nat} {a2 : Nat} {a3 : Nat} {a4 : List Byte} (hw : Within 134217793 w) (h : Keeps w s0 s) : Keeps w s0 (State.traceRec s a0 a1 a2 a3 a4) := by
  unfold State.traceRec
  extract_lets +onlyGivenNames x1
  clear_value x1
  split
  · exact h
  · split
    · rename_i y2 y3 y4 y5 y6
      extract_lets +onlyGivenNames x7
      clear_value x7
      extract_lets +onlyGivenNames x8
      clear_value x8
      extract_lets +onlyGivenNames x9
      clear_value (e9 : x9 = _)
      refine Keeps.cut (w := w) (s0 := s0) e9 ?_ (fun h9 => ?_) <;> clear e9
      · split
        · refine State.setRing_keeps (Within.trans (by decide) hw) ?_
          refine State.ringPut_keeps (Within.trans (by decide) hw) ?_
          refine Keeps.snd y6 ?_
          refine drawFree_keeps (Within.trans (by decide) hw) ?_
          exact h
        · refine Keeps.snd y6 ?_
          refine drawFree_keeps (Within.trans (by decide) hw) ?_
          exact h
      refine State.ringPut_keeps (Within.trans (by decide) hw) ?_
      exact h9

theorem State.err_keeps {w : Nat} {s0 s : State} {a0 : Nat} {a1 : Nat} (hw : Within 1 w) (h : Keeps w s0 s) : Keeps w s0 (State.err s a0 a1) := by
  unfold State.err
  extract_lets +onlyGivenNames x1
  clear_value x1
  extract_lets +onlyGivenNames x2
  clear_value (e2 : x2 = _)
  refine Keeps.cut (w := w) (s0 := s0) e2 ?_ (fun h2 => ?_) <;> clear e2
  · split
    · refine State.setReg_keeps (Within.trans (by decide) hw) ?_
      exact h
    · refine State.setReg_keeps (Within.trans (by decide) hw) ?_
      refine State.setReg_keeps (Within.trans (by decide) hw) ?_
      exact h
  refine State.countEv_keeps (Within.trans (by decide) hw) ?_
  exact h2

theorem State.noteFault_keeps {w : Nat} {s0 s : State} {a0 : FaultInfo} (hw : Within 1 w) (h : Keeps w s0 s) : Keeps w s0 (State.noteFault s a0) := by
  unfold State.noteFault
  split
  · exact h
  · split
    · refine State.sat_keeps (Within.trans (by decide) hw) ?_
      exact h
    · refine State.setReg_keeps (Within.trans (by decide) hw) ?_
      refine State.setReg_keeps (Within.trans (by decide) hw) ?_
      exact h

theorem State.fault_keeps {w : Nat} {s0 s : State} {a0 : FaultInfo} (hw : Within 174129217 w) (h : Keeps w s0 s) : Keeps w s0 (State.fault s a0) := by
  unfold State.fault
  extract_lets +onlyGivenNames x1
  clear_value (e1 : x1 = _)
  refine Keeps.cut (w := w) (s0 := s0) e1 ?_ (fun h1 => ?_) <;> clear e1
  · refine State.err_keeps (Within.trans (by decide) hw) ?_
    exact h
  extract_lets +onlyGivenNames x3
  clear_value (e3 : x3 = _)
  refine Keeps.cut (w := w) (s0 := s0) e3 ?_ (fun h3 => ?_) <;> clear e3
  · refine State.traceRec_keeps (Within.trans (by decide) hw) ?_
    exact h1
  refine State.post_keeps (Within.trans (by decide) hw) ?_
  refine State.noteFault_keeps (Within.trans (by decide) hw) ?_
  exact h3

theorem State.lasting_keeps {w : Nat} {s0 s : State} {a0 : Nat} (hw : Within 1 w) (h : Keeps w s0 s) : Keeps w s0 (State.lasting s a0) := by
  unfold State.lasting
  refine State.sat_keeps (Within.trans (by decide) hw) ?_
  exact h

theorem State.setSq_keeps {w : Nat} {s0 s : State} {a0 : Nat} {a1 : SqQueue} (hw : Within 137438953472 w) (h : Keeps w s0 s) : Keeps w s0 (State.setSq s a0 a1) := by
  unfold State.setSq
  refine Keeps.set_sqs (Within.trans (by decide) hw) ?_
  exact h

theorem State.setStack_keeps {w : Nat} {s0 s : State} {a0 : Nat} {a1 : Stack} (hw : Within 1073741824 w) (h : Keeps w s0 s) : Keeps w s0 (State.setStack s a0 a1) := by
  unfold State.setStack
  refine Keeps.set_stackSt (Within.trans (by decide) hw) ?_
  exact h

theorem State.setD2d_keeps {w : Nat} {s0 s : State} {a0 : Nat} {a1 : D2DLink} (hw : Within 549755813888 w) (h : Keeps w s0 s) : Keeps w s0 (State.setD2d s a0 a1) := by
  unfold State.setD2d
  refine Keeps.set_d2d (Within.trans (by decide) hw) ?_
  exact h

theorem State.setAct_keeps {w : Nat} {s0 s : State} {a0 : Nat} {a1 : Nat} {a2 : Nat} {a3 : Word} (hw : Within 2 w) (h : Keeps w s0 s) : Keeps w s0 (State.setAct s a0 a1 a2 a3) := by
  unfold State.setAct
  refine Keeps.set_act (Within.trans (by decide) hw) ?_
  exact h

theorem State.setFn_keeps {w : Nat} {s0 s : State} {a0 : Nat} {a1 : PcieFn} (hw : Within 8388608 w) (h : Keeps w s0 s) : Keeps w s0 (State.setFn s a0 a1) := by
  unfold State.setFn
  refine Keeps.set_fns (Within.trans (by decide) hw) ?_
  exact h

theorem State.dikeRefuse_keeps {w : Nat} {s0 s : State} {a0 : Nat} {a1 : Nat} {a2 : Nat} {a3 : Nat} {a4 : Nat} (hw : Within 174129217 w) (h : Keeps w s0 s) : Keeps w s0 (State.dikeRefuse s a0 a1 a2 a3 a4) := by
  unfold State.dikeRefuse
  refine State.countEv_keeps (Within.trans (by decide) hw) ?_
  refine State.fault_keeps (Within.trans (by decide) hw) ?_
  exact h

theorem State.sendInval_keeps {w : Nat} {s0 s : State} {a0 : Nat} (hw : Within 34359738368 w) (h : Keeps w s0 s) : Keeps w s0 (State.sendInval s a0) := by
  unfold State.sendInval
  refine Keeps.set_inval (Within.trans (by decide) hw) ?_
  exact h

theorem State.fill_keeps {w : Nat} {s0 s : State} {a0 : Nat} {a1 : Nat} {a2 : LineSt} (hw : Within 268435521 w) (h : Keeps w s0 s) : Keeps w s0 (State.fill s a0 a1 a2) := by
  unfold State.fill
  extract_lets +onlyGivenNames x1
  clear_value x1
  split
  · refine State.setSlice_keeps (Within.trans (by decide) hw) ?_
    exact h
  · extract_lets +onlyGivenNames x3
    clear_value x3
    extract_lets +onlyGivenNames x4
    clear_value x4
    extract_lets +onlyGivenNames x5
    clear_value x5
    extract_lets +onlyGivenNames x6
    clear_value x6
    split
    · refine State.setSlice_keeps (Within.trans (by decide) hw) ?_
      exact h
    · split
      · rename_i y8 y9 y10 y11 y12 y13
        extract_lets +onlyGivenNames x14
        clear_value x14
        extract_lets +onlyGivenNames x15
        clear_value (e15 : x15 = _)
        refine Keeps.cut (w := w) (s0 := s0) e15 ?_ (fun h15 => ?_) <;> clear e15
        · refine State.setSlice_keeps (Within.trans (by decide) hw) ?_
          refine Keeps.snd y13 ?_
          refine drawFree_keeps (Within.trans (by decide) hw) ?_
          exact h
        split
        · refine State.countEv_keeps (Within.trans (by decide) hw) ?_
          refine State.bump_keeps (Within.trans (by decide) hw) ?_
          exact h15
        · exact h15

theorem State.portGrant_keeps {w : Nat} {s0 s : State} {a0 : Nat} {a1 : Nat} {a2 : Nat} (hw : Within 1 w) (h : Keeps w s0 s) : Keeps w s0 (State.portGrant s a0 a1 a2) := by
  unfold State.portGrant
  refine State.bump_keeps (Within.trans (by decide) hw) ?_
  exact h

theorem State.touch_keeps {w : Nat} {s0 s : State} {a0 : Nat} {a1 : Nat} {a2 : Bool} (hw : Within 268435521 w) (h : Keeps w s0 s) : Keeps w s0 (State.touch s a0 a1 a2) := by
  unfold State.touch
  extract_lets +onlyGivenNames x1
  clear_value x1
  split
  · split
    · refine State.countEv_keeps (Within.trans (by decide) hw) ?_
      refine State.bump_keeps (Within.trans (by decide) hw) ?_
      exact h
    · exact h
  · extract_lets +onlyGivenNames x4
    clear_value (e4 : x4 = _)
    refine Keeps.cut (w := w) (s0 := s0) e4 ?_ (fun h4 => ?_) <;> clear e4
    · split
      · refine State.countEv_keeps (Within.trans (by decide) hw) ?_
        refine State.bump_keeps (Within.trans (by decide) hw) ?_
        exact h
      · exact h
    extract_lets +onlyGivenNames x7
    clear_value (e7 : x7 = _)
    refine Keeps.cut (w := w) (s0 := s0) e7 ?_ (fun h7 => ?_) <;> clear e7
    · split
      · exact h4
      · refine State.portGrant_keeps (Within.trans (by decide) hw) ?_
        refine State.countEv_keeps (Within.trans (by decide) hw) ?_
        refine State.bump_keeps (Within.trans (by decide) hw) ?_
        exact h4
    refine State.fill_keeps (Within.trans (by decide) hw) ?_
    exact h7

theorem State.drain_keeps {w : Nat} {s0 s : State} {a0 : Nat} {a1 : WcbEntry} (hw : Within 17448566849 w) (h : Keeps w s0 s) : Keeps w s0 (State.drain s a0 a1) := by
  unfold State.drain
  extract_lets +onlyGivenNames x1
  clear_value x1
  extract_lets +onlyGivenNames x2
  clear_value x2
  extract_lets +onlyGivenNames x3
  clear_value (e3 : x3 = _)
  refine Keeps.cut (w := w) (s0 := s0) e3 ?_ (fun h3 => ?_) <;> clear e3
  · split
    · exact h
    · refine State.touch_keeps (Within.trans (by decide) hw) ?_
      exact h
  extract_lets +onlyGivenNames x5
  clear_value x5
  extract_lets +onlyGivenNames x6
  clear_value (e6 : x6 = _)
  refine Keeps.cut (w := w) (s0 := s0) e6 ?_ (fun h6 => ?_) <;> clear e6
  · refine State.fill_keeps (Within.trans (by decide) hw) ?_
    exact h3
  extract_lets +onlyGivenNames x8
  clear_value (e8 : x8 = _)
  refine Keeps.cut (w := w) (s0 := s0) e8 ?_ (fun h8 => ?_) <;> clear e8
  · refine Keeps.set_hbm_poison (Within.trans (by decide) hw) ?_ ?_
    · exact h6
    · exact fun m => memWrite_wf _ _ m
  refine State.countEv_keeps (Within.trans (by decide) hw) ?_
  exact h8

theorem State.highDrain_keeps {w : Nat} {s0 s : State} {a0 : Nat} {a1 : Nat} (hw : Within 17448566849 w) (h : Keeps w s0 s) : Keeps w s0 (State.highDrain a0 a1 s) := by
  induction a0 generalizing a1 s with
  | zero => exact h
  | succ n ih =>
    unfold State.highDrain
    extract_lets +onlyGivenNames x1
    clear_value x1
    split
    · exact h
    · split
      · exact h
      · refine ih ?_
        refine State.drain_keeps (Within.trans (by decide) hw) ?_
        refine State.setSlice_keeps (Within.trans (by decide) hw) ?_
        exact h

theorem State.accept_keeps {w : Nat} {s0 s : State} {a0 : WcbEntry} (hw : Within 51808305217 w) (h : Keeps w s0 s) : Keeps w s0 (State.accept s a0) := by
  unfold State.accept
  extract_lets +onlyGivenNames x1
  clear_value x1
  extract_lets +onlyGivenNames x2
  clear_value x2
  extract_lets +onlyGivenNames x3
  clear_value x3
  refine State.highDrain_keeps (Within.trans (by decide) hw) ?_
  refine State.sendInval_keeps (Within.trans (by decide) hw) ?_
  refine State.setSlice_keeps (Within.trans (by decide) hw) ?_
  exact h

theorem State.drainLine_keeps {w : Nat} {s0 s : State} {a0 : Nat} {a1 : Nat} (hw : Within 17448566849 w) (h : Keeps w s0 s) : Keeps w s0 (State.drainLine s a0 a1) := by
  unfold State.drainLine
  split
  · exact h
  · refine State.drain_keeps (Within.trans (by decide) hw) ?_
    refine State.setSlice_keeps (Within.trans (by decide) hw) ?_
    exact h

theorem State.poisonRefuse_keeps {w : Nat} {s0 s : State} {a0 : Nat} {a1 : Nat} {a2 : Nat} {a3 : Nat} (hw : Within 174129217 w) (h : Keeps w s0 s) : Keeps w s0 (State.poisonRefuse s a0 a1 a2 a3) := by
  unfold State.poisonRefuse
  refine State.fault_keeps (Within.trans (by decide) hw) ?_
  exact h

theorem State.homeLoad_keeps {w : Nat} {s0 s : State} {a0 : Nat} {a1 : Nat} {a2 : Nat} {a3 : Nat} (hw : Within 17622696001 w) (h : Keeps w s0 s) : Keeps w s0 (State.homeLoad s a0 a1 a2 a3).2 := by
  unfold State.homeLoad
  extract_lets +onlyGivenNames x1
  clear_value x1
  extract_lets +onlyGivenNames x2
  clear_value x2
  extract_lets +onlyGivenNames x3
  clear_value x3
  split
  · split
    · dsimp only
      refine State.countEv_keeps (Within.trans (by decide) hw) ?_
      refine State.bump_keeps (Within.trans (by decide) hw) ?_
      exact h
    · split
      · extract_lets +onlyGivenNames x6
        clear_value (e6 : x6 = _)
        refine Keeps.cut (w := w) (s0 := s0) e6 ?_ (fun h6 => ?_) <;> clear e6
        · refine State.countEv_keeps (Within.trans (by decide) hw) ?_
          refine State.bump_keeps (Within.trans (by decide) hw) ?_
          refine State.drainLine_keeps (Within.trans (by decide) hw) ?_
          exact h
        split
        · dsimp only
          refine State.poisonRefuse_keeps (Within.trans (by decide) hw) ?_
          exact h6
        · dsimp only
          refine State.touch_keeps (Within.trans (by decide) hw) ?_
          exact h6
      · split
        · dsimp only
          refine State.poisonRefuse_keeps (Within.trans (by decide) hw) ?_
          exact h
        · dsimp only
          refine State.touch_keeps (Within.trans (by decide) hw) ?_
          exact h
  · split
    · dsimp only
      refine State.poisonRefuse_keeps (Within.trans (by decide) hw) ?_
      exact h
    · dsimp only
      refine State.touch_keeps (Within.trans (by decide) hw) ?_
      exact h

theorem State.lineLoad_keeps {w : Nat} {s0 s : State} {a0 : Nat} {a1 : Nat} {a2 : Nat} {a3 : Nat} {a4 : Nat} {a5 : Nat} (hw : Within 17622696001 w) (h : Keeps w s0 s) : Keeps w s0 (State.lineLoad s a0 a1 a2 a3 a4 a5).2 := by
  unfold State.lineLoad
  extract_lets +onlyGivenNames x1
  clear_value x1
  extract_lets +onlyGivenNames x2
  clear_value (e2 : x2 = _)
  refine Keeps.cut (w := w) (s0 := s0) e2 ?_ (fun h2 => ?_) <;> clear e2
  · split
    · refine State.portGrant_keeps (Within.trans (by decide) hw) ?_
      exact h
    · exact h
  extract_lets +onlyGivenNames x4
  clear_value x4
  split
  · dsimp only
    refine State.dikeRefuse_keeps (Within.trans (by decide) hw) ?_
    exact h2
  · split
    · dsimp only
      refine State.err_keeps (Within.trans (by decide) hw) ?_
      exact h2
    · split
      · refine State.homeLoad_keeps (Within.trans (by decide) hw) ?_
        exact h2
      · split
        · dsimp only
          refine State.poisonRefuse_keeps (Within.trans (by decide) hw) ?_
          exact h2
        · extract_lets +onlyGivenNames x9
          clear_value x9
          extract_lets +onlyGivenNames x10
          clear_value x10
          split
          · dsimp only
            refine State.countEv_keeps (Within.trans (by decide) hw) ?_
            refine State.bump_keeps (Within.trans (by decide) hw) ?_
            exact h2
          · split
            · rename_i y13 y14 y15 y16 y17 y18 y19 y20 y21 y22
              dsimp only
              refine State.fill_keeps (Within.trans (by decide) hw) ?_
              refine State.countEv_keeps (Within.trans (by decide) hw) ?_
              refine State.bump_keeps (Within.trans (by decide) hw) ?_
              refine Keeps.snd y22 ?_
              refine State.homeLoad_keeps (Within.trans (by decide) hw) ?_
              exact h2
            · rename_i y27 y28 y29 y30 y31 y32 y33 y34 y35 y36
              dsimp only
              refine Keeps.snd y36 ?_
              refine State.homeLoad_keeps (Within.trans (by decide) hw) ?_
              exact h2

theorem State.polLoad_keeps {w : Nat} {s0 s : State} {a0 : Nat} {a1 : Nat} {a2 : Nat} {a3 : Nat} {a4 : Nat} (hw : Within 17622696001 w) (h : Keeps w s0 s) : Keeps w s0 (State.polLoad s a0 a1 a2 a3 a4).2 := by
  unfold State.polLoad
  refine Keeps.foldlSnd (fun acc1 e1 h1 => ?_) _ _ ?_
  · split
    · dsimp only
      exact h1
    · split
      · split
        · dsimp only
          refine State.dikeRefuse_keeps (Within.trans (by decide) hw) ?_
          exact h1
        · split
          · rename_i y3 y4 y5 y6 y7 y8 y9 y10 y11 y12 y13 y14
            dsimp only
            refine Keeps.snd y14 ?_
            refine State.lineLoad_keeps (Within.trans (by decide) hw) ?_
            exact h1
          · rename_i y16 y17 y18 y19 y20 y21 y22 y23 y24 y25 y26 y27
            dsimp only
            refine Keeps.snd y27 ?_
            refine State.lineLoad_keeps (Within.trans (by decide) hw) ?_
            exact h1
      · dsimp only
        exact h1
      · dsimp only
        exact h1
  · dsimp only
    exact h

theorem State.storeIn_keeps {w : Nat} {s0 s : State} {a0 : WaitStore} (hw : Within 64693207105 w) (h : Keeps w s0 s) : Keeps w s0 (State.storeIn s a0) := by
  unfold State.storeIn
  split
  · refine Keeps.set_zeroing_waitSt (Within.trans (by decide) hw) ?_
    exact h
  · refine State.accept_keeps (Within.trans (by decide) hw) ?_
    exact h

theorem State.dropNear_keeps {w : Nat} {s0 s : State} {a0 : Nat} {a1 : Nat} (hw : Within 268435456 w) (h : Keeps w s0 s) : Keeps w s0 (State.dropNear s a0 a1) := by
  unfold State.dropNear
  extract_lets +onlyGivenNames x1
  clear_value x1
  split
  · split
    · refine State.setSlice_keeps (Within.trans (by decide) hw) ?_
      exact h
    · exact h
  · exact h

theorem State.polStore_keeps {w : Nat} {s0 s : State} {a0 : Nat} {a1 : Nat} {a2 : Nat} {a3 : Nat} {a4 : List Byte} (hw : Within 64867336257 w) (h : Keeps w s0 s) : Keeps w s0 (State.polStore s a0 a1 a2 a3 a4).2 := by
  unfold State.polStore
  refine Keeps.foldlSnd (fun acc1 e1 h1 => ?_) _ _ ?_
  · split
    · dsimp only
      exact h1
    · split
      · extract_lets +onlyGivenNames x2
        clear_value x2
        extract_lets +onlyGivenNames x3
        clear_value x3
        split
        · dsimp only
          refine State.dikeRefuse_keeps (Within.trans (by decide) hw) ?_
          exact h1
        · split
          · dsimp only
            refine State.err_keeps (Within.trans (by decide) hw) ?_
            exact h1
          · extract_lets +onlyGivenNames x6
            clear_value (e6 : x6 = _)
            refine Keeps.cut (w := w) (s0 := s0) e6 ?_ (fun h6 => ?_) <;> clear e6
            · refine State.portGrant_keeps (Within.trans (by decide) hw) ?_
              exact h1
            extract_lets +onlyGivenNames x8
            clear_value (e8 : x8 = _)
            refine Keeps.cut (w := w) (s0 := s0) e8 ?_ (fun h8 => ?_) <;> clear e8
            · split
              · exact h6
              · refine State.dropNear_keeps (Within.trans (by decide) hw) ?_
                exact h6
            extract_lets +onlyGivenNames x10
            clear_value x10
            dsimp only
            refine State.storeIn_keeps (Within.trans (by decide) hw) ?_
            exact h8
      · split
        · dsimp only
          exact h1
        · split
          · dsimp only
            refine State.hostWrite_keeps (Within.trans (by decide) hw) ?_
            exact h1
          · dsimp only
            exact h1
      · dsimp only
        exact h1
  · dsimp only
    exact h

theorem State.loaderWrite_keeps {w : Nat} {s0 s : State} {a0 : Nat} {a1 : Nat} {a2 : List Byte} (hw : Within 64693207105 w) (h : Keeps w s0 s) : Keeps w s0 (State.loaderWrite s a0 a1 a2) := by
  unfold State.loaderWrite
  refine Keeps.foldl (fun st1 e1 h1 => ?_) _ _ ?_
  · split
    · refine State.storeIn_keeps (Within.trans (by decide) hw) ?_
      exact h1
    · exact h1
  · exact h

theorem State.freeLines_keeps {w : Nat} {s0 s : State} {a0 : Nat → Bool} {a1 : Bool} (hw : Within 8858370048 w) (h : Keeps w s0 s) : Keeps w s0 (State.freeLines s a0 a1) := by
  unfold State.freeLines
  extract_lets +onlyGivenNames x1
  extract_lets +onlyGivenNames x2
  refine Keeps.set_slices_waitSt (Within.trans (by decide) hw) ?_
  exact h

theorem State.freshen_keeps {w : Nat} {s0 s : State} {a0 : Nat} (hw : Within 23622582272 w) (h : Keeps w s0 s) : Keeps w s0 (State.freshen s a0) := by
  unfold State.freshen
  extract_lets +onlyGivenNames x1
  refine Keeps.set_hbm_clean_zeroing_poison (Within.trans (by decide) hw) ?_ ?_
  · exact h
  · exact fun m => memZero_wf _ _ m

end Sys2Proof.Machine
end

