-- ==== Sys2Proof/Laws/KeepsB.lean ====
section
/-!
SUPPORT. What each function of LinkBase, KndBase, TileOps, Flags may change: the mask of parts, and both memories stay canonical.
-/
namespace Sys2Proof.Machine

theorem State.putMsg_keeps {w : Nat} {s0 s : State} {a0 : Nat} {a1 : KMsg} (hw : Within 17592186044416 w) (h : Keeps w s0 s) : Keeps w s0 (State.putMsg s a0 a1) := by
  unfold State.putMsg
  extract_lets +onlyGivenNames x1
  clear_value x1
  refine State.setPort_keeps (Within.trans (by decide) hw) ?_
  exact h

theorem State.sendMsg_keeps {w : Nat} {s0 s : State} {a0 : Nat} {a1 : Nat} {a2 : Nat} {a3 : KMsg} (hw : Within 17592186044416 w) (h : Keeps w s0 s) : Keeps w s0 (State.sendMsg s a0 a1 a2 a3).2 := by
  unfold State.sendMsg
  split
  · dsimp only
    exact h
  · dsimp only
    refine State.putMsg_keeps (Within.trans (by decide) hw) ?_
    exact h

theorem State.gateSend_keeps {w : Nat} {s0 s : State} {a0 : Nat} {a1 : GateFlit} {a2 : Bool} (hw : Within 193514046488641 w) (h : Keeps w s0 s) : Keeps w s0 (State.gateSend s a0 a1 a2) := by
  unfold State.gateSend
  split
  · rename_i y1 y2 y3 y4
    extract_lets +onlyGivenNames x5
    clear_value x5
    extract_lets +onlyGivenNames x6
    clear_value x6
    extract_lets +onlyGivenNames x7
    clear_value x7
    extract_lets +onlyGivenNames x8
    clear_value x8
    extract_lets +onlyGivenNames x9
    clear_value x9
    extract_lets +onlyGivenNames x10
    clear_value x10
    extract_lets +onlyGivenNames x11
    clear_value x11
    extract_lets +onlyGivenNames x12
    clear_value (e12 : x12 = _)
    refine Keeps.cut (w := w) (s0 := s0) e12 ?_ (fun h12 => ?_) <;> clear e12
    · refine State.setPort_keeps (Within.trans (by decide) hw) ?_
      refine Keeps.set_sentFlits_sendSeq (Within.trans (by decide) hw) ?_
      refine Keeps.snd y4 ?_
      split
      · refine drawFree_keeps (Within.trans (by decide) hw) ?_
        exact h
      · dsimp only
        exact h
    extract_lets +onlyGivenNames x15
    clear_value (e15 : x15 = _)
    refine Keeps.cut (w := w) (s0 := s0) e15 ?_ (fun h15 => ?_) <;> clear e15
    · refine State.countEv_keeps (Within.trans (by decide) hw) ?_
      refine State.bump_keeps (Within.trans (by decide) hw) ?_
      exact h12
    split
    · refine State.bump_keeps (Within.trans (by decide) hw) ?_
      exact h15
    · exact h15

theorem State.pump_keeps {w : Nat} {s0 s : State} {a0 : Nat} {a1 : Nat} (hw : Within 193514046488641 w) (h : Keeps w s0 s) : Keeps w s0 (State.pump a0 a1 s) := by
  induction a0 generalizing a1 s with
  | zero => exact h
  | succ n ih =>
    unfold State.pump
    split
    · exact h
    · refine ih ?_
      refine State.gateSend_keeps (Within.trans (by decide) hw) ?_
      exact h

theorem State.pumpPort_keeps {w : Nat} {s0 s : State} {a0 : Nat} (hw : Within 193514046488641 w) (h : Keeps w s0 s) : Keeps w s0 (State.pumpPort s a0) := by
  unfold State.pumpPort
  refine State.pump_keeps (Within.trans (by decide) hw) ?_
  exact h

theorem State.gatePut_keeps {w : Nat} {s0 s : State} {a0 : Nat} {a1 : GateFlit} (hw : Within 193514046488641 w) (h : Keeps w s0 s) : Keeps w s0 (State.gatePut s a0 a1) := by
  unfold State.gatePut
  refine State.pumpPort_keeps (Within.trans (by decide) hw) ?_
  refine State.setPort_keeps (Within.trans (by decide) hw) ?_
  exact h

theorem State.lnkPost_keeps {w : Nat} {s0 s : State} {a0 : Nat} {a1 : Nat} {a2 : Nat} {a3 : Nat} {a4 : Nat} {a5 : Nat} {a6 : Nat} (hw : Within 174129217 w) (h : Keeps w s0 s) : Keeps w s0 (State.lnkPost s a0 a1 a2 a3 a4 a5 a6) := by
  unfold State.lnkPost
  extract_lets +onlyGivenNames x1
  clear_value x1
  refine State.fault_keeps (Within.trans (by decide) hw) ?_
  exact h

theorem State.linkDike_keeps {w : Nat} {s0 s : State} {a0 : Nat} {a1 : Nat} (hw : Within 17592360173633 w) (h : Keeps w s0 s) : Keeps w s0 (State.linkDike s a0 a1) := by
  unfold State.linkDike
  extract_lets +onlyGivenNames x1
  clear_value (e1 : x1 = _)
  refine Keeps.cut (w := w) (s0 := s0) e1 ?_ (fun h1 => ?_) <;> clear e1
  · refine State.countEv_keeps (Within.trans (by decide) hw) ?_
    refine State.sat_keeps (Within.trans (by decide) hw) ?_
    exact h
  split
  · exact h1
  · refine State.lnkPost_keeps (Within.trans (by decide) hw) ?_
    refine State.setPort_keeps (Within.trans (by decide) hw) ?_
    exact h1

theorem State.sendFlit_keeps {w : Nat} {s0 s : State} {a0 : Nat} {a1 : Nat} {a2 : Flit} (hw : Within 193514220617793 w) (h : Keeps w s0 s) : Keeps w s0 (State.sendFlit s a0 a1 a2).2 := by
  unfold State.sendFlit
  split
  · dsimp only
    exact h
  · split
    · dsimp only
      exact h
    · split
      · dsimp only
        refine State.linkDike_keeps (Within.trans (by decide) hw) ?_
        exact h
      · split
        · dsimp only
          refine State.sat_keeps (Within.trans (by decide) hw) ?_
          exact h
        · dsimp only
          refine State.gatePut_keeps (Within.trans (by decide) hw) ?_
          exact h

theorem State.setLnk_keeps {w : Nat} {s0 s : State} {a0 : Nat} {a1 : Nat} (hw : Within 1 w) (h : Keeps w s0 s) : Keeps w s0 (State.setLnk s a0 a1) := by
  unfold State.setLnk
  refine State.setF_keeps (Within.trans (by decide) hw) ?_
  exact h

theorem State.newAllowance_keeps {w : Nat} {s0 s : State} {a0 : Nat} (hw : Within 17592186044416 w) (h : Keeps w s0 s) : Keeps w s0 (State.newAllowance s a0) := by
  unfold State.newAllowance
  extract_lets +onlyGivenNames x1
  clear_value x1
  refine State.setPort_keeps (Within.trans (by decide) hw) ?_
  exact h

theorem State.setKinst_keeps {w : Nat} {s0 s : State} {a0 : Nat} {a1 : Nat} {a2 : KInst} (hw : Within 4503599627370496 w) (h : Keeps w s0 s) : Keeps w s0 (State.setKinst s a0 a1 a2) := by
  unfold State.setKinst
  refine State.setKnd_keeps (Within.trans (by decide) hw) ?_
  exact h

theorem State.sendAborts_keeps {w : Nat} {s0 s : State} {a0 : Nat} {a1 : Nat} {a2 : Nat} {a3 : Nat} {a4 : Nat} {a5 : Nat} (hw : Within 17592186044416 w) (h : Keeps w s0 s) : Keeps w s0 (State.sendAborts s a0 a1 a2 a3 a4 a5) := by
  unfold State.sendAborts
  extract_lets +onlyGivenNames x1
  clear_value x1
  refine Keeps.foldl (fun st2 e2 h2 => ?_) _ _ ?_
  · refine Keeps.foldl (fun st3 e3 h3 => ?_) _ _ ?_
    · refine State.sendMsg_keeps (Within.trans (by decide) hw) ?_
      exact h3
    · exact h2
  · exact h

theorem State.kndErr_keeps {w : Nat} {s0 s : State} {a0 : Nat} {a1 : Nat} {a2 : Nat} {a3 : Nat} {a4 : Nat} (hw : Within 1 w) (h : Keeps w s0 s) : Keeps w s0 (State.kndErr s a0 a1 a2 a3 a4) := by
  unfold State.kndErr
  refine State.setReg_keeps (Within.trans (by decide) hw) ?_
  refine State.setReg_keeps (Within.trans (by decide) hw) ?_
  exact h

theorem State.abortInst_keeps {w : Nat} {s0 s : State} {a0 : Nat} {a1 : Nat} {a2 : Nat} {a3 : Nat} (hw : Within 4521191987544129 w) (h : Keeps w s0 s) : Keeps w s0 (State.abortInst s a0 a1 a2 a3) := by
  unfold State.abortInst
  split
  · exact h
  · split
    · exact h
    · extract_lets +onlyGivenNames x1
      clear_value x1
      extract_lets +onlyGivenNames x2
      clear_value x2
      extract_lets +onlyGivenNames x3
      clear_value x3
      extract_lets +onlyGivenNames x4
      clear_value x4
      extract_lets +onlyGivenNames x5
      clear_value x5
      extract_lets +onlyGivenNames x6
      clear_value (e6 : x6 = _)
      refine Keeps.cut (w := w) (s0 := s0) e6 ?_ (fun h6 => ?_) <;> clear e6
      · refine State.setKinst_keeps (Within.trans (by decide) hw) ?_
        exact h
      extract_lets +onlyGivenNames x8
      clear_value (e8 : x8 = _)
      refine Keeps.cut (w := w) (s0 := s0) e8 ?_ (fun h8 => ?_) <;> clear e8
      · refine State.kndErr_keeps (Within.trans (by decide) hw) ?_
        refine State.bump_keeps (Within.trans (by decide) hw) ?_
        refine State.sendAborts_keeps (Within.trans (by decide) hw) ?_
        exact h6
      refine State.fault_keeps (Within.trans (by decide) hw) ?_
      exact h8

theorem State.abortPolder_keeps {w : Nat} {s0 s : State} {a0 : Nat} {a1 : Nat} (hw : Within 4521191987544129 w) (h : Keeps w s0 s) : Keeps w s0 (State.abortPolder s a0 a1) := by
  unfold State.abortPolder
  refine Keeps.foldl (fun st1 e1 h1 => ?_) _ _ ?_
  · refine Keeps.foldl (fun st2 e2 h2 => ?_) _ _ ?_
    · refine State.abortInst_keeps (Within.trans (by decide) hw) ?_
      exact h2
    · exact h1
  · exact h

theorem State.onKinst_keeps {w : Nat} {s0 s : State} {a0 : Nat} {a1 : Nat} {a2 : KInst → KInst} (hw : Within 4503599627370496 w) (h : Keeps w s0 s) : Keeps w s0 (State.onKinst s a0 a1 a2) := by
  unfold State.onKinst
  split
  · refine State.setKinst_keeps (Within.trans (by decide) hw) ?_
    exact h
  · exact h

theorem State.setKdesc_keeps {w : Nat} {s0 s : State} {a0 : Nat} {a1 : Nat} {a2 : Nat} {a3 : KDesc} (hw : Within 4503599627370496 w) (h : Keeps w s0 s) : Keeps w s0 (State.setKdesc s a0 a1 a2 a3) := by
  unfold State.setKdesc
  refine State.setKnd_keeps (Within.trans (by decide) hw) ?_
  exact h

theorem State.onT_keeps {w : Nat} {s0 s : State} {a0 : Nat} {a1 : Tile → Tile} (hw : Within 1048576 w) (h : Keeps w s0 s) : Keeps w s0 (State.onT s a0 a1) := by
  unfold State.onT
  refine State.setTile_keeps (Within.trans (by decide) hw) ?_
  exact h

theorem State.breakLocks_keeps {w : Nat} {s0 s : State} {a0 : Nat} (hw : Within 268435456 w) (h : Keeps w s0 s) : Keeps w s0 (State.breakLocks s a0) := by
  unfold State.breakLocks
  extract_lets +onlyGivenNames x1
  clear_value x1
  refine Keeps.set_slices (Within.trans (by decide) hw) ?_
  exact h

theorem State.cutSq_keeps {w : Nat} {s0 s : State} {a0 : Nat} {a1 : Nat → Bool} (hw : Within 1048640 w) (h : Keeps w s0 s) : Keeps w s0 (State.cutSq s a0 a1) := by
  unfold State.cutSq
  extract_lets +onlyGivenNames x1
  clear_value x1
  extract_lets +onlyGivenNames x2
  clear_value x2
  split
  · exact h
  · split
    · rename_i y3 y4 y5 y6 y7
      extract_lets +onlyGivenNames x8
      clear_value x8
      refine State.onT_keeps (Within.trans (by decide) hw) ?_
      refine Keeps.snd y7 ?_
      refine drawFree_keeps (Within.trans (by decide) hw) ?_
      exact h

theorem State.dropHeld_keeps {w : Nat} {s0 s : State} {a0 : Nat} {a1 : Nat → Nat → Bool} (hw : Within 805306369 w) (h : Keeps w s0 s) : Keeps w s0 (State.dropHeld s a0 a1) := by
  unfold State.dropHeld
  extract_lets +onlyGivenNames x1
  extract_lets +onlyGivenNames x2
  clear_value x2
  extract_lets +onlyGivenNames x3
  clear_value (e3 : x3 = _)
  refine Keeps.cut (w := w) (s0 := s0) e3 ?_ (fun h3 => ?_) <;> clear e3
  · refine Keeps.set_bridge (Within.trans (by decide) hw) ?_
    exact h
  refine Keeps.foldl (fun st4 e4 h4 => ?_) _ _ ?_
  · extract_lets +onlyGivenNames x5
    clear_value x5
    split
    · exact h4
    · refine State.countEv_keeps (Within.trans (by decide) hw) ?_
      refine State.setSlice_keeps (Within.trans (by decide) hw) ?_
      exact h4
  · exact h3

theorem State.startClear_keeps {w : Nat} {s0 s : State} {a0 : Nat} (hw : Within 806355009 w) (h : Keeps w s0 s) : Keeps w s0 (State.startClear s a0) := by
  unfold State.startClear
  split
  · exact h
  · extract_lets +onlyGivenNames x1
    clear_value (e1 : x1 = _)
    refine Keeps.cut (w := w) (s0 := s0) e1 ?_ (fun h1 => ?_) <;> clear e1
    · refine State.dropHeld_keeps (Within.trans (by decide) hw) ?_
      refine State.onT_keeps (Within.trans (by decide) hw) ?_
      refine State.cutSq_keeps (Within.trans (by decide) hw) ?_
      exact h
    refine State.setF_keeps (Within.trans (by decide) hw) ?_
    refine State.breakLocks_keeps (Within.trans (by decide) hw) ?_
    exact h1

theorem State.stopTiles_keeps {w : Nat} {s0 s : State} {a0 : Nat} (hw : Within 1048640 w) (h : Keeps w s0 s) : Keeps w s0 (State.stopTiles s a0) := by
  unfold State.stopTiles
  refine Keeps.foldl (fun st1 e1 h1 => ?_) _ _ ?_
  · split
    · exact h1
    · extract_lets +onlyGivenNames x2
      clear_value x2
      refine State.onT_keeps (Within.trans (by decide) hw) ?_
      refine State.cutSq_keeps (Within.trans (by decide) hw) ?_
      exact h1
  · exact h

theorem State.polderStop_keeps {w : Nat} {s0 s : State} {a0 : Nat} {a1 : Nat} {a2 : Bool} (hw : Within 4529988081614913 w) (h : Keeps w s0 s) : Keeps w s0 (State.polderStop s a0 a1 a2) := by
  unfold State.polderStop
  split
  · exact h
  · extract_lets +onlyGivenNames x1
    clear_value x1
    extract_lets +onlyGivenNames x2
    clear_value x2
    extract_lets +onlyGivenNames x3
    clear_value (e3 : x3 = _)
    refine Keeps.cut (w := w) (s0 := s0) e3 ?_ (fun h3 => ?_) <;> clear e3
    · refine State.setPol_keeps (Within.trans (by decide) hw) ?_
      refine Keeps.set_flight (Within.trans (by decide) hw) ?_
      exact h
    extract_lets +onlyGivenNames x5
    clear_value (e5 : x5 = _)
    refine Keeps.cut (w := w) (s0 := s0) e5 ?_ (fun h5 => ?_) <;> clear e5
    · refine State.stopTiles_keeps (Within.trans (by decide) hw) ?_
      exact h3
    extract_lets +onlyGivenNames x7
    clear_value (e7 : x7 = _)
    refine Keeps.cut (w := w) (s0 := s0) e7 ?_ (fun h7 => ?_) <;> clear e7
    · split
      · refine State.abortPolder_keeps (Within.trans (by decide) hw) ?_
        exact h5
      · exact h5
    refine State.fault_keeps (Within.trans (by decide) hw) ?_
    exact h7

theorem State.addUpsets_keeps {w : Nat} {s0 s : State} {a0 : Nat} {a1 : List (Nat × Nat)} (hw : Within 524288 w) (h : Keeps w s0 s) : Keeps w s0 (State.addUpsets s a0 a1) := by
  unfold State.addUpsets
  refine Keeps.set_upsets (Within.trans (by decide) hw) ?_
  exact h

theorem State.fenceUnit_keeps {w : Nat} {s0 s : State} {a0 : Nat} (hw : Within 174129217 w) (h : Keeps w s0 s) : Keeps w s0 (State.fenceUnit s a0) := by
  unfold State.fenceUnit
  split
  · exact h
  · refine State.fault_keeps (Within.trans (by decide) hw) ?_
    refine State.setF_keeps (Within.trans (by decide) hw) ?_
    exact h

theorem State.colPending_keeps {w : Nat} {s0 s : State} {a0 : Nat} {a1 : Bool} (hw : Within 174129217 w) (h : Keeps w s0 s) : Keeps w s0 (State.colPending s a0 a1) := by
  unfold State.colPending
  extract_lets +onlyGivenNames x1
  clear_value x1
  extract_lets +onlyGivenNames x2
  clear_value (e2 : x2 = _)
  refine Keeps.cut (w := w) (s0 := s0) e2 ?_ (fun h2 => ?_) <;> clear e2
  · split
    · refine State.lasting_keeps (Within.trans (by decide) hw) ?_
      refine State.fenceUnit_keeps (Within.trans (by decide) hw) ?_
      exact h
    · exact h
  extract_lets +onlyGivenNames x5
  clear_value x5
  split
  · exact h2
  · refine State.fault_keeps (Within.trans (by decide) hw) ?_
    refine State.setF_keeps (Within.trans (by decide) hw) ?_
    exact h2

theorem State.drawBytes_keeps {w : Nat} {s0 s : State} {a0 : Nat} (hw : Within 64 w) (h : Keeps w s0 s) : Keeps w s0 (State.drawBytes s a0).2 := by
  unfold State.drawBytes
  dsimp only
  refine Keeps.set_freeCtr (Within.trans (by decide) hw) ?_
  exact h

theorem State.scrPoke_keeps {w : Nat} {s0 s : State} {a0 : Nat} {a1 : Nat} {a2 : List Byte} (hw : Within 655360 w) (h : Keeps w s0 s) : Keeps w s0 (State.scrPoke s a0 a1 a2) := by
  unfold State.scrPoke
  refine Keeps.set_scr_upsets (Within.trans (by decide) hw) ?_ ?_
  · exact h
  · exact fun m => memWrite_wf _ _ m

theorem State.scrUndefine_keeps {w : Nat} {s0 s : State} {a0 : Nat} {a1 : Nat} {a2 : Nat} (hw : Within 655424 w) (h : Keeps w s0 s) : Keeps w s0 (State.scrUndefine s a0 a1 a2) := by
  unfold State.scrUndefine
  split
  · rename_i y1 y2 y3 y4
    refine State.scrPoke_keeps (Within.trans (by decide) hw) ?_
    refine Keeps.snd y4 ?_
    refine State.drawBytes_keeps (Within.trans (by decide) hw) ?_
    exact h

theorem State.haltTask_keeps {w : Nat} {s0 s : State} {a0 : Nat} {a1 : Nat} {a2 : FaultInfo} (hw : Within 4529988082270273 w) (h : Keeps w s0 s) : Keeps w s0 (State.haltTask s a0 a1 a2) := by
  unfold State.haltTask
  extract_lets +onlyGivenNames x1
  clear_value x1
  extract_lets +onlyGivenNames x2
  clear_value x2
  extract_lets +onlyGivenNames x3
  clear_value (e3 : x3 = _)
  refine Keeps.cut (w := w) (s0 := s0) e3 ?_ (fun h3 => ?_) <;> clear e3
  · refine Keeps.foldl (fun st4 e4 h4 => ?_) _ _ ?_
    · refine State.scrUndefine_keeps (Within.trans (by decide) hw) ?_
      exact h4
    · exact h
  extract_lets +onlyGivenNames x6
  clear_value (e6 : x6 = _)
  refine Keeps.cut (w := w) (s0 := s0) e6 ?_ (fun h6 => ?_) <;> clear e6
  · refine State.fault_keeps (Within.trans (by decide) hw) ?_
    refine State.onT_keeps (Within.trans (by decide) hw) ?_
    refine State.cutSq_keeps (Within.trans (by decide) hw) ?_
    exact h3
  split
  · refine State.polderStop_keeps (Within.trans (by decide) hw) ?_
    exact h6
  · exact h6

theorem State.taskFault_keeps {w : Nat} {s0 s : State} {a0 : Nat} {a1 : Nat} {a2 : Nat} {a3 : CmdAt} (hw : Within 4529988082270273 w) (h : Keeps w s0 s) : Keeps w s0 (State.taskFault s a0 a1 a2 a3) := by
  unfold State.taskFault
  extract_lets +onlyGivenNames x1
  clear_value x1
  split
  · refine State.onT_keeps (Within.trans (by decide) hw) ?_
    exact h
  · extract_lets +onlyGivenNames x3
    clear_value (e3 : x3 = _)
    refine Keeps.cut (w := w) (s0 := s0) e3 ?_ (fun h3 => ?_) <;> clear e3
    · refine State.haltTask_keeps (Within.trans (by decide) hw) ?_
      exact h
    split
    · refine State.colPending_keeps (Within.trans (by decide) hw) ?_
      exact h3
    · exact h3

theorem State.bankGrant_keeps {w : Nat} {s0 s : State} {a0 : Nat} {a1 : Nat} {a2 : Nat} (hw : Within 1048577 w) (h : Keeps w s0 s) : Keeps w s0 (State.bankGrant s a0 a1 a2) := by
  unfold State.bankGrant
  extract_lets +onlyGivenNames x1
  clear_value x1
  extract_lets +onlyGivenNames x2
  clear_value x2
  split
  · rename_i y3 y4 y5 y6
    extract_lets +onlyGivenNames x7
    clear_value (e7 : x7 = _)
    refine Keeps.cut (w := w) (s0 := s0) e7 ?_ (fun h7 => ?_) <;> clear e7
    · refine State.setTile_keeps (Within.trans (by decide) hw) ?_
      exact h
    split
    · refine State.bump_keeps (Within.trans (by decide) hw) ?_
      exact h7
    · exact h7

theorem State.eccTick_keeps {w : Nat} {s0 s : State} {a0 : Nat} {a1 : Nat} (hw : Within 175177793 w) (h : Keeps w s0 s) : Keeps w s0 (State.eccTick s a0 a1) := by
  unfold State.eccTick
  split
  · exact h
  · extract_lets +onlyGivenNames x1
    clear_value x1
    split
    · rename_i y2 y3 y4 y5 y6
      extract_lets +onlyGivenNames x7
      clear_value (e7 : x7 = _)
      refine Keeps.cut (w := w) (s0 := s0) e7 ?_ (fun h7 => ?_) <;> clear e7
      · refine State.setTile_keeps (Within.trans (by decide) hw) ?_
        exact h
      extract_lets +onlyGivenNames x9
      clear_value x9
      split
      · refine State.colPending_keeps (Within.trans (by decide) hw) ?_
        exact h7
      · exact h7

theorem State.scrRead_keeps {w : Nat} {s0 s : State} {a0 : Nat} {a1 : Nat} {a2 : Nat} {a3 : Nat} (hw : Within 175702081 w) (h : Keeps w s0 s) : Keeps w s0 (State.scrRead s a0 a1 a2 a3).2 := by
  unfold State.scrRead
  extract_lets +onlyGivenNames x1
  clear_value (e1 : x1 = _)
  refine Keeps.cut (w := w) (s0 := s0) e1 ?_ (fun h1 => ?_) <;> clear e1
  · refine State.bankGrant_keeps (Within.trans (by decide) hw) ?_
    exact h
  extract_lets +onlyGivenNames x3
  clear_value x3
  split
  · dsimp only
    exact h1
  · extract_lets +onlyGivenNames x4
    clear_value x4
    extract_lets +onlyGivenNames x5
    clear_value x5
    extract_lets +onlyGivenNames x6
    clear_value x6
    extract_lets +onlyGivenNames x7
    clear_value (e7 : x7 = _)
    refine Keeps.cut (w := w) (s0 := s0) e7 ?_ (fun h7 => ?_) <;> clear e7
    · refine Keeps.set_upsets (Within.trans (by decide) hw) ?_
      exact h1
    extract_lets +onlyGivenNames x8
    clear_value (e8 : x8 = _)
    refine Keeps.cut (w := w) (s0 := s0) e8 ?_ (fun h8 => ?_) <;> clear e8
    · refine State.eccTick_keeps (Within.trans (by decide) hw) ?_
      refine State.sat_keeps (Within.trans (by decide) hw) ?_
      exact h7
    split
    · dsimp only
      refine State.sat_keeps (Within.trans (by decide) hw) ?_
      exact h8
    · dsimp only
      exact h8

theorem State.capture_keeps {w : Nat} {s0 s : State} {a0 : Nat} (hw : Within 1048576 w) (h : Keeps w s0 s) : Keeps w s0 (State.capture s a0) := by
  unfold State.capture
  extract_lets +onlyGivenNames x1
  clear_value x1
  refine State.onT_keeps (Within.trans (by decide) hw) ?_
  exact h

theorem State.resumeTask_keeps {w : Nat} {s0 s : State} {a0 : Nat} (hw : Within 1048576 w) (h : Keeps w s0 s) : Keeps w s0 (State.resumeTask s a0) := by
  unfold State.resumeTask
  refine State.onT_keeps (Within.trans (by decide) hw) ?_
  refine State.capture_keeps (Within.trans (by decide) hw) ?_
  exact h

theorem State.startTask_keeps {w : Nat} {s0 s : State} {a0 : Nat} {a1 : Nat} (hw : Within 1048576 w) (h : Keeps w s0 s) : Keeps w s0 (State.startTask s a0 a1) := by
  unfold State.startTask
  extract_lets +onlyGivenNames x1
  clear_value x1
  extract_lets +onlyGivenNames x2
  clear_value x2
  refine State.onT_keeps (Within.trans (by decide) hw) ?_
  refine State.capture_keeps (Within.trans (by decide) hw) ?_
  exact h

theorem State.scrWrite_keeps {w : Nat} {s0 s : State} {a0 : Nat} {a1 : Nat} {a2 : Nat} {a3 : List Byte} (hw : Within 1703937 w) (h : Keeps w s0 s) : Keeps w s0 (State.scrWrite s a0 a1 a2 a3) := by
  unfold State.scrWrite
  refine State.scrPoke_keeps (Within.trans (by decide) hw) ?_
  refine State.bankGrant_keeps (Within.trans (by decide) hw) ?_
  exact h

theorem State.endClear_keeps {w : Nat} {s0 s : State} {a0 : Nat} (hw : Within 1704001 w) (h : Keeps w s0 s) : Keeps w s0 (State.endClear s a0) := by
  unfold State.endClear
  split
  · exact h
  · split
    · rename_i y1 y2 y3 y4 y5
      extract_lets +onlyGivenNames x6
      clear_value x6
      extract_lets +onlyGivenNames x7
      clear_value x7
      extract_lets +onlyGivenNames x8
      clear_value (e8 : x8 = _)
      refine Keeps.cut (w := w) (s0 := s0) e8 ?_ (fun h8 => ?_) <;> clear e8
      · refine Keeps.set_regs_scr_upsets (Within.trans (by decide) hw) ?_ ?_
        · refine Keeps.snd y5 ?_
          refine drawFree_keeps (Within.trans (by decide) hw) ?_
          exact h
        · exact fun m => memZero_wf _ _ m
      refine State.setF_keeps (Within.trans (by decide) hw) ?_
      refine State.setF_keeps (Within.trans (by decide) hw) ?_
      refine State.setTile_keeps (Within.trans (by decide) hw) ?_
      exact h8

theorem State.convNote_keeps {w : Nat} {s0 s : State} {a0 : Nat} {a1 : Nat} {a2 : Nat} {a3 : ConvOut} (hw : Within 1 w) (h : Keeps w s0 s) : Keeps w s0 (State.convNote s a0 a1 a2 a3) := by
  unfold State.convNote
  extract_lets +onlyGivenNames x1
  clear_value x1
  extract_lets +onlyGivenNames x2
  clear_value x2
  extract_lets +onlyGivenNames x3
  clear_value x3
  extract_lets +onlyGivenNames x4
  clear_value (e4 : x4 = _)
  refine Keeps.cut (w := w) (s0 := s0) e4 ?_ (fun h4 => ?_) <;> clear e4
  · split
    · refine State.setF_keeps (Within.trans (by decide) hw) ?_
      exact h
    · exact h
  extract_lets +onlyGivenNames x6
  clear_value (e6 : x6 = _)
  refine Keeps.cut (w := w) (s0 := s0) e6 ?_ (fun h6 => ?_) <;> clear e6
  · split
    · refine State.setF_keeps (Within.trans (by decide) hw) ?_
      exact h4
    · exact h4
  refine State.sat_keeps (Within.trans (by decide) hw) ?_
  refine State.sat_keeps (Within.trans (by decide) hw) ?_
  refine State.orReg_keeps (Within.trans (by decide) hw) ?_
  exact h6

theorem State.trapLater_keeps {w : Nat} {s0 s : State} {a0 : Nat} {a1 : Nat} (hw : Within 1 w) (h : Keeps w s0 s) : Keeps w s0 (State.trapLater s a0 a1) := by
  unfold State.trapLater
  refine State.sat_keeps (Within.trans (by decide) hw) ?_
  exact h

theorem State.trap_keeps {w : Nat} {s0 s : State} {a0 : Nat} {a1 : Nat} {a2 : TrapRec} (hw : Within 4529988082270273 w) (h : Keeps w s0 s) : Keeps w s0 (State.trap s a0 a1 a2) := by
  unfold State.trap
  extract_lets +onlyGivenNames x1
  clear_value x1
  extract_lets +onlyGivenNames x2
  clear_value x2
  extract_lets +onlyGivenNames x3
  clear_value (e3 : x3 = _)
  refine Keeps.cut (w := w) (s0 := s0) e3 ?_ (fun h3 => ?_) <;> clear e3
  · split
    · refine State.trapLater_keeps (Within.trans (by decide) hw) ?_
      exact h
    · refine State.trapLater_keeps (Within.trans (by decide) hw) ?_
      refine State.setF_keeps (Within.trans (by decide) hw) ?_
      refine Keeps.foldl (fun st7 e7 h7 => ?_) _ _ ?_
      · refine State.setF_keeps (Within.trans (by decide) hw) ?_
        exact h7
      · exact h
  refine State.haltTask_keeps (Within.trans (by decide) hw) ?_
  exact h3

theorem State.vuNote_keeps {w : Nat} {s0 s : State} {a0 : Nat} {a1 : VecOut} (hw : Within 1 w) (h : Keeps w s0 s) : Keeps w s0 (State.vuNote s a0 a1) := by
  unfold State.vuNote
  extract_lets +onlyGivenNames x1
  clear_value x1
  refine State.sat_keeps (Within.trans (by decide) hw) ?_
  refine State.sat_keeps (Within.trans (by decide) hw) ?_
  refine State.orReg_keeps (Within.trans (by decide) hw) ?_
  exact h

theorem State.mmNote_keeps {w : Nat} {s0 s : State} {a0 : Nat} {a1 : MmOut} (hw : Within 1 w) (h : Keeps w s0 s) : Keeps w s0 (State.mmNote s a0 a1) := by
  unfold State.mmNote
  extract_lets +onlyGivenNames x1
  clear_value x1
  refine State.sat_keeps (Within.trans (by decide) hw) ?_
  refine State.sat_keeps (Within.trans (by decide) hw) ?_
  refine State.orReg_keeps (Within.trans (by decide) hw) ?_
  exact h

end Sys2Proof.Machine
end

