-- ==== Sys2Proof/Laws/KeepsC.lean ====
section
/-!
SUPPORT. What each function of Engines, SqOps, SqPort, Issue, TileMove may change: the mask of parts, and both memories stay canonical.
-/
namespace Sys2Proof.Machine

theorem State.writeLocal_keeps {w : Nat} {s0 s : State} {a0 : Nat} {a1 : Nat} {a2 : IssuedCmd} {a3 : OpSlot} {a4 : List (List Byte)} (hw : Within 1703937 w) (h : Keeps w s0 s) : Keeps w s0 (State.writeLocal s a0 a1 a2 a3 a4) := by
  unfold State.writeLocal
  refine Keeps.foldl (fun st1 e1 h1 => ?_) _ _ ?_
  · refine State.scrWrite_keeps (Within.trans (by decide) hw) ?_
    exact h1
  · exact h

theorem State.putSlot_keeps {w : Nat} {s0 s : State} {a0 : Nat} {a1 : Nat} {a2 : Nat} {a3 : Nat} {a4 : IssuedCmd} {a5 : Nat} {a6 : OpSlot} {a7 : List (List Byte)} (hw : Within 1703937 w) (h : Keeps w s0 s) : Keeps w s0 (State.putSlot s a0 a1 a2 a3 a4 a5 a6 a7).2 := by
  unfold State.putSlot
  split
  · dsimp only
    exact h
  · extract_lets +onlyGivenNames x1
    clear_value x1
    split
    · dsimp only
      refine State.writeLocal_keeps (Within.trans (by decide) hw) ?_
      exact h
    · extract_lets +onlyGivenNames x3
      clear_value x3
      extract_lets +onlyGivenNames x4
      clear_value x4
      extract_lets +onlyGivenNames x5
      clear_value x5
      refine Keeps.foldlSnd (fun acc6 e6 h6 => ?_) _ _ ?_
      · split
        · dsimp only
          exact h6
        · extract_lets +onlyGivenNames x7
          clear_value x7
          extract_lets +onlyGivenNames x8
          clear_value x8
          extract_lets +onlyGivenNames x9
          clear_value x9
          split
          · dsimp only
            exact h6
          · dsimp only
            refine State.onT_keeps (Within.trans (by decide) hw) ?_
            exact h6
      · dsimp only
        exact h

theorem State.convTrap_keeps {w : Nat} {s0 s : State} {a0 : Nat} {a1 : Nat} {a2 : IssuedCmd} {a3 : OpSlot} {a4 : Nat} {a5 : ConvOut} {a6 : TrapAt} (hw : Within 4529988082270273 w) (h : Keeps w s0 s) : Keeps w s0 (State.convTrap s a0 a1 a2 a3 a4 a5 a6) := by
  unfold State.convTrap
  extract_lets +onlyGivenNames x1
  clear_value x1
  extract_lets +onlyGivenNames x2
  clear_value x2
  refine State.trap_keeps (Within.trans (by decide) hw) ?_
  refine State.convNote_keeps (Within.trans (by decide) hw) ?_
  exact h

theorem State.markCmd_keeps {w : Nat} {s0 s : State} {a0 : Nat} {a1 : Nat} {a2 : Nat} {a3 : Bool} (hw : Within 1048576 w) (h : Keeps w s0 s) : Keeps w s0 (State.markCmd s a0 a1 a2 a3) := by
  unfold State.markCmd
  refine State.onT_keeps (Within.trans (by decide) hw) ?_
  exact h

theorem State.readLocal_keeps {w : Nat} {s0 s : State} {a0 : Nat} {a1 : Nat} {a2 : IssuedCmd} {a3 : OpSlot} (hw : Within 175702081 w) (h : Keeps w s0 s) : Keeps w s0 (State.readLocal s a0 a1 a2 a3).2 := by
  unfold State.readLocal
  extract_lets +onlyGivenNames x1
  clear_value (e1 : x1 = _)
  refine Keeps.cutSnd (w := w) (s0 := s0) e1 ?_ (fun h1 => ?_) <;> clear e1
  · refine Keeps.foldlSnd (fun acc2 e2 h2 => ?_) _ _ ?_
    · split
      · dsimp only
        exact h2
      · split
        · rename_i y3 y4 y5 y6 y7 y8 y9
          dsimp only
          refine Keeps.snd y9 ?_
          refine State.scrRead_keeps (Within.trans (by decide) hw) ?_
          exact h2
        · rename_i y11 y12 y13 y14 y15 y16
          dsimp only
          refine Keeps.snd y16 ?_
          refine State.scrRead_keeps (Within.trans (by decide) hw) ?_
          exact h2
    · dsimp only
      exact h
  split
  · dsimp only
    exact h1
  · dsimp only
    exact h1

theorem State.tileLoad_keeps {w : Nat} {s0 s : State} {a0 : Nat} {a1 : Nat} {a2 : Nat} {a3 : Nat} {a4 : List (Nat × List Byte)} (hw : Within 17622696001 w) (h : Keeps w s0 s) : Keeps w s0 (State.tileLoad s a0 a1 a2 a3 a4).2 := by
  unfold State.tileLoad
  refine Keeps.foldlSnd (fun acc1 e1 h1 => ?_) _ _ ?_
  · split
    · split
      · dsimp only
        exact h1
      · split
        · dsimp only
          exact h1
        · split
          · dsimp only
            exact h1
          · split
            · dsimp only
              exact h1
            · dsimp only
              exact h1
      · split
        · dsimp only
          exact h1
        · split
          · rename_i y2 y3 y4 y5 y6 y7 y8 y9 y10 y11 y12 y13
            dsimp only
            refine Keeps.snd y13 ?_
            refine State.lineLoad_keeps (Within.trans (by decide) hw) ?_
            exact h1
          · rename_i y15 y16 y17 y18 y19 y20 y21 y22 y23 y24 y25 y26
            dsimp only
            refine Keeps.snd y26 ?_
            refine State.lineLoad_keeps (Within.trans (by decide) hw) ?_
            exact h1
    · exact h1
  · dsimp only
    exact h

theorem State.readSlot_keeps {w : Nat} {s0 s : State} {a0 : Nat} {a1 : Nat} {a2 : Nat} {a3 : IssuedCmd} {a4 : Nat} {a5 : OpSlot} {a6 : List (Nat × List Byte)} (hw : Within 17624268865 w) (h : Keeps w s0 s) : Keeps w s0 (State.readSlot s a0 a1 a2 a3 a4 a5 a6).2 := by
  unfold State.readSlot
  split
  · dsimp only
    exact h
  · extract_lets +onlyGivenNames x1
    clear_value x1
    split
    · split
      · rename_i y2 y3 y4 y5 y6 y7
        dsimp only
        refine Keeps.snd y7 ?_
        refine State.readLocal_keeps (Within.trans (by decide) hw) ?_
        exact h
      · rename_i y9 y10 y11 y12 y13 y14
        dsimp only
        refine Keeps.snd y14 ?_
        refine State.readLocal_keeps (Within.trans (by decide) hw) ?_
        exact h
    · extract_lets +onlyGivenNames x16
      clear_value x16
      extract_lets +onlyGivenNames x17
      clear_value x17
      refine Keeps.foldlSnd (fun acc18 e18 h18 => ?_) _ _ ?_
      · split
        · split
          · rename_i y19 y20 y21 y22 y23 y24 y25 y26 y27
            dsimp only
            refine Keeps.snd y27 ?_
            refine State.tileLoad_keeps (Within.trans (by decide) hw) ?_
            exact h18
          · rename_i y29 y30 y31 y32 y33 y34 y35 y36
            dsimp only
            refine Keeps.snd y36 ?_
            refine State.tileLoad_keeps (Within.trans (by decide) hw) ?_
            exact h18
          · rename_i y38 y39 y40 y41 y42 y43 y44 y45 y46 y47
            dsimp only
            refine Keeps.snd y47 ?_
            refine State.tileLoad_keeps (Within.trans (by decide) hw) ?_
            exact h18
        · exact h18
      · dsimp only
        exact h

theorem State.readSlots_keeps {w : Nat} {s0 s : State} {a0 : Nat} {a1 : Nat → Nat} {a2 : Nat} {a3 : IssuedCmd} {a4 : List (Nat × List Byte)} {a5 : List (Nat × OpSlot)} (hw : Within 17624268865 w) (h : Keeps w s0 s) : Keeps w s0 (State.readSlots s a0 a1 a2 a3 a4 a5).2 := by
  unfold State.readSlots
  refine Keeps.foldlSnd (fun acc1 e1 h1 => ?_) _ _ ?_
  · split
    · split
      · rename_i y2 y3 y4 y5 y6 y7 y8
        dsimp only
        refine Keeps.snd y8 ?_
        refine State.readSlot_keeps (Within.trans (by decide) hw) ?_
        exact h1
      · rename_i y10 y11 y12 y13 y14 y15 y16 y17
        dsimp only
        refine Keeps.snd y17 ?_
        refine State.readSlot_keeps (Within.trans (by decide) hw) ?_
        exact h1
    · exact h1
  · dsimp only
    exact h

theorem State.mvErr_keeps {w : Nat} {s0 s : State} {a0 : Nat} {a1 : Nat} {a2 : Nat} {a3 : Nat} (hw : Within 1 w) (h : Keeps w s0 s) : Keeps w s0 (State.mvErr s a0 a1 a2 a3) := by
  unfold State.mvErr
  refine State.setReg_keeps (Within.trans (by decide) hw) ?_
  refine State.setReg_keeps (Within.trans (by decide) hw) ?_
  exact h

theorem State.hwinFail_keeps {w : Nat} {s0 s : State} {a0 : Nat} (hw : Within 174129217 w) (h : Keeps w s0 s) : Keeps w s0 (State.hwinFail s a0) := by
  unfold State.hwinFail
  refine State.fault_keeps (Within.trans (by decide) hw) ?_
  exact h

theorem State.mvFault_keeps {w : Nat} {s0 s : State} {a0 : Nat} {a1 : Nat} {a2 : IssuedCmd} {a3 : Nat} {a4 : Nat} (hw : Within 4529988082270273 w) (h : Keeps w s0 s) : Keeps w s0 (State.mvFault s a0 a1 a2 a3 a4) := by
  unfold State.mvFault
  refine State.taskFault_keeps (Within.trans (by decide) hw) ?_
  refine State.mvErr_keeps (Within.trans (by decide) hw) ?_
  split
  · refine State.hwinFail_keeps (Within.trans (by decide) hw) ?_
    exact h
  · exact h

theorem State.runMove_keeps {w : Nat} {s0 s : State} {a0 : Nat} {a1 : Nat} {a2 : Nat} {a3 : IssuedCmd} {a4 : List (Nat × List Byte)} (hw : Within 4530005530837057 w) (h : Keeps w s0 s) : Keeps w s0 (State.runMove s a0 a1 a2 a3 a4) := by
  unfold State.runMove
  extract_lets +onlyGivenNames x1
  clear_value x1
  extract_lets +onlyGivenNames x2
  clear_value x2
  extract_lets +onlyGivenNames x3
  clear_value x3
  extract_lets +onlyGivenNames x4
  clear_value x4
  extract_lets +onlyGivenNames x5
  clear_value x5
  extract_lets +onlyGivenNames x6
  clear_value x6
  extract_lets +onlyGivenNames x7
  extract_lets +onlyGivenNames x8
  clear_value x8
  extract_lets +onlyGivenNames x9
  clear_value x9
  split
  · refine State.markCmd_keeps (Within.trans (by decide) hw) ?_
    exact h
  · split
    · refine State.taskFault_keeps (Within.trans (by decide) hw) ?_
      exact h
    · split
      · refine State.taskFault_keeps (Within.trans (by decide) hw) ?_
        exact h
      · split
        · rename_i y13 y14 y15 y16 y17 y18 y19
          refine State.markCmd_keeps (Within.trans (by decide) hw) ?_
          exact h
        · rename_i y21 y22 y23 y24 y25 y26 y27 y28 y29
          refine State.mvFault_keeps (Within.trans (by decide) hw) ?_
          refine Keeps.snd y29 ?_
          refine State.readSlots_keeps (Within.trans (by decide) hw) ?_
          exact h
        · rename_i y32 y33 y34 y35 y36 y37 y38 y39
          refine State.taskFault_keeps (Within.trans (by decide) hw) ?_
          refine Keeps.snd y39 ?_
          refine State.readSlots_keeps (Within.trans (by decide) hw) ?_
          exact h
        · rename_i y42 y43 y44 y45 y46 y47 y48 y49
          refine Keeps.snd y49 ?_
          refine State.readSlots_keeps (Within.trans (by decide) hw) ?_
          exact h
        · rename_i y51 y52 y53 y54 y55 y56 y57 y58
          extract_lets +onlyGivenNames x59
          clear_value x59
          extract_lets +onlyGivenNames x60
          clear_value x60
          extract_lets +onlyGivenNames x61
          split
          · extract_lets +onlyGivenNames x62
            clear_value x62
            dsimp only [x61]
            split
            · rename_i y63 y64 y65 y66 y67
              refine State.mvFault_keeps (Within.trans (by decide) hw) ?_
              refine Keeps.snd y67 ?_
              refine State.putSlot_keeps (Within.trans (by decide) hw) ?_
              refine Keeps.snd y58 ?_
              refine State.readSlots_keeps (Within.trans (by decide) hw) ?_
              exact h
            · rename_i y71 y72 y73 y74
              split
              · rename_i y75 y76 y77 y78
                refine State.mvFault_keeps (Within.trans (by decide) hw) ?_
                refine Keeps.snd y78 ?_
                refine State.putSlot_keeps (Within.trans (by decide) hw) ?_
                refine Keeps.snd y74 ?_
                refine State.putSlot_keeps (Within.trans (by decide) hw) ?_
                refine Keeps.snd y58 ?_
                refine State.readSlots_keeps (Within.trans (by decide) hw) ?_
                exact h
              · rename_i y83 y84 y85
                split
                · rename_i y86 y87 y88 y89
                  refine State.mvFault_keeps (Within.trans (by decide) hw) ?_
                  refine Keeps.snd y89 ?_
                  refine State.putSlot_keeps (Within.trans (by decide) hw) ?_
                  refine Keeps.snd y85 ?_
                  refine State.putSlot_keeps (Within.trans (by decide) hw) ?_
                  refine Keeps.snd y74 ?_
                  refine State.putSlot_keeps (Within.trans (by decide) hw) ?_
                  refine Keeps.snd y58 ?_
                  refine State.readSlots_keeps (Within.trans (by decide) hw) ?_
                  exact h
                · rename_i y95 y96 y97
                  refine State.markCmd_keeps (Within.trans (by decide) hw) ?_
                  refine State.onT_keeps (Within.trans (by decide) hw) ?_
                  split
                  · refine Keeps.snd y97 ?_
                    refine State.putSlot_keeps (Within.trans (by decide) hw) ?_
                    refine Keeps.snd y85 ?_
                    refine State.putSlot_keeps (Within.trans (by decide) hw) ?_
                    refine Keeps.snd y74 ?_
                    refine State.putSlot_keeps (Within.trans (by decide) hw) ?_
                    refine Keeps.snd y58 ?_
                    refine State.readSlots_keeps (Within.trans (by decide) hw) ?_
                    exact h
                  · split
                    · refine State.countEv_keeps (Within.trans (by decide) hw) ?_
                      refine State.bump_keeps (Within.trans (by decide) hw) ?_
                      refine Keeps.snd y97 ?_
                      refine State.putSlot_keeps (Within.trans (by decide) hw) ?_
                      refine Keeps.snd y85 ?_
                      refine State.putSlot_keeps (Within.trans (by decide) hw) ?_
                      refine Keeps.snd y74 ?_
                      refine State.putSlot_keeps (Within.trans (by decide) hw) ?_
                      refine Keeps.snd y58 ?_
                      refine State.readSlots_keeps (Within.trans (by decide) hw) ?_
                      exact h
                    · refine State.countEv_keeps (Within.trans (by decide) hw) ?_
                      refine State.bump_keeps (Within.trans (by decide) hw) ?_
                      refine Keeps.snd y97 ?_
                      refine State.putSlot_keeps (Within.trans (by decide) hw) ?_
                      refine Keeps.snd y85 ?_
                      refine State.putSlot_keeps (Within.trans (by decide) hw) ?_
                      refine Keeps.snd y74 ?_
                      refine State.putSlot_keeps (Within.trans (by decide) hw) ?_
                      refine Keeps.snd y58 ?_
                      refine State.readSlots_keeps (Within.trans (by decide) hw) ?_
                      exact h
          · extract_lets +onlyGivenNames x116
            clear_value x116
            extract_lets +onlyGivenNames x117
            clear_value x117
            extract_lets +onlyGivenNames x118
            clear_value x118
            split
            · refine State.convTrap_keeps (Within.trans (by decide) hw) ?_
              split
              · refine State.countEv_keeps (Within.trans (by decide) hw) ?_
                refine State.bump_keeps (Within.trans (by decide) hw) ?_
                refine Keeps.snd y58 ?_
                refine State.readSlots_keeps (Within.trans (by decide) hw) ?_
                exact h
              · refine Keeps.snd y58 ?_
                refine State.readSlots_keeps (Within.trans (by decide) hw) ?_
                exact h
            · extract_lets +onlyGivenNames x124
              clear_value (e124 : x124 = _)
              refine Keeps.cut (w := w) (s0 := s0) e124 ?_ (fun h124 => ?_) <;> clear e124
              · refine State.convNote_keeps (Within.trans (by decide) hw) ?_
                refine Keeps.snd y58 ?_
                refine State.readSlots_keeps (Within.trans (by decide) hw) ?_
                exact h
              extract_lets +onlyGivenNames x127
              clear_value (e127 : x127 = _)
              refine Keeps.cut (w := w) (s0 := s0) e127 ?_ (fun h127 => ?_) <;> clear e127
              · split
                · refine State.countEv_keeps (Within.trans (by decide) hw) ?_
                  refine State.bump_keeps (Within.trans (by decide) hw) ?_
                  exact h124
                · exact h124
              dsimp only [x61]
              split
              · rename_i y130 y131 y132 y133 y134 y135 y136
                refine State.mvFault_keeps (Within.trans (by decide) hw) ?_
                refine Keeps.snd y136 ?_
                refine State.putSlot_keeps (Within.trans (by decide) hw) ?_
                exact h127
              · rename_i y139 y140 y141 y142 y143 y144
                split
                · rename_i y145 y146 y147 y148
                  refine State.mvFault_keeps (Within.trans (by decide) hw) ?_
                  refine Keeps.snd y148 ?_
                  refine State.putSlot_keeps (Within.trans (by decide) hw) ?_
                  refine Keeps.snd y144 ?_
                  refine State.putSlot_keeps (Within.trans (by decide) hw) ?_
                  exact h127
                · rename_i y152 y153 y154
                  split
                  · rename_i y155 y156 y157 y158
                    refine State.mvFault_keeps (Within.trans (by decide) hw) ?_
                    refine Keeps.snd y158 ?_
                    refine State.putSlot_keeps (Within.trans (by decide) hw) ?_
                    refine Keeps.snd y154 ?_
                    refine State.putSlot_keeps (Within.trans (by decide) hw) ?_
                    refine Keeps.snd y144 ?_
                    refine State.putSlot_keeps (Within.trans (by decide) hw) ?_
                    exact h127
                  · rename_i y163 y164 y165
                    refine State.markCmd_keeps (Within.trans (by decide) hw) ?_
                    refine State.onT_keeps (Within.trans (by decide) hw) ?_
                    split
                    · refine Keeps.snd y165 ?_
                      refine State.putSlot_keeps (Within.trans (by decide) hw) ?_
                      refine Keeps.snd y154 ?_
                      refine State.putSlot_keeps (Within.trans (by decide) hw) ?_
                      refine Keeps.snd y144 ?_
                      refine State.putSlot_keeps (Within.trans (by decide) hw) ?_
                      exact h127
                    · split
                      · refine State.countEv_keeps (Within.trans (by decide) hw) ?_
                        refine State.bump_keeps (Within.trans (by decide) hw) ?_
                        refine Keeps.snd y165 ?_
                        refine State.putSlot_keeps (Within.trans (by decide) hw) ?_
                        refine Keeps.snd y154 ?_
                        refine State.putSlot_keeps (Within.trans (by decide) hw) ?_
                        refine Keeps.snd y144 ?_
                        refine State.putSlot_keeps (Within.trans (by decide) hw) ?_
                        exact h127
                      · refine State.countEv_keeps (Within.trans (by decide) hw) ?_
                        refine State.bump_keeps (Within.trans (by decide) hw) ?_
                        refine Keeps.snd y165 ?_
                        refine State.putSlot_keeps (Within.trans (by decide) hw) ?_
                        refine Keeps.snd y154 ?_
                        refine State.putSlot_keeps (Within.trans (by decide) hw) ?_
                        refine Keeps.snd y144 ?_
                        refine State.putSlot_keeps (Within.trans (by decide) hw) ?_
                        exact h127

theorem State.runVec_keeps {w : Nat} {s0 s : State} {a0 : Nat} {a1 : IssuedCmd} (hw : Within 4530005530837057 w) (h : Keeps w s0 s) : Keeps w s0 (State.runVec s a0 a1) := by
  unfold State.runVec
  extract_lets +onlyGivenNames x1
  clear_value x1
  extract_lets +onlyGivenNames x2
  clear_value x2
  extract_lets +onlyGivenNames x3
  clear_value x3
  extract_lets +onlyGivenNames x4
  clear_value x4
  extract_lets +onlyGivenNames x5
  clear_value x5
  extract_lets +onlyGivenNames x6
  extract_lets +onlyGivenNames x7
  clear_value x7
  extract_lets +onlyGivenNames x8
  split
  · refine State.markCmd_keeps (Within.trans (by decide) hw) ?_
    exact h
  · split
    · refine State.taskFault_keeps (Within.trans (by decide) hw) ?_
      exact h
    · split
      · refine State.taskFault_keeps (Within.trans (by decide) hw) ?_
        exact h
      · split
        · rename_i y12 y13 y14 y15 y16 y17 y18 y19
          refine State.taskFault_keeps (Within.trans (by decide) hw) ?_
          refine Keeps.snd y19 ?_
          refine State.readSlots_keeps (Within.trans (by decide) hw) ?_
          exact h
        · rename_i y22 y23 y24 y25 y26 y27 y28 y29 y30
          refine Keeps.snd y30 ?_
          refine State.readSlots_keeps (Within.trans (by decide) hw) ?_
          exact h
        · rename_i y32 y33 y34 y35 y36 y37 y38 y39
          extract_lets +onlyGivenNames x40
          extract_lets +onlyGivenNames x41
          clear_value x41
          extract_lets +onlyGivenNames x42
          clear_value x42
          extract_lets +onlyGivenNames x43
          clear_value x43
          extract_lets +onlyGivenNames x44
          clear_value x44
          extract_lets +onlyGivenNames x45
          clear_value x45
          extract_lets +onlyGivenNames x46
          clear_value x46
          split
          · rename_i y47 y48 y49 y50
            extract_lets +onlyGivenNames x51
            clear_value x51
            extract_lets +onlyGivenNames x52
            clear_value x52
            extract_lets +onlyGivenNames x53
            clear_value x53
            extract_lets +onlyGivenNames x54
            clear_value x54
            extract_lets +onlyGivenNames x55
            clear_value x55
            extract_lets +onlyGivenNames x56
            clear_value (e56 : x56 = _)
            refine Keeps.cut (w := w) (s0 := s0) e56 ?_ (fun h56 => ?_) <;> clear e56
            · refine State.countEv_keeps (Within.trans (by decide) hw) ?_
              refine State.bump_keeps (Within.trans (by decide) hw) ?_
              refine State.convNote_keeps (Within.trans (by decide) hw) ?_
              refine State.vuNote_keeps (Within.trans (by decide) hw) ?_
              refine Keeps.snd y50 ?_
              split
              · refine drawFree_keeps (Within.trans (by decide) hw) ?_
                refine Keeps.snd y39 ?_
                refine State.readSlots_keeps (Within.trans (by decide) hw) ?_
                exact h
              · dsimp only
                refine Keeps.snd y39 ?_
                refine State.readSlots_keeps (Within.trans (by decide) hw) ?_
                exact h
            extract_lets +onlyGivenNames x64
            clear_value (e64 : x64 = _)
            refine Keeps.cut (w := w) (s0 := s0) e64 ?_ (fun h64 => ?_) <;> clear e64
            · refine State.bump_keeps (Within.trans (by decide) hw) ?_
              exact h56
            split
            · extract_lets +onlyGivenNames x66
              clear_value x66
              extract_lets +onlyGivenNames x67
              clear_value x67
              extract_lets +onlyGivenNames x68
              clear_value x68
              extract_lets +onlyGivenNames x69
              clear_value x69
              extract_lets +onlyGivenNames x70
              clear_value x70
              refine State.trap_keeps (Within.trans (by decide) hw) ?_
              exact h64
            · extract_lets +onlyGivenNames x72
              clear_value (e72 : x72 = _)
              refine Keeps.cut (w := w) (s0 := s0) e72 ?_ (fun h72 => ?_) <;> clear e72
              · refine State.writeLocal_keeps (Within.trans (by decide) hw) ?_
                exact h64
              extract_lets +onlyGivenNames x74
              clear_value (e74 : x74 = _)
              refine Keeps.cut (w := w) (s0 := s0) e74 ?_ (fun h74 => ?_) <;> clear e74
              · split
                · refine State.writeLocal_keeps (Within.trans (by decide) hw) ?_
                  exact h72
                · exact h72
              refine State.markCmd_keeps (Within.trans (by decide) hw) ?_
              split
              · refine State.writeLocal_keeps (Within.trans (by decide) hw) ?_
                exact h74
              · exact h74

theorem State.runCnt_keeps {w : Nat} {s0 s : State} {a0 : Nat} {a1 : IssuedCmd} (hw : Within 4530005530837057 w) (h : Keeps w s0 s) : Keeps w s0 (State.runCnt s a0 a1) := by
  unfold State.runCnt
  extract_lets +onlyGivenNames x1
  clear_value x1
  extract_lets +onlyGivenNames x2
  clear_value x2
  extract_lets +onlyGivenNames x3
  clear_value x3
  extract_lets +onlyGivenNames x4
  clear_value x4
  extract_lets +onlyGivenNames x5
  extract_lets +onlyGivenNames x6
  clear_value x6
  extract_lets +onlyGivenNames x7
  split
  · dsimp only [x7]
    refine State.markCmd_keeps (Within.trans (by decide) hw) ?_
    refine State.onT_keeps (Within.trans (by decide) hw) ?_
    exact h
  · split
    · refine State.taskFault_keeps (Within.trans (by decide) hw) ?_
      exact h
    · split
      · rename_i y11 y12 y13 y14 y15 y16 y17
        refine State.taskFault_keeps (Within.trans (by decide) hw) ?_
        refine Keeps.snd y17 ?_
        refine State.readSlots_keeps (Within.trans (by decide) hw) ?_
        exact h
      · rename_i y20 y21 y22 y23 y24 y25 y26 y27
        refine Keeps.snd y27 ?_
        refine State.readSlots_keeps (Within.trans (by decide) hw) ?_
        exact h
      · rename_i y29 y30 y31 y32 y33 y34 y35
        extract_lets +onlyGivenNames x36
        clear_value x36
        extract_lets +onlyGivenNames x37
        clear_value x37
        split
        · extract_lets +onlyGivenNames x38
          clear_value x38
          extract_lets +onlyGivenNames x39
          clear_value x39
          extract_lets +onlyGivenNames x40
          clear_value x40
          dsimp only [x7]
          refine State.markCmd_keeps (Within.trans (by decide) hw) ?_
          refine State.onT_keeps (Within.trans (by decide) hw) ?_
          refine State.writeLocal_keeps (Within.trans (by decide) hw) ?_
          refine Keeps.snd y35 ?_
          refine State.readSlots_keeps (Within.trans (by decide) hw) ?_
          exact h
        · extract_lets +onlyGivenNames x45
          clear_value x45
          extract_lets +onlyGivenNames x46
          clear_value x46
          extract_lets +onlyGivenNames x47
          clear_value (e47 : x47 = _)
          refine Keeps.cut (w := w) (s0 := s0) e47 ?_ (fun h47 => ?_) <;> clear e47
          · split
            · refine State.writeLocal_keeps (Within.trans (by decide) hw) ?_
              refine Keeps.snd y35 ?_
              refine State.readSlots_keeps (Within.trans (by decide) hw) ?_
              exact h
            · refine Keeps.snd y35 ?_
              refine State.readSlots_keeps (Within.trans (by decide) hw) ?_
              exact h
          dsimp only [x7]
          refine State.markCmd_keeps (Within.trans (by decide) hw) ?_
          refine State.onT_keeps (Within.trans (by decide) hw) ?_
          exact h47

theorem State.runMm_keeps {w : Nat} {s0 s : State} {a0 : Nat} {a1 : IssuedCmd} (hw : Within 4530005530837057 w) (h : Keeps w s0 s) : Keeps w s0 (State.runMm s a0 a1) := by
  unfold State.runMm
  extract_lets +onlyGivenNames x1
  clear_value x1
  extract_lets +onlyGivenNames x2
  clear_value x2
  extract_lets +onlyGivenNames x3
  clear_value x3
  extract_lets +onlyGivenNames x4
  extract_lets +onlyGivenNames x5
  split
  · refine State.markCmd_keeps (Within.trans (by decide) hw) ?_
    exact h
  · split
    · refine State.taskFault_keeps (Within.trans (by decide) hw) ?_
      exact h
    · extract_lets +onlyGivenNames x8
      clear_value x8
      split
      · rename_i y9 y10 y11 y12 y13 y14 y15
        refine State.taskFault_keeps (Within.trans (by decide) hw) ?_
        refine Keeps.snd y15 ?_
        refine State.readSlots_keeps (Within.trans (by decide) hw) ?_
        exact h
      · rename_i y18 y19 y20 y21 y22 y23 y24 y25
        refine Keeps.snd y25 ?_
        refine State.readSlots_keeps (Within.trans (by decide) hw) ?_
        exact h
      · rename_i y27 y28 y29 y30 y31 y32 y33
        extract_lets +onlyGivenNames x34
        clear_value x34
        extract_lets +onlyGivenNames x35
        clear_value x35
        extract_lets +onlyGivenNames x36
        clear_value x36
        extract_lets +onlyGivenNames x37
        clear_value x37
        extract_lets +onlyGivenNames x38
        clear_value x38
        extract_lets +onlyGivenNames x39
        clear_value x39
        extract_lets +onlyGivenNames x40
        clear_value x40
        extract_lets +onlyGivenNames x41
        clear_value (e41 : x41 = _)
        refine Keeps.cut (w := w) (s0 := s0) e41 ?_ (fun h41 => ?_) <;> clear e41
        · refine State.countEv_keeps (Within.trans (by decide) hw) ?_
          refine State.bump_keeps (Within.trans (by decide) hw) ?_
          refine State.bump_keeps (Within.trans (by decide) hw) ?_
          refine State.mmNote_keeps (Within.trans (by decide) hw) ?_
          refine Keeps.snd y33 ?_
          refine State.readSlots_keeps (Within.trans (by decide) hw) ?_
          exact h
        split
        · extract_lets +onlyGivenNames x47
          clear_value x47
          refine State.trap_keeps (Within.trans (by decide) hw) ?_
          exact h41
        · refine State.markCmd_keeps (Within.trans (by decide) hw) ?_
          refine State.writeLocal_keeps (Within.trans (by decide) hw) ?_
          exact h41

theorem State.flushQ_keeps {w : Nat} {s0 s : State} {a0 : Nat} (hw : Within 137438953472 w) (h : Keeps w s0 s) : Keeps w s0 (State.flushQ s a0) := by
  unfold State.flushQ
  refine State.setSq_keeps (Within.trans (by decide) hw) ?_
  exact h

theorem State.poolLow_keeps {w : Nat} {s0 s : State} {a0 : Nat} {a1 : Nat} (hw : Within 1 w) (h : Keeps w s0 s) : Keeps w s0 (State.poolLow s a0 a1) := by
  unfold State.poolLow
  extract_lets +onlyGivenNames x1
  clear_value x1
  split
  · refine State.setF_keeps (Within.trans (by decide) hw) ?_
    exact h
  · exact h

theorem State.checkPools_keeps {w : Nat} {s0 s : State} {a0 : Nat} (hw : Within 274877906945 w) (h : Keeps w s0 s) : Keeps w s0 (State.checkPools s a0) := by
  unfold State.checkPools
  refine Keeps.foldlFst (fun acc1 e1 h1 => ?_) _ _ ?_
  · split
    · extract_lets +onlyGivenNames x2
      clear_value x2
      extract_lets +onlyGivenNames x3
      clear_value x3
      extract_lets +onlyGivenNames x4
      clear_value x4
      extract_lets +onlyGivenNames x5
      clear_value (e5 : x5 = _)
      refine Keeps.cut (w := w) (s0 := s0) e5 ?_ (fun h5 => ?_) <;> clear e5
      · refine Keeps.set_pools (Within.trans (by decide) hw) ?_
        exact h1
      split
      · dsimp only
        exact h5
      · split
        · dsimp only
          refine State.poolLow_keeps (Within.trans (by decide) hw) ?_
          refine Keeps.set_pools (Within.trans (by decide) hw) ?_
          exact h1
        · dsimp only
          refine State.err_keeps (Within.trans (by decide) hw) ?_
          exact h5
  · dsimp only
    exact h

theorem State.grantSeg_keeps {w : Nat} {s0 s : State} {a0 : Nat} (hw : Within 137438953473 w) (h : Keeps w s0 s) : Keeps w s0 (State.grantSeg s a0) := by
  unfold State.grantSeg
  extract_lets +onlyGivenNames x1
  clear_value x1
  split
  · extract_lets +onlyGivenNames x2
    clear_value (e2 : x2 = _)
    refine Keeps.cut (w := w) (s0 := s0) e2 ?_ (fun h2 => ?_) <;> clear e2
    · refine State.bump_keeps (Within.trans (by decide) hw) ?_
      refine State.setSq_keeps (Within.trans (by decide) hw) ?_
      exact h
    split
    · refine State.poolLow_keeps (Within.trans (by decide) hw) ?_
      exact h2
    · exact h2
  · exact h

theorem State.sqSend_keeps {w : Nat} {s0 s : State} {a0 : Nat} {a1 : IssuedCmd} {a2 : List SqItem} (hw : Within 1048576 w) (h : Keeps w s0 s) : Keeps w s0 (State.sqSend s a0 a1 a2) := by
  unfold State.sqSend
  refine State.markCmd_keeps (Within.trans (by decide) hw) ?_
  refine State.onT_keeps (Within.trans (by decide) hw) ?_
  exact h

theorem State.sqFault_keeps {w : Nat} {s0 s : State} {a0 : Nat} {a1 : IssuedCmd} {a2 : Nat} {a3 : Nat} (hw : Within 4529988082270273 w) (h : Keeps w s0 s) : Keeps w s0 (State.sqFault s a0 a1 a2 a3) := by
  unfold State.sqFault
  refine State.err_keeps (Within.trans (by decide) hw) ?_
  refine State.taskFault_keeps (Within.trans (by decide) hw) ?_
  exact h

theorem State.onSq_keeps {w : Nat} {s0 s : State} {a0 : Nat} {a1 : SqQueue} (hw : Within 137438953473 w) (h : Keeps w s0 s) : Keeps w s0 (State.onSq s a0 a1) := by
  unfold State.onSq
  extract_lets +onlyGivenNames x1
  clear_value x1
  extract_lets +onlyGivenNames x2
  clear_value (e2 : x2 = _)
  refine Keeps.cut (w := w) (s0 := s0) e2 ?_ (fun h2 => ?_) <;> clear e2
  · refine State.setSq_keeps (Within.trans (by decide) hw) ?_
    exact h
  split
  · refine State.countEv_keeps (Within.trans (by decide) hw) ?_
    exact h2
  · exact h2

theorem State.sqStart_keeps {w : Nat} {s0 s : State} {a0 : Nat} {a1 : IssuedCmd} (hw : Within 4530125521223745 w) (h : Keeps w s0 s) : Keeps w s0 (State.sqStart s a0 a1) := by
  unfold State.sqStart
  extract_lets +onlyGivenNames x1
  clear_value x1
  split
  · refine State.taskFault_keeps (Within.trans (by decide) hw) ?_
    exact h
  · extract_lets +onlyGivenNames x3
    clear_value x3
    extract_lets +onlyGivenNames x4
    clear_value x4
    split
    · split
      · refine State.sqFault_keeps (Within.trans (by decide) hw) ?_
        exact h
      · extract_lets +onlyGivenNames x6
        clear_value (e6 : x6 = _)
        refine Keeps.cut (w := w) (s0 := s0) e6 ?_ (fun h6 => ?_) <;> clear e6
        · refine State.setSq_keeps (Within.trans (by decide) hw) ?_
          exact h
        split
        · exact h6
        · extract_lets +onlyGivenNames x8
          clear_value x8
          split
          · refine State.sqFault_keeps (Within.trans (by decide) hw) ?_
            exact h6
          · split
            · exact h6
            · extract_lets +onlyGivenNames x10
              clear_value x10
              extract_lets +onlyGivenNames x11
              clear_value x11
              extract_lets +onlyGivenNames x12
              clear_value x12
              split
              · refine State.taskFault_keeps (Within.trans (by decide) hw) ?_
                exact h6
              · extract_lets +onlyGivenNames x14
                clear_value (e14 : x14 = _)
                refine Keeps.cut (w := w) (s0 := s0) e14 ?_ (fun h14 => ?_) <;> clear e14
                · refine State.writeLocal_keeps (Within.trans (by decide) hw) ?_
                  exact h6
                extract_lets +onlyGivenNames x16
                clear_value (e16 : x16 = _)
                refine Keeps.cut (w := w) (s0 := s0) e16 ?_ (fun h16 => ?_) <;> clear e16
                · refine State.onSq_keeps (Within.trans (by decide) hw) ?_
                  exact h14
                extract_lets +onlyGivenNames x18
                clear_value (e18 : x18 = _)
                refine Keeps.cut (w := w) (s0 := s0) e18 ?_ (fun h18 => ?_) <;> clear e18
                · refine State.countEv_keeps (Within.trans (by decide) hw) ?_
                  refine State.bump_keeps (Within.trans (by decide) hw) ?_
                  exact h16
                extract_lets +onlyGivenNames x21
                clear_value (e21 : x21 = _)
                refine Keeps.cut (w := w) (s0 := s0) e21 ?_ (fun h21 => ?_) <;> clear e21
                · split
                  · refine State.sat_keeps (Within.trans (by decide) hw) ?_
                    exact h18
                  · exact h18
                refine State.markCmd_keeps (Within.trans (by decide) hw) ?_
                refine State.onT_keeps (Within.trans (by decide) hw) ?_
                exact h21
    · split
      · refine State.sqFault_keeps (Within.trans (by decide) hw) ?_
        exact h
      · extract_lets +onlyGivenNames x26
        clear_value x26
        extract_lets +onlyGivenNames x27
        clear_value x27
        extract_lets +onlyGivenNames x28
        clear_value (e28 : x28 = _)
        refine Keeps.cut (w := w) (s0 := s0) e28 ?_ (fun h28 => ?_) <;> clear e28
        · refine State.setSq_keeps (Within.trans (by decide) hw) ?_
          exact h
        split
        · split
          · refine State.sqFault_keeps (Within.trans (by decide) hw) ?_
            exact h28
          · refine State.sqSend_keeps (Within.trans (by decide) hw) ?_
            exact h28
        · split
          · refine State.sqFault_keeps (Within.trans (by decide) hw) ?_
            exact h28
          · split
            · refine State.sqSend_keeps (Within.trans (by decide) hw) ?_
              exact h28
            · split
              · refine State.sqFault_keeps (Within.trans (by decide) hw) ?_
                exact h28
              · split
                · refine State.taskFault_keeps (Within.trans (by decide) hw) ?_
                  exact h28
                · split
                  · rename_i y36 y37 y38 y39 y40 y41 y42 y43 y44 y45 y46 y47 y48 y49 y50
                    refine State.taskFault_keeps (Within.trans (by decide) hw) ?_
                    refine Keeps.snd y50 ?_
                    refine State.readLocal_keeps (Within.trans (by decide) hw) ?_
                    exact h28
                  · rename_i y53 y54 y55 y56 y57 y58 y59 y60 y61 y62 y63 y64 y65 y66 y67
                    extract_lets +onlyGivenNames x68
                    clear_value x68
                    refine State.sqSend_keeps (Within.trans (by decide) hw) ?_
                    refine Keeps.snd y67 ?_
                    refine State.readLocal_keeps (Within.trans (by decide) hw) ?_
                    exact h28

theorem State.sqArrive_keeps {w : Nat} {s0 s : State} {a0 : Nat} (hw : Within 137440002049 w) (h : Keeps w s0 s) : Keeps w s0 (State.sqArrive s a0) := by
  unfold State.sqArrive
  split
  · exact h
  · extract_lets +onlyGivenNames x1
    clear_value x1
    extract_lets +onlyGivenNames x2
    clear_value x2
    extract_lets +onlyGivenNames x3
    split
    · dsimp only [x3]
      split
      · refine State.onT_keeps (Within.trans (by decide) hw) ?_
        refine State.onT_keeps (Within.trans (by decide) hw) ?_
        refine State.sat_keeps (Within.trans (by decide) hw) ?_
        exact h
      · refine State.onT_keeps (Within.trans (by decide) hw) ?_
        refine State.sat_keeps (Within.trans (by decide) hw) ?_
        exact h
    · split
      · extract_lets +onlyGivenNames x9
        clear_value x9
        extract_lets +onlyGivenNames x10
        clear_value x10
        extract_lets +onlyGivenNames x11
        dsimp only [x3]
        split
        · refine State.onT_keeps (Within.trans (by decide) hw) ?_
          refine State.onT_keeps (Within.trans (by decide) hw) ?_
          refine State.bump_keeps (Within.trans (by decide) hw) ?_
          refine State.setSq_keeps (Within.trans (by decide) hw) ?_
          exact h
        · refine State.onT_keeps (Within.trans (by decide) hw) ?_
          refine State.bump_keeps (Within.trans (by decide) hw) ?_
          refine State.setSq_keeps (Within.trans (by decide) hw) ?_
          exact h
      · split
        · exact h
        · extract_lets +onlyGivenNames x19
          clear_value x19
          extract_lets +onlyGivenNames x20
          clear_value x20
          dsimp only [x3]
          split
          · refine State.onT_keeps (Within.trans (by decide) hw) ?_
            refine State.onT_keeps (Within.trans (by decide) hw) ?_
            refine State.countEv_keeps (Within.trans (by decide) hw) ?_
            refine State.onSq_keeps (Within.trans (by decide) hw) ?_
            exact h
          · refine State.onT_keeps (Within.trans (by decide) hw) ?_
            refine State.countEv_keeps (Within.trans (by decide) hw) ?_
            refine State.onSq_keeps (Within.trans (by decide) hw) ?_
            exact h

theorem State.brkHit_keeps {w : Nat} {s0 s : State} {a0 : Nat} {a1 : Nat} {a2 : Nat} (hw : Within 134217793 w) (h : Keeps w s0 s) : Keeps w s0 (State.brkHit s a0 a1 a2) := by
  unfold State.brkHit
  extract_lets +onlyGivenNames x1
  clear_value x1
  extract_lets +onlyGivenNames x2
  clear_value x2
  extract_lets +onlyGivenNames x3
  clear_value (e3 : x3 = _)
  refine Keeps.cut (w := w) (s0 := s0) e3 ?_ (fun h3 => ?_) <;> clear e3
  · refine State.setF_keeps (Within.trans (by decide) hw) ?_
    refine State.sat_keeps (Within.trans (by decide) hw) ?_
    refine State.traceRec_keeps (Within.trans (by decide) hw) ?_
    exact h
  extract_lets +onlyGivenNames x7
  clear_value (e7 : x7 = _)
  refine Keeps.cut (w := w) (s0 := s0) e7 ?_ (fun h7 => ?_) <;> clear e7
  · refine State.setF_keeps (Within.trans (by decide) hw) ?_
    exact h3
  split
  · exact h7
  · split
    · refine State.setF_keeps (Within.trans (by decide) hw) ?_
      exact h7
    · refine State.err_keeps (Within.trans (by decide) hw) ?_
      exact h7

theorem State.brkCheck_keeps {w : Nat} {s0 s : State} {a0 : Nat} {a1 : Nat} {a2 : Nat} {a3 : Nat} (hw : Within 134217793 w) (h : Keeps w s0 s) : Keeps w s0 (State.brkCheck s a0 a1 a2 a3) := by
  unfold State.brkCheck
  refine Keeps.foldl (fun st1 e1 h1 => ?_) _ _ ?_
  · extract_lets +onlyGivenNames x2
    clear_value x2
    split
    · split
      · refine State.brkHit_keeps (Within.trans (by decide) hw) ?_
        exact h1
      · exact h1
    · split
      · refine State.brkHit_keeps (Within.trans (by decide) hw) ?_
        exact h1
      · exact h1
  · exact h

theorem State.startFront_keeps {w : Nat} {s0 s : State} {a0 : Nat} {a1 : Nat} (hw : Within 4530142969790529 w) (h : Keeps w s0 s) : Keeps w s0 (State.startFront s a0 a1) := by
  unfold State.startFront
  extract_lets +onlyGivenNames x1
  clear_value x1
  split
  · exact h
  · split
    · exact h
    · extract_lets +onlyGivenNames x2
      clear_value x2
      split
      · exact h
      · split
        · refine State.runMove_keeps (Within.trans (by decide) hw) ?_
          exact h
        · refine State.runMove_keeps (Within.trans (by decide) hw) ?_
          exact h
        · refine State.runMm_keeps (Within.trans (by decide) hw) ?_
          exact h
        · split
          · refine State.runMove_keeps (Within.trans (by decide) hw) ?_
            exact h
          · refine State.runVec_keeps (Within.trans (by decide) hw) ?_
            exact h
        · refine State.runCnt_keeps (Within.trans (by decide) hw) ?_
          exact h
        · split
          · exact h
          · refine State.sqStart_keeps (Within.trans (by decide) hw) ?_
            exact h
        · exact h

theorem State.endCheck_keeps {w : Nat} {s0 s : State} {a0 : Nat} (hw : Within 4529988082270273 w) (h : Keeps w s0 s) : Keeps w s0 (State.endCheck s a0) := by
  unfold State.endCheck
  extract_lets +onlyGivenNames x1
  clear_value x1
  split
  · refine State.taskFault_keeps (Within.trans (by decide) hw) ?_
    exact h
  · exact h

theorem State.stepDone_keeps {w : Nat} {s0 s : State} {a0 : Nat} {a1 : Nat} {a2 : Nat} (hw : Within 135266369 w) (h : Keeps w s0 s) : Keeps w s0 (State.stepDone s a0 a1 a2) := by
  unfold State.stepDone
  extract_lets +onlyGivenNames x1
  clear_value x1
  split
  · exact h
  · extract_lets +onlyGivenNames x2
    clear_value (e2 : x2 = _)
    refine Keeps.cut (w := w) (s0 := s0) e2 ?_ (fun h2 => ?_) <;> clear e2
    · refine State.bump_keeps (Within.trans (by decide) hw) ?_
      refine State.setTile_keeps (Within.trans (by decide) hw) ?_
      exact h
    refine State.traceRec_keeps (Within.trans (by decide) hw) ?_
    exact h2

theorem State.passed_keeps {w : Nat} {s0 s : State} {a0 : Nat} {a1 : Nat} {a2 : Nat} {a3 : Nat} {a4 : Nat} (hw : Within 4529988082270273 w) (h : Keeps w s0 s) : Keeps w s0 (State.passed s a0 a1 a2 a3 a4) := by
  unfold State.passed
  refine State.endCheck_keeps (Within.trans (by decide) hw) ?_
  refine State.stepDone_keeps (Within.trans (by decide) hw) ?_
  refine State.countEv_keeps (Within.trans (by decide) hw) ?_
  refine State.onT_keeps (Within.trans (by decide) hw) ?_
  exact h

theorem State.issueCmd_keeps {w : Nat} {s0 s : State} {a0 : Nat} {a1 : Nat} {a2 : Head} {a3 : Bool} {a4 : List SbEntry} {a5 : Bool} (hw : Within 4529988082270273 w) (h : Keeps w s0 s) : Keeps w s0 (State.issueCmd s a0 a1 a2 a3 a4 a5) := by
  unfold State.issueCmd
  extract_lets +onlyGivenNames x1
  clear_value x1
  extract_lets +onlyGivenNames x2
  clear_value x2
  extract_lets +onlyGivenNames x3
  clear_value x3
  extract_lets +onlyGivenNames x4
  clear_value x4
  refine State.passed_keeps (Within.trans (by decide) hw) ?_
  refine State.setTile_keeps (Within.trans (by decide) hw) ?_
  exact h

theorem State.issueNow_keeps {w : Nat} {s0 s : State} {a0 : Nat} {a1 : Head} {a2 : Tile → Tile} (hw : Within 4529988082270273 w) (h : Keeps w s0 s) : Keeps w s0 (State.issueNow s a0 a1 a2) := by
  unfold State.issueNow
  refine State.passed_keeps (Within.trans (by decide) hw) ?_
  refine State.onT_keeps (Within.trans (by decide) hw) ?_
  exact h

theorem State.stall_keeps {w : Nat} {s0 s : State} {a0 : Nat} {a1 : Nat} (hw : Within 1048576 w) (h : Keeps w s0 s) : Keeps w s0 (State.stall s a0 a1) := by
  unfold State.stall
  refine State.onT_keeps (Within.trans (by decide) hw) ?_
  exact h

theorem State.headFor_keeps {w : Nat} {s0 s : State} {t c o : Nat} (hw : Within 4529988082270273 w) (h : Keeps w s0 s) : Keeps w s0 (headState (s.headFor t c o)) := by
  unfold State.headFor
  extract_lets +onlyGivenNames x1
  clear_value x1
  split
  · dsimp only [headState]
    exact h
  · split
    · dsimp only [headState]
      refine State.endCheck_keeps (Within.trans (by decide) hw) ?_
      exact h
    · extract_lets +onlyGivenNames x3
      clear_value x3
      split
      · dsimp only [headState]
        refine State.stall_keeps (Within.trans (by decide) hw) ?_
        exact h
      · split
        · dsimp only [headState]
          exact h
        · extract_lets +onlyGivenNames x5
          clear_value (e5 : x5 = _)
          refine Keeps.cut (w := w) (s0 := s0) e5 ?_ (fun h5 => ?_) <;> clear e5
          · split
            · exact h
            · refine State.onT_keeps (Within.trans (by decide) hw) ?_
              refine State.brkCheck_keeps (Within.trans (by decide) hw) ?_
              exact h
          split
          · dsimp only [headState]
            refine State.stall_keeps (Within.trans (by decide) hw) ?_
            exact h5
          · extract_lets +onlyGivenNames x9
            clear_value x9
            extract_lets +onlyGivenNames x10
            clear_value x10
            split
            · dsimp only [headState]
              refine State.taskFault_keeps (Within.trans (by decide) hw) ?_
              exact h5
            · split
              · dsimp only [headState]
                refine State.passed_keeps (Within.trans (by decide) hw) ?_
                exact h5
              · extract_lets +onlyGivenNames x13
                clear_value x13
                extract_lets +onlyGivenNames x14
                clear_value x14
                split
                · dsimp only [headState]
                  refine State.stall_keeps (Within.trans (by decide) hw) ?_
                  exact h5
                · extract_lets +onlyGivenNames x16
                  clear_value (e16 : x16 = _)
                  refine Keeps.cut (w := w) (s0 := s0) e16 ?_ (fun h16 => ?_) <;> clear e16
                  · split
                    · refine State.onT_keeps (Within.trans (by decide) hw) ?_
                      exact h5
                    · exact h5
                  extract_lets +onlyGivenNames x18
                  clear_value x18
                  extract_lets +onlyGivenNames x19
                  clear_value x19
                  split
                  · dsimp only [headState]
                    refine State.stall_keeps (Within.trans (by decide) hw) ?_
                    exact h16
                  · extract_lets +onlyGivenNames x21
                    clear_value x21
                    extract_lets +onlyGivenNames x22
                    clear_value x22
                    split
                    · dsimp only [headState]
                      refine State.taskFault_keeps (Within.trans (by decide) hw) ?_
                      exact h16
                    · split
                      · dsimp only [headState]
                        refine State.taskFault_keeps (Within.trans (by decide) hw) ?_
                        exact h16
                      · dsimp only [headState]
                        exact h16

theorem State.headFor_error {w : Nat} {s0 s x : State} {t c o : Nat} (hw : Within 4529988082270273 w) (h : Keeps w s0 s) (e : s.headFor t c o = .error x) : Keeps w s0 x := by
  have := State.headFor_keeps (t := t) (c := c) (o := o) hw h
  rw [e] at this; exact this

theorem State.headFor_ok {w : Nat} {s0 s x : State} {y : Head} {t c o : Nat} (hw : Within 4529988082270273 w) (h : Keeps w s0 s) (e : s.headFor t c o = .ok (x, y)) : Keeps w s0 x := by
  have := State.headFor_keeps (t := t) (c := c) (o := o) hw h
  rw [e] at this; exact this

theorem State.issueTo_keeps {w : Nat} {s0 s : State} {a0 : Nat} {a1 : Nat} {a2 : Head} (hw : Within 4530142969790529 w) (h : Keeps w s0 s) : Keeps w s0 (State.issueTo s a0 a1 a2) := by
  unfold State.issueTo
  extract_lets +onlyGivenNames x1
  clear_value x1
  extract_lets +onlyGivenNames x2
  clear_value x2
  extract_lets +onlyGivenNames x3
  clear_value x3
  split
  · refine State.stall_keeps (Within.trans (by decide) hw) ?_
    exact h
  · split
    · extract_lets +onlyGivenNames x5
      clear_value x5
      refine State.stall_keeps (Within.trans (by decide) hw) ?_
      exact h
    · extract_lets +onlyGivenNames x7
      clear_value (e7 : x7 = _)
      refine Keeps.cut (w := w) (s0 := s0) e7 ?_ (fun h7 => ?_) <;> clear e7
      · refine State.issueCmd_keeps (Within.trans (by decide) hw) ?_
        exact h
      split
      · refine State.startFront_keeps (Within.trans (by decide) hw) ?_
        exact h7
      · exact h7

theorem State.issueRow_keeps {w : Nat} {s0 s : State} {a0 : Nat} {a1 : Nat} {a2 : Nat} {a3 : Nat} {a4 : List (Nat × Nat)} (hw : Within 4530142969790529 w) (h : Keeps w s0 s) : Keeps w s0 (State.issueRow s a0 a1 a2 a3 a4) := by
  unfold State.issueRow
  extract_lets +onlyGivenNames x1
  clear_value (e1 : x1 = _)
  refine Keeps.cut (w := w) (s0 := s0) e1 ?_ (fun h1 => ?_) <;> clear e1
  · refine State.addUpsets_keeps (Within.trans (by decide) hw) ?_
    exact h
  split
  · rename_i y3 y4 y5
    refine State.headFor_error (Within.trans (by decide) hw) ?_ y5
    exact h1
  · rename_i y6 y7 y8 y9
    refine State.issueTo_keeps (Within.trans (by decide) hw) ?_
    refine State.headFor_ok (Within.trans (by decide) hw) ?_ y9
    exact h1

theorem execCntCount_keeps {w : Nat} {s0 s : State} {a0 : Nat} {a1 : List (Nat × Nat)} (hw : Within 4530142969790529 w) (h : Keeps w s0 s) : KeepsO w s0 (execCntCount a0 a1 s) := by
  unfold execCntCount
  refine KeepsO.onTile ?_
  refine State.issueRow_keeps (Within.trans (by decide) hw) ?_
  exact h

theorem execCntHist_keeps {w : Nat} {s0 s : State} {a0 : Nat} {a1 : List (Nat × Nat)} (hw : Within 4530142969790529 w) (h : Keeps w s0 s) : KeepsO w s0 (execCntHist a0 a1 s) := by
  unfold execCntHist
  refine KeepsO.onTile ?_
  refine State.issueRow_keeps (Within.trans (by decide) hw) ?_
  exact h

theorem execCntMask_keeps {w : Nat} {s0 s : State} {a0 : Nat} {a1 : List (Nat × Nat)} (hw : Within 4530142969790529 w) (h : Keeps w s0 s) : KeepsO w s0 (execCntMask a0 a1 s) := by
  unfold execCntMask
  refine KeepsO.onTile ?_
  refine State.issueRow_keeps (Within.trans (by decide) hw) ?_
  exact h

theorem execConvL_keeps {w : Nat} {s0 s : State} {a0 : Nat} {a1 : List (Nat × Nat)} (hw : Within 4530142969790529 w) (h : Keeps w s0 s) : KeepsO w s0 (execConvL a0 a1 s) := by
  unfold execConvL
  refine KeepsO.onTile ?_
  refine State.issueRow_keeps (Within.trans (by decide) hw) ?_
  exact h

theorem execConvS_keeps {w : Nat} {s0 s : State} {a0 : Nat} {a1 : List (Nat × Nat)} (hw : Within 4530142969790529 w) (h : Keeps w s0 s) : KeepsO w s0 (execConvS a0 a1 s) := by
  unfold execConvS
  refine KeepsO.onTile ?_
  refine State.issueRow_keeps (Within.trans (by decide) hw) ?_
  exact h

theorem execConvV_keeps {w : Nat} {s0 s : State} {a0 : Nat} {a1 : List (Nat × Nat)} (hw : Within 4530142969790529 w) (h : Keeps w s0 s) : KeepsO w s0 (execConvV a0 a1 s) := by
  unfold execConvV
  refine KeepsO.onTile ?_
  refine State.issueRow_keeps (Within.trans (by decide) hw) ?_
  exact h

theorem execMma_keeps {w : Nat} {s0 s : State} {a0 : Nat} {a1 : List (Nat × Nat)} (hw : Within 4530142969790529 w) (h : Keeps w s0 s) : KeepsO w s0 (execMma a0 a1 s) := by
  unfold execMma
  refine KeepsO.onTile ?_
  refine State.issueRow_keeps (Within.trans (by decide) hw) ?_
  exact h

theorem execMmz_keeps {w : Nat} {s0 s : State} {a0 : Nat} {a1 : List (Nat × Nat)} (hw : Within 4530142969790529 w) (h : Keeps w s0 s) : KeepsO w s0 (execMmz a0 a1 s) := by
  unfold execMmz
  refine KeepsO.onTile ?_
  refine State.issueRow_keeps (Within.trans (by decide) hw) ?_
  exact h

theorem execMoveLoad_keeps {w : Nat} {s0 s : State} {a0 : Nat} {a1 : List (Nat × Nat)} (hw : Within 4530142969790529 w) (h : Keeps w s0 s) : KeepsO w s0 (execMoveLoad a0 a1 s) := by
  unfold execMoveLoad
  refine KeepsO.onTile ?_
  refine State.issueRow_keeps (Within.trans (by decide) hw) ?_
  exact h

theorem execMoveStore_keeps {w : Nat} {s0 s : State} {a0 : Nat} {a1 : List (Nat × Nat)} (hw : Within 4530142969790529 w) (h : Keeps w s0 s) : KeepsO w s0 (execMoveStore a0 a1 s) := by
  unfold execMoveStore
  refine KeepsO.onTile ?_
  refine State.issueRow_keeps (Within.trans (by decide) hw) ?_
  exact h

theorem execVecMap_keeps {w : Nat} {s0 s : State} {a0 : Nat} {a1 : List (Nat × Nat)} (hw : Within 4530142969790529 w) (h : Keeps w s0 s) : KeepsO w s0 (execVecMap a0 a1 s) := by
  unfold execVecMap
  refine KeepsO.onTile ?_
  refine State.issueRow_keeps (Within.trans (by decide) hw) ?_
  exact h

theorem execVecReduce_keeps {w : Nat} {s0 s : State} {a0 : Nat} {a1 : List (Nat × Nat)} (hw : Within 4530142969790529 w) (h : Keeps w s0 s) : KeepsO w s0 (execVecReduce a0 a1 s) := by
  unfold execVecReduce
  refine KeepsO.onTile ?_
  refine State.issueRow_keeps (Within.trans (by decide) hw) ?_
  exact h

end Sys2Proof.Machine
end

