-- ==== Sys2Proof/Laws/KeepsD.lean ====
section
/-!
SUPPORT. What each function of TileScalar, TileTask, Exchange may change: the mask of parts, and both memories stay canonical.
-/
namespace Sys2Proof.Machine

theorem State.amxDone_keeps {w : Nat} {s0 s : State} {a0 : Nat} (hw : Within 1048576 w) (h : Keeps w s0 s) : Keeps w s0 (State.amxDone s a0) := by
  unfold State.amxDone
  extract_lets +onlyGivenNames x1
  clear_value x1
  refine Keeps.foldl (fun st2 e2 h2 => ?_) _ _ ?_
  · extract_lets +onlyGivenNames x3
    clear_value x3
    split
    · exact h2
    · extract_lets +onlyGivenNames x4
      clear_value x4
      refine State.onT_keeps (Within.trans (by decide) hw) ?_
      exact h2
  · exact h

theorem State.settleTask_keeps {w : Nat} {s0 s : State} {a0 : Nat} (hw : Within 1048576 w) (h : Keeps w s0 s) : Keeps w s0 (State.settleTask s a0) := by
  unfold State.settleTask
  extract_lets +onlyGivenNames x1
  clear_value x1
  split
  · exact h
  · split
    · refine State.setTile_keeps (Within.trans (by decide) hw) ?_
      exact h
    · split
      · refine State.setTile_keeps (Within.trans (by decide) hw) ?_
        exact h
      · exact h

theorem State.crumbWrite_keeps {w : Nat} {s0 s : State} {a0 : Nat} (hw : Within 1703937 w) (h : Keeps w s0 s) : Keeps w s0 (State.crumbWrite s a0) := by
  unfold State.crumbWrite
  split
  · exact h
  · refine State.scrWrite_keeps (Within.trans (by decide) hw) ?_
    refine State.onT_keeps (Within.trans (by decide) hw) ?_
    exact h

theorem State.crumbFlush_keeps {w : Nat} {s0 s : State} {a0 : Nat} (hw : Within 1703937 w) (h : Keeps w s0 s) : Keeps w s0 (State.crumbFlush s a0) := by
  unfold State.crumbFlush
  refine Keeps.foldl (fun st1 e1 h1 => ?_) _ _ ?_
  · refine State.crumbWrite_keeps (Within.trans (by decide) hw) ?_
    exact h1
  · exact h

theorem State.scalarRow_keeps {w : Nat} {s0 s : State} {a0 : Nat} {a1 : Nat} {a2 : Nat} {a3 : State → Head → State} (hw : Within 4529988082270273 w) (hf : ∀ st x, Keeps w s0 st → Keeps w s0 (a3 st x)) (h : Keeps w s0 s) : Keeps w s0 (State.scalarRow s a0 a1 a2 a3) := by
  unfold State.scalarRow
  split
  · rename_i y1 y2 y3
    refine State.headFor_error (Within.trans (by decide) hw) ?_ y3
    exact h
  · rename_i y4 y5 y6 y7
    refine hf _ _ ?_
    refine State.headFor_ok (Within.trans (by decide) hw) ?_ y7
    exact h

theorem effAlu_keeps {w : Nat} {s0 s : State} {a0 : Nat} (hw : Within 4529988082270273 w) (h : Keeps w s0 s) : Keeps w s0 (effAlu a0 s) := by
  unfold effAlu
  refine State.scalarRow_keeps (Within.trans (by decide) hw) (fun st1 e1 h1 => ?_) ?_
  · refine State.issueNow_keeps (Within.trans (by decide) hw) ?_
    exact h1
  · exact h

theorem effAmxr_keeps {w : Nat} {s0 s : State} {a0 : Nat} (hw : Within 4529988082270273 w) (h : Keeps w s0 s) : Keeps w s0 (effAmxr a0 s) := by
  unfold effAmxr
  refine State.scalarRow_keeps (Within.trans (by decide) hw) (fun st1 e1 h1 => ?_) ?_
  · extract_lets +onlyGivenNames x2
    clear_value x2
    extract_lets +onlyGivenNames x3
    clear_value x3
    extract_lets +onlyGivenNames x4
    clear_value x4
    extract_lets +onlyGivenNames x5
    clear_value x5
    split
    · refine State.issueNow_keeps (Within.trans (by decide) hw) ?_
      exact h1
    · extract_lets +onlyGivenNames x7
      clear_value x7
      refine State.issueNow_keeps (Within.trans (by decide) hw) ?_
      exact h1
  · exact h

theorem effCmp_keeps {w : Nat} {s0 s : State} {a0 : Nat} (hw : Within 4529988082270273 w) (h : Keeps w s0 s) : Keeps w s0 (effCmp a0 s) := by
  unfold effCmp
  refine State.scalarRow_keeps (Within.trans (by decide) hw) (fun st1 e1 h1 => ?_) ?_
  · refine State.issueNow_keeps (Within.trans (by decide) hw) ?_
    exact h1
  · exact h

theorem effFbar_keeps {w : Nat} {s0 s : State} {a0 : Nat} (hw : Within 4529988082270273 w) (h : Keeps w s0 s) : Keeps w s0 (effFbar a0 s) := by
  unfold effFbar
  refine State.scalarRow_keeps (Within.trans (by decide) hw) (fun st1 e1 h1 => ?_) ?_
  · extract_lets +onlyGivenNames x2
    clear_value x2
    split
    · refine State.stall_keeps (Within.trans (by decide) hw) ?_
      exact h1
    · extract_lets +onlyGivenNames x4
      clear_value x4
      extract_lets +onlyGivenNames x5
      clear_value x5
      refine State.setTile_keeps (Within.trans (by decide) hw) ?_
      exact h1
  · exact h

theorem effHalt_keeps {w : Nat} {s0 s : State} {a0 : Nat} (hw : Within 4529988082270273 w) (h : Keeps w s0 s) : Keeps w s0 (effHalt a0 s) := by
  unfold effHalt
  refine State.scalarRow_keeps (Within.trans (by decide) hw) (fun st1 e1 h1 => ?_) ?_
  · refine State.settleTask_keeps (Within.trans (by decide) hw) ?_
    refine State.issueNow_keeps (Within.trans (by decide) hw) ?_
    exact h1
  · exact h

theorem effLdc_keeps {w : Nat} {s0 s : State} {a0 : Nat} (hw : Within 4529988082270273 w) (h : Keeps w s0 s) : Keeps w s0 (effLdc a0 s) := by
  unfold effLdc
  refine State.scalarRow_keeps (Within.trans (by decide) hw) (fun st1 e1 h1 => ?_) ?_
  · extract_lets +onlyGivenNames x2
    clear_value x2
    split
    · rename_i y3 y4 y5 y6
      extract_lets +onlyGivenNames x7
      clear_value x7
      split
      · refine State.taskFault_keeps (Within.trans (by decide) hw) ?_
        exact h1
      · split
        · refine State.stall_keeps (Within.trans (by decide) hw) ?_
          exact h1
        · split
          · rename_i y10 y11 y12 y13 y14
            refine State.taskFault_keeps (Within.trans (by decide) hw) ?_
            refine Keeps.snd y14 ?_
            refine State.scrRead_keeps (Within.trans (by decide) hw) ?_
            refine State.crumbFlush_keeps (Within.trans (by decide) hw) ?_
            exact h1
          · rename_i y18 y19 y20 y21 y22 y23
            refine State.issueNow_keeps (Within.trans (by decide) hw) ?_
            refine Keeps.snd y23 ?_
            refine State.scrRead_keeps (Within.trans (by decide) hw) ?_
            refine State.crumbFlush_keeps (Within.trans (by decide) hw) ?_
            exact h1
  · exact h

theorem effLdi_keeps {w : Nat} {s0 s : State} {a0 : Nat} (hw : Within 4529988082270273 w) (h : Keeps w s0 s) : Keeps w s0 (effLdi a0 s) := by
  unfold effLdi
  refine State.scalarRow_keeps (Within.trans (by decide) hw) (fun st1 e1 h1 => ?_) ?_
  · refine State.issueNow_keeps (Within.trans (by decide) hw) ?_
    exact h1
  · exact h

theorem effLoop_keeps {w : Nat} {s0 s : State} {a0 : Nat} (hw : Within 4529988082270273 w) (h : Keeps w s0 s) : Keeps w s0 (effLoop a0 s) := by
  unfold effLoop
  refine State.scalarRow_keeps (Within.trans (by decide) hw) (fun st1 e1 h1 => ?_) ?_
  · extract_lets +onlyGivenNames x2
    clear_value x2
    extract_lets +onlyGivenNames x3
    clear_value x3
    split
    · refine State.passed_keeps (Within.trans (by decide) hw) ?_
      exact h1
    · refine State.passed_keeps (Within.trans (by decide) hw) ?_
      refine State.onT_keeps (Within.trans (by decide) hw) ?_
      exact h1
  · exact h

theorem effMark_keeps {w : Nat} {s0 s : State} {a0 : Nat} (hw : Within 4529988082270273 w) (h : Keeps w s0 s) : Keeps w s0 (effMark a0 s) := by
  unfold effMark
  refine State.scalarRow_keeps (Within.trans (by decide) hw) (fun st1 e1 h1 => ?_) ?_
  · extract_lets +onlyGivenNames x2
    clear_value x2
    extract_lets +onlyGivenNames x3
    clear_value x3
    extract_lets +onlyGivenNames x4
    clear_value (e4 : x4 = _)
    refine Keeps.cut (w := w) (s0 := s0) e4 ?_ (fun h4 => ?_) <;> clear e4
    · split
      · refine State.traceRec_keeps (Within.trans (by decide) hw) ?_
        exact h1
      · exact h1
    refine State.issueNow_keeps (Within.trans (by decide) hw) ?_
    refine State.brkCheck_keeps (Within.trans (by decide) hw) ?_
    exact h4
  · exact h

theorem effPbool_keeps {w : Nat} {s0 s : State} {a0 : Nat} (hw : Within 4529988082270273 w) (h : Keeps w s0 s) : Keeps w s0 (effPbool a0 s) := by
  unfold effPbool
  refine State.scalarRow_keeps (Within.trans (by decide) hw) (fun st1 e1 h1 => ?_) ?_
  · refine State.issueNow_keeps (Within.trans (by decide) hw) ?_
    exact h1
  · exact h

theorem effStc_keeps {w : Nat} {s0 s : State} {a0 : Nat} (hw : Within 4529988082270273 w) (h : Keeps w s0 s) : Keeps w s0 (effStc a0 s) := by
  unfold effStc
  refine State.scalarRow_keeps (Within.trans (by decide) hw) (fun st1 e1 h1 => ?_) ?_
  · extract_lets +onlyGivenNames x2
    clear_value x2
    split
    · rename_i y3 y4 y5 y6
      split
      · refine State.taskFault_keeps (Within.trans (by decide) hw) ?_
        exact h1
      · split
        · refine State.stall_keeps (Within.trans (by decide) hw) ?_
          exact h1
        · split
          · refine State.stall_keeps (Within.trans (by decide) hw) ?_
            exact h1
          · refine State.issueNow_keeps (Within.trans (by decide) hw) ?_
            exact h1
  · exact h

theorem effWaitb_keeps {w : Nat} {s0 s : State} {a0 : Nat} (hw : Within 4529988082270273 w) (h : Keeps w s0 s) : Keeps w s0 (effWaitb a0 s) := by
  unfold effWaitb
  refine State.scalarRow_keeps (Within.trans (by decide) hw) (fun st1 e1 h1 => ?_) ?_
  · extract_lets +onlyGivenNames x2
    clear_value x2
    extract_lets +onlyGivenNames x3
    clear_value x3
    split
    · refine State.issueNow_keeps (Within.trans (by decide) hw) ?_
      exact h1
    · split
      · refine State.stall_keeps (Within.trans (by decide) hw) ?_
        exact h1
      · extract_lets +onlyGivenNames x6
        clear_value (e6 : x6 = _)
        refine Keeps.cut (w := w) (s0 := s0) e6 ?_ (fun h6 => ?_) <;> clear e6
        · split
          · exact h1
          · refine State.countEv_keeps (Within.trans (by decide) hw) ?_
            refine State.bump_keeps (Within.trans (by decide) hw) ?_
            exact h1
        refine State.issueNow_keeps (Within.trans (by decide) hw) ?_
        exact h6
  · exact h

theorem execAlu_keeps {w : Nat} {s0 s : State} {a0 : Nat} (hw : Within 4529988082270273 w) (h : Keeps w s0 s) : KeepsO w s0 (execAlu a0 s) := by
  unfold execAlu
  refine KeepsO.onTile ?_
  refine effAlu_keeps (Within.trans (by decide) hw) ?_
  exact h

theorem execAmxr_keeps {w : Nat} {s0 s : State} {a0 : Nat} (hw : Within 4529988082270273 w) (h : Keeps w s0 s) : KeepsO w s0 (execAmxr a0 s) := by
  unfold execAmxr
  refine KeepsO.onTile ?_
  refine effAmxr_keeps (Within.trans (by decide) hw) ?_
  exact h

theorem execCmp_keeps {w : Nat} {s0 s : State} {a0 : Nat} (hw : Within 4529988082270273 w) (h : Keeps w s0 s) : KeepsO w s0 (execCmp a0 s) := by
  unfold execCmp
  refine KeepsO.onTile ?_
  refine effCmp_keeps (Within.trans (by decide) hw) ?_
  exact h

theorem execFbar_keeps {w : Nat} {s0 s : State} {a0 : Nat} (hw : Within 4529988082270273 w) (h : Keeps w s0 s) : KeepsO w s0 (execFbar a0 s) := by
  unfold execFbar
  refine KeepsO.onTile ?_
  refine effFbar_keeps (Within.trans (by decide) hw) ?_
  exact h

theorem execHalt_keeps {w : Nat} {s0 s : State} {a0 : Nat} (hw : Within 4529988082270273 w) (h : Keeps w s0 s) : KeepsO w s0 (execHalt a0 s) := by
  unfold execHalt
  refine KeepsO.onTile ?_
  refine effHalt_keeps (Within.trans (by decide) hw) ?_
  exact h

theorem execLdc_keeps {w : Nat} {s0 s : State} {a0 : Nat} {a1 : List (Nat × Nat)} (hw : Within 4529988082270273 w) (h : Keeps w s0 s) : KeepsO w s0 (execLdc a0 a1 s) := by
  unfold execLdc
  refine KeepsO.onTile ?_
  refine effLdc_keeps (Within.trans (by decide) hw) ?_
  refine State.addUpsets_keeps (Within.trans (by decide) hw) ?_
  exact h

theorem execLdi_keeps {w : Nat} {s0 s : State} {a0 : Nat} (hw : Within 4529988082270273 w) (h : Keeps w s0 s) : KeepsO w s0 (execLdi a0 s) := by
  unfold execLdi
  refine KeepsO.onTile ?_
  refine effLdi_keeps (Within.trans (by decide) hw) ?_
  exact h

theorem execLoop_keeps {w : Nat} {s0 s : State} {a0 : Nat} (hw : Within 4529988082270273 w) (h : Keeps w s0 s) : KeepsO w s0 (execLoop a0 s) := by
  unfold execLoop
  refine KeepsO.onTile ?_
  refine effLoop_keeps (Within.trans (by decide) hw) ?_
  exact h

theorem execMark_keeps {w : Nat} {s0 s : State} {a0 : Nat} (hw : Within 4529988082270273 w) (h : Keeps w s0 s) : KeepsO w s0 (execMark a0 s) := by
  unfold execMark
  refine KeepsO.onTile ?_
  refine effMark_keeps (Within.trans (by decide) hw) ?_
  exact h

theorem execPbool_keeps {w : Nat} {s0 s : State} {a0 : Nat} (hw : Within 4529988082270273 w) (h : Keeps w s0 s) : KeepsO w s0 (execPbool a0 s) := by
  unfold execPbool
  refine KeepsO.onTile ?_
  refine effPbool_keeps (Within.trans (by decide) hw) ?_
  exact h

theorem execStc_keeps {w : Nat} {s0 s : State} {a0 : Nat} (hw : Within 4529988082270273 w) (h : Keeps w s0 s) : KeepsO w s0 (execStc a0 s) := by
  unfold execStc
  refine KeepsO.onTile ?_
  refine effStc_keeps (Within.trans (by decide) hw) ?_
  exact h

theorem execWaitb_keeps {w : Nat} {s0 s : State} {a0 : Nat} (hw : Within 4529988082270273 w) (h : Keeps w s0 s) : KeepsO w s0 (execWaitb a0 s) := by
  unfold execWaitb
  refine KeepsO.onTile ?_
  refine effWaitb_keeps (Within.trans (by decide) hw) ?_
  exact h

theorem effStop_keeps {w : Nat} {s0 s : State} {a0 : Nat} (hw : Within 1048576 w) (h : Keeps w s0 s) : Keeps w s0 (effStop a0 s) := by
  unfold effStop
  extract_lets +onlyGivenNames x1
  clear_value x1
  split
  · exact h
  · refine State.settleTask_keeps (Within.trans (by decide) hw) ?_
    refine State.setTile_keeps (Within.trans (by decide) hw) ?_
    exact h

theorem State.leave_keeps {w : Nat} {s0 s : State} {a0 : Nat} {a1 : Nat} {a2 : IssuedCmd} (hw : Within 4530142969790529 w) (h : Keeps w s0 s) : Keeps w s0 (State.leave s a0 a1 a2) := by
  unfold State.leave
  extract_lets +onlyGivenNames x1
  clear_value (e1 : x1 = _)
  refine Keeps.cut (w := w) (s0 := s0) e1 ?_ (fun h1 => ?_) <;> clear e1
  · refine State.onT_keeps (Within.trans (by decide) hw) ?_
    exact h
  refine State.settleTask_keeps (Within.trans (by decide) hw) ?_
  refine State.startFront_keeps (Within.trans (by decide) hw) ?_
  refine State.amxDone_keeps (Within.trans (by decide) hw) ?_
  exact h1

theorem State.completeCmd_keeps {w : Nat} {s0 s : State} {a0 : Nat} {a1 : Nat} (hw : Within 4530142969790529 w) (h : Keeps w s0 s) : Keeps w s0 (State.completeCmd s a0 a1) := by
  unfold State.completeCmd
  split
  · exact h
  · split
    · exact h
    · refine State.leave_keeps (Within.trans (by decide) hw) ?_
      exact h

theorem State.windowRefuse_keeps {w : Nat} {s0 s : State} {a0 : Nat} {a1 : Nat} {a2 : Nat} (hw : Within 174129217 w) (h : Keeps w s0 s) : Keeps w s0 (State.windowRefuse s a0 a1 a2) := by
  unfold State.windowRefuse
  refine State.countEv_keeps (Within.trans (by decide) hw) ?_
  refine State.fault_keeps (Within.trans (by decide) hw) ?_
  exact h

theorem effComplete_keeps {w : Nat} {s0 s : State} {a0 : Nat} {a1 : Nat} (hw : Within 4530142969790529 w) (h : Keeps w s0 s) : Keeps w s0 (effComplete a0 a1 s) := by
  unfold effComplete
  split
  · refine State.settleTask_keeps (Within.trans (by decide) hw) ?_
    refine State.crumbWrite_keeps (Within.trans (by decide) hw) ?_
    exact h
  · refine State.completeCmd_keeps (Within.trans (by decide) hw) ?_
    refine State.startFront_keeps (Within.trans (by decide) hw) ?_
    exact h

theorem effFetch_keeps {w : Nat} {s0 s : State} {a0 : Nat} {a1 : Nat} (hw : Within 4530005530837057 w) (h : Keeps w s0 s) : Keeps w s0 (effFetch a0 a1 s) := by
  unfold effFetch
  extract_lets +onlyGivenNames x1
  clear_value x1
  split
  · exact h
  · extract_lets +onlyGivenNames x2
    clear_value x2
    extract_lets +onlyGivenNames x3
    clear_value x3
    split
    · exact h
    · extract_lets +onlyGivenNames x4
      clear_value x4
      extract_lets +onlyGivenNames x5
      split
      · dsimp only [x5]
        refine State.taskFault_keeps (Within.trans (by decide) hw) ?_
        exact h
      · split
        · rename_i y7 y8 y9 y10 y11 y12 y13
          extract_lets +onlyGivenNames x14
          clear_value x14
          refine State.onT_keeps (Within.trans (by decide) hw) ?_
          refine Keeps.snd y13 ?_
          refine State.tileLoad_keeps (Within.trans (by decide) hw) ?_
          exact h
        · rename_i y17 y18 y19 y20 y21 y22 y23 y24
          dsimp only [x5]
          refine State.taskFault_keeps (Within.trans (by decide) hw) ?_
          split
          · refine State.err_keeps (Within.trans (by decide) hw) ?_
            refine Keeps.snd y24 ?_
            refine State.tileLoad_keeps (Within.trans (by decide) hw) ?_
            exact h
          · refine Keeps.snd y24 ?_
            refine State.tileLoad_keeps (Within.trans (by decide) hw) ?_
            exact h
        · rename_i y29 y30 y31 y32 y33 y34
          dsimp only [x5]
          refine State.taskFault_keeps (Within.trans (by decide) hw) ?_
          refine Keeps.snd y34 ?_
          refine State.tileLoad_keeps (Within.trans (by decide) hw) ?_
          exact h

theorem effTokIdle_keeps {w : Nat} {s0 s : State} {a0 : Nat} {a1 : Bool} (hw : Within 1048576 w) (h : Keeps w s0 s) : Keeps w s0 (effTokIdle a0 a1 s) := by
  unfold effTokIdle
  extract_lets +onlyGivenNames x1
  clear_value x1
  split
  · split
    · refine State.setTile_keeps (Within.trans (by decide) hw) ?_
      exact h
    · exact h
  · split
    · refine State.setTile_keeps (Within.trans (by decide) hw) ?_
      exact h
    · exact h

theorem effWindow_keeps {w : Nat} {s0 s : State} {a0 : Nat} {a1 : Nat} {a2 : Nat} {a3 : List Byte} (hw : Within 175833153 w) (h : Keeps w s0 s) : Keeps w s0 (effWindow a0 a1 a2 a3 s) := by
  unfold effWindow
  extract_lets +onlyGivenNames x1
  clear_value x1
  extract_lets +onlyGivenNames x2
  clear_value x2
  split
  · refine State.windowRefuse_keeps (Within.trans (by decide) hw) ?_
    exact h
  · split
    · refine State.windowRefuse_keeps (Within.trans (by decide) hw) ?_
      exact h
    · split
      · exact h
      · split
        · refine State.err_keeps (Within.trans (by decide) hw) ?_
          exact h
        · refine State.scrWrite_keeps (Within.trans (by decide) hw) ?_
          exact h

theorem execClearComplete_keeps {w : Nat} {s0 s : State} {a0 : Nat} (hw : Within 1704001 w) (h : Keeps w s0 s) : KeepsO w s0 (execClearComplete a0 s) := by
  unfold execClearComplete
  refine KeepsO.onTile ?_
  refine State.endClear_keeps (Within.trans (by decide) hw) ?_
  exact h

theorem execCommandComplete_keeps {w : Nat} {s0 s : State} {a0 : Nat} {a1 : Nat} {a2 : List (Nat × Nat)} (hw : Within 4530142969790529 w) (h : Keeps w s0 s) : KeepsO w s0 (execCommandComplete a0 a1 a2 s) := by
  unfold execCommandComplete
  refine KeepsO.onTile ?_
  refine effComplete_keeps (Within.trans (by decide) hw) ?_
  refine State.addUpsets_keeps (Within.trans (by decide) hw) ?_
  exact h

theorem execCommandFetch_keeps {w : Nat} {s0 s : State} {a0 : Nat} {a1 : Nat} (hw : Within 4530005530837057 w) (h : Keeps w s0 s) : KeepsO w s0 (execCommandFetch a0 a1 s) := by
  unfold execCommandFetch
  refine KeepsO.onTile ?_
  refine effFetch_keeps (Within.trans (by decide) hw) ?_
  exact h

theorem execScratchpadWindowWrite_keeps {w : Nat} {s0 s : State} {a0 : Nat} {a1 : Nat} {a2 : Nat} {a3 : List Byte} (hw : Within 175833153 w) (h : Keeps w s0 s) : KeepsO w s0 (execScratchpadWindowWrite a0 a1 a2 a3 s) := by
  unfold execScratchpadWindowWrite
  refine KeepsO.onTile ?_
  refine effWindow_keeps (Within.trans (by decide) hw) ?_
  exact h

theorem execTaskStop_keeps {w : Nat} {s0 s : State} {a0 : Nat} (hw : Within 1048576 w) (h : Keeps w s0 s) : KeepsO w s0 (execTaskStop a0 s) := by
  unfold execTaskStop
  refine KeepsO.onTile ?_
  refine effStop_keeps (Within.trans (by decide) hw) ?_
  exact h

theorem execTileClear_keeps {w : Nat} {s0 s : State} {a0 : Nat} (hw : Within 806355009 w) (h : Keeps w s0 s) : KeepsO w s0 (execTileClear a0 s) := by
  unfold execTileClear
  refine KeepsO.onTile ?_
  refine State.startClear_keeps (Within.trans (by decide) hw) ?_
  exact h

theorem execTokenIdleReturn_keeps {w : Nat} {s0 s : State} {a0 : Nat} {a1 : Bool} (hw : Within 1048576 w) (h : Keeps w s0 s) : KeepsO w s0 (execTokenIdleReturn a0 a1 s) := by
  unfold execTokenIdleReturn
  refine KeepsO.onTile ?_
  refine effTokIdle_keeps (Within.trans (by decide) hw) ?_
  exact h

theorem State.landed_keeps {w : Nat} {s0 s : State} {a0 : XLoaf} (hw : Within 8796093022208 w) (h : Keeps w s0 s) : Keeps w s0 (State.landed s a0) := by
  unfold State.landed
  refine Keeps.set_flight (Within.trans (by decide) hw) ?_
  exact h

theorem State.xpNote_keeps {w : Nat} {s0 s : State} {a0 : Nat} {a1 : Nat} {a2 : Nat} {a3 : Nat} {a4 : Nat} (hw : Within 1 w) (h : Keeps w s0 s) : Keeps w s0 (State.xpNote s a0 a1 a2 a3 a4) := by
  unfold State.xpNote
  refine State.setReg_keeps (Within.trans (by decide) hw) ?_
  refine State.setReg_keeps (Within.trans (by decide) hw) ?_
  exact h

theorem State.xpFault_keeps {w : Nat} {s0 s : State} {a0 : Nat} {a1 : Nat} {a2 : Nat} {a3 : Nat} {a4 : Nat} {a5 : Nat} {a6 : CmdAt} (hw : Within 4529988082270273 w) (h : Keeps w s0 s) : Keeps w s0 (State.xpFault s a0 a1 a2 a3 a4 a5 a6) := by
  unfold State.xpFault
  extract_lets +onlyGivenNames x1
  clear_value x1
  extract_lets +onlyGivenNames x2
  clear_value (e2 : x2 = _)
  refine Keeps.cut (w := w) (s0 := s0) e2 ?_ (fun h2 => ?_) <;> clear e2
  · refine State.xpNote_keeps (Within.trans (by decide) hw) ?_
    exact h
  extract_lets +onlyGivenNames x4
  clear_value x4
  extract_lets +onlyGivenNames x5
  clear_value (e5 : x5 = _)
  refine Keeps.cut (w := w) (s0 := s0) e5 ?_ (fun h5 => ?_) <;> clear e5
  · refine State.setPol_keeps (Within.trans (by decide) hw) ?_
    exact h2
  extract_lets +onlyGivenNames x7
  clear_value x7
  extract_lets +onlyGivenNames x8
  clear_value x8
  extract_lets +onlyGivenNames x9
  clear_value (e9 : x9 = _)
  refine Keeps.cut (w := w) (s0 := s0) e9 ?_ (fun h9 => ?_) <;> clear e9
  · split
    · refine State.haltTask_keeps (Within.trans (by decide) hw) ?_
      exact h5
    · refine State.fault_keeps (Within.trans (by decide) hw) ?_
      refine State.onT_keeps (Within.trans (by decide) hw) ?_
      exact h5
  refine State.polderStop_keeps (Within.trans (by decide) hw) ?_
  exact h9

theorem State.recvLoaf_keeps {w : Nat} {s0 s : State} {a0 : Nat} {a1 : XLoaf} {a2 : IssuedCmd} (hw : Within 4529988082270273 w) (h : Keeps w s0 s) : Keeps w s0 (State.recvLoaf s a0 a1 a2) := by
  unfold State.recvLoaf
  extract_lets +onlyGivenNames x1
  clear_value x1
  split
  · rename_i y2 y3 y4 y5
    extract_lets +onlyGivenNames x6
    clear_value x6
    extract_lets +onlyGivenNames x7
    clear_value (e7 : x7 = _)
    refine Keeps.cut (w := w) (s0 := s0) e7 ?_ (fun h7 => ?_) <;> clear e7
    · refine State.landed_keeps (Within.trans (by decide) hw) ?_
      exact h
    split
    · refine State.taskFault_keeps (Within.trans (by decide) hw) ?_
      exact h7
    · split
      · refine State.xpFault_keeps (Within.trans (by decide) hw) ?_
        exact h7
      · refine State.countEv_keeps (Within.trans (by decide) hw) ?_
        refine State.bump_keeps (Within.trans (by decide) hw) ?_
        refine State.onT_keeps (Within.trans (by decide) hw) ?_
        refine State.scrWrite_keeps (Within.trans (by decide) hw) ?_
        exact h7

theorem State.sendLoaf_keeps {w : Nat} {s0 s : State} {a0 : Nat} {a1 : Nat} {a2 : Nat} {a3 : Nat} {a4 : IssuedCmd} {a5 : Bool} {a6 : Int} {a7 : CmdAt} (hw : Within 4529988082270273 w) (h : Keeps w s0 s) : Keeps w s0 (State.sendLoaf s a0 a1 a2 a3 a4 a5 a6 a7) := by
  unfold State.sendLoaf
  split
  · rename_i y1 y2 y3
    refine State.taskFault_keeps (Within.trans (by decide) hw) ?_
    refine Keeps.snd y3 ?_
    refine State.scrRead_keeps (Within.trans (by decide) hw) ?_
    exact h
  · rename_i y6 y7 y8 y9
    extract_lets +onlyGivenNames x10
    clear_value x10
    extract_lets +onlyGivenNames x11
    clear_value x11
    extract_lets +onlyGivenNames x12
    clear_value x12
    extract_lets +onlyGivenNames x13
    clear_value (e13 : x13 = _)
    refine Keeps.cut (w := w) (s0 := s0) e13 ?_ (fun h13 => ?_) <;> clear e13
    · refine State.onT_keeps (Within.trans (by decide) hw) ?_
      refine Keeps.set_flight (Within.trans (by decide) hw) ?_
      refine Keeps.snd y9 ?_
      refine State.scrRead_keeps (Within.trans (by decide) hw) ?_
      exact h
    refine State.countEv_keeps (Within.trans (by decide) hw) ?_
    refine State.bump_keeps (Within.trans (by decide) hw) ?_
    exact h13

theorem State.xpDiscard_keeps {w : Nat} {s0 s : State} {a0 : Nat} {a1 : XLoaf} (hw : Within 8796093022209 w) (h : Keeps w s0 s) : Keeps w s0 (State.xpDiscard s a0 a1) := by
  unfold State.xpDiscard
  refine State.sat_keeps (Within.trans (by decide) hw) ?_
  refine State.landed_keeps (Within.trans (by decide) hw) ?_
  exact h

theorem effArrival_keeps {w : Nat} {s0 s : State} {a0 : Nat} {a1 : Nat} {a2 : Nat} (hw : Within 4529988082270273 w) (h : Keeps w s0 s) : Keeps w s0 (effArrival a0 a1 a2 s) := by
  unfold effArrival
  split
  · exact h
  · extract_lets +onlyGivenNames x1
    clear_value x1
    extract_lets +onlyGivenNames x2
    clear_value x2
    extract_lets +onlyGivenNames x3
    clear_value x3
    split
    · refine State.xpDiscard_keeps (Within.trans (by decide) hw) ?_
      exact h
    · split
      · split
        · exact h
        · split
          · refine State.xpDiscard_keeps (Within.trans (by decide) hw) ?_
            exact h
          · refine State.xpFault_keeps (Within.trans (by decide) hw) ?_
            refine State.landed_keeps (Within.trans (by decide) hw) ?_
            exact h
      · split
        · refine State.xpFault_keeps (Within.trans (by decide) hw) ?_
          refine State.landed_keeps (Within.trans (by decide) hw) ?_
          exact h
        · split
          · refine State.recvLoaf_keeps (Within.trans (by decide) hw) ?_
            exact h
          · split
            · exact h
            · refine State.xpFault_keeps (Within.trans (by decide) hw) ?_
              refine State.landed_keeps (Within.trans (by decide) hw) ?_
              exact h

theorem effCredit_keeps {w : Nat} {s0 s : State} {a0 : Nat} {a1 : Nat} {a2 : List (Nat × Nat)} (hw : Within 4529988082270273 w) (h : Keeps w s0 s) : Keeps w s0 (effCredit a0 a1 a2 s) := by
  unfold effCredit
  extract_lets +onlyGivenNames x1
  clear_value x1
  split
  · exact h
  · split
    · exact h
    · extract_lets +onlyGivenNames x2
      clear_value x2
      extract_lets +onlyGivenNames x3
      clear_value x3
      extract_lets +onlyGivenNames x4
      clear_value x4
      extract_lets +onlyGivenNames x5
      clear_value (e5 : x5 = _)
      refine Keeps.cut (w := w) (s0 := s0) e5 ?_ (fun h5 => ?_) <;> clear e5
      · split
        · refine State.onT_keeps (Within.trans (by decide) hw) ?_
          exact h
        · exact h
      split
      · exact h5
      · extract_lets +onlyGivenNames x7
        clear_value x7
        split
        · exact h5
        · split
          · exact h5
          · split
            · rename_i y8 y9 y10 y11 y12 y13 y14 y15 y16 y17 y18 y19 y20 y21 y22
              extract_lets +onlyGivenNames x23
              clear_value x23
              split
              · refine State.taskFault_keeps (Within.trans (by decide) hw) ?_
                exact h5
              · extract_lets +onlyGivenNames x25
                clear_value (e25 : x25 = _)
                refine Keeps.cut (w := w) (s0 := s0) e25 ?_ (fun h25 => ?_) <;> clear e25
                · refine State.onT_keeps (Within.trans (by decide) hw) ?_
                  refine State.addUpsets_keeps (Within.trans (by decide) hw) ?_
                  exact h5
                refine State.sendLoaf_keeps (Within.trans (by decide) hw) ?_
                exact h25

theorem effCrossLate_keeps {w : Nat} {s0 s : State} {a0 : Nat} {a1 : Nat} {a2 : Nat} (hw : Within 4529988082270273 w) (h : Keeps w s0 s) : Keeps w s0 (effCrossLate a0 a1 a2 s) := by
  unfold effCrossLate
  split
  · exact h
  · split
    · exact h
    · extract_lets +onlyGivenNames x1
      clear_value x1
      extract_lets +onlyGivenNames x2
      clear_value (e2 : x2 = _)
      refine Keeps.cut (w := w) (s0 := s0) e2 ?_ (fun h2 => ?_) <;> clear e2
      · refine State.sat_keeps (Within.trans (by decide) hw) ?_
        refine State.landed_keeps (Within.trans (by decide) hw) ?_
        exact h
      split
      · refine State.sat_keeps (Within.trans (by decide) hw) ?_
        exact h2
      · split
        · rename_i y6 y7 y8 y9 y10 y11 y12 y13 y14
          refine State.xpFault_keeps (Within.trans (by decide) hw) ?_
          exact h2

theorem effCrossing_keeps {w : Nat} {s0 s : State} {a0 : Nat} {a1 : Nat} {a2 : Bool} (hw : Within 8796093022209 w) (h : Keeps w s0 s) : Keeps w s0 (effCrossing a0 a1 a2 s) := by
  unfold effCrossing
  split
  · exact h
  · extract_lets +onlyGivenNames x1
    clear_value x1
    extract_lets +onlyGivenNames x2
    clear_value x2
    extract_lets +onlyGivenNames x3
    clear_value (e3 : x3 = _)
    refine Keeps.cut (w := w) (s0 := s0) e3 ?_ (fun h3 => ?_) <;> clear e3
    · refine Keeps.set_flight (Within.trans (by decide) hw) ?_
      exact h
    split
    · exact h3
    · extract_lets +onlyGivenNames x4
      clear_value (e4 : x4 = _)
      refine Keeps.cut (w := w) (s0 := s0) e4 ?_ (fun h4 => ?_) <;> clear e4
      · refine State.countEv_keeps (Within.trans (by decide) hw) ?_
        exact h3
      split
      · refine State.bump_keeps (Within.trans (by decide) hw) ?_
        refine State.countEv_keeps (Within.trans (by decide) hw) ?_
        refine State.bump_keeps (Within.trans (by decide) hw) ?_
        exact h4
      · exact h4

theorem effExch_keeps {w : Nat} {s0 s : State} {a0 : Nat} {a1 : Nat} (hw : Within 4529988082270273 w) (h : Keeps w s0 s) : Keeps w s0 (effExch a0 a1 s) := by
  unfold effExch
  split
  · rename_i y1 y2 y3
    refine State.headFor_error (Within.trans (by decide) hw) ?_ y3
    exact h
  · rename_i y4 y5 y6 y7
    extract_lets +onlyGivenNames x8
    clear_value x8
    extract_lets +onlyGivenNames x9
    clear_value x9
    extract_lets +onlyGivenNames x10
    clear_value x10
    split
    · refine State.stall_keeps (Within.trans (by decide) hw) ?_
      refine State.headFor_ok (Within.trans (by decide) hw) ?_ y7
      exact h
    · split
      · refine State.stall_keeps (Within.trans (by decide) hw) ?_
        refine State.headFor_ok (Within.trans (by decide) hw) ?_ y7
        exact h
      · refine State.issueCmd_keeps (Within.trans (by decide) hw) ?_
        refine State.headFor_ok (Within.trans (by decide) hw) ?_ y7
        exact h

theorem effExchSlot_keeps {w : Nat} {s0 s : State} {a0 : Nat} {a1 : Nat} {a2 : Bool} (hw : Within 4529988082270273 w) (h : Keeps w s0 s) : Keeps w s0 (effExchSlot a0 a1 a2 s) := by
  unfold effExchSlot
  extract_lets +onlyGivenNames x1
  clear_value x1
  extract_lets +onlyGivenNames x2
  clear_value x2
  split
  · exact h
  · split
    · exact h
    · extract_lets +onlyGivenNames x3
      clear_value x3
      split
      · split
        · rename_i y4 y5 y6 y7 y8 y9 y10 y11 y12 y13 y14 y15 y16 y17
          extract_lets +onlyGivenNames x18
          clear_value x18
          split
          · refine State.taskFault_keeps (Within.trans (by decide) hw) ?_
            exact h
          · split
            · refine State.xpFault_keeps (Within.trans (by decide) hw) ?_
              exact h
            · split
              · refine State.xpFault_keeps (Within.trans (by decide) hw) ?_
                exact h
              · refine State.sendLoaf_keeps (Within.trans (by decide) hw) ?_
                exact h
      · refine State.xpFault_keeps (Within.trans (by decide) hw) ?_
        exact h

theorem execCrossingSlot_keeps {w : Nat} {s0 s : State} {a0 : Nat} {a1 : Nat} {a2 : Bool} (hw : Within 8796093022209 w) (h : Keeps w s0 s) : KeepsO w s0 (execCrossingSlot a0 a1 a2 s) := by
  unfold execCrossingSlot
  split
  · refine KeepsO.next ?_
    refine effCrossing_keeps (Within.trans (by decide) hw) ?_
    exact h
  · exact KeepsO.fault _

theorem execExchLoafArrival_keeps {w : Nat} {s0 s : State} {a0 : Nat} {a1 : Nat} {a2 : Nat} (hw : Within 4529988082270273 w) (h : Keeps w s0 s) : KeepsO w s0 (execExchLoafArrival a0 a1 a2 s) := by
  unfold execExchLoafArrival
  refine KeepsO.onTile ?_
  refine effArrival_keeps (Within.trans (by decide) hw) ?_
  exact h

theorem execExchRecv_keeps {w : Nat} {s0 s : State} {a0 : Nat} (hw : Within 4529988082270273 w) (h : Keeps w s0 s) : KeepsO w s0 (execExchRecv a0 s) := by
  unfold execExchRecv
  refine KeepsO.onTile ?_
  refine effExch_keeps (Within.trans (by decide) hw) ?_
  exact h

theorem execExchSend_keeps {w : Nat} {s0 s : State} {a0 : Nat} (hw : Within 4529988082270273 w) (h : Keeps w s0 s) : KeepsO w s0 (execExchSend a0 s) := by
  unfold execExchSend
  refine KeepsO.onTile ?_
  refine effExch_keeps (Within.trans (by decide) hw) ?_
  exact h

theorem execExchSlot_keeps {w : Nat} {s0 s : State} {a0 : Nat} {a1 : Nat} {a2 : Bool} {a3 : List (Nat × Nat)} (hw : Within 4529988082270273 w) (h : Keeps w s0 s) : KeepsO w s0 (execExchSlot a0 a1 a2 a3 s) := by
  unfold execExchSlot
  refine KeepsO.onTile ?_
  refine effExchSlot_keeps (Within.trans (by decide) hw) ?_
  refine State.addUpsets_keeps (Within.trans (by decide) hw) ?_
  exact h

theorem execHandshakeCredit_keeps {w : Nat} {s0 s : State} {a0 : Nat} {a1 : Nat} {a2 : List (Nat × Nat)} (hw : Within 4529988082270273 w) (h : Keeps w s0 s) : KeepsO w s0 (execHandshakeCredit a0 a1 a2 s) := by
  unfold execHandshakeCredit
  refine KeepsO.onTile ?_
  refine effCredit_keeps (Within.trans (by decide) hw) ?_
  exact h

theorem execXpCrossLate_keeps {w : Nat} {s0 s : State} {a0 : Nat} {a1 : Nat} {a2 : Nat} (hw : Within 4529988082270273 w) (h : Keeps w s0 s) : KeepsO w s0 (execXpCrossLate a0 a1 a2 s) := by
  unfold execXpCrossLate
  refine KeepsO.onTile ?_
  refine effCrossLate_keeps (Within.trans (by decide) hw) ?_
  exact h

end Sys2Proof.Machine
end

