-- ==== Sys2Proof/Laws/KeepsE.lean ====
section
/-!
SUPPORT. What each function of D2d, TileQueue may change: the mask of parts, and both memories stay canonical.
-/
namespace Sys2Proof.Machine

theorem State.d2dBoth_keeps {w : Nat} {s0 s : State} {a0 : Nat} {a1 : Nat} (hw : Within 1 w) (h : Keeps w s0 s) : Keeps w s0 (State.d2dBoth s a0 a1) := by
  unfold State.d2dBoth
  refine State.setF_keeps (Within.trans (by decide) hw) ?_
  refine State.setF_keeps (Within.trans (by decide) hw) ?_
  exact h

theorem State.retrainLink_keeps {w : Nat} {s0 s : State} {a0 : Nat} (hw : Within 549755813889 w) (h : Keeps w s0 s) : Keeps w s0 (State.retrainLink s a0) := by
  unfold State.retrainLink
  refine State.d2dBoth_keeps (Within.trans (by decide) hw) ?_
  refine State.setD2d_keeps (Within.trans (by decide) hw) ?_
  refine State.setD2d_keeps (Within.trans (by decide) hw) ?_
  exact h

theorem State.d2dPost_keeps {w : Nat} {s0 s : State} {a0 : Nat} {a1 : Nat} {a2 : Nat} {a3 : Nat} {a4 : Nat} {a5 : Nat} (hw : Within 174129217 w) (h : Keeps w s0 s) : Keeps w s0 (State.d2dPost s a0 a1 a2 a3 a4 a5) := by
  unfold State.d2dPost
  refine State.fault_keeps (Within.trans (by decide) hw) ?_
  exact h

theorem State.recompute_keeps {w : Nat} {s0 s : State} {a0 : Nat} (hw : Within 4536585151381569 w) (h : Keeps w s0 s) : Keeps w s0 (State.recompute s a0) := by
  unfold State.recompute
  extract_lets +onlyGivenNames x1
  clear_value (e1 : x1 = _)
  refine Keeps.cut (w := w) (s0 := s0) e1 ?_ (fun h1 => ?_) <;> clear e1
  · refine Keeps.set_notices (Within.trans (by decide) hw) ?_
    exact h
  refine Keeps.foldl (fun st2 e2 h2 => ?_) _ _ ?_
  · split
    · exact h2
    · extract_lets +onlyGivenNames x3
      clear_value (e3 : x3 = _)
      refine Keeps.cut (w := w) (s0 := s0) e3 ?_ (fun h3 => ?_) <;> clear e3
      · refine State.fault_keeps (Within.trans (by decide) hw) ?_
        refine Keeps.set_unreach (Within.trans (by decide) hw) ?_
        exact h2
      refine Keeps.foldl (fun st5 e5 h5 => ?_) _ _ ?_
      · refine State.polderStop_keeps (Within.trans (by decide) hw) ?_
        exact h5
      · exact h3
  · exact h1

theorem State.failLink_keeps {w : Nat} {s0 s : State} {a0 : Nat} (hw : Within 4537134907195457 w) (h : Keeps w s0 s) : Keeps w s0 (State.failLink s a0) := by
  unfold State.failLink
  split
  · exact h
  · extract_lets +onlyGivenNames x1
    clear_value x1
    extract_lets +onlyGivenNames x2
    extract_lets +onlyGivenNames x3
    clear_value (e3 : x3 = _)
    refine Keeps.cut (w := w) (s0 := s0) e3 ?_ (fun h3 => ?_) <;> clear e3
    · refine State.d2dBoth_keeps (Within.trans (by decide) hw) ?_
      refine State.setD2d_keeps (Within.trans (by decide) hw) ?_
      refine State.setD2d_keeps (Within.trans (by decide) hw) ?_
      exact h
    extract_lets +onlyGivenNames x7
    clear_value (e7 : x7 = _)
    refine Keeps.cut (w := w) (s0 := s0) e7 ?_ (fun h7 => ?_) <;> clear e7
    · refine State.recompute_keeps (Within.trans (by decide) hw) ?_
      refine State.d2dPost_keeps (Within.trans (by decide) hw) ?_
      refine Keeps.set_notices (Within.trans (by decide) hw) ?_
      exact h3
    refine State.recompute_keeps (Within.trans (by decide) hw) ?_
    exact h7

theorem State.d2dFrame_keeps {w : Nat} {s0 s : State} (hw : Within 549755813888 w) (h : Keeps w s0 s) : Keeps w s0 (State.d2dFrame s) := by
  unfold State.d2dFrame
  refine Keeps.set_d2d (Within.trans (by decide) hw) ?_
  exact h

theorem State.d2dFresh_keeps {w : Nat} {s0 s : State} {a0 : Nat} (hw : Within 549755813889 w) (h : Keeps w s0 s) : Keeps w s0 (State.d2dFresh s a0) := by
  unfold State.d2dFresh
  extract_lets +onlyGivenNames x1
  clear_value (e1 : x1 = _)
  refine Keeps.cut (w := w) (s0 := s0) e1 ?_ (fun h1 => ?_) <;> clear e1
  · refine Keeps.foldl (fun st2 e2 h2 => ?_) _ _ ?_
    · split
      · refine State.setF_keeps (Within.trans (by decide) hw) ?_
        exact h2
      · exact h2
    · exact h
  refine State.setD2d_keeps (Within.trans (by decide) hw) ?_
  refine State.setF_keeps (Within.trans (by decide) hw) ?_
  refine State.setF_keeps (Within.trans (by decide) hw) ?_
  exact h1

theorem State.retireBundle_keeps {w : Nat} {s0 s : State} {a0 : Nat} {a1 : Nat} (hw : Within 4537134907195457 w) (h : Keeps w s0 s) : Keeps w s0 (State.retireBundle s a0 a1) := by
  unfold State.retireBundle
  split
  · exact h
  · extract_lets +onlyGivenNames x1
    clear_value x1
    extract_lets +onlyGivenNames x2
    clear_value x2
    extract_lets +onlyGivenNames x3
    clear_value x3
    extract_lets +onlyGivenNames x4
    clear_value (e4 : x4 = _)
    refine Keeps.cut (w := w) (s0 := s0) e4 ?_ (fun h4 => ?_) <;> clear e4
    · refine State.lasting_keeps (Within.trans (by decide) hw) ?_
      refine State.setD2d_keeps (Within.trans (by decide) hw) ?_
      refine State.setF_keeps (Within.trans (by decide) hw) ?_
      refine State.setF_keeps (Within.trans (by decide) hw) ?_
      exact h
    extract_lets +onlyGivenNames x9
    clear_value (e9 : x9 = _)
    refine Keeps.cut (w := w) (s0 := s0) e9 ?_ (fun h9 => ?_) <;> clear e9
    · refine State.d2dPost_keeps (Within.trans (by decide) hw) ?_
      exact h4
    split
    · refine State.failLink_keeps (Within.trans (by decide) hw) ?_
      exact h9
    · refine State.d2dBoth_keeps (Within.trans (by decide) hw) ?_
      exact h9

theorem State.nextSparing_keeps {w : Nat} {s0 s : State} {a0 : Nat} (hw : Within 4537134907195457 w) (h : Keeps w s0 s) : Keeps w s0 (State.nextSparing s a0) := by
  unfold State.nextSparing
  extract_lets +onlyGivenNames x1
  clear_value x1
  split
  · exact h
  · split
    · exact h
    · split
      · refine State.setD2d_keeps (Within.trans (by decide) hw) ?_
        exact h
      · refine State.retireBundle_keeps (Within.trans (by decide) hw) ?_
        exact h

theorem effD2dFlit_keeps {w : Nat} {s0 s : State} {a0 : Nat} {a1 : Nat} {a2 : Nat} {a3 : Nat} {a4 : Nat} {a5 : Nat} {a6 : List Nat} {a7 : Bool} (hw : Within 4537134907195457 w) (h : Keeps w s0 s) : Keeps w s0 (effD2dFlit a0 a1 a2 a3 a4 a5 a6 a7 s) := by
  unfold effD2dFlit
  split
  · exact h
  · extract_lets +onlyGivenNames x1
    clear_value x1
    extract_lets +onlyGivenNames x2
    clear_value x2
    extract_lets +onlyGivenNames x3
    clear_value x3
    extract_lets +onlyGivenNames x4
    clear_value (e4 : x4 = _)
    refine Keeps.cut (w := w) (s0 := s0) e4 ?_ (fun h4 => ?_) <;> clear e4
    · refine State.countEv_keeps (Within.trans (by decide) hw) ?_
      refine State.setD2d_keeps (Within.trans (by decide) hw) ?_
      exact h
    split
    · extract_lets +onlyGivenNames x7
      clear_value x7
      split
      · refine State.retireBundle_keeps (Within.trans (by decide) hw) ?_
        refine State.setD2d_keeps (Within.trans (by decide) hw) ?_
        exact h4
      · extract_lets +onlyGivenNames x10
        clear_value x10
        extract_lets +onlyGivenNames x11
        clear_value (e11 : x11 = _)
        refine Keeps.cut (w := w) (s0 := s0) e11 ?_ (fun h11 => ?_) <;> clear e11
        · refine State.setD2d_keeps (Within.trans (by decide) hw) ?_
          exact h4
        refine State.nextSparing_keeps (Within.trans (by decide) hw) ?_
        refine State.countEv_keeps (Within.trans (by decide) hw) ?_
        refine State.bump_keeps (Within.trans (by decide) hw) ?_
        exact h11
    · extract_lets +onlyGivenNames x16
      clear_value x16
      extract_lets +onlyGivenNames x17
      clear_value x17
      extract_lets +onlyGivenNames x18
      clear_value (e18 : x18 = _)
      refine Keeps.cut (w := w) (s0 := s0) e18 ?_ (fun h18 => ?_) <;> clear e18
      · refine State.setD2d_keeps (Within.trans (by decide) hw) ?_
        exact h4
      extract_lets +onlyGivenNames x20
      clear_value x20
      extract_lets +onlyGivenNames x21
      clear_value x21
      extract_lets +onlyGivenNames x22
      clear_value x22
      refine State.nextSparing_keeps (Within.trans (by decide) hw) ?_
      split
      · refine State.setD2d_keeps (Within.trans (by decide) hw) ?_
        exact h18
      · exact h18

theorem effRouteSwitch_keeps {w : Nat} {s0 s : State} {a0 : Nat} {a1 : Nat} (hw : Within 9895604649985 w) (h : Keeps w s0 s) : Keeps w s0 (effRouteSwitch a0 a1 s) := by
  unfold effRouteSwitch
  split
  · exact h
  · extract_lets +onlyGivenNames x1
    clear_value x1
    extract_lets +onlyGivenNames x2
    clear_value (e2 : x2 = _)
    refine Keeps.cut (w := w) (s0 := s0) e2 ?_ (fun h2 => ?_) <;> clear e2
    · refine Keeps.set_routes (Within.trans (by decide) hw) ?_
      exact h
    extract_lets +onlyGivenNames x3
    clear_value (e3 : x3 = _)
    refine Keeps.cut (w := w) (s0 := s0) e3 ?_ (fun h3 => ?_) <;> clear e3
    · split
      · exact h2
      · refine State.setF_keeps (Within.trans (by decide) hw) ?_
        exact h2
    split
    · exact h3
    · refine Keeps.set_flight (Within.trans (by decide) hw) ?_
      exact h3

theorem effRestored_keeps {w : Nat} {s0 s : State} {a0 : Nat} (hw : Within 17042604359745 w) (h : Keeps w s0 s) : Keeps w s0 (effRestored a0 s) := by
  unfold effRestored
  split
  · exact h
  · extract_lets +onlyGivenNames x1
    clear_value (e1 : x1 = _)
    refine Keeps.cut (w := w) (s0 := s0) e1 ?_ (fun h1 => ?_) <;> clear e1
    · refine State.d2dFresh_keeps (Within.trans (by decide) hw) ?_
      refine State.d2dFresh_keeps (Within.trans (by decide) hw) ?_
      exact h
    extract_lets +onlyGivenNames x4
    clear_value (e4 : x4 = _)
    refine Keeps.cut (w := w) (s0 := s0) e4 ?_ (fun h4 => ?_) <;> clear e4
    · refine Keeps.foldl (fun st5 e5 h5 => ?_) _ _ ?_
      · refine Keeps.foldl (fun st6 e6 h6 => ?_) _ _ ?_
        · refine effRouteSwitch_keeps (Within.trans (by decide) hw) ?_
          exact h6
        · exact h5
      · refine Keeps.set_notices_unreach (Within.trans (by decide) hw) ?_
        exact h1
    refine State.d2dPost_keeps (Within.trans (by decide) hw) ?_
    exact h4

theorem effSpareGo_keeps {w : Nat} {s0 s : State} {a0 : Nat} (hw : Within 4537134907195457 w) (h : Keeps w s0 s) : Keeps w s0 (effSpareGo a0 s) := by
  unfold effSpareGo
  split
  · extract_lets +onlyGivenNames x1
    clear_value x1
    extract_lets +onlyGivenNames x2
    clear_value (e2 : x2 = _)
    refine Keeps.cut (w := w) (s0 := s0) e2 ?_ (fun h2 => ?_) <;> clear e2
    · refine State.setD2d_keeps (Within.trans (by decide) hw) ?_
      refine State.sat_keeps (Within.trans (by decide) hw) ?_
      refine State.setF_keeps (Within.trans (by decide) hw) ?_
      exact h
    refine State.nextSparing_keeps (Within.trans (by decide) hw) ?_
    refine State.d2dPost_keeps (Within.trans (by decide) hw) ?_
    exact h2
  · exact h

theorem effSpareReq_keeps {w : Nat} {s0 s : State} {a0 : Nat} {a1 : Nat} {a2 : Nat} (hw : Within 549755813888 w) (h : Keeps w s0 s) : Keeps w s0 (effSpareReq a0 a1 a2 s) := by
  unfold effSpareReq
  split
  · split
    · refine State.setD2d_keeps (Within.trans (by decide) hw) ?_
      exact h
    · exact h
  · exact h

theorem effSpareTrained_keeps {w : Nat} {s0 s : State} {a0 : Nat} {a1 : Bool} (hw : Within 4537134907195457 w) (h : Keeps w s0 s) : Keeps w s0 (effSpareTrained a0 a1 s) := by
  unfold effSpareTrained
  split
  · split
    · refine State.setD2d_keeps (Within.trans (by decide) hw) ?_
      exact h
    · split
      · refine State.setD2d_keeps (Within.trans (by decide) hw) ?_
        exact h
      · refine State.retireBundle_keeps (Within.trans (by decide) hw) ?_
        refine State.setD2d_keeps (Within.trans (by decide) hw) ?_
        exact h
  · exact h

theorem execD2dFail_keeps {w : Nat} {s0 s : State} {a0 : Nat} (hw : Within 4537134907195457 w) (h : Keeps w s0 s) : KeepsO w s0 (execD2dFail a0 s) := by
  unfold execD2dFail
  refine KeepsO.onLink ?_
  refine State.failLink_keeps (Within.trans (by decide) hw) ?_
  exact h

theorem execD2dFlit_keeps {w : Nat} {s0 s : State} {a0 : Nat} {a1 : Nat} {a2 : Nat} {a3 : Nat} {a4 : Nat} {a5 : Nat} {a6 : List Nat} {a7 : Bool} (hw : Within 4537134907195457 w) (h : Keeps w s0 s) : KeepsO w s0 (execD2dFlit a0 a1 a2 a3 a4 a5 a6 a7 s) := by
  unfold execD2dFlit
  split
  · refine KeepsO.next ?_
    refine effD2dFlit_keeps (Within.trans (by decide) hw) ?_
    exact h
  · exact KeepsO.fault _

theorem execD2dNoFlitTimeout_keeps {w : Nat} {s0 s : State} {a0 : Nat} (hw : Within 4537134907195457 w) (h : Keeps w s0 s) : KeepsO w s0 (execD2dNoFlitTimeout a0 s) := by
  unfold execD2dNoFlitTimeout
  refine KeepsO.onLink ?_
  split
  · refine State.failLink_keeps (Within.trans (by decide) hw) ?_
    exact h
  · exact h

theorem execD2dRetrain_keeps {w : Nat} {s0 s : State} {a0 : Nat} (hw : Within 549755813889 w) (h : Keeps w s0 s) : KeepsO w s0 (execD2dRetrain a0 s) := by
  unfold execD2dRetrain
  refine KeepsO.onLink ?_
  split
  · refine State.retrainLink_keeps (Within.trans (by decide) hw) ?_
    exact h
  · exact h

theorem execD2dRouteNotice_keeps {w : Nat} {s0 s : State} {a0 : Nat} (hw : Within 4536585151381569 w) (h : Keeps w s0 s) : KeepsO w s0 (execD2dRouteNotice a0 s) := by
  unfold execD2dRouteNotice
  refine KeepsO.onDie ?_
  refine State.recompute_keeps (Within.trans (by decide) hw) ?_
  exact h

theorem execD2dRouteSwitch_keeps {w : Nat} {s0 s : State} {a0 : Nat} {a1 : Nat} (hw : Within 9895604649985 w) (h : Keeps w s0 s) : KeepsO w s0 (execD2dRouteSwitch a0 a1 s) := by
  unfold execD2dRouteSwitch
  split
  · refine KeepsO.next ?_
    refine effRouteSwitch_keeps (Within.trans (by decide) hw) ?_
    exact h
  · exact KeepsO.fault _

theorem execD2dSpareGo_keeps {w : Nat} {s0 s : State} {a0 : Nat} (hw : Within 4537134907195457 w) (h : Keeps w s0 s) : KeepsO w s0 (execD2dSpareGo a0 s) := by
  unfold execD2dSpareGo
  refine KeepsO.onLink ?_
  refine effSpareGo_keeps (Within.trans (by decide) hw) ?_
  exact h

theorem execD2dSpareReq_keeps {w : Nat} {s0 s : State} {a0 : Nat} {a1 : Nat} {a2 : Nat} (hw : Within 549755813888 w) (h : Keeps w s0 s) : KeepsO w s0 (execD2dSpareReq a0 a1 a2 s) := by
  unfold execD2dSpareReq
  refine KeepsO.onLink ?_
  refine effSpareReq_keeps (Within.trans (by decide) hw) ?_
  exact h

theorem execD2dSpareTrained_keeps {w : Nat} {s0 s : State} {a0 : Nat} {a1 : Bool} (hw : Within 4537134907195457 w) (h : Keeps w s0 s) : KeepsO w s0 (execD2dSpareTrained a0 a1 s) := by
  unfold execD2dSpareTrained
  refine KeepsO.onLink ?_
  refine effSpareTrained_keeps (Within.trans (by decide) hw) ?_
  exact h

theorem execLinkRestored_keeps {w : Nat} {s0 s : State} {a0 : Nat} (hw : Within 17042604359745 w) (h : Keeps w s0 s) : KeepsO w s0 (execLinkRestored a0 s) := by
  unfold execLinkRestored
  refine KeepsO.onLink ?_
  refine effRestored_keeps (Within.trans (by decide) hw) ?_
  exact h

theorem State.atomDone_keeps {w : Nat} {s0 s : State} {a0 : Nat} {a1 : IssuedCmd} {a2 : Nat} {a3 : List Byte} (hw : Within 1048576 w) (h : Keeps w s0 s) : Keeps w s0 (State.atomDone s a0 a1 a2 a3) := by
  unfold State.atomDone
  refine State.onT_keeps (Within.trans (by decide) hw) ?_
  exact h

theorem State.atomFault_keeps {w : Nat} {s0 s : State} {a0 : Nat} {a1 : IssuedCmd} {a2 : Nat} {a3 : Nat} (hw : Within 4529988082270273 w) (h : Keeps w s0 s) : Keeps w s0 (State.atomFault s a0 a1 a2 a3) := by
  unfold State.atomFault
  refine State.taskFault_keeps (Within.trans (by decide) hw) ?_
  exact h

theorem effLockFree_keeps {w : Nat} {s0 s : State} {a0 : Nat} (hw : Within 268435456 w) (h : Keeps w s0 s) : Keeps w s0 (effLockFree a0 s) := by
  unfold effLockFree
  extract_lets +onlyGivenNames x1
  clear_value x1
  split
  · split
    · refine State.setSlice_keeps (Within.trans (by decide) hw) ?_
      exact h
    · exact h
  · exact h

theorem effAtomic_keeps {w : Nat} {s0 s : State} {a0 : Nat} (hw : Within 4530044185542721 w) (h : Keeps w s0 s) : Keeps w s0 (effAtomic a0 s) := by
  unfold effAtomic
  split
  · exact h
  · extract_lets +onlyGivenNames x1
    clear_value x1
    split
    · exact h
    · split
      · refine State.atomFault_keeps (Within.trans (by decide) hw) ?_
        exact h
      · extract_lets +onlyGivenNames x3
        clear_value x3
        extract_lets +onlyGivenNames x4
        clear_value x4
        split
        · refine State.atomFault_keeps (Within.trans (by decide) hw) ?_
          refine State.dikeRefuse_keeps (Within.trans (by decide) hw) ?_
          exact h
        · split
          · refine State.atomFault_keeps (Within.trans (by decide) hw) ?_
            refine State.err_keeps (Within.trans (by decide) hw) ?_
            exact h
          · split
            · refine Keeps.set_zeroing (Within.trans (by decide) hw) ?_
              exact h
            · extract_lets +onlyGivenNames x9
              clear_value (e9 : x9 = _)
              refine Keeps.cut (w := w) (s0 := s0) e9 ?_ (fun h9 => ?_) <;> clear e9
              · refine State.drainLine_keeps (Within.trans (by decide) hw) ?_
                refine State.portGrant_keeps (Within.trans (by decide) hw) ?_
                exact h
              split
              · refine State.atomFault_keeps (Within.trans (by decide) hw) ?_
                refine State.poisonRefuse_keeps (Within.trans (by decide) hw) ?_
                exact h9
              · extract_lets +onlyGivenNames x14
                clear_value (e14 : x14 = _)
                refine Keeps.cut (w := w) (s0 := s0) e14 ?_ (fun h14 => ?_) <;> clear e14
                · refine State.touch_keeps (Within.trans (by decide) hw) ?_
                  exact h9
                extract_lets +onlyGivenNames x16
                clear_value x16
                extract_lets +onlyGivenNames x17
                clear_value x17
                extract_lets +onlyGivenNames x18
                clear_value x18
                extract_lets +onlyGivenNames x19
                clear_value (e19 : x19 = _)
                refine Keeps.cut (w := w) (s0 := s0) e19 ?_ (fun h19 => ?_) <;> clear e19
                · refine State.setSlice_keeps (Within.trans (by decide) hw) ?_
                  exact h14
                extract_lets +onlyGivenNames x21
                clear_value (e21 : x21 = _)
                refine Keeps.cut (w := w) (s0 := s0) e21 ?_ (fun h21 => ?_) <;> clear e21
                · refine State.bump_keeps (Within.trans (by decide) hw) ?_
                  refine State.sendInval_keeps (Within.trans (by decide) hw) ?_
                  refine Keeps.set_hbm (Within.trans (by decide) hw) ?_ ?_
                  · exact h19
                  · exact fun m => memWrite_wf _ _ m
                refine State.atomDone_keeps (Within.trans (by decide) hw) ?_
                refine State.countEv_keeps (Within.trans (by decide) hw) ?_
                exact h21

theorem effKflag_keeps {w : Nat} {s0 s : State} {a0 : Nat} (hw : Within 4529988082270273 w) (h : Keeps w s0 s) : Keeps w s0 (effKflag a0 s) := by
  unfold effKflag
  split
  · rename_i y1 y2 y3
    refine State.headFor_error (Within.trans (by decide) hw) ?_ y3
    exact h
  · rename_i y4 y5 y6 y7
    split
    · refine State.taskFault_keeps (Within.trans (by decide) hw) ?_
      refine State.headFor_ok (Within.trans (by decide) hw) ?_ y7
      exact h
    · split
      · refine State.stall_keeps (Within.trans (by decide) hw) ?_
        refine State.headFor_ok (Within.trans (by decide) hw) ?_ y7
        exact h
      · split
        · refine State.stall_keeps (Within.trans (by decide) hw) ?_
          refine State.headFor_ok (Within.trans (by decide) hw) ?_ y7
          exact h
        · refine State.issueCmd_keeps (Within.trans (by decide) hw) ?_
          refine State.headFor_ok (Within.trans (by decide) hw) ?_ y7
          exact h

theorem effKwait_keeps {w : Nat} {s0 s : State} {a0 : Nat} (hw : Within 4529988082270273 w) (h : Keeps w s0 s) : Keeps w s0 (effKwait a0 s) := by
  unfold effKwait
  split
  · rename_i y1 y2 y3
    refine State.headFor_error (Within.trans (by decide) hw) ?_ y3
    exact h
  · rename_i y4 y5 y6 y7
    split
    · refine State.taskFault_keeps (Within.trans (by decide) hw) ?_
      refine State.headFor_ok (Within.trans (by decide) hw) ?_ y7
      exact h
    · split
      · refine State.issueNow_keeps (Within.trans (by decide) hw) ?_
        refine State.headFor_ok (Within.trans (by decide) hw) ?_ y7
        exact h
      · refine State.stall_keeps (Within.trans (by decide) hw) ?_
        refine State.headFor_ok (Within.trans (by decide) hw) ?_ y7
        exact h

theorem effLock_keeps {w : Nat} {s0 s : State} {a0 : Nat} (hw : Within 4529988350705729 w) (h : Keeps w s0 s) : Keeps w s0 (effLock a0 s) := by
  unfold effLock
  split
  · exact h
  · extract_lets +onlyGivenNames x1
    clear_value x1
    split
    · exact h
    · split
      · refine State.atomFault_keeps (Within.trans (by decide) hw) ?_
        exact h
      · extract_lets +onlyGivenNames x3
        clear_value x3
        extract_lets +onlyGivenNames x4
        clear_value x4
        split
        · refine State.atomFault_keeps (Within.trans (by decide) hw) ?_
          refine State.dikeRefuse_keeps (Within.trans (by decide) hw) ?_
          exact h
        · split
          · refine State.atomFault_keeps (Within.trans (by decide) hw) ?_
            refine State.err_keeps (Within.trans (by decide) hw) ?_
            exact h
          · split
            · rename_i y9 y10 y11 y12 y13 y14 y15 y16 y17 y18 y19 y20 y21 y22
              refine State.atomDone_keeps (Within.trans (by decide) hw) ?_
              refine State.setSlice_keeps (Within.trans (by decide) hw) ?_
              exact h

theorem effSq_keeps {w : Nat} {s0 s : State} {a0 : Nat} {a1 : Nat} (hw : Within 4530142969790529 w) (h : Keeps w s0 s) : Keeps w s0 (effSq a0 a1 s) := by
  unfold effSq
  split
  · rename_i y1 y2 y3
    refine State.headFor_error (Within.trans (by decide) hw) ?_ y3
    exact h
  · rename_i y4 y5 y6 y7
    split
    · refine State.taskFault_keeps (Within.trans (by decide) hw) ?_
      refine State.headFor_ok (Within.trans (by decide) hw) ?_ y7
      exact h
    · refine State.issueTo_keeps (Within.trans (by decide) hw) ?_
      refine State.headFor_ok (Within.trans (by decide) hw) ?_ y7
      exact h

theorem execAtomAdd_keeps {w : Nat} {s0 s : State} {a0 : Nat} (hw : Within 4530142969790529 w) (h : Keeps w s0 s) : KeepsO w s0 (execAtomAdd a0 s) := by
  unfold execAtomAdd
  refine KeepsO.onTile ?_
  refine State.issueRow_keeps (Within.trans (by decide) hw) ?_
  exact h

theorem execAtomCas_keeps {w : Nat} {s0 s : State} {a0 : Nat} (hw : Within 4530142969790529 w) (h : Keeps w s0 s) : KeepsO w s0 (execAtomCas a0 s) := by
  unfold execAtomCas
  refine KeepsO.onTile ?_
  refine State.issueRow_keeps (Within.trans (by decide) hw) ?_
  exact h

theorem execAtomFinc_keeps {w : Nat} {s0 s : State} {a0 : Nat} (hw : Within 4530142969790529 w) (h : Keeps w s0 s) : KeepsO w s0 (execAtomFinc a0 s) := by
  unfold execAtomFinc
  refine KeepsO.onTile ?_
  refine State.issueRow_keeps (Within.trans (by decide) hw) ?_
  exact h

theorem execAtomMax_keeps {w : Nat} {s0 s : State} {a0 : Nat} (hw : Within 4530142969790529 w) (h : Keeps w s0 s) : KeepsO w s0 (execAtomMax a0 s) := by
  unfold execAtomMax
  refine KeepsO.onTile ?_
  refine State.issueRow_keeps (Within.trans (by decide) hw) ?_
  exact h

theorem execAtomMin_keeps {w : Nat} {s0 s : State} {a0 : Nat} (hw : Within 4530142969790529 w) (h : Keeps w s0 s) : KeepsO w s0 (execAtomMin a0 s) := by
  unfold execAtomMin
  refine KeepsO.onTile ?_
  refine State.issueRow_keeps (Within.trans (by decide) hw) ?_
  exact h

theorem execAtomSwap_keeps {w : Nat} {s0 s : State} {a0 : Nat} (hw : Within 4530142969790529 w) (h : Keeps w s0 s) : KeepsO w s0 (execAtomSwap a0 s) := by
  unfold execAtomSwap
  refine KeepsO.onTile ?_
  refine State.issueRow_keeps (Within.trans (by decide) hw) ?_
  exact h

theorem execKflag_keeps {w : Nat} {s0 s : State} {a0 : Nat} (hw : Within 4529988082270273 w) (h : Keeps w s0 s) : KeepsO w s0 (execKflag a0 s) := by
  unfold execKflag
  refine KeepsO.onTile ?_
  refine effKflag_keeps (Within.trans (by decide) hw) ?_
  exact h

theorem execKwait_keeps {w : Nat} {s0 s : State} {a0 : Nat} (hw : Within 4529988082270273 w) (h : Keeps w s0 s) : KeepsO w s0 (execKwait a0 s) := by
  unfold execKwait
  refine KeepsO.onTile ?_
  refine effKwait_keeps (Within.trans (by decide) hw) ?_
  exact h

theorem execLacq_keeps {w : Nat} {s0 s : State} {a0 : Nat} (hw : Within 4530142969790529 w) (h : Keeps w s0 s) : KeepsO w s0 (execLacq a0 s) := by
  unfold execLacq
  refine KeepsO.onTile ?_
  refine State.issueRow_keeps (Within.trans (by decide) hw) ?_
  exact h

theorem execLockFree_keeps {w : Nat} {s0 s : State} {a0 : Nat} (hw : Within 268435456 w) (h : Keeps w s0 s) : KeepsO w s0 (execLockFree a0 s) := by
  unfold execLockFree
  refine KeepsO.onSlice ?_
  refine effLockFree_keeps (Within.trans (by decide) hw) ?_
  exact h

theorem execLockOp_keeps {w : Nat} {s0 s : State} {a0 : Nat} (hw : Within 4529988350705729 w) (h : Keeps w s0 s) : KeepsO w s0 (execLockOp a0 s) := by
  unfold execLockOp
  refine KeepsO.onTile ?_
  refine effLock_keeps (Within.trans (by decide) hw) ?_
  exact h

theorem execLrel_keeps {w : Nat} {s0 s : State} {a0 : Nat} (hw : Within 4530142969790529 w) (h : Keeps w s0 s) : KeepsO w s0 (execLrel a0 s) := by
  unfold execLrel
  refine KeepsO.onTile ?_
  refine State.issueRow_keeps (Within.trans (by decide) hw) ?_
  exact h

theorem execSliceAtomic_keeps {w : Nat} {s0 s : State} {a0 : Nat} (hw : Within 4530044185542721 w) (h : Keeps w s0 s) : KeepsO w s0 (execSliceAtomic a0 s) := by
  unfold execSliceAtomic
  refine KeepsO.onTile ?_
  refine effAtomic_keeps (Within.trans (by decide) hw) ?_
  exact h

theorem execSqClose_keeps {w : Nat} {s0 s : State} {a0 : Nat} (hw : Within 4530142969790529 w) (h : Keeps w s0 s) : KeepsO w s0 (execSqClose a0 s) := by
  unfold execSqClose
  refine KeepsO.onTile ?_
  refine effSq_keeps (Within.trans (by decide) hw) ?_
  exact h

theorem execSqOpen_keeps {w : Nat} {s0 s : State} {a0 : Nat} (hw : Within 4530142969790529 w) (h : Keeps w s0 s) : KeepsO w s0 (execSqOpen a0 s) := by
  unfold execSqOpen
  refine KeepsO.onTile ?_
  refine effSq_keeps (Within.trans (by decide) hw) ?_
  exact h

theorem execSqPop_keeps {w : Nat} {s0 s : State} {a0 : Nat} (hw : Within 4530142969790529 w) (h : Keeps w s0 s) : KeepsO w s0 (execSqPop a0 s) := by
  unfold execSqPop
  refine KeepsO.onTile ?_
  refine effSq_keeps (Within.trans (by decide) hw) ?_
  exact h

theorem execSqPush_keeps {w : Nat} {s0 s : State} {a0 : Nat} {a1 : List (Nat × Nat)} (hw : Within 4530142969790529 w) (h : Keeps w s0 s) : KeepsO w s0 (execSqPush a0 a1 s) := by
  unfold execSqPush
  refine KeepsO.onTile ?_
  refine effSq_keeps (Within.trans (by decide) hw) ?_
  refine State.addUpsets_keeps (Within.trans (by decide) hw) ?_
  exact h

end Sys2Proof.Machine
end

