-- ==== Sys2Proof/Laws/KeepsF.lean ====
section
/-!
SUPPORT. What each function of Kneader, KndRows, Links may change: the mask of parts, and both memories stay canonical.
-/
namespace Sys2Proof.Machine

theorem State.kndAbort_keeps {w : Nat} {s0 s : State} {a0 : Nat} {a1 : Nat} {a2 : Nat} (hw : Within 4529988081614913 w) (h : Keeps w s0 s) : Keeps w s0 (State.kndAbort s a0 a1 a2) := by
  unfold State.kndAbort
  split
  · refine State.abortInst_keeps (Within.trans (by decide) hw) ?_
    exact h
  · refine State.polderStop_keeps (Within.trans (by decide) hw) ?_
    refine State.abortInst_keeps (Within.trans (by decide) hw) ?_
    exact h

theorem State.sendStep_keeps {w : Nat} {s0 s : State} {a0 : Nat} {a1 : Nat} {a2 : Nat} {a3 : KDesc} {a4 : KInst} {a5 : Nat} (hw : Within 193514220617793 w) (h : Keeps w s0 s) : Keeps w s0 (State.sendStep s a0 a1 a2 a3 a4 a5).2 := by
  unfold State.sendStep
  split
  · rename_i y1 y2 y3 y4
    extract_lets +onlyGivenNames x5
    clear_value x5
    extract_lets +onlyGivenNames x6
    clear_value x6
    refine Keeps.foldlSnd (fun acc7 e7 h7 => ?_) _ _ ?_
    · split
      · exact h7
      · refine State.sendFlit_keeps (Within.trans (by decide) hw) ?_
        exact h7
    · dsimp only
      exact h

theorem State.kgo_keeps {w : Nat} {s0 s : State} {a0 : Nat} {a1 : Nat} {a2 : Nat} (hw : Within 4705909942059073 w) (h : Keeps w s0 s) : Keeps w s0 (State.kgo a0 a1 a2 s) := by
  induction a0 generalizing a1 a2 s with
  | zero => exact h
  | succ n ih =>
    unfold State.kgo
    split
    · extract_lets +onlyGivenNames x1
      clear_value x1
      extract_lets +onlyGivenNames x2
      clear_value x2
      split
      · exact h
      · split
        · extract_lets +onlyGivenNames x3
          clear_value x3
          refine ih ?_
          refine State.setKinst_keeps (Within.trans (by decide) hw) ?_
          exact h
        · extract_lets +onlyGivenNames x5
          clear_value x5
          extract_lets +onlyGivenNames x6
          clear_value x6
          split
          · refine ih ?_
            refine State.setKinst_keeps (Within.trans (by decide) hw) ?_
            exact h
          · split
            · split
              · rename_i y8 y9 y10 y11 y12 y13 y14 y15 y16 y17 y18 y19 y20 y21 y22
                refine State.kndAbort_keeps (Within.trans (by decide) hw) ?_
                refine Keeps.snd y22 ?_
                refine State.sendMsg_keeps (Within.trans (by decide) hw) ?_
                exact h
              · rename_i y25 y26 y27 y28 y29 y30 y31 y32 y33 y34 y35 y36 y37 y38 y39
                refine ih ?_
                refine State.onKinst_keeps (Within.trans (by decide) hw) ?_
                refine Keeps.snd y39 ?_
                refine State.sendMsg_keeps (Within.trans (by decide) hw) ?_
                exact h
            · split
              · refine ih ?_
                refine State.setKinst_keeps (Within.trans (by decide) hw) ?_
                exact h
              · split
                · refine ih ?_
                  refine State.setKinst_keeps (Within.trans (by decide) hw) ?_
                  exact h
                · split
                  · split
                    · refine State.setKinst_keeps (Within.trans (by decide) hw) ?_
                      exact h
                    · split
                      · rename_i y45 y46 y47 y48 y49 y50 y51 y52 y53 y54 y55 y56 y57 y58 y59 y60 y61 y62 y63
                        refine State.kndAbort_keeps (Within.trans (by decide) hw) ?_
                        refine Keeps.snd y63 ?_
                        refine State.sendStep_keeps (Within.trans (by decide) hw) ?_
                        exact h
                      · rename_i y66 y67 y68 y69 y70 y71 y72 y73 y74 y75 y76 y77 y78 y79 y80 y81 y82 y83 y84
                        refine ih ?_
                        refine State.onKinst_keeps (Within.trans (by decide) hw) ?_
                        refine Keeps.snd y84 ?_
                        refine State.sendStep_keeps (Within.trans (by decide) hw) ?_
                        exact h
                  · extract_lets +onlyGivenNames x87
                    clear_value x87
                    split
                    · refine ih ?_
                      refine State.setKinst_keeps (Within.trans (by decide) hw) ?_
                      exact h
                    · split
                      · refine State.setKinst_keeps (Within.trans (by decide) hw) ?_
                        exact h
                      · split
                        · rename_i y90 y91 y92 y93 y94 y95 y96 y97 y98 y99 y100 y101 y102 y103 y104 y105 y106 y107 y108 y109 y110 y111
                          refine ih ?_
                          refine State.countEv_keeps (Within.trans (by decide) hw) ?_
                          refine State.orReg_keeps (Within.trans (by decide) hw) ?_
                          refine State.setKinst_keeps (Within.trans (by decide) hw) ?_
                          exact h
    · exact h

theorem State.waveGo_keeps {w : Nat} {s0 s : State} {a0 : Nat} {a1 : Nat} {a2 : Nat} (hw : Within 4529988081614913 w) (h : Keeps w s0 s) : Keeps w s0 (State.waveGo a0 a1 a2 s) := by
  induction a0 generalizing a1 a2 s with
  | zero => exact h
  | succ n ih =>
    unfold State.waveGo
    split
    · extract_lets +onlyGivenNames x1
      clear_value x1
      split
      · exact h
      · split
        · refine State.setKinst_keeps (Within.trans (by decide) hw) ?_
          exact h
        · extract_lets +onlyGivenNames x3
          clear_value x3
          split
          · split
            · rename_i y4 y5 y6 y7 y8 y9 y10 y11 y12 y13 y14 y15 y16 y17
              refine State.kndAbort_keeps (Within.trans (by decide) hw) ?_
              refine Keeps.snd y17 ?_
              refine State.sendMsg_keeps (Within.trans (by decide) hw) ?_
              exact h
            · rename_i y20 y21 y22 y23 y24 y25 y26 y27 y28 y29 y30 y31 y32 y33
              refine ih ?_
              refine State.onKinst_keeps (Within.trans (by decide) hw) ?_
              refine Keeps.snd y33 ?_
              refine State.sendMsg_keeps (Within.trans (by decide) hw) ?_
              exact h
          · split
            · exact h
            · refine ih ?_
              refine State.setKinst_keeps (Within.trans (by decide) hw) ?_
              exact h
    · exact h

theorem State.actMsg_keeps {w : Nat} {s0 s : State} {a0 : Nat} {a1 : Nat} {a2 : Nat} {a3 : Nat} {a4 : KMsg} (hw : Within 4705909942059073 w) (h : Keeps w s0 s) : Keeps w s0 (State.actMsg s a0 a1 a2 a3 a4) := by
  unfold State.actMsg
  extract_lets +onlyGivenNames x1
  clear_value x1
  extract_lets +onlyGivenNames x2
  clear_value x2
  split
  · exact h
  · split
    · refine State.kndAbort_keeps (Within.trans (by decide) hw) ?_
      exact h
    · split
      · refine State.kgo_keeps (Within.trans (by decide) hw) ?_
        refine State.setKinst_keeps (Within.trans (by decide) hw) ?_
        exact h
      · split
        · exact h
        · extract_lets +onlyGivenNames x6
          clear_value x6
          extract_lets +onlyGivenNames x7
          clear_value x7
          extract_lets +onlyGivenNames x8
          clear_value (e8 : x8 = _)
          refine Keeps.cut (w := w) (s0 := s0) e8 ?_ (fun h8 => ?_) <;> clear e8
          · refine State.setKinst_keeps (Within.trans (by decide) hw) ?_
            exact h
          extract_lets +onlyGivenNames x10
          clear_value (e10 : x10 = _)
          refine Keeps.cut (w := w) (s0 := s0) e10 ?_ (fun h10 => ?_) <;> clear e10
          · split
            · exact h8
            · refine State.sendMsg_keeps (Within.trans (by decide) hw) ?_
              exact h8
          refine State.waveGo_keeps (Within.trans (by decide) hw) ?_
          exact h10

theorem State.newInst_keeps {w : Nat} {s0 s : State} {a0 : Nat} {a1 : Nat} (hw : Within 4503599627370496 w) (h : Keeps w s0 s) : Keeps w s0 (State.newInst s a0 a1) := by
  unfold State.newInst
  refine State.setKinst_keeps (Within.trans (by decide) hw) ?_
  exact h

theorem State.startWave_keeps {w : Nat} {s0 s : State} {a0 : Nat} {a1 : Nat} {a2 : Nat} (hw : Within 4529988081614913 w) (h : Keeps w s0 s) : Keeps w s0 (State.startWave s a0 a1 a2) := by
  unfold State.startWave
  refine State.waveGo_keeps (Within.trans (by decide) hw) ?_
  refine State.onKinst_keeps (Within.trans (by decide) hw) ?_
  exact h

theorem State.dmaFail_keeps {w : Nat} {s0 s : State} {a0 : Nat} {a1 : Nat} {a2 : DmaErr} (hw : Within 4529988082270273 w) (h : Keeps w s0 s) : Keeps w s0 (State.dmaFail s a0 a1 a2) := by
  unfold State.dmaFail
  extract_lets +onlyGivenNames x1
  clear_value x1
  extract_lets +onlyGivenNames x2
  clear_value (e2 : x2 = _)
  refine Keeps.cut (w := w) (s0 := s0) e2 ?_ (fun h2 => ?_) <;> clear e2
  · refine State.abortInst_keeps (Within.trans (by decide) hw) ?_
    exact h
  extract_lets +onlyGivenNames x4
  clear_value (e4 : x4 = _)
  refine Keeps.cut (w := w) (s0 := s0) e4 ?_ (fun h4 => ?_) <;> clear e4
  · refine State.taskFault_keeps (Within.trans (by decide) hw) ?_
    exact h2
  split
  · refine State.polderStop_keeps (Within.trans (by decide) hw) ?_
    exact h4
  · exact h4

theorem State.dmaRead_keeps {w : Nat} {s0 s : State} {a0 : Nat} {a1 : Nat} {a2 : Nat} (hw : Within 175702081 w) (h : Keeps w s0 s) : Keeps w s0 (State.dmaRead s a0 a1 a2).2 := by
  unfold State.dmaRead
  split
  · dsimp only
    exact h
  · split
    · rename_i y1 y2 y3 y4 y5
      dsimp only
      refine State.countEv_keeps (Within.trans (by decide) hw) ?_
      refine Keeps.snd y5 ?_
      refine State.scrRead_keeps (Within.trans (by decide) hw) ?_
      exact h
    · rename_i y8 y9 y10 y11
      dsimp only
      refine Keeps.snd y11 ?_
      refine State.scrRead_keeps (Within.trans (by decide) hw) ?_
      exact h

theorem State.readV_keeps {w : Nat} {s0 s : State} {a0 : Nat} {a1 : Nat} {a2 : KDesc} (hw : Within 175702081 w) (h : Keeps w s0 s) : Keeps w s0 (State.readV s a0 a1 a2).2 := by
  unfold State.readV
  refine Keeps.foldlSnd (fun acc1 e1 h1 => ?_) _ _ ?_
  · split
    · dsimp only
      exact h1
    · split
      · dsimp only
        exact h1
      · split
        · rename_i y2 y3 y4 y5 y6 y7 y8 y9 y10 y11
          dsimp only
          refine Keeps.snd y11 ?_
          refine Keeps.foldlSnd (fun acc12 e12 h12 => ?_) _ _ ?_
          · split
            · dsimp only
              exact h12
            · split
              · rename_i y13 y14 y15 y16 y17 y18 y19
                dsimp only
                refine Keeps.snd y19 ?_
                refine State.dmaRead_keeps (Within.trans (by decide) hw) ?_
                exact h12
              · rename_i y21 y22 y23 y24 y25 y26 y27
                dsimp only
                refine Keeps.snd y27 ?_
                refine State.dmaRead_keeps (Within.trans (by decide) hw) ?_
                exact h12
          · dsimp only
            exact h1
        · rename_i y29 y30 y31 y32 y33 y34 y35 y36 y37 y38
          dsimp only
          refine Keeps.snd y38 ?_
          refine Keeps.foldlSnd (fun acc39 e39 h39 => ?_) _ _ ?_
          · split
            · dsimp only
              exact h39
            · split
              · rename_i y40 y41 y42 y43 y44 y45 y46
                dsimp only
                refine Keeps.snd y46 ?_
                refine State.dmaRead_keeps (Within.trans (by decide) hw) ?_
                exact h39
              · rename_i y48 y49 y50 y51 y52 y53 y54
                dsimp only
                refine Keeps.snd y54 ?_
                refine State.dmaRead_keeps (Within.trans (by decide) hw) ?_
                exact h39
          · dsimp only
            exact h1
  · dsimp only
    exact h

theorem State.tryTrigger_keeps {w : Nat} {s0 s : State} {a0 : Nat} {a1 : Nat} (hw : Within 4705909942714433 w) (h : Keeps w s0 s) : Keeps w s0 (State.tryTrigger s a0 a1) := by
  unfold State.tryTrigger
  extract_lets +onlyGivenNames x1
  clear_value x1
  split
  · exact h
  · extract_lets +onlyGivenNames x2
    clear_value x2
    split
    · exact h
    · extract_lets +onlyGivenNames x3
      clear_value (e3 : x3 = _)
      refine Keeps.cut (w := w) (s0 := s0) e3 ?_ (fun h3 => ?_) <;> clear e3
      · refine State.newInst_keeps (Within.trans (by decide) hw) ?_
        refine State.setKdesc_keeps (Within.trans (by decide) hw) ?_
        exact h
      split
      · split
        · refine State.onKinst_keeps (Within.trans (by decide) hw) ?_
          exact h3
        · refine State.startWave_keeps (Within.trans (by decide) hw) ?_
          exact h3
      · split
        · rename_i y8 y9 y10 y11 y12 y13 y14 y15 y16
          refine State.dmaFail_keeps (Within.trans (by decide) hw) ?_
          refine Keeps.snd y16 ?_
          refine State.readV_keeps (Within.trans (by decide) hw) ?_
          exact h3
        · rename_i y19 y20 y21 y22 y23 y24 y25 y26 y27
          refine State.kgo_keeps (Within.trans (by decide) hw) ?_
          refine State.onKinst_keeps (Within.trans (by decide) hw) ?_
          refine Keeps.snd y27 ?_
          refine State.readV_keeps (Within.trans (by decide) hw) ?_
          exact h3

theorem State.beyond_keeps {w : Nat} {s0 s : State} {a0 : Nat} {a1 : Nat} (hw : Within 4529988081614913 w) (h : Keeps w s0 s) : Keeps w s0 (State.beyond s a0 a1) := by
  unfold State.beyond
  split
  · refine State.err_keeps (Within.trans (by decide) hw) ?_
    exact h
  · refine Keeps.foldl (fun st2 e2 h2 => ?_) _ _ ?_
    · refine State.kndAbort_keeps (Within.trans (by decide) hw) ?_
      exact h2
    · exact h

theorem State.kndCommit_keeps {w : Nat} {s0 s : State} {a0 : Nat} {a1 : Nat} (hw : Within 4705909942714433 w) (h : Keeps w s0 s) : Keeps w s0 (State.kndCommit s a0 a1) := by
  unfold State.kndCommit
  extract_lets +onlyGivenNames x1
  clear_value x1
  extract_lets +onlyGivenNames x2
  clear_value (e2 : x2 = _)
  refine Keeps.cut (w := w) (s0 := s0) e2 ?_ (fun h2 => ?_) <;> clear e2
  · refine State.onKinst_keeps (Within.trans (by decide) hw) ?_
    refine State.setKdesc_keeps (Within.trans (by decide) hw) ?_
    exact h
  extract_lets +onlyGivenNames x5
  clear_value (e5 : x5 = _)
  refine Keeps.cut (w := w) (s0 := s0) e5 ?_ (fun h5 => ?_) <;> clear e5
  · refine State.bump_keeps (Within.trans (by decide) hw) ?_
    exact h2
  split
  · refine State.tryTrigger_keeps (Within.trans (by decide) hw) ?_
    refine State.beatHeart_keeps (Within.trans (by decide) hw) ?_
    exact h5
  · exact h5

theorem State.stray_keeps {w : Nat} {s0 s : State} {a0 : Nat} (hw : Within 4503599801499713 w) (h : Keeps w s0 s) : Keeps w s0 (State.stray s a0) := by
  unfold State.stray
  extract_lets +onlyGivenNames x1
  clear_value (e1 : x1 = _)
  refine Keeps.cut (w := w) (s0 := s0) e1 ?_ (fun h1 => ?_) <;> clear e1
  · refine State.sat_keeps (Within.trans (by decide) hw) ?_
    exact h
  split
  · exact h1
  · refine State.fault_keeps (Within.trans (by decide) hw) ?_
    refine State.setKnd_keeps (Within.trans (by decide) hw) ?_
    exact h1

theorem State.takeFlit_keeps {w : Nat} {s0 s : State} {a0 : Nat} (hw : Within 4705909942059073 w) (h : Keeps w s0 s) : Keeps w s0 (State.takeFlit s a0) := by
  unfold State.takeFlit
  extract_lets +onlyGivenNames x1
  split
  · exact h
  · extract_lets +onlyGivenNames x2
    clear_value x2
    extract_lets +onlyGivenNames x3
    clear_value (e3 : x3 = _)
    refine Keeps.cut (w := w) (s0 := s0) e3 ?_ (fun h3 => ?_) <;> clear e3
    · refine State.setKnd_keeps (Within.trans (by decide) hw) ?_
      exact h
    split
    · refine State.stray_keeps (Within.trans (by decide) hw) ?_
      exact h3
    · split
      · exact h3
      · split
        · exact h3
        · extract_lets +onlyGivenNames x6
          clear_value x6
          refine State.kgo_keeps (Within.trans (by decide) hw) ?_
          refine State.onKinst_keeps (Within.trans (by decide) hw) ?_
          exact h3

theorem State.takeMsg_keeps {w : Nat} {s0 s : State} {a0 : Nat} {a1 : Nat} (hw : Within 4705909942059073 w) (h : Keeps w s0 s) : Keeps w s0 (State.takeMsg s a0 a1) := by
  unfold State.takeMsg
  extract_lets +onlyGivenNames x1
  split
  · exact h
  · extract_lets +onlyGivenNames x2
    clear_value x2
    extract_lets +onlyGivenNames x3
    clear_value (e3 : x3 = _)
    refine Keeps.cut (w := w) (s0 := s0) e3 ?_ (fun h3 => ?_) <;> clear e3
    · refine State.setKnd_keeps (Within.trans (by decide) hw) ?_
      exact h
    split
    · refine State.actMsg_keeps (Within.trans (by decide) hw) ?_
      exact h3
    · refine State.beyond_keeps (Within.trans (by decide) hw) ?_
      exact h3
    · refine State.sendMsg_keeps (Within.trans (by decide) hw) ?_
      exact h3
    · refine State.stray_keeps (Within.trans (by decide) hw) ?_
      exact h3
    · exact h3

theorem State.abortOn_keeps {w : Nat} {s0 s : State} {a0 : Nat} {a1 : Nat} (hw : Within 4529988081614913 w) (h : Keeps w s0 s) : Keeps w s0 (State.abortOn s a0 a1) := by
  unfold State.abortOn
  extract_lets +onlyGivenNames x1
  clear_value x1
  refine Keeps.foldl (fun st2 e2 h2 => ?_) _ _ ?_
  · split
    · split
      · refine State.polderStop_keeps (Within.trans (by decide) hw) ?_
        refine State.fault_keeps (Within.trans (by decide) hw) ?_
        exact h2
      · refine State.kndAbort_keeps (Within.trans (by decide) hw) ?_
        exact h2
    · exact h2
  · exact h

theorem State.quiesceEnd_keeps {w : Nat} {s0 s : State} {a0 : Nat} (hw : Within 4705909942714433 w) (h : Keeps w s0 s) : Keeps w s0 (State.quiesceEnd s a0) := by
  unfold State.quiesceEnd
  split
  · extract_lets +onlyGivenNames x1
    extract_lets +onlyGivenNames x2
    clear_value (e2 : x2 = _)
    refine Keeps.cut (w := w) (s0 := s0) e2 ?_ (fun h2 => ?_) <;> clear e2
    · refine Keeps.foldl (fun st3 e3 h3 => ?_) _ _ ?_
      · split
        · split
          · exact h3
          · refine State.kndAbort_keeps (Within.trans (by decide) hw) ?_
            exact h3
        · exact h3
      · exact h
    split
    · exact h2
    · extract_lets +onlyGivenNames x5
      clear_value x5
      extract_lets +onlyGivenNames x6
      clear_value (e6 : x6 = _)
      refine Keeps.cut (w := w) (s0 := s0) e6 ?_ (fun h6 => ?_) <;> clear e6
      · refine State.setKnd_keeps (Within.trans (by decide) hw) ?_
        exact h2
      refine Keeps.foldl (fun st8 e8 h8 => ?_) _ _ ?_
      · split
        · refine State.tryTrigger_keeps (Within.trans (by decide) hw) ?_
          exact h8
        · exact h8
      · exact h6
  · exact h

theorem execKndQuiesce_keeps {w : Nat} {s0 s : State} {a0 : Nat} {a1 : Nat} {a2 : Nat} (hw : Within 4705909942714433 w) (h : Keeps w s0 s) : KeepsO w s0 (execKndQuiesce a0 a1 a2 s) := by
  unfold execKndQuiesce
  refine KeepsO.onDie ?_
  split
  · exact h
  · refine State.quiesceEnd_keeps (Within.trans (by decide) hw) ?_
    refine State.setKnd_keeps (Within.trans (by decide) hw) ?_
    exact h

theorem effKndPost_keeps {w : Nat} {s0 s : State} {a0 : Nat} {a1 : Nat} (hw : Within 4705909942714433 w) (h : Keeps w s0 s) : Keeps w s0 (effKndPost a0 a1 s) := by
  unfold effKndPost
  extract_lets +onlyGivenNames x1
  clear_value x1
  split
  · exact h
  · extract_lets +onlyGivenNames x2
    clear_value x2
    extract_lets +onlyGivenNames x3
    clear_value x3
    extract_lets +onlyGivenNames x4
    clear_value x4
    extract_lets +onlyGivenNames x5
    split
    · dsimp only [x5]
      refine State.err_keeps (Within.trans (by decide) hw) ?_
      refine State.setF_keeps (Within.trans (by decide) hw) ?_
      exact h
    · extract_lets +onlyGivenNames x8
      clear_value x8
      split
      · dsimp only [x5]
        refine State.err_keeps (Within.trans (by decide) hw) ?_
        refine State.setF_keeps (Within.trans (by decide) hw) ?_
        exact h
      · split
        · dsimp only [x5]
          refine State.err_keeps (Within.trans (by decide) hw) ?_
          refine State.setF_keeps (Within.trans (by decide) hw) ?_
          exact h
        · split
          · dsimp only [x5]
            refine State.err_keeps (Within.trans (by decide) hw) ?_
            refine State.setF_keeps (Within.trans (by decide) hw) ?_
            exact h
          · split
            · split
              · dsimp only [x5]
                refine State.err_keeps (Within.trans (by decide) hw) ?_
                refine State.setF_keeps (Within.trans (by decide) hw) ?_
                exact h
              · refine State.tryTrigger_keeps (Within.trans (by decide) hw) ?_
                refine State.setF_keeps (Within.trans (by decide) hw) ?_
                refine State.setKdesc_keeps (Within.trans (by decide) hw) ?_
                exact h
            · split
              · dsimp only [x5]
                refine State.err_keeps (Within.trans (by decide) hw) ?_
                refine State.setF_keeps (Within.trans (by decide) hw) ?_
                exact h
              · refine State.tryTrigger_keeps (Within.trans (by decide) hw) ?_
                refine State.setF_keeps (Within.trans (by decide) hw) ?_
                refine State.setKdesc_keeps (Within.trans (by decide) hw) ?_
                exact h

theorem State.dmaWrite_keeps {w : Nat} {s0 s : State} {a0 : Nat} {a1 : Nat} {a2 : Nat} {a3 : List (List Byte)} (hw : Within 1703937 w) (h : Keeps w s0 s) : Keeps w s0 (State.dmaWrite s a0 a1 a2 a3).2 := by
  unfold State.dmaWrite
  refine Keeps.foldlSnd (fun acc1 e1 h1 => ?_) _ _ ?_
  · split
    · dsimp only
      exact h1
    · split
      · dsimp only
        exact h1
      · split
        · dsimp only
          exact h1
        · dsimp only
          refine State.countEv_keeps (Within.trans (by decide) hw) ?_
          refine State.scrWrite_keeps (Within.trans (by decide) hw) ?_
          exact h1
  · dsimp only
    exact h

theorem State.kndFrame_keeps {w : Nat} {s0 s : State} (hw : Within 4503599627370496 w) (h : Keeps w s0 s) : Keeps w s0 (State.kndFrame s) := by
  unfold State.kndFrame
  refine Keeps.set_kneaders (Within.trans (by decide) hw) ?_
  exact h

theorem effBarrier_keeps {w : Nat} {s0 s : State} {a0 : Nat} {a1 : Nat} (hw : Within 4705909942714433 w) (h : Keeps w s0 s) : Keeps w s0 (effBarrier a0 a1 s) := by
  unfold effBarrier
  split
  · exact h
  · refine State.kndCommit_keeps (Within.trans (by decide) hw) ?_
    exact h

theorem effCommit'_keeps {w : Nat} {s0 s : State} {a0 : Nat} {a1 : Nat} (hw : Within 4705927391281217 w) (h : Keeps w s0 s) : Keeps w s0 (effCommit' a0 a1 s) := by
  unfold effCommit'
  split
  · extract_lets +onlyGivenNames x1
    clear_value x1
    split
    · rename_i y2 y3 y4 y5 y6 y7 y8 y9 y10 y11
      extract_lets +onlyGivenNames x12
      clear_value (e12 : x12 = _)
      refine Keeps.cut (w := w) (s0 := s0) e12 ?_ (fun h12 => ?_) <;> clear e12
      · refine Keeps.foldl (fun st13 e13 h13 => ?_) _ _ ?_
        · split
          · split
            · exact h13
            · refine State.scrUndefine_keeps (Within.trans (by decide) hw) ?_
              exact h13
          · exact h13
        · refine Keeps.snd y11 ?_
          refine State.polLoad_keeps (Within.trans (by decide) hw) ?_
          exact h
      refine State.kndAbort_keeps (Within.trans (by decide) hw) ?_
      refine State.onKinst_keeps (Within.trans (by decide) hw) ?_
      exact h12
    · rename_i y18 y19 y20 y21 y22 y23 y24 y25 y26 y27
      extract_lets +onlyGivenNames x28
      clear_value x28
      extract_lets +onlyGivenNames x29
      clear_value (e29 : x29 = _)
      refine Keeps.cutSnd (w := w) (s0 := s0) e29 ?_ (fun h29 => ?_) <;> clear e29
      · refine Keeps.foldlSnd (fun acc30 e30 h30 => ?_) _ _ ?_
        · split
          · dsimp only
            exact h30
          · split
            · refine State.dmaWrite_keeps (Within.trans (by decide) hw) ?_
              exact h30
            · dsimp only
              exact h30
        · dsimp only
          refine Keeps.snd y27 ?_
          refine State.polLoad_keeps (Within.trans (by decide) hw) ?_
          exact h
      split
      · refine State.dmaFail_keeps (Within.trans (by decide) hw) ?_
        refine State.onKinst_keeps (Within.trans (by decide) hw) ?_
        exact h29
      · refine State.kndCommit_keeps (Within.trans (by decide) hw) ?_
        exact h29
  · exact h

theorem effDeadline_keeps {w : Nat} {s0 s : State} {a0 : Nat} {a1 : Nat} (hw : Within 4529988081614913 w) (h : Keeps w s0 s) : Keeps w s0 (effDeadline a0 a1 s) := by
  unfold effDeadline
  extract_lets +onlyGivenNames x1
  clear_value x1
  split
  · exact h
  · split
    · exact h
    · split
      · refine State.kndAbort_keeps (Within.trans (by decide) hw) ?_
        exact h
      · extract_lets +onlyGivenNames x3
        clear_value x3
        extract_lets +onlyGivenNames x4
        clear_value x4
        refine State.fault_keeps (Within.trans (by decide) hw) ?_
        refine State.kndErr_keeps (Within.trans (by decide) hw) ?_
        refine State.setKinst_keeps (Within.trans (by decide) hw) ?_
        exact h

theorem effFbarArrival_keeps {w : Nat} {s0 s : State} {a0 : Nat} (hw : Within 4529988081614913 w) (h : Keeps w s0 s) : Keeps w s0 (effFbarArrival a0 s) := by
  unfold effFbarArrival
  extract_lets +onlyGivenNames x1
  clear_value x1
  split
  · exact h
  · split
    · exact h
    · extract_lets +onlyGivenNames x2
      clear_value x2
      extract_lets +onlyGivenNames x3
      clear_value x3
      split
      · exact h
      · extract_lets +onlyGivenNames x4
        clear_value (e4 : x4 = _)
        refine Keeps.cut (w := w) (s0 := s0) e4 ?_ (fun h4 => ?_) <;> clear e4
        · split
          · exact h
          · refine State.newInst_keeps (Within.trans (by decide) hw) ?_
            exact h
        split
        · exact h4
        · split
          · exact h4
          · extract_lets +onlyGivenNames x6
            clear_value (e6 : x6 = _)
            refine Keeps.cut (w := w) (s0 := s0) e6 ?_ (fun h6 => ?_) <;> clear e6
            · refine State.setKinst_keeps (Within.trans (by decide) hw) ?_
              exact h4
            split
            · split
              · refine State.onKinst_keeps (Within.trans (by decide) hw) ?_
                exact h6
              · refine State.startWave_keeps (Within.trans (by decide) hw) ?_
                refine State.onKinst_keeps (Within.trans (by decide) hw) ?_
                exact h6
            · exact h6

theorem effKflagAccept_keeps {w : Nat} {s0 s : State} {a0 : Nat} (hw : Within 4706064830234689 w) (h : Keeps w s0 s) : Keeps w s0 (effKflagAccept a0 s) := by
  unfold effKflagAccept
  split
  · exact h
  · split
    · exact h
    · extract_lets +onlyGivenNames x1
      clear_value x1
      refine State.tryTrigger_keeps (Within.trans (by decide) hw) ?_
      refine State.leave_keeps (Within.trans (by decide) hw) ?_
      refine State.setKdesc_keeps (Within.trans (by decide) hw) ?_
      exact h

theorem effShadow_keeps {w : Nat} {s0 s : State} {a0 : Nat} {a1 : Nat} (hw : Within 4530052774821953 w) (h : Keeps w s0 s) : Keeps w s0 (effShadow a0 a1 s) := by
  unfold effShadow
  split
  · extract_lets +onlyGivenNames x1
    clear_value x1
    split
    · exact h
    · split
      · rename_i y2 y3 y4 y5 y6 y7 y8 y9 y10 y11 y12 y13 y14
        refine State.kndAbort_keeps (Within.trans (by decide) hw) ?_
        refine Keeps.snd y14 ?_
        refine State.polStore_keeps (Within.trans (by decide) hw) ?_
        exact h
      · rename_i y17 y18 y19 y20 y21 y22 y23 y24 y25 y26 y27 y28
        refine State.startWave_keeps (Within.trans (by decide) hw) ?_
        refine State.onKinst_keeps (Within.trans (by decide) hw) ?_
        refine Keeps.snd y28 ?_
        refine State.polStore_keeps (Within.trans (by decide) hw) ?_
        exact h
  · exact h

theorem execBarrierCompletion_keeps {w : Nat} {s0 s : State} {a0 : Nat} {a1 : Nat} (hw : Within 4705909942714433 w) (h : Keeps w s0 s) : KeepsO w s0 (execBarrierCompletion a0 a1 s) := by
  unfold execBarrierCompletion
  refine KeepsO.onDie ?_
  refine effBarrier_keeps (Within.trans (by decide) hw) ?_
  exact h

theorem execFbarArrival_keeps {w : Nat} {s0 s : State} {a0 : Nat} (hw : Within 4529988081614913 w) (h : Keeps w s0 s) : KeepsO w s0 (execFbarArrival a0 s) := by
  unfold execFbarArrival
  refine KeepsO.onTile ?_
  refine effFbarArrival_keeps (Within.trans (by decide) hw) ?_
  exact h

theorem execKflagAccept_keeps {w : Nat} {s0 s : State} {a0 : Nat} (hw : Within 4706064830234689 w) (h : Keeps w s0 s) : KeepsO w s0 (execKflagAccept a0 s) := by
  unfold execKflagAccept
  refine KeepsO.onTile ?_
  refine effKflagAccept_keeps (Within.trans (by decide) hw) ?_
  exact h

theorem execKndAbort_keeps {w : Nat} {s0 s : State} {a0 : Nat} {a1 : Nat} (hw : Within 4529988081614913 w) (h : Keeps w s0 s) : KeepsO w s0 (execKndAbort a0 a1 s) := by
  unfold execKndAbort
  refine KeepsO.onDie ?_
  refine State.abortOn_keeps (Within.trans (by decide) hw) ?_
  exact h

theorem execKndAbortMsg_keeps {w : Nat} {s0 s : State} {a0 : Nat} (hw : Within 4705909942059073 w) (h : Keeps w s0 s) : KeepsO w s0 (execKndAbortMsg a0 s) := by
  unfold execKndAbortMsg
  refine KeepsO.onDie ?_
  refine State.takeMsg_keeps (Within.trans (by decide) hw) ?_
  exact h

theorem execKndArrive_keeps {w : Nat} {s0 s : State} {a0 : Nat} (hw : Within 4705909942059073 w) (h : Keeps w s0 s) : KeepsO w s0 (execKndArrive a0 s) := by
  unfold execKndArrive
  refine KeepsO.onDie ?_
  refine State.takeMsg_keeps (Within.trans (by decide) hw) ?_
  exact h

theorem execKndCommitComplete_keeps {w : Nat} {s0 s : State} {a0 : Nat} {a1 : Nat} (hw : Within 4705927391281217 w) (h : Keeps w s0 s) : KeepsO w s0 (execKndCommitComplete a0 a1 s) := by
  unfold execKndCommitComplete
  refine KeepsO.onDie ?_
  refine effCommit'_keeps (Within.trans (by decide) hw) ?_
  exact h

theorem execKndDataFlit_keeps {w : Nat} {s0 s : State} {a0 : Nat} (hw : Within 4705909942059073 w) (h : Keeps w s0 s) : KeepsO w s0 (execKndDataFlit a0 s) := by
  unfold execKndDataFlit
  refine KeepsO.onDie ?_
  refine State.takeFlit_keeps (Within.trans (by decide) hw) ?_
  exact h

theorem execKndDeadline_keeps {w : Nat} {s0 s : State} {a0 : Nat} {a1 : Nat} (hw : Within 4529988081614913 w) (h : Keeps w s0 s) : KeepsO w s0 (execKndDeadline a0 a1 s) := by
  unfold execKndDeadline
  refine KeepsO.onDie ?_
  refine effDeadline_keeps (Within.trans (by decide) hw) ?_
  exact h

theorem execKndDone_keeps {w : Nat} {s0 s : State} {a0 : Nat} (hw : Within 4705909942059073 w) (h : Keeps w s0 s) : KeepsO w s0 (execKndDone a0 s) := by
  unfold execKndDone
  refine KeepsO.onDie ?_
  refine State.takeMsg_keeps (Within.trans (by decide) hw) ?_
  exact h

theorem execKndPost_keeps {w : Nat} {s0 s : State} {a0 : Nat} {a1 : Nat} (hw : Within 4705909942714433 w) (h : Keeps w s0 s) : KeepsO w s0 (execKndPost a0 a1 s) := by
  unfold execKndPost
  split
  · refine KeepsO.next ?_
    refine effKndPost_keeps (Within.trans (by decide) hw) ?_
    exact h
  · exact KeepsO.fault _

theorem execKndReady_keeps {w : Nat} {s0 s : State} {a0 : Nat} (hw : Within 4705909942059073 w) (h : Keeps w s0 s) : KeepsO w s0 (execKndReady a0 s) := by
  unfold execKndReady
  refine KeepsO.onDie ?_
  refine State.takeMsg_keeps (Within.trans (by decide) hw) ?_
  exact h

theorem execKndShadowComplete_keeps {w : Nat} {s0 s : State} {a0 : Nat} {a1 : Nat} (hw : Within 4530052774821953 w) (h : Keeps w s0 s) : KeepsO w s0 (execKndShadowComplete a0 a1 s) := by
  unfold execKndShadowComplete
  refine KeepsO.onDie ?_
  refine effShadow_keeps (Within.trans (by decide) hw) ?_
  exact h

theorem execQuiesceExpiry_keeps {w : Nat} {s0 s : State} {a0 : Nat} (hw : Within 4705909942714433 w) (h : Keeps w s0 s) : KeepsO w s0 (execQuiesceExpiry a0 s) := by
  unfold execQuiesceExpiry
  refine KeepsO.onDie ?_
  refine State.quiesceEnd_keeps (Within.trans (by decide) hw) ?_
  exact h

theorem execRouteTableWrite_keeps {w : Nat} {s0 s : State} {a0 : Nat} {a1 : Nat} (hw : Within 1688849860263936 w) (h : Keeps w s0 s) : KeepsO w s0 (execRouteTableWrite a0 a1 s) := by
  unfold execRouteTableWrite
  refine KeepsO.next ?_
  refine Keeps.set_rt_untrusted (Within.trans (by decide) hw) ?_
  exact h

theorem execDevNodeWrite_keeps {w : Nat} {s0 s : State} {a0 : Nat} (hw : Within 1 w) (h : Keeps w s0 s) : KeepsO w s0 (execDevNodeWrite a0 s) := by
  unfold execDevNodeWrite
  refine KeepsO.next ?_
  split
  · refine State.err_keeps (Within.trans (by decide) hw) ?_
    exact h
  · refine State.setF_keeps (Within.trans (by decide) hw) ?_
    refine State.setF_keeps (Within.trans (by decide) hw) ?_
    exact h

theorem execFrameLoad_keeps {w : Nat} {s0 s : State} {a0 : Nat} (hw : Within 1025 w) (h : Keeps w s0 s) : KeepsO w s0 (execFrameLoad a0 s) := by
  unfold execFrameLoad
  refine KeepsO.next ?_
  split
  · exact h
  · split
    · refine State.err_keeps (Within.trans (by decide) hw) ?_
      exact h
    · refine Keeps.set_frameLoad (Within.trans (by decide) hw) ?_
      exact h

theorem execDevTorusWrite_keeps {w : Nat} {s0 s : State} {a0 : Nat} (hw : Within 1 w) (h : Keeps w s0 s) : KeepsO w s0 (execDevTorusWrite a0 s) := by
  unfold execDevTorusWrite
  refine KeepsO.next ?_
  split
  · refine State.err_keeps (Within.trans (by decide) hw) ?_
    exact h
  · refine State.setF_keeps (Within.trans (by decide) hw) ?_
    exact h

theorem State.startRetrain_keeps {w : Nat} {s0 s : State} {a0 : Nat} (hw : Within 1 w) (h : Keeps w s0 s) : Keeps w s0 (State.startRetrain s a0) := by
  unfold State.startRetrain
  refine State.setLnk_keeps (Within.trans (by decide) hw) ?_
  exact h

theorem State.losePeer_keeps {w : Nat} {s0 s : State} {a0 : Nat} {a1 : Nat} {a2 : Nat} (hw : Within 4529988081614913 w) (h : Keeps w s0 s) : Keeps w s0 (State.losePeer s a0 a1 a2) := by
  unfold State.losePeer
  refine Keeps.foldl (fun st1 e1 h1 => ?_) _ _ ?_
  · split
    · split
      · refine State.kndAbort_keeps (Within.trans (by decide) hw) ?_
        exact h1
      · exact h1
    · exact h1
  · exact h

theorem State.setVia_keeps {w : Nat} {s0 s : State} {a0 : Nat} {a1 : Option Nat} (hw : Within 1 w) (h : Keeps w s0 s) : Keeps w s0 (State.setVia s a0 a1) := by
  unfold State.setVia
  refine State.setF_keeps (Within.trans (by decide) hw) ?_
  refine State.setF_keeps (Within.trans (by decide) hw) ?_
  exact h

theorem State.leaveUp_keeps {w : Nat} {s0 s : State} {a0 : Nat} (hw : Within 4705909942059073 w) (h : Keeps w s0 s) : Keeps w s0 (State.leaveUp s a0) := by
  unfold State.leaveUp
  extract_lets +onlyGivenNames x1
  clear_value x1
  split
  · exact h
  · extract_lets +onlyGivenNames x2
    clear_value (e2 : x2 = _)
    refine Keeps.cut (w := w) (s0 := s0) e2 ?_ (fun h2 => ?_) <;> clear e2
    · refine State.setPort_keeps (Within.trans (by decide) hw) ?_
      exact h
    extract_lets +onlyGivenNames x4
    clear_value x4
    split
    · refine Keeps.foldl (fun st5 e5 h5 => ?_) _ _ ?_
      · refine State.setVia_keeps (Within.trans (by decide) hw) ?_
        exact h5
      · exact h2
    · extract_lets +onlyGivenNames x7
      clear_value x7
      split
      · extract_lets +onlyGivenNames x8
        clear_value (e8 : x8 = _)
        refine Keeps.cut (w := w) (s0 := s0) e8 ?_ (fun h8 => ?_) <;> clear e8
        · refine State.setF_keeps (Within.trans (by decide) hw) ?_
          refine Keeps.foldl (fun st10 e10 h10 => ?_) _ _ ?_
          · refine State.setVia_keeps (Within.trans (by decide) hw) ?_
            exact h10
          · exact h2
        extract_lets +onlyGivenNames x12
        clear_value x12
        extract_lets +onlyGivenNames x13
        clear_value (e13 : x13 = _)
        refine Keeps.cut (w := w) (s0 := s0) e13 ?_ (fun h13 => ?_) <;> clear e13
        · refine State.setPort_keeps (Within.trans (by decide) hw) ?_
          refine State.setF_keeps (Within.trans (by decide) hw) ?_
          exact h8
        extract_lets +onlyGivenNames x16
        clear_value (e16 : x16 = _)
        refine Keeps.cut (w := w) (s0 := s0) e16 ?_ (fun h16 => ?_) <;> clear e16
        · refine Keeps.foldl (fun st17 e17 h17 => ?_) _ _ ?_
          · refine State.putMsg_keeps (Within.trans (by decide) hw) ?_
            exact h17
          · refine State.bump_keeps (Within.trans (by decide) hw) ?_
            exact h13
        refine State.pumpPort_keeps (Within.trans (by decide) hw) ?_
        refine State.lnkPost_keeps (Within.trans (by decide) hw) ?_
        exact h16
      · extract_lets +onlyGivenNames x22
        clear_value (e22 : x22 = _)
        refine Keeps.cut (w := w) (s0 := s0) e22 ?_ (fun h22 => ?_) <;> clear e22
        · refine State.lnkPost_keeps (Within.trans (by decide) hw) ?_
          refine State.setF_keeps (Within.trans (by decide) hw) ?_
          refine Keeps.foldl (fun st25 e25 h25 => ?_) _ _ ?_
          · refine State.setVia_keeps (Within.trans (by decide) hw) ?_
            exact h25
          · exact h2
        refine Keeps.foldl (fun st27 e27 h27 => ?_) _ _ ?_
        · refine State.losePeer_keeps (Within.trans (by decide) hw) ?_
          exact h27
        · exact h22

theorem effLnkEnable_keeps {w : Nat} {s0 s : State} {a0 : Nat} {a1 : Bool} (hw : Within 4705909942059073 w) (h : Keeps w s0 s) : Keeps w s0 (effLnkEnable a0 a1 s) := by
  unfold effLnkEnable
  extract_lets +onlyGivenNames x1
  clear_value (e1 : x1 = _)
  refine Keeps.cut (w := w) (s0 := s0) e1 ?_ (fun h1 => ?_) <;> clear e1
  · refine State.setF_keeps (Within.trans (by decide) hw) ?_
    exact h
  split
  · split
    · refine State.setLnk_keeps (Within.trans (by decide) hw) ?_
      exact h1
    · exact h1
  · refine State.setLnk_keeps (Within.trans (by decide) hw) ?_
    split
    · refine State.leaveUp_keeps (Within.trans (by decide) hw) ?_
      exact h1
    · exact h1

theorem State.resend_keeps {w : Nat} {s0 s : State} {a0 : Nat} {a1 : List Flit} (hw : Within 35184372088833 w) (h : Keeps w s0 s) : Keeps w s0 (State.resend s a0 a1) := by
  unfold State.resend
  extract_lets +onlyGivenNames x1
  clear_value (e1 : x1 = _)
  refine Keeps.cut (w := w) (s0 := s0) e1 ?_ (fun h1 => ?_) <;> clear e1
  · refine Keeps.set_sentFlits (Within.trans (by decide) hw) ?_
    exact h
  refine State.bump_keeps (Within.trans (by decide) hw) ?_
  refine State.bump_keeps (Within.trans (by decide) hw) ?_
  exact h1

theorem State.takeBarrier_keeps {w : Nat} {s0 s : State} {a0 : Nat} {a1 : Nat × KMsg} (hw : Within 4521191987544129 w) (h : Keeps w s0 s) : Keeps w s0 (State.takeBarrier s a0 a1) := by
  unfold State.takeBarrier
  extract_lets +onlyGivenNames x1
  clear_value x1
  split
  · exact h
  · extract_lets +onlyGivenNames x2
    clear_value (e2 : x2 = _)
    refine Keeps.cut (w := w) (s0 := s0) e2 ?_ (fun h2 => ?_) <;> clear e2
    · refine State.setPort_keeps (Within.trans (by decide) hw) ?_
      exact h
    split
    · refine State.linkDike_keeps (Within.trans (by decide) hw) ?_
      exact h2
    · extract_lets +onlyGivenNames x5
      clear_value x5
      refine State.setKnd_keeps (Within.trans (by decide) hw) ?_
      exact h2

theorem State.frameMark_keeps {w : Nat} {s0 s : State} {a0 : Nat} {a1 : Nat} {a2 : Nat} (hw : Within 17592360173633 w) (h : Keeps w s0 s) : Keeps w s0 (State.frameMark s a0 a1 a2) := by
  unfold State.frameMark
  extract_lets +onlyGivenNames x1
  clear_value x1
  split
  · exact h
  · split
    · rename_i y2 y3 y4 y5 y6
      extract_lets +onlyGivenNames x7
      have h7 : Keeps w s0 x7 := by
        refine State.countEv_keeps (Within.trans (by decide) hw) ?_
        refine State.setReg_keeps (Within.trans (by decide) hw) ?_
        refine State.setReg_keeps (Within.trans (by decide) hw) ?_
        refine State.setReg_keeps (Within.trans (by decide) hw) ?_
        refine Keeps.snd y6 ?_
        refine drawFree_keeps (Within.trans (by decide) hw) ?_
        exact h
      extract_lets +onlyGivenNames x13 x14
      split
      · refine State.lnkPost_keeps (Within.trans (by decide) hw) ?_
        refine State.setPort_keeps (Within.trans (by decide) hw) ?_
        exact h7
      · exact h7

theorem State.ctlUp_keeps {w : Nat} {s0 s : State} {a0 : Nat} {a1 : List Byte} (hw : Within 4697113847988289 w) (h : Keeps w s0 s) : Keeps w s0 (State.ctlUp s a0 a1) := by
  unfold State.ctlUp
  extract_lets +onlyGivenNames x1
  clear_value x1
  extract_lets +onlyGivenNames x2
  clear_value x2
  extract_lets +onlyGivenNames x3
  clear_value x3
  extract_lets +onlyGivenNames x4
  clear_value x4
  extract_lets +onlyGivenNames x5
  clear_value x5
  extract_lets +onlyGivenNames x6
  clear_value (e6 : x6 = _)
  refine Keeps.cut (w := w) (s0 := s0) e6 ?_ (fun h6 => ?_) <;> clear e6
  · refine State.setPort_keeps (Within.trans (by decide) hw) ?_
    exact h
  extract_lets +onlyGivenNames x8
  clear_value (e8 : x8 = _)
  refine Keeps.cut (w := w) (s0 := s0) e8 ?_ (fun h8 => ?_) <;> clear e8
  · split
    · refine State.resend_keeps (Within.trans (by decide) hw) ?_
      exact h6
    · exact h6
  extract_lets +onlyGivenNames x10
  clear_value (e10 : x10 = _)
  refine Keeps.cut (w := w) (s0 := s0) e10 ?_ (fun h10 => ?_) <;> clear e10
  · refine State.frameMark_keeps (Within.trans (by decide) hw) ?_
    exact h8
  extract_lets +onlyGivenNames x12
  clear_value x12
  extract_lets +onlyGivenNames x13
  clear_value (e13 : x13 = _)
  refine Keeps.cut (w := w) (s0 := s0) e13 ?_ (fun h13 => ?_) <;> clear e13
  · refine Keeps.foldl (fun st14 e14 h14 => ?_) _ _ ?_
    · refine State.takeBarrier_keeps (Within.trans (by decide) hw) ?_
      exact h14
    · exact h10
  refine State.pumpPort_keeps (Within.trans (by decide) hw) ?_
  exact h13

theorem State.deliver.put_keeps {w : Nat} {s0 s : State} {a0 : Flit} {a1 : SMap FlowEntry} {a2 : FlowEntry} (hw : Within 4573968371548161 w) (h : Keeps w s0 s) : Keeps w s0 (State.deliver.put a0 s a1 a2) := by
  unfold State.deliver.put
  split
  · extract_lets +onlyGivenNames x1
    clear_value (e1 : x1 = _)
    refine Keeps.cut (w := w) (s0 := s0) e1 ?_ (fun h1 => ?_) <;> clear e1
    · refine Keeps.set_flows (Within.trans (by decide) hw) ?_
      exact h
    refine State.bump_keeps (Within.trans (by decide) hw) ?_
    refine State.setKnd_keeps (Within.trans (by decide) hw) ?_
    exact h1
  · refine Keeps.set_flows (Within.trans (by decide) hw) ?_
    exact h

theorem State.deliver_keeps {w : Nat} {s0 s : State} {a0 : Nat} {a1 : Flit} (hw : Within 4573968545677377 w) (h : Keeps w s0 s) : Keeps w s0 (State.deliver s a0 a1) := by
  unfold State.deliver
  extract_lets +onlyGivenNames x1
  clear_value x1
  extract_lets +onlyGivenNames x2
  split
  · split
    · refine State.lnkPost_keeps (Within.trans (by decide) hw) ?_
      exact h
    · refine State.deliver.put_keeps (Within.trans (by decide) hw) ?_
      exact h
  · extract_lets +onlyGivenNames x5
    clear_value x5
    split
    · dsimp only [x2]
      refine State.sat_keeps (Within.trans (by decide) hw) ?_
      exact h
    · refine State.deliver.put_keeps (Within.trans (by decide) hw) ?_
      exact h

theorem State.transit_keeps {w : Nat} {s0 s : State} {a0 : Nat} {a1 : Nat} {a2 : Flit} {a3 : Nat} {a4 : Bool} (hw : Within 193514220617793 w) (h : Keeps w s0 s) : Keeps w s0 (State.transit s a0 a1 a2 a3 a4) := by
  unfold State.transit
  split
  · refine State.linkDike_keeps (Within.trans (by decide) hw) ?_
    exact h
  · split
    · refine State.sat_keeps (Within.trans (by decide) hw) ?_
      exact h
    · refine State.gatePut_keeps (Within.trans (by decide) hw) ?_
      exact h

theorem State.ingress_keeps {w : Nat} {s0 s : State} {a0 : Nat} {a1 : Flit} (hw : Within 4767482592165953 w) (h : Keeps w s0 s) : Keeps w s0 (State.ingress s a0 a1) := by
  unfold State.ingress
  split
  · refine State.linkDike_keeps (Within.trans (by decide) hw) ?_
    exact h
  · split
    · refine State.sat_keeps (Within.trans (by decide) hw) ?_
      exact h
    · split
      · refine State.deliver_keeps (Within.trans (by decide) hw) ?_
        exact h
      · refine State.transit_keeps (Within.trans (by decide) hw) ?_
        exact h

theorem State.lnkBeat_keeps {w : Nat} {s0 s : State} (hw : Within 193514046488641 w) (h : Keeps w s0 s) : Keeps w s0 (State.lnkBeat s) := by
  unfold State.lnkBeat
  refine Keeps.foldl (fun st1 e1 h1 => ?_) _ _ ?_
  · refine State.pumpPort_keeps (Within.trans (by decide) hw) ?_
    refine State.newAllowance_keeps (Within.trans (by decide) hw) ?_
    exact h1
  · exact h

theorem State.lnkFrame_keeps {w : Nat} {s0 s : State} (hw : Within 17592186044416 w) (h : Keeps w s0 s) : Keeps w s0 (State.lnkFrame s) := by
  unfold State.lnkFrame
  refine Keeps.set_ports (Within.trans (by decide) hw) ?_
  exact h

theorem State.miswired_keeps {w : Nat} {s0 s : State} {a0 : Nat} (hw : Within 4705909942059073 w) (h : Keeps w s0 s) : Keeps w s0 (State.miswired s a0) := by
  unfold State.miswired
  refine State.lnkPost_keeps (Within.trans (by decide) hw) ?_
  refine State.setLnk_keeps (Within.trans (by decide) hw) ?_
  split
  · refine State.leaveUp_keeps (Within.trans (by decide) hw) ?_
    exact h
  · exact h

theorem State.setWidth_keeps {w : Nat} {s0 s : State} {a0 : Nat} {a1 : Nat} {a2 : Nat} (hw : Within 1 w) (h : Keeps w s0 s) : Keeps w s0 (State.setWidth s a0 a1 a2) := by
  unfold State.setWidth
  refine State.setF_keeps (Within.trans (by decide) hw) ?_
  refine State.setF_keeps (Within.trans (by decide) hw) ?_
  exact h

theorem effCable_keeps {w : Nat} {s0 s : State} {a0 : Nat} {a1 : Bool} (hw : Within 4705909942059073 w) (h : Keeps w s0 s) : Keeps w s0 (effCable a0 a1 s) := by
  unfold effCable
  extract_lets +onlyGivenNames x1
  clear_value x1
  extract_lets +onlyGivenNames x2
  clear_value (e2 : x2 = _)
  refine Keeps.cut (w := w) (s0 := s0) e2 ?_ (fun h2 => ?_) <;> clear e2
  · refine State.setPort_keeps (Within.trans (by decide) hw) ?_
    exact h
  extract_lets +onlyGivenNames x4
  clear_value x4
  split
  · exact h2
  · split
    · refine State.lnkPost_keeps (Within.trans (by decide) hw) ?_
      refine State.setLnk_keeps (Within.trans (by decide) hw) ?_
      refine State.leaveUp_keeps (Within.trans (by decide) hw) ?_
      exact h2
    · refine State.setLnk_keeps (Within.trans (by decide) hw) ?_
      exact h2

theorem effCtl_keeps {w : Nat} {s0 s : State} {a0 : Nat} {a1 : Bool} {a2 : List Byte} (hw : Within 4705909942059073 w) (h : Keeps w s0 s) : Keeps w s0 (effCtl a0 a1 a2 s) := by
  unfold effCtl
  extract_lets +onlyGivenNames x1
  clear_value x1
  split
  · exact h
  · extract_lets +onlyGivenNames x2
    clear_value x2
    extract_lets +onlyGivenNames x3
    clear_value (e3 : x3 = _)
    refine Keeps.cut (w := w) (s0 := s0) e3 ?_ (fun h3 => ?_) <;> clear e3
    · split
      · refine State.setReg_keeps (Within.trans (by decide) hw) ?_
        exact h
      · exact h
    split
    · split
      · exact h3
      · split
        · refine State.setPort_keeps (Within.trans (by decide) hw) ?_
          refine State.setLnk_keeps (Within.trans (by decide) hw) ?_
          exact h3
        · refine State.miswired_keeps (Within.trans (by decide) hw) ?_
          exact h3
    · split
      · refine State.miswired_keeps (Within.trans (by decide) hw) ?_
        exact h3
      · refine State.ctlUp_keeps (Within.trans (by decide) hw) ?_
        exact h3

theorem effDataFlit_keeps {w : Nat} {s0 s : State} {a0 : Nat} {a1 : Bool} {a2 : Nat} {a3 : List Byte} {a4 : Nat} (hw : Within 4767482592165953 w) (h : Keeps w s0 s) : Keeps w s0 (effDataFlit a0 a1 a2 a3 a4 s) := by
  unfold effDataFlit
  extract_lets +onlyGivenNames x1
  clear_value x1
  extract_lets +onlyGivenNames x2
  clear_value x2
  split
  · exact h
  · split
    · split
      · refine State.lasting_keeps (Within.trans (by decide) hw) ?_
        refine State.startRetrain_keeps (Within.trans (by decide) hw) ?_
        exact h
      · split
        · refine State.setPort_keeps (Within.trans (by decide) hw) ?_
          exact h
        · exact h
    · split
      · exact h
      · extract_lets +onlyGivenNames x6
        clear_value x6
        extract_lets +onlyGivenNames x7
        clear_value x7
        extract_lets +onlyGivenNames x8
        clear_value x8
        extract_lets +onlyGivenNames x9
        clear_value (e9 : x9 = _)
        refine Keeps.cut (w := w) (s0 := s0) e9 ?_ (fun h9 => ?_) <;> clear e9
        · refine State.bump_keeps (Within.trans (by decide) hw) ?_
          refine State.setPort_keeps (Within.trans (by decide) hw) ?_
          exact h
        extract_lets +onlyGivenNames x12
        clear_value (e12 : x12 = _)
        refine Keeps.cut (w := w) (s0 := s0) e12 ?_ (fun h12 => ?_) <;> clear e12
        · split
          · refine State.bump_keeps (Within.trans (by decide) hw) ?_
            exact h9
          · exact h9
        refine State.pumpPort_keeps (Within.trans (by decide) hw) ?_
        refine State.ingress_keeps (Within.trans (by decide) hw) ?_
        exact h12

theorem effRestoredPort_keeps {w : Nat} {s0 s : State} {a0 : Nat} (hw : Within 174129217 w) (h : Keeps w s0 s) : Keeps w s0 (effRestoredPort a0 s) := by
  unfold effRestoredPort
  extract_lets +onlyGivenNames x1
  clear_value x1
  extract_lets +onlyGivenNames x2
  clear_value x2
  split
  · exact h
  · extract_lets +onlyGivenNames x3
    clear_value (e3 : x3 = _)
    refine Keeps.cut (w := w) (s0 := s0) e3 ?_ (fun h3 => ?_) <;> clear e3
    · refine State.setVia_keeps (Within.trans (by decide) hw) ?_
      exact h
    extract_lets +onlyGivenNames x5
    clear_value (e5 : x5 = _)
    refine Keeps.cut (w := w) (s0 := s0) e5 ?_ (fun h5 => ?_) <;> clear e5
    · split
      · refine State.setF_keeps (Within.trans (by decide) hw) ?_
        exact h3
      · exact h3
    refine State.lnkPost_keeps (Within.trans (by decide) hw) ?_
    exact h5

theorem effRetrainEnd_keeps {w : Nat} {s0 s : State} {a0 : Nat} {a1 : Bool} {a2 : Nat} {a3 : Nat} (hw : Within 4705909942059073 w) (h : Keeps w s0 s) : Keeps w s0 (effRetrainEnd a0 a1 a2 a3 s) := by
  unfold effRetrainEnd
  extract_lets +onlyGivenNames x1
  clear_value x1
  extract_lets +onlyGivenNames x2
  clear_value x2
  extract_lets +onlyGivenNames x3
  clear_value x3
  extract_lets +onlyGivenNames x4
  clear_value x4
  split
  · exact h
  · extract_lets +onlyGivenNames x5
    clear_value (e5 : x5 = _)
    refine Keeps.cut (w := w) (s0 := s0) e5 ?_ (fun h5 => ?_) <;> clear e5
    · refine State.bump_keeps (Within.trans (by decide) hw) ?_
      exact h
    split
    · extract_lets +onlyGivenNames x7
      clear_value (e7 : x7 = _)
      refine Keeps.cut (w := w) (s0 := s0) e7 ?_ (fun h7 => ?_) <;> clear e7
      · refine State.leaveUp_keeps (Within.trans (by decide) hw) ?_
        exact h5
      refine State.setLnk_keeps (Within.trans (by decide) hw) ?_
      refine State.setPort_keeps (Within.trans (by decide) hw) ?_
      exact h7
    · extract_lets +onlyGivenNames x11
      clear_value x11
      extract_lets +onlyGivenNames x12
      clear_value (e12 : x12 = _)
      refine Keeps.cut (w := w) (s0 := s0) e12 ?_ (fun h12 => ?_) <;> clear e12
      · split
        · refine State.setWidth_keeps (Within.trans (by decide) hw) ?_
          exact h5
        · split
          · refine State.setWidth_keeps (Within.trans (by decide) hw) ?_
            exact h5
          · split
            · refine State.lnkPost_keeps (Within.trans (by decide) hw) ?_
              refine State.setWidth_keeps (Within.trans (by decide) hw) ?_
              exact h5
            · refine State.setWidth_keeps (Within.trans (by decide) hw) ?_
              exact h5
      extract_lets +onlyGivenNames x18
      clear_value x18
      extract_lets +onlyGivenNames x19
      clear_value (e19 : x19 = _)
      refine Keeps.cut (w := w) (s0 := s0) e19 ?_ (fun h19 => ?_) <;> clear e19
      · refine State.setLnk_keeps (Within.trans (by decide) hw) ?_
        refine State.setPort_keeps (Within.trans (by decide) hw) ?_
        exact h12
      refine State.pumpPort_keeps (Within.trans (by decide) hw) ?_
      refine State.resend_keeps (Within.trans (by decide) hw) ?_
      refine State.lnkPost_keeps (Within.trans (by decide) hw) ?_
      exact h19

theorem effTrainEnd_keeps {w : Nat} {s0 s : State} {a0 : Nat} {a1 : Bool} (hw : Within 17592360173633 w) (h : Keeps w s0 s) : Keeps w s0 (effTrainEnd a0 a1 s) := by
  unfold effTrainEnd
  extract_lets +onlyGivenNames x1
  clear_value x1
  split
  · exact h
  · split
    · refine State.setReg_keeps (Within.trans (by decide) hw) ?_
      refine State.setF_keeps (Within.trans (by decide) hw) ?_
      refine State.setF_keeps (Within.trans (by decide) hw) ?_
      refine State.setLnk_keeps (Within.trans (by decide) hw) ?_
      refine State.setPort_keeps (Within.trans (by decide) hw) ?_
      exact h
    · split
      · refine State.setPort_keeps (Within.trans (by decide) hw) ?_
        exact h
      · refine State.lnkPost_keeps (Within.trans (by decide) hw) ?_
        refine State.setLnk_keeps (Within.trans (by decide) hw) ?_
        refine State.setPort_keeps (Within.trans (by decide) hw) ?_
        exact h

theorem execCblPrsntChange_keeps {w : Nat} {s0 s : State} {a0 : Nat} {a1 : Bool} (hw : Within 4705909942059073 w) (h : Keeps w s0 s) : KeepsO w s0 (execCblPrsntChange a0 a1 s) := by
  unfold execCblPrsntChange
  refine KeepsO.onPort ?_
  refine effCable_keeps (Within.trans (by decide) hw) ?_
  exact h

theorem execFullTrainingEnd_keeps {w : Nat} {s0 s : State} {a0 : Nat} {a1 : Bool} (hw : Within 17592360173633 w) (h : Keeps w s0 s) : KeepsO w s0 (execFullTrainingEnd a0 a1 s) := by
  unfold execFullTrainingEnd
  refine KeepsO.onPort ?_
  refine effTrainEnd_keeps (Within.trans (by decide) hw) ?_
  exact h

theorem execLnkCtlFlit_keeps {w : Nat} {s0 s : State} {a0 : Nat} {a1 : Bool} {a2 : List Byte} (hw : Within 4705909942059073 w) (h : Keeps w s0 s) : KeepsO w s0 (execLnkCtlFlit a0 a1 a2 s) := by
  unfold execLnkCtlFlit
  refine KeepsO.onPort ?_
  refine effCtl_keeps (Within.trans (by decide) hw) ?_
  exact h

theorem execLnkDataFlit_keeps {w : Nat} {s0 s : State} {a0 : Nat} {a1 : Bool} {a2 : Nat} {a3 : List Byte} {a4 : Nat} (hw : Within 4767482592165953 w) (h : Keeps w s0 s) : KeepsO w s0 (execLnkDataFlit a0 a1 a2 a3 a4 s) := by
  unfold execLnkDataFlit
  refine KeepsO.onPort ?_
  refine effDataFlit_keeps (Within.trans (by decide) hw) ?_
  exact h

theorem execLnkEnable_keeps {w : Nat} {s0 s : State} {a0 : Nat} {a1 : Bool} (hw : Within 4705909942059073 w) (h : Keeps w s0 s) : KeepsO w s0 (execLnkEnable a0 a1 s) := by
  unfold execLnkEnable
  refine KeepsO.onPort ?_
  refine effLnkEnable_keeps (Within.trans (by decide) hw) ?_
  exact h

theorem execLnkLockLoss_keeps {w : Nat} {s0 s : State} {a0 : Nat} (hw : Within 4705909942059073 w) (h : Keeps w s0 s) : KeepsO w s0 (execLnkLockLoss a0 s) := by
  unfold execLnkLockLoss
  refine KeepsO.onPort ?_
  split
  · refine State.setLnk_keeps (Within.trans (by decide) hw) ?_
    refine State.leaveUp_keeps (Within.trans (by decide) hw) ?_
    exact h
  · exact h

theorem execLnkRetrain_keeps {w : Nat} {s0 s : State} {a0 : Nat} (hw : Within 1 w) (h : Keeps w s0 s) : KeepsO w s0 (execLnkRetrain a0 s) := by
  unfold execLnkRetrain
  refine KeepsO.onPort ?_
  split
  · refine State.startRetrain_keeps (Within.trans (by decide) hw) ?_
    exact h
  · exact h

theorem execLnkSignalDetect_keeps {w : Nat} {s0 s : State} {a0 : Nat} (hw : Within 17592186044417 w) (h : Keeps w s0 s) : KeepsO w s0 (execLnkSignalDetect a0 s) := by
  unfold execLnkSignalDetect
  refine KeepsO.onPort ?_
  split
  · exact h
  · refine State.setPort_keeps (Within.trans (by decide) hw) ?_
    refine State.setLnk_keeps (Within.trans (by decide) hw) ?_
    exact h

theorem execPortRestored_keeps {w : Nat} {s0 s : State} {a0 : Nat} (hw : Within 174129217 w) (h : Keeps w s0 s) : KeepsO w s0 (execPortRestored a0 s) := by
  unfold execPortRestored
  refine KeepsO.onPort ?_
  refine effRestoredPort_keeps (Within.trans (by decide) hw) ?_
  exact h

theorem execRetrainEnd_keeps {w : Nat} {s0 s : State} {a0 : Nat} {a1 : Bool} {a2 : Nat} {a3 : Nat} (hw : Within 4705909942059073 w) (h : Keeps w s0 s) : KeepsO w s0 (execRetrainEnd a0 a1 a2 a3 s) := by
  unfold execRetrainEnd
  refine KeepsO.onPort ?_
  refine effRetrainEnd_keeps (Within.trans (by decide) hw) ?_
  exact h

end Sys2Proof.Machine
end

