-- ==== Sys2Proof/Laws/KeepsG.lean ====
section
/-!
SUPPORT. What each function of PowerOps, Snapshot, Release, HostOps, LoadBase, PldOps may change: the mask of parts, and both memories stay canonical.
-/
namespace Sys2Proof.Machine

theorem State.ampNote_keeps {w : Nat} {s0 s : State} {a0 : Nat} (hw : Within 1 w) (h : Keeps w s0 s) : Keeps w s0 (State.ampNote s a0) := by
  unfold State.ampNote
  extract_lets +onlyGivenNames x1
  clear_value x1
  split
  · refine State.setF_keeps (Within.trans (by decide) hw) ?_
    exact h
  · exact h

theorem State.retarget_keeps {w : Nat} {s0 s : State} (hw : Within 1 w) (h : Keeps w s0 s) : Keeps w s0 (State.retarget s) := by
  unfold State.retarget
  extract_lets +onlyGivenNames x1
  clear_value x1
  refine State.setF_keeps (Within.trans (by decide) hw) ?_
  refine State.setF_keeps (Within.trans (by decide) hw) ?_
  refine State.setF_keeps (Within.trans (by decide) hw) ?_
  refine State.setF_keeps (Within.trans (by decide) hw) ?_
  exact h

theorem State.powerPost_keeps {w : Nat} {s0 s : State} {a0 : Nat} {a1 : Nat} {a2 : Nat} {a3 : Nat} (hw : Within 174129217 w) (h : Keeps w s0 s) : Keeps w s0 (State.powerPost s a0 a1 a2 a3) := by
  unfold State.powerPost
  refine State.fault_keeps (Within.trans (by decide) hw) ?_
  exact h

theorem State.logEpisode_keeps {w : Nat} {s0 s : State} {a0 : Episode} (hw : Within 9007199428870209 w) (h : Keeps w s0 s) : Keeps w s0 (State.logEpisode s a0) := by
  unfold State.logEpisode
  extract_lets +onlyGivenNames x1
  clear_value x1
  extract_lets +onlyGivenNames x2
  clear_value x2
  extract_lets +onlyGivenNames x3
  clear_value x3
  extract_lets +onlyGivenNames x4
  clear_value (e4 : x4 = _)
  refine Keeps.cut (w := w) (s0 := s0) e4 ?_ (fun h4 => ?_) <;> clear e4
  · refine Keeps.set_power (Within.trans (by decide) hw) ?_
    exact h
  extract_lets +onlyGivenNames x5
  clear_value (e5 : x5 = _)
  refine Keeps.cut (w := w) (s0 := s0) e5 ?_ (fun h5 => ?_) <;> clear e5
  · refine State.setF_keeps (Within.trans (by decide) hw) ?_
    refine State.setF_keeps (Within.trans (by decide) hw) ?_
    exact h4
  extract_lets +onlyGivenNames x8
  clear_value (e8 : x8 = _)
  refine Keeps.cut (w := w) (s0 := s0) e8 ?_ (fun h8 => ?_) <;> clear e8
  · refine State.post_keeps (Within.trans (by decide) hw) ?_
    exact h5
  split
  · refine State.powerPost_keeps (Within.trans (by decide) hw) ?_
    refine State.setF_keeps (Within.trans (by decide) hw) ?_
    exact h8
  · exact h8

theorem State.endEpisode_keeps {w : Nat} {s0 s : State} {a0 : Nat} {a1 : Nat} (hw : Within 9007199428870209 w) (h : Keeps w s0 s) : Keeps w s0 (State.endEpisode s a0 a1) := by
  unfold State.endEpisode
  split
  · exact h
  · refine State.logEpisode_keeps (Within.trans (by decide) hw) ?_
    refine Keeps.set_power (Within.trans (by decide) hw) ?_
    exact h

theorem State.notePeak_keeps {w : Nat} {s0 s : State} {a0 : Nat} {a1 : Nat} {a2 : Nat} (hw : Within 9007199254740992 w) (h : Keeps w s0 s) : Keeps w s0 (State.notePeak s a0 a1 a2) := by
  unfold State.notePeak
  refine Keeps.set_power (Within.trans (by decide) hw) ?_
  exact h

theorem State.beginEpisode_keeps {w : Nat} {s0 s : State} {a0 : Nat} {a1 : Nat} {a2 : Nat} {a3 : Nat} (hw : Within 9007199428870209 w) (h : Keeps w s0 s) : Keeps w s0 (State.beginEpisode s a0 a1 a2 a3) := by
  unfold State.beginEpisode
  extract_lets +onlyGivenNames x1
  clear_value x1
  extract_lets +onlyGivenNames x2
  clear_value (e2 : x2 = _)
  refine Keeps.cut (w := w) (s0 := s0) e2 ?_ (fun h2 => ?_) <;> clear e2
  · refine Keeps.set_power (Within.trans (by decide) hw) ?_
    exact h
  split
  · refine State.powerPost_keeps (Within.trans (by decide) hw) ?_
    exact h2
  · exact h2

theorem State.setCeil_keeps {w : Nat} {s0 s : State} {a0 : Nat} {a1 : Nat} {a2 : Nat} {a3 : Nat} (hw : Within 9007199428870209 w) (h : Keeps w s0 s) : Keeps w s0 (State.setCeil s a0 a1 a2 a3) := by
  unfold State.setCeil
  extract_lets +onlyGivenNames x1
  clear_value x1
  extract_lets +onlyGivenNames x2
  clear_value x2
  extract_lets +onlyGivenNames x3
  clear_value (e3 : x3 = _)
  refine Keeps.cut (w := w) (s0 := s0) e3 ?_ (fun h3 => ?_) <;> clear e3
  · refine Keeps.set_power (Within.trans (by decide) hw) ?_
    exact h
  extract_lets +onlyGivenNames x4
  clear_value x4
  extract_lets +onlyGivenNames x5
  clear_value x5
  extract_lets +onlyGivenNames x6
  extract_lets +onlyGivenNames x7
  clear_value (e7 : x7 = _)
  refine Keeps.cut (w := w) (s0 := s0) e7 ?_ (fun h7 => ?_) <;> clear e7
  · split
    · refine State.beginEpisode_keeps (Within.trans (by decide) hw) ?_
      exact h3
    · split
      · refine State.endEpisode_keeps (Within.trans (by decide) hw) ?_
        refine State.notePeak_keeps (Within.trans (by decide) hw) ?_
        exact h3
      · refine State.notePeak_keeps (Within.trans (by decide) hw) ?_
        dsimp only [x6]
        refine Keeps.set_power (Within.trans (by decide) hw) ?_
        exact h3
  refine State.retarget_keeps (Within.trans (by decide) hw) ?_
  exact h7

theorem State.startRamp_keeps {w : Nat} {s0 s : State} {a0 : Nat} {a1 : List Nat} {a2 : Nat} (hw : Within 3145729 w) (h : Keeps w s0 s) : Keeps w s0 (State.startRamp s a0 a1 a2) := by
  unfold State.startRamp
  refine Keeps.foldl (fun st1 e1 h1 => ?_) _ _ ?_
  · extract_lets +onlyGivenNames x2
    clear_value x2
    split
    · exact h1
    · extract_lets +onlyGivenNames x3
      clear_value (e3 : x3 = _)
      refine Keeps.cut (w := w) (s0 := s0) e3 ?_ (fun h3 => ?_) <;> clear e3
      · refine Keeps.foldl (fun st4 e4 h4 => ?_) _ _ ?_
        · refine State.onT_keeps (Within.trans (by decide) hw) ?_
          exact h4
        · exact h1
      refine State.bump_keeps (Within.trans (by decide) hw) ?_
      refine State.setPol_keeps (Within.trans (by decide) hw) ?_
      exact h3
  · exact h

theorem State.countReasons_keeps {w : Nat} {s0 s : State} (hw : Within 9007199254740993 w) (h : Keeps w s0 s) : Keeps w s0 (State.countReasons s) := by
  unfold State.countReasons
  extract_lets +onlyGivenNames x1
  clear_value x1
  extract_lets +onlyGivenNames x2
  extract_lets +onlyGivenNames x3
  extract_lets +onlyGivenNames x4
  clear_value (e4 : x4 = _)
  refine Keeps.cut (w := w) (s0 := s0) e4 ?_ (fun h4 => ?_) <;> clear e4
  · refine Keeps.foldl (fun st5 e5 h5 => ?_) _ _ ?_
    · dsimp only [x3]
      split
      · split
        · exact h5
        · refine State.bump_keeps (Within.trans (by decide) hw) ?_
          refine Keeps.set_power (Within.trans (by decide) hw) ?_
          exact h5
      · refine State.bump_keeps (Within.trans (by decide) hw) ?_
        refine Keeps.set_power (Within.trans (by decide) hw) ?_
        split
        · exact h5
        · refine State.bump_keeps (Within.trans (by decide) hw) ?_
          refine Keeps.set_power (Within.trans (by decide) hw) ?_
          exact h5
    · exact h
  refine Keeps.set_power (Within.trans (by decide) hw) ?_
  exact h4

theorem State.inClasses_keeps {w : Nat} {s0 s : State} {a0 : Nat} (hw : Within 64 w) (h : Keeps w s0 s) : Keeps w s0 (State.inClasses s a0).2 := by
  unfold State.inClasses
  split
  · rename_i y1 y2 y3 y4
    dsimp only
    refine Keeps.snd y4 ?_
    refine drawFree_keeps (Within.trans (by decide) hw) ?_
    exact h

theorem State.noteTok_keeps {w : Nat} {s0 s : State} {a0 : Nat} (hw : Within 65 w) (h : Keeps w s0 s) : Keeps w s0 (State.noteTok s a0) := by
  unfold State.noteTok
  split
  · rename_i y1 y2 y3 y4
    extract_lets +onlyGivenNames x5
    clear_value (e5 : x5 = _)
    refine Keeps.cut (w := w) (s0 := s0) e5 ?_ (fun h5 => ?_) <;> clear e5
    · refine State.setF_keeps (Within.trans (by decide) hw) ?_
      refine Keeps.snd y4 ?_
      refine State.inClasses_keeps (Within.trans (by decide) hw) ?_
      exact h
    split
    · refine State.setF_keeps (Within.trans (by decide) hw) ?_
      exact h5
    · exact h5

theorem State.setLevel_keeps {w : Nat} {s0 s : State} {a0 : Nat} (hw : Within 134217793 w) (h : Keeps w s0 s) : Keeps w s0 (State.setLevel s a0) := by
  unfold State.setLevel
  extract_lets +onlyGivenNames x1
  clear_value (e1 : x1 = _)
  refine Keeps.cut (w := w) (s0 := s0) e1 ?_ (fun h1 => ?_) <;> clear e1
  · refine State.setF_keeps (Within.trans (by decide) hw) ?_
    refine State.setF_keeps (Within.trans (by decide) hw) ?_
    exact h
  refine State.traceRec_keeps (Within.trans (by decide) hw) ?_
  exact h1

theorem State.onSnapWin_keeps {w : Nat} {s0 s : State} {a0 : Nat} {a1 : Nat} {a2 : SnapWin → SnapWin} (hw : Within 2097152 w) (h : Keeps w s0 s) : Keeps w s0 (State.onSnapWin s a0 a1 a2) := by
  unfold State.onSnapWin
  refine State.setPol_keeps (Within.trans (by decide) hw) ?_
  exact h

theorem State.sealDie_keeps {w : Nat} {s0 s : State} {a0 : Nat} {a1 : Nat} {a2 : Nat} (hw : Within 64867336257 w) (h : Keeps w s0 s) : Keeps w s0 (State.sealDie s a0 a1 a2) := by
  unfold State.sealDie
  split
  · exact h
  · extract_lets +onlyGivenNames x1
    clear_value x1
    extract_lets +onlyGivenNames x2
    clear_value x2
    extract_lets +onlyGivenNames x3
    extract_lets +onlyGivenNames x4
    clear_value x4
    split
    · dsimp only [x3]
      refine State.onSnapWin_keeps (Within.trans (by decide) hw) ?_
      exact h
    · split
      · dsimp only [x3]
        refine State.onSnapWin_keeps (Within.trans (by decide) hw) ?_
        refine State.fault_keeps (Within.trans (by decide) hw) ?_
        exact h
      · extract_lets +onlyGivenNames x8
        clear_value x8
        extract_lets +onlyGivenNames x9
        clear_value x9
        extract_lets +onlyGivenNames x10
        clear_value x10
        split
        · rename_i y11 y12 y13 y14 y15 y16 y17 y18 y19
          dsimp only [x3]
          refine State.onSnapWin_keeps (Within.trans (by decide) hw) ?_
          refine State.fault_keeps (Within.trans (by decide) hw) ?_
          refine Keeps.snd y19 ?_
          refine State.polLoad_keeps (Within.trans (by decide) hw) ?_
          exact h
        · rename_i y23 y24 y25 y26 y27 y28 y29 y30 y31
          extract_lets +onlyGivenNames x32
          clear_value x32
          split
          · rename_i y33 y34 y35 y36
            split
            · dsimp only [x3]
              refine State.onSnapWin_keeps (Within.trans (by decide) hw) ?_
              refine State.fault_keeps (Within.trans (by decide) hw) ?_
              refine Keeps.snd y36 ?_
              refine State.polStore_keeps (Within.trans (by decide) hw) ?_
              refine Keeps.snd y31 ?_
              refine State.polLoad_keeps (Within.trans (by decide) hw) ?_
              exact h
            · extract_lets +onlyGivenNames x41
              clear_value x41
              extract_lets +onlyGivenNames x42
              clear_value (e42 : x42 = _)
              refine Keeps.cut (w := w) (s0 := s0) e42 ?_ (fun h42 => ?_) <;> clear e42
              · refine State.setReg_keeps (Within.trans (by decide) hw) ?_
                refine Keeps.snd y36 ?_
                refine State.polStore_keeps (Within.trans (by decide) hw) ?_
                refine Keeps.snd y31 ?_
                refine State.polLoad_keeps (Within.trans (by decide) hw) ?_
                exact h
              extract_lets +onlyGivenNames x46
              clear_value (e46 : x46 = _)
              refine Keeps.cut (w := w) (s0 := s0) e46 ?_ (fun h46 => ?_) <;> clear e46
              · refine State.setReg_keeps (Within.trans (by decide) hw) ?_
                exact h42
              dsimp only [x3]
              refine State.onSnapWin_keeps (Within.trans (by decide) hw) ?_
              refine State.bump_keeps (Within.trans (by decide) hw) ?_
              exact h46

theorem effSnap_keeps {w : Nat} {s0 s : State} {a0 : Nat} (hw : Within 4529988082270273 w) (h : Keeps w s0 s) : Keeps w s0 (effSnap a0 s) := by
  unfold effSnap
  split
  · rename_i y1 y2 y3
    refine State.headFor_error (Within.trans (by decide) hw) ?_ y3
    exact h
  · rename_i y4 y5 y6 y7
    extract_lets +onlyGivenNames x8
    clear_value x8
    extract_lets +onlyGivenNames x9
    clear_value x9
    extract_lets +onlyGivenNames x10
    clear_value x10
    extract_lets +onlyGivenNames x11
    clear_value x11
    split
    · refine State.taskFault_keeps (Within.trans (by decide) hw) ?_
      refine State.headFor_ok (Within.trans (by decide) hw) ?_ y7
      exact h
    · split
      · refine State.stall_keeps (Within.trans (by decide) hw) ?_
        refine State.headFor_ok (Within.trans (by decide) hw) ?_ y7
        exact h
      · split
        · refine State.stall_keeps (Within.trans (by decide) hw) ?_
          refine State.headFor_ok (Within.trans (by decide) hw) ?_ y7
          exact h
        · refine State.onSnapWin_keeps (Within.trans (by decide) hw) ?_
          refine State.issueCmd_keeps (Within.trans (by decide) hw) ?_
          refine State.headFor_ok (Within.trans (by decide) hw) ?_ y7
          exact h

theorem effSnapCopy_keeps {w : Nat} {s0 s : State} {a0 : Nat} (hw : Within 4530190214430785 w) (h : Keeps w s0 s) : Keeps w s0 (effSnapCopy a0 s) := by
  unfold effSnapCopy
  extract_lets +onlyGivenNames x1
  clear_value x1
  extract_lets +onlyGivenNames x2
  clear_value x2
  extract_lets +onlyGivenNames x3
  clear_value x3
  split
  · extract_lets +onlyGivenNames x4
    clear_value x4
    extract_lets +onlyGivenNames x5
    clear_value x5
    extract_lets +onlyGivenNames x6
    clear_value x6
    extract_lets +onlyGivenNames x7
    clear_value x7
    extract_lets +onlyGivenNames x8
    clear_value (e8 : x8 = _)
    refine Keeps.cutSnd (w := w) (s0 := s0) e8 ?_ (fun h8 => ?_) <;> clear e8
    · refine Keeps.foldlSnd (fun acc9 e9 h9 => ?_) _ _ ?_
      · split
        · dsimp only
          exact h9
        · split
          · rename_i y10 y11 y12 y13 y14 y15 y16 y17 y18 y19 y20 y21 y22 y23
            dsimp only
            refine Keeps.snd y23 ?_
            refine State.scrRead_keeps (Within.trans (by decide) hw) ?_
            exact h9
          · rename_i y25 y26 y27 y28 y29 y30 y31 y32 y33 y34 y35 y36 y37
            dsimp only
            refine Keeps.snd y37 ?_
            refine State.scrRead_keeps (Within.trans (by decide) hw) ?_
            exact h9
      · dsimp only
        exact h
    extract_lets +onlyGivenNames x39
    split
    · refine State.taskFault_keeps (Within.trans (by decide) hw) ?_
      exact h8
    · extract_lets +onlyGivenNames x41
      clear_value x41
      extract_lets +onlyGivenNames x42
      clear_value x42
      extract_lets +onlyGivenNames x43
      clear_value (e43 : x43 = _)
      refine Keeps.cut (w := w) (s0 := s0) e43 ?_ (fun h43 => ?_) <;> clear e43
      · split
        · exact h8
        · split
          · rename_i y44 y45 y46 y47 y48 y49 y50 y51 y52 y53 y54 y55 y56 y57 y58
            refine State.onSnapWin_keeps (Within.trans (by decide) hw) ?_
            refine State.setF_keeps (Within.trans (by decide) hw) ?_
            refine State.setF_keeps (Within.trans (by decide) hw) ?_
            refine Keeps.snd y58 ?_
            refine State.polStore_keeps (Within.trans (by decide) hw) ?_
            exact h8
      split
      · rename_i y63 y64 y65 y66 y67 y68 y69 y70 y71 y72 y73 y74 y75 y76
        extract_lets +onlyGivenNames x77
        clear_value (e77 : x77 = _)
        refine Keeps.cut (w := w) (s0 := s0) e77 ?_ (fun h77 => ?_) <;> clear e77
        · split
          · refine Keeps.snd y76 ?_
            refine State.polStore_keeps (Within.trans (by decide) hw) ?_
            exact h43
          · refine State.onSnapWin_keeps (Within.trans (by decide) hw) ?_
            refine Keeps.snd y76 ?_
            refine State.polStore_keeps (Within.trans (by decide) hw) ?_
            exact h43
        refine State.completeCmd_keeps (Within.trans (by decide) hw) ?_
        dsimp only [x39]
        refine State.onT_keeps (Within.trans (by decide) hw) ?_
        refine State.onSnapWin_keeps (Within.trans (by decide) hw) ?_
        exact h77
  · exact h

theorem execSnap_keeps {w : Nat} {s0 s : State} {a0 : Nat} {a1 : List (Nat × Nat)} (hw : Within 4529988082270273 w) (h : Keeps w s0 s) : KeepsO w s0 (execSnap a0 a1 s) := by
  unfold execSnap
  refine KeepsO.onTile ?_
  refine effSnap_keeps (Within.trans (by decide) hw) ?_
  refine State.addUpsets_keeps (Within.trans (by decide) hw) ?_
  exact h

theorem execSnapCopyComplete_keeps {w : Nat} {s0 s : State} {a0 : Nat} (hw : Within 4530190214430785 w) (h : Keeps w s0 s) : KeepsO w s0 (execSnapCopyComplete a0 s) := by
  unfold execSnapCopyComplete
  refine KeepsO.onTile ?_
  refine effSnapCopy_keeps (Within.trans (by decide) hw) ?_
  exact h

theorem State.noteLag_keeps {w : Nat} {s0 s : State} {a0 : Nat} {a1 : KInst} {a2 : Nat} (hw : Within 1 w) (h : Keeps w s0 s) : Keeps w s0 (State.noteLag s a0 a1 a2) := by
  unfold State.noteLag
  refine State.bump_keeps (Within.trans (by decide) hw) ?_
  refine State.bump_keeps (Within.trans (by decide) hw) ?_
  refine State.bump_keeps (Within.trans (by decide) hw) ?_
  refine State.bump_keeps (Within.trans (by decide) hw) ?_
  exact h

theorem State.passFbar_keeps {w : Nat} {s0 s : State} {a0 : Nat} {a1 : Nat} (hw : Within 4529988082270273 w) (h : Keeps w s0 s) : Keeps w s0 (State.passFbar s a0 a1) := by
  unfold State.passFbar
  extract_lets +onlyGivenNames x1
  clear_value x1
  split
  · exact h
  · refine State.settleTask_keeps (Within.trans (by decide) hw) ?_
    refine State.passed_keeps (Within.trans (by decide) hw) ?_
    refine State.setTile_keeps (Within.trans (by decide) hw) ?_
    exact h

theorem State.stepEnd_keeps {w : Nat} {s0 s : State} {a0 : Nat} (hw : Within 64868384833 w) (h : Keeps w s0 s) : Keeps w s0 (State.stepEnd s a0) := by
  unfold State.stepEnd
  extract_lets +onlyGivenNames x1
  clear_value x1
  extract_lets +onlyGivenNames x2
  clear_value (e2 : x2 = _)
  refine Keeps.cut (w := w) (s0 := s0) e2 ?_ (fun h2 => ?_) <;> clear e2
  · refine Keeps.foldl (fun st3 e3 h3 => ?_) _ _ ?_
    · refine State.sealDie_keeps (Within.trans (by decide) hw) ?_
      exact h3
    · exact h
  extract_lets +onlyGivenNames x5
  clear_value x5
  extract_lets +onlyGivenNames x6
  clear_value (e6 : x6 = _)
  refine Keeps.cut (w := w) (s0 := s0) e6 ?_ (fun h6 => ?_) <;> clear e6
  · refine Keeps.foldl (fun st7 e7 h7 => ?_) _ _ ?_
    · refine State.onT_keeps (Within.trans (by decide) hw) ?_
      exact h7
    · exact h2
  extract_lets +onlyGivenNames x9
  clear_value x9
  extract_lets +onlyGivenNames x10
  clear_value x10
  extract_lets +onlyGivenNames x11
  clear_value (e11 : x11 = _)
  refine Keeps.cut (w := w) (s0 := s0) e11 ?_ (fun h11 => ?_) <;> clear e11
  · refine State.setPol_keeps (Within.trans (by decide) hw) ?_
    exact h6
  extract_lets +onlyGivenNames x13
  clear_value x13
  refine State.post_keeps (Within.trans (by decide) hw) ?_
  exact h11

theorem effRelease_keeps {w : Nat} {s0 s : State} {a0 : Nat} {a1 : Nat} (hw : Within 4705974635921473 w) (h : Keeps w s0 s) : Keeps w s0 (effRelease a0 a1 s) := by
  unfold effRelease
  split
  · split
    · extract_lets +onlyGivenNames x1
      clear_value x1
      extract_lets +onlyGivenNames x2
      clear_value x2
      split
      · exact h
      · extract_lets +onlyGivenNames x3
        clear_value x3
        extract_lets +onlyGivenNames x4
        clear_value (e4 : x4 = _)
        refine Keeps.cut (w := w) (s0 := s0) e4 ?_ (fun h4 => ?_) <;> clear e4
        · refine Keeps.foldl (fun st5 e5 h5 => ?_) _ _ ?_
          · refine State.passFbar_keeps (Within.trans (by decide) hw) ?_
            exact h5
          · exact h
        extract_lets +onlyGivenNames x7
        clear_value x7
        extract_lets +onlyGivenNames x8
        clear_value (e8 : x8 = _)
        refine Keeps.cut (w := w) (s0 := s0) e8 ?_ (fun h8 => ?_) <;> clear e8
        · refine State.setPol_keeps (Within.trans (by decide) hw) ?_
          exact h4
        extract_lets +onlyGivenNames x10
        clear_value (e10 : x10 = _)
        refine Keeps.cut (w := w) (s0 := s0) e10 ?_ (fun h10 => ?_) <;> clear e10
        · split
          · refine State.noteLag_keeps (Within.trans (by decide) hw) ?_
            exact h8
          · exact h8
        extract_lets +onlyGivenNames x12
        clear_value (e12 : x12 = _)
        refine Keeps.cut (w := w) (s0 := s0) e12 ?_ (fun h12 => ?_) <;> clear e12
        · refine State.traceRec_keeps (Within.trans (by decide) hw) ?_
          refine State.startRamp_keeps (Within.trans (by decide) hw) ?_
          refine State.kndCommit_keeps (Within.trans (by decide) hw) ?_
          exact h10
        extract_lets +onlyGivenNames x16
        clear_value (e16 : x16 = _)
        refine Keeps.cut (w := w) (s0 := s0) e16 ?_ (fun h16 => ?_) <;> clear e16
        · split
          · refine State.stepEnd_keeps (Within.trans (by decide) hw) ?_
            exact h12
          · exact h12
        refine Keeps.foldl (fun st18 e18 h18 => ?_) _ _ ?_
        · refine State.pumpPort_keeps (Within.trans (by decide) hw) ?_
          refine State.newAllowance_keeps (Within.trans (by decide) hw) ?_
          exact h18
        · exact h16
    · exact h
  · exact h

theorem execFrameBarrierRelease_keeps {w : Nat} {s0 s : State} {a0 : Nat} {a1 : Nat} (hw : Within 4705974635921473 w) (h : Keeps w s0 s) : KeepsO w s0 (execFrameBarrierRelease a0 a1 s) := by
  unfold execFrameBarrierRelease
  refine KeepsO.onDie ?_
  refine effRelease_keeps (Within.trans (by decide) hw) ?_
  exact h

theorem State.setIn_keeps {w : Nat} {s0 s : State} {a0 : Nat} {a1 : Nat} (hw : Within 1 w) (h : Keeps w s0 s) : Keeps w s0 (State.setIn s a0 a1) := by
  unfold State.setIn
  refine State.setF_keeps (Within.trans (by decide) hw) ?_
  exact h

theorem State.reqEnd_keeps {w : Nat} {s0 s : State} {a0 : Nat} (hw : Within 4194305 w) (h : Keeps w s0 s) : Keeps w s0 (State.reqEnd s a0) := by
  unfold State.reqEnd
  extract_lets +onlyGivenNames x1
  clear_value x1
  extract_lets +onlyGivenNames x2
  clear_value (e2 : x2 = _)
  refine Keeps.cut (w := w) (s0 := s0) e2 ?_ (fun h2 => ?_) <;> clear e2
  · refine State.setF_keeps (Within.trans (by decide) hw) ?_
    refine State.setIntake_keeps (Within.trans (by decide) hw) ?_
    exact h
  split
  · refine State.setIn_keeps (Within.trans (by decide) hw) ?_
    exact h2
  · split
    · exact h2
    · refine State.setIn_keeps (Within.trans (by decide) hw) ?_
      exact h2

theorem State.reqWrite_keeps {w : Nat} {s0 s : State} {a0 : Nat} {a1 : Nat} (hw : Within 37748737 w) (h : Keeps w s0 s) : Keeps w s0 (State.reqWrite s a0 a1) := by
  unfold State.reqWrite
  extract_lets +onlyGivenNames x1
  clear_value x1
  extract_lets +onlyGivenNames x2
  clear_value x2
  extract_lets +onlyGivenNames x3
  clear_value x3
  extract_lets +onlyGivenNames x4
  clear_value x4
  extract_lets +onlyGivenNames x5
  clear_value (e5 : x5 = _)
  refine Keeps.cut (w := w) (s0 := s0) e5 ?_ (fun h5 => ?_) <;> clear e5
  · refine State.hostWrite_keeps (Within.trans (by decide) hw) ?_
    exact h
  extract_lets +onlyGivenNames x7
  clear_value (e7 : x7 = _)
  refine Keeps.cut (w := w) (s0 := s0) e7 ?_ (fun h7 => ?_) <;> clear e7
  · split
    · exact h5
    · refine State.hostWrite_keeps (Within.trans (by decide) hw) ?_
      exact h5
  refine State.reqEnd_keeps (Within.trans (by decide) hw) ?_
  refine State.setF_keeps (Within.trans (by decide) hw) ?_
  exact h7

theorem State.reqDone_keeps {w : Nat} {s0 s : State} {a0 : Nat} {a1 : Nat} (hw : Within 37748737 w) (h : Keeps w s0 s) : Keeps w s0 (State.reqDone s a0 a1) := by
  unfold State.reqDone
  extract_lets +onlyGivenNames x1
  clear_value x1
  split
  · exact h
  · split
    · refine State.reqEnd_keeps (Within.trans (by decide) hw) ?_
      exact h
    · split
      · refine State.setIntake_keeps (Within.trans (by decide) hw) ?_
        exact h
      · refine State.reqWrite_keeps (Within.trans (by decide) hw) ?_
        exact h

theorem State.intakePost_keeps {w : Nat} {s0 s : State} {a0 : Nat} {a1 : Nat} {a2 : Bool} (hw : Within 174129217 w) (h : Keeps w s0 s) : Keeps w s0 (State.intakePost s a0 a1 a2) := by
  unfold State.intakePost
  refine State.fault_keeps (Within.trans (by decide) hw) ?_
  exact h

theorem State.haltIntake_keeps {w : Nat} {s0 s : State} {a0 : Nat} {a1 : Nat} {a2 : Bool} (hw : Within 174129217 w) (h : Keeps w s0 s) : Keeps w s0 (State.haltIntake s a0 a1 a2) := by
  unfold State.haltIntake
  refine State.intakePost_keeps (Within.trans (by decide) hw) ?_
  refine State.setF_keeps (Within.trans (by decide) hw) ?_
  refine State.setIn_keeps (Within.trans (by decide) hw) ?_
  exact h

theorem State.fetchReqs_keeps {w : Nat} {s0 s : State} {a0 : Nat} (hw : Within 174129217 w) (h : Keeps w s0 s) : Keeps w s0 (State.fetchReqs s a0) := by
  unfold State.fetchReqs
  extract_lets +onlyGivenNames x1
  clear_value x1
  split
  · exact h
  · split
    · refine State.haltIntake_keeps (Within.trans (by decide) hw) ?_
      exact h
    · refine State.setF_keeps (Within.trans (by decide) hw) ?_
      exact h

theorem State.drainBacklog_keeps {w : Nat} {s0 s : State} {a0 : Nat} {a1 : Nat} (hw : Within 39911425 w) (h : Keeps w s0 s) : Keeps w s0 (State.drainBacklog a0 a1 s) := by
  induction a0 generalizing a1 s with
  | zero => exact h
  | succ n ih =>
    unfold State.drainBacklog
    extract_lets +onlyGivenNames x1
    clear_value x1
    split
    · exact h
    · split
      · refine ih ?_
        refine State.slotWrite_keeps (Within.trans (by decide) hw) ?_
        refine State.setIntake_keeps (Within.trans (by decide) hw) ?_
        refine Keeps.set_recSeq (Within.trans (by decide) hw) ?_
        exact h
      · split
        · exact h
        · refine ih ?_
          refine State.slotWrite_keeps (Within.trans (by decide) hw) ?_
          refine State.setF_keeps (Within.trans (by decide) hw) ?_
          refine State.setIntake_keeps (Within.trans (by decide) hw) ?_
          exact h

theorem State.resetIntake_keeps {w : Nat} {s0 s : State} {a0 : Nat} (hw : Within 6291487 w) (h : Keeps w s0 s) : Keeps w s0 (State.resetIntake s a0) := by
  unfold State.resetIntake
  refine State.setPol_keeps (Within.trans (by decide) hw) ?_
  refine Keeps.set_regs_act_staged_lowHeld_hiCap_intakes (Within.trans (by decide) hw) ?_
  exact h

theorem State.pauseIntake_keeps {w : Nat} {s0 s : State} {a0 : Nat} (hw : Within 1 w) (h : Keeps w s0 s) : Keeps w s0 (State.pauseIntake s a0) := by
  unfold State.pauseIntake
  split
  · refine State.setIn_keeps (Within.trans (by decide) hw) ?_
    exact h
  · exact h

theorem State.request_keeps {w : Nat} {s0 s : State} {a0 : Nat} {a1 : List Byte} {a2 : Nat → Bool} {a3 : State → State} (hw : Within 4194305 w) (hf : ∀ st, Keeps w s0 st → Keeps w s0 (a3 st)) (h : Keeps w s0 s) : Keeps w s0 (State.request s a0 a1 a2 a3) := by
  unfold State.request
  split
  · exact h
  · refine hf _ ?_
    refine State.setF_keeps (Within.trans (by decide) hw) ?_
    refine State.setIn_keeps (Within.trans (by decide) hw) ?_
    refine State.setIntake_keeps (Within.trans (by decide) hw) ?_
    exact h

theorem State.resumeIntake_keeps {w : Nat} {s0 s : State} {a0 : Nat} (hw : Within 174129217 w) (h : Keeps w s0 s) : Keeps w s0 (State.resumeIntake s a0) := by
  unfold State.resumeIntake
  split
  · exact h
  · extract_lets +onlyGivenNames x1
    clear_value x1
    extract_lets +onlyGivenNames x2
    clear_value (e2 : x2 = _)
    refine Keeps.cut (w := w) (s0 := s0) e2 ?_ (fun h2 => ?_) <;> clear e2
    · split
      · refine State.reqWrite_keeps (Within.trans (by decide) hw) ?_
        exact h
      · split
        · refine State.setIn_keeps (Within.trans (by decide) hw) ?_
          exact h
        · exact h
    refine State.fetchReqs_keeps (Within.trans (by decide) hw) ?_
    exact h2

theorem State.reportLoad_keeps {w : Nat} {s0 s : State} {a0 : Nat} {a1 : Nat} {a2 : Nat} {a3 : LoadEnd} (hw : Within 39911425 w) (h : Keeps w s0 s) : Keeps w s0 (State.reportLoad s a0 a1 a2 a3) := by
  unfold State.reportLoad
  extract_lets +onlyGivenNames x1
  clear_value (e1 : x1 = _)
  refine Keeps.cut (w := w) (s0 := s0) e1 ?_ (fun h1 => ?_) <;> clear e1
  · refine State.post_keeps (Within.trans (by decide) hw) ?_
    exact h
  extract_lets +onlyGivenNames x3
  clear_value (e3 : x3 = _)
  refine Keeps.cut (w := w) (s0 := s0) e3 ?_ (fun h3 => ?_) <;> clear e3
  · refine State.bump_keeps (Within.trans (by decide) hw) ?_
    refine State.setReg_keeps (Within.trans (by decide) hw) ?_
    exact h1
  split
  · refine State.reqDone_keeps (Within.trans (by decide) hw) ?_
    exact h3
  · exact h3

theorem State.sealPol_keeps {w : Nat} {s0 s : State} {a0 : Nat} {a1 : Bool} (hw : Within 1 w) (h : Keeps w s0 s) : Keeps w s0 (State.sealPol s a0 a1) := by
  unfold State.sealPol
  refine State.setF_keeps (Within.trans (by decide) hw) ?_
  exact h

theorem State.beginLoad_keeps {w : Nat} {s0 s : State} {a0 : Nat} (hw : Within 281475785162817 w) (h : Keeps w s0 s) : Keeps w s0 (State.beginLoad s a0) := by
  unfold State.beginLoad
  split
  · exact h
  · extract_lets +onlyGivenNames x1
    clear_value x1
    extract_lets +onlyGivenNames x2
    clear_value x2
    extract_lets +onlyGivenNames x3
    clear_value (e3 : x3 = _)
    refine Keeps.cut (w := w) (s0 := s0) e3 ?_ (fun h3 => ?_) <;> clear e3
    · refine State.setPol_keeps (Within.trans (by decide) hw) ?_
      exact h
    extract_lets +onlyGivenNames x5
    clear_value (e5 : x5 = _)
    refine Keeps.cut (w := w) (s0 := s0) e5 ?_ (fun h5 => ?_) <;> clear e5
    · refine Keeps.foldl (fun st6 e6 h6 => ?_) _ _ ?_
      · refine State.startClear_keeps (Within.trans (by decide) hw) ?_
        exact h6
      · refine State.sealPol_keeps (Within.trans (by decide) hw) ?_
        exact h3
    refine Keeps.set_linkRes (Within.trans (by decide) hw) ?_
    exact h5

theorem State.startLoads_keeps {w : Nat} {s0 s : State} {a0 : List Nat} {a1 : List Nat} (hw : Within 36310272804126785 w) (h : Keeps w s0 s) : Keeps w s0 (State.startLoads a0 a1 s) := by
  induction a0 generalizing a1 s with
  | nil => exact h
  | cons c n ih =>
    unfold State.startLoads
    split
    · refine ih ?_
      exact h
    · refine ih ?_
      refine State.beginLoad_keeps (Within.trans (by decide) hw) ?_
      refine Keeps.set_loadWait (Within.trans (by decide) hw) ?_
      exact h

theorem State.nextLoads_keeps {w : Nat} {s0 s : State} (hw : Within 36310272804126785 w) (h : Keeps w s0 s) : Keeps w s0 (State.nextLoads s) := by
  unfold State.nextLoads
  refine State.startLoads_keeps (Within.trans (by decide) hw) ?_
  exact h

theorem State.endLoad_keeps {w : Nat} {s0 s : State} {a0 : Nat} {a1 : LoadReq} {a2 : LoadEnd} (hw : Within 36310272841941057 w) (h : Keeps w s0 s) : Keeps w s0 (State.endLoad s a0 a1 a2) := by
  unfold State.endLoad
  refine State.nextLoads_keeps (Within.trans (by decide) hw) ?_
  refine State.reportLoad_keeps (Within.trans (by decide) hw) ?_
  refine State.setPol_keeps (Within.trans (by decide) hw) ?_
  exact h

theorem State.undoLoad_keeps {w : Nat} {s0 s : State} {a0 : Nat} (hw : Within 808452161 w) (h : Keeps w s0 s) : Keeps w s0 (State.undoLoad s a0) := by
  unfold State.undoLoad
  extract_lets +onlyGivenNames x1
  clear_value x1
  extract_lets +onlyGivenNames x2
  clear_value (e2 : x2 = _)
  refine Keeps.cut (w := w) (s0 := s0) e2 ?_ (fun h2 => ?_) <;> clear e2
  · refine State.sealPol_keeps (Within.trans (by decide) hw) ?_
    refine State.setPol_keeps (Within.trans (by decide) hw) ?_
    exact h
  refine Keeps.foldl (fun st5 e5 h5 => ?_) _ _ ?_
  · split
    · exact h5
    · refine State.startClear_keeps (Within.trans (by decide) hw) ?_
      exact h5
  · exact h2

theorem State.abandonLoad_keeps {w : Nat} {s0 s : State} {a0 : Nat} (hw : Within 36310272841941057 w) (h : Keeps w s0 s) : Keeps w s0 (State.abandonLoad s a0) := by
  unfold State.abandonLoad
  split
  · refine State.endLoad_keeps (Within.trans (by decide) hw) ?_
    refine State.undoLoad_keeps (Within.trans (by decide) hw) ?_
    exact h
  · split
    · split
      · refine State.reportLoad_keeps (Within.trans (by decide) hw) ?_
        refine Keeps.set_loadWait (Within.trans (by decide) hw) ?_
        exact h
      · refine Keeps.set_loadWait (Within.trans (by decide) hw) ?_
        exact h
    · exact h

theorem State.armPost_keeps {w : Nat} {s0 s : State} {a0 : Nat} {a1 : Option Nat} {a2 : List Nat} (hw : Within 174129217 w) (h : Keeps w s0 s) : Keeps w s0 (State.armPost s a0 a1 a2) := by
  unfold State.armPost
  refine State.fault_keeps (Within.trans (by decide) hw) ?_
  exact h

theorem State.wakeUnit_keeps {w : Nat} {s0 s : State} {a0 : Nat} (hw : Within 174129217 w) (h : Keeps w s0 s) : Keeps w s0 (State.wakeUnit s a0) := by
  unfold State.wakeUnit
  extract_lets +onlyGivenNames x1
  clear_value (e1 : x1 = _)
  refine Keeps.cut (w := w) (s0 := s0) e1 ?_ (fun h1 => ?_) <;> clear e1
  · refine State.setF_keeps (Within.trans (by decide) hw) ?_
    exact h
  split
  · refine State.armPost_keeps (Within.trans (by decide) hw) ?_
    refine State.setF_keeps (Within.trans (by decide) hw) ?_
    exact h1
  · exact h1

theorem State.emptySlot_keeps {w : Nat} {s0 s : State} {a0 : Nat} (hw : Within 4503599627370496 w) (h : Keeps w s0 s) : Keeps w s0 (State.emptySlot s a0) := by
  unfold State.emptySlot
  extract_lets +onlyGivenNames x1
  clear_value x1
  refine State.setKnd_keeps (Within.trans (by decide) hw) ?_
  exact h

theorem State.newEpoch_keeps {w : Nat} {s0 s : State} {a0 : Nat} (hw : Within 140737490452480 w) (h : Keeps w s0 s) : Keeps w s0 (State.newEpoch s a0) := by
  unfold State.newEpoch
  refine State.setPol_keeps (Within.trans (by decide) hw) ?_
  refine Keeps.set_sendSeq (Within.trans (by decide) hw) ?_
  exact h

theorem State.clearTiles_keeps {w : Nat} {s0 s : State} {a0 : List Nat} (hw : Within 806355009 w) (h : Keeps w s0 s) : Keeps w s0 (State.clearTiles s a0) := by
  unfold State.clearTiles
  refine Keeps.foldl (fun st1 e1 h1 => ?_) _ _ ?_
  · split
    · refine State.startClear_keeps (Within.trans (by decide) hw) ?_
      exact h1
    · exact h1
  · exact h

theorem State.dropTenant_keeps {w : Nat} {s0 s : State} {a0 : Nat} {a1 : Nat} (hw : Within 299067162755072 w) (h : Keeps w s0 s) : Keeps w s0 (State.dropTenant s a0 a1) := by
  unfold State.dropTenant
  refine Keeps.set_ports_linkRes (Within.trans (by decide) hw) ?_
  exact h

theorem State.stopMoved_keeps {w : Nat} {s0 s : State} {a0 : Nat} {a1 : Nat} (hw : Within 4529988081614913 w) (h : Keeps w s0 s) : Keeps w s0 (State.stopMoved s a0 a1) := by
  unfold State.stopMoved
  extract_lets +onlyGivenNames x1
  clear_value x1
  extract_lets +onlyGivenNames x2
  split
  · exact h
  · refine Keeps.foldl (fun st3 e3 h3 => ?_) _ _ ?_
    · split
      · refine State.polderStop_keeps (Within.trans (by decide) hw) ?_
        exact h3
      · exact h3
    · exact h

theorem State.renewField_keeps {w : Nat} {s0 s : State} {a0 : Nat} (hw : Within 32480952320 w) (h : Keeps w s0 s) : Keeps w s0 (State.renewField s a0) := by
  unfold State.renewField
  extract_lets +onlyGivenNames x1
  clear_value (e1 : x1 = _)
  refine Keeps.cut (w := w) (s0 := s0) e1 ?_ (fun h1 => ?_) <;> clear e1
  · refine State.freshen_keeps (Within.trans (by decide) hw) ?_
    refine State.freeLines_keeps (Within.trans (by decide) hw) ?_
    exact h
  refine Keeps.set_slices (Within.trans (by decide) hw) ?_
  exact h1

theorem State.retireCols_keeps {w : Nat} {s0 s : State} {a0 : Nat} (hw : Within 980484161 w) (h : Keeps w s0 s) : Keeps w s0 (State.retireCols s a0) := by
  unfold State.retireCols
  extract_lets +onlyGivenNames x1
  clear_value x1
  extract_lets +onlyGivenNames x2
  clear_value x2
  extract_lets +onlyGivenNames x3
  clear_value x3
  refine Keeps.foldl (fun st4 e4 h4 => ?_) _ _ ?_
  · extract_lets +onlyGivenNames x5
    clear_value x5
    extract_lets +onlyGivenNames x6
    clear_value (e6 : x6 = _)
    refine Keeps.cut (w := w) (s0 := s0) e6 ?_ (fun h6 => ?_) <;> clear e6
    · refine State.setF_keeps (Within.trans (by decide) hw) ?_
      refine State.setF_keeps (Within.trans (by decide) hw) ?_
      exact h4
    extract_lets +onlyGivenNames x9
    clear_value (e9 : x9 = _)
    refine Keeps.cut (w := w) (s0 := s0) e9 ?_ (fun h9 => ?_) <;> clear e9
    · refine Keeps.foldl (fun st10 e10 h10 => ?_) _ _ ?_
      · refine State.setF_keeps (Within.trans (by decide) hw) ?_
        exact h10
      · exact h6
    extract_lets +onlyGivenNames x12
    clear_value x12
    extract_lets +onlyGivenNames x13
    clear_value (e13 : x13 = _)
    refine Keeps.cut (w := w) (s0 := s0) e13 ?_ (fun h13 => ?_) <;> clear e13
    · refine Keeps.foldl (fun st14 e14 h14 => ?_) _ _ ?_
      · refine State.startClear_keeps (Within.trans (by decide) hw) ?_
        refine Keeps.set_regs (Within.trans (by decide) hw) ?_
        exact h14
      · exact h9
    extract_lets +onlyGivenNames x16
    clear_value (e16 : x16 = _)
    refine Keeps.cut (w := w) (s0 := s0) e16 ?_ (fun h16 => ?_) <;> clear e16
    · refine State.fault_keeps (Within.trans (by decide) hw) ?_
      exact h13
    split
    · refine State.fault_keeps (Within.trans (by decide) hw) ?_
      exact h16
    · exact h16
  · exact h

theorem State.rotateKey_keeps {w : Nat} {s0 s : State} {a0 : Nat} (hw : Within 32480952323 w) (h : Keeps w s0 s) : Keeps w s0 (State.rotateKey s a0) := by
  unfold State.rotateKey
  extract_lets +onlyGivenNames x1
  clear_value (e1 : x1 = _)
  refine Keeps.cut (w := w) (s0 := s0) e1 ?_ (fun h1 => ?_) <;> clear e1
  · refine Keeps.foldl (fun st2 e2 h2 => ?_) _ _ ?_
    · refine State.renewField_keeps (Within.trans (by decide) hw) ?_
      exact h2
    · exact h
  extract_lets +onlyGivenNames x4
  clear_value (e4 : x4 = _)
  refine Keeps.cut (w := w) (s0 := s0) e4 ?_ (fun h4 => ?_) <;> clear e4
  · refine Keeps.foldl (fun st5 e5 h5 => ?_) _ _ ?_
    · refine State.bump_keeps (Within.trans (by decide) hw) ?_
      exact h5
    · exact h1
  refine State.setAct_keeps (Within.trans (by decide) hw) ?_
  refine State.setF_keeps (Within.trans (by decide) hw) ?_
  exact h4

theorem State.takeStaged_keeps {w : Nat} {s0 s : State} {a0 : Nat} (hw : Within 7 w) (h : Keeps w s0 s) : Keeps w s0 (State.takeStaged s a0) := by
  unfold State.takeStaged
  extract_lets +onlyGivenNames x1
  clear_value x1
  extract_lets +onlyGivenNames x2
  clear_value (e2 : x2 = _)
  refine Keeps.cut (w := w) (s0 := s0) e2 ?_ (fun h2 => ?_) <;> clear e2
  · refine Keeps.foldl (fun st3 e3 h3 => ?_) _ _ ?_
    · refine Keeps.set_act (Within.trans (by decide) hw) ?_
      exact h3
    · exact h
  extract_lets +onlyGivenNames x4
  clear_value (e4 : x4 = _)
  refine Keeps.cut (w := w) (s0 := s0) e4 ?_ (fun h4 => ?_) <;> clear e4
  · refine Keeps.set_staged (Within.trans (by decide) hw) ?_
    exact h2
  split
  · refine State.setF_keeps (Within.trans (by decide) hw) ?_
    exact h4
  · exact h4

theorem State.unloadPol_keeps {w : Nat} {s0 s : State} {a0 : Nat} (hw : Within 174129217 w) (h : Keeps w s0 s) : Keeps w s0 (State.unloadPol s a0) := by
  unfold State.unloadPol
  extract_lets +onlyGivenNames x1
  clear_value x1
  refine State.armPost_keeps (Within.trans (by decide) hw) ?_
  refine State.setPol_keeps (Within.trans (by decide) hw) ?_
  exact h

end Sys2Proof.Machine
end

