-- ==== Sys2Proof/Laws/KeepsH.lean ====
section
/-!
SUPPORT. What each function of Polder, SliceRows may change: the mask of parts, and both memories stay canonical.
-/
namespace Sys2Proof.Machine

theorem State.advanceGen_keeps {w : Nat} {s0 s : State} (hw : Within 1 w) (h : Keeps w s0 s) : Keeps w s0 (State.advanceGen s).1 := by
  unfold State.advanceGen
  extract_lets +onlyGivenNames x1
  clear_value x1
  extract_lets +onlyGivenNames x2
  clear_value (e2 : x2 = _)
  refine Keeps.cut (w := w) (s0 := s0) e2 ?_ (fun h2 => ?_) <;> clear e2
  · refine Keeps.foldl (fun st3 e3 h3 => ?_) _ _ ?_
    · split
      · exact h3
      · refine State.setF_keeps (Within.trans (by decide) hw) ?_
        exact h3
    · exact h
  dsimp only
  refine State.setF_keeps (Within.trans (by decide) hw) ?_
  exact h2

theorem State.armResult_keeps {w : Nat} {s0 s : State} {a0 : Nat} (hw : Within 1 w) (h : Keeps w s0 s) : Keeps w s0 (State.armResult s a0) := by
  unfold State.armResult
  refine State.setF_keeps (Within.trans (by decide) hw) ?_
  exact h

theorem State.armRefuse_keeps {w : Nat} {s0 s : State} {a0 : Nat} (hw : Within 1 w) (h : Keeps w s0 s) : Keeps w s0 (State.armRefuse s a0) := by
  unfold State.armRefuse
  refine State.err_keeps (Within.trans (by decide) hw) ?_
  refine State.armResult_keeps (Within.trans (by decide) hw) ?_
  exact h

theorem effDisarm_keeps {w : Nat} {s0 s : State} (hw : Within 6145 w) (h : Keeps w s0 s) : Keeps w s0 (effDisarm s) := by
  unfold effDisarm
  split
  · refine State.armResult_keeps (Within.trans (by decide) hw) ?_
    exact h
  · split
    · split
      · refine State.armResult_keeps (Within.trans (by decide) hw) ?_
        refine State.setF_keeps (Within.trans (by decide) hw) ?_
        refine Keeps.set_armB_armF (Within.trans (by decide) hw) ?_
        exact h
      · refine State.armRefuse_keeps (Within.trans (by decide) hw) ?_
        exact h
    · refine State.armRefuse_keeps (Within.trans (by decide) hw) ?_
      exact h

theorem execRejoin_keeps {w : Nat} {s0 s : State} {a0 : Nat} (hw : Within 8192 w) (h : Keeps w s0 s) : KeepsO w s0 (execRejoin a0 s) := by
  unfold execRejoin
  refine KeepsO.next ?_
  split
  · exact h
  · refine Keeps.set_rejoin (Within.trans (by decide) hw) ?_
    exact h

theorem execArmCtrlMulti_keeps {w : Nat} {s0 s : State} {a0 : Nat} (hw : Within 1 w) (h : Keeps w s0 s) : KeepsO w s0 (execArmCtrlMulti a0 s) := by
  unfold execArmCtrlMulti
  refine KeepsO.next ?_
  split
  · exact h
  · refine State.armRefuse_keeps (Within.trans (by decide) hw) ?_
    exact h

theorem effArmDiscard_keeps {w : Nat} {s0 s : State} (hw : Within 5 w) (h : Keeps w s0 s) : Keeps w s0 (effArmDiscard s) := by
  unfold effArmDiscard
  split
  · refine State.armRefuse_keeps (Within.trans (by decide) hw) ?_
    exact h
  · extract_lets +onlyGivenNames x2
    clear_value (e2 : x2 = _)
    refine Keeps.cut (w := w) (s0 := s0) e2 ?_ (fun h2 => ?_) <;> clear e2
    · refine Keeps.foldl (fun st3 e3 h3 => ?_) _ _ ?_
      · extract_lets +onlyGivenNames x4
        clear_value x4
        extract_lets +onlyGivenNames x5
        clear_value x5
        extract_lets +onlyGivenNames x6
        clear_value x6
        refine Keeps.set_regs (Within.trans (by decide) hw) ?_
        exact h3
      · exact h
    refine State.armResult_keeps (Within.trans (by decide) hw) ?_
    refine Keeps.set_staged (Within.trans (by decide) hw) ?_
    exact h2

theorem State.tryArm_keeps {w : Nat} {s0 s : State} {a0 : Bool} {a1 : State → State} (hw : Within 1 w) (hf : ∀ st, Keeps w s0 st → Keeps w s0 (a1 st)) (h : Keeps w s0 s) : Keeps w s0 (State.tryArm s a0 a1) := by
  unfold State.tryArm
  split
  · refine State.armRefuse_keeps (Within.trans (by decide) hw) ?_
    exact h
  · split
    · refine State.armRefuse_keeps (Within.trans (by decide) hw) ?_
      exact h
    · split
      · refine State.setReg_keeps (Within.trans (by decide) hw) ?_
        refine State.armRefuse_keeps (Within.trans (by decide) hw) ?_
        exact h
      · refine hf _ ?_
        refine State.setReg_keeps (Within.trans (by decide) hw) ?_
        refine State.armResult_keeps (Within.trans (by decide) hw) ?_
        exact h

theorem effArmBeat_keeps {w : Nat} {s0 s : State} (hw : Within 2049 w) (h : Keeps w s0 s) : Keeps w s0 (effArmBeat s) := by
  unfold effArmBeat
  extract_lets +onlyGivenNames x1
  clear_value x1
  refine State.tryArm_keeps (Within.trans (by decide) hw) (fun st2 h2 => ?_) ?_
  · refine State.setF_keeps (Within.trans (by decide) hw) ?_
    refine Keeps.set_armB (Within.trans (by decide) hw) ?_
    exact h2
  · exact h

theorem effArmFrame_keeps {w : Nat} {s0 s : State} (hw : Within 4097 w) (h : Keeps w s0 s) : Keeps w s0 (effArmFrame s) := by
  unfold effArmFrame
  extract_lets +onlyGivenNames x1
  clear_value x1
  refine State.tryArm_keeps (Within.trans (by decide) hw) (fun st2 h2 => ?_) ?_
  · refine State.setF_keeps (Within.trans (by decide) hw) ?_
    refine Keeps.set_armF (Within.trans (by decide) hw) ?_
    exact h2
  · exact h

theorem State.beforeSwitch_keeps {w : Nat} {s0 s : State} {a0 : List Nat} {a1 : List Nat} (hw : Within 40840260882595905 w) (h : Keeps w s0 s) : Keeps w s0 (State.beforeSwitch s a0 a1) := by
  unfold State.beforeSwitch
  extract_lets +onlyGivenNames x1
  clear_value (e1 : x1 = _)
  refine Keeps.cut (w := w) (s0 := s0) e1 ?_ (fun h1 => ?_) <;> clear e1
  · refine Keeps.foldl (fun st2 e2 h2 => ?_) _ _ ?_
    · refine State.stopMoved_keeps (Within.trans (by decide) hw) ?_
      exact h2
    · exact h
  extract_lets +onlyGivenNames x4
  clear_value (e4 : x4 = _)
  refine Keeps.cut (w := w) (s0 := s0) e4 ?_ (fun h4 => ?_) <;> clear e4
  · refine Keeps.foldl (fun st5 e5 h5 => ?_) _ _ ?_
    · split
      · refine State.polderStop_keeps (Within.trans (by decide) hw) ?_
        exact h5
      · exact h5
    · exact h1
  extract_lets +onlyGivenNames x7
  clear_value (e7 : x7 = _)
  refine Keeps.cut (w := w) (s0 := s0) e7 ?_ (fun h7 => ?_) <;> clear e7
  · refine Keeps.foldl (fun st8 e8 h8 => ?_) _ _ ?_
    · refine State.abandonLoad_keeps (Within.trans (by decide) hw) ?_
      refine State.abortPolder_keeps (Within.trans (by decide) hw) ?_
      exact h8
    · exact h4
  extract_lets +onlyGivenNames x11
  clear_value (e11 : x11 = _)
  refine Keeps.cut (w := w) (s0 := s0) e11 ?_ (fun h11 => ?_) <;> clear e11
  · refine Keeps.foldl (fun st12 e12 h12 => ?_) _ _ ?_
    · refine State.clearTiles_keeps (Within.trans (by decide) hw) ?_
      refine Keeps.foldl (fun st14 e14 h14 => ?_) _ _ ?_
      · refine State.emptySlot_keeps (Within.trans (by decide) hw) ?_
        exact h14
      · exact h12
    · exact h7
  refine Keeps.foldl (fun st16 e16 h16 => ?_) _ _ ?_
  · refine State.dropTenant_keeps (Within.trans (by decide) hw) ?_
    exact h16
  · exact h11

theorem State.flushChanged_keeps {w : Nat} {s0 s : State} {a0 : List Nat} {a1 : List Nat} (hw : Within 137438953472 w) (h : Keeps w s0 s) : Keeps w s0 (State.flushChanged s a0 a1) := by
  unfold State.flushChanged
  extract_lets +onlyGivenNames x1
  clear_value (e1 : x1 = _)
  refine Keeps.cut (w := w) (s0 := s0) e1 ?_ (fun h1 => ?_) <;> clear e1
  · refine Keeps.foldl (fun st2 e2 h2 => ?_) _ _ ?_
    · refine State.flushQ_keeps (Within.trans (by decide) hw) ?_
      exact h2
    · exact h
  refine Keeps.foldl (fun st4 e4 h4 => ?_) _ _ ?_
  · refine Keeps.foldl (fun st5 e5 h5 => ?_) _ _ ?_
    · refine State.flushQ_keeps (Within.trans (by decide) hw) ?_
      exact h5
    · exact h4
  · exact h1

theorem State.retrust_keeps {w : Nat} {s0 s : State} (hw : Within 3377699720527872 w) (h : Keeps w s0 s) : Keeps w s0 (State.retrust s) := by
  unfold State.retrust
  extract_lets +onlyGivenNames x1
  clear_value x1
  refine Keeps.set_untrusted_badFtids (Within.trans (by decide) hw) ?_
  exact h

theorem effActivated_keeps {w : Nat} {s0 s : State} (hw : Within 174129217 w) (h : Keeps w s0 s) : Keeps w s0 (effActivated s) := by
  unfold effActivated
  split
  · exact h
  · refine State.armPost_keeps (Within.trans (by decide) hw) ?_
    refine State.setF_keeps (Within.trans (by decide) hw) ?_
    exact h

theorem effActivation_keeps {w : Nat} {s0 s : State} (hw : Within 44359142620895303 w) (h : Keeps w s0 s) : Keeps w s0 (effActivation s) := by
  unfold effActivation
  split
  · exact h
  · extract_lets +onlyGivenNames x1
    clear_value x1
    extract_lets +onlyGivenNames x2
    clear_value x2
    extract_lets +onlyGivenNames x3
    clear_value x3
    extract_lets +onlyGivenNames x4
    clear_value x4
    extract_lets +onlyGivenNames x5
    clear_value x5
    extract_lets +onlyGivenNames x6
    clear_value (e6 : x6 = _)
    refine Keeps.cut (w := w) (s0 := s0) e6 ?_ (fun h6 => ?_) <;> clear e6
    · refine State.beforeSwitch_keeps (Within.trans (by decide) hw) ?_
      exact h
    extract_lets +onlyGivenNames x8
    clear_value (e8 : x8 = _)
    refine Keeps.cut (w := w) (s0 := s0) e8 ?_ (fun h8 => ?_) <;> clear e8
    · refine Keeps.foldl (fun st9 e9 h9 => ?_) _ _ ?_
      · refine State.wakeUnit_keeps (Within.trans (by decide) hw) ?_
        exact h9
      · exact h6
    split
    · rename_i y11 y12 y13 y14 y15
      extract_lets +onlyGivenNames x16
      clear_value (e16 : x16 = _)
      refine Keeps.cut (w := w) (s0 := s0) e16 ?_ (fun h16 => ?_) <;> clear e16
      · refine Keeps.foldl (fun st17 e17 h17 => ?_) _ _ ?_
        · refine State.takeStaged_keeps (Within.trans (by decide) hw) ?_
          exact h17
        · refine State.retrust_keeps (Within.trans (by decide) hw) ?_
          refine Keeps.fst y15 ?_
          refine State.advanceGen_keeps (Within.trans (by decide) hw) ?_
          exact h8
      extract_lets +onlyGivenNames x21
      clear_value (e21 : x21 = _)
      refine Keeps.cut (w := w) (s0 := s0) e21 ?_ (fun h21 => ?_) <;> clear e21
      · refine State.setReg_keeps (Within.trans (by decide) hw) ?_
        refine State.setF_keeps (Within.trans (by decide) hw) ?_
        refine Keeps.set_armB_armF_notTaken (Within.trans (by decide) hw) ?_
        exact h16
      extract_lets +onlyGivenNames x24
      clear_value (e24 : x24 = _)
      refine Keeps.cut (w := w) (s0 := s0) e24 ?_ (fun h24 => ?_) <;> clear e24
      · refine Keeps.foldl (fun st25 e25 h25 => ?_) _ _ ?_
        · refine State.unloadPol_keeps (Within.trans (by decide) hw) ?_
          exact h25
        · exact h21
      extract_lets +onlyGivenNames x27
      clear_value (e27 : x27 = _)
      refine Keeps.cut (w := w) (s0 := s0) e27 ?_ (fun h27 => ?_) <;> clear e27
      · refine Keeps.foldl (fun st28 e28 h28 => ?_) _ _ ?_
        · refine State.clearTiles_keeps (Within.trans (by decide) hw) ?_
          refine Keeps.foldl (fun st30 e30 h30 => ?_) _ _ ?_
          · refine State.emptySlot_keeps (Within.trans (by decide) hw) ?_
            exact h30
          · exact h28
        · exact h24
      extract_lets +onlyGivenNames x32
      clear_value (e32 : x32 = _)
      refine Keeps.cut (w := w) (s0 := s0) e32 ?_ (fun h32 => ?_) <;> clear e32
      · refine Keeps.foldl (fun st33 e33 h33 => ?_) _ _ ?_
        · refine State.renewField_keeps (Within.trans (by decide) hw) ?_
          exact h33
        · exact h27
      extract_lets +onlyGivenNames x35
      clear_value (e35 : x35 = _)
      refine Keeps.cut (w := w) (s0 := s0) e35 ?_ (fun h35 => ?_) <;> clear e35
      · refine Keeps.foldl (fun st36 e36 h36 => ?_) _ _ ?_
        · refine Keeps.set_linkRes (Within.trans (by decide) hw) ?_
          exact h36
        · exact h32
      extract_lets +onlyGivenNames x37
      clear_value (e37 : x37 = _)
      refine Keeps.cut (w := w) (s0 := s0) e37 ?_ (fun h37 => ?_) <;> clear e37
      · refine State.flushChanged_keeps (Within.trans (by decide) hw) ?_
        exact h35
      extract_lets +onlyGivenNames x39
      clear_value (e39 : x39 = _)
      refine Keeps.cut (w := w) (s0 := s0) e39 ?_ (fun h39 => ?_) <;> clear e39
      · refine Keeps.foldl (fun st40 e40 h40 => ?_) _ _ ?_
        · refine State.rotateKey_keeps (Within.trans (by decide) hw) ?_
          exact h40
        · refine Keeps.foldl (fun st42 e42 h42 => ?_) _ _ ?_
          · refine State.newEpoch_keeps (Within.trans (by decide) hw) ?_
            exact h42
          · exact h37
      extract_lets +onlyGivenNames x44
      clear_value (e44 : x44 = _)
      refine Keeps.cut (w := w) (s0 := s0) e44 ?_ (fun h44 => ?_) <;> clear e44
      · refine Keeps.foldl (fun st45 e45 h45 => ?_) _ _ ?_
        · refine State.checkPools_keeps (Within.trans (by decide) hw) ?_
          refine State.retireCols_keeps (Within.trans (by decide) hw) ?_
          exact h45
        · exact h39
      refine State.traceRec_keeps (Within.trans (by decide) hw) ?_
      exact h44

theorem effRejoin_keeps {w : Nat} {s0 s : State} (hw : Within 980492359 w) (h : Keeps w s0 s) : Keeps w s0 (effRejoin s) := by
  unfold effRejoin
  split
  · exact h
  · extract_lets +onlyGivenNames x1
    clear_value (e1 : x1 = _)
    refine Keeps.cut (w := w) (s0 := s0) e1 ?_ (fun h1 => ?_) <;> clear e1
    · refine Keeps.set_rejoin (Within.trans (by decide) hw) ?_
      exact h
    split
    · extract_lets +onlyGivenNames x2
      clear_value (e2 : x2 = _)
      refine Keeps.cut (w := w) (s0 := s0) e2 ?_ (fun h2 => ?_) <;> clear e2
      · split
        · refine State.startClear_keeps (Within.trans (by decide) hw) ?_
          exact h1
        · exact h1
      extract_lets +onlyGivenNames x4
      clear_value (e4 : x4 = _)
      refine Keeps.cut (w := w) (s0 := s0) e4 ?_ (fun h4 => ?_) <;> clear e4
      · refine State.setF_keeps (Within.trans (by decide) hw) ?_
        refine State.takeStaged_keeps (Within.trans (by decide) hw) ?_
        refine Keeps.set_regs (Within.trans (by decide) hw) ?_
        exact h2
      refine State.setReg_keeps (Within.trans (by decide) hw) ?_
      exact h4
    · refine State.armPost_keeps (Within.trans (by decide) hw) ?_
      refine State.setReg_keeps (Within.trans (by decide) hw) ?_
      exact h1

theorem execActivation_keeps {w : Nat} {s0 s : State} (hw : Within 44359142620895303 w) (h : Keeps w s0 s) : KeepsO w s0 (execActivation s) := by
  unfold execActivation
  refine KeepsO.next ?_
  refine effActivation_keeps (Within.trans (by decide) hw) ?_
  exact h

theorem execActivationComplete_keeps {w : Nat} {s0 s : State} (hw : Within 174129217 w) (h : Keeps w s0 s) : KeepsO w s0 (execActivationComplete s) := by
  unfold execActivationComplete
  refine KeepsO.next ?_
  refine effActivated_keeps (Within.trans (by decide) hw) ?_
  exact h

theorem execArmBeat_keeps {w : Nat} {s0 s : State} (hw : Within 2049 w) (h : Keeps w s0 s) : KeepsO w s0 (execArmBeat s) := by
  unfold execArmBeat
  refine KeepsO.next ?_
  refine effArmBeat_keeps (Within.trans (by decide) hw) ?_
  exact h

theorem execArmCtrlDiscard_keeps {w : Nat} {s0 s : State} (hw : Within 5 w) (h : Keeps w s0 s) : KeepsO w s0 (execArmCtrlDiscard s) := by
  unfold execArmCtrlDiscard
  refine KeepsO.next ?_
  refine effArmDiscard_keeps (Within.trans (by decide) hw) ?_
  exact h

theorem execArmFrame_keeps {w : Nat} {s0 s : State} (hw : Within 4097 w) (h : Keeps w s0 s) : KeepsO w s0 (execArmFrame s) := by
  unfold execArmFrame
  refine KeepsO.next ?_
  refine effArmFrame_keeps (Within.trans (by decide) hw) ?_
  exact h

theorem execDisarm_keeps {w : Nat} {s0 s : State} (hw : Within 6145 w) (h : Keeps w s0 s) : KeepsO w s0 (execDisarm s) := by
  unfold execDisarm
  refine KeepsO.next ?_
  refine effDisarm_keeps (Within.trans (by decide) hw) ?_
  exact h

theorem execLoadAbandon_keeps {w : Nat} {s0 s : State} {a0 : Nat} (hw : Within 36310272841941057 w) (h : Keeps w s0 s) : KeepsO w s0 (execLoadAbandon a0 s) := by
  unfold execLoadAbandon
  refine KeepsO.onPol ?_
  split
  · split
    · refine State.abandonLoad_keeps (Within.trans (by decide) hw) ?_
      exact h
    · exact h
  · exact h

theorem execRejoinApply_keeps {w : Nat} {s0 s : State} (hw : Within 980492359 w) (h : Keeps w s0 s) : KeepsO w s0 (execRejoinApply s) := by
  unfold execRejoinApply
  refine KeepsO.next ?_
  refine effRejoin_keeps (Within.trans (by decide) hw) ?_
  exact h

theorem State.bridgeOut_keeps {w : Nat} {s0 s : State} {a0 : HeldEntry} (hw : Within 33554432 w) (h : Keeps w s0 s) : Keeps w s0 (State.bridgeOut s a0) := by
  unfold State.bridgeOut
  refine Keeps.foldl (fun st1 e1 h1 => ?_) _ _ ?_
  · split
    · split
      · exact h1
      · refine State.hostWrite_keeps (Within.trans (by decide) hw) ?_
        exact h1
    · exact h1
  · exact h

theorem State.retireRow_keeps {w : Nat} {s0 s : State} {a0 : Nat} {a1 : List Nat} (hw : Within 18696175681 w) (h : Keeps w s0 s) : Keeps w s0 (State.retireRow s a0 a1) := by
  unfold State.retireRow
  extract_lets +onlyGivenNames x1
  clear_value x1
  split
  · rename_i y2 y3 y4 y5 y6 y7 y8
    extract_lets +onlyGivenNames x9
    clear_value x9
    split
    · exact h
    · extract_lets +onlyGivenNames x10
      clear_value x10
      split
      · refine State.fault_keeps (Within.trans (by decide) hw) ?_
        exact h
      · extract_lets +onlyGivenNames x12
        clear_value x12
        extract_lets +onlyGivenNames x13
        clear_value (e13 : x13 = _)
        refine Keeps.cut (w := w) (s0 := s0) e13 ?_ (fun h13 => ?_) <;> clear e13
        · refine Keeps.foldl (fun st14 e14 h14 => ?_) _ _ ?_
          · extract_lets +onlyGivenNames x15
            clear_value x15
            extract_lets +onlyGivenNames x16
            clear_value x16
            refine State.setSlice_keeps (Within.trans (by decide) hw) ?_
            exact h14
          · exact h
        extract_lets +onlyGivenNames x18
        clear_value x18
        extract_lets +onlyGivenNames x19
        clear_value (e19 : x19 = _)
        refine Keeps.cut (w := w) (s0 := s0) e19 ?_ (fun h19 => ?_) <;> clear e19
        · refine Keeps.set_poison (Within.trans (by decide) hw) ?_
          exact h13
        extract_lets +onlyGivenNames x20
        clear_value x20
        extract_lets +onlyGivenNames x21
        clear_value x21
        extract_lets +onlyGivenNames x22
        clear_value (e22 : x22 = _)
        refine Keeps.cut (w := w) (s0 := s0) e22 ?_ (fun h22 => ?_) <;> clear e22
        · refine State.sat_keeps (Within.trans (by decide) hw) ?_
          refine State.setStack_keeps (Within.trans (by decide) hw) ?_
          exact h19
        refine State.fault_keeps (Within.trans (by decide) hw) ?_
        exact h22

theorem State.hbmOutcome_keeps {w : Nat} {s0 s : State} {a0 : Nat} {a1 : Nat} {a2 : Nat} {a3 : List Nat} (hw : Within 18696175681 w) (h : Keeps w s0 s) : Keeps w s0 (State.hbmOutcome s a0 a1 a2 a3) := by
  unfold State.hbmOutcome
  extract_lets +onlyGivenNames x1
  clear_value x1
  split
  · split
    · rename_i y2 y3 y4 y5 y6 y7 y8 y9
      extract_lets +onlyGivenNames x10
      clear_value x10
      extract_lets +onlyGivenNames x11
      clear_value x11
      extract_lets +onlyGivenNames x12
      clear_value x12
      extract_lets +onlyGivenNames x13
      clear_value (e13 : x13 = _)
      refine Keeps.cut (w := w) (s0 := s0) e13 ?_ (fun h13 => ?_) <;> clear e13
      · refine State.sat_keeps (Within.trans (by decide) hw) ?_
        refine State.setStack_keeps (Within.trans (by decide) hw) ?_
        exact h
      split
      · refine State.retireRow_keeps (Within.trans (by decide) hw) ?_
        exact h13
      · exact h13
  · refine State.sat_keeps (Within.trans (by decide) hw) ?_
    exact h
  · extract_lets +onlyGivenNames x18
    clear_value x18
    extract_lets +onlyGivenNames x19
    clear_value (e19 : x19 = _)
    refine Keeps.cut (w := w) (s0 := s0) e19 ?_ (fun h19 => ?_) <;> clear e19
    · refine State.lasting_keeps (Within.trans (by decide) hw) ?_
      refine State.sat_keeps (Within.trans (by decide) hw) ?_
      exact h
    extract_lets +onlyGivenNames x22
    clear_value (e22 : x22 = _)
    refine Keeps.cut (w := w) (s0 := s0) e22 ?_ (fun h22 => ?_) <;> clear e22
    · refine Keeps.set_poison (Within.trans (by decide) hw) ?_
      exact h19
    split
    · rename_i y23 y24 y25 y26 y27 y28 y29 y30
      refine State.retireRow_keeps (Within.trans (by decide) hw) ?_
      refine State.fault_keeps (Within.trans (by decide) hw) ?_
      exact h22
  · exact h

theorem State.onHeld_keeps {w : Nat} {s0 s : State} {a0 : Nat} {a1 : List HeldEntry → List HeldEntry} (hw : Within 268435456 w) (h : Keeps w s0 s) : Keeps w s0 (State.onHeld s a0 a1) := by
  unfold State.onHeld
  refine State.setSlice_keeps (Within.trans (by decide) hw) ?_
  exact h

theorem State.moveProv_keeps {w : Nat} {s0 s : State} {a0 : Nat} (hw : Within 268435521 w) (h : Keeps w s0 s) : Keeps w s0 (State.moveProv s a0) := by
  unfold State.moveProv
  extract_lets +onlyGivenNames x1
  clear_value x1
  split
  · exact h
  · extract_lets +onlyGivenNames x2
    clear_value x2
    extract_lets +onlyGivenNames x3
    clear_value x3
    extract_lets +onlyGivenNames x4
    clear_value x4
    extract_lets +onlyGivenNames x5
    clear_value x5
    extract_lets +onlyGivenNames x6
    clear_value (e6 : x6 = _)
    refine Keeps.cut (w := w) (s0 := s0) e6 ?_ (fun h6 => ?_) <;> clear e6
    · refine State.onHeld_keeps (Within.trans (by decide) hw) ?_
      exact h
    split
    · exact h6
    · split
      · rename_i y8 y9 y10 y11 y12 y13 y14 y15
        split
        · refine Keeps.snd y15 ?_
          refine drawFree_keeps (Within.trans (by decide) hw) ?_
          exact h6
        · extract_lets +onlyGivenNames x17
          clear_value x17
          extract_lets +onlyGivenNames x18
          clear_value (e18 : x18 = _)
          refine Keeps.cut (w := w) (s0 := s0) e18 ?_ (fun h18 => ?_) <;> clear e18
          · refine State.setSlice_keeps (Within.trans (by decide) hw) ?_
            refine Keeps.snd y15 ?_
            refine drawFree_keeps (Within.trans (by decide) hw) ?_
            exact h6
          split
          · refine State.countEv_keeps (Within.trans (by decide) hw) ?_
            refine State.bump_keeps (Within.trans (by decide) hw) ?_
            exact h18
          · exact h18

theorem State.hold_keeps {w : Nat} {s0 s : State} {a0 : Nat} {a1 : HeldEntry} (hw : Within 17448566849 w) (h : Keeps w s0 s) : Keeps w s0 (State.hold s a0 a1) := by
  unfold State.hold
  extract_lets +onlyGivenNames x1
  split
  · refine State.onHeld_keeps (Within.trans (by decide) hw) ?_
    exact h
  · extract_lets +onlyGivenNames x3
    clear_value (e3 : x3 = _)
    refine Keeps.cut (w := w) (s0 := s0) e3 ?_ (fun h3 => ?_) <;> clear e3
    · split
      · exact h
      · refine State.moveProv_keeps (Within.trans (by decide) hw) ?_
        exact h
    refine State.highDrain_keeps (Within.trans (by decide) hw) ?_
    refine State.onHeld_keeps (Within.trans (by decide) hw) ?_
    exact h3

theorem State.sramError_keeps {w : Nat} {s0 s : State} {a0 : Nat} {a1 : Nat} {a2 : Nat} {a3 : Nat} {a4 : Nat} (hw : Within 17622433857 w) (h : Keeps w s0 s) : Keeps w s0 (State.sramError s a0 a1 a2 a3 a4) := by
  unfold State.sramError
  extract_lets +onlyGivenNames x1
  clear_value x1
  extract_lets +onlyGivenNames x2
  clear_value x2
  split
  · exact h
  · split
    · refine State.sat_keeps (Within.trans (by decide) hw) ?_
      exact h
    · split
      · extract_lets +onlyGivenNames x4
        clear_value (e4 : x4 = _)
        refine Keeps.cut (w := w) (s0 := s0) e4 ?_ (fun h4 => ?_) <;> clear e4
        · refine State.lasting_keeps (Within.trans (by decide) hw) ?_
          refine State.sat_keeps (Within.trans (by decide) hw) ?_
          exact h
        extract_lets +onlyGivenNames x7
        clear_value x7
        extract_lets +onlyGivenNames x8
        clear_value (e8 : x8 = _)
        refine Keeps.cut (w := w) (s0 := s0) e8 ?_ (fun h8 => ?_) <;> clear e8
        · split
          · refine Keeps.set_poison (Within.trans (by decide) hw) ?_
            exact h4
          · refine State.setSlice_keeps (Within.trans (by decide) hw) ?_
            exact h4
        refine State.fault_keeps (Within.trans (by decide) hw) ?_
        exact h8
      · exact h

theorem State.zeroed_keeps {w : Nat} {s0 s : State} {a0 : Nat} (hw : Within 66840690753 w) (h : Keeps w s0 s) : Keeps w s0 (State.zeroed s a0) := by
  unfold State.zeroed
  extract_lets +onlyGivenNames x1
  clear_value x1
  extract_lets +onlyGivenNames x2
  clear_value x2
  extract_lets +onlyGivenNames x3
  clear_value (e3 : x3 = _)
  refine Keeps.cut (w := w) (s0 := s0) e3 ?_ (fun h3 => ?_) <;> clear e3
  · refine State.bump_keeps (Within.trans (by decide) hw) ?_
    refine Keeps.set_clean_zeroing_waitSt (Within.trans (by decide) hw) ?_
    exact h
  refine Keeps.foldl (fun st5 e5 h5 => ?_) _ _ ?_
  · refine State.accept_keeps (Within.trans (by decide) hw) ?_
    exact h5
  · exact h3

theorem effCommit_keeps {w : Nat} {s0 s : State} {a0 : Nat} {a1 : Nat} (hw : Within 65264681025 w) (h : Keeps w s0 s) : Keeps w s0 (effCommit a0 a1 s) := by
  unfold effCommit
  extract_lets +onlyGivenNames x1
  clear_value x1
  split
  · exact h
  · split
    · exact h
    · extract_lets +onlyGivenNames x2
      split
      · exact h
      · extract_lets +onlyGivenNames x3
        clear_value (e3 : x3 = _)
        refine Keeps.cut (w := w) (s0 := s0) e3 ?_ (fun h3 => ?_) <;> clear e3
        · refine Keeps.foldl (fun st4 e4 h4 => ?_) _ _ ?_
          · extract_lets +onlyGivenNames x5
            split
            · exact h4
            · extract_lets +onlyGivenNames x6
              clear_value (e6 : x6 = _)
              refine Keeps.cut (w := w) (s0 := s0) e6 ?_ (fun h6 => ?_) <;> clear e6
              · refine State.onHeld_keeps (Within.trans (by decide) hw) ?_
                exact h4
              refine State.countEv_keeps (Within.trans (by decide) hw) ?_
              refine Keeps.foldl (fun st9 e9 h9 => ?_) _ _ ?_
              · refine State.storeIn_keeps (Within.trans (by decide) hw) ?_
                exact h9
              · exact h6
          · exact h
        extract_lets +onlyGivenNames x11
        clear_value x11
        extract_lets +onlyGivenNames x12
        clear_value (e12 : x12 = _)
        refine Keeps.cut (w := w) (s0 := s0) e12 ?_ (fun h12 => ?_) <;> clear e12
        · refine Keeps.foldl (fun st13 e13 h13 => ?_) _ _ ?_
          · refine State.bridgeOut_keeps (Within.trans (by decide) hw) ?_
            exact h13
          · refine Keeps.set_bridge (Within.trans (by decide) hw) ?_
            exact h3
        refine State.onT_keeps (Within.trans (by decide) hw) ?_
        exact h12

theorem effDiscard_keeps {w : Nat} {s0 s : State} {a0 : Nat} {a1 : Nat} (hw : Within 805306369 w) (h : Keeps w s0 s) : Keeps w s0 (effDiscard a0 a1 s) := by
  unfold effDiscard
  extract_lets +onlyGivenNames x1
  clear_value x1
  extract_lets +onlyGivenNames x2
  refine State.dropHeld_keeps (Within.trans (by decide) hw) ?_
  exact h

theorem effDrainAge_keeps {w : Nat} {s0 s : State} {a0 : Nat} (hw : Within 17448566849 w) (h : Keeps w s0 s) : Keeps w s0 (effDrainAge a0 s) := by
  unfold effDrainAge
  split
  · exact h
  · refine State.drain_keeps (Within.trans (by decide) hw) ?_
    refine State.setSlice_keeps (Within.trans (by decide) hw) ?_
    exact h

theorem effHbmReturn_keeps {w : Nat} {s0 s : State} {a0 : Nat} {a1 : Nat} {a2 : List Nat} (hw : Within 18696175681 w) (h : Keeps w s0 s) : Keeps w s0 (effHbmReturn a0 a1 a2 s) := by
  unfold effHbmReturn
  extract_lets +onlyGivenNames x1
  clear_value x1
  extract_lets +onlyGivenNames x2
  clear_value x2
  split
  · exact h
  · refine State.hbmOutcome_keeps (Within.trans (by decide) hw) ?_
    refine State.touch_keeps (Within.trans (by decide) hw) ?_
    exact h

theorem effHeldStore_keeps {w : Nat} {s0 s : State} {a0 : Nat} {a1 : Nat} (hw : Within 4530006067707969 w) (h : Keeps w s0 s) : Keeps w s0 (effHeldStore a0 a1 s) := by
  unfold effHeldStore
  extract_lets +onlyGivenNames x1
  clear_value x1
  split
  · exact h
  · extract_lets +onlyGivenNames x2
    clear_value x2
    extract_lets +onlyGivenNames x3
    clear_value x3
    extract_lets +onlyGivenNames x4
    split
    · refine State.mvFault_keeps (Within.trans (by decide) hw) ?_
      exact h
    · split
      · refine State.mvFault_keeps (Within.trans (by decide) hw) ?_
        exact h
      · dsimp only [x4]
        refine State.onT_keeps (Within.trans (by decide) hw) ?_
        refine Keeps.set_bridge (Within.trans (by decide) hw) ?_
        exact h
    · extract_lets +onlyGivenNames x8
      clear_value x8
      extract_lets +onlyGivenNames x9
      clear_value x9
      split
      · refine State.mvFault_keeps (Within.trans (by decide) hw) ?_
        exact h
      · split
        · refine State.mvFault_keeps (Within.trans (by decide) hw) ?_
          refine State.dikeRefuse_keeps (Within.trans (by decide) hw) ?_
          exact h
        · split
          · refine State.mvFault_keeps (Within.trans (by decide) hw) ?_
            refine State.err_keeps (Within.trans (by decide) hw) ?_
            exact h
          · split
            · exact h
            · extract_lets +onlyGivenNames x15
              clear_value (e15 : x15 = _)
              refine Keeps.cut (w := w) (s0 := s0) e15 ?_ (fun h15 => ?_) <;> clear e15
              · refine State.portGrant_keeps (Within.trans (by decide) hw) ?_
                exact h
              extract_lets +onlyGivenNames x17
              clear_value (e17 : x17 = _)
              refine Keeps.cut (w := w) (s0 := s0) e17 ?_ (fun h17 => ?_) <;> clear e17
              · split
                · exact h15
                · refine State.dropNear_keeps (Within.trans (by decide) hw) ?_
                  exact h15
              dsimp only [x4]
              refine State.onT_keeps (Within.trans (by decide) hw) ?_
              refine State.hold_keeps (Within.trans (by decide) hw) ?_
              exact h17

theorem effInval_keeps {w : Nat} {s0 s : State} {a0 : Nat} {a1 : Nat} (hw : Within 34628173824 w) (h : Keeps w s0 s) : Keeps w s0 (effInval a0 a1 s) := by
  unfold effInval
  split
  · refine State.dropNear_keeps (Within.trans (by decide) hw) ?_
    refine Keeps.set_inval (Within.trans (by decide) hw) ?_
    exact h
  · exact h

theorem effPatrol_keeps {w : Nat} {s0 s : State} {a0 : Nat} {a1 : Nat} {a2 : List Nat} (hw : Within 18696175681 w) (h : Keeps w s0 s) : Keeps w s0 (effPatrol a0 a1 a2 s) := by
  unfold effPatrol
  split
  · exact h
  · extract_lets +onlyGivenNames x1
    clear_value x1
    extract_lets +onlyGivenNames x2
    clear_value x2
    extract_lets +onlyGivenNames x3
    clear_value x3
    extract_lets +onlyGivenNames x4
    clear_value (e4 : x4 = _)
    refine Keeps.cut (w := w) (s0 := s0) e4 ?_ (fun h4 => ?_) <;> clear e4
    · refine State.setStack_keeps (Within.trans (by decide) hw) ?_
      exact h
    extract_lets +onlyGivenNames x6
    clear_value x6
    split
    · exact h4
    · extract_lets +onlyGivenNames x7
      clear_value (e7 : x7 = _)
      refine Keeps.cut (w := w) (s0 := s0) e7 ?_ (fun h7 => ?_) <;> clear e7
      · refine State.countEv_keeps (Within.trans (by decide) hw) ?_
        refine State.bump_keeps (Within.trans (by decide) hw) ?_
        refine State.portGrant_keeps (Within.trans (by decide) hw) ?_
        exact h4
      extract_lets +onlyGivenNames x11
      clear_value (e11 : x11 = _)
      refine Keeps.cut (w := w) (s0 := s0) e11 ?_ (fun h11 => ?_) <;> clear e11
      · split
        · refine State.countEv_keeps (Within.trans (by decide) hw) ?_
          refine State.bump_keeps (Within.trans (by decide) hw) ?_
          exact h7
        · exact h7
      refine State.hbmOutcome_keeps (Within.trans (by decide) hw) ?_
      exact h11

theorem effProvFull_keeps {w : Nat} {s0 s : State} {a0 : Nat} {a1 : Nat} (hw : Within 4529988082270273 w) (h : Keeps w s0 s) : Keeps w s0 (effProvFull a0 a1 s) := by
  unfold effProvFull
  extract_lets +onlyGivenNames x1
  clear_value x1
  split
  · exact h
  · extract_lets +onlyGivenNames x2
    clear_value x2
    split
    · extract_lets +onlyGivenNames x3
      clear_value x3
      split
      · exact h
      · refine State.mvFault_keeps (Within.trans (by decide) hw) ?_
        refine State.fault_keeps (Within.trans (by decide) hw) ?_
        exact h
    · exact h

theorem effScrub_keeps {w : Nat} {s0 s : State} {a0 : Nat} (hw : Within 66840690753 w) (h : Keeps w s0 s) : Keeps w s0 (effScrub a0 s) := by
  unfold effScrub
  extract_lets +onlyGivenNames x1
  clear_value x1
  split
  · refine State.zeroed_keeps (Within.trans (by decide) hw) ?_
    exact h
  · exact h

theorem effSliceLoad_keeps {w : Nat} {s0 s : State} {a0 : Nat} {a1 : Nat} {a2 : Nat} {a3 : Nat} {a4 : Nat} {a5 : Nat} (hw : Within 86342172737 w) (h : Keeps w s0 s) : Keeps w s0 (effSliceLoad a0 a1 a2 a3 a4 a5 s) := by
  unfold effSliceLoad
  extract_lets +onlyGivenNames x1
  clear_value (e1 : x1 = _)
  refine Keeps.cut (w := w) (s0 := s0) e1 ?_ (fun h1 => ?_) <;> clear e1
  · split
    · refine State.sramError_keeps (Within.trans (by decide) hw) ?_
      exact h
    · exact h
  split
  · rename_i y3 y4 y5 y6
    refine Keeps.set_loadData (Within.trans (by decide) hw) ?_
    refine Keeps.snd y6 ?_
    refine State.polLoad_keeps (Within.trans (by decide) hw) ?_
    exact h1
  · rename_i y8 y9 y10 y11
    refine Keeps.set_loadData (Within.trans (by decide) hw) ?_
    refine Keeps.snd y11 ?_
    refine State.polLoad_keeps (Within.trans (by decide) hw) ?_
    exact h1

theorem execCommit_keeps {w : Nat} {s0 s : State} {a0 : Nat} {a1 : Nat} (hw : Within 65264681025 w) (h : Keeps w s0 s) : KeepsO w s0 (execCommit a0 a1 s) := by
  unfold execCommit
  refine KeepsO.onTile ?_
  refine effCommit_keeps (Within.trans (by decide) hw) ?_
  exact h

theorem execDiscard_keeps {w : Nat} {s0 s : State} {a0 : Nat} {a1 : Nat} (hw : Within 805306369 w) (h : Keeps w s0 s) : KeepsO w s0 (execDiscard a0 a1 s) := by
  unfold execDiscard
  refine KeepsO.onTile ?_
  refine effDiscard_keeps (Within.trans (by decide) hw) ?_
  exact h

theorem execFreshZeroDone_keeps {w : Nat} {s0 s : State} {a0 : Nat} (hw : Within 66840690753 w) (h : Keeps w s0 s) : KeepsO w s0 (execFreshZeroDone a0 s) := by
  unfold execFreshZeroDone
  refine KeepsO.onUnit ?_
  split
  · refine State.zeroed_keeps (Within.trans (by decide) hw) ?_
    exact h
  · exact h

theorem execHbmReadReturn_keeps {w : Nat} {s0 s : State} {a0 : Nat} {a1 : Nat} {a2 : List Nat} (hw : Within 18696175681 w) (h : Keeps w s0 s) : KeepsO w s0 (execHbmReadReturn a0 a1 a2 s) := by
  unfold execHbmReadReturn
  split
  · refine KeepsO.next ?_
    refine effHbmReturn_keeps (Within.trans (by decide) hw) ?_
    exact h
  · exact KeepsO.fault _

theorem execHeldStore_keeps {w : Nat} {s0 s : State} {a0 : Nat} {a1 : Nat} (hw : Within 4530006067707969 w) (h : Keeps w s0 s) : KeepsO w s0 (execHeldStore a0 a1 s) := by
  unfold execHeldStore
  refine KeepsO.onTile ?_
  refine effHeldStore_keeps (Within.trans (by decide) hw) ?_
  exact h

theorem execNearInvalidate_keeps {w : Nat} {s0 s : State} {a0 : Nat} {a1 : Nat} (hw : Within 34628173824 w) (h : Keeps w s0 s) : KeepsO w s0 (execNearInvalidate a0 a1 s) := by
  unfold execNearInvalidate
  refine KeepsO.onDie ?_
  refine effInval_keeps (Within.trans (by decide) hw) ?_
  exact h

theorem execPatrolRead_keeps {w : Nat} {s0 s : State} {a0 : Nat} {a1 : Nat} {a2 : List Nat} (hw : Within 18696175681 w) (h : Keeps w s0 s) : KeepsO w s0 (execPatrolRead a0 a1 a2 s) := by
  unfold execPatrolRead
  refine KeepsO.onStack ?_
  refine effPatrol_keeps (Within.trans (by decide) hw) ?_
  exact h

theorem execProvFull_keeps {w : Nat} {s0 s : State} {a0 : Nat} {a1 : Nat} (hw : Within 4529988082270273 w) (h : Keeps w s0 s) : KeepsO w s0 (execProvFull a0 a1 s) := by
  unfold execProvFull
  refine KeepsO.onTile ?_
  refine effProvFull_keeps (Within.trans (by decide) hw) ?_
  exact h

theorem execScrubZeroBlock_keeps {w : Nat} {s0 s : State} {a0 : Nat} (hw : Within 66840690753 w) (h : Keeps w s0 s) : KeepsO w s0 (execScrubZeroBlock a0 s) := by
  unfold execScrubZeroBlock
  refine KeepsO.onStack ?_
  refine effScrub_keeps (Within.trans (by decide) hw) ?_
  exact h

theorem execSliceLoad_keeps {w : Nat} {s0 s : State} {a0 : Nat} {a1 : Nat} {a2 : Nat} {a3 : Nat} {a4 : Nat} {a5 : Nat} (hw : Within 86342172737 w) (h : Keeps w s0 s) : KeepsO w s0 (execSliceLoad a0 a1 a2 a3 a4 a5 s) := by
  unfold execSliceLoad
  split
  · refine KeepsO.next ?_
    refine effSliceLoad_keeps (Within.trans (by decide) hw) ?_
    exact h
  · exact KeepsO.fault _

theorem execSliceStore_keeps {w : Nat} {s0 s : State} {a0 : Nat} {a1 : Nat} {a2 : Nat} {a3 : Nat} {a4 : List Byte} (hw : Within 64867336257 w) (h : Keeps w s0 s) : KeepsO w s0 (execSliceStore a0 a1 a2 a3 a4 s) := by
  unfold execSliceStore
  split
  · refine KeepsO.next ?_
    refine State.polStore_keeps (Within.trans (by decide) hw) ?_
    exact h
  · exact KeepsO.fault _

theorem execWcbDrainAge_keeps {w : Nat} {s0 s : State} {a0 : Nat} (hw : Within 17448566849 w) (h : Keeps w s0 s) : KeepsO w s0 (execWcbDrainAge a0 s) := by
  unfold execWcbDrainAge
  refine KeepsO.onSlice ?_
  refine effDrainAge_keeps (Within.trans (by decide) hw) ?_
  exact h

end Sys2Proof.Machine
end

