-- ==== Sys2Proof/Laws/KeepsI.lean ====
section
/-!
SUPPORT. What each function of ResetOps, ModOps, ModuleRows may change: the mask of parts, and both memories stay canonical.
-/
namespace Sys2Proof.Machine

theorem State.cold_keeps {w : Nat} {s0 s : State} (hw : Within 288230376151711743 w) (h : Keeps w s0 s) : Keeps w s0 (State.cold s) := by
  unfold State.cold
  extract_lets +onlyGivenNames y1
  extract_lets +onlyGivenNames y2
  extract_lets +onlyGivenNames y3
  extract_lets +onlyGivenNames y4
  have z3 : Keeps w s0 y4 := Keeps.all hw h rfl rfl rfl
  clear_value y4
  extract_lets +onlyGivenNames x1
  clear_value (e1 : x1 = _)
  refine Keeps.cut (w := w) (s0 := s0) e1 ?_ (fun h1 => ?_) <;> clear e1
  · refine Keeps.foldl (fun st2 e2 h2 => ?_) _ _ ?_
    · refine Keeps.foldl (fun st3 e3 h3 => ?_) _ _ ?_
      · refine Keeps.foldl (fun st4 e4 h4 => ?_) _ _ ?_
        · extract_lets +onlyGivenNames x5
          clear_value x5
          refine State.setSlice_keeps (Within.trans (by decide) hw) ?_
          exact h4
        · refine State.sat_keeps (Within.trans (by decide) hw) ?_
          exact h3
      · exact h2
    · exact z3
  refine Keeps.foldl (fun st8 e8 h8 => ?_) _ _ ?_
  · refine State.setReg_keeps (Within.trans (by decide) hw) ?_
    refine State.setReg_keeps (Within.trans (by decide) hw) ?_
    exact h8
  · exact h1

theorem State.repairRow_keeps {w : Nat} {s0 s : State} {a0 : Nat} {a1 : RetiredRow} {a2 : Nat} (hw : Within 1516306497 w) (h : Keeps w s0 s) : Keeps w s0 (State.repairRow s a0 a1 a2) := by
  unfold State.repairRow
  extract_lets +onlyGivenNames x1
  extract_lets +onlyGivenNames x2
  split
  · extract_lets +onlyGivenNames x3
    clear_value (e3 : x3 = _)
    refine Keeps.cut (w := w) (s0 := s0) e3 ?_ (fun h3 => ?_) <;> clear e3
    · refine Keeps.foldl (fun st4 e4 h4 => ?_) _ _ ?_
      · extract_lets +onlyGivenNames x5
        clear_value x5
        extract_lets +onlyGivenNames x6
        clear_value x6
        refine State.setSlice_keeps (Within.trans (by decide) hw) ?_
        exact h4
      · exact h
    refine State.fault_keeps (Within.trans (by decide) hw) ?_
    refine State.setF_keeps (Within.trans (by decide) hw) ?_
    dsimp only [x2]
    refine State.setStack_keeps (Within.trans (by decide) hw) ?_
    exact h3
  · refine State.fault_keeps (Within.trans (by decide) hw) ?_
    dsimp only [x2]
    refine State.setStack_keeps (Within.trans (by decide) hw) ?_
    exact h
  · exact h

theorem State.repairRows_keeps {w : Nat} {s0 s : State} {a0 : List Nat} (hw : Within 1516306497 w) (h : Keeps w s0 s) : Keeps w s0 (State.repairRows s a0) := by
  unfold State.repairRows
  extract_lets +onlyGivenNames x1
  clear_value x1
  refine Keeps.foldl (fun st2 e2 h2 => ?_) _ _ ?_
  · refine State.repairRow_keeps (Within.trans (by decide) hw) ?_
    exact h2
  · exact h

theorem State.unloaded_keeps {w : Nat} {s0 s : State} {a0 : Nat} (hw : Within 2097152 w) (h : Keeps w s0 s) : Keeps w s0 (State.unloaded s a0) := by
  unfold State.unloaded
  refine State.setPol_keeps (Within.trans (by decide) hw) ?_
  exact h

theorem State.freePolder_keeps {w : Nat} {s0 s : State} {a0 : Nat} (hw : Within 979435585 w) (h : Keeps w s0 s) : Keeps w s0 (State.freePolder s a0) := by
  unfold State.freePolder
  extract_lets +onlyGivenNames x1
  extract_lets +onlyGivenNames x2
  clear_value x2
  extract_lets +onlyGivenNames x3
  clear_value (e3 : x3 = _)
  refine Keeps.cut (w := w) (s0 := s0) e3 ?_ (fun h3 => ?_) <;> clear e3
  · refine Keeps.set_bridge (Within.trans (by decide) hw) ?_
    exact h
  refine Keeps.foldl (fun st4 e4 h4 => ?_) _ _ ?_
  · extract_lets +onlyGivenNames x5
    clear_value x5
    split
    · exact h4
    · refine State.fault_keeps (Within.trans (by decide) hw) ?_
      refine State.setSlice_keeps (Within.trans (by decide) hw) ?_
      exact h4
  · exact h3

theorem State.resetPolder_keeps {w : Nat} {s0 s : State} {a0 : Nat} (hw : Within 113038592408879169 w) (h : Keeps w s0 s) : Keeps w s0 (State.resetPolder s a0) := by
  unfold State.resetPolder
  extract_lets +onlyGivenNames x1
  clear_value (e1 : x1 = _)
  refine Keeps.cut (w := w) (s0 := s0) e1 ?_ (fun h1 => ?_) <;> clear e1
  · split
    · refine State.polderStop_keeps (Within.trans (by decide) hw) ?_
      exact h
    · exact h
  extract_lets +onlyGivenNames x3
  clear_value (e3 : x3 = _)
  refine Keeps.cut (w := w) (s0 := s0) e3 ?_ (fun h3 => ?_) <;> clear e3
  · refine State.abandonLoad_keeps (Within.trans (by decide) hw) ?_
    refine State.abortPolder_keeps (Within.trans (by decide) hw) ?_
    exact h1
  extract_lets +onlyGivenNames x6
  clear_value (e6 : x6 = _)
  refine Keeps.cut (w := w) (s0 := s0) e6 ?_ (fun h6 => ?_) <;> clear e6
  · refine State.freePolder_keeps (Within.trans (by decide) hw) ?_
    refine Keeps.foldl (fun st8 e8 h8 => ?_) _ _ ?_
    · refine State.emptySlot_keeps (Within.trans (by decide) hw) ?_
      exact h8
    · exact h3
  extract_lets +onlyGivenNames x10
  clear_value (e10 : x10 = _)
  refine Keeps.cut (w := w) (s0 := s0) e10 ?_ (fun h10 => ?_) <;> clear e10
  · refine Keeps.foldl (fun st11 e11 h11 => ?_) _ _ ?_
    · refine State.startClear_keeps (Within.trans (by decide) hw) ?_
      exact h11
    · exact h6
  extract_lets +onlyGivenNames x13
  clear_value (e13 : x13 = _)
  refine Keeps.cut (w := w) (s0 := s0) e13 ?_ (fun h13 => ?_) <;> clear e13
  · refine Keeps.set_flight_linkRes_inReset (Within.trans (by decide) hw) ?_
    exact h10
  refine State.newEpoch_keeps (Within.trans (by decide) hw) ?_
  refine State.unloaded_keeps (Within.trans (by decide) hw) ?_
  exact h13

theorem State.dropRegs_keeps {w : Nat} {s0 s : State} {a0 : Nat} {a1 : List Nat} (hw : Within 1 w) (h : Keeps w s0 s) : Keeps w s0 (State.dropRegs s a0 a1) := by
  unfold State.dropRegs
  refine Keeps.set_regs (Within.trans (by decide) hw) ?_
  exact h

theorem State.settleSlice_keeps {w : Nat} {s0 s : State} {a0 : Nat} (hw : Within 17448566849 w) (h : Keeps w s0 s) : Keeps w s0 (State.settleSlice s a0) := by
  unfold State.settleSlice
  extract_lets +onlyGivenNames x1
  clear_value x1
  extract_lets +onlyGivenNames x2
  clear_value (e2 : x2 = _)
  refine Keeps.cut (w := w) (s0 := s0) e2 ?_ (fun h2 => ?_) <;> clear e2
  · split
    · exact h
    · refine State.countEv_keeps (Within.trans (by decide) hw) ?_
      refine State.setSlice_keeps (Within.trans (by decide) hw) ?_
      exact h
  extract_lets +onlyGivenNames x5
  clear_value x5
  extract_lets +onlyGivenNames x6
  clear_value x6
  extract_lets +onlyGivenNames x7
  clear_value (e7 : x7 = _)
  refine Keeps.cut (w := w) (s0 := s0) e7 ?_ (fun h7 => ?_) <;> clear e7
  · refine Keeps.foldl (fun st8 e8 h8 => ?_) _ _ ?_
    · refine State.drain_keeps (Within.trans (by decide) hw) ?_
      exact h8
    · refine State.setSlice_keeps (Within.trans (by decide) hw) ?_
      exact h2
  extract_lets +onlyGivenNames x11
  clear_value (e11 : x11 = _)
  refine Keeps.cut (w := w) (s0 := s0) e11 ?_ (fun h11 => ?_) <;> clear e11
  · refine Keeps.foldl (fun st12 e12 h12 => ?_) _ _ ?_
    · split
      · refine State.countEv_keeps (Within.trans (by decide) hw) ?_
        refine State.bump_keeps (Within.trans (by decide) hw) ?_
        exact h12
      · exact h12
    · exact h7
  refine State.setSlice_keeps (Within.trans (by decide) hw) ?_
  exact h11

theorem State.resetSlice_keeps {w : Nat} {s0 s : State} {a0 : Nat} (hw : Within 17448566849 w) (h : Keeps w s0 s) : Keeps w s0 (State.resetSlice s a0) := by
  unfold State.resetSlice
  extract_lets +onlyGivenNames x1
  clear_value (e1 : x1 = _)
  refine Keeps.cut (w := w) (s0 := s0) e1 ?_ (fun h1 => ?_) <;> clear e1
  · refine State.settleSlice_keeps (Within.trans (by decide) hw) ?_
    exact h
  refine State.dropRegs_keeps (Within.trans (by decide) hw) ?_
  refine State.setSlice_keeps (Within.trans (by decide) hw) ?_
  exact h1

theorem State.resetDie_keeps {w : Nat} {s0 s : State} {a0 : Nat} (hw : Within 113038652538683457 w) (h : Keeps w s0 s) : Keeps w s0 (State.resetDie s a0) := by
  unfold State.resetDie
  extract_lets +onlyGivenNames x1
  clear_value x1
  extract_lets +onlyGivenNames x2
  clear_value (e2 : x2 = _)
  refine Keeps.cut (w := w) (s0 := s0) e2 ?_ (fun h2 => ?_) <;> clear e2
  · refine Keeps.foldl (fun st3 e3 h3 => ?_) _ _ ?_
    · refine State.resetPolder_keeps (Within.trans (by decide) hw) ?_
      exact h3
    · exact h
  extract_lets +onlyGivenNames x5
  clear_value (e5 : x5 = _)
  refine Keeps.cut (w := w) (s0 := s0) e5 ?_ (fun h5 => ?_) <;> clear e5
  · refine Keeps.foldl (fun st6 e6 h6 => ?_) _ _ ?_
    · split
      · exact h6
      · refine State.startClear_keeps (Within.trans (by decide) hw) ?_
        exact h6
    · exact h2
  extract_lets +onlyGivenNames x8
  clear_value (e8 : x8 = _)
  refine Keeps.cut (w := w) (s0 := s0) e8 ?_ (fun h8 => ?_) <;> clear e8
  · refine Keeps.foldl (fun st9 e9 h9 => ?_) _ _ ?_
    · refine State.resetSlice_keeps (Within.trans (by decide) hw) ?_
      exact h9
    · exact h5
  extract_lets +onlyGivenNames x11
  clear_value (e11 : x11 = _)
  refine Keeps.cut (w := w) (s0 := s0) e11 ?_ (fun h11 => ?_) <;> clear e11
  · refine Keeps.set_waitSt_inval (Within.trans (by decide) hw) ?_
    exact h8
  refine State.dropRegs_keeps (Within.trans (by decide) hw) ?_
  refine State.setKnd_keeps (Within.trans (by decide) hw) ?_
  exact h11

theorem State.resetDevice_keeps {w : Nat} {s0 s : State} {a0 : List Nat} (hw : Within 113039203368239169 w) (h : Keeps w s0 s) : Keeps w s0 (State.resetDevice s a0) := by
  unfold State.resetDevice
  extract_lets +onlyGivenNames x1
  clear_value (e1 : x1 = _)
  refine Keeps.cut (w := w) (s0 := s0) e1 ?_ (fun h1 => ?_) <;> clear e1
  · refine Keeps.foldl (fun st2 e2 h2 => ?_) _ _ ?_
    · refine State.resetDie_keeps (Within.trans (by decide) hw) ?_
      exact h2
    · exact h
  extract_lets +onlyGivenNames x4
  clear_value (e4 : x4 = _)
  refine Keeps.cut (w := w) (s0 := s0) e4 ?_ (fun h4 => ?_) <;> clear e4
  · refine Keeps.foldl (fun st5 e5 h5 => ?_) _ _ ?_
    · refine State.setF_keeps (Within.trans (by decide) hw) ?_
      refine State.dropRegs_keeps (Within.trans (by decide) hw) ?_
      refine State.setStack_keeps (Within.trans (by decide) hw) ?_
      exact h5
    · exact h1
  refine State.repairRows_keeps (Within.trans (by decide) hw) ?_
  refine Keeps.foldl (fun st10 e10 h10 => ?_) _ _ ?_
  · split
    · refine State.retrainLink_keeps (Within.trans (by decide) hw) ?_
      exact h10
    · exact h10
  · exact h4

theorem State.shutSlices_keeps {w : Nat} {s0 s : State} (hw : Within 17448566849 w) (h : Keeps w s0 s) : Keeps w s0 (State.shutSlices s) := by
  unfold State.shutSlices
  extract_lets +onlyGivenNames x1
  clear_value (e1 : x1 = _)
  refine Keeps.cut (w := w) (s0 := s0) e1 ?_ (fun h1 => ?_) <;> clear e1
  · refine Keeps.foldl (fun st2 e2 h2 => ?_) _ _ ?_
    · refine State.settleSlice_keeps (Within.trans (by decide) hw) ?_
      refine State.setSlice_keeps (Within.trans (by decide) hw) ?_
      exact h2
    · exact h
  refine Keeps.foldl (fun st5 e5 h5 => ?_) _ _ ?_
  · refine State.setF_keeps (Within.trans (by decide) hw) ?_
    exact h5
  · exact h1

theorem State.railsOff_keeps {w : Nat} {s0 s : State} (hw : Within 288230376151711743 w) (h : Keeps w s0 s) : Keeps w s0 (State.railsOff s) := by
  unfold State.railsOff
  extract_lets +onlyGivenNames x1
  clear_value (e1 : x1 = _)
  refine Keeps.cut (w := w) (s0 := s0) e1 ?_ (fun h1 => ?_) <;> clear e1
  · refine State.cold_keeps (Within.trans (by decide) hw) ?_
    exact h
  refine Keeps.set_module (Within.trans (by decide) hw) ?_
  exact h1

theorem State.shutPolders_keeps {w : Nat} {s0 s : State} (hw : Within 22544386591096897 w) (h : Keeps w s0 s) : Keeps w s0 (State.shutPolders s) := by
  unfold State.shutPolders
  extract_lets +onlyGivenNames x1
  clear_value x1
  extract_lets +onlyGivenNames x2
  clear_value (e2 : x2 = _)
  refine Keeps.cut (w := w) (s0 := s0) e2 ?_ (fun h2 => ?_) <;> clear e2
  · refine State.fault_keeps (Within.trans (by decide) hw) ?_
    refine Keeps.set_module (Within.trans (by decide) hw) ?_
    exact h
  refine Keeps.foldl (fun st4 e4 h4 => ?_) _ _ ?_
  · split
    · refine State.polderStop_keeps (Within.trans (by decide) hw) ?_
      exact h4
    · exact h4
  · exact h2

theorem State.graceful_keeps {w : Nat} {s0 s : State} (hw : Within 288230376151711743 w) (h : Keeps w s0 s) : Keeps w s0 (State.graceful s) := by
  unfold State.graceful
  split
  · exact h
  · refine State.railsOff_keeps (Within.trans (by decide) hw) ?_
    refine State.shutSlices_keeps (Within.trans (by decide) hw) ?_
    refine State.shutPolders_keeps (Within.trans (by decide) hw) ?_
    exact h

theorem State.inputLost_keeps {w : Nat} {s0 s : State} (hw : Within 288230376151711743 w) (h : Keeps w s0 s) : Keeps w s0 (State.inputLost s) := by
  unfold State.inputLost
  split
  · exact h
  · extract_lets +onlyGivenNames x1
    clear_value (e1 : x1 = _)
    refine Keeps.cut (w := w) (s0 := s0) e1 ?_ (fun h1 => ?_) <;> clear e1
    · refine State.railsOff_keeps (Within.trans (by decide) hw) ?_
      exact h
    refine Keeps.set_module (Within.trans (by decide) hw) ?_
    exact h1

theorem State.startRails_keeps {w : Nat} {s0 s : State} (hw : Within 18014398509481984 w) (h : Keeps w s0 s) : Keeps w s0 (State.startRails s) := by
  unfold State.startRails
  split
  · refine Keeps.set_module (Within.trans (by decide) hw) ?_
    exact h
  · exact h

theorem State.thermTrip_keeps {w : Nat} {s0 s : State} {a0 : Nat} {a1 : Nat} (hw : Within 288230376151711743 w) (h : Keeps w s0 s) : Keeps w s0 (State.thermTrip s a0 a1) := by
  unfold State.thermTrip
  split
  · exact h
  · extract_lets +onlyGivenNames x1
    clear_value (e1 : x1 = _)
    refine Keeps.cut (w := w) (s0 := s0) e1 ?_ (fun h1 => ?_) <;> clear e1
    · refine State.railsOff_keeps (Within.trans (by decide) hw) ?_
      exact h
    refine Keeps.set_module (Within.trans (by decide) hw) ?_
    exact h1

theorem State.onModule_keeps {w : Nat} {s0 s : State} {a0 : Module → Module} (hw : Within 18014398509481984 w) (h : Keeps w s0 s) : Keeps w s0 (State.onModule s a0) := by
  unfold State.onModule
  refine Keeps.set_module (Within.trans (by decide) hw) ?_
  exact h

theorem State.inputOff_keeps {w : Nat} {s0 s : State} {a0 : Module → Module} (hw : Within 288230376151711743 w) (h : Keeps w s0 s) : Keeps w s0 (State.inputOff s a0) := by
  unfold State.inputOff
  refine State.onModule_keeps (Within.trans (by decide) hw) ?_
  refine State.inputLost_keeps (Within.trans (by decide) hw) ?_
  exact h

theorem State.postFirst_keeps {w : Nat} {s0 s : State} {a0 : Record} (hw : Within 39911425 w) (h : Keeps w s0 s) : Keeps w s0 (State.postFirst s a0) := by
  unfold State.postFirst
  extract_lets +onlyGivenNames x1
  clear_value x1
  extract_lets +onlyGivenNames x2
  clear_value (e2 : x2 = _)
  refine Keeps.cut (w := w) (s0 := s0) e2 ?_ (fun h2 => ?_) <;> clear e2
  · refine Keeps.set_recSeq (Within.trans (by decide) hw) ?_
    exact h
  split
  · refine State.postTo_keeps (Within.trans (by decide) hw) ?_
    exact h2
  · refine State.setF_keeps (Within.trans (by decide) hw) ?_
    refine State.setIntake_keeps (Within.trans (by decide) hw) ?_
    exact h2

theorem effBootFail_keeps {w : Nat} {s0 s : State} {a0 : Nat} {a1 : Nat} (hw : Within 174129217 w) (h : Keeps w s0 s) : Keeps w s0 (effBootFail a0 a1 s) := by
  unfold effBootFail
  split
  · exact h
  · refine State.fault_keeps (Within.trans (by decide) hw) ?_
    refine State.setF_keeps (Within.trans (by decide) hw) ?_
    refine State.setF_keeps (Within.trans (by decide) hw) ?_
    refine State.setF_keeps (Within.trans (by decide) hw) ?_
    exact h

theorem effBootFw_keeps {w : Nat} {s0 s : State} {a0 : Bool} (hw : Within 18014398509481985 w) (h : Keeps w s0 s) : Keeps w s0 (effBootFw a0 s) := by
  unfold effBootFw
  split
  · exact h
  · extract_lets +onlyGivenNames x1
    clear_value (e1 : x1 = _)
    refine Keeps.cut (w := w) (s0 := s0) e1 ?_ (fun h1 => ?_) <;> clear e1
    · refine State.setF_keeps (Within.trans (by decide) hw) ?_
      exact h
    split
    · refine State.setF_keeps (Within.trans (by decide) hw) ?_
      refine State.onModule_keeps (Within.trans (by decide) hw) ?_
      exact h1
    · exact h1

theorem effBootLinks_keeps {w : Nat} {s0 s : State} {a0 : Nat} (hw : Within 18014948439425089 w) (h : Keeps w s0 s) : Keeps w s0 (effBootLinks a0 s) := by
  unfold effBootLinks
  split
  · exact h
  · extract_lets +onlyGivenNames x1
    clear_value x1
    extract_lets +onlyGivenNames x2
    clear_value (e2 : x2 = _)
    refine Keeps.cut (w := w) (s0 := s0) e2 ?_ (fun h2 => ?_) <;> clear e2
    · refine Keeps.foldl (fun st3 e3 h3 => ?_) _ _ ?_
      · refine State.d2dFresh_keeps (Within.trans (by decide) hw) ?_
        exact h3
      · exact h
    extract_lets +onlyGivenNames x5
    clear_value (e5 : x5 = _)
    refine Keeps.cut (w := w) (s0 := s0) e5 ?_ (fun h5 => ?_) <;> clear e5
    · refine State.setF_keeps (Within.trans (by decide) hw) ?_
      refine State.setF_keeps (Within.trans (by decide) hw) ?_
      exact h2
    extract_lets +onlyGivenNames x8
    clear_value x8
    extract_lets +onlyGivenNames x9
    clear_value (e9 : x9 = _)
    refine Keeps.cut (w := w) (s0 := s0) e9 ?_ (fun h9 => ?_) <;> clear e9
    · split
      · refine State.err_keeps (Within.trans (by decide) hw) ?_
        exact h5
      · exact h5
    extract_lets +onlyGivenNames x11
    clear_value x11
    extract_lets +onlyGivenNames x12
    clear_value (e12 : x12 = _)
    refine Keeps.cut (w := w) (s0 := s0) e12 ?_ (fun h12 => ?_) <;> clear e12
    · refine State.postFirst_keeps (Within.trans (by decide) hw) ?_
      exact h9
    refine State.onModule_keeps (Within.trans (by decide) hw) ?_
    refine Keeps.foldl (fun st15 e15 h15 => ?_) _ _ ?_
    · refine State.fault_keeps (Within.trans (by decide) hw) ?_
      exact h15
    · exact h12

theorem effBootMemory_keeps {w : Nat} {s0 s : State} {a0 : List Nat} (hw : Within 25140068417 w) (h : Keeps w s0 s) : Keeps w s0 (effBootMemory a0 s) := by
  unfold effBootMemory
  split
  · exact h
  · extract_lets +onlyGivenNames x1
    clear_value (e1 : x1 = _)
    refine Keeps.cut (w := w) (s0 := s0) e1 ?_ (fun h1 => ?_) <;> clear e1
    · refine Keeps.set_scr_hbm_tiles_clean_zeroing_poison (Within.trans (by decide) hw) ?_ ?_ ?_
      · exact h
      · exact fun _ => rfl
      · exact fun _ => rfl
    extract_lets +onlyGivenNames x2
    clear_value (e2 : x2 = _)
    refine Keeps.cut (w := w) (s0 := s0) e2 ?_ (fun h2 => ?_) <;> clear e2
    · refine Keeps.foldl (fun st3 e3 h3 => ?_) _ _ ?_
      · refine State.setF_keeps (Within.trans (by decide) hw) ?_
        exact h3
      · exact h1
    refine State.setF_keeps (Within.trans (by decide) hw) ?_
    refine State.repairRows_keeps (Within.trans (by decide) hw) ?_
    exact h2

theorem effHotswapOn_keeps {w : Nat} {s0 s : State} (hw : Within 18014398509481984 w) (h : Keeps w s0 s) : Keeps w s0 (effHotswapOn s) := by
  unfold effHotswapOn
  split
  · refine State.onModule_keeps (Within.trans (by decide) hw) ?_
    exact h
  · refine State.onModule_keeps (Within.trans (by decide) hw) ?_
    exact h

theorem effModuleEnFall_keeps {w : Nat} {s0 s : State} (hw : Within 288230376151711743 w) (h : Keeps w s0 s) : Keeps w s0 (effModuleEnFall s) := by
  unfold effModuleEnFall
  extract_lets +onlyGivenNames x1
  clear_value (e1 : x1 = _)
  refine Keeps.cut (w := w) (s0 := s0) e1 ?_ (fun h1 => ?_) <;> clear e1
  · refine State.onModule_keeps (Within.trans (by decide) hw) ?_
    exact h
  split
  · refine State.graceful_keeps (Within.trans (by decide) hw) ?_
    exact h1
  · split
    · refine State.railsOff_keeps (Within.trans (by decide) hw) ?_
      exact h1
    · exact h1

theorem effOvpRecovery_keeps {w : Nat} {s0 s : State} (hw : Within 18014398509481984 w) (h : Keeps w s0 s) : Keeps w s0 (effOvpRecovery s) := by
  unfold effOvpRecovery
  split
  · exact h
  · refine State.onModule_keeps (Within.trans (by decide) hw) ?_
    exact h

theorem effPowerGood_keeps {w : Nat} {s0 s : State} (hw : Within 18014398509481985 w) (h : Keeps w s0 s) : Keeps w s0 (effPowerGood s) := by
  unfold effPowerGood
  split
  · exact h
  · refine State.setF_keeps (Within.trans (by decide) hw) ?_
    refine State.setF_keeps (Within.trans (by decide) hw) ?_
    refine State.onModule_keeps (Within.trans (by decide) hw) ?_
    exact h

theorem effSteward_keeps {w : Nat} {s0 s : State} {a0 : Nat} (hw : Within 18014398509481984 w) (h : Keeps w s0 s) : Keeps w s0 (effSteward a0 s) := by
  unfold effSteward
  split
  · exact h
  · split
    · refine State.onModule_keeps (Within.trans (by decide) hw) ?_
      exact h
    · refine State.startRails_keeps (Within.trans (by decide) hw) ?_
      refine State.onModule_keeps (Within.trans (by decide) hw) ?_
      exact h

theorem effTripClear_keeps {w : Nat} {s0 s : State} (hw : Within 18014398509481984 w) (h : Keeps w s0 s) : Keeps w s0 (effTripClear s) := by
  unfold effTripClear
  split
  · refine State.onModule_keeps (Within.trans (by decide) hw) ?_
    exact h
  · exact h

theorem execBootDieFwDone_keeps {w : Nat} {s0 s : State} {a0 : Bool} (hw : Within 18014398509481985 w) (h : Keeps w s0 s) : KeepsO w s0 (execBootDieFwDone a0 s) := by
  unfold execBootDieFwDone
  refine KeepsO.next ?_
  refine effBootFw_keeps (Within.trans (by decide) hw) ?_
  exact h

theorem execBootLinksDone_keeps {w : Nat} {s0 s : State} {a0 : Nat} (hw : Within 18014948439425089 w) (h : Keeps w s0 s) : KeepsO w s0 (execBootLinksDone a0 s) := by
  unfold execBootLinksDone
  refine KeepsO.next ?_
  refine effBootLinks_keeps (Within.trans (by decide) hw) ?_
  exact h

theorem execBootMemoryDone_keeps {w : Nat} {s0 s : State} {a0 : List Nat} (hw : Within 25140068417 w) (h : Keeps w s0 s) : KeepsO w s0 (execBootMemoryDone a0 s) := by
  unfold execBootMemoryDone
  refine KeepsO.next ?_
  refine effBootMemory_keeps (Within.trans (by decide) hw) ?_
  exact h

theorem execBootStageTimeout_keeps {w : Nat} {s0 s : State} {a0 : Nat} {a1 : Nat} (hw : Within 174129217 w) (h : Keeps w s0 s) : KeepsO w s0 (execBootStageTimeout a0 a1 s) := by
  unfold execBootStageTimeout
  refine KeepsO.next ?_
  refine effBootFail_keeps (Within.trans (by decide) hw) ?_
  exact h

theorem execHotswapOcp_keeps {w : Nat} {s0 s : State} (hw : Within 288230376151711743 w) (h : Keeps w s0 s) : KeepsO w s0 (execHotswapOcp s) := by
  unfold execHotswapOcp
  refine KeepsO.next ?_
  split
  · refine State.inputOff_keeps (Within.trans (by decide) hw) ?_
    exact h
  · exact h

theorem execHotswapOn_keeps {w : Nat} {s0 s : State} (hw : Within 18014398509481984 w) (h : Keeps w s0 s) : KeepsO w s0 (execHotswapOn s) := by
  unfold execHotswapOn
  refine KeepsO.next ?_
  refine effHotswapOn_keeps (Within.trans (by decide) hw) ?_
  exact h

theorem execHotswapOvp_keeps {w : Nat} {s0 s : State} (hw : Within 288230376151711743 w) (h : Keeps w s0 s) : KeepsO w s0 (execHotswapOvp s) := by
  unfold execHotswapOvp
  refine KeepsO.next ?_
  split
  · refine State.inputOff_keeps (Within.trans (by decide) hw) ?_
    exact h
  · exact h

theorem execHotswapUvlo_keeps {w : Nat} {s0 s : State} (hw : Within 288230376151711743 w) (h : Keeps w s0 s) : KeepsO w s0 (execHotswapUvlo s) := by
  unfold execHotswapUvlo
  refine KeepsO.next ?_
  refine State.inputOff_keeps (Within.trans (by decide) hw) ?_
  exact h

theorem execMateLastRelease_keeps {w : Nat} {s0 s : State} (hw : Within 288230376151711743 w) (h : Keeps w s0 s) : KeepsO w s0 (execMateLastRelease s) := by
  unfold execMateLastRelease
  refine KeepsO.next ?_
  refine State.inputOff_keeps (Within.trans (by decide) hw) ?_
  exact h

theorem execModuleEnFall_keeps {w : Nat} {s0 s : State} (hw : Within 288230376151711743 w) (h : Keeps w s0 s) : KeepsO w s0 (execModuleEnFall s) := by
  unfold execModuleEnFall
  refine KeepsO.next ?_
  refine effModuleEnFall_keeps (Within.trans (by decide) hw) ?_
  exact h

theorem execModuleEnRise_keeps {w : Nat} {s0 s : State} (hw : Within 18014398509481984 w) (h : Keeps w s0 s) : KeepsO w s0 (execModuleEnRise s) := by
  unfold execModuleEnRise
  refine KeepsO.next ?_
  refine State.startRails_keeps (Within.trans (by decide) hw) ?_
  refine State.onModule_keeps (Within.trans (by decide) hw) ?_
  exact h

theorem execOvpRecovery_keeps {w : Nat} {s0 s : State} (hw : Within 18014398509481984 w) (h : Keeps w s0 s) : KeepsO w s0 (execOvpRecovery s) := by
  unfold execOvpRecovery
  refine KeepsO.next ?_
  refine effOvpRecovery_keeps (Within.trans (by decide) hw) ?_
  exact h

theorem execPldmPowerDown_keeps {w : Nat} {s0 s : State} (hw : Within 288230376151711743 w) (h : Keeps w s0 s) : KeepsO w s0 (execPldmPowerDown s) := by
  unfold execPldmPowerDown
  refine KeepsO.next ?_
  refine State.graceful_keeps (Within.trans (by decide) hw) ?_
  exact h

theorem execPowerGood_keeps {w : Nat} {s0 s : State} (hw : Within 18014398509481985 w) (h : Keeps w s0 s) : KeepsO w s0 (execPowerGood s) := by
  unfold execPowerGood
  refine KeepsO.next ?_
  refine effPowerGood_keeps (Within.trans (by decide) hw) ?_
  exact h

theorem execStewardVerified_keeps {w : Nat} {s0 s : State} {a0 : Nat} (hw : Within 18014398509481984 w) (h : Keeps w s0 s) : KeepsO w s0 (execStewardVerified a0 s) := by
  unfold execStewardVerified
  refine KeepsO.next ?_
  refine effSteward_keeps (Within.trans (by decide) hw) ?_
  exact h

theorem execThermtrip_keeps {w : Nat} {s0 s : State} {a0 : Nat} {a1 : Nat} (hw : Within 288230376151711743 w) (h : Keeps w s0 s) : KeepsO w s0 (execThermtrip a0 a1 s) := by
  unfold execThermtrip
  refine KeepsO.onSensor ?_
  refine State.thermTrip_keeps (Within.trans (by decide) hw) ?_
  exact h

theorem execThermtripClear_keeps {w : Nat} {s0 s : State} (hw : Within 18014398509481984 w) (h : Keeps w s0 s) : KeepsO w s0 (execThermtripClear s) := by
  unfold execThermtripClear
  refine KeepsO.next ?_
  refine effTripClear_keeps (Within.trans (by decide) hw) ?_
  exact h

end Sys2Proof.Machine
end

