-- ==== Sys2Proof/Laws/KeepsJ.lean ====
section
/-!
SUPPORT. What each function of Debug, Recovery may change: the mask of parts, and both memories stay canonical.
-/
namespace Sys2Proof.Machine

theorem State.askHold_keeps {w : Nat} {s0 s : State} {a0 : Nat} {a1 : Nat} {a2 : Bool} (hw : Within 16384 w) (h : Keeps w s0 s) : Keeps w s0 (State.askHold s a0 a1 a2) := by
  unfold State.askHold
  split
  · refine Keeps.set_holds (Within.trans (by decide) hw) ?_
    exact h
  · exact h

theorem State.traceRoom_keeps {w : Nat} {s0 s : State} {a0 : Nat} (hw : Within 1 w) (h : Keeps w s0 s) : Keeps w s0 (State.traceRoom s a0) := by
  unfold State.traceRoom
  split
  · refine State.setF_keeps (Within.trans (by decide) hw) ?_
    exact h
  · exact h

theorem effTraceRead_keeps {w : Nat} {s0 s : State} {a0 : Nat} (hw : Within 134217761 w) (h : Keeps w s0 s) : Keeps w s0 (effTraceRead a0 s) := by
  unfold effTraceRead
  extract_lets +onlyGivenNames x1
  clear_value (e1 : x1 = _)
  refine Keeps.cut (w := w) (s0 := s0) e1 ?_ (fun h1 => ?_) <;> clear e1
  · refine Keeps.set_readData (Within.trans (by decide) hw) ?_
    exact h
  split
  · exact h1
  · refine State.traceRoom_keeps (Within.trans (by decide) hw) ?_
    refine State.setRing_keeps (Within.trans (by decide) hw) ?_
    exact h1

theorem State.tracePost_keeps {w : Nat} {s0 s : State} {a0 : Nat} {a1 : Nat} (hw : Within 174129217 w) (h : Keeps w s0 s) : Keeps w s0 (State.tracePost s a0 a1) := by
  unfold State.tracePost
  refine State.fault_keeps (Within.trans (by decide) hw) ?_
  exact h

theorem effDump_keeps {w : Nat} {s0 s : State} {a0 : Nat} (hw : Within 174129217 w) (h : Keeps w s0 s) : Keeps w s0 (effDump a0 s) := by
  unfold effDump
  split
  · exact h
  · split
    · refine State.tracePost_keeps (Within.trans (by decide) hw) ?_
      exact h
    · refine State.setRing_keeps (Within.trans (by decide) hw) ?_
      exact h

theorem effAnchor_keeps {w : Nat} {s0 s : State} {a0 : Nat} (hw : Within 1 w) (h : Keeps w s0 s) : Keeps w s0 (effAnchor a0 s) := by
  unfold effAnchor
  split
  · exact h
  · refine State.setReg_keeps (Within.trans (by decide) hw) ?_
    refine State.setReg_keeps (Within.trans (by decide) hw) ?_
    exact h

theorem State.stepTile_keeps {w : Nat} {s0 s : State} {a0 : Nat} (hw : Within 1048577 w) (h : Keeps w s0 s) : Keeps w s0 (State.stepTile s a0) := by
  unfold State.stepTile
  split
  · refine State.err_keeps (Within.trans (by decide) hw) ?_
    exact h
  · split
    · refine State.onT_keeps (Within.trans (by decide) hw) ?_
      exact h
    · exact h

theorem State.dumpRecs_keeps {w : Nat} {s0 s : State} {a0 : Nat} {a1 : Nat} (hw : Within 167772160 w) (h : Keeps w s0 s) : Keeps w s0 (State.dumpRecs a0 a1 s) := by
  induction a0 generalizing a1 s with
  | zero => exact h
  | succ n ih =>
    unfold State.dumpRecs
    extract_lets +onlyGivenNames x1
    clear_value x1
    refine ih ?_
    refine State.setRing_keeps (Within.trans (by decide) hw) ?_
    refine State.hostWrite_keeps (Within.trans (by decide) hw) ?_
    exact h

theorem State.holdTile_keeps {w : Nat} {s0 s : State} {a0 : Nat} (hw : Within 1 w) (h : Keeps w s0 s) : Keeps w s0 (State.holdTile s a0) := by
  unfold State.holdTile
  split
  · refine State.setF_keeps (Within.trans (by decide) hw) ?_
    exact h
  · refine State.err_keeps (Within.trans (by decide) hw) ?_
    exact h

theorem State.jtag_keeps {w : Nat} {s0 s : State} {a0 : Nat} (hw : Within 18014398509481984 w) (h : Keeps w s0 s) : Keeps w s0 (State.jtag s a0) := by
  unfold State.jtag
  refine State.onModule_keeps (Within.trans (by decide) hw) ?_
  exact h

theorem State.unholdTile_keeps {w : Nat} {s0 s : State} {a0 : Nat} (hw : Within 1 w) (h : Keeps w s0 s) : Keeps w s0 (State.unholdTile s a0) := by
  unfold State.unholdTile
  refine State.setF_keeps (Within.trans (by decide) hw) ?_
  exact h

theorem effDebugFrame_keeps {w : Nat} {s0 s : State} (hw : Within 18014398643699713 w) (h : Keeps w s0 s) : Keeps w s0 (effDebugFrame s) := by
  unfold effDebugFrame
  split
  · exact h
  · extract_lets +onlyGivenNames x1
    clear_value x1
    extract_lets +onlyGivenNames x2
    extract_lets +onlyGivenNames x3
    clear_value x3
    split
    · rename_i y4 y5 y6 y7 y8
      extract_lets +onlyGivenNames x9
      clear_value x9
      extract_lets +onlyGivenNames x10
      clear_value x10
      refine State.onModule_keeps (Within.trans (by decide) hw) ?_
      refine State.traceRoom_keeps (Within.trans (by decide) hw) ?_
      refine State.setRing_keeps (Within.trans (by decide) hw) ?_
      exact h

theorem effDumpDone_keeps {w : Nat} {s0 s : State} {a0 : Nat} {a1 : Bool} (hw : Within 174129217 w) (h : Keeps w s0 s) : Keeps w s0 (effDumpDone a0 a1 s) := by
  unfold effDumpDone
  extract_lets +onlyGivenNames x1
  clear_value x1
  split
  · exact h
  · extract_lets +onlyGivenNames x2
    clear_value (e2 : x2 = _)
    refine Keeps.cut (w := w) (s0 := s0) e2 ?_ (fun h2 => ?_) <;> clear e2
    · refine State.setRing_keeps (Within.trans (by decide) hw) ?_
      exact h
    split
    · refine State.tracePost_keeps (Within.trans (by decide) hw) ?_
      exact h2
    · refine State.traceRoom_keeps (Within.trans (by decide) hw) ?_
      refine State.dumpRecs_keeps (Within.trans (by decide) hw) ?_
      exact h2

theorem effExtest_keeps {w : Nat} {s0 s : State} {a0 : Nat} (hw : Within 18014398509482048 w) (h : Keeps w s0 s) : Keeps w s0 (effExtest a0 s) := by
  unfold effExtest
  split
  · refine State.jtag_keeps (Within.trans (by decide) hw) ?_
    exact h
  · split
    · rename_i y2 y3 y4 y5 y6
      refine State.onModule_keeps (Within.trans (by decide) hw) ?_
      refine State.jtag_keeps (Within.trans (by decide) hw) ?_
      refine Keeps.snd y6 ?_
      refine drawFree_keeps (Within.trans (by decide) hw) ?_
      exact h

theorem effHoldApply_keeps {w : Nat} {s0 s : State} (hw : Within 16385 w) (h : Keeps w s0 s) : Keeps w s0 (effHoldApply s) := by
  unfold effHoldApply
  extract_lets +onlyGivenNames x1
  clear_value x1
  extract_lets +onlyGivenNames x2
  clear_value (e2 : x2 = _)
  refine Keeps.cut (w := w) (s0 := s0) e2 ?_ (fun h2 => ?_) <;> clear e2
  · refine Keeps.set_holds (Within.trans (by decide) hw) ?_
    exact h
  refine Keeps.foldl (fun st3 e3 h3 => ?_) _ _ ?_
  · refine Keeps.foldl (fun st4 e4 h4 => ?_) _ _ ?_
    · split
      · refine State.holdTile_keeps (Within.trans (by decide) hw) ?_
        exact h4
      · refine State.unholdTile_keeps (Within.trans (by decide) hw) ?_
        exact h4
    · exact h3
  · exact h2

theorem effSample_keeps {w : Nat} {s0 s : State} {a0 : Nat} (hw : Within 18014398509482048 w) (h : Keeps w s0 s) : Keeps w s0 (effSample a0 s) := by
  unfold effSample
  split
  · refine State.jtag_keeps (Within.trans (by decide) hw) ?_
    exact h
  · split
    · rename_i y2 y3 y4 y5 y6
      refine State.onModule_keeps (Within.trans (by decide) hw) ?_
      refine State.jtag_keeps (Within.trans (by decide) hw) ?_
      refine Keeps.snd y6 ?_
      refine drawFree_keeps (Within.trans (by decide) hw) ?_
      exact h

theorem execDbgHold_keeps {w : Nat} {s0 s : State} {a0 : Nat} (hw : Within 1 w) (h : Keeps w s0 s) : KeepsO w s0 (execDbgHold a0 s) := by
  unfold execDbgHold
  refine KeepsO.onTile ?_
  refine State.holdTile_keeps (Within.trans (by decide) hw) ?_
  exact h

theorem execDbgStep_keeps {w : Nat} {s0 s : State} {a0 : Nat} (hw : Within 1048577 w) (h : Keeps w s0 s) : KeepsO w s0 (execDbgStep a0 s) := by
  unfold execDbgStep
  refine KeepsO.onTile ?_
  refine State.stepTile_keeps (Within.trans (by decide) hw) ?_
  exact h

theorem execDbgUnhold_keeps {w : Nat} {s0 s : State} {a0 : Nat} (hw : Within 1 w) (h : Keeps w s0 s) : KeepsO w s0 (execDbgUnhold a0 s) := by
  unfold execDbgUnhold
  refine KeepsO.onTile ?_
  refine State.unholdTile_keeps (Within.trans (by decide) hw) ?_
  exact h

theorem execDebugPortDown_keeps {w : Nat} {s0 s : State} (hw : Within 174129217 w) (h : Keeps w s0 s) : KeepsO w s0 (execDebugPortDown s) := by
  unfold execDebugPortDown
  refine KeepsO.next ?_
  split
  · refine State.tracePost_keeps (Within.trans (by decide) hw) ?_
    refine State.setF_keeps (Within.trans (by decide) hw) ?_
    exact h
  · exact h

theorem execDebugPortFrame_keeps {w : Nat} {s0 s : State} (hw : Within 18014398643699713 w) (h : Keeps w s0 s) : KeepsO w s0 (execDebugPortFrame s) := by
  unfold execDebugPortFrame
  refine KeepsO.next ?_
  refine effDebugFrame_keeps (Within.trans (by decide) hw) ?_
  exact h

theorem execDebugPortLock_keeps {w : Nat} {s0 s : State} (hw : Within 1 w) (h : Keeps w s0 s) : KeepsO w s0 (execDebugPortLock s) := by
  unfold execDebugPortLock
  refine KeepsO.next ?_
  refine State.setF_keeps (Within.trans (by decide) hw) ?_
  exact h

theorem execJtagBypass_keeps {w : Nat} {s0 s : State} (hw : Within 18014398509481984 w) (h : Keeps w s0 s) : KeepsO w s0 (execJtagBypass s) := by
  unfold execJtagBypass
  refine KeepsO.next ?_
  refine State.jtag_keeps (Within.trans (by decide) hw) ?_
  exact h

theorem execJtagExtest_keeps {w : Nat} {s0 s : State} {a0 : Nat} (hw : Within 18014398509482048 w) (h : Keeps w s0 s) : KeepsO w s0 (execJtagExtest a0 s) := by
  unfold execJtagExtest
  refine KeepsO.next ?_
  refine effExtest_keeps (Within.trans (by decide) hw) ?_
  exact h

theorem execJtagIdcode_keeps {w : Nat} {s0 s : State} (hw : Within 18014398509481984 w) (h : Keeps w s0 s) : KeepsO w s0 (execJtagIdcode s) := by
  unfold execJtagIdcode
  refine KeepsO.next ?_
  refine State.jtag_keeps (Within.trans (by decide) hw) ?_
  exact h

theorem execJtagSamplePreload_keeps {w : Nat} {s0 s : State} {a0 : Nat} (hw : Within 18014398509482048 w) (h : Keeps w s0 s) : KeepsO w s0 (execJtagSamplePreload a0 s) := by
  unfold execJtagSamplePreload
  refine KeepsO.next ?_
  refine effSample_keeps (Within.trans (by decide) hw) ?_
  exact h

theorem execPolderHoldApply_keeps {w : Nat} {s0 s : State} (hw : Within 16385 w) (h : Keeps w s0 s) : KeepsO w s0 (execPolderHoldApply s) := by
  unfold execPolderHoldApply
  refine KeepsO.next ?_
  refine effHoldApply_keeps (Within.trans (by decide) hw) ?_
  exact h

theorem execTraceAnchorCapture_keeps {w : Nat} {s0 s : State} {a0 : Nat} (hw : Within 1 w) (h : Keeps w s0 s) : KeepsO w s0 (execTraceAnchorCapture a0 s) := by
  unfold execTraceAnchorCapture
  refine KeepsO.onDie ?_
  refine effAnchor_keeps (Within.trans (by decide) hw) ?_
  exact h

theorem execTraceDump_keeps {w : Nat} {s0 s : State} {a0 : Nat} (hw : Within 174129217 w) (h : Keeps w s0 s) : KeepsO w s0 (execTraceDump a0 s) := by
  unfold execTraceDump
  refine KeepsO.onDie ?_
  refine effDump_keeps (Within.trans (by decide) hw) ?_
  exact h

theorem execTraceDumpDone_keeps {w : Nat} {s0 s : State} {a0 : Nat} {a1 : Bool} (hw : Within 174129217 w) (h : Keeps w s0 s) : KeepsO w s0 (execTraceDumpDone a0 a1 s) := by
  unfold execTraceDumpDone
  refine KeepsO.onDie ?_
  refine effDumpDone_keeps (Within.trans (by decide) hw) ?_
  exact h

theorem execTracePolderHold_keeps {w : Nat} {s0 s : State} {a0 : Nat} {a1 : Nat} (hw : Within 16384 w) (h : Keeps w s0 s) : KeepsO w s0 (execTracePolderHold a0 a1 s) := by
  unfold execTracePolderHold
  refine KeepsO.onDie ?_
  refine State.askHold_keeps (Within.trans (by decide) hw) ?_
  exact h

theorem execTracePolderRelease_keeps {w : Nat} {s0 s : State} {a0 : Nat} {a1 : Nat} (hw : Within 16384 w) (h : Keeps w s0 s) : KeepsO w s0 (execTracePolderRelease a0 a1 s) := by
  unfold execTracePolderRelease
  refine KeepsO.onDie ?_
  refine State.askHold_keeps (Within.trans (by decide) hw) ?_
  exact h

theorem execTraceRead_keeps {w : Nat} {s0 s : State} {a0 : Nat} (hw : Within 134217761 w) (h : Keeps w s0 s) : KeepsO w s0 (execTraceRead a0 s) := by
  unfold execTraceRead
  refine KeepsO.onDie ?_
  refine effTraceRead_keeps (Within.trans (by decide) hw) ?_
  exact h

theorem State.refuseReq_keeps {w : Nat} {s0 s : State} (hw : Within 174129217 w) (h : Keeps w s0 s) : Keeps w s0 (State.refuseReq s) := by
  unfold State.refuseReq
  refine State.fault_keeps (Within.trans (by decide) hw) ?_
  exact h

theorem execUnitUnfence_keeps {w : Nat} {s0 s : State} {a0 : Nat} (hw : Within 174129217 w) (h : Keeps w s0 s) : KeepsO w s0 (execUnitUnfence a0 s) := by
  unfold execUnitUnfence
  refine KeepsO.onPage ?_
  split
  · refine State.wakeUnit_keeps (Within.trans (by decide) hw) ?_
    exact h
  · refine State.refuseReq_keeps (Within.trans (by decide) hw) ?_
    exact h

theorem execUnitFence_keeps {w : Nat} {s0 s : State} {a0 : Nat} (hw : Within 174129217 w) (h : Keeps w s0 s) : KeepsO w s0 (execUnitFence a0 s) := by
  unfold execUnitFence
  refine KeepsO.onPage ?_
  refine State.fenceUnit_keeps (Within.trans (by decide) hw) ?_
  exact h

theorem State.resetReq_keeps {w : Nat} {s0 s : State} {a0 : Nat} {a1 : Nat} {a2 : Bool} {a3 : State → State} (hw : Within 144115188249985089 w) (hf : ∀ st, Keeps w s0 st → Keeps w s0 (a3 st)) (h : Keeps w s0 s) : Keeps w s0 (State.resetReq s a0 a1 a2 a3) := by
  unfold State.resetReq
  extract_lets +onlyGivenNames x1
  clear_value (e1 : x1 = _)
  refine Keeps.cut (w := w) (s0 := s0) e1 ?_ (fun h1 => ?_) <;> clear e1
  · refine State.setF_keeps (Within.trans (by decide) hw) ?_
    exact h
  split
  · refine State.refuseReq_keeps (Within.trans (by decide) hw) ?_
    refine State.setF_keeps (Within.trans (by decide) hw) ?_
    exact h1
  · extract_lets +onlyGivenNames x5
    clear_value (e5 : x5 = _)
    refine Keeps.cut (w := w) (s0 := s0) e5 ?_ (fun h5 => ?_) <;> clear e5
    · refine hf _ ?_
      refine State.setF_keeps (Within.trans (by decide) hw) ?_
      refine State.setF_keeps (Within.trans (by decide) hw) ?_
      exact h1
    refine Keeps.set_resetTarget (Within.trans (by decide) hw) ?_
    exact h5

theorem effTileReset_keeps {w : Nat} {s0 s : State} {a0 : Nat} (hw : Within 148645176962777153 w) (h : Keeps w s0 s) : Keeps w s0 (effTileReset a0 s) := by
  unfold effTileReset
  refine State.resetReq_keeps (Within.trans (by decide) hw) (fun st1 h1 => ?_) ?_
  · split
    · extract_lets +onlyGivenNames x2
      clear_value (e2 : x2 = _)
      refine Keeps.cut (w := w) (s0 := s0) e2 ?_ (fun h2 => ?_) <;> clear e2
      · split
        · split
          · refine State.polderStop_keeps (Within.trans (by decide) hw) ?_
            exact h1
          · exact h1
        · exact h1
      refine State.startClear_keeps (Within.trans (by decide) hw) ?_
      exact h2
    · exact h1
  · exact h

theorem effColdReset_keeps {w : Nat} {s0 s : State} {a0 : List Nat} (hw : Within 288230376151711743 w) (h : Keeps w s0 s) : Keeps w s0 (effColdReset a0 s) := by
  unfold effColdReset
  split
  · refine State.resetReq_keeps (Within.trans (by decide) hw) (fun st1 h1 => ?_) ?_
    · dsimp only [id]
      exact h1
    · exact h
  · refine State.setF_keeps (Within.trans (by decide) hw) ?_
    refine State.repairRows_keeps (Within.trans (by decide) hw) ?_
    refine State.cold_keeps (Within.trans (by decide) hw) ?_
    exact h

theorem effPolderReset_keeps {w : Nat} {s0 s : State} {a0 : Nat} (hw : Within 257153780484735041 w) (h : Keeps w s0 s) : Keeps w s0 (effPolderReset a0 s) := by
  unfold effPolderReset
  refine State.resetReq_keeps (Within.trans (by decide) hw) (fun st1 h1 => ?_) ?_
  · refine State.resetPolder_keeps (Within.trans (by decide) hw) ?_
    exact h1
  · exact h

theorem effDieReset_keeps {w : Nat} {s0 s : State} {a0 : Nat} (hw : Within 257153840614539329 w) (h : Keeps w s0 s) : Keeps w s0 (effDieReset a0 s) := by
  unfold effDieReset
  refine State.resetReq_keeps (Within.trans (by decide) hw) (fun st1 h1 => ?_) ?_
  · refine State.resetDie_keeps (Within.trans (by decide) hw) ?_
    exact h1
  · exact h

theorem effDeviceReset_keeps {w : Nat} {s0 s : State} {a0 : List Nat} (hw : Within 257154391444095041 w) (h : Keeps w s0 s) : Keeps w s0 (effDeviceReset a0 s) := by
  unfold effDeviceReset
  refine State.resetReq_keeps (Within.trans (by decide) hw) (fun st1 h1 => ?_) ?_
  · refine State.resetDevice_keeps (Within.trans (by decide) hw) ?_
    exact h1
  · exact h

theorem execUnitRepair_keeps {w : Nat} {s0 s : State} {a0 : Nat} (hw : Within 174129217 w) (h : Keeps w s0 s) : KeepsO w s0 (execUnitRepair a0 s) := by
  unfold execUnitRepair
  refine KeepsO.onPage ?_
  split
  · refine State.setF_keeps (Within.trans (by decide) hw) ?_
    exact h
  · refine State.refuseReq_keeps (Within.trans (by decide) hw) ?_
    exact h

theorem State.distrust_keeps {w : Nat} {s0 s : State} {a0 : Nat} {a1 : Nat} {a2 : List Nat} (hw : Within 7907687802142785 w) (h : Keeps w s0 s) : Keeps w s0 (State.distrust s a0 a1 a2) := by
  unfold State.distrust
  extract_lets +onlyGivenNames x1
  extract_lets +onlyGivenNames x2
  clear_value x2
  extract_lets +onlyGivenNames x3
  clear_value (e3 : x3 = _)
  refine Keeps.cut (w := w) (s0 := s0) e3 ?_ (fun h3 => ?_) <;> clear e3
  · split
    · refine Keeps.foldl (fun st4 e4 h4 => ?_) _ _ ?_
      · dsimp only [x1]
        refine State.polderStop_keeps (Within.trans (by decide) hw) ?_
        exact h4
      · exact h
    · exact h
  extract_lets +onlyGivenNames x6
  clear_value (e6 : x6 = _)
  refine Keeps.cut (w := w) (s0 := s0) e6 ?_ (fun h6 => ?_) <;> clear e6
  · refine Keeps.set_untrusted (Within.trans (by decide) hw) ?_
    exact h3
  split
  · refine Keeps.foldl (fun st7 e7 h7 => ?_) _ _ ?_
    · split
      · refine State.fenceUnit_keeps (Within.trans (by decide) hw) ?_
        exact h7
      · exact h7
    · exact h6
  · refine State.fenceUnit_keeps (Within.trans (by decide) hw) ?_
    exact h6
  · dsimp only [x1]
    refine State.polderStop_keeps (Within.trans (by decide) hw) ?_
    refine Keeps.set_badFtids (Within.trans (by decide) hw) ?_
    exact h6
  · exact h6

theorem State.voteWrite_keeps {w : Nat} {s0 s : State} {a0 : Nat} {a1 : Nat} {a2 : Nat} (hw : Within 562949953421314 w) (h : Keeps w s0 s) : Keeps w s0 (State.voteWrite s a0 a1 a2) := by
  unfold State.voteWrite
  split
  · refine State.setAct_keeps (Within.trans (by decide) hw) ?_
    exact h
  · split
    · refine State.setAct_keeps (Within.trans (by decide) hw) ?_
      exact h
    · split
      · refine Keeps.set_rt (Within.trans (by decide) hw) ?_
        exact h
      · exact h

theorem effRepairDone_keeps {w : Nat} {s0 s : State} {a0 : Nat} {a1 : Bool} (hw : Within 980484161 w) (h : Keeps w s0 s) : Keeps w s0 (effRepairDone a0 a1 s) := by
  unfold effRepairDone
  split
  · exact h
  · extract_lets +onlyGivenNames x1
    clear_value (e1 : x1 = _)
    refine Keeps.cut (w := w) (s0 := s0) e1 ?_ (fun h1 => ?_) <;> clear e1
    · refine State.setF_keeps (Within.trans (by decide) hw) ?_
      exact h
    split
    · extract_lets +onlyGivenNames x3
      clear_value (e3 : x3 = _)
      refine Keeps.cut (w := w) (s0 := s0) e3 ?_ (fun h3 => ?_) <;> clear e3
      · split
        · refine State.startClear_keeps (Within.trans (by decide) hw) ?_
          exact h1
        · exact h1
      refine State.fault_keeps (Within.trans (by decide) hw) ?_
      refine State.wakeUnit_keeps (Within.trans (by decide) hw) ?_
      exact h3
    · extract_lets +onlyGivenNames x7
      clear_value (e7 : x7 = _)
      refine Keeps.cut (w := w) (s0 := s0) e7 ?_ (fun h7 => ?_) <;> clear e7
      · refine State.fault_keeps (Within.trans (by decide) hw) ?_
        refine State.setF_keeps (Within.trans (by decide) hw) ?_
        exact h1
      split
      · refine State.colPending_keeps (Within.trans (by decide) hw) ?_
        exact h7
      · exact h7

theorem effResetDone_keeps {w : Nat} {s0 s : State} (hw : Within 72057594212057153 w) (h : Keeps w s0 s) : Keeps w s0 (effResetDone s) := by
  unfold effResetDone
  split
  · exact h
  · split
    · refine Keeps.set_inReset (Within.trans (by decide) hw) ?_
      exact h
    · extract_lets +onlyGivenNames x1
      clear_value x1
      extract_lets +onlyGivenNames x2
      clear_value x2
      extract_lets +onlyGivenNames x3
      clear_value x3
      extract_lets +onlyGivenNames x4
      clear_value (e4 : x4 = _)
      refine Keeps.cut (w := w) (s0 := s0) e4 ?_ (fun h4 => ?_) <;> clear e4
      · refine State.fault_keeps (Within.trans (by decide) hw) ?_
        refine State.setF_keeps (Within.trans (by decide) hw) ?_
        refine Keeps.set_inReset (Within.trans (by decide) hw) ?_
        exact h
      refine Keeps.foldl (fun st7 e7 h7 => ?_) _ _ ?_
      · split
        · refine State.reqDone_keeps (Within.trans (by decide) hw) ?_
          exact h7
        · exact h7
      · exact h4

theorem effVote_keeps {w : Nat} {s0 s : State} {a0 : Nat} {a1 : Nat} {a2 : List Nat} {a3 : List Nat} (hw : Within 8470637755564099 w) (h : Keeps w s0 s) : Keeps w s0 (effVote a0 a1 a2 a3 s) := by
  unfold effVote
  split
  · exact h
  · extract_lets +onlyGivenNames x1
    split
    · refine State.distrust_keeps (Within.trans (by decide) hw) ?_
      refine State.fault_keeps (Within.trans (by decide) hw) ?_
      exact h
    · refine Keeps.foldl (fun st4 e4 h4 => ?_) _ _ ?_
      · split
        · refine State.bump_keeps (Within.trans (by decide) hw) ?_
          exact h4
        · split
          · refine State.sat_keeps (Within.trans (by decide) hw) ?_
            refine State.fault_keeps (Within.trans (by decide) hw) ?_
            exact h4
          · exact h4
      · refine State.voteWrite_keeps (Within.trans (by decide) hw) ?_
        exact h

theorem execColdReset_keeps {w : Nat} {s0 s : State} {a0 : List Nat} (hw : Within 288230376151711743 w) (h : Keeps w s0 s) : KeepsO w s0 (execColdReset a0 s) := by
  unfold execColdReset
  refine KeepsO.next ?_
  refine effColdReset_keeps (Within.trans (by decide) hw) ?_
  exact h

theorem execDeviceCoreReset_keeps {w : Nat} {s0 s : State} {a0 : List Nat} (hw : Within 257154391444095041 w) (h : Keeps w s0 s) : KeepsO w s0 (execDeviceCoreReset a0 s) := by
  unfold execDeviceCoreReset
  refine KeepsO.next ?_
  refine effDeviceReset_keeps (Within.trans (by decide) hw) ?_
  exact h

theorem execDieCoreReset_keeps {w : Nat} {s0 s : State} {a0 : Nat} (hw : Within 257153840614539329 w) (h : Keeps w s0 s) : KeepsO w s0 (execDieCoreReset a0 s) := by
  unfold execDieCoreReset
  refine KeepsO.next ?_
  refine effDieReset_keeps (Within.trans (by decide) hw) ?_
  exact h

theorem execPolderReset_keeps {w : Nat} {s0 s : State} {a0 : Nat} (hw : Within 257153780484735041 w) (h : Keeps w s0 s) : KeepsO w s0 (execPolderReset a0 s) := by
  unfold execPolderReset
  refine KeepsO.next ?_
  refine effPolderReset_keeps (Within.trans (by decide) hw) ?_
  exact h

theorem execRepairDone_keeps {w : Nat} {s0 s : State} {a0 : Nat} {a1 : Bool} (hw : Within 980484161 w) (h : Keeps w s0 s) : KeepsO w s0 (execRepairDone a0 a1 s) := by
  unfold execRepairDone
  refine KeepsO.onPage ?_
  refine effRepairDone_keeps (Within.trans (by decide) hw) ?_
  exact h

theorem execResetDone_keeps {w : Nat} {s0 s : State} (hw : Within 72057594212057153 w) (h : Keeps w s0 s) : KeepsO w s0 (execResetDone s) := by
  unfold execResetDone
  refine KeepsO.next ?_
  refine effResetDone_keeps (Within.trans (by decide) hw) ?_
  exact h

theorem execRetirementMapWrite_keeps {w : Nat} {s0 s : State} {a0 : Nat} (hw : Within 18014398509481984 w) (h : Keeps w s0 s) : KeepsO w s0 (execRetirementMapWrite a0 s) := by
  unfold execRetirementMapWrite
  refine KeepsO.onDie ?_
  refine Keeps.set_module (Within.trans (by decide) hw) ?_
  exact h

theorem execTileReset_keeps {w : Nat} {s0 s : State} {a0 : Nat} (hw : Within 148645176962777153 w) (h : Keeps w s0 s) : KeepsO w s0 (execTileReset a0 s) := by
  unfold execTileReset
  refine KeepsO.next ?_
  refine effTileReset_keeps (Within.trans (by decide) hw) ?_
  exact h

theorem execVoteSweep_keeps {w : Nat} {s0 s : State} {a0 : Nat} {a1 : Nat} {a2 : List Nat} {a3 : List Nat} (hw : Within 8470637755564099 w) (h : Keeps w s0 s) : KeepsO w s0 (execVoteSweep a0 a1 a2 a3 s) := by
  unfold execVoteSweep
  refine KeepsO.next ?_
  refine effVote_keeps (Within.trans (by decide) hw) ?_
  exact h

end Sys2Proof.Machine
end

