-- ==== Sys2Proof/Laws/KeepsK.lean ====
section
/-!
SUPPORT. What each function of HostReq may change: the mask of parts, and both memories stay canonical.
-/
namespace Sys2Proof.Machine

theorem effDoorbell_keeps {w : Nat} {s0 s : State} {a0 : Nat} {a1 : Nat} (hw : Within 174129217 w) (h : Keeps w s0 s) : Keeps w s0 (effDoorbell a0 a1 s) := by
  unfold effDoorbell
  refine State.fetchReqs_keeps (Within.trans (by decide) hw) ?_
  refine State.setF_keeps (Within.trans (by decide) hw) ?_
  exact h

theorem effEnable_keeps {w : Nat} {s0 s : State} {a0 : Nat} (hw : Within 1 w) (h : Keeps w s0 s) : Keeps w s0 (effEnable a0 s) := by
  unfold effEnable
  split
  · exact h
  · extract_lets +onlyGivenNames x1
    clear_value x1
    extract_lets +onlyGivenNames x2
    clear_value (e2 : x2 = _)
    refine Keeps.cut (w := w) (s0 := s0) e2 ?_ (fun h2 => ?_) <;> clear e2
    · refine Keeps.foldl (fun st3 e3 h3 => ?_) _ _ ?_
      · refine State.setF_keeps (Within.trans (by decide) hw) ?_
        exact h3
      · refine State.setF_keeps (Within.trans (by decide) hw) ?_
        exact h
    split
    · refine State.setF_keeps (Within.trans (by decide) hw) ?_
      refine State.setIn_keeps (Within.trans (by decide) hw) ?_
      exact h2
    · split
      · refine State.setIn_keeps (Within.trans (by decide) hw) ?_
        exact h2
      · exact h2

theorem effDisable_keeps {w : Nat} {s0 s : State} {a0 : Nat} (hw : Within 1 w) (h : Keeps w s0 s) : Keeps w s0 (effDisable a0 s) := by
  unfold effDisable
  extract_lets +onlyGivenNames x1
  clear_value (e1 : x1 = _)
  refine Keeps.cut (w := w) (s0 := s0) e1 ?_ (fun h1 => ?_) <;> clear e1
  · refine State.setF_keeps (Within.trans (by decide) hw) ?_
    exact h
  split
  · refine State.setIn_keeps (Within.trans (by decide) hw) ?_
    exact h1
  · refine State.setIn_keeps (Within.trans (by decide) hw) ?_
    exact h1

theorem effLoadAbort_keeps {w : Nat} {s0 s : State} {a0 : Nat} {a1 : Nat} (hw : Within 36310272841941057 w) (h : Keeps w s0 s) : Keeps w s0 (effLoadAbort a0 a1 s) := by
  unfold effLoadAbort
  extract_lets +onlyGivenNames x1
  clear_value x1
  split
  · exact h
  · split
    · split
      · refine State.setPol_keeps (Within.trans (by decide) hw) ?_
        exact h
      · exact h
    · split
      · refine State.abandonLoad_keeps (Within.trans (by decide) hw) ?_
        exact h
      · exact h

theorem State.drawPpr_keeps {w : Nat} {s0 s : State} (hw : Within 64 w) (h : Keeps w s0 s) : Keeps w s0 (State.drawPpr s).2 := by
  unfold State.drawPpr
  extract_lets +onlyGivenNames x1
  clear_value x1
  dsimp only
  refine Keeps.set_freeCtr (Within.trans (by decide) hw) ?_
  exact h

theorem State.findSnap_keeps {w : Nat} {s0 s : State} {a0 : Nat} {a1 : Nat} {a2 : Nat} (hw : Within 17622696001 w) (h : Keeps w s0 s) : Keeps w s0 (State.findSnap s a0 a1 a2).2 := by
  unfold State.findSnap
  split
  · dsimp only
    exact h
  · refine Keeps.foldlSnd (fun acc1 e1 h1 => ?_) _ _ ?_
    · split
      · dsimp only
        exact h1
      · split
        · rename_i y2 y3 y4 y5 y6 y7 y8
          split
          · dsimp only
            refine Keeps.snd y8 ?_
            refine State.polLoad_keeps (Within.trans (by decide) hw) ?_
            exact h1
          · dsimp only
            refine Keeps.snd y8 ?_
            refine State.polLoad_keeps (Within.trans (by decide) hw) ?_
            exact h1
        · rename_i y11 y12 y13 y14 y15 y16 y17
          dsimp only
          refine Keeps.snd y17 ?_
          refine State.polLoad_keeps (Within.trans (by decide) hw) ?_
          exact h1
    · dsimp only
      exact h

theorem State.checkSnap_keeps {w : Nat} {s0 s : State} {a0 : Nat} {a1 : Nat} {a2 : Nat} {a3 : Image} {a4 : Bool} (hw : Within 17622696001 w) (h : Keeps w s0 s) : Keeps w s0 (State.checkSnap s a0 a1 a2 a3 a4).2 := by
  unfold State.checkSnap
  split
  · rename_i y1 y2 y3
    dsimp only
    refine Keeps.snd y3 ?_
    refine State.findSnap_keeps (Within.trans (by decide) hw) ?_
    exact h
  · rename_i y5 y6 y7 y8 y9
    extract_lets +onlyGivenNames x10
    clear_value x10
    split
    · dsimp only
      refine Keeps.snd y9 ?_
      refine State.findSnap_keeps (Within.trans (by decide) hw) ?_
      exact h
    · split
      · rename_i y12 y13 y14 y15 y16
        dsimp only
        refine Keeps.snd y16 ?_
        refine State.polLoad_keeps (Within.trans (by decide) hw) ?_
        refine Keeps.snd y9 ?_
        refine State.findSnap_keeps (Within.trans (by decide) hw) ?_
        exact h
      · rename_i y19 y20 y21 y22 y23
        split
        · dsimp only
          refine Keeps.snd y23 ?_
          refine State.polLoad_keeps (Within.trans (by decide) hw) ?_
          refine Keeps.snd y9 ?_
          refine State.findSnap_keeps (Within.trans (by decide) hw) ?_
          exact h
        · dsimp only
          refine Keeps.snd y23 ?_
          refine State.polLoad_keeps (Within.trans (by decide) hw) ?_
          refine Keeps.snd y9 ?_
          refine State.findSnap_keeps (Within.trans (by decide) hw) ?_
          exact h

theorem State.copyLines_keeps {w : Nat} {s0 s : State} {a0 : Nat} {a1 : Nat} {a2 : Nat} {a3 : Bool} {a4 : List Byte} {a5 : Nat} (hw : Within 64867336257 w) (h : Keeps w s0 s) : Keeps w s0 (State.copyLines s a0 a1 a2 a3 a4 a5).2 := by
  unfold State.copyLines
  refine Keeps.foldlSnd (fun acc1 e1 h1 => ?_) _ _ ?_
  · split
    · exact h1
    · split
      · split
        · rename_i y2 y3 y4 y5 y6 y7
          dsimp only
          refine State.hostWrite_keeps (Within.trans (by decide) hw) ?_
          refine Keeps.snd y7 ?_
          refine State.polLoad_keeps (Within.trans (by decide) hw) ?_
          exact h1
        · rename_i y10 y11 y12 y13 y14 y15
          dsimp only
          refine Keeps.snd y15 ?_
          refine State.polLoad_keeps (Within.trans (by decide) hw) ?_
          exact h1
      · split
        · rename_i y17 y18 y19 y20 y21
          dsimp only
          refine Keeps.snd y21 ?_
          refine State.polStore_keeps (Within.trans (by decide) hw) ?_
          exact h1
        · rename_i y23 y24 y25 y26 y27 y28
          dsimp only
          refine Keeps.snd y28 ?_
          refine State.polStore_keeps (Within.trans (by decide) hw) ?_
          exact h1
  · dsimp only
    exact h

theorem State.copyReq_keeps {w : Nat} {s0 s : State} {a0 : Nat} {a1 : List Byte} {a2 : List Byte} {a3 : Nat} (hw : Within 64867336257 w) (h : Keeps w s0 s) : Keeps w s0 (State.copyReq s a0 a1 a2 a3) := by
  unfold State.copyReq
  extract_lets +onlyGivenNames x1
  clear_value x1
  extract_lets +onlyGivenNames x2
  clear_value x2
  extract_lets +onlyGivenNames x3
  clear_value x3
  split
  · refine State.reqDone_keeps (Within.trans (by decide) hw) ?_
    exact h
  · split
    · rename_i y5 y6 y7 y8 y9
      refine State.reqDone_keeps (Within.trans (by decide) hw) ?_
      refine Keeps.snd y9 ?_
      refine State.copyLines_keeps (Within.trans (by decide) hw) ?_
      exact h

theorem State.flrPol_keeps {w : Nat} {s0 s : State} {a0 : Nat} (hw : Within 113038592408879199 w) (h : Keeps w s0 s) : Keeps w s0 (State.flrPol s a0) := by
  unfold State.flrPol
  refine State.resetIntake_keeps (Within.trans (by decide) hw) ?_
  refine State.resetPolder_keeps (Within.trans (by decide) hw) ?_
  split
  · refine State.setIn_keeps (Within.trans (by decide) hw) ?_
    exact h
  · exact h

theorem State.pcieReset_keeps {w : Nat} {s0 s : State} (hw : Within 113039203393405023 w) (h : Keeps w s0 s) : Keeps w s0 (State.pcieReset s) := by
  unfold State.pcieReset
  extract_lets +onlyGivenNames x1
  clear_value (e1 : x1 = _)
  refine Keeps.cut (w := w) (s0 := s0) e1 ?_ (fun h1 => ?_) <;> clear e1
  · refine Keeps.foldl (fun st2 e2 h2 => ?_) _ _ ?_
    · split
      · refine State.setIn_keeps (Within.trans (by decide) hw) ?_
        exact h2
      · exact h2
    · exact h
  split
  · rename_i y4 y5 y6 y7
    extract_lets +onlyGivenNames x8
    clear_value (e8 : x8 = _)
    refine Keeps.cut (w := w) (s0 := s0) e8 ?_ (fun h8 => ?_) <;> clear e8
    · split
      · refine State.resetDevice_keeps (Within.trans (by decide) hw) ?_
        refine Keeps.snd y7 ?_
        refine State.drawPpr_keeps (Within.trans (by decide) hw) ?_
        exact h1
      · exact h1
    extract_lets +onlyGivenNames x11
    clear_value (e11 : x11 = _)
    refine Keeps.cut (w := w) (s0 := s0) e11 ?_ (fun h11 => ?_) <;> clear e11
    · refine Keeps.foldl (fun st12 e12 h12 => ?_) _ _ ?_
      · refine State.resetIntake_keeps (Within.trans (by decide) hw) ?_
        exact h12
      · exact h8
    refine Keeps.set_fns_numVfs (Within.trans (by decide) hw) ?_
    exact h11

theorem State.restoreTile_keeps {w : Nat} {s0 s : State} {a0 : Nat} {a1 : Nat} {a2 : Image} {a3 : List Byte} (hw : Within 1703937 w) (h : Keeps w s0 s) : Keeps w s0 (State.restoreTile s a0 a1 a2 a3) := by
  unfold State.restoreTile
  extract_lets +onlyGivenNames x1
  clear_value x1
  extract_lets +onlyGivenNames x2
  clear_value x2
  extract_lets +onlyGivenNames x3
  clear_value (e3 : x3 = _)
  refine Keeps.cut (w := w) (s0 := s0) e3 ?_ (fun h3 => ?_) <;> clear e3
  · refine Keeps.foldl (fun st4 e4 h4 => ?_) _ _ ?_
    · refine State.onT_keeps (Within.trans (by decide) hw) ?_
      exact h4
    · exact h
  extract_lets +onlyGivenNames x6
  clear_value (e6 : x6 = _)
  refine Keeps.cut (w := w) (s0 := s0) e6 ?_ (fun h6 => ?_) <;> clear e6
  · refine State.onT_keeps (Within.trans (by decide) hw) ?_
    exact h3
  extract_lets +onlyGivenNames x8
  clear_value x8
  refine Keeps.foldl (fun st9 e9 h9 => ?_) _ _ ?_
  · refine State.scrWrite_keeps (Within.trans (by decide) hw) ?_
    exact h9
  · exact h6

theorem State.restoreDie_keeps {w : Nat} {s0 s : State} {a0 : Nat} {a1 : Nat} {a2 : Image} {a3 : List Byte} (hw : Within 1703937 w) (h : Keeps w s0 s) : Keeps w s0 (State.restoreDie s a0 a1 a2 a3) := by
  unfold State.restoreDie
  refine Keeps.foldl (fun st1 e1 h1 => ?_) _ _ ?_
  · split
    · refine State.restoreTile_keeps (Within.trans (by decide) hw) ?_
      exact h1
    · exact h1
  · exact h

theorem State.runPol_keeps {w : Nat} {s0 s : State} {a0 : Nat} {a1 : Nat} {a2 : Nat} {a3 : Bool} (hw : Within 3145729 w) (h : Keeps w s0 s) : Keeps w s0 (State.runPol s a0 a1 a2 a3) := by
  unfold State.runPol
  extract_lets +onlyGivenNames x1
  clear_value x1
  extract_lets +onlyGivenNames x2
  clear_value x2
  extract_lets +onlyGivenNames x3
  clear_value x3
  extract_lets +onlyGivenNames x4
  clear_value x4
  extract_lets +onlyGivenNames x5
  clear_value (e5 : x5 = _)
  refine Keeps.cut (w := w) (s0 := s0) e5 ?_ (fun h5 => ?_) <;> clear e5
  · refine State.setPol_keeps (Within.trans (by decide) hw) ?_
    exact h
  refine State.startRamp_keeps (Within.trans (by decide) hw) ?_
  refine Keeps.foldl (fun st8 e8 h8 => ?_) _ _ ?_
  · refine State.startTask_keeps (Within.trans (by decide) hw) ?_
    exact h8
  · exact h5

theorem effBme_keeps {w : Nat} {s0 s : State} {a0 : Nat} {a1 : Bool} (hw : Within 182517825 w) (h : Keeps w s0 s) : Keeps w s0 (effBme a0 a1 s) := by
  unfold effBme
  split
  · exact h
  · split
    · refine State.resumeIntake_keeps (Within.trans (by decide) hw) ?_
      refine State.setFn_keeps (Within.trans (by decide) hw) ?_
      exact h
    · refine State.pauseIntake_keeps (Within.trans (by decide) hw) ?_
      refine State.setFn_keeps (Within.trans (by decide) hw) ?_
      exact h

theorem effCopy_keeps {w : Nat} {s0 s : State} {a0 : Nat} {a1 : List Byte} {a2 : List Byte} {a3 : Nat} (hw : Within 64867336257 w) (h : Keeps w s0 s) : Keeps w s0 (effCopy a0 a1 a2 a3 s) := by
  unfold effCopy
  split
  · refine State.copyReq_keeps (Within.trans (by decide) hw) ?_
    refine State.setF_keeps (Within.trans (by decide) hw) ?_
    refine State.setIntake_keeps (Within.trans (by decide) hw) ?_
    exact h
  · refine State.request_keeps (Within.trans (by decide) hw) (fun st4 h4 => ?_) ?_
    · refine State.copyReq_keeps (Within.trans (by decide) hw) ?_
      exact h4
    · exact h

theorem effD0_keeps {w : Nat} {s0 s : State} {a0 : Nat} (hw : Within 182517825 w) (h : Keeps w s0 s) : Keeps w s0 (effD0 a0 s) := by
  unfold effD0
  split
  · refine State.resumeIntake_keeps (Within.trans (by decide) hw) ?_
    refine State.setFn_keeps (Within.trans (by decide) hw) ?_
    exact h
  · exact h

theorem effD3_keeps {w : Nat} {s0 s : State} {a0 : Nat} (hw : Within 8388609 w) (h : Keeps w s0 s) : Keeps w s0 (effD3 a0 s) := by
  unfold effD3
  split
  · refine State.pauseIntake_keeps (Within.trans (by decide) hw) ?_
    refine State.setFn_keeps (Within.trans (by decide) hw) ?_
    exact h
  · exact h

theorem effFlrPf_keeps {w : Nat} {s0 s : State} (hw : Within 113038592434045023 w) (h : Keeps w s0 s) : Keeps w s0 (effFlrPf s) := by
  unfold effFlrPf
  extract_lets +onlyGivenNames x1
  clear_value (e1 : x1 = _)
  refine Keeps.cut (w := w) (s0 := s0) e1 ?_ (fun h1 => ?_) <;> clear e1
  · refine Keeps.foldl (fun st2 e2 h2 => ?_) _ _ ?_
    · split
      · refine State.setIn_keeps (Within.trans (by decide) hw) ?_
        exact h2
      · exact h2
    · exact h
  extract_lets +onlyGivenNames x4
  clear_value (e4 : x4 = _)
  refine Keeps.cut (w := w) (s0 := s0) e4 ?_ (fun h4 => ?_) <;> clear e4
  · refine Keeps.foldl (fun st5 e5 h5 => ?_) _ _ ?_
    · refine State.resetPolder_keeps (Within.trans (by decide) hw) ?_
      exact h5
    · exact h1
  extract_lets +onlyGivenNames x7
  clear_value (e7 : x7 = _)
  refine Keeps.cut (w := w) (s0 := s0) e7 ?_ (fun h7 => ?_) <;> clear e7
  · refine Keeps.foldl (fun st8 e8 h8 => ?_) _ _ ?_
    · refine State.resetIntake_keeps (Within.trans (by decide) hw) ?_
      exact h8
    · exact h4
  refine Keeps.set_fns_numVfs (Within.trans (by decide) hw) ?_
  exact h7

theorem effFlrVf_keeps {w : Nat} {s0 s : State} {a0 : Nat} (hw : Within 113038592417267807 w) (h : Keeps w s0 s) : Keeps w s0 (effFlrVf a0 s) := by
  unfold effFlrVf
  refine State.setFn_keeps (Within.trans (by decide) hw) ?_
  refine State.flrPol_keeps (Within.trans (by decide) hw) ?_
  exact h

theorem effHwinRead_keeps {w : Nat} {s0 s : State} {a0 : Nat} {a1 : Bool} {a2 : List (Nat × List Byte)} (hw : Within 4530005530837057 w) (h : Keeps w s0 s) : Keeps w s0 (effHwinRead a0 a1 a2 s) := by
  unfold effHwinRead
  split
  · exact h
  · extract_lets +onlyGivenNames x1
    clear_value x1
    extract_lets +onlyGivenNames x2
    clear_value x2
    split
    · refine State.mvFault_keeps (Within.trans (by decide) hw) ?_
      exact h
    · refine State.runMove_keeps (Within.trans (by decide) hw) ?_
      exact h

theorem effLoad_keeps {w : Nat} {s0 s : State} {a0 : Nat} {a1 : List Byte} (hw : Within 36310272841941057 w) (h : Keeps w s0 s) : Keeps w s0 (effLoad a0 a1 s) := by
  unfold effLoad
  refine State.request_keeps (Within.trans (by decide) hw) (fun st1 h1 => ?_) ?_
  · split
    · refine State.reportLoad_keeps (Within.trans (by decide) hw) ?_
      exact h1
    · refine State.nextLoads_keeps (Within.trans (by decide) hw) ?_
      refine Keeps.set_loadWait (Within.trans (by decide) hw) ?_
      exact h1
  · exact h

theorem effPerst_keeps {w : Nat} {s0 s : State} (hw : Within 131053601902887007 w) (h : Keeps w s0 s) : Keeps w s0 (effPerst s) := by
  unfold effPerst
  split
  · exact h
  · extract_lets +onlyGivenNames x1
    clear_value (e1 : x1 = _)
    refine Keeps.cut (w := w) (s0 := s0) e1 ?_ (fun h1 => ?_) <;> clear e1
    · refine State.pcieReset_keeps (Within.trans (by decide) hw) ?_
      exact h
    refine Keeps.set_module (Within.trans (by decide) hw) ?_
    exact h1

theorem effResetReq_keeps {w : Nat} {s0 s : State} {a0 : Nat} {a1 : List Byte} (hw : Within 257153780484735041 w) (h : Keeps w s0 s) : Keeps w s0 (effResetReq a0 a1 s) := by
  unfold effResetReq
  refine State.request_keeps (Within.trans (by decide) hw) (fun st1 h1 => ?_) ?_
  · extract_lets +onlyGivenNames x2
    clear_value (e2 : x2 = _)
    refine Keeps.cut (w := w) (s0 := s0) e2 ?_ (fun h2 => ?_) <;> clear e2
    · refine effPolderReset_keeps (Within.trans (by decide) hw) ?_
      exact h1
    split
    · exact h2
    · refine State.reqDone_keeps (Within.trans (by decide) hw) ?_
      exact h2
  · exact h

theorem effRestore_keeps {w : Nat} {s0 s : State} {a0 : Nat} {a1 : List Byte} {a2 : List Nat} (hw : Within 17624399937 w) (h : Keeps w s0 s) : Keeps w s0 (effRestore a0 a1 a2 s) := by
  unfold effRestore
  refine State.request_keeps (Within.trans (by decide) hw) (fun st1 h1 => ?_) ?_
  · split
    · extract_lets +onlyGivenNames x2
      clear_value x2
      split
      · rename_i y3 y4 y5 y6 y7 y8 y9 y10 y11
        split
        · rename_i y12 y13 y14
          refine State.reqDone_keeps (Within.trans (by decide) hw) ?_
          refine State.fault_keeps (Within.trans (by decide) hw) ?_
          refine Keeps.snd y11 ?_
          refine Keeps.foldlSnd (fun acc17 e17 h17 => ?_) _ _ ?_
          · split
            · dsimp only
              exact h17
            · split
              · rename_i y18 y19 y20 y21 y22 y23 y24
                dsimp only
                refine Keeps.snd y24 ?_
                refine State.checkSnap_keeps (Within.trans (by decide) hw) ?_
                exact h17
              · rename_i y26 y27 y28 y29 y30 y31 y32
                dsimp only
                refine Keeps.snd y32 ?_
                refine State.checkSnap_keeps (Within.trans (by decide) hw) ?_
                exact h17
          · dsimp only
            exact h1
        · rename_i y34 y35
          refine State.reqDone_keeps (Within.trans (by decide) hw) ?_
          refine Keeps.foldl (fun st37 e37 h37 => ?_) _ _ ?_
          · refine State.restoreDie_keeps (Within.trans (by decide) hw) ?_
            exact h37
          · refine Keeps.snd y11 ?_
            refine Keeps.foldlSnd (fun acc39 e39 h39 => ?_) _ _ ?_
            · split
              · dsimp only
                exact h39
              · split
                · rename_i y40 y41 y42 y43 y44 y45 y46
                  dsimp only
                  refine Keeps.snd y46 ?_
                  refine State.checkSnap_keeps (Within.trans (by decide) hw) ?_
                  exact h39
                · rename_i y48 y49 y50 y51 y52 y53 y54
                  dsimp only
                  refine Keeps.snd y54 ?_
                  refine State.checkSnap_keeps (Within.trans (by decide) hw) ?_
                  exact h39
            · dsimp only
              exact h1
    · refine State.reqDone_keeps (Within.trans (by decide) hw) ?_
      exact h1
  · exact h

theorem effRingFault_keeps {w : Nat} {s0 s : State} {a0 : Nat} (hw : Within 174129217 w) (h : Keeps w s0 s) : Keeps w s0 (effRingFault a0 s) := by
  unfold effRingFault
  split
  · exact h
  · refine State.haltIntake_keeps (Within.trans (by decide) hw) ?_
    exact h

theorem effRun_keeps {w : Nat} {s0 s : State} {a0 : Nat} {a1 : List Byte} (hw : Within 40894465 w) (h : Keeps w s0 s) : Keeps w s0 (effRun a0 a1 s) := by
  unfold effRun
  refine State.request_keeps (Within.trans (by decide) hw) (fun st1 h1 => ?_) ?_
  · split
    · refine State.reqDone_keeps (Within.trans (by decide) hw) ?_
      exact h1
    · refine State.reqDone_keeps (Within.trans (by decide) hw) ?_
      refine State.runPol_keeps (Within.trans (by decide) hw) ?_
      exact h1
  · exact h

theorem effStep_keeps {w : Nat} {s0 s : State} {a0 : Nat} {a1 : List Byte} (hw : Within 39845889 w) (h : Keeps w s0 s) : Keeps w s0 (effStep a0 a1 s) := by
  unfold effStep
  refine State.request_keeps (Within.trans (by decide) hw) (fun st1 h1 => ?_) ?_
  · extract_lets +onlyGivenNames x2
    clear_value x2
    split
    · split
      · refine State.reqDone_keeps (Within.trans (by decide) hw) ?_
        refine State.setPol_keeps (Within.trans (by decide) hw) ?_
        exact h1
      · refine State.reqDone_keeps (Within.trans (by decide) hw) ?_
        exact h1
    · refine State.reqDone_keeps (Within.trans (by decide) hw) ?_
      exact h1
  · exact h

theorem effVfEnable_keeps {w : Nat} {s0 s : State} {a0 : Bool} {a1 : Nat} (hw : Within 25165825 w) (h : Keeps w s0 s) : Keeps w s0 (effVfEnable a0 a1 s) := by
  unfold effVfEnable
  refine Keeps.foldl (fun st1 e1 h1 => ?_) _ _ ?_
  · extract_lets +onlyGivenNames x2
    clear_value x2
    split
    · exact h1
    · refine State.pauseIntake_keeps (Within.trans (by decide) hw) ?_
      refine State.setFn_keeps (Within.trans (by decide) hw) ?_
      exact h1
  · refine Keeps.set_numVfs (Within.trans (by decide) hw) ?_
    exact h

theorem execBadRequest_keeps {w : Nat} {s0 s : State} {a0 : Nat} {a1 : List Byte} (hw : Within 37748737 w) (h : Keeps w s0 s) : KeepsO w s0 (execBadRequest a0 a1 s) := by
  unfold execBadRequest
  refine KeepsO.onPol ?_
  refine State.request_keeps (Within.trans (by decide) hw) (fun st1 h1 => ?_) ?_
  · refine State.reqDone_keeps (Within.trans (by decide) hw) ?_
    exact h1
  · exact h

theorem execBusMasterEnableChange_keeps {w : Nat} {s0 s : State} {a0 : Nat} {a1 : Bool} (hw : Within 182517825 w) (h : Keeps w s0 s) : KeepsO w s0 (execBusMasterEnableChange a0 a1 s) := by
  unfold execBusMasterEnableChange
  refine KeepsO.onPol ?_
  refine effBme_keeps (Within.trans (by decide) hw) ?_
  exact h

theorem execCopy_keeps {w : Nat} {s0 s : State} {a0 : Nat} {a1 : List Byte} {a2 : List Byte} {a3 : Nat} (hw : Within 64867336257 w) (h : Keeps w s0 s) : KeepsO w s0 (execCopy a0 a1 a2 a3 s) := by
  unfold execCopy
  refine KeepsO.onPol ?_
  refine effCopy_keeps (Within.trans (by decide) hw) ?_
  exact h

theorem execD0Entry_keeps {w : Nat} {s0 s : State} {a0 : Nat} (hw : Within 182517825 w) (h : Keeps w s0 s) : KeepsO w s0 (execD0Entry a0 s) := by
  unfold execD0Entry
  refine KeepsO.onPol ?_
  refine effD0_keeps (Within.trans (by decide) hw) ?_
  exact h

theorem execD3hotEntry_keeps {w : Nat} {s0 s : State} {a0 : Nat} (hw : Within 8388609 w) (h : Keeps w s0 s) : KeepsO w s0 (execD3hotEntry a0 s) := by
  unfold execD3hotEntry
  refine KeepsO.onPol ?_
  refine effD3_keeps (Within.trans (by decide) hw) ?_
  exact h

theorem execFlrPf_keeps {w : Nat} {s0 s : State} (hw : Within 113038592434045023 w) (h : Keeps w s0 s) : KeepsO w s0 (execFlrPf s) := by
  unfold execFlrPf
  refine KeepsO.next ?_
  refine effFlrPf_keeps (Within.trans (by decide) hw) ?_
  exact h

theorem execFlrVf_keeps {w : Nat} {s0 s : State} {a0 : Nat} (hw : Within 113038592417267807 w) (h : Keeps w s0 s) : KeepsO w s0 (execFlrVf a0 s) := by
  unfold execFlrVf
  split
  · exact KeepsO.fault _
  · refine KeepsO.onPol ?_
    refine effFlrVf_keeps (Within.trans (by decide) hw) ?_
    exact h

theorem execHostWindowReadComplete_keeps {w : Nat} {s0 s : State} {a0 : Nat} {a1 : Bool} {a2 : List (Nat × List Byte)} {a3 : List (Nat × Nat)} (hw : Within 4530005530837057 w) (h : Keeps w s0 s) : KeepsO w s0 (execHostWindowReadComplete a0 a1 a2 a3 s) := by
  unfold execHostWindowReadComplete
  refine KeepsO.onTile ?_
  refine effHwinRead_keeps (Within.trans (by decide) hw) ?_
  refine State.addUpsets_keeps (Within.trans (by decide) hw) ?_
  exact h

theorem execHotReset_keeps {w : Nat} {s0 s : State} (hw : Within 113039203393405023 w) (h : Keeps w s0 s) : KeepsO w s0 (execHotReset s) := by
  unfold execHotReset
  refine KeepsO.next ?_
  refine State.pcieReset_keeps (Within.trans (by decide) hw) ?_
  exact h

theorem execIntakeDisable_keeps {w : Nat} {s0 s : State} {a0 : Nat} (hw : Within 1 w) (h : Keeps w s0 s) : KeepsO w s0 (execIntakeDisable a0 s) := by
  unfold execIntakeDisable
  refine KeepsO.onPol ?_
  refine effDisable_keeps (Within.trans (by decide) hw) ?_
  exact h

theorem execIntakeEnable_keeps {w : Nat} {s0 s : State} {a0 : Nat} (hw : Within 1 w) (h : Keeps w s0 s) : KeepsO w s0 (execIntakeEnable a0 s) := by
  unfold execIntakeEnable
  refine KeepsO.onPol ?_
  refine effEnable_keeps (Within.trans (by decide) hw) ?_
  exact h

theorem execLoad_keeps {w : Nat} {s0 s : State} {a0 : Nat} {a1 : List Byte} (hw : Within 36310272841941057 w) (h : Keeps w s0 s) : KeepsO w s0 (execLoad a0 a1 s) := by
  unfold execLoad
  refine KeepsO.onPol ?_
  refine effLoad_keeps (Within.trans (by decide) hw) ?_
  exact h

theorem execLoadAbort_keeps {w : Nat} {s0 s : State} {a0 : Nat} {a1 : Nat} (hw : Within 36310272841941057 w) (h : Keeps w s0 s) : KeepsO w s0 (execLoadAbort a0 a1 s) := by
  unfold execLoadAbort
  refine KeepsO.onDie ?_
  refine effLoadAbort_keeps (Within.trans (by decide) hw) ?_
  exact h

theorem execNopReq_keeps {w : Nat} {s0 s : State} {a0 : Nat} {a1 : List Byte} (hw : Within 37748737 w) (h : Keeps w s0 s) : KeepsO w s0 (execNopReq a0 a1 s) := by
  unfold execNopReq
  refine KeepsO.onPol ?_
  refine State.request_keeps (Within.trans (by decide) hw) (fun st1 h1 => ?_) ?_
  · refine State.reqDone_keeps (Within.trans (by decide) hw) ?_
    exact h1
  · exact h

theorem execPcieLinkDown_keeps {w : Nat} {s0 s : State} (hw : Within 113039203393405023 w) (h : Keeps w s0 s) : KeepsO w s0 (execPcieLinkDown s) := by
  unfold execPcieLinkDown
  refine KeepsO.next ?_
  refine State.pcieReset_keeps (Within.trans (by decide) hw) ?_
  exact h

theorem execPerstAssert_keeps {w : Nat} {s0 s : State} (hw : Within 131053601902887007 w) (h : Keeps w s0 s) : KeepsO w s0 (execPerstAssert s) := by
  unfold execPerstAssert
  refine KeepsO.next ?_
  refine effPerst_keeps (Within.trans (by decide) hw) ?_
  exact h

theorem execPerstDeassert_keeps {w : Nat} {s0 s : State} (hw : Within 18014398509481984 w) (h : Keeps w s0 s) : KeepsO w s0 (execPerstDeassert s) := by
  unfold execPerstDeassert
  refine KeepsO.next ?_
  refine Keeps.set_module (Within.trans (by decide) hw) ?_
  exact h

theorem execRecordBacklogDrain_keeps {w : Nat} {s0 s : State} {a0 : Nat} (hw : Within 39911425 w) (h : Keeps w s0 s) : KeepsO w s0 (execRecordBacklogDrain a0 s) := by
  unfold execRecordBacklogDrain
  refine KeepsO.onPol ?_
  refine State.drainBacklog_keeps (Within.trans (by decide) hw) ?_
  exact h

theorem execResetReq_keeps {w : Nat} {s0 s : State} {a0 : Nat} {a1 : List Byte} (hw : Within 257153780484735041 w) (h : Keeps w s0 s) : KeepsO w s0 (execResetReq a0 a1 s) := by
  unfold execResetReq
  refine KeepsO.onPol ?_
  refine effResetReq_keeps (Within.trans (by decide) hw) ?_
  exact h

theorem execRestore_keeps {w : Nat} {s0 s : State} {a0 : Nat} {a1 : List Byte} {a2 : List Nat} (hw : Within 17624399937 w) (h : Keeps w s0 s) : KeepsO w s0 (execRestore a0 a1 a2 s) := by
  unfold execRestore
  refine KeepsO.onPol ?_
  refine effRestore_keeps (Within.trans (by decide) hw) ?_
  exact h

theorem execRingFault_keeps {w : Nat} {s0 s : State} {a0 : Nat} (hw : Within 174129217 w) (h : Keeps w s0 s) : KeepsO w s0 (execRingFault a0 s) := by
  unfold execRingFault
  refine KeepsO.onPol ?_
  refine effRingFault_keeps (Within.trans (by decide) hw) ?_
  exact h

theorem execRqDoorbell_keeps {w : Nat} {s0 s : State} {a0 : Nat} {a1 : Nat} (hw : Within 174129217 w) (h : Keeps w s0 s) : KeepsO w s0 (execRqDoorbell a0 a1 s) := by
  unfold execRqDoorbell
  refine KeepsO.onPol ?_
  refine effDoorbell_keeps (Within.trans (by decide) hw) ?_
  exact h

theorem execRun_keeps {w : Nat} {s0 s : State} {a0 : Nat} {a1 : List Byte} (hw : Within 40894465 w) (h : Keeps w s0 s) : KeepsO w s0 (execRun a0 a1 s) := by
  unfold execRun
  refine KeepsO.onPol ?_
  refine effRun_keeps (Within.trans (by decide) hw) ?_
  exact h

theorem execSecondaryBusReset_keeps {w : Nat} {s0 s : State} (hw : Within 113039203393405023 w) (h : Keeps w s0 s) : KeepsO w s0 (execSecondaryBusReset s) := by
  unfold execSecondaryBusReset
  refine KeepsO.next ?_
  refine State.pcieReset_keeps (Within.trans (by decide) hw) ?_
  exact h

theorem execStep_keeps {w : Nat} {s0 s : State} {a0 : Nat} {a1 : List Byte} (hw : Within 39845889 w) (h : Keeps w s0 s) : KeepsO w s0 (execStep a0 a1 s) := by
  unfold execStep
  refine KeepsO.onPol ?_
  refine effStep_keeps (Within.trans (by decide) hw) ?_
  exact h

theorem execVfEnableChange_keeps {w : Nat} {s0 s : State} {a0 : Bool} {a1 : Nat} (hw : Within 25165825 w) (h : Keeps w s0 s) : KeepsO w s0 (execVfEnableChange a0 a1 s) := by
  unfold execVfEnableChange
  refine KeepsO.next ?_
  refine effVfEnable_keeps (Within.trans (by decide) hw) ?_
  exact h

end Sys2Proof.Machine
end

