-- ==== Sys2Proof/Laws/KeepsL.lean ====
section
/-!
SUPPORT. What each function of LoadDone, Power may change: the mask of parts, and both memories stay canonical.
-/
namespace Sys2Proof.Machine

theorem State.installRamps_keeps {w : Nat} {s0 s : State} {a0 : Nat} {a1 : List VTile} (hw : Within 2097153 w) (h : Keeps w s0 s) : Keeps w s0 (State.installRamps s a0 a1) := by
  unfold State.installRamps
  extract_lets +onlyGivenNames x1
  clear_value x1
  extract_lets +onlyGivenNames x2
  clear_value x2
  refine Keeps.foldl (fun st3 e3 h3 => ?_) _ _ ?_
  · extract_lets +onlyGivenNames x4
    clear_value x4
    extract_lets +onlyGivenNames x5
    clear_value x5
    extract_lets +onlyGivenNames x6
    clear_value x6
    extract_lets +onlyGivenNames x7
    clear_value x7
    extract_lets +onlyGivenNames x8
    clear_value x8
    extract_lets +onlyGivenNames x9
    clear_value (e9 : x9 = _)
    refine Keeps.cut (w := w) (s0 := s0) e9 ?_ (fun h9 => ?_) <;> clear e9
    · refine State.setPol_keeps (Within.trans (by decide) hw) ?_
      exact h3
    refine State.setReg_keeps (Within.trans (by decide) hw) ?_
    exact h9
  · exact h

theorem State.initWrite_keeps {w : Nat} {s0 s : State} {a0 : Nat} {a1 : Nat} {a2 : List Byte} (hw : Within 64867336257 w) (h : Keeps w s0 s) : Keeps w s0 (State.initWrite s a0 a1 a2) := by
  unfold State.initWrite
  split
  · refine State.polStore_keeps (Within.trans (by decide) hw) ?_
    exact h
  · refine State.loaderWrite_keeps (Within.trans (by decide) hw) ?_
    exact h

theorem State.initSegs_keeps {w : Nat} {s0 s : State} {a0 : Nat} {a1 : Img} (hw : Within 64867336257 w) (h : Keeps w s0 s) : Keeps w s0 (State.initSegs s a0 a1) := by
  unfold State.initSegs
  refine Keeps.foldl (fun st1 e1 h1 => ?_) _ _ ?_
  · refine Keeps.foldl (fun st2 e2 h2 => ?_) _ _ ?_
    · extract_lets +onlyGivenNames x3
      clear_value x3
      split
      · exact h2
      · split
        · refine State.initWrite_keeps (Within.trans (by decide) hw) ?_
          exact h2
        · split
          · refine State.initWrite_keeps (Within.trans (by decide) hw) ?_
            exact h2
          · exact h2
    · exact h1
  · exact h

theorem State.installKneads_keeps {w : Nat} {s0 s : State} {a0 : Nat} {a1 : List KDecl} (hw : Within 4503599627370496 w) (h : Keeps w s0 s) : Keeps w s0 (State.installKneads s a0 a1) := by
  unfold State.installKneads
  extract_lets +onlyGivenNames x1
  clear_value (e1 : x1 = _)
  refine Keeps.cut (w := w) (s0 := s0) e1 ?_ (fun h1 => ?_) <;> clear e1
  · refine Keeps.foldl (fun st2 e2 h2 => ?_) _ _ ?_
    · refine State.emptySlot_keeps (Within.trans (by decide) hw) ?_
      exact h2
    · exact h
  refine Keeps.foldl (fun st4 e4 h4 => ?_) _ _ ?_
  · split
    · split
      · refine State.setKdesc_keeps (Within.trans (by decide) hw) ?_
        exact h4
      · exact h4
    · exact h4
  · exact h1

theorem State.installLinks_keeps {w : Nat} {s0 s : State} {a0 : Nat} {a1 : List LinkResDecl} (hw : Within 281474976710656 w) (h : Keeps w s0 s) : Keeps w s0 (State.installLinks s a0 a1) := by
  unfold State.installLinks
  refine Keeps.foldl (fun st1 e1 h1 => ?_) _ _ ?_
  · split
    · extract_lets +onlyGivenNames x2
      clear_value x2
      refine Keeps.set_linkRes (Within.trans (by decide) hw) ?_
      exact h1
    · exact h1
  · exact h

theorem State.installTile_keeps {w : Nat} {s0 s : State} {a0 : Nat} {a1 : Nat} {a2 : Img} {a3 : VTile} (hw : Within 1048577 w) (h : Keeps w s0 s) : Keeps w s0 (State.installTile s a0 a1 a2 a3) := by
  unfold State.installTile
  split
  · exact h
  · extract_lets +onlyGivenNames x1
    clear_value x1
    extract_lets +onlyGivenNames x2
    clear_value (e2 : x2 = _)
    refine Keeps.cut (w := w) (s0 := s0) e2 ?_ (fun h2 => ?_) <;> clear e2
    · refine State.setReg_keeps (Within.trans (by decide) hw) ?_
      refine State.setReg_keeps (Within.trans (by decide) hw) ?_
      refine State.setReg_keeps (Within.trans (by decide) hw) ?_
      exact h
    extract_lets +onlyGivenNames x6
    clear_value (e6 : x6 = _)
    refine Keeps.cut (w := w) (s0 := s0) e6 ?_ (fun h6 => ?_) <;> clear e6
    · refine Keeps.foldl (fun st7 e7 h7 => ?_) _ _ ?_
      · extract_lets +onlyGivenNames x8
        clear_value x8
        refine State.setReg_keeps (Within.trans (by decide) hw) ?_
        refine State.setReg_keeps (Within.trans (by decide) hw) ?_
        exact h7
      · exact h2
    extract_lets +onlyGivenNames x11
    clear_value (e11 : x11 = _)
    refine Keeps.cut (w := w) (s0 := s0) e11 ?_ (fun h11 => ?_) <;> clear e11
    · refine State.setF_keeps (Within.trans (by decide) hw) ?_
      refine State.setReg_keeps (Within.trans (by decide) hw) ?_
      exact h6
    refine State.onT_keeps (Within.trans (by decide) hw) ?_
    exact h11

theorem State.install_keeps {w : Nat} {s0 s : State} {a0 : Nat} {a1 : LoadReq} {a2 : Img} {a3 : List VTile} {a4 : Nat} (hw : Within 4785139472465985 w) (h : Keeps w s0 s) : Keeps w s0 (State.install s a0 a1 a2 a3 a4) := by
  unfold State.install
  extract_lets +onlyGivenNames x1
  clear_value x1
  extract_lets +onlyGivenNames x2
  clear_value (e2 : x2 = _)
  refine Keeps.cut (w := w) (s0 := s0) e2 ?_ (fun h2 => ?_) <;> clear e2
  · refine Keeps.foldl (fun st3 e3 h3 => ?_) _ _ ?_
    · refine State.installTile_keeps (Within.trans (by decide) hw) ?_
      exact h3
    · refine State.initSegs_keeps (Within.trans (by decide) hw) ?_
      exact h
  extract_lets +onlyGivenNames x6
  clear_value (e6 : x6 = _)
  refine Keeps.cut (w := w) (s0 := s0) e6 ?_ (fun h6 => ?_) <;> clear e6
  · refine State.installRamps_keeps (Within.trans (by decide) hw) ?_
    refine State.installLinks_keeps (Within.trans (by decide) hw) ?_
    refine State.installKneads_keeps (Within.trans (by decide) hw) ?_
    exact h2
  extract_lets +onlyGivenNames x10
  clear_value x10
  refine State.sealPol_keeps (Within.trans (by decide) hw) ?_
  refine State.setPol_keeps (Within.trans (by decide) hw) ?_
  exact h6

theorem State.finishLoad_keeps {w : Nat} {s0 s : State} {a0 : Nat} {a1 : LoadReq} {a2 : Nat} {a3 : Img} {a4 : List VTile} (hw : Within 40813937028300865 w) (h : Keeps w s0 s) : Keeps w s0 (State.finishLoad s a0 a1 a2 a3 a4) := by
  unfold State.finishLoad
  extract_lets +onlyGivenNames x1
  clear_value x1
  extract_lets +onlyGivenNames x2
  clear_value x2
  extract_lets +onlyGivenNames x3
  clear_value x3
  extract_lets +onlyGivenNames x4
  clear_value x4
  extract_lets +onlyGivenNames x5
  clear_value (e5 : x5 = _)
  refine Keeps.cut (w := w) (s0 := s0) e5 ?_ (fun h5 => ?_) <;> clear e5
  · refine State.setReg_keeps (Within.trans (by decide) hw) ?_
    refine State.install_keeps (Within.trans (by decide) hw) ?_
    exact h
  refine State.endLoad_keeps (Within.trans (by decide) hw) ?_
  exact h5

theorem State.readImage_keeps {w : Nat} {s0 s : State} {a0 : Nat} {a1 : LoadReq} {a2 : Bool} (hw : Within 17622696001 w) (h : Keeps w s0 s) : Keeps w s0 (State.readImage s a0 a1 a2).2 := by
  unfold State.readImage
  split
  · dsimp only
    exact h
  · split
    · rename_i y1 y2 y3 y4 y5
      dsimp only
      refine Keeps.snd y5 ?_
      refine State.polLoad_keeps (Within.trans (by decide) hw) ?_
      exact h
    · rename_i y7 y8 y9 y10 y11
      dsimp only
      refine Keeps.snd y11 ?_
      refine State.polLoad_keeps (Within.trans (by decide) hw) ?_
      exact h

theorem State.rejectLoad_keeps {w : Nat} {s0 s : State} {a0 : Nat} {a1 : LoadReq} {a2 : Nat} {a3 : Nat} {a4 : Nat} {a5 : Rej} (hw : Within 36310272841941057 w) (h : Keeps w s0 s) : Keeps w s0 (State.rejectLoad s a0 a1 a2 a3 a4 a5) := by
  unfold State.rejectLoad
  refine State.endLoad_keeps (Within.trans (by decide) hw) ?_
  refine State.undoLoad_keeps (Within.trans (by decide) hw) ?_
  exact h

theorem effLoadDone_keeps {w : Nat} {s0 s : State} {a0 : Nat} {a1 : Bool} {a2 : Nat} {a3 : Nat} (hw : Within 40814074467254337 w) (h : Keeps w s0 s) : Keeps w s0 (effLoadDone a0 a1 a2 a3 s) := by
  unfold effLoadDone
  split
  · exact h
  · split
    · exact h
    · split
      · refine State.abandonLoad_keeps (Within.trans (by decide) hw) ?_
        exact h
      · extract_lets +onlyGivenNames x2
        clear_value (e2 : x2 = _)
        refine Keeps.cut (w := w) (s0 := s0) e2 ?_ (fun h2 => ?_) <;> clear e2
        · refine State.setReg_keeps (Within.trans (by decide) hw) ?_
          refine Keeps.foldl (fun st4 e4 h4 => ?_) _ _ ?_
          · refine State.flushQ_keeps (Within.trans (by decide) hw) ?_
            exact h4
          · exact h
        split
        · rename_i y6 y7 y8 y9 y10 y11 y12 y13
          refine State.rejectLoad_keeps (Within.trans (by decide) hw) ?_
          refine Keeps.snd y13 ?_
          refine State.readImage_keeps (Within.trans (by decide) hw) ?_
          exact h2
        · rename_i y16 y17 y18 y19 y20 y21 y22 y23 y24
          extract_lets +onlyGivenNames x25
          clear_value x25
          split
          · refine State.rejectLoad_keeps (Within.trans (by decide) hw) ?_
            refine Keeps.snd y24 ?_
            refine State.readImage_keeps (Within.trans (by decide) hw) ?_
            exact h2
          · split
            · refine State.rejectLoad_keeps (Within.trans (by decide) hw) ?_
              refine Keeps.snd y24 ?_
              refine State.readImage_keeps (Within.trans (by decide) hw) ?_
              exact h2
            · split
              · rename_i y30 y31 y32 y33 y34 y35 y36 y37
                extract_lets +onlyGivenNames x38
                clear_value x38
                split
                · refine State.rejectLoad_keeps (Within.trans (by decide) hw) ?_
                  refine Keeps.snd y37 ?_
                  split
                  · dsimp only
                    refine Keeps.snd y24 ?_
                    refine State.readImage_keeps (Within.trans (by decide) hw) ?_
                    exact h2
                  · refine drawFree_keeps (Within.trans (by decide) hw) ?_
                    refine Keeps.snd y24 ?_
                    refine State.readImage_keeps (Within.trans (by decide) hw) ?_
                    exact h2
                · refine State.finishLoad_keeps (Within.trans (by decide) hw) ?_
                  refine Keeps.snd y37 ?_
                  split
                  · dsimp only
                    refine Keeps.snd y24 ?_
                    refine State.readImage_keeps (Within.trans (by decide) hw) ?_
                    exact h2
                  · refine drawFree_keeps (Within.trans (by decide) hw) ?_
                    refine Keeps.snd y24 ?_
                    refine State.readImage_keeps (Within.trans (by decide) hw) ?_
                    exact h2

theorem execLoadDone_keeps {w : Nat} {s0 s : State} {a0 : Nat} {a1 : Bool} {a2 : Nat} {a3 : Nat} (hw : Within 40814074467254337 w) (h : Keeps w s0 s) : KeepsO w s0 (execLoadDone a0 a1 a2 a3 s) := by
  unfold execLoadDone
  refine KeepsO.onPol ?_
  refine effLoadDone_keeps (Within.trans (by decide) hw) ?_
  exact h

theorem State.allotBeat_keeps {w : Nat} {s0 s : State} {a0 : Nat} (hw : Within 9007199428870209 w) (h : Keeps w s0 s) : Keeps w s0 (State.allotBeat s a0) := by
  unfold State.allotBeat
  refine Keeps.foldl (fun st1 e1 h1 => ?_) _ _ ?_
  · extract_lets +onlyGivenNames x2
    clear_value x2
    extract_lets +onlyGivenNames x3
    clear_value (e3 : x3 = _)
    refine Keeps.cut (w := w) (s0 := s0) e3 ?_ (fun h3 => ?_) <;> clear e3
    · refine State.sat_keeps (Within.trans (by decide) hw) ?_
      exact h1
    split
    · exact h3
    · refine State.fault_keeps (Within.trans (by decide) hw) ?_
      refine Keeps.set_power (Within.trans (by decide) hw) ?_
      exact h3
  · exact h

theorem State.hostLevel_keeps {w : Nat} {s0 s : State} (hw : Within 9007199428870209 w) (h : Keeps w s0 s) : Keeps w s0 (State.hostLevel s) := by
  unfold State.hostLevel
  extract_lets +onlyGivenNames x1
  clear_value x1
  refine State.setCeil_keeps (Within.trans (by decide) hw) ?_
  exact h

theorem State.capChanged_keeps {w : Nat} {s0 s : State} (hw : Within 9007199254740993 w) (h : Keeps w s0 s) : Keeps w s0 (State.capChanged s) := by
  unfold State.capChanged
  refine State.setF_keeps (Within.trans (by decide) hw) ?_
  refine Keeps.set_power (Within.trans (by decide) hw) ?_
  exact h

theorem execPwrCapWrite_keeps {w : Nat} {s0 s : State} {a0 : Nat} (hw : Within 9007199254740993 w) (h : Keeps w s0 s) : KeepsO w s0 (execPwrCapWrite a0 s) := by
  unfold execPwrCapWrite
  refine KeepsO.next ?_
  refine State.capChanged_keeps (Within.trans (by decide) hw) ?_
  refine State.setF_keeps (Within.trans (by decide) hw) ?_
  exact h

theorem execPwrShiftWrite_keeps {w : Nat} {s0 s : State} {a0 : Nat} (hw : Within 9007199254740993 w) (h : Keeps w s0 s) : KeepsO w s0 (execPwrShiftWrite a0 s) := by
  unfold execPwrShiftWrite
  refine KeepsO.next ?_
  refine State.capChanged_keeps (Within.trans (by decide) hw) ?_
  refine State.setF_keeps (Within.trans (by decide) hw) ?_
  exact h

theorem effStart_keeps {w : Nat} {s0 s : State} {a0 : Nat} (hw : Within 3145729 w) (h : Keeps w s0 s) : Keeps w s0 (effStart a0 s) := by
  unfold effStart
  extract_lets +onlyGivenNames x1
  clear_value x1
  split
  · exact h
  · split
    · exact h
    · extract_lets +onlyGivenNames x2
      clear_value x2
      split
      · refine State.startRamp_keeps (Within.trans (by decide) hw) ?_
        refine State.startTask_keeps (Within.trans (by decide) hw) ?_
        exact h
      · split
        · refine State.startRamp_keeps (Within.trans (by decide) hw) ?_
          refine State.resumeTask_keeps (Within.trans (by decide) hw) ?_
          exact h
        · exact h

theorem execGaugeLogPass_keeps {w : Nat} {s0 s : State} {a0 : Nat} (hw : Within 9007199254740993 w) (h : Keeps w s0 s) : KeepsO w s0 (execGaugeLogPass a0 s) := by
  unfold execGaugeLogPass
  extract_lets +onlyGivenNames x1
  clear_value (e1 : x1 = _)
  refine Keeps.cut (w := w) (s0 := s0) e1 ?_ (fun h1 => ?_) <;> clear e1
  · refine State.setF_keeps (Within.trans (by decide) hw) ?_
    exact h
  refine KeepsO.next ?_
  split
  · refine Keeps.set_power (Within.trans (by decide) hw) ?_
    exact h1
  · exact h1

theorem State.beatEvents_keeps {w : Nat} {s0 s : State} {a0 : Nat} (hw : Within 1 w) (h : Keeps w s0 s) : Keeps w s0 (State.beatEvents s a0) := by
  unfold State.beatEvents
  extract_lets +onlyGivenNames x1
  extract_lets +onlyGivenNames x2
  clear_value x2
  extract_lets +onlyGivenNames x3
  clear_value x3
  extract_lets +onlyGivenNames x4
  clear_value x4
  extract_lets +onlyGivenNames x5
  clear_value (e5 : x5 = _)
  refine Keeps.cut (w := w) (s0 := s0) e5 ?_ (fun h5 => ?_) <;> clear e5
  · refine State.countEv_keeps (Within.trans (by decide) hw) ?_
    exact h
  split
  · extract_lets +onlyGivenNames x7
    clear_value x7
    dsimp only [x1]
    refine Keeps.foldl (fun st8 e8 h8 => ?_) _ _ ?_
    · refine State.countEv_keeps (Within.trans (by decide) hw) ?_
      exact h8
    · exact h5
  · dsimp only [x1]
    refine Keeps.foldl (fun st10 e10 h10 => ?_) _ _ ?_
    · refine State.countEv_keeps (Within.trans (by decide) hw) ?_
      exact h10
    · exact h5
  · dsimp only [x1]
    refine Keeps.foldl (fun st12 e12 h12 => ?_) _ _ ?_
    · refine State.countEv_keeps (Within.trans (by decide) hw) ?_
      exact h12
    · exact h5
  · dsimp only [x1]
    refine Keeps.foldl (fun st14 e14 h14 => ?_) _ _ ?_
    · refine State.countEv_keeps (Within.trans (by decide) hw) ?_
      exact h14
    · exact h5
  · dsimp only [x1]
    refine Keeps.foldl (fun st16 e16 h16 => ?_) _ _ ?_
    · refine State.countEv_keeps (Within.trans (by decide) hw) ?_
      exact h16
    · exact h5
  · exact h5

theorem State.noteReading_keeps {w : Nat} {s0 s : State} {a0 : Nat} {a1 : Nat} {a2 : Nat} (hw : Within 1 w) (h : Keeps w s0 s) : Keeps w s0 (State.noteReading s a0 a1 a2) := by
  unfold State.noteReading
  extract_lets +onlyGivenNames x1
  split
  · dsimp only [x1]
    split
    · refine State.setF_keeps (Within.trans (by decide) hw) ?_
      refine State.setF_keeps (Within.trans (by decide) hw) ?_
      exact h
    · refine State.setF_keeps (Within.trans (by decide) hw) ?_
      exact h
  · dsimp only [x1]
    split
    · refine State.setF_keeps (Within.trans (by decide) hw) ?_
      refine State.setF_keeps (Within.trans (by decide) hw) ?_
      exact h
    · refine State.setF_keeps (Within.trans (by decide) hw) ?_
      exact h
  · dsimp only [x1]
    split
    · refine State.setF_keeps (Within.trans (by decide) hw) ?_
      refine State.setF_keeps (Within.trans (by decide) hw) ?_
      exact h
    · refine State.setF_keeps (Within.trans (by decide) hw) ?_
      exact h
  · dsimp only [x1]
    split
    · refine State.setF_keeps (Within.trans (by decide) hw) ?_
      refine State.setF_keeps (Within.trans (by decide) hw) ?_
      exact h
    · refine State.setF_keeps (Within.trans (by decide) hw) ?_
      exact h

theorem State.stackRead_keeps {w : Nat} {s0 s : State} {a0 : Nat} {a1 : Nat} (hw : Within 174129217 w) (h : Keeps w s0 s) : Keeps w s0 (State.stackRead s a0 a1) := by
  unfold State.stackRead
  extract_lets +onlyGivenNames x1
  clear_value x1
  split
  · rename_i y2 y3 y4 y5
    extract_lets +onlyGivenNames x6
    clear_value x6
    extract_lets +onlyGivenNames x7
    clear_value (e7 : x7 = _)
    refine Keeps.cut (w := w) (s0 := s0) e7 ?_ (fun h7 => ?_) <;> clear e7
    · refine State.setF_keeps (Within.trans (by decide) hw) ?_
      exact h
    split
    · refine State.fault_keeps (Within.trans (by decide) hw) ?_
      exact h7
    · exact h7

theorem State.thermRead_keeps {w : Nat} {s0 s : State} {a0 : Nat} {a1 : Nat} {a2 : Nat} (hw : Within 9007199428870209 w) (h : Keeps w s0 s) : Keeps w s0 (State.thermRead s a0 a1 a2) := by
  unfold State.thermRead
  extract_lets +onlyGivenNames x1
  clear_value (e1 : x1 = _)
  refine Keeps.cut (w := w) (s0 := s0) e1 ?_ (fun h1 => ?_) <;> clear e1
  · refine State.noteReading_keeps (Within.trans (by decide) hw) ?_
    exact h
  extract_lets +onlyGivenNames x3
  clear_value x3
  split
  · rename_i y4 y5 y6 y7
    extract_lets +onlyGivenNames x8
    clear_value x8
    extract_lets +onlyGivenNames x9
    split
    · refine State.notePeak_keeps (Within.trans (by decide) hw) ?_
      dsimp only [x9]
      refine Keeps.set_power (Within.trans (by decide) hw) ?_
      exact h1
    · split
      · refine State.setCeil_keeps (Within.trans (by decide) hw) ?_
        dsimp only [x9]
        refine Keeps.set_power (Within.trans (by decide) hw) ?_
        exact h1
      · split
        · split
          · refine State.notePeak_keeps (Within.trans (by decide) hw) ?_
            exact h1
          · refine State.setCeil_keeps (Within.trans (by decide) hw) ?_
            dsimp only [x9]
            refine Keeps.set_power (Within.trans (by decide) hw) ?_
            exact h1
        · refine State.notePeak_keeps (Within.trans (by decide) hw) ?_
          dsimp only [x9]
          refine Keeps.set_power (Within.trans (by decide) hw) ?_
          exact h1

theorem State.weigh_keeps {w : Nat} {s0 s : State} {a0 : Nat} {a1 : Nat} {a2 : Nat} {a3 : Nat} (hw : Within 9007199428870209 w) (h : Keeps w s0 s) : Keeps w s0 (State.weigh s a0 a1 a2 a3) := by
  unfold State.weigh
  extract_lets +onlyGivenNames x1
  clear_value x1
  extract_lets +onlyGivenNames x2
  clear_value x2
  extract_lets +onlyGivenNames x3
  clear_value (e3 : x3 = _)
  refine Keeps.cut (w := w) (s0 := s0) e3 ?_ (fun h3 => ?_) <;> clear e3
  · refine State.noteTok_keeps (Within.trans (by decide) hw) ?_
    exact h
  split
  · rename_i y5 y6 y7 y8
    extract_lets +onlyGivenNames x9
    clear_value (e9 : x9 = _)
    refine Keeps.cut (w := w) (s0 := s0) e9 ?_ (fun h9 => ?_) <;> clear e9
    · refine State.setF_keeps (Within.trans (by decide) hw) ?_
      refine Keeps.snd y8 ?_
      refine State.inClasses_keeps (Within.trans (by decide) hw) ?_
      exact h3
    extract_lets +onlyGivenNames x12
    clear_value (e12 : x12 = _)
    refine Keeps.cut (w := w) (s0 := s0) e12 ?_ (fun h12 => ?_) <;> clear e12
    · split
      · refine State.setF_keeps (Within.trans (by decide) hw) ?_
        exact h9
      · exact h9
    split
    · extract_lets +onlyGivenNames x14
      clear_value x14
      extract_lets +onlyGivenNames x15
      clear_value x15
      extract_lets +onlyGivenNames x16
      clear_value (e16 : x16 = _)
      refine Keeps.cut (w := w) (s0 := s0) e16 ?_ (fun h16 => ?_) <;> clear e16
      · refine State.sat_keeps (Within.trans (by decide) hw) ?_
        refine State.setCeil_keeps (Within.trans (by decide) hw) ?_
        refine Keeps.set_power (Within.trans (by decide) hw) ?_
        exact h12
      split
      · exact h16
      · refine State.fault_keeps (Within.trans (by decide) hw) ?_
        refine Keeps.set_power (Within.trans (by decide) hw) ?_
        exact h16
    · exact h12

theorem effAdmit_keeps {w : Nat} {s0 s : State} {a0 : Nat} {a1 : Nat} {a2 : Nat} (hw : Within 1048576 w) (h : Keeps w s0 s) : Keeps w s0 (effAdmit a0 a1 a2 s) := by
  unfold effAdmit
  split
  · exact h
  · split
    · split
      · refine State.onT_keeps (Within.trans (by decide) hw) ?_
        exact h
      · exact h
    · exact h

theorem effBeat_keeps {w : Nat} {s0 s : State} {a0 : List Nat} {a1 : List Nat} {a2 : List Nat} (hw : Within 9200713476407489 w) (h : Keeps w s0 s) : Keeps w s0 (effBeat a0 a1 a2 s) := by
  unfold effBeat
  extract_lets +onlyGivenNames x1
  clear_value (e1 : x1 = _)
  refine Keeps.cut (w := w) (s0 := s0) e1 ?_ (fun h1 => ?_) <;> clear e1
  · refine State.countReasons_keeps (Within.trans (by decide) hw) ?_
    exact h
  extract_lets +onlyGivenNames x3
  clear_value (e3 : x3 = _)
  refine Keeps.cut (w := w) (s0 := s0) e3 ?_ (fun h3 => ?_) <;> clear e3
  · refine Keeps.set_beat (Within.trans (by decide) hw) ?_
    exact h1
  extract_lets +onlyGivenNames x4
  clear_value (e4 : x4 = _)
  refine Keeps.cut (w := w) (s0 := s0) e4 ?_ (fun h4 => ?_) <;> clear e4
  · refine Keeps.set_tiles (Within.trans (by decide) hw) ?_
    exact h3
  extract_lets +onlyGivenNames x5
  clear_value (e5 : x5 = _)
  refine Keeps.cut (w := w) (s0 := s0) e5 ?_ (fun h5 => ?_) <;> clear e5
  · refine Keeps.foldl (fun st6 e6 h6 => ?_) _ _ ?_
    · split
      · refine State.setF_keeps (Within.trans (by decide) hw) ?_
        exact h6
      · exact h6
    · exact h4
  extract_lets +onlyGivenNames x8
  clear_value (e8 : x8 = _)
  refine Keeps.cut (w := w) (s0 := s0) e8 ?_ (fun h8 => ?_) <;> clear e8
  · refine Keeps.foldl (fun st9 e9 h9 => ?_) _ _ ?_
    · refine State.allotBeat_keeps (Within.trans (by decide) hw) ?_
      refine State.weigh_keeps (Within.trans (by decide) hw) ?_
      exact h9
    · exact h5
  extract_lets +onlyGivenNames x12
  clear_value (e12 : x12 = _)
  refine Keeps.cut (w := w) (s0 := s0) e12 ?_ (fun h12 => ?_) <;> clear e12
  · refine Keeps.foldl (fun st13 e13 h13 => ?_) _ _ ?_
    · refine State.ampNote_keeps (Within.trans (by decide) hw) ?_
      exact h13
    · exact h8
  refine Keeps.foldl (fun st15 e15 h15 => ?_) _ _ ?_
  · refine State.beatEvents_keeps (Within.trans (by decide) hw) ?_
    exact h15
  · refine State.lnkBeat_keeps (Within.trans (by decide) hw) ?_
    exact h12

theorem effCapTick_keeps {w : Nat} {s0 s : State} {a0 : Nat} (hw : Within 9007199428870209 w) (h : Keeps w s0 s) : Keeps w s0 (effCapTick a0 s) := by
  unfold effCapTick
  extract_lets +onlyGivenNames x1
  clear_value x1
  extract_lets +onlyGivenNames x2
  clear_value x2
  extract_lets +onlyGivenNames x3
  clear_value x3
  extract_lets +onlyGivenNames x4
  clear_value x4
  extract_lets +onlyGivenNames x5
  clear_value x5
  extract_lets +onlyGivenNames x6
  clear_value x6
  extract_lets +onlyGivenNames x7
  clear_value (e7 : x7 = _)
  refine Keeps.cut (w := w) (s0 := s0) e7 ?_ (fun h7 => ?_) <;> clear e7
  · refine State.setF_keeps (Within.trans (by decide) hw) ?_
    refine State.bump_keeps (Within.trans (by decide) hw) ?_
    refine Keeps.set_power (Within.trans (by decide) hw) ?_
    exact h
  extract_lets +onlyGivenNames x10
  clear_value (e10 : x10 = _)
  refine Keeps.cut (w := w) (s0 := s0) e10 ?_ (fun h10 => ?_) <;> clear e10
  · refine State.setCeil_keeps (Within.trans (by decide) hw) ?_
    refine State.setCeil_keeps (Within.trans (by decide) hw) ?_
    exact h7
  split
  · refine State.setF_keeps (Within.trans (by decide) hw) ?_
    exact h10
  · split
    · refine State.setF_keeps (Within.trans (by decide) hw) ?_
      exact h10
    · exact h10

theorem effFrame_keeps {w : Nat} {s0 s : State} (hw : Within 4521741703448385 w) (h : Keeps w s0 s) : Keeps w s0 (effFrame s) := by
  unfold effFrame
  split
  · exact h
  · extract_lets +onlyGivenNames x1
    clear_value (e1 : x1 = _)
    refine Keeps.cut (w := w) (s0 := s0) e1 ?_ (fun h1 => ?_) <;> clear e1
    · split
      · refine State.traceRec_keeps (Within.trans (by decide) hw) ?_
        refine Keeps.set_frame_frameAt_frameLoad (Within.trans (by decide) hw) ?_
        exact h
      · refine Keeps.set_frame_frameAt (Within.trans (by decide) hw) ?_
        exact h
    refine State.d2dFrame_keeps (Within.trans (by decide) hw) ?_
    refine State.kndFrame_keeps (Within.trans (by decide) hw) ?_
    refine State.lnkFrame_keeps (Within.trans (by decide) hw) ?_
    exact h1

theorem effHbmTemp_keeps {w : Nat} {s0 s : State} {a0 : Nat} {a1 : Nat} {a2 : Bool} (hw : Within 288230376151711743 w) (h : Keeps w s0 s) : Keeps w s0 (effHbmTemp a0 a1 a2 s) := by
  unfold effHbmTemp
  split
  · extract_lets +onlyGivenNames x1
    clear_value (e1 : x1 = _)
    refine Keeps.cut (w := w) (s0 := s0) e1 ?_ (fun h1 => ?_) <;> clear e1
    · refine State.setF_keeps (Within.trans (by decide) hw) ?_
      refine State.noteReading_keeps (Within.trans (by decide) hw) ?_
      exact h
    extract_lets +onlyGivenNames x4
    clear_value x4
    extract_lets +onlyGivenNames x5
    clear_value (e5 : x5 = _)
    refine Keeps.cut (w := w) (s0 := s0) e5 ?_ (fun h5 => ?_) <;> clear e5
    · refine State.fault_keeps (Within.trans (by decide) hw) ?_
      refine State.setStack_keeps (Within.trans (by decide) hw) ?_
      exact h1
    refine State.thermTrip_keeps (Within.trans (by decide) hw) ?_
    exact h5
  · split
    · exact h
    · refine State.thermRead_keeps (Within.trans (by decide) hw) ?_
      refine State.stackRead_keeps (Within.trans (by decide) hw) ?_
      exact h

theorem effInputLow_keeps {w : Nat} {s0 s : State} {a0 : Nat} (hw : Within 9007199428870209 w) (h : Keeps w s0 s) : Keeps w s0 (effInputLow a0 s) := by
  unfold effInputLow
  extract_lets +onlyGivenNames x1
  clear_value x1
  extract_lets +onlyGivenNames x2
  clear_value x2
  extract_lets +onlyGivenNames x3
  clear_value (e3 : x3 = _)
  refine Keeps.cut (w := w) (s0 := s0) e3 ?_ (fun h3 => ?_) <;> clear e3
  · refine State.setF_keeps (Within.trans (by decide) hw) ?_
    exact h
  split
  · refine Keeps.set_power (Within.trans (by decide) hw) ?_
    exact h3
  · extract_lets +onlyGivenNames x5
    clear_value x5
    extract_lets +onlyGivenNames x6
    clear_value (e6 : x6 = _)
    refine Keeps.cut (w := w) (s0 := s0) e6 ?_ (fun h6 => ?_) <;> clear e6
    · refine State.setCeil_keeps (Within.trans (by decide) hw) ?_
      refine Keeps.set_power (Within.trans (by decide) hw) ?_
      exact h3
    split
    · exact h6
    · refine State.fault_keeps (Within.trans (by decide) hw) ?_
      exact h6

theorem effRampEnd_keeps {w : Nat} {s0 s : State} {a0 : Nat} {a1 : Nat} (hw : Within 9007199256838144 w) (h : Keeps w s0 s) : Keeps w s0 (effRampEnd a0 a1 s) := by
  unfold effRampEnd
  split
  · exact h
  · extract_lets +onlyGivenNames x1
    clear_value x1
    split
    · exact h
    · extract_lets +onlyGivenNames x2
      clear_value x2
      extract_lets +onlyGivenNames x3
      clear_value (e3 : x3 = _)
      refine Keeps.cut (w := w) (s0 := s0) e3 ?_ (fun h3 => ?_) <;> clear e3
      · refine State.setPol_keeps (Within.trans (by decide) hw) ?_
        exact h
      refine Keeps.set_power (Within.trans (by decide) hw) ?_
      exact h3

theorem effRecover_keeps {w : Nat} {s0 s : State} {a0 : Nat} (hw : Within 9007199428870209 w) (h : Keeps w s0 s) : Keeps w s0 (effRecover a0 s) := by
  unfold effRecover
  split
  · exact h
  · split
    · exact h
    · refine State.setCeil_keeps (Within.trans (by decide) hw) ?_
      refine Keeps.set_power (Within.trans (by decide) hw) ?_
      exact h

theorem effRise_keeps {w : Nat} {s0 s : State} (hw : Within 9007199388958785 w) (h : Keeps w s0 s) : Keeps w s0 (effRise s) := by
  unfold effRise
  split
  · exact h
  · refine State.setLevel_keeps (Within.trans (by decide) hw) ?_
    refine Keeps.set_power (Within.trans (by decide) hw) ?_
    exact h

theorem effSensorFail_keeps {w : Nat} {s0 s : State} {a0 : Nat} {a1 : Nat} (hw : Within 9007199428870209 w) (h : Keeps w s0 s) : Keeps w s0 (effSensorFail a0 a1 s) := by
  unfold effSensorFail
  extract_lets +onlyGivenNames x1
  clear_value x1
  split
  · exact h
  · extract_lets +onlyGivenNames x2
    clear_value x2
    extract_lets +onlyGivenNames x3
    clear_value x3
    extract_lets +onlyGivenNames x4
    clear_value (e4 : x4 = _)
    refine Keeps.cut (w := w) (s0 := s0) e4 ?_ (fun h4 => ?_) <;> clear e4
    · refine State.setCeil_keeps (Within.trans (by decide) hw) ?_
      refine Keeps.set_power (Within.trans (by decide) hw) ?_
      exact h
    refine State.fault_keeps (Within.trans (by decide) hw) ?_
    split
    · refine State.stackRead_keeps (Within.trans (by decide) hw) ?_
      exact h4
    · exact h4

theorem effThermStep_keeps {w : Nat} {s0 s : State} {a0 : Nat} {a1 : Nat} (hw : Within 9007199428870209 w) (h : Keeps w s0 s) : Keeps w s0 (effThermStep a0 a1 s) := by
  unfold effThermStep
  extract_lets +onlyGivenNames x1
  clear_value x1
  split
  · exact h
  · split
    · refine State.setCeil_keeps (Within.trans (by decide) hw) ?_
      exact h
    · split
      · refine State.setCeil_keeps (Within.trans (by decide) hw) ?_
        exact h
      · exact h

theorem effToken_keeps {w : Nat} {s0 s : State} {a0 : Nat} {a1 : Bool} (hw : Within 4530142969790529 w) (h : Keeps w s0 s) : Keeps w s0 (effToken a0 a1 s) := by
  unfold effToken
  extract_lets +onlyGivenNames x1
  clear_value x1
  extract_lets +onlyGivenNames x2
  clear_value x2
  split
  · exact h
  · extract_lets +onlyGivenNames x3
    clear_value x3
    split
    · exact h
    · extract_lets +onlyGivenNames x4
      clear_value (e4 : x4 = _)
      refine Keeps.cut (w := w) (s0 := s0) e4 ?_ (fun h4 => ?_) <;> clear e4
      · refine State.onT_keeps (Within.trans (by decide) hw) ?_
        exact h
      refine State.startFront_keeps (Within.trans (by decide) hw) ?_
      refine State.countEv_keeps (Within.trans (by decide) hw) ?_
      refine State.noteTok_keeps (Within.trans (by decide) hw) ?_
      refine State.ampNote_keeps (Within.trans (by decide) hw) ?_
      exact h4

theorem effUnmet_keeps {w : Nat} {s0 s : State} (hw : Within 9007199428870209 w) (h : Keeps w s0 s) : Keeps w s0 (effUnmet s) := by
  unfold effUnmet
  split
  · exact h
  · refine State.fault_keeps (Within.trans (by decide) hw) ?_
    refine State.setCeil_keeps (Within.trans (by decide) hw) ?_
    refine Keeps.set_power (Within.trans (by decide) hw) ?_
    exact h

theorem effVrWarn_keeps {w : Nat} {s0 s : State} {a0 : Nat} (hw : Within 9007199428870209 w) (h : Keeps w s0 s) : Keeps w s0 (effVrWarn a0 s) := by
  unfold effVrWarn
  refine State.setCeil_keeps (Within.trans (by decide) hw) ?_
  refine State.setF_keeps (Within.trans (by decide) hw) ?_
  refine Keeps.set_power (Within.trans (by decide) hw) ?_
  exact h

theorem execBeatBoundary_keeps {w : Nat} {s0 s : State} {a0 : List Nat} {a1 : List Nat} {a2 : List Nat} (hw : Within 9200713476407489 w) (h : Keeps w s0 s) : KeepsO w s0 (execBeatBoundary a0 a1 a2 s) := by
  unfold execBeatBoundary
  refine KeepsO.next ?_
  refine effBeat_keeps (Within.trans (by decide) hw) ?_
  exact h

theorem execCapControlTick_keeps {w : Nat} {s0 s : State} {a0 : Nat} (hw : Within 9007199428870209 w) (h : Keeps w s0 s) : KeepsO w s0 (execCapControlTick a0 s) := by
  unfold execCapControlTick
  refine KeepsO.next ?_
  refine effCapTick_keeps (Within.trans (by decide) hw) ?_
  exact h

theorem execCapUnmet_keeps {w : Nat} {s0 s : State} (hw : Within 9007199428870209 w) (h : Keeps w s0 s) : KeepsO w s0 (execCapUnmet s) := by
  unfold execCapUnmet
  refine KeepsO.next ?_
  refine effUnmet_keeps (Within.trans (by decide) hw) ?_
  exact h

theorem execCurrentRampRecover_keeps {w : Nat} {s0 s : State} {a0 : Nat} (hw : Within 9007199428870209 w) (h : Keeps w s0 s) : KeepsO w s0 (execCurrentRampRecover a0 s) := by
  unfold execCurrentRampRecover
  refine KeepsO.onDie ?_
  refine effRecover_keeps (Within.trans (by decide) hw) ?_
  exact h

theorem execDieTempSample_keeps {w : Nat} {s0 s : State} {a0 : Nat} {a1 : Nat} (hw : Within 288230376151711743 w) (h : Keeps w s0 s) : KeepsO w s0 (execDieTempSample a0 a1 s) := by
  unfold execDieTempSample
  refine KeepsO.onDie ?_
  split
  · refine State.thermTrip_keeps (Within.trans (by decide) hw) ?_
    refine State.noteReading_keeps (Within.trans (by decide) hw) ?_
    exact h
  · refine State.thermRead_keeps (Within.trans (by decide) hw) ?_
    exact h

theorem execFrameBoundary_keeps {w : Nat} {s0 s : State} (hw : Within 4521741703448385 w) (h : Keeps w s0 s) : KeepsO w s0 (execFrameBoundary s) := by
  unfold execFrameBoundary
  refine KeepsO.next ?_
  refine effFrame_keeps (Within.trans (by decide) hw) ?_
  exact h

theorem execHbmTempSample_keeps {w : Nat} {s0 s : State} {a0 : Nat} {a1 : Nat} {a2 : Bool} (hw : Within 288230376151711743 w) (h : Keeps w s0 s) : KeepsO w s0 (execHbmTempSample a0 a1 a2 s) := by
  unfold execHbmTempSample
  refine KeepsO.onStack ?_
  refine effHbmTemp_keeps (Within.trans (by decide) hw) ?_
  exact h

theorem execHostLevelWrite_keeps {w : Nat} {s0 s : State} {a0 : Nat} (hw : Within 9007199428870209 w) (h : Keeps w s0 s) : KeepsO w s0 (execHostLevelWrite a0 s) := by
  unfold execHostLevelWrite
  refine KeepsO.next ?_
  refine State.hostLevel_keeps (Within.trans (by decide) hw) ?_
  refine State.setF_keeps (Within.trans (by decide) hw) ?_
  exact h

theorem execInputLow_keeps {w : Nat} {s0 s : State} {a0 : Nat} (hw : Within 9007199428870209 w) (h : Keeps w s0 s) : KeepsO w s0 (execInputLow a0 s) := by
  unfold execInputLow
  refine KeepsO.next ?_
  refine effInputLow_keeps (Within.trans (by decide) hw) ?_
  exact h

theorem execInputLowClear_keeps {w : Nat} {s0 s : State} (hw : Within 9007199428870209 w) (h : Keeps w s0 s) : KeepsO w s0 (execInputLowClear s) := by
  unfold execInputLowClear
  refine KeepsO.next ?_
  refine State.setCeil_keeps (Within.trans (by decide) hw) ?_
  refine Keeps.set_power (Within.trans (by decide) hw) ?_
  exact h

theorem execInputUv_keeps {w : Nat} {s0 s : State} (hw : Within 288230376151711743 w) (h : Keeps w s0 s) : KeepsO w s0 (execInputUv s) := by
  unfold execInputUv
  refine KeepsO.next ?_
  refine State.graceful_keeps (Within.trans (by decide) hw) ?_
  refine State.fault_keeps (Within.trans (by decide) hw) ?_
  exact h

theorem execLevelFall_keeps {w : Nat} {s0 s : State} (hw : Within 134217793 w) (h : Keeps w s0 s) : KeepsO w s0 (execLevelFall s) := by
  unfold execLevelFall
  refine KeepsO.next ?_
  split
  · refine State.setLevel_keeps (Within.trans (by decide) hw) ?_
    exact h
  · exact h

theorem execLevelRise_keeps {w : Nat} {s0 s : State} (hw : Within 9007199388958785 w) (h : Keeps w s0 s) : KeepsO w s0 (execLevelRise s) := by
  unfold execLevelRise
  refine KeepsO.next ?_
  refine effRise_keeps (Within.trans (by decide) hw) ?_
  exact h

theorem execLinkTempSample_keeps {w : Nat} {s0 s : State} {a0 : Nat} {a1 : Nat} (hw : Within 288230376151711743 w) (h : Keeps w s0 s) : KeepsO w s0 (execLinkTempSample a0 a1 s) := by
  unfold execLinkTempSample
  refine KeepsO.onDie ?_
  split
  · refine State.thermTrip_keeps (Within.trans (by decide) hw) ?_
    refine State.noteReading_keeps (Within.trans (by decide) hw) ?_
    exact h
  · refine State.thermRead_keeps (Within.trans (by decide) hw) ?_
    exact h

theorem execRampAdmission_keeps {w : Nat} {s0 s : State} {a0 : Nat} {a1 : Nat} {a2 : Nat} (hw : Within 1048576 w) (h : Keeps w s0 s) : KeepsO w s0 (execRampAdmission a0 a1 a2 s) := by
  unfold execRampAdmission
  refine KeepsO.onPol ?_
  refine effAdmit_keeps (Within.trans (by decide) hw) ?_
  exact h

theorem execRampEnd_keeps {w : Nat} {s0 s : State} {a0 : Nat} {a1 : Nat} (hw : Within 9007199256838144 w) (h : Keeps w s0 s) : KeepsO w s0 (execRampEnd a0 a1 s) := by
  unfold execRampEnd
  refine KeepsO.onPol ?_
  refine effRampEnd_keeps (Within.trans (by decide) hw) ?_
  exact h

theorem execSensorFail_keeps {w : Nat} {s0 s : State} {a0 : Nat} {a1 : Nat} (hw : Within 9007199428870209 w) (h : Keeps w s0 s) : KeepsO w s0 (execSensorFail a0 a1 s) := by
  unfold execSensorFail
  refine KeepsO.onSensor ?_
  refine effSensorFail_keeps (Within.trans (by decide) hw) ?_
  exact h

theorem execSensorRecover_keeps {w : Nat} {s0 s : State} {a0 : Nat} {a1 : Nat} (hw : Within 9007199254740992 w) (h : Keeps w s0 s) : KeepsO w s0 (execSensorRecover a0 a1 s) := by
  unfold execSensorRecover
  refine KeepsO.onSensor ?_
  refine Keeps.set_power (Within.trans (by decide) hw) ?_
  exact h

theorem execTaskStart_keeps {w : Nat} {s0 s : State} {a0 : Nat} (hw : Within 3145729 w) (h : Keeps w s0 s) : KeepsO w s0 (execTaskStart a0 s) := by
  unfold execTaskStart
  refine KeepsO.onTile ?_
  refine effStart_keeps (Within.trans (by decide) hw) ?_
  exact h

theorem execThermalStep_keeps {w : Nat} {s0 s : State} {a0 : Nat} {a1 : Nat} (hw : Within 9007199428870209 w) (h : Keeps w s0 s) : KeepsO w s0 (execThermalStep a0 a1 s) := by
  unfold execThermalStep
  refine KeepsO.onSensor ?_
  refine effThermStep_keeps (Within.trans (by decide) hw) ?_
  exact h

theorem execTokenGrant_keeps {w : Nat} {s0 s : State} {a0 : Nat} {a1 : Bool} {a2 : List (Nat × Nat)} (hw : Within 4530142969790529 w) (h : Keeps w s0 s) : KeepsO w s0 (execTokenGrant a0 a1 a2 s) := by
  unfold execTokenGrant
  refine KeepsO.onTile ?_
  refine effToken_keeps (Within.trans (by decide) hw) ?_
  refine State.addUpsets_keeps (Within.trans (by decide) hw) ?_
  exact h

theorem execVrTempSample_keeps {w : Nat} {s0 s : State} {a0 : Nat} {a1 : Nat} (hw : Within 288230376151711743 w) (h : Keeps w s0 s) : KeepsO w s0 (execVrTempSample a0 a1 s) := by
  unfold execVrTempSample
  refine KeepsO.onUnit ?_
  split
  · refine State.thermTrip_keeps (Within.trans (by decide) hw) ?_
    refine State.noteReading_keeps (Within.trans (by decide) hw) ?_
    exact h
  · refine State.thermRead_keeps (Within.trans (by decide) hw) ?_
    exact h

theorem execVrWarn_keeps {w : Nat} {s0 s : State} {a0 : Nat} (hw : Within 9007199428870209 w) (h : Keeps w s0 s) : KeepsO w s0 (execVrWarn a0 s) := by
  unfold execVrWarn
  refine KeepsO.onUnit ?_
  refine effVrWarn_keeps (Within.trans (by decide) hw) ?_
  exact h

theorem execVrWarnClear_keeps {w : Nat} {s0 s : State} {a0 : Nat} (hw : Within 9007199254740993 w) (h : Keeps w s0 s) : KeepsO w s0 (execVrWarnClear a0 s) := by
  unfold execVrWarnClear
  refine KeepsO.onUnit ?_
  split
  · exact h
  · refine State.setF_keeps (Within.trans (by decide) hw) ?_
    refine Keeps.set_power (Within.trans (by decide) hw) ?_
    exact h

theorem execVrWarnHoldExpiry_keeps {w : Nat} {s0 s : State} {a0 : Nat} (hw : Within 9007199428870209 w) (h : Keeps w s0 s) : KeepsO w s0 (execVrWarnHoldExpiry a0 s) := by
  unfold execVrWarnHoldExpiry
  refine KeepsO.onUnit ?_
  split
  · exact h
  · refine State.setCeil_keeps (Within.trans (by decide) hw) ?_
    refine Keeps.set_power (Within.trans (by decide) hw) ?_
    exact h

end Sys2Proof.Machine
end

