-- ==== Sys2Proof/Laws/KeepsM.lean ====
section
/-!
SUPPORT. What each function of Mgmt, SpillQueue, RegWrite may change: the mask of parts, and both memories stay canonical.
-/
namespace Sys2Proof.Machine

theorem State.answer_keeps {w : Nat} {s0 s : State} {a0 : MgmtAnswer} (hw : Within 67108864 w) (h : Keeps w s0 s) : Keeps w s0 (State.answer s a0) := by
  unfold State.answer
  refine Keeps.set_mgmtOut (Within.trans (by decide) hw) ?_
  exact h

theorem State.setMbox_keeps {w : Nat} {s0 s : State} {a0 : Nat} {a1 : Nat} {a2 : Nat} (hw : Within 1 w) (h : Keeps w s0 s) : Keeps w s0 (State.setMbox s a0 a1 a2) := by
  unfold State.setMbox
  refine State.setReg_keeps (Within.trans (by decide) hw) ?_
  exact h

theorem effMboxSend_keeps {w : Nat} {s0 s : State} (hw : Within 1 w) (h : Keeps w s0 s) : Keeps w s0 (effMboxSend s) := by
  unfold effMboxSend
  split
  · exact h
  · extract_lets +onlyGivenNames x1
    clear_value x1
    split
    · refine State.setMbox_keeps (Within.trans (by decide) hw) ?_
      exact h
    · refine State.setMbox_keeps (Within.trans (by decide) hw) ?_
      exact h

theorem State.openAnswer_keeps {w : Nat} {s0 s : State} {a0 : Nat} {a1 : MgmtKind} {a2 : Nat} {a3 : Nat} (hw : Within 67108864 w) (h : Keeps w s0 s) : Keeps w s0 (State.openAnswer s a0 a1 a2 a3) := by
  unfold State.openAnswer
  refine State.answer_keeps (Within.trans (by decide) hw) ?_
  exact h

theorem State.signed_keeps {w : Nat} {s0 s : State} {a0 : Nat} {a1 : MgmtKind} {a2 : List Nat} {a3 : List Byte} {a4 : Nat} (hw : Within 67108928 w) (h : Keeps w s0 s) : Keeps w s0 (State.signed s a0 a1 a2 a3 a4) := by
  unfold State.signed
  split
  · rename_i y1 y2 y3 y4
    refine State.answer_keeps (Within.trans (by decide) hw) ?_
    refine Keeps.snd y4 ?_
    refine State.drawBytes_keeps (Within.trans (by decide) hw) ?_
    exact h

theorem State.valueAnswer_keeps {w : Nat} {s0 s : State} {a0 : Nat} {a1 : MgmtKind} {a2 : Option (List Nat)} (hw : Within 67108864 w) (h : Keeps w s0 s) : Keeps w s0 (State.valueAnswer s a0 a1 a2) := by
  unfold State.valueAnswer
  refine State.answer_keeps (Within.trans (by decide) hw) ?_
  exact h

theorem effFwTransfer_keeps {w : Nat} {s0 s : State} {a0 : Nat} {a1 : Nat} {a2 : List Byte} (hw : Within 18014398509481984 w) (h : Keeps w s0 s) : Keeps w s0 (effFwTransfer a0 a1 a2 s) := by
  unfold effFwTransfer
  split
  · exact h
  · refine State.onModule_keeps (Within.trans (by decide) hw) ?_
    exact h

theorem effMboxResponse_keeps {w : Nat} {s0 s : State} {a0 : Nat} {a1 : List Byte} (hw : Within 18014398509481985 w) (h : Keeps w s0 s) : Keeps w s0 (effMboxResponse a0 a1 s) := by
  unfold effMboxResponse
  split
  · exact h
  · split
    · refine State.setMbox_keeps (Within.trans (by decide) hw) ?_
      exact h
    · refine State.setMbox_keeps (Within.trans (by decide) hw) ?_
      refine State.onModule_keeps (Within.trans (by decide) hw) ?_
      exact h

theorem effNegotiate_keeps {w : Nat} {s0 s : State} {a0 : Nat} {a1 : Nat} {a2 : Nat} (hw : Within 18014398576590848 w) (h : Keeps w s0 s) : Keeps w s0 (effNegotiate a0 a1 a2 s) := by
  unfold effNegotiate
  split
  · refine State.answer_keeps (Within.trans (by decide) hw) ?_
    refine State.onModule_keeps (Within.trans (by decide) hw) ?_
    exact h
  · refine State.answer_keeps (Within.trans (by decide) hw) ?_
    refine State.onModule_keeps (Within.trans (by decide) hw) ?_
    exact h

theorem effSetEffecter_keeps {w : Nat} {s0 s : State} {a0 : Nat} {a1 : Nat} {a2 : Nat} (hw : Within 9007199495979073 w) (h : Keeps w s0 s) : Keeps w s0 (effSetEffecter a0 a1 a2 s) := by
  unfold effSetEffecter
  split
  · refine State.valueAnswer_keeps (Within.trans (by decide) hw) ?_
    refine State.capChanged_keeps (Within.trans (by decide) hw) ?_
    refine State.setF_keeps (Within.trans (by decide) hw) ?_
    exact h
  · split
    · refine State.valueAnswer_keeps (Within.trans (by decide) hw) ?_
      refine State.hostLevel_keeps (Within.trans (by decide) hw) ?_
      refine State.setF_keeps (Within.trans (by decide) hw) ?_
      exact h
    · refine State.valueAnswer_keeps (Within.trans (by decide) hw) ?_
      exact h

theorem effSetEid_keeps {w : Nat} {s0 s : State} {a0 : Nat} {a1 : Nat} (hw : Within 18014398576590848 w) (h : Keeps w s0 s) : Keeps w s0 (effSetEid a0 a1 s) := by
  unfold effSetEid
  refine State.answer_keeps (Within.trans (by decide) hw) ?_
  refine State.onModule_keeps (Within.trans (by decide) hw) ?_
  exact h

theorem effVerify_keeps {w : Nat} {s0 s : State} {a0 : Nat} {a1 : Bool} {a2 : Bool} {a3 : Nat} (hw : Within 18014398509481984 w) (h : Keeps w s0 s) : Keeps w s0 (effVerify a0 a1 a2 a3 s) := by
  unfold effVerify
  split
  · exact h
  · refine State.onModule_keeps (Within.trans (by decide) hw) ?_
    exact h

theorem execChallenge_keeps {w : Nat} {s0 s : State} {a0 : Nat} {a1 : Nat} {a2 : List Byte} (hw : Within 67108928 w) (h : Keeps w s0 s) : KeepsO w s0 (execChallenge a0 a1 a2 s) := by
  unfold execChallenge
  refine KeepsO.onPath ?_ ?_
  · split
    · refine State.signed_keeps (Within.trans (by decide) hw) ?_
      exact h
    · refine State.answer_keeps (Within.trans (by decide) hw) ?_
      exact h
  · exact h

theorem execFwUpdateTransfer_keeps {w : Nat} {s0 s : State} {a0 : Nat} {a1 : Nat} {a2 : List Byte} (hw : Within 18014398509481984 w) (h : Keeps w s0 s) : KeepsO w s0 (execFwUpdateTransfer a0 a1 a2 s) := by
  unfold execFwUpdateTransfer
  refine KeepsO.next ?_
  refine effFwTransfer_keeps (Within.trans (by decide) hw) ?_
  exact h

theorem execGetCapabilities_keeps {w : Nat} {s0 s : State} {a0 : Nat} (hw : Within 67108864 w) (h : Keeps w s0 s) : KeepsO w s0 (execGetCapabilities a0 s) := by
  unfold execGetCapabilities
  refine KeepsO.onPath ?_ ?_
  · refine State.answer_keeps (Within.trans (by decide) hw) ?_
    exact h
  · exact h

theorem execGetCertificate_keeps {w : Nat} {s0 s : State} {a0 : Nat} {a1 : Nat} {a2 : Nat} {a3 : Nat} (hw : Within 67108864 w) (h : Keeps w s0 s) : KeepsO w s0 (execGetCertificate a0 a1 a2 a3 s) := by
  unfold execGetCertificate
  refine KeepsO.onPath ?_ ?_
  · split
    · refine State.answer_keeps (Within.trans (by decide) hw) ?_
      exact h
    · refine State.answer_keeps (Within.trans (by decide) hw) ?_
      exact h
  · exact h

theorem execGetDigests_keeps {w : Nat} {s0 s : State} {a0 : Nat} (hw : Within 67108864 w) (h : Keeps w s0 s) : KeepsO w s0 (execGetDigests a0 s) := by
  unfold execGetDigests
  refine KeepsO.onPath ?_ ?_
  · refine State.answer_keeps (Within.trans (by decide) hw) ?_
    exact h
  · exact h

theorem execGetEndpointId_keeps {w : Nat} {s0 s : State} {a0 : Nat} (hw : Within 67108864 w) (h : Keeps w s0 s) : KeepsO w s0 (execGetEndpointId a0 s) := by
  unfold execGetEndpointId
  refine KeepsO.onPath ?_ ?_
  · refine State.answer_keeps (Within.trans (by decide) hw) ?_
    exact h
  · exact h

theorem execGetEndpointUuid_keeps {w : Nat} {s0 s : State} {a0 : Nat} (hw : Within 67108864 w) (h : Keeps w s0 s) : KeepsO w s0 (execGetEndpointUuid a0 s) := by
  unfold execGetEndpointUuid
  refine KeepsO.onPath ?_ ?_
  · refine State.openAnswer_keeps (Within.trans (by decide) hw) ?_
    exact h
  · exact h

theorem execGetMctpVersionSupport_keeps {w : Nat} {s0 s : State} {a0 : Nat} {a1 : Nat} (hw : Within 67108864 w) (h : Keeps w s0 s) : KeepsO w s0 (execGetMctpVersionSupport a0 a1 s) := by
  unfold execGetMctpVersionSupport
  refine KeepsO.onPath ?_ ?_
  · refine State.openAnswer_keeps (Within.trans (by decide) hw) ?_
    exact h
  · exact h

theorem execGetMeasurements_keeps {w : Nat} {s0 s : State} {a0 : Nat} {a1 : Nat} {a2 : List Byte} (hw : Within 67108928 w) (h : Keeps w s0 s) : KeepsO w s0 (execGetMeasurements a0 a1 a2 s) := by
  unfold execGetMeasurements
  refine KeepsO.onPath ?_ ?_
  · split
    · refine State.signed_keeps (Within.trans (by decide) hw) ?_
      exact h
    · refine State.answer_keeps (Within.trans (by decide) hw) ?_
      exact h
  · exact h

theorem execGetMessageTypeSupport_keeps {w : Nat} {s0 s : State} {a0 : Nat} (hw : Within 67108864 w) (h : Keeps w s0 s) : KeepsO w s0 (execGetMessageTypeSupport a0 s) := by
  unfold execGetMessageTypeSupport
  refine KeepsO.onPath ?_ ?_
  · refine State.openAnswer_keeps (Within.trans (by decide) hw) ?_
    exact h
  · exact h

theorem execGetNumericEffecterValue_keeps {w : Nat} {s0 s : State} {a0 : Nat} {a1 : Nat} (hw : Within 67108864 w) (h : Keeps w s0 s) : KeepsO w s0 (execGetNumericEffecterValue a0 a1 s) := by
  unfold execGetNumericEffecterValue
  refine KeepsO.onPath ?_ ?_
  · refine State.valueAnswer_keeps (Within.trans (by decide) hw) ?_
    exact h
  · exact h

theorem execGetPdr_keeps {w : Nat} {s0 s : State} {a0 : Nat} {a1 : Nat} (hw : Within 67108864 w) (h : Keeps w s0 s) : KeepsO w s0 (execGetPdr a0 a1 s) := by
  unfold execGetPdr
  refine KeepsO.onPath ?_ ?_
  · refine State.openAnswer_keeps (Within.trans (by decide) hw) ?_
    exact h
  · exact h

theorem execGetSensorReading_keeps {w : Nat} {s0 s : State} {a0 : Nat} {a1 : Nat} (hw : Within 67108864 w) (h : Keeps w s0 s) : KeepsO w s0 (execGetSensorReading a0 a1 s) := by
  unfold execGetSensorReading
  refine KeepsO.onPath ?_ ?_
  · refine State.valueAnswer_keeps (Within.trans (by decide) hw) ?_
    exact h
  · exact h

theorem execGetStateSensorReadings_keeps {w : Nat} {s0 s : State} {a0 : Nat} {a1 : Nat} (hw : Within 67108864 w) (h : Keeps w s0 s) : KeepsO w s0 (execGetStateSensorReadings a0 a1 s) := by
  unfold execGetStateSensorReadings
  refine KeepsO.onPath ?_ ?_
  · refine State.valueAnswer_keeps (Within.trans (by decide) hw) ?_
    exact h
  · exact h

theorem execGetVersion_keeps {w : Nat} {s0 s : State} {a0 : Nat} (hw : Within 67108864 w) (h : Keeps w s0 s) : KeepsO w s0 (execGetVersion a0 s) := by
  unfold execGetVersion
  refine KeepsO.onPath ?_ ?_
  · refine State.answer_keeps (Within.trans (by decide) hw) ?_
    exact h
  · exact h

theorem execMboxAbort_keeps {w : Nat} {s0 s : State} (hw : Within 1 w) (h : Keeps w s0 s) : KeepsO w s0 (execMboxAbort s) := by
  unfold execMboxAbort
  refine KeepsO.next ?_
  refine State.setMbox_keeps (Within.trans (by decide) hw) ?_
  exact h

theorem execMboxResponse_keeps {w : Nat} {s0 s : State} {a0 : Nat} {a1 : List Byte} (hw : Within 18014398509481985 w) (h : Keeps w s0 s) : KeepsO w s0 (execMboxResponse a0 a1 s) := by
  unfold execMboxResponse
  refine KeepsO.next ?_
  refine effMboxResponse_keeps (Within.trans (by decide) hw) ?_
  exact h

theorem execMboxSend_keeps {w : Nat} {s0 s : State} (hw : Within 1 w) (h : Keeps w s0 s) : KeepsO w s0 (execMboxSend s) := by
  unfold execMboxSend
  refine KeepsO.next ?_
  refine effMboxSend_keeps (Within.trans (by decide) hw) ?_
  exact h

theorem execMboxTimeout_keeps {w : Nat} {s0 s : State} (hw : Within 1 w) (h : Keeps w s0 s) : KeepsO w s0 (execMboxTimeout s) := by
  unfold execMboxTimeout
  refine KeepsO.next ?_
  split
  · refine State.setMbox_keeps (Within.trans (by decide) hw) ?_
    exact h
  · exact h

theorem execNegotiateAlgorithms_keeps {w : Nat} {s0 s : State} {a0 : Nat} {a1 : Nat} {a2 : Nat} (hw : Within 18014398576590848 w) (h : Keeps w s0 s) : KeepsO w s0 (execNegotiateAlgorithms a0 a1 a2 s) := by
  unfold execNegotiateAlgorithms
  refine KeepsO.onPath ?_ ?_
  · refine effNegotiate_keeps (Within.trans (by decide) hw) ?_
    exact h
  · exact h

theorem execPldmType0Request_keeps {w : Nat} {s0 s : State} {a0 : Nat} {a1 : Nat} (hw : Within 67108864 w) (h : Keeps w s0 s) : KeepsO w s0 (execPldmType0Request a0 a1 s) := by
  unfold execPldmType0Request
  refine KeepsO.onPath ?_ ?_
  · refine State.openAnswer_keeps (Within.trans (by decide) hw) ?_
    exact h
  · exact h

theorem execSetEndpointId_keeps {w : Nat} {s0 s : State} {a0 : Nat} {a1 : Nat} (hw : Within 18014398576590848 w) (h : Keeps w s0 s) : KeepsO w s0 (execSetEndpointId a0 a1 s) := by
  unfold execSetEndpointId
  refine KeepsO.onPath ?_ ?_
  · refine effSetEid_keeps (Within.trans (by decide) hw) ?_
    exact h
  · exact h

theorem execSetNumericEffecterValue_keeps {w : Nat} {s0 s : State} {a0 : Nat} {a1 : Nat} {a2 : Nat} (hw : Within 9007199495979073 w) (h : Keeps w s0 s) : KeepsO w s0 (execSetNumericEffecterValue a0 a1 a2 s) := by
  unfold execSetNumericEffecterValue
  refine KeepsO.onPath ?_ ?_
  · refine effSetEffecter_keeps (Within.trans (by decide) hw) ?_
    exact h
  · exact h

theorem execVerifyComplete_keeps {w : Nat} {s0 s : State} {a0 : Nat} {a1 : Bool} {a2 : Bool} {a3 : Nat} (hw : Within 18014398509481984 w) (h : Keeps w s0 s) : KeepsO w s0 (execVerifyComplete a0 a1 a2 a3 s) := by
  unfold execVerifyComplete
  refine KeepsO.next ?_
  refine effVerify_keeps (Within.trans (by decide) hw) ?_
  exact h

theorem effSqFlush_keeps {w : Nat} {s0 s : State} {a0 : Nat} (hw : Within 137438953473 w) (h : Keeps w s0 s) : Keeps w s0 (effSqFlush a0 s) := by
  unfold effSqFlush
  extract_lets +onlyGivenNames x1
  clear_value x1
  split
  · refine State.err_keeps (Within.trans (by decide) hw) ?_
    exact h
  · refine State.flushQ_keeps (Within.trans (by decide) hw) ?_
    exact h

theorem effPoolEmpty_keeps {w : Nat} {s0 s : State} {a0 : Nat} (hw : Within 4530125521223745 w) (h : Keeps w s0 s) : Keeps w s0 (effPoolEmpty a0 s) := by
  unfold effPoolEmpty
  extract_lets +onlyGivenNames x1
  clear_value x1
  split
  · exact h
  · split
    · refine State.grantSeg_keeps (Within.trans (by decide) hw) ?_
      exact h
    · split
      · split
        · exact h
        · split
          · exact h
          · split
            · exact h
            · split
              · exact h
              · refine State.sat_keeps (Within.trans (by decide) hw) ?_
                refine State.sqFault_keeps (Within.trans (by decide) hw) ?_
                exact h
      · exact h

theorem effRefill_keeps {w : Nat} {s0 s : State} {a0 : Nat} {a1 : Bool} (hw : Within 137438953473 w) (h : Keeps w s0 s) : Keeps w s0 (effRefill a0 a1 s) := by
  unfold effRefill
  extract_lets +onlyGivenNames x1
  clear_value x1
  split
  · exact h
  · refine State.onSq_keeps (Within.trans (by decide) hw) ?_
    exact h

theorem execPoolEmpty_keeps {w : Nat} {s0 s : State} {a0 : Nat} (hw : Within 4530125521223745 w) (h : Keeps w s0 s) : KeepsO w s0 (execPoolEmpty a0 s) := by
  unfold execPoolEmpty
  refine KeepsO.onQueue ?_
  refine effPoolEmpty_keeps (Within.trans (by decide) hw) ?_
  exact h

theorem execSqFlush_keeps {w : Nat} {s0 s : State} {a0 : Nat} (hw : Within 137438953473 w) (h : Keeps w s0 s) : KeepsO w s0 (execSqFlush a0 s) := by
  unfold execSqFlush
  refine KeepsO.onQueue ?_
  refine effSqFlush_keeps (Within.trans (by decide) hw) ?_
  exact h

theorem execSqMiddleRefill_keeps {w : Nat} {s0 s : State} {a0 : Nat} {a1 : Bool} (hw : Within 137438953473 w) (h : Keeps w s0 s) : KeepsO w s0 (execSqMiddleRefill a0 a1 s) := by
  unfold execSqMiddleRefill
  refine KeepsO.onQueue ?_
  refine effRefill_keeps (Within.trans (by decide) hw) ?_
  exact h

theorem execSqSegmentRequest_keeps {w : Nat} {s0 s : State} {a0 : Nat} (hw : Within 137438953473 w) (h : Keeps w s0 s) : KeepsO w s0 (execSqSegmentRequest a0 s) := by
  unfold execSqSegmentRequest
  refine KeepsO.onQueue ?_
  refine State.grantSeg_keeps (Within.trans (by decide) hw) ?_
  exact h

theorem execSqTailArrival_keeps {w : Nat} {s0 s : State} {a0 : Nat} (hw : Within 137440002049 w) (h : Keeps w s0 s) : KeepsO w s0 (execSqTailArrival a0 s) := by
  unfold execSqTailArrival
  refine KeepsO.onTile ?_
  refine State.sqArrive_keeps (Within.trans (by decide) hw) ?_
  exact h

theorem State.read4_keeps {w : Nat} {s0 s : State} {a0 : Nat} {a1 : Nat} {a2 : Nat} (hw : Within 134217841 w) (h : Keeps w s0 s) : Keeps w s0 (State.read4 s a0 a1 a2).2 := by
  unfold State.read4
  split
  · dsimp only
    exact h
  · split
    · dsimp only
      exact h
    · split
      · rename_i y1 y2 y3 y4 y5 y6 y7 y8 y9
        split
        · dsimp only
          refine Keeps.snd y9 ?_
          split
          · refine drawFree_keeps (Within.trans (by decide) hw) ?_
            exact h
          · dsimp only
            exact h
        · dsimp only
          split
          · refine effTraceRead_keeps (Within.trans (by decide) hw) ?_
            refine Keeps.snd y9 ?_
            split
            · refine drawFree_keeps (Within.trans (by decide) hw) ?_
              exact h
            · dsimp only
              exact h
          · refine Keeps.snd y9 ?_
            split
            · refine drawFree_keeps (Within.trans (by decide) hw) ?_
              exact h
            · dsimp only
              exact h
        · extract_lets +onlyGivenNames x14
          clear_value x14
          dsimp only
          refine Keeps.set_hiCap (Within.trans (by decide) hw) ?_
          refine Keeps.snd y9 ?_
          split
          · refine drawFree_keeps (Within.trans (by decide) hw) ?_
            exact h
          · dsimp only
            exact h
        · extract_lets +onlyGivenNames x16
          clear_value x16
          dsimp only
          refine Keeps.set_hiCap (Within.trans (by decide) hw) ?_
          refine Keeps.snd y9 ?_
          split
          · refine drawFree_keeps (Within.trans (by decide) hw) ?_
            exact h
          · dsimp only
            exact h

theorem State.readAt_keeps {w : Nat} {s0 s : State} {a0 : Nat} {a1 : Nat} {a2 : Nat} {a3 : Nat} (hw : Within 134217841 w) (h : Keeps w s0 s) : Keeps w s0 (State.readAt s a0 a1 a2 a3).2 := by
  unfold State.readAt
  extract_lets +onlyGivenNames x1
  clear_value (e1 : x1 = _)
  refine Keeps.cutSnd (w := w) (s0 := s0) e1 ?_ (fun h1 => ?_) <;> clear e1
  · split
    · rename_i y2 y3 y4 y5
      split
      · rename_i y6 y7 y8 y9
        dsimp only
        refine Keeps.snd y9 ?_
        refine State.read4_keeps (Within.trans (by decide) hw) ?_
        refine Keeps.snd y5 ?_
        refine State.read4_keeps (Within.trans (by decide) hw) ?_
        exact h
  split
  · refine State.read4_keeps (Within.trans (by decide) hw) ?_
    exact h
  · split
    · split
      · dsimp only
        exact h
      · exact h1
    · exact h1

theorem State.barRead_keeps {w : Nat} {s0 s : State} {a0 : Nat} {a1 : Nat} {a2 : Nat} (hw : Within 134217841 w) (h : Keeps w s0 s) : Keeps w s0 (State.barRead s a0 a1 a2).2 := by
  unfold State.barRead
  split
  · dsimp only
    refine State.err_keeps (Within.trans (by decide) hw) ?_
    exact h
  · split
    · dsimp only
      exact h
    · split
      · dsimp only
        exact h
      · refine State.readAt_keeps (Within.trans (by decide) hw) ?_
        exact h

theorem State.writeFields_keeps {w : Nat} {s0 s : State} {a0 : Nat} {a1 : Nat} {a2 : RegSpec} {a3 : Nat} (hw : Within 5 w) (h : Keeps w s0 s) : Keeps w s0 (State.writeFields s a0 a1 a2 a3) := by
  unfold State.writeFields
  extract_lets +onlyGivenNames x1
  clear_value x1
  extract_lets +onlyGivenNames x2
  clear_value x2
  extract_lets +onlyGivenNames x3
  clear_value x3
  extract_lets +onlyGivenNames x4
  clear_value x4
  extract_lets +onlyGivenNames x5
  clear_value x5
  extract_lets +onlyGivenNames x6
  clear_value x6
  extract_lets +onlyGivenNames x7
  clear_value (e7 : x7 = _)
  refine Keeps.cut (w := w) (s0 := s0) e7 ?_ (fun h7 => ?_) <;> clear e7
  · refine State.setReg_keeps (Within.trans (by decide) hw) ?_
    exact h
  extract_lets +onlyGivenNames x9
  clear_value (e9 : x9 = _)
  refine Keeps.cut (w := w) (s0 := s0) e9 ?_ (fun h9 => ?_) <;> clear e9
  · split
    · refine State.countEv_keeps (Within.trans (by decide) hw) ?_
      refine Keeps.set_staged (Within.trans (by decide) hw) ?_
      exact h7
    · exact h7
  extract_lets +onlyGivenNames x11
  clear_value (e11 : x11 = _)
  refine Keeps.cut (w := w) (s0 := s0) e11 ?_ (fun h11 => ?_) <;> clear e11
  · split
    · refine State.err_keeps (Within.trans (by decide) hw) ?_
      exact h9
    · exact h9
  split
  · refine State.err_keeps (Within.trans (by decide) hw) ?_
    exact h11
  · exact h11

theorem State.writeIntake_keeps {w : Nat} {s0 s : State} {a0 : Nat} {a1 : RegSpec} {a2 : Nat} {a3 : Nat} (hw : Within 174129221 w) (h : Keeps w s0 s) : Keeps w s0 (State.writeIntake s a0 a1 a2 a3) := by
  unfold State.writeIntake
  split
  · split
    · refine effEnable_keeps (Within.trans (by decide) hw) ?_
      exact h
    · refine effDisable_keeps (Within.trans (by decide) hw) ?_
      exact h
  · split
    · refine effDoorbell_keeps (Within.trans (by decide) hw) ?_
      exact h
    · split
      · refine State.intakePost_keeps (Within.trans (by decide) hw) ?_
        exact h
      · refine State.writeFields_keeps (Within.trans (by decide) hw) ?_
        exact h

theorem State.writeSq_keeps {w : Nat} {s0 s : State} {a0 : Nat} {a1 : RegSpec} {a2 : Nat} {a3 : Nat} (hw : Within 137438953477 w) (h : Keeps w s0 s) : Keeps w s0 (State.writeSq s a0 a1 a2 a3) := by
  unfold State.writeSq
  split
  · split
    · refine effSqFlush_keeps (Within.trans (by decide) hw) ?_
      exact h
    · exact h
  · refine State.writeFields_keeps (Within.trans (by decide) hw) ?_
    exact h

theorem State.writeSc_keeps {w : Nat} {s0 s : State} {a0 : Nat} {a1 : RegSpec} {a2 : Nat} {a3 : Nat} (hw : Within 268435461 w) (h : Keeps w s0 s) : Keeps w s0 (State.writeSc s a0 a1 a2 a3) := by
  unfold State.writeSc
  split
  · split
    · refine effLockFree_keeps (Within.trans (by decide) hw) ?_
      exact h
    · exact h
  · split
    · exact h
    · refine State.writeFields_keeps (Within.trans (by decide) hw) ?_
      exact h

theorem State.writeDie_keeps {w : Nat} {s0 s : State} {a0 : Nat} {a1 : RegSpec} {a2 : Nat} {a3 : Nat} (hw : Within 36310272841941061 w) (h : Keeps w s0 s) : Keeps w s0 (State.writeDie s a0 a1 a2 a3) := by
  unfold State.writeDie
  split
  · refine effLoadAbort_keeps (Within.trans (by decide) hw) ?_
    exact h
  · refine State.writeFields_keeps (Within.trans (by decide) hw) ?_
    exact h
  · refine State.writeFields_keeps (Within.trans (by decide) hw) ?_
    exact h

theorem State.writeTrace_keeps {w : Nat} {s0 s : State} {a0 : Nat} {a1 : RegSpec} {a2 : Nat} {a3 : Nat} (hw : Within 174145605 w) (h : Keeps w s0 s) : Keeps w s0 (State.writeTrace s a0 a1 a2 a3) := by
  unfold State.writeTrace
  split
  · refine State.setF_keeps (Within.trans (by decide) hw) ?_
    refine State.writeFields_keeps (Within.trans (by decide) hw) ?_
    exact h
  · split
    · refine effDump_keeps (Within.trans (by decide) hw) ?_
      exact h
    · exact h
  · split
    · refine effAnchor_keeps (Within.trans (by decide) hw) ?_
      exact h
    · exact h
  · split
    · refine State.askHold_keeps (Within.trans (by decide) hw) ?_
      exact h
    · split
      · refine State.askHold_keeps (Within.trans (by decide) hw) ?_
        exact h
      · exact h
  · refine State.writeFields_keeps (Within.trans (by decide) hw) ?_
    exact h

theorem State.writeOwner_keeps {w : Nat} {s0 s : State} {a0 : Nat} {a1 : Nat} (hw : Within 5 w) (h : Keeps w s0 s) : Keeps w s0 (State.writeOwner s a0 a1) := by
  unfold State.writeOwner
  split
  · exact h
  · extract_lets +onlyGivenNames x1
    clear_value x1
    split
    · refine State.err_keeps (Within.trans (by decide) hw) ?_
      exact h
    · split
      · refine State.err_keeps (Within.trans (by decide) hw) ?_
        exact h
      · extract_lets +onlyGivenNames x4
        clear_value x4
        refine State.countEv_keeps (Within.trans (by decide) hw) ?_
        extract_lets +onlyGivenNames x6
        clear_value (e6 : x6 = _)
        refine Keeps.cut (w := w) (s0 := s0) e6 ?_ (fun h6 => ?_) <;> clear e6
        · refine State.setReg_keeps (Within.trans (by decide) hw) ?_
          exact h
        refine Keeps.set_staged (Within.trans (by decide) hw) ?_
        exact h6

theorem State.clearCounters_keeps {w : Nat} {s0 s : State} {a0 : Nat} (hw : Within 1 w) (h : Keeps w s0 s) : Keeps w s0 (State.clearCounters s a0) := by
  unfold State.clearCounters
  refine Keeps.foldl (fun st1 e1 h1 => ?_) _ _ ?_
  · refine State.setReg_keeps (Within.trans (by decide) hw) ?_
    exact h1
  · exact h

theorem State.writeHdr_keeps {w : Nat} {s0 s : State} {a0 : Nat} {a1 : Nat} {a2 : RegSpec} {a3 : Nat} (hw : Within 5 w) (h : Keeps w s0 s) : Keeps w s0 (State.writeHdr s a0 a1 a2 a3) := by
  unfold State.writeHdr
  split
  · extract_lets +onlyGivenNames x1
    clear_value (e1 : x1 = _)
    refine Keeps.cut (w := w) (s0 := s0) e1 ?_ (fun h1 => ?_) <;> clear e1
    · refine State.writeFields_keeps (Within.trans (by decide) hw) ?_
      exact h
    split
    · refine State.clearCounters_keeps (Within.trans (by decide) hw) ?_
      exact h1
    · exact h1
  · refine State.writeFields_keeps (Within.trans (by decide) hw) ?_
    exact h
  · split
    · refine State.writeOwner_keeps (Within.trans (by decide) hw) ?_
      exact h
    · exact h
  · refine State.writeFields_keeps (Within.trans (by decide) hw) ?_
    exact h

theorem State.writeKnd_keeps {w : Nat} {s0 s : State} {a0 : Nat} {a1 : Nat} {a2 : RegSpec} {a3 : Nat} {a4 : Nat} (hw : Within 4705909942714437 w) (h : Keeps w s0 s) : Keeps w s0 (State.writeKnd s a0 a1 a2 a3 a4) := by
  unfold State.writeKnd
  split
  · split
    · refine State.writeFields_keeps (Within.trans (by decide) hw) ?_
      exact h
    · exact h
  · split
    · refine effKndPost_keeps (Within.trans (by decide) hw) ?_
      exact h
    · exact h
  · split
    · refine State.abortOn_keeps (Within.trans (by decide) hw) ?_
      exact h
    · exact h
  · split
    · refine Keeps.after ?_ ?_
      · refine execKndQuiesce_keeps (Within.trans (by decide) hw) ?_
        exact h
      · exact h
    · exact h
  · refine State.writeFields_keeps (Within.trans (by decide) hw) ?_
    exact h

theorem State.writeReset_keeps {w : Nat} {s0 s : State} {a0 : Nat} (hw : Within 288230376151711743 w) (h : Keeps w s0 s) : Keeps w s0 (State.writeReset s a0) := by
  unfold State.writeReset
  extract_lets +onlyGivenNames x1
  clear_value x1
  extract_lets +onlyGivenNames x2
  clear_value x2
  split
  · exact h
  · split
    · refine effTileReset_keeps (Within.trans (by decide) hw) ?_
      exact h
    · refine effPolderReset_keeps (Within.trans (by decide) hw) ?_
      exact h
    · refine effDieReset_keeps (Within.trans (by decide) hw) ?_
      exact h
    · refine effDeviceReset_keeps (Within.trans (by decide) hw) ?_
      refine State.drawPpr_keeps (Within.trans (by decide) hw) ?_
      exact h
    · refine effColdReset_keeps (Within.trans (by decide) hw) ?_
      refine State.drawPpr_keeps (Within.trans (by decide) hw) ?_
      exact h
    · refine State.resetReq_keeps (Within.trans (by decide) hw) (fun st10 h10 => ?_) ?_
      · dsimp only [id]
        exact h10
      · exact h

theorem State.writeDev_keeps {w : Nat} {s0 s : State} {a0 : RegSpec} {a1 : Nat} {a2 : Nat} (hw : Within 288230376151711743 w) (h : Keeps w s0 s) : Keeps w s0 (State.writeDev s a0 a1 a2) := by
  unfold State.writeDev
  split
  · refine Keeps.after ?_ ?_
    · refine execDevNodeWrite_keeps (Within.trans (by decide) hw) ?_
      exact h
    · exact h
  · refine Keeps.after ?_ ?_
    · refine execDevTorusWrite_keeps (Within.trans (by decide) hw) ?_
      exact h
    · exact h
  · refine Keeps.after ?_ ?_
    · refine execFrameLoad_keeps (Within.trans (by decide) hw) ?_
      exact h
    · exact h
  · refine Keeps.after ?_ ?_
    · refine execRouteTableWrite_keeps (Within.trans (by decide) hw) ?_
      exact h
    · exact h
  · refine State.writeReset_keeps (Within.trans (by decide) hw) ?_
    exact h
  · split
    · exact h
    · split
      · refine Keeps.after ?_ ?_
        · refine execUnitFence_keeps (Within.trans (by decide) hw) ?_
          exact h
        · exact h
      · refine Keeps.after ?_ ?_
        · refine execUnitUnfence_keeps (Within.trans (by decide) hw) ?_
          exact h
        · exact h
      · refine Keeps.after ?_ ?_
        · refine execUnitRepair_keeps (Within.trans (by decide) hw) ?_
          exact h
        · exact h
      · exact h
  · refine State.writeFields_keeps (Within.trans (by decide) hw) ?_
    exact h

theorem State.writeLnk_keeps {w : Nat} {s0 s : State} {a0 : Nat} {a1 : RegSpec} {a2 : Nat} {a3 : Nat} (hw : Within 4705909942059077 w) (h : Keeps w s0 s) : Keeps w s0 (State.writeLnk s a0 a1 a2 a3) := by
  unfold State.writeLnk
  split
  · extract_lets +onlyGivenNames x1
    clear_value (e1 : x1 = _)
    refine Keeps.cut (w := w) (s0 := s0) e1 ?_ (fun h1 => ?_) <;> clear e1
    · refine effLnkEnable_keeps (Within.trans (by decide) hw) ?_
      refine State.writeFields_keeps (Within.trans (by decide) hw) ?_
      exact h
    split
    · refine State.startRetrain_keeps (Within.trans (by decide) hw) ?_
      exact h1
    · exact h1
  · refine State.writeFields_keeps (Within.trans (by decide) hw) ?_
    exact h

theorem State.writeD2d_keeps {w : Nat} {s0 s : State} {a0 : Nat} {a1 : RegSpec} {a2 : Nat} {a3 : Nat} (hw : Within 4537134907195461 w) (h : Keeps w s0 s) : Keeps w s0 (State.writeD2d s a0 a1 a2 a3) := by
  unfold State.writeD2d
  split
  · extract_lets +onlyGivenNames x1
    clear_value (e1 : x1 = _)
    refine Keeps.cut (w := w) (s0 := s0) e1 ?_ (fun h1 => ?_) <;> clear e1
    · split
      · refine State.retrainLink_keeps (Within.trans (by decide) hw) ?_
        exact h
      · exact h
    split
    · refine State.failLink_keeps (Within.trans (by decide) hw) ?_
      exact h1
    · exact h1
  · refine State.writeFields_keeps (Within.trans (by decide) hw) ?_
    exact h

theorem State.writePwr_keeps {w : Nat} {s0 s : State} {a0 : RegSpec} {a1 : Nat} {a2 : Nat} (hw : Within 9007199428870213 w) (h : Keeps w s0 s) : Keeps w s0 (State.writePwr s a0 a1 a2) := by
  unfold State.writePwr
  split
  · refine Keeps.after ?_ ?_
    · refine execPwrCapWrite_keeps (Within.trans (by decide) hw) ?_
      exact h
    · exact h
  · refine Keeps.after ?_ ?_
    · refine execPwrShiftWrite_keeps (Within.trans (by decide) hw) ?_
      exact h
    · exact h
  · refine State.hostLevel_keeps (Within.trans (by decide) hw) ?_
    refine State.writeFields_keeps (Within.trans (by decide) hw) ?_
    exact h
  · refine State.writeFields_keeps (Within.trans (by decide) hw) ?_
    exact h

theorem State.writePld_keeps {w : Nat} {s0 s : State} {a0 : RegSpec} {a1 : Nat} {a2 : Nat} (hw : Within 5 w) (h : Keeps w s0 s) : Keeps w s0 (State.writePld s a0 a1 a2) := by
  unfold State.writePld
  split
  · extract_lets +onlyGivenNames x1
    clear_value (e1 : x1 = _)
    refine Keeps.cut (w := w) (s0 := s0) e1 ?_ (fun h1 => ?_) <;> clear e1
    · split
      · refine State.writeFields_keeps (Within.trans (by decide) hw) ?_
        exact h
      · exact h
    split
    · refine State.setF_keeps (Within.trans (by decide) hw) ?_
      exact h1
    · exact h1
  · refine State.writeFields_keeps (Within.trans (by decide) hw) ?_
    exact h

theorem State.writeDbg_keeps {w : Nat} {s0 s : State} {a0 : Nat} {a1 : RegSpec} {a2 : Nat} (hw : Within 1048581 w) (h : Keeps w s0 s) : Keeps w s0 (State.writeDbg s a0 a1 a2) := by
  unfold State.writeDbg
  split
  · refine State.err_keeps (Within.trans (by decide) hw) ?_
    exact h
  · extract_lets +onlyGivenNames x2
    clear_value (e2 : x2 = _)
    refine Keeps.cut (w := w) (s0 := s0) e2 ?_ (fun h2 => ?_) <;> clear e2
    · split
      · refine State.stepTile_keeps (Within.trans (by decide) hw) ?_
        exact h
      · exact h
    refine State.writeFields_keeps (Within.trans (by decide) hw) ?_
    exact h2

theorem State.writeTile_keeps {w : Nat} {s0 s : State} {a0 : Nat} {a1 : RegSpec} {a2 : Nat} {a3 : Nat} (hw : Within 808452165 w) (h : Keeps w s0 s) : Keeps w s0 (State.writeTile s a0 a1 a2 a3) := by
  unfold State.writeTile
  extract_lets +onlyGivenNames x1
  clear_value x1
  extract_lets +onlyGivenNames x2
  clear_value x2
  split
  · split
    · refine State.err_keeps (Within.trans (by decide) hw) ?_
      exact h
    · split
      · refine State.onT_keeps (Within.trans (by decide) hw) ?_
        exact h
      · split
        · refine State.onT_keeps (Within.trans (by decide) hw) ?_
          exact h
        · refine State.onT_keeps (Within.trans (by decide) hw) ?_
          exact h
  · split
    · extract_lets +onlyGivenNames x7
      clear_value (e7 : x7 = _)
      refine Keeps.cut (w := w) (s0 := s0) e7 ?_ (fun h7 => ?_) <;> clear e7
      · split
        · refine effStart_keeps (Within.trans (by decide) hw) ?_
          exact h
        · exact h
      split
      · refine effStop_keeps (Within.trans (by decide) hw) ?_
        exact h7
      · exact h7
    · split
      · refine State.startClear_keeps (Within.trans (by decide) hw) ?_
        exact h
      · exact h
    · refine State.writeDbg_keeps (Within.trans (by decide) hw) ?_
      exact h
    · split
      · refine State.setF_keeps (Within.trans (by decide) hw) ?_
        refine State.writeFields_keeps (Within.trans (by decide) hw) ?_
        exact h
      · exact h
    · split
      · exact h
      · refine State.writeFields_keeps (Within.trans (by decide) hw) ?_
        exact h

theorem State.writeArm_keeps {w : Nat} {s0 s : State} {a0 : RegSpec} {a1 : Nat} {a2 : Nat} (hw : Within 14341 w) (h : Keeps w s0 s) : Keeps w s0 (State.writeArm s a0 a1 a2) := by
  unfold State.writeArm
  split
  · split
    · refine Keeps.after ?_ ?_
      · refine execArmCtrlMulti_keeps (Within.trans (by decide) hw) ?_
        exact h
      · exact h
    · split
      · refine effArmBeat_keeps (Within.trans (by decide) hw) ?_
        exact h
      · split
        · refine effArmFrame_keeps (Within.trans (by decide) hw) ?_
          exact h
        · split
          · refine effDisarm_keeps (Within.trans (by decide) hw) ?_
            exact h
          · split
            · refine effArmDiscard_keeps (Within.trans (by decide) hw) ?_
              exact h
            · exact h
  · refine Keeps.after ?_ ?_
    · refine execRejoin_keeps (Within.trans (by decide) hw) ?_
      exact h
    · exact h
  · refine State.setReg_keeps (Within.trans (by decide) hw) ?_
    exact h
  · refine State.writeFields_keeps (Within.trans (by decide) hw) ?_
    exact h

theorem State.writeMbox_keeps {w : Nat} {s0 s : State} {a0 : RegSpec} {a1 : Nat} {a2 : Nat} (hw : Within 5 w) (h : Keeps w s0 s) : Keeps w s0 (State.writeMbox s a0 a1 a2) := by
  unfold State.writeMbox
  split
  · extract_lets +onlyGivenNames x1
    clear_value (e1 : x1 = _)
    refine Keeps.cut (w := w) (s0 := s0) e1 ?_ (fun h1 => ?_) <;> clear e1
    · split
      · refine effMboxSend_keeps (Within.trans (by decide) hw) ?_
        exact h
      · exact h
    split
    · refine State.setMbox_keeps (Within.trans (by decide) hw) ?_
      exact h1
    · exact h1
  · refine State.writeFields_keeps (Within.trans (by decide) hw) ?_
    exact h

theorem State.writeReg_keeps {w : Nat} {s0 s : State} {a0 : Nat} {a1 : Nat} {a2 : RegSpec} {a3 : Nat} (hw : Within 288230376151711743 w) (h : Keeps w s0 s) : Keeps w s0 (State.writeReg s a0 a1 a2 a3) := by
  unfold State.writeReg
  split
  · exact h
  · extract_lets +onlyGivenNames x1
    clear_value x1
    split
    · refine State.writeHdr_keeps (Within.trans (by decide) hw) ?_
      exact h
    · split
      · refine State.writeDev_keeps (Within.trans (by decide) hw) ?_
        exact h
      · refine State.writePwr_keeps (Within.trans (by decide) hw) ?_
        exact h
      · refine State.writeFields_keeps (Within.trans (by decide) hw) ?_
        exact h
      · split
        · refine Keeps.after ?_ ?_
          · refine execGaugeLogPass_keeps (Within.trans (by decide) hw) ?_
            exact h
          · exact h
        · split
          · exact h
          · refine State.writeFields_keeps (Within.trans (by decide) hw) ?_
            exact h
      · refine State.writePld_keeps (Within.trans (by decide) hw) ?_
        exact h
      · refine State.writeArm_keeps (Within.trans (by decide) hw) ?_
        exact h
      · refine State.writeIntake_keeps (Within.trans (by decide) hw) ?_
        exact h
      · refine State.writeMbox_keeps (Within.trans (by decide) hw) ?_
        exact h
      · refine State.writeDie_keeps (Within.trans (by decide) hw) ?_
        exact h
      · refine State.writeD2d_keeps (Within.trans (by decide) hw) ?_
        exact h
      · refine State.writeKnd_keeps (Within.trans (by decide) hw) ?_
        exact h
      · refine State.writeLnk_keeps (Within.trans (by decide) hw) ?_
        exact h
      · refine State.writeFields_keeps (Within.trans (by decide) hw) ?_
        exact h
      · refine State.writeSc_keeps (Within.trans (by decide) hw) ?_
        exact h
      · refine State.writeSq_keeps (Within.trans (by decide) hw) ?_
        exact h
      · refine State.writeTrace_keeps (Within.trans (by decide) hw) ?_
        exact h
      · refine State.writeTile_keeps (Within.trans (by decide) hw) ?_
        exact h

theorem State.write4_keeps {w : Nat} {s0 s : State} {a0 : Nat} {a1 : Nat} {a2 : Nat} {a3 : Nat} (hw : Within 288230376151711743 w) (h : Keeps w s0 s) : Keeps w s0 (State.write4 s a0 a1 a2 a3) := by
  unfold State.write4
  split
  · exact h
  · split
    · split
      · refine Keeps.set_module (Within.trans (by decide) hw) ?_
        exact h
      · exact h
    · split
      · exact h
      · refine State.writeReg_keeps (Within.trans (by decide) hw) ?_
        exact h
      · refine Keeps.set_lowHeld (Within.trans (by decide) hw) ?_
        exact h
      · extract_lets +onlyGivenNames x2
        clear_value x2
        extract_lets +onlyGivenNames x3
        clear_value x3
        refine State.writeReg_keeps (Within.trans (by decide) hw) ?_
        refine Keeps.set_lowHeld (Within.trans (by decide) hw) ?_
        exact h

theorem State.writeAt_keeps {w : Nat} {s0 s : State} {a0 : Nat} {a1 : Nat} {a2 : Nat} {a3 : Nat} {a4 : Nat} (hw : Within 288230376151711743 w) (h : Keeps w s0 s) : Keeps w s0 (State.writeAt s a0 a1 a2 a3 a4) := by
  unfold State.writeAt
  split
  · refine State.write4_keeps (Within.trans (by decide) hw) ?_
    exact h
  · split
    · split
      · refine State.writeReg_keeps (Within.trans (by decide) hw) ?_
        refine Keeps.set_lowHeld (Within.trans (by decide) hw) ?_
        exact h
      · refine State.write4_keeps (Within.trans (by decide) hw) ?_
        refine State.write4_keeps (Within.trans (by decide) hw) ?_
        exact h
    · refine State.write4_keeps (Within.trans (by decide) hw) ?_
      refine State.write4_keeps (Within.trans (by decide) hw) ?_
      exact h

theorem State.barWrite_keeps {w : Nat} {s0 s : State} {a0 : Nat} {a1 : Nat} {a2 : Nat} {a3 : Nat} (hw : Within 288230376151711743 w) (h : Keeps w s0 s) : Keeps w s0 (State.barWrite s a0 a1 a2 a3) := by
  unfold State.barWrite
  split
  · refine State.err_keeps (Within.trans (by decide) hw) ?_
    exact h
  · split
    · exact h
    · split
      · exact h
      · refine State.writeAt_keeps (Within.trans (by decide) hw) ?_
        exact h

theorem State.watchSlot_keeps {w : Nat} {s0 s : State} {a0 : Nat} {a1 : Nat} (hw : Within 134217793 w) (h : Keeps w s0 s) : Keeps w s0 (State.watchSlot s a0 a1) := by
  unfold State.watchSlot
  extract_lets +onlyGivenNames x1
  clear_value x1
  extract_lets +onlyGivenNames x2
  clear_value x2
  extract_lets +onlyGivenNames x3
  clear_value x3
  split
  · refine State.traceRec_keeps (Within.trans (by decide) hw) ?_
    exact h
  · exact h

theorem effBarRead_keeps {w : Nat} {s0 s : State} {a0 : Nat} {a1 : Nat} {a2 : Nat} (hw : Within 134217841 w) (h : Keeps w s0 s) : Keeps w s0 (effBarRead a0 a1 a2 s) := by
  unfold effBarRead
  split
  · extract_lets +onlyGivenNames x1
    clear_value (e1 : x1 = _)
    refine Keeps.cut (w := w) (s0 := s0) e1 ?_ (fun h1 => ?_) <;> clear e1
    · refine State.barRead_keeps (Within.trans (by decide) hw) ?_
      exact h
    refine Keeps.set_readData (Within.trans (by decide) hw) ?_
    exact h1
  · exact h

theorem effJtagAccess_keeps {w : Nat} {s0 s : State} {a0 : Bool} {a1 : Nat} {a2 : Nat} {a3 : Nat} (hw : Within 288230376151711743 w) (h : Keeps w s0 s) : Keeps w s0 (effJtagAccess a0 a1 a2 a3 s) := by
  unfold effJtagAccess
  split
  · refine State.jtag_keeps (Within.trans (by decide) hw) ?_
    exact h
  · split
    · refine State.barWrite_keeps (Within.trans (by decide) hw) ?_
      exact h
    · refine State.jtag_keeps (Within.trans (by decide) hw) ?_
      refine State.barRead_keeps (Within.trans (by decide) hw) ?_
      exact h

theorem effRegisterWrite_keeps {w : Nat} {s0 s : State} {a0 : Nat} {a1 : Nat} {a2 : Nat} {a3 : Nat} (hw : Within 288230376151711743 w) (h : Keeps w s0 s) : Keeps w s0 (effRegisterWrite a0 a1 a2 a3 s) := by
  unfold effRegisterWrite
  split
  · refine State.barWrite_keeps (Within.trans (by decide) hw) ?_
    exact h
  · exact h

theorem effWatch_keeps {w : Nat} {s0 s : State} {a0 : Nat} (hw : Within 134217793 w) (h : Keeps w s0 s) : Keeps w s0 (effWatch a0 s) := by
  unfold effWatch
  refine Keeps.foldl (fun st1 e1 h1 => ?_) _ _ ?_
  · refine State.watchSlot_keeps (Within.trans (by decide) hw) ?_
    exact h1
  · exact h

theorem execBarRead_keeps {w : Nat} {s0 s : State} {a0 : Nat} {a1 : Nat} {a2 : Nat} (hw : Within 134217841 w) (h : Keeps w s0 s) : KeepsO w s0 (execBarRead a0 a1 a2 s) := by
  unfold execBarRead
  refine KeepsO.onPol ?_
  refine effBarRead_keeps (Within.trans (by decide) hw) ?_
  exact h

theorem execCounterClear_keeps {w : Nat} {s0 s : State} {a0 : Nat} (hw : Within 1 w) (h : Keeps w s0 s) : KeepsO w s0 (execCounterClear a0 s) := by
  unfold execCounterClear
  refine KeepsO.onPage ?_
  refine State.clearCounters_keeps (Within.trans (by decide) hw) ?_
  exact h

theorem execJtagRegisterAccess_keeps {w : Nat} {s0 s : State} {a0 : Bool} {a1 : Nat} {a2 : Nat} {a3 : Nat} (hw : Within 288230376151711743 w) (h : Keeps w s0 s) : KeepsO w s0 (execJtagRegisterAccess a0 a1 a2 a3 s) := by
  unfold execJtagRegisterAccess
  refine KeepsO.next ?_
  refine effJtagAccess_keeps (Within.trans (by decide) hw) ?_
  exact h

theorem execRegisterWrite_keeps {w : Nat} {s0 s : State} {a0 : Nat} {a1 : Nat} {a2 : Nat} {a3 : Nat} (hw : Within 288230376151711743 w) (h : Keeps w s0 s) : KeepsO w s0 (execRegisterWrite a0 a1 a2 a3 s) := by
  unfold execRegisterWrite
  refine KeepsO.onPol ?_
  refine effRegisterWrite_keeps (Within.trans (by decide) hw) ?_
  exact h

theorem execWatchSample_keeps {w : Nat} {s0 s : State} {a0 : Nat} (hw : Within 134217793 w) (h : Keeps w s0 s) : KeepsO w s0 (execWatchSample a0 s) := by
  unfold execWatchSample
  refine KeepsO.onDie ?_
  refine effWatch_keeps (Within.trans (by decide) hw) ?_
  exact h

end Sys2Proof.Machine
end

