-- ==== Sys2Proof/Laws/Stops.lean ====
section
/-!
SUPPORT. Faults and stops: what a task fault leaves of the tile that faults.
-/
namespace Sys2Proof.Machine

/-- Operations that keep the tiles, from the mask of what they change. -/
theorem Keeps.tile_eq {w : Nat} {s u : State} (h : Keeps w s u) (hw : w.testBit 20 = false) (k : Nat) : u.tile k = s.tile k := by
  have e : u.tiles = s.tiles := h.1 .tiles hw
  unfold State.tile; rw [e]

theorem fault_tile (s : State) (f : FaultInfo) (k : Nat) : (s.fault f).tile k = s.tile k :=
  (State.fault_keeps (w := 174129217) (Nat.and_self _) (Keeps.refl _ _)).tile_eq (by decide) k

theorem abortPolder_tile (s : State) (p c k : Nat) : (s.abortPolder p c).tile k = s.tile k :=
  (State.abortPolder_keeps (w := 4521191987544129) (Nat.and_self _) (Keeps.refl _ _)).tile_eq (by decide) k

theorem scrUndefine_tile (s : State) (t lo hi k : Nat) : (s.scrUndefine t lo hi).tile k = s.tile k :=
  (State.scrUndefine_keeps (w := 655424) (Nat.and_self _) (Keeps.refl _ _)).tile_eq (by decide) k

theorem colPending_tile (s : State) (t k : Nat) (b : Bool) : (s.colPending t b).tile k = s.tile k :=
  (State.colPending_keeps (w := 174129217) (Nat.and_self _) (Keeps.refl _ _)).tile_eq (by decide) k

/-- Cutting what a spill-queue port has still to send changes nothing else of a tile. -/
theorem cutSq_tile (s : State) (t k : Nat) (g : Nat → Bool) : ∃ q, (s.cutSq t g).tile k = { s.tile k with sqOut := q } := by
  unfold State.cutSq
  simp only
  split
  · exact ⟨_, rfl⟩
  · by_cases e : k = t
    · subst e
      exact ⟨_, onT_tile _ _ _⟩
    · exact ⟨(s.tile k).sqOut, onT_tile_other _ _ _ _ e⟩

/-- What every stop of a polder keeps of a tile that has FAULTED. -/
def Tile.isFaulted (x : Tile) : Prop := x.task = .faulted ∧ x.tokM = 0 ∧ x.tokV = 0

theorem Tile.polStop_faulted (x : Tile) (h : x.isFaulted) : x.polStop.isFaulted := by
  unfold Tile.polStop
  simp only
  rw [if_neg (by rw [h.1]; decide)]
  exact h

theorem stopTiles_faulted (s : State) (p t : Nat) (h : (s.tile t).isFaulted) : ((s.stopTiles p).tile t).isFaulted := by
  unfold State.stopTiles
  generalize s.tilesOf p = l
  induction l generalizing s with
  | nil => exact h
  | cons a l ih =>
    rw [List.foldl_cons]
    apply ih
    split
    · exact h
    · rename_i hn
      obtain ⟨q, e⟩ := cutSq_tile s a t (fun o => (((mapGet (s.tile a).dq 7 []).filter (fun i => !i.finished)).map (·.ord)).contains o)
      have hq : ((s.cutSq a (fun o => (((mapGet (s.tile a).dq 7 []).filter (fun i => !i.finished)).map (·.ord)).contains o)).tile t).isFaulted := by
        rw [e]; exact h
      by_cases ha : t = a
      · subst ha
        rw [onT_tile]
        exact Tile.polStop_faulted _ hq
      · rw [onT_tile_other _ _ _ _ ha]
        exact hq

theorem polderStop_faulted (s : State) (p cause t : Nat) (b : Bool) (h : (s.tile t).isFaulted) : ((s.polderStop p cause b).tile t).isFaulted := by
  unfold State.polderStop
  simp only
  split
  · exact h
  · rw [fault_tile]
    split
    · rw [abortPolder_tile]; exact stopTiles_faulted _ _ _ h
    · exact stopTiles_faulted _ _ _ h

theorem foldl_undefine_tile (l : List (Nat × Nat)) (s : State) (t k : Nat) : (l.foldl (fun st r => st.scrUndefine t r.1 r.2) s).tile k = s.tile k := by
  induction l generalizing s with
  | nil => rfl
  | cons a l ih => rw [List.foldl_cons, ih, scrUndefine_tile]

theorem haltTask_faulted (s : State) (t ord : Nat) (f : FaultInfo) : ((s.haltTask t ord f).tile t).isFaulted := by
  unfold State.haltTask
  simp only
  have h : ∀ (v : State), (((v.onT t (fun y => y.faulted ord)).fault f).tile t).isFaulted := by
    intro v
    rw [fault_tile, onT_tile]
    exact ⟨rfl, rfl, rfl⟩
  split
  · exact polderStop_faulted _ _ _ _ _ (h _)
  · exact h _

/-- A fault of a RUNNING task leaves it FAULTED, with both tokens returned (R77, R114). -/
theorem taskFault_faulted (s : State) (t ord code : Nat) (c : CmdAt) (h : (s.tile t).task = .running) : ((s.taskFault t ord code c).tile t).isFaulted := by
  unfold State.taskFault
  simp only
  rw [if_neg (by simp [h])]
  split
  · rw [colPending_tile]; exact haltTask_faulted _ _ _ _
  · exact haltTask_faulted _ _ _ _

end Sys2Proof.Machine
end

