-- ==== Sys2Proof/Tests/Slice0.lean ====
section
/-!
SUPPORT. The author's own tests: ill-formed terms that WellFormed refuses, and, for the statements, concrete states that meet their hypotheses,
with what the command then does.
-/
namespace Sys2Proof.Tests
open Sys2Proof Sys2Proof.Machine
set_option Elab.async false

/-! Helpers. -/

/-- The command answers a next state that passes `f`. -/
def ok (o : Out) (f : State → Bool) : Bool := match o with | .next u => f u | _ => false

theorem ok_next {o : Out} {f : State → Bool} (h : ok o f = true) : ∃ u, o = .next u ∧ f u = true := by
  unfold ok at h; split at h
  · exact ⟨_, rfl, h⟩
  · cases h

/-- The command leaves the state as it is. -/
def stays (o : Out) (s : State) : Bool := ok o (fun u => decide (u = s))

/-- A command word from its words H, A0, A1, A2, D0. -/
def word (h a0 a1 a2 d0 : Nat) : CmdWord := BitVec.ofNat 256 (h + a0 * 2 ^ 32 + a1 * 2 ^ 64 + a2 * 2 ^ 96 + d0 * 2 ^ 128)

/-- Polder 0 with column 0 of die 0, field 0, port 0, kneader slot 0 and queue 0, at READY. -/
def base : State :=
  let b (s : State) (tb i : Nat) : State := s.setAct pgPld 0x104 (tb * 4096 + i) 64
  (b (b (b (b (b State.reset 0 0) 1 0) 2 0) 3 0) 4 0).setF pgDev 0x100 0 2 0 4

/-- `base` with tile 0 running `ws` and commands behind them. -/
def running (ws : List CmdWord) : State :=
  base.setTile 0 {
    task := .running, cmdrLen := 16, queue := (List.range ws.length).zip ws,
    segs := [{ base := 0, bound := 0x10000, rd := true, wr := true, atom := true }], sregs := [(1, 5), (2, 7)] }

/-- Steps 1 to 4 of R88 make the head command ready, with another command behind it and no loop open, and `f` holds there. -/
def readyB (s : State) (t cls op : Nat) (f : State → Head → Bool) : Bool :=
  match s.headFor t cls op with
  | .ok (s1, h) => decide (t < 4864) && decide (h.idx + 1 < (s1.tile t).cmdrLen) && (s1.tile t).loops.isEmpty && f s1 h
  | .error _ => false

theorem ready_of {s : State} {t cls op : Nat} {f : State → Head → Bool} (h : readyB s t cls op f = true) :
    ∃ s1 w, s.ready s1 t cls op w ∧ f s1 w = true := by
  unfold readyB at h
  split at h
  · rename_i s1 w e
    simp only [Bool.and_eq_true, decide_eq_true_eq, List.isEmpty_iff] at h
    refine ⟨s1, w, ⟨h.1.1.1, e, h.1.1.2, ?_⟩, h.2⟩
    intro l hl; rw [h.1.2] at hl; cases hl
  · cases h

theorem noHead {x : Tile} {P : LoopCtx → Prop} (h : x.loops = []) : ∀ l, x.loops.head? = some l → P l := by
  intro l hl; rw [h] at hl; cases hl

/-! Ill-formed terms: one for each kind of unit that WellFormed checks. -/

theorem test_wf_refuses : Instr.wf (.alu 4864) = false ∧ Instr.wf (.rampEnd 64 0) = false ∧ Instr.wf (.sliceLoad 0 4 0 0 0 0) = false ∧
    Instr.wf (.lockFree 64) = false ∧ Instr.wf (.scrubZeroBlock 12) = false ∧ Instr.wf (.sqFlush 256) = false ∧ Instr.wf (.d2dFail 8) = false ∧
    Instr.wf (.lnkRetrain 32) = false ∧ Instr.wf (.unitFence 6) = false ∧ Instr.wf (.sensorFail 2 4) = false ∧ Instr.wf (.vrWarn 7) = false ∧
    Instr.wf (.flrVf 0) = false ∧ Instr.wf (.kndPost 0 4) = false := by decide

theorem test_ill_formed_faults : exec (.alu 4864) base = .fault .noSuchUnit ∧ exec (.lnkRetrain 32) base = .fault .noSuchUnit := ⟨rfl, rfl⟩

/-! The block as a whole. -/

theorem wit_StepRunsFrontCommand : State.reset.pending = [] ∧ step State.reset = .next State.reset := ⟨rfl, rfl⟩

theorem wit_EveryStepKeepsMemoriesSound : State.reset.Sound ∧ step State.reset = .next State.reset := ⟨⟨rfl, rfl⟩, rfl⟩

theorem wit_CommandsAnswer : Instr.wf (.taskStop 4863) = true ∧ Instr.wf (.taskStop 4864) = false := by decide

theorem wit_CommandsTouch : stays (exec (.taskStop 4863) State.reset) State.reset = true := by decide +kernel

/-- A memory with bytes at 5 and 7. -/
def mem0 : List Host.Cell := [(5, 1), (7, 2)]

theorem wit_MemoryReads : Memory.wf mem0 = true ∧ memWrite mem0 6 [0, 0, 9] = [(5, 1), (8, 9)] ∧ memZero mem0 5 2 = [(7, 2)] ∧
    memRead mem0 5 3 = [1, 0, 2] := by decide

/-! Issue. -/

/-- ADD s3, s1, s2 (H: class 8, op 0; A0: fn 0, sd 3, sa 1, sb 2). -/
def wAlu : CmdWord := word 0x8 (3 * 2 ^ 6 + 1 * 2 ^ 11 + 2 * 2 ^ 16) 0 0 0
/-- HALT. -/
def wHalt : CmdWord := word 0xE 0 0 0 0

theorem wit_HeadCommandGetsReady :
    let s := running [wAlu]
    let x := s.tile 0
    (x.task = .running ∧ x.stopReq = false ∧ x.haltIssued = false ∧ x.fbarAt = none ∧ s.part (pgTile 0) = 0 ∧ x.cmdIndex < x.cmdrLen ∧
      x.queue.find? (fun e => e.1 == x.cmdIndex) = some (x.cmdIndex, wAlu) ∧ (∀ b, b < 2 → s.getF (pgTile 0) (0xE08 + 4 * b) 0 0 0 ≠ 1) ∧
      s.getF (pgTile 0) 0xE00 0 0 0 ≠ 1 ∧ decodeCode wAlu.toNat x.cmdIndex x.cmdrLen (x.loops.map (·.last)) (s.hasStream 0) = 0 ∧
      x.p (cPred wAlu.toNat) ≠ (cPneg wAlu.toNat == 1) ∧ x.pendS = [] ∧ x.issueCode wAlu.toNat (x.count wAlu.toNat) = 0 ∧
      x.ranges wAlu.toNat x.cmdIndex = some []) ∧
    (∀ l, x.loops.head? = some l → l.owed = false) :=
  ⟨by decide +kernel, noHead rfl⟩

/-- A word of class 8 with operation 7, which Table 4-2 does not list. -/
def wBadOp : CmdWord := word 0x78 0 0 0 0
/-- `wAlu` under !p0, which never passes. -/
def wNever : CmdWord := word 0x808 (3 * 2 ^ 6 + 1 * 2 ^ 11 + 2 * 2 ^ 16) 0 0 0
/-- The state with tile 0's breakpoints looked at. -/
def seen (s : State) : State := s.onT 0 (fun x => { x with brkSeen := true })

theorem wit_HeadCommandIsHeldSkippedOrFaults_faults :
    let s := seen (running [wBadOp])
    let x := s.tile 0
    x.task = .running ∧ x.stopReq = false ∧ x.haltIssued = false ∧ x.fbarAt = none ∧ s.part (pgTile 0) = 0 ∧ x.brkSeen = true ∧
      s.getF (pgTile 0) 0xE00 0 0 0 ≠ 1 ∧ x.queue.find? (fun e => e.1 == x.cmdIndex) = some (x.cmdIndex, wBadOp) ∧
      cClass wBadOp.toNat = 8 ∧ cOp wBadOp.toNat = 7 ∧ x.cmdIndex < x.cmdrLen ∧
      decodeCode wBadOp.toNat x.cmdIndex x.cmdrLen (x.loops.map (·.last)) (s.hasStream 0) = 0x2021 ∧
      ok (exec (.alu 0) s) (fun u => (u.tile 0).task == .faulted && u.getF (pgTile 0) 0x18 0 31 16 == 0x2021) = true := by decide +kernel

theorem wit_HeadCommandIsHeldSkippedOrFaults_skips :
    let s := seen (running [wNever])
    let x := s.tile 0
    (x.task = .running ∧ x.stopReq = false ∧ x.haltIssued = false ∧ x.fbarAt = none ∧ s.part (pgTile 0) = 0 ∧ x.brkSeen = true ∧
      s.getF (pgTile 0) 0xE00 0 0 0 ≠ 1 ∧ x.queue.find? (fun e => e.1 == x.cmdIndex) = some (x.cmdIndex, wNever) ∧
      cClass wNever.toNat = 8 ∧ cOp wNever.toNat = 0 ∧ x.cmdIndex + 1 < x.cmdrLen ∧
      decodeCode wNever.toNat x.cmdIndex x.cmdrLen (x.loops.map (·.last)) (s.hasStream 0) = 0 ∧ x.p (cPred wNever.toNat) = (cPneg wNever.toNat == 1) ∧
      ok (exec (.alu 0) s) (fun u => (u.tile 0).cmdIndex == 1 && (u.tile 0).sregs == x.sregs) = true) ∧ x.noLoopEnd x.cmdIndex :=
  ⟨by decide +kernel, noHead rfl⟩

theorem wit_HeadCommandIsHeldSkippedOrFaults_held : (base.tile 0).task ≠ .running ∧ stays (exec (.alu 0) base) base = true := by decide +kernel

theorem wit_ScalarCommands_alu : (∃ s1 w, (running [wAlu]).ready s1 0 8 0 w ∧ decide (cf w.c 1 10 6 = 3) = true) ∧
    ok (exec (.alu 0) (running [wAlu])) (fun u => (u.tile 0).s 3 == 12 && (u.tile 0).cmdIndex == 1) = true :=
  ⟨ready_of (by decide +kernel), by decide +kernel⟩

/-- LDI s31, 0x1_0000_0002. -/
def wLdi : CmdWord := word 0x38 (31 * 2 ^ 6) 2 1 0

theorem wit_ScalarCommands_ldi : (∃ s1 w, (running [wLdi]).ready s1 0 8 3 w ∧ decide (cf w.c 1 10 6 = 31) = true) ∧
    ok (exec (.ldi 0) (running [wLdi])) (fun u => (u.tile 0).s 31 == 0x1_0000_0002) = true := ⟨ready_of (by decide +kernel), by decide +kernel⟩

/-- LDI s0, 1: s0 discards it. -/
def wLdi0 : CmdWord := word 0x38 0 1 0 0

theorem wit_ScalarCommands_ldi0 : (∃ s1 w, (running [wLdi0]).ready s1 0 8 3 w ∧ decide (cf w.c 1 10 6 = 0) = true) ∧
    ok (exec (.ldi 0) (running [wLdi0])) (fun u => (u.tile 0).s 0 == 0 && (u.tile 0).cmdIndex == 1) = true := ⟨ready_of (by decide +kernel), by decide +kernel⟩

/-- CMP LT p7, s1, s2. -/
def wCmp : CmdWord := word 0x18 (2 + 7 * 2 ^ 8 + 1 * 2 ^ 11 + 2 * 2 ^ 16) 0 0 0

theorem wit_ScalarCommands_cmp : (∃ s1 w, (running [wCmp]).ready s1 0 8 1 w ∧ decide (cf w.c 1 10 8 = 7) = true) ∧
    ok (exec (.cmp 0) (running [wCmp])) (fun u => (u.tile 0).p 7) = true := ⟨ready_of (by decide +kernel), by decide +kernel⟩

/-- PBOOL ANDNOT p1, p0, p2. -/
def wPbool : CmdWord := word 0x28 (3 + 1 * 2 ^ 8 + 0 * 2 ^ 11 + 2 * 2 ^ 14) 0 0 0

theorem wit_ScalarCommands_pbool : (∃ s1 w, (running [wPbool]).ready s1 0 8 2 w ∧ decide (cf w.c 1 10 8 = 1) = true) ∧
    ok (exec (.pbool 0) (running [wPbool])) (fun u => (u.tile 0).p 1) = true := ⟨ready_of (by decide +kernel), by decide +kernel⟩

/-- AMXR s4 from slot 3 of unit 1. -/
def wAmxr : CmdWord := word 0x68 (4 * 2 ^ 6 + 1 * 2 ^ 22 + 3 * 2 ^ 24) 0 0 0

theorem wit_ScalarCommands_amxr : (∃ s1 w, (running [wAmxr]).ready s1 0 8 6 w ∧ decide (cf w.c 1 25 24 = 3) = true) ∧
    ok (exec (.amxr 0) ((running [wAmxr]).setReg (pgTile 0) (unitBase 1 + 12) 0 0x3F80_0000)) (fun u => (u.tile 0).s 4 == 0x3F80_0000) = true :=
  ⟨ready_of (by decide +kernel), by decide +kernel⟩

theorem test_alu_table416 : aluFn 0 (2 ^ 64 - 1) 1 = 0 ∧ aluFn 1 0 1 = 2 ^ 64 - 1 ∧ aluFn 5 (2 ^ 63) 63 = 2 ^ 64 - 1 ∧ aluFn 9 (2 ^ 63) 0 = 2 ^ 63 ∧
    aluFn 0xA (2 ^ 63) 0 = 0 ∧ aluFn 3 1 64 = 1 ∧ cmpFn 2 (2 ^ 63) 0 = true ∧ cmpFn 6 (2 ^ 63) 0 = false := by decide +kernel

/-- STC s1 to [s2 + 0x71]: the last crumb before 0x70078. -/
def wStc : CmdWord := word 0x58 (2 * 2 ^ 11 + 1 * 2 ^ 16) 0x6FFF1 0 0
/-- LDC s3 from [s0 + 0x6FFF8], the last crumb of the scratchpad. -/
def wLdc : CmdWord := word 0x48 (3 * 2 ^ 6) 0x6FFF8 0 0

theorem wit_Crumbs_stc : (∃ s1 w, (running [wStc]).ready s1 0 8 5 w ∧ decide ((s1.tile 0).crumbAddr w.c = (0x6FFF8, 0) ∧
      (s1.tile 0).crumbWait 0x6FFF8 true = false ∧ (s1.tile 0).crumbs.length < 4) = true) ∧
    ok (exec (.stc 0) (running [wStc])) (fun u => decide ((u.tile 0).crumbs.map (fun k => (k.addr, k.val)) = [(0x6FFF8, 5)])) = true :=
  ⟨ready_of (by decide +kernel), by decide +kernel⟩

/-- `s` with a crumb store in tile 0's buffer. -/
def withCrumb (s : State) (a v : Nat) : State := s.onT 0 (fun x => { x with crumbs := [⟨a, BitVec.ofNat 64 v, 0, 0⟩] })

theorem clear_of {s : State} {t a n : Nat} (h : s.upsets = []) : s.clear t a n := by
  intro q hq; rw [h] at hq; cases hq

theorem wit_Crumbs_ldc : (∃ s1 w, ((withCrumb (running [wLdc]) 0x6FFF8 0x1234).addUpsets 0 []).ready s1 0 8 4 w ∧
      decide ((s1.tile 0).crumbAddr w.c = (0x6FFF8, 0) ∧ (s1.tile 0).crumbWait 0x6FFF8 false = false ∧ (s1.crumbFlush 0).upsets = []) = true) ∧
    ok (exec (.ldc 0 []) (withCrumb (running [wLdc]) 0x6FFF8 0x1234)) (fun u => (u.tile 0).s 3 == 0x1234 && (u.tile 0).crumbs.isEmpty) = true :=
  ⟨ready_of (by decide +kernel), by decide +kernel⟩

theorem wit_Crumbs_complete :
    let s := withCrumb (running [wLdc]) 0 0x1234
    Memory.wf s.scr = true ∧ (s.tile 0).crumbs = [⟨0, 0x1234, 0, 0⟩] ∧
    ok (exec (.commandComplete 0 10 []) s) (fun u => (u.tile 0).crumbs.isEmpty && memGet u.scr 0 == 0x34 && memGet u.scr 1 == 0x12) = true := by
  decide +kernel

/-- WAITB 3. -/
def wWaitb : CmdWord := word 0x30006 0 0 0 0

theorem wit_Waits_waitb : (∃ s1 w, (running [wWaitb]).ready s1 0 6 0 w ∧ decide (w.e = 3) = true) ∧
    ok (exec (.waitb 0) (running [wWaitb])) (fun u => (u.tile 0).stall == 6 && (u.tile 0).cmdIndex == 0) = true ∧
    ok (exec (.waitb 0) { running [wWaitb] with beat := 3 }) (fun u => (u.tile 0).cmdIndex == 1) = true :=
  ⟨ready_of (by decide +kernel), by decide +kernel⟩

/-- KWAIT of descriptor 255 of kneader rank 0 for 1. -/
def wKwait : CmdWord := word 0x10036 (255 * 2 ^ 8) 0 0 0
/-- `s` with the completion count of descriptor 255 of slot 0 of die 0 at 1. -/
def done1 (s : State) : State := s.setKnd 0 { descs := [(255, { done := 1 })] }

theorem wit_Waits_kwait : (∃ s1 w, (running [wKwait]).ready s1 0 6 3 w ∧ decide (s1.kOf 0 w.c = some (0, 0, 255)) = true) ∧
    ok (exec (.kwait 0) (running [wKwait])) (fun u => (u.tile 0).stall == 6) = true ∧
    ok (exec (.kwait 0) (done1 (running [wKwait]))) (fun u => (u.tile 0).cmdIndex == 1) = true :=
  ⟨ready_of (by decide +kernel), by decide +kernel⟩

/-- FBAR 0xFFFE. -/
def wFbar : CmdWord := word 0x16 0xFFFE 0 0 0

theorem wit_Waits_fbar : (∃ s1 w, (running [wFbar]).ready s1 0 6 1 w ∧ decide ((s1.tile 0).quiet = true) = true) ∧
    ok (exec (.fbar 0) (running [wFbar])) (fun u => (u.tile 0).fbarAt == some 0xFFFE && (u.tile 0).stepFps.length == 1 && (u.tile 0).cmdIndex == 0) = true ∧
    ok (exec (.fbar 0) (withCrumb (running [wFbar]) 0 1)) (fun u => (u.tile 0).fbarAt == none && (u.tile 0).stall == 6) = true :=
  ⟨ready_of (by decide +kernel), by decide +kernel⟩

/-- MARK 0xFFFF. -/
def wMark : CmdWord := word 0xD 0xFFFF 0 0 0

theorem wit_Waits_mark : (∃ s1 w, (running [wMark]).ready s1 0 13 0 w ∧ decide (s1.getF (pgTile 0) 0xE08 0 0 0 ≠ 1 ∧ s1.getF (pgTile 0) 0xE0C 0 0 0 ≠ 1) = true) ∧
    ok (exec (.mark 0) (running [wMark])) (fun u => (u.tile 0).cmdIndex == 1) = true := ⟨ready_of (by decide +kernel), by decide +kernel⟩

theorem wit_Waits_halt : (∃ s1 w, (running [wHalt]).ready s1 0 14 0 w ∧ decide ((s1.tile 0).task = .running) = true) ∧
    ok (exec (.halt 0) (running [wHalt])) (fun u => (u.tile 0).task == .halted) = true ∧
    ok (exec (.halt 0) (withCrumb (running [wHalt]) 0 1)) (fun u => (u.tile 0).task == .running && (u.tile 0).haltIssued) = true :=
  ⟨ready_of (by decide +kernel), by decide +kernel⟩

/-- LOOP of `n` times over the next command, index register s5. -/
def wLoop (n : Nat) : CmdWord := word (0x7 + n * 2 ^ 16) (1 + 5 * 2 ^ 24) 0 0 0
/-- LOOP with the count in s6, which is 0. -/
def wLoopR : CmdWord := word (0x8007 + 6 * 2 ^ 16) (1 + 5 * 2 ^ 24) 0 0 0

theorem wit_Loops_open : (∃ s1 w, (running [wLoop 2, wAlu]).ready s1 0 7 0 w ∧
      decide (0 < cf w.c 1 23 0 ∧ w.idx + cf w.c 1 23 0 + 1 < (s1.tile 0).cmdrLen ∧ 0 < w.e) = true) ∧
    ok (exec (.loop 0) (running [wLoop 2, wAlu])) (fun u => (u.tile 0).loops.length == 1 && (u.tile 0).s 5 == 0 && (u.tile 0).cmdIndex == 1) = true :=
  ⟨ready_of (by decide +kernel), by decide +kernel⟩

theorem wit_Loops_zero : (∃ s1 w, (running [wLoopR, wAlu]).ready s1 0 7 0 w ∧
      decide (0 < cf w.c 1 23 0 ∧ w.idx + cf w.c 1 23 0 + 1 < (s1.tile 0).cmdrLen ∧ w.e = 0 ∧ (s1.tile 0).loops = []) = true) ∧
    ok (exec (.loop 0) (running [wLoopR, wAlu])) (fun u => (u.tile 0).loops.isEmpty && (u.tile 0).cmdIndex == 2) = true :=
  ⟨ready_of (by decide +kernel), by decide +kernel⟩

/-- A tile in iteration `i` of two of a loop over command 1. -/
def looping (i : Nat) : Tile := { loops := [{ first := 1, last := 1, total := 2, iter := i, sidx := 5 }], cmdrLen := 16, cmdIndex := 1 }

theorem wit_Loops_repeat : (looping 0).loops = [{ first := 1, last := 1, total := 2, iter := 0, sidx := 5 }] ∧ (looping 0).pendS = [] ∧
    ((looping 0).pass 1 2).cmdIndex = 1 ∧ ((looping 0).pass 1 2).s 5 = 1 ∧ ((looping 1).pass 1 2).cmdIndex = 2 ∧ ((looping 1).pass 1 2).loops = [] := by
  decide +kernel


/-! Engines, task control and the scratchpad. -/

/-- `running` with walkers 1 (segment 0) and 2 to 7 (local, loaves 0 to 5). -/
def engines (w : CmdWord) : State :=
  (running [w]).onT 0 (fun x => { x with
    walkers := (1, { space := 4 }) :: (List.range 6).map (fun k => (k + 2, { base := 512 * k })) })

/-- Declared ranges: local loaves lo and lo + len - 1, and lines of segment 0. -/
def rLoc (write : Nat) (lo len : Nat) : Nat := write + lo * 2 ^ 6 + len * 2 ^ 16
/-- Lines from the start of segment 0. -/
def rSeg (write len : Nat) : Nat := write + 2 + 16 + len * 2 ^ 16

/-- A word of class `cls`, operation `op`, count 1 and up to two ranges. -/
def cmd (cls op a0 a1 a2 r0 r1 : Nat) : CmdWord := word (cls + op * 16 + (if r1 = 0 then if r0 = 0 then 0 else 1 else 2) * 2 ^ 12 + 2 ^ 16) a0 a1 a2 (r0 + r1 * 2 ^ 32)
/-- The same without a count. -/
def cmd0 (cls op a0 a1 a2 r0 : Nat) : CmdWord := word (cls + op * 16 + (if r0 = 0 then 0 else 1) * 2 ^ 12) a0 a1 a2 r0

/-- MOVE LOAD of one position. -/
def wLoad := cmd 1 0 0 (1 + 2 * 16) 0 (rSeg 0 4) (rLoc 1 0 1)
/-- MOVE STORE of one position. -/
def wStore := cmd 1 1 0 (2 + 1 * 16) 0 (rSeg 1 4) (rLoc 0 0 1)
/-- MMA of BF16. -/
def wMma := cmd 2 0 (1 + 1 * 16 + 2 * 2 ^ 16 + 3 * 2 ^ 20 + 4 * 2 ^ 24) 0 0 (rLoc 0 0 64) (rLoc 1 2 8)
/-- MMZ of BF16. -/
def wMmz := cmd 2 1 (1 + 1 * 16 + 2 * 2 ^ 16 + 3 * 2 ^ 20 + 4 * 2 ^ 24) 0 0 (rLoc 0 0 64) (rLoc 1 2 8)
/-- VEC MAP COPY. -/
def wMap := cmd 3 0 0 (0 + 2 * 2 ^ 8 + 3 * 2 ^ 20) 0 (rLoc 0 0 1) (rLoc 1 1 1)
/-- VEC REDUCE SUM. -/
def wRed := cmd 3 1 0 (0x40 + 2 * 2 ^ 8 + 3 * 2 ^ 20) 0 (rLoc 0 0 1) (rLoc 1 1 1)
/-- CONV of FP32 to BF16. -/
def wConv (op : Nat) := cmd 4 op 16 (2 + 3 * 16) 0 (rLoc 0 0 1) (rLoc 1 1 1)
/-- CNT COUNT. -/
def wCnt := cmd 11 0 (0 + 2 * 2 ^ 8) 3 0 (rLoc 0 0 1) 0
/-- CNT MASK. -/
def wMask := cmd 11 1 (0 + 2 * 2 ^ 8 + 3 * 2 ^ 12) 3 0 (rLoc 0 0 1) (rLoc 1 1 1)
/-- CNT HIST. -/
def wHist := cmd 11 2 (8 + 2 * 2 ^ 8 + 3 * 2 ^ 12) 3 0 (rLoc 0 0 1) (rLoc 1 1 1)
/-- An ATOM on segment 0. -/
def wAtom (op ty : Nat) := cmd0 10 op (3 * 2 ^ 15 + ty * 2 ^ 20) 0 0 (rSeg 1 1)
/-- An SQ command on queue rank 0. -/
def wSq (op : Nat) := if op = 0 then cmd0 9 0 0 0 0 0 else if op = 2 then cmd0 9 2 0 0 0 0 else if op = 1 then cmd 9 1 (2 * 2 ^ 8) 0 0 (rLoc 0 0 1) 0
  else cmd 9 3 (2 * 2 ^ 8 + 3 * 2 ^ 13) 0 0 (rLoc 1 0 1) 0
/-- KFLAG of descriptor 255. -/
def wKflag := cmd 6 2 (255 * 2 ^ 8) 0 0 0 0
/-- SNAP of set 0. -/
def wSnap := cmd0 12 0 0 0 0 0

/-- The rows of the engines with a scoreboard, with a word each. -/
def engineRows : List (Instr × CmdWord × Nat × Nat × Nat) := [
  (.moveLoad 0 [], wLoad, 1, 0, 0), (.moveStore 0 [], wStore, 1, 1, 1), (.mma 0 [], wMma, 2, 0, 2), (.mmz 0 [], wMmz, 2, 1, 2), (.vecMap 0 [], wMap, 3, 0, 3),
  (.vecReduce 0 [], wRed, 3, 1, 3), (.convL 0 [], wConv 0, 4, 0, 0), (.convS 0 [], wConv 1, 4, 1, 1), (.convV 0 [], wConv 2, 4, 2, 3), (.cntCount 0 [], wCnt, 11, 0, 6),
  (.cntMask 0 [], wMask, 11, 1, 6), (.cntHist 0 [], wHist, 11, 2, 6), (.atomAdd 0, wAtom 0 0, 10, 0, 8), (.atomMin 0, wAtom 1 0, 10, 1, 8),
  (.atomMax 0, wAtom 2 0, 10, 2, 8), (.atomCas 0, wAtom 3 0, 10, 3, 8), (.atomSwap 0, wAtom 4 3, 10, 4, 8), (.atomFinc 0, wAtom 5 3, 10, 5, 8),
  (.lacq 0, wAtom 6 3, 10, 6, 8), (.lrel 0, wAtom 7 3, 10, 7, 8)]

theorem wit_Engines_enter : engineRows.all (fun r =>
    readyB ((engines r.2.1).addUpsets 0 []) 0 r.2.2.1 r.2.2.2.1 (fun s1 h => (s1.tile 0).sbWait h.ranges == 0 && decide ((mapGet (s1.tile 0).dq r.2.2.2.2 []).length < dqDepth r.2.2.2.2)) &&
    ok (exec r.1 (engines r.2.1)) (fun u => (u.tile 0).cmdIndex == 1 && (u.tile 0).task == .running && (mapGet (u.tile 0).dq r.2.2.2.2 []).length == 1)) = true := by
  decide +kernel

/-- `s` with an entry of the scoreboard that writes loaf 0 and lines 0 to 3 of memory. -/
def busy (s : State) : State := s.onT 0 (fun x => { x with sb := [⟨true, false, 0, 0, 0, 0⟩, ⟨true, true, 0, 3, 0, 0⟩] })

theorem wit_Engines_conflict : engineRows.all (fun r =>
    readyB ((busy (engines r.2.1)).addUpsets 0 []) 0 r.2.2.1 r.2.2.2.1 (fun s1 h => (s1.tile 0).sbWait h.ranges == 3) &&
    ok (exec r.1 (busy (engines r.2.1))) (fun u => (u.tile 0).cmdIndex == 0 && (u.tile 0).stall == 3 && (mapGet (u.tile 0).dq r.2.2.2.2 []).isEmpty)) = true := by
  decide +kernel

/-- The SQ rows. -/
def sqRows : List (Instr × Nat) := [(.sqOpen 0, 0), (.sqPush 0 [], 1), (.sqClose 0, 2), (.sqPop 0, 3)]
/-- `s` with queue 0's packet open (operation 1, 2) by tile 0. -/
def opened (op : Nat) (s : State) : State := if op = 1 ∨ op = 2 then s.setSq 0 { prod := some 0, openPkt := some (0, 0) } else s

theorem wit_Engines_sq : sqRows.all (fun r =>
    readyB ((opened r.2 (engines (wSq r.2))).addUpsets 0 []) 0 9 r.2 (fun s1 h => s1.sqOf 0 h.c == some 0 && (s1.tile 0).sbWait h.ranges == 0 &&
      decide ((mapGet (s1.tile 0).dq 7 []).length < 4)) &&
    ok (exec r.1 (opened r.2 (engines (wSq r.2)))) (fun u => (u.tile 0).cmdIndex == 1 && (mapGet (u.tile 0).dq 7 []).length == 1)) = true := by decide +kernel

/-- SQ OPEN of rank 1, which polder 0 does not hold. -/
def wSqNone : CmdWord := cmd0 9 0 1 0 0 0

theorem wit_Engines_sqNone : readyB (engines wSqNone) 0 9 0 (fun s1 h => s1.sqOf 0 h.c == none && (s1.tile 0).task == .running) = true ∧
    ok (exec (.sqOpen 0) (engines wSqNone)) (fun u => (u.tile 0).task == .faulted && u.getF (pgTile 0) 0x18 0 31 16 == 0x1640) = true := by decide +kernel

/-- EXCH `op` of stream 7 with walker 2, one loaf. -/
def wExch (op : Nat) : CmdWord := cmd 5 op (7 + 2 * 2 ^ 12) 0 0 0 0
/-- `s` where polder 0's image has stream 7, from ptile 0 to ptile 1, with the given first beat. -/
def streamed (s : State) : State := s.setPol 0 { s.pol 0 with image := some { streams := [⟨7, 0, 1, 0xFFFF, 1, 0, 4, 1⟩, ⟨8, 1, 0, 0xFFFF, 1, 0, 4, 1⟩] } }
/-- `s` with tile 0 in handshake mode. -/
def shaking (s : State) : State := s.setAct (pgTile 0) 0xB00 0 1

theorem wit_Engines_exch : [(Instr.exchSend 0, 0), (.exchRecv 0, 1)].all (fun r =>
    [streamed (engines (wExch r.2)), shaking (streamed (engines (wExch r.2)))].all (fun s =>
      readyB s 0 5 r.2 (fun s1 h => decide ((mapGet (s1.tile 0).dq 4 []).length < 16) && ((s1.tile 0).guardWait ((s1.tile 0).guardOf h.c h.idx) == false)) &&
      ok (exec r.1 s) (fun u => (u.tile 0).cmdIndex == 1 && (mapGet (u.tile 0).dq 4 []).length == 1 &&
        (u.tile 0).xp.guards.length == if s.handshake 0 then 1 else 0))) = true := by decide +kernel

theorem wit_Engines_kflag : readyB (engines wKflag) 0 6 2 (fun s1 h => s1.kOf 0 h.c == some (0, 0, 255) && (mapGet (s1.tile 0).dq 5 []).isEmpty && h.ranges.isEmpty) = true ∧
    ok (exec (.kflag 0) (engines wKflag)) (fun u => (u.tile 0).cmdIndex == 1 && (mapGet (u.tile 0).dq 5 []).length == 1) = true := by decide +kernel

/-- `s` with polder 0's snapshot region on die 0 at polder address 0, two slots of one page. -/
def regioned (s : State) : State := (s.setReg (pgDie 0) 0x428 0 1).setReg (pgDie 0) 0x430 0 1

theorem wit_Engines_snap : readyB ((regioned (engines wSnap)).addUpsets 0 []) 0 12 0 (fun s1 h => s1.snapBase 0 0 == some 0 && s1.ownerOr 0 == 0 &&
      s1.inRankRun 0 0 (2 * s1.snapSize 0 0) && (s1.tile 0).sbWait h.ranges == 0 && (mapGet (s1.tile 0).dq 9 []).isEmpty) = true ∧
    ok (exec (.snap 0 []) (regioned (engines wSnap))) (fun u => (u.tile 0).cmdIndex == 1 && (mapGet (u.pol 0).snaps 0 {}).issued == [0] &&
      (mapGet (u.pol 0).snaps 0 {}).busy) = true := by decide +kernel

/-- `s` with a finished ATOM that returns 9 to s3 in the atomic port. -/
def finishing (s : State) : State := s.onT 0 (fun x => { x with
  dq := [(8, [{ word := wAtom 0 0, index := 0, ord := 4, started := true, finished := true, data := natLE 8 9 }])], pendS := [(3, 4)],
  sb := [⟨true, true, 0, 0, 0, 4⟩], progress := 5 })

theorem wit_CommandCompletes : let s := finishing base
    (mapGet (s.tile 0).dq 8 []).length = 1 ∧ s.storesLeft 0 4 = false ∧ (s.tile 0).amxWait = [] ∧ (s.tile 0).stopReq = false ∧ (s.tile 0).haltIssued = false ∧
    ok (exec (.commandComplete 0 8 []) s) (fun u => (mapGet (u.tile 0).dq 8 []).isEmpty && (u.tile 0).sb.isEmpty && (u.tile 0).pendS.isEmpty && (u.tile 0).s 3 == 9) = true := by
  decide +kernel

/-- `base` with tile 0 in a task state. -/
def inTask (k : TaskState) : State := (base.setTile 0 { task := k, cmdIndex := 3, progress := 3, sregs := [(3, 8)] }).setReg (pgTile 0) 0x108 0 0

theorem wit_TasksStart : (inTask .loaded).tileOwner 0 = some 0 ∧ ((inTask .loaded).pol 0).stopped = false ∧
    ok (exec (.taskStart 0) (inTask .loaded)) (fun u => (u.tile 0).task == .running && (u.tile 0).cmdIndex == 0 && (u.tile 0).s 3 == 8) = true ∧
    ok (exec (.taskStart 0) (inTask .stopped)) (fun u => (u.tile 0).task == .running && (u.tile 0).cmdIndex == 3) = true ∧
    stays (exec (.taskStart 0) (inTask .halted)) (inTask .halted) = true := by decide +kernel

theorem wit_TasksStop : ok (exec (.taskStop 0) (inTask .running)) (fun u => (u.tile 0).task == .stopped) = true ∧
    ok (exec (.taskStop 0) (withCrumb (inTask .running) 0 1)) (fun u => (u.tile 0).task == .running && (u.tile 0).stopReq) = true ∧
    stays (exec (.taskStop 0) (inTask .loaded)) (inTask .loaded) = true := by decide +kernel

theorem wit_TasksClear : Memory.wf { inTask .loaded with scr := [(0, 7), (1048575, 1), (1048576, 9)] }.scr = true ∧
    ok (exec (.tileClear 0) (inTask .running)) (fun u => (u.tile 0).task == .clearing) = true ∧
    ok (exec (.clearComplete 0) { inTask .clearing with scr := [(0, 7), (1048575, 1), (1048576, 9)] })
      (fun u => (u.tile 0).task == .idle && decide (u.scr = [(1048576, 9)]) && (u.tile 0).s 3 == 0) = true ∧
    stays (exec (.clearComplete 0) (inTask .running)) (inTask .running) = true := by decide +kernel

/-- Tile 0 runs a task of 20 commands of which 16 are fetched; its region lies in field 0, whose first block is clean. -/
def fetching : State := { inTask .running with clean := [0], hbm := [(544, 0xE)] }.onT 0 (fun x => { x with cmdrLen := 20, fetchNext := 16 })

theorem wit_Fetches : (fetching.tile 0).task = .running ∧ (fetching.tile 0).fetchNext < (fetching.tile 0).cmdrLen ∧ fetching.part (pgTile 0) = 0 ∧
    (match (fetching.tileLoad 0 (fetching.ownerOr 0) 512 512 []).1 with | .bytes bs => bs.length == 512 | _ => false) = true ∧
    ok (exec (.commandFetch 0 0) fetching) (fun u => (u.tile 0).fetchNext == 20 && decide ((u.tile 0).queue = [(16, 0), (17, 0xE), (18, 0), (19, 0)])) = true ∧
    stays (exec (.commandFetch 0 0) (fetching.onT 0 (fun x => { x with queue := (List.range 509).map (fun k => (k, 0)) })))
      (fetching.onT 0 (fun x => { x with queue := (List.range 509).map (fun k => (k, 0)) })) = true := by decide +kernel

theorem wit_WindowWrites : (inTask .loaded).tileOwner 0 = some 0 ∧ (inTask .loaded).serves (pgTile 0) = true ∧
    ok (exec (.scratchpadWindowWrite 0 0 0x6FFF8 [1, 2, 3, 4, 5, 6, 7, 8]) (inTask .loaded)) (fun u => memGet u.scr 0x6FFFF == 8 && memGet u.scr 0x6FFF8 == 1) = true ∧
    ok (exec (.scratchpadWindowWrite 0 0 0 [1, 2, 3, 4, 5, 6, 7, 8]) (inTask .running)) (fun u => u.scr.isEmpty && u.getF (pgTile 0) 0x18 0 31 16 == 0x2019) = true ∧
    ok (exec (.scratchpadWindowWrite 1 0 0 [1, 2, 3, 4, 5, 6, 7, 8]) (inTask .loaded)) (fun u => u.scr.isEmpty && u.getF (pgTile 0) 0x18 0 31 16 == 0x2071) = true := by
  decide +kernel
/-! Power, current and temperature. -/

/-- The state after a command, `base` where it answers none. -/
def after (o : Out) : State := match o with | .next u => u | _ => base

/-- Tile 0 with a VEC MAP, or an MMA, that waits for its token. -/
def waiting (vec : Bool) : State := if vec then after (exec (.vecMap 0 []) (engines wMap)) else after (exec (.mma 0 []) (engines wMma))

theorem wit_Tokens : [true, false].all (fun vec =>
    let s := waiting vec
    (match mapGet (s.tile 0).dq (if vec then 3 else 2) [] with
      | i :: _ => !i.started && !(s.tile 0).tokenOk (if vec then 3 else 2) i.word.toNat
      | [] => false) &&
    (s.tile 0).admitAt.isNone && (s.tile 0).task == .running && decide ((s.tile 0).beatRef ≤ s.beat)) = true := by decide +kernel

theorem wit_TokenIdle : ok (exec (.tokenIdleReturn 0 true) (base.setTile 0 { tokV := 3, tokM := 4 })) (fun u => (u.tile 0).tokV == 0 && (u.tile 0).tokM == 4) = true := by
  decide +kernel

/-- Polder 0 ramps tile 0 on die 0, admitted at cycle 64 of beat 0. -/
def ramping (beat : Nat) (at_ : Option Nat) : State :=
  ({ base with beat := beat }.setTile 0 { task := .running, admitAt := at_ }).setPol 0 { ramp := [(0, [(0, 64)])], running := [(0, 0)] }

theorem wit_Ramps : ok (exec (.rampAdmission 0 0 0) (ramping 1 (some 0))) (fun u => (u.tile 0).admitAt.isNone) = true ∧
    ok (exec (.rampAdmission 0 0 0) (ramping 0 (some 0))) (fun u => (u.tile 0).admitAt == some 0) = true ∧
    (∀ e, e ∈ mapGet ((ramping 1 none).pol 0).ramp 0 [] → ((ramping 1 none).tile e.1).admitAt ≠ some 0) ∧
    ok (exec (.rampEnd 0 0) (ramping 1 none)) (fun u => (mapFind? (u.pol 0).running 0).isNone && u.power.lastRampEnd == some 1) = true := by decide +kernel

/-- The cap's ceiling fell to 6 and the power is still above the cap. -/
def unmet : State := (base.setF pgPwr 0x108 0 8 8 1).setF pgPwr 0x10C 0 15 0 1201

theorem wit_Ceilings : unmet.getF pgPwr 0x108 0 8 8 ≠ 0 ∧ unmet.effCap < unmet.getF pgPwr 0x10C 0 15 0 ∧ unmet.power.unmetPosted = false ∧
    ok (exec .capUnmet unmet) (fun u => u.ceilOf 0 0 == 6 && u.power.unmetPosted && u.getF pgPwr 0x18 0 31 16 == 0x0201) = true ∧
    stays (exec .capUnmet (after (exec .capUnmet unmet))) (after (exec .capUnmet unmet)) = true ∧
    ok (exec (.pwrCapWrite 255) base) (fun u => u.getF pgPwr 0x108 0 7 0 == 240) = true ∧
    ok (exec (.pwrShiftWrite 511) (after (exec (.pwrCapWrite 200) base))) (fun u => u.getF pgPwr 0x108 0 7 0 == 199) = true ∧
    capCeil 16 1000 1200 200 = 12 ∧ capCeil 16 200 1200 200 = 6 ∧ capCeil 16 1200 200 200 = 16 := by decide +kernel

theorem wit_Ceilings_reasons : ok (exec (.hostLevelWrite 5) base) (fun u => u.ceilOf 7 0 == 16) = true ∧ ok (exec (.hostLevelWrite 6) base) (fun u => u.ceilOf 7 0 == 6) = true ∧
    ok (exec (.vrWarn 6) base) (fun u => u.ceilOf 5 6 == 12 && u.getF pgPwr 0x11C 6 20 20 == 1) = true ∧
    ok (exec (.vrWarnClear 6) (after (exec (.vrWarn 6) base))) (fun u => decide (u.power.vrHold = [6]) && u.ceilOf 5 6 == 12) = true ∧
    ok (exec (.vrWarnHoldExpiry 6) (after (exec (.vrWarnClear 6) (after (exec (.vrWarn 6) base))))) (fun u => u.ceilOf 5 6 == 16 && u.power.vrHold.isEmpty) = true ∧
    base.getF pgPwr 0x114 0 15 8 * 250 = 44000 ∧ ok (exec (.inputLow 43999) base) (fun u => u.ceilOf 6 0 == 8 && u.power.lowSeen) = true ∧
    ok (exec (.inputLow 0) base) (fun u => u.ceilOf 6 0 == 6) = true ∧ ok (exec .inputLowClear (after (exec (.inputLow 0) base))) (fun u => u.ceilOf 6 0 == 16) = true ∧
    ok (exec (.currentRampRecover 3) { base with beat := 64, power := { excessAt := [(3, 0)], ceil := [(ceilKey 1 3, 10)] } }) (fun u => u.ceilOf 1 3 == 16) = true := by
  decide +kernel

/-- The level is 15 and may rise at this beat. -/
def rising (beat : Nat) : State := { base with beat := beat }.setF pgWeir 0x100 0 4 0 15

theorem wit_Ceilings_level : (rising 48).level < (rising 48).target ∧ (rising 48).rampRuns = false ∧ (rising 48).power.lastRise = none ∧
    (rising 48).power.lastRampEnd = none ∧ ok (exec .levelRise (rising 48)) (fun u => u.level == 16 && u.power.lastRise == some 48) = true ∧
    ok (exec .levelRise (rising 1007)) (fun u => u.level == 16) = true ∧ stays (exec .levelRise (rising 47)) (rising 47) = true ∧
    stays (exec .levelRise (rising 1008)) (rising 1008) = true ∧
    ok (exec .levelFall (after (exec (.hostLevelWrite 7) base))) (fun u => u.level == 7) = true := by decide +kernel

theorem wit_Temperatures : base.thermCfg 2 3 = (100, 105) ∧ ceilKey 2 3 ∉ base.power.failed ∧ (base.stack 11).tripped = false ∧
    [(Instr.dieTempSample 3 105, 2, 3), (.vrTempSample 6 125, 4, 6), (.linkTempSample 3 108, 9, 3), (.hbmTempSample 11 95 false, 3, 11)].all (fun r =>
      ok (exec r.1 base) (fun u => u.ceilOf r.2.1 r.2.2 == 6 && u.target == 6)) = true ∧
    ok (exec (.dieTempSample 3 100) base) (fun u => u.ceilOf 2 3 == 15) = true ∧ ok (exec (.dieTempSample 3 99) base) (fun u => u.ceilOf 2 3 == 16) = true ∧
    ok (exec (.sensorFail 2 3) base) (fun u => u.ceilOf 2 3 == 6 && u.power.failed.contains (ceilKey 2 3)) = true ∧
    ok (exec (.sensorRecover 2 3) (after (exec (.sensorFail 2 3) base))) (fun u => u.power.failed.isEmpty && u.ceilOf 2 3 == 6) = true ∧
    ok (exec (.thermalStep 2 3) (after (exec (.dieTempSample 3 100) base))) (fun u => u.ceilOf 2 3 == 14) = true ∧
    (let s := after (exec (.dieTempSample 3 98) (after (exec (.dieTempSample 3 100) base)))
     ceilKey 2 3 ∉ s.power.hot ∧ s.reading 2 3 + 2 ≤ (s.thermCfg 2 3).1 ∧ s.ceilOf 2 3 = 15 ∧ ok (exec (.thermalStep 2 3) s) (fun u => u.ceilOf 2 3 == 16) = true) := by
  decide +kernel

theorem wit_BeatsFrames : ok (exec (.beatBoundary [] [] []) { base with beat := 2 ^ 56 - 1 }) (fun u => u.beat == 0) = true ∧
    ok (exec .frameBoundary { base with beat := 1024, frame := 2 ^ 48 - 1 }) (fun u => u.frame == 0 && u.frameAt == 1024) = true ∧
    ok (exec .frameBoundary { base with beat := 1024, frameLoad := some 9 }) (fun u => u.frame == 9 && u.frameLoad.isNone) = true ∧
    stays (exec .frameBoundary { base with beat := 1023 }) { base with beat := 1023 } = true ∧
    ok (exec (.gaugeLogPass 255) { base with power := { logN := 7 } }) (fun u => u.power.passed == 7) = true ∧
    ok (exec (.gaugeLogPass 254) { base with power := { logN := 7 } }) (fun u => u.power.passed == 0) = true := by decide +kernel

/-! Debug and observation. -/

theorem wit_Holds_tile : (shaking base).handshake 0 = true ∧ base.handshake 0 = false ∧
    ok (exec (.dbgHold 0) (shaking base)) (fun u => u.getF (pgTile 0) 0xE00 0 0 0 == 1) = true ∧
    ok (exec (.dbgHold 0) base) (fun u => u.getF (pgTile 0) 0xE00 0 0 0 == 0 && u.getF (pgTile 0) 0x18 0 31 16 == 0x2050) = true ∧
    ok (exec (.dbgUnhold 0) ((shaking base).setF (pgTile 0) 0xE00 0 0 0 1)) (fun u => u.getF (pgTile 0) 0xE00 0 0 0 == 0) = true ∧
    ok (exec (.dbgStep 0) ((shaking (inTask .running)).setF (pgTile 0) 0xE00 0 0 0 1)) (fun u => (u.tile 0).dbgStep) = true ∧
    ok (exec (.dbgStep 0) base) (fun u => u.getF (pgTile 0) 0x18 0 31 16 == 0x2050) = true := by decide +kernel

theorem wit_Holds_polder : ok (exec (.tracePolderHold 0 0) base) (fun u => decide (u.holds = [(0, true, 4)])) = true ∧
    ok (exec (.tracePolderRelease 0 63) base) (fun u => decide (u.holds = [(63, false, 4)])) = true ∧
    stays (exec (.tracePolderHold 3 0) base) base = true ∧ stays (exec (.tracePolderRelease 3 0) base) base = true ∧
    (0 ∈ ({ shaking base with holds := [(0, true, 4)], beat := 4 }).tilesOf 0) ∧
    ok (exec .polderHoldApply { shaking base with holds := [(0, true, 4)], beat := 4 }) (fun u => u.holds.isEmpty && u.getF (pgTile 0) 0xE00 0 0 0 == 1) = true ∧
    stays (exec .polderHoldApply { shaking base with holds := [(0, true, 4)], beat := 3 }) { shaking base with holds := [(0, true, 4)], beat := 3 } = true := by
  decide +kernel

/-- `s` with one record in the trace ring of die 3. -/
def traced (s : State) : State := s.setRing 3 { recs := [(0, [1, 2, 3])], head := 1, fill := 1, seq := 1 }

theorem wit_Trace_ring : (traced base).tracePort 3 = false ∧ 0 < ((traced base).ring 3).fill ∧
    ok (exec (.traceRead 3) (traced base)) (fun u => (u.ring 3).fill == 0 && (u.ring 3).tail == 1) = true ∧
    ok (exec (.traceRead 3) base) (fun u => u.readData == 0 && (u.ring 3).tail == 0) = true ∧
    ((traced base).ring 3).dumpTo = none ∧ ok (exec (.traceDump 3) (traced base)) (fun u => (u.ring 3).dumpTo == some 1) = true ∧
    (let s := (after (exec (.traceDump 3) (traced base))).setFn 0 { bme := true, enabled := true }
     s.fnLive 0 = true ∧ ok (exec (.traceDumpDone 3 false) s) (fun u => (u.ring 3).fill == 0 && (u.ring 3).dumpTo.isNone && u.hostOut.length == 1) = true ∧
     ok (exec (.traceDumpDone 3 true) s) (fun u => u.getF (pgTrace 3) 0x18 0 31 16 == 0x1702) = true) := by decide +kernel

theorem wit_Trace_anchor : ok (exec (.traceAnchorCapture 0) { base with frame := 5, frameAt := 1024, beat := 1030 }) (fun u =>
      u.reg (pgTrace 0) 0x198 0 == 5 && u.reg (pgTrace 0) 0x1A0 0 == 1024) = true ∧ stays (exec (.traceAnchorCapture 3) base) base = true ∧
    ok (exec .debugPortLock base) (fun u => u.dbgPort == 2) = true ∧
    (let s := after (exec .debugPortLock (traced base))
     ok (exec .debugPortDown s) (fun u => u.dbgPort == 0 && u.getF (pgTrace 0) 0x18 0 31 16 == 0x1703) = true ∧
     ok (exec .debugPortFrame s) (fun u => u.module.dbgSeq == 1 && u.module.dbgOut.length == 1) = true) ∧
    stays (exec .debugPortDown base) base = true ∧ stays (exec .debugPortFrame base) base = true := by decide +kernel

theorem wit_Trace_jtag : base.module.moduleEn = false ∧ ok (exec .jtagBypass base) (fun u => u.module.jtagOut == 0) = true ∧
    ok (exec (.jtagSamplePreload 9) base) (fun u => u.module.bscan == 9 && u.module.driven == none) = true ∧
    ok (exec (.jtagExtest 9) base) (fun u => u.module.driven == some 0 && u.module.bscan == 9) = true ∧
    ok (exec (.jtagExtest 9) { base with module := { moduleEn := true } }) (fun u => u.module.bscan == 0 && u.module.driven == none) = true := by decide +kernel

/-! Module hardware and boot. -/

/-- `base` with a module state. -/
def withModule (m : Module) : State := { base with module := m }

theorem wit_Input : ok (exec .hotswapOn base) (fun u => u.module.mateLast && u.module.hotswap) = true ∧
    ok (exec .hotswapOn (withModule { ocpLatched := true })) (fun u => u.module.mateLast && !u.module.hotswap) = true ∧
    ok (exec .hotswapUvlo (withModule { hotswap := true, ocpLatched := true })) (fun u => !u.module.hotswap && !u.module.ocpLatched) = true ∧
    ok (exec .hotswapOvp (withModule { hotswap := true, railsOn := true })) (fun u => !u.module.hotswap && u.module.ovp && !u.module.railsOn) = true ∧
    ok (exec .hotswapOcp (withModule { hotswap := true, railsOn := true })) (fun u => !u.module.hotswap && u.module.ocpLatched && !u.module.railsOn) = true ∧
    ok (exec .mateLastRelease (withModule { hotswap := true, mateLast := true, ovp := true })) (fun u => !u.module.hotswap && !u.module.mateLast && !u.module.ovp) = true ∧
    ok (exec .ovpRecovery (withModule { ovp := true, mateLast := true })) (fun u => u.module.hotswap && !u.module.ovp) = true := by decide +kernel

theorem wit_Rails : ok (exec .moduleEnRise (withModule { stewardOk := true, hotswap := true })) (fun u => u.module.railsOn && u.module.moduleEn) = true ∧
    ok (exec (.stewardVerified 1) (withModule { hotswap := true, moduleEn := true })) (fun u => u.module.stewardOk && u.module.slot == 1 && u.module.railsOn) = true ∧
    ok (exec (.thermtrip 2 3) { withModule { railsOn := true, pwrGood := true } with scr := [(0, 1)] }) (fun u =>
      u.module.thermtrip && !u.module.railsOn && decide (u.module.tripLog = [(2, 3)]) && u.scr.isEmpty) = true ∧
    ok (exec .thermtripClear (withModule { thermtrip := true })) (fun u => !u.module.thermtrip) = true ∧
    ok (exec .moduleEnFall { withModule { moduleEn := true, railsOn := true, pwrGood := true } with scr := [(0, 1)] }) (fun u => !u.module.pwrGood && u.scr.isEmpty) = true ∧
    ok (exec .pldmPowerDown { withModule { railsOn := true, pwrGood := true } with hbm := [(0, 1)] }) (fun u => !u.module.pwrGood && !u.module.railsOn && u.hbm.isEmpty) = true ∧
    ok (exec .inputUv { withModule { railsOn := true, pwrGood := true } with hbm := [(0, 1)] }) (fun u => !u.module.pwrGood && u.hbm.isEmpty) = true := by decide +kernel

/-- `base` in a boot stage. -/
def stage (n : Nat) : State := base.setF pgDev 0x100 0 2 0 n

theorem wit_Boot : ok (exec .powerGood { stage 0 with module := { railsOn := true } }) (fun u => u.bootState == 1 && u.module.pwrGood) = true ∧
    (stage 1).bootState = 1 ∧ ok (exec (.bootDieFwDone true) (stage 1)) (fun u => u.bootState == 2 && u.module.fallback) = true ∧
    (stage 2).bootState = 2 ∧ ok (exec (.bootMemoryDone []) { stage 2 with hbm := [(0, 1)], clean := [0] }) (fun u => u.bootState == 3 && u.hbm.isEmpty && u.clean.isEmpty) = true ∧
    (stage 3).bootState = 3 ∧ ok (exec (.bootLinksDone 77) (stage 3)) (fun u => u.bootState == 4 && u.getF pgDev 0x104 0 31 0 == 77) = true ∧
    ok (exec (.bootStageTimeout 3 9) (stage 3)) (fun u => u.bootState == 5 && u.getF pgDev 0x100 0 15 8 == 3 && u.getF pgDev 0x18 0 31 16 == 0x0153) = true := by
  decide +kernel
/-! Slices, HBM, atomics and locks. -/

/-- `base` with block 0 of stack 0 clean and byte 127 of HBM 9. -/
def lined : State := { base with clean := [0], hbm := [(127, 9)] }

theorem buffersOk_empty {s : State} (h : Memory.wf s.hbm = true) (e : s.slices = []) : s.buffersOk := by
  refine ⟨h, by rw [e]; exact List.Pairwise.nil, fun sl => ?_⟩
  have : s.slice sl = {} := by simp [State.slice, e, mapGet, mapFind?]
  rw [this]; exact ⟨List.nodup_nil, fun e h => absurd h (by simp)⟩

theorem wit_Loads : lined.buffersOk ∧ lined.xlate 0 127 = .hbm 127 0 ∧ lined.sliceDike 0 0 0 127 = 0 ∧ lined.serves (pgSc 0) = true ∧
    (lined.slice 0).stopped = false ∧ 127 / 128 ∉ lined.poison ∧ homeSlice 127 / 16 = 0 ∧
    ok (exec (.sliceLoad 0 0 0 127 1 0) lined) (fun u => decide (u.loadData = [9])) = true ∧
    (let s := { lined with pools := [(0, ⟨0, 1⟩)], loadData := [1] }
     s.xlate 0 127 = .hbm 127 0 ∧ s.sliceDike 0 0 0 127 = 0x70 ∧ ok (exec (.sliceLoad 0 0 0 127 1 0) s) (fun u => u.loadData.isEmpty) = true) := by
  refine ⟨buffersOk_empty rfl rfl, ?_⟩; decide +kernel

theorem wit_Stores : lined.fresh 0 = false ∧ base.fresh 0 = true ∧ lined.sliceDike 0 0 1 0 = 0 ∧
    ok (exec (.sliceStore 0 0 0 0 (List.replicate 128 7)) lined) (fun u => u.sees 0 == 7 && u.sees 127 == 7 && u.sees 128 == 0) = true ∧
    ok (exec (.sliceStore 0 0 0 127 [7]) lined) (fun u => u.sees 126 == 0 && u.sees 127 == 7) = true ∧
    ok (exec (.sliceStore 0 0 0 127 [7]) base) (fun u => u.sees 127 == 0 && decide (u.zeroing = [0]) && u.waitSt.length == 1) = true := by decide +kernel

/-- The command of a MOVE STORE in tile 0's store path. -/
def storing : IssuedCmd := { word := wStore, index := 0, ord := 2, started := true }
/-- `lined` with a store of one byte on tile 0's store path. -/
def outgoing : State := lined.onT 0 (fun x => { x with task := .running, outs := [⟨1, 127, [7], 2⟩], dq := [(1, [storing])] })

theorem wit_Held : outgoing.buffersOk ∧ outgoing.xlate (outgoing.ownerOr 0) 127 = .hbm 127 0 ∧ outgoing.sliceDike 0 0 1 127 = 0 ∧ outgoing.heldRoom 0 = true ∧
    ok (exec (.heldStore 0 1) outgoing) (fun u => u.sees 127 == 9 && (u.tile 0).outs.isEmpty && (u.slice 0).held.length == 1) = true := by
  refine ⟨buffersOk_empty rfl rfl, ?_⟩; decide +kernel

/-- After the store is held: its command can commit. -/
def heldOne : State := after (exec (.heldStore 0 1) outgoing)

theorem wit_Commit : (mapGet (heldOne.tile 0).dq 1 []).head? = some storing ∧ storing.started = true ∧ storing.finished = false ∧ (heldOne.tile 0).outs = [] ∧
    (mapFind? heldOne.slices 0).isSome = true ∧ ((heldOne.slice 0).held.any (fun g => g.tile == 0 && g.path == 1 && g.ord == 2)) = true ∧
    ok (exec (.commit 0 1) heldOne) (fun u => u.sees 127 == 7 && (u.slice 0).held.isEmpty && (mapGet (u.tile 0).dq 1 []).all (·.finished)) = true := by decide +kernel

/-- `lined` with a committed store of byte 127 in slice 0. -/
def buffered : State := after (exec (.commit 0 1) heldOne)

theorem wit_Drain : ((buffered.slice 0).wcb.map (fun e => (e.line, e.img.length))) = [(0, 128)] ∧ buffered.sees 127 = 7 ∧
    ok (exec (.wcbDrainAge 0) buffered) (fun u => (u.slice 0).wcb.isEmpty && u.sees 127 == 7 && memGet u.hbm 127 == 7) = true ∧
    (let s := heldOne.onT 0 (fun x => { x with dq := [] })
     ok (exec (.discard 0 1) s) (fun u => (u.slice 0).held.isEmpty && u.sees 127 == 9) = true) := by decide +kernel

/-- `outgoing` where slice 0 has 32 held entries and 4 PROV lines of the oldest one's set. -/
def full : State := outgoing.setSlice 0 {
  held := (List.range 36).map (fun k => ⟨32768 * k, [], 0, 1, 0, 0, decide (32 ≤ k)⟩) }

theorem wit_ProvFull : full.heldRoom 0 = false ∧ full.xlate (full.ownerOr 0) 127 = .hbm 127 0 ∧ (full.tile 0).ofOrd 2 = some storing ∧ (full.tile 0).task = .running ∧
    ok (exec (.provFull 0 1) full) (fun u => (u.tile 0).task == .faulted && u.getF (pgSc 0) 0x18 0 31 16 == 0x1521) = true := by decide +kernel

theorem wit_Hbm : ok (exec (.nearInvalidate 3 0) { lined with inval := [(3, 0)] }) (fun u => u.inval.isEmpty) = true ∧ stays (exec (.nearInvalidate 3 0) lined) lined = true ∧
    mapFind? (lined.slice 0).lines 0 = none ∧ lined.fresh 0 = false ∧
    ok (exec (.hbmReadReturn 0 0 []) lined) (fun u => (mapFind? (u.slice 0).lines 0).isSome && u.poison.isEmpty) = true ∧
    ok (exec (.hbmReadReturn 0 3 []) lined) (fun u => decide (u.poison = [0])) = true ∧
    ok (exec (.freshZeroDone 221183) { base with zeroing := [221183] }) (fun u => decide (u.clean = [221183]) && u.zeroing.isEmpty) = true ∧
    ok (exec (.scrubZeroBlock 11) base) (fun u => decide (u.clean = [11 * 18432])) = true ∧
    ok (exec (.scrubZeroBlock 0) lined) (fun u => decide (u.clean = [1, 0])) = true ∧
    ok (exec (.patrolRead 11 0 []) base) (fun u => (u.stack 11).patrol == 1) = true ∧
    stays (exec (.patrolRead 11 0 []) (base.setF (pgHbmc 11) 0x128 0 7 0 0)) (base.setF (pgHbmc 11) 0x128 0 7 0 0) = true := by decide +kernel

/-- `lined` with operation `op` of type `ty` at the front of tile 0's atomic port, at address 124 of segment 0 (registers: s1 address, s2 operand). -/
def atomic (op ty : Nat) : State := lined.onT 0 (fun x => { x with
  task := .running, segs := [{ base := 0, bound := 0x1000, rd := true, wr := true, atom := true }], sb := [⟨true, true, 0, 0, 0, 2⟩],
  dq := [(8, [{ word := cmd0 10 op (1 + 2 * 2 ^ 5 + 3 * 2 ^ 15 + ty * 2 ^ 20) 0 0 (rSeg 1 1), index := 0, ord := 2, sregs := [(1, 120), (2, 1)] }])] })

theorem wit_Atomics : (match (atomic 0 0).atomFront 0 with | some (_, sz, .ok da, _) => sz == 4 && da == 120 | _ => false) = true ∧
    (atomic 0 0).buffersOk ∧ (atomic 0 0).sliceDike 0 0 2 120 = 0 ∧ (atomic 0 0).fresh 120 = false ∧
    ok (exec (.sliceAtomic 0) { atomic 0 0 with hbm := [(120, 255), (127, 9)] }) (fun u => u.sees 120 == 0 && u.sees 121 == 1 && u.sees 127 == 9 &&
      (mapGet (u.tile 0).dq 8 []).all (fun k => k.finished && decide (k.data = natLE 8 255))) = true := by
  refine ⟨by decide +kernel, buffersOk_empty rfl rfl, ?_⟩; decide +kernel

theorem test_atomFn : atomFn 0 0 (2 ^ 32 - 1) 2 0 = 1 ∧ atomFn 1 0 5 (2 ^ 32 - 1) 0 = 2 ^ 32 - 1 ∧ atomFn 2 0 5 (2 ^ 32 - 1) 0 = 5 ∧ atomFn 3 0 5 6 5 = 6 ∧
    atomFn 3 0 5 6 4 = 5 ∧ atomFn 4 0 5 6 0 = 6 ∧ atomFn 5 0 (2 ^ 32 - 1) 0 0 = 0 ∧ atomFn 5 3 (2 ^ 64 - 1) 0 0 = 0 := by decide +kernel

theorem wit_Locks : (match (atomic 6 3).atomFront 0 with | some (_, sz, .ok da, _) => sz == 8 && da == 120 | _ => false) = true ∧ (atomic 6 3).sliceDike 0 0 2 120 = 0 ∧
    ok (exec (.lockOp 0) (atomic 6 3)) (fun u => (mapFind? (u.slice 0).locks 0).isSome && (mapGet (u.tile 0).dq 8 []).all (·.finished)) = true ∧
    (lockFn true [(0, { da := 120, ctx := 1, tile := 2 })] 120 1 3).2 = [(0, { da := 120, ctx := 1, tile := 2 })] ∧
    (lockFn false [(0, { da := 120, ctx := 1, tile := 2 })] 120 1 2).2 = [] ∧
    ok (exec (.lockFree 63) (base.setSlice 63 { locks := [(0, { da := 120, broken := true, ctx := 1, tile := 2 })] })) (fun u => (u.slice 63).locks.isEmpty) = true ∧
    ok (exec (.lockFree 63) (base.setSlice 63 { locks := [(0, { da := 120, ctx := 1, tile := 2 })] })) (fun u => (u.slice 63).locks.length == 1) = true := by decide +kernel

theorem wit_Placement : daPlace (12 * 0x9_0000_0000 - 1) = (0, 1, 63, 9215, 7) ∧ daStack (12 * 0x9_0000_0000 - 1) = 11 ∧
    daPlace (placeDa 11 31 1 63 9215 7) = (31, 1, 63, 9215, 7) := by decide +kernel

/-! Exchange, spill queues and snapshots. -/

/-- Tile 0 with a SEND of stream 7 at its front: polder 0 holds columns 0 of dies 0 and 1, the stream goes from ptile 0 to ptile 1 (tile 38). -/
def sending : State := (streamed (base.setTile 0 { task := .running, walkers := [(2, {})], dq := [(4, [{ word := wExch 0, index := 0, ord := 2 }])] })).setTile 38 {
  task := .running, walkers := [(2, {})], dq := [(4, [{ word := wExch 1, index := 0, ord := 2 }])] }

theorem wit_Exchange_slot : (sending.stream (sending.ownerOr 0) 7).isSome = true ∧ sending.tileOf 0 0 = some 0 ∧ sending.tileOf 0 1 = some 38 ∧ sending.handshake 0 = false ∧
    (sending.pol 0).stopped = false ∧ ((sending.tile 0).exchCmd 0 7).isSome = true ∧ (sending.tile 0).accessCode [] 0 0 512 512 0 false = 0 ∧
    (sending.tile 0).orderBad 0 false = false ∧
    ok (exec (.exchSlot 0 7 false []) { sending with scr := [(0, 5), (511, 6)] }) (fun u => decide (u.flight.map (fun l => (l.stream, l.idx, l.src, l.dst)) = [(7, 0, 0, 38)]) &&
      u.flight.all (fun l => l.bytes.head? == some 5 && l.bytes.getLast? == some 6)) = true ∧
    ok (exec (.exchSlot 0 7 true []) sending) (fun u => (u.tile 0).task == .faulted && (u.pol 0).stopped) = true ∧
    ok (exec (.exchSlot 0 7 false []) (sending.onT 0 (fun x => { x with dq := [] }))) (fun u => (u.tile 0).task == .faulted && (u.pol 0).stopped) = true := by decide +kernel

/-- A loaf of stream 7 for tile 38. -/
def loaf (stage : Nat) (hs : Bool) : XLoaf := { pol := 0, stream := 7, idx := 0, src := 0, dst := 38, handshake := hs, stage := stage, bytes := List.replicate 512 7 }

theorem wit_Exchange_arrival : ({ sending with flight := [loaf 3 false] }.loafFor 38 7 0 [3] = some (loaf 3 false)) ∧ ((sending.tile 38).exchCmd 1 7).isSome = true ∧
    (sending.tile 38).accessCode [] 0 0 512 512 1 false = 0 ∧ (sending.tile 38).orderBad 0 true = false ∧
    ok (exec (.exchLoafArrival 38 7 0) { sending with flight := [loaf 3 false] }) (fun u => u.flight.isEmpty && memGet u.scr (scrKey 38 0) == 7 && memGet u.scr (scrKey 38 511) == 7 &&
      memGet u.scr (scrKey 38 512) == 0) = true ∧
    ok (exec (.exchLoafArrival 38 7 0) { sending with flight := [{ loaf 3 false with dead := true }] }) (fun u => u.flight.isEmpty && u.scr.isEmpty) = true ∧
    ok (exec (.exchLoafArrival 38 7 0) { sending.onT 38 (fun x => { x with dq := [] }) with flight := [loaf 3 false] }) (fun u =>
      (u.tile 38).task == .faulted && (u.pol 0).stopped) = true := by decide +kernel

theorem wit_Exchange_cross :
    (let l : XLoaf := { loaf 1 false with dst := 1216 + 38 }
     sending.logCol 0 (tCol 0) = 0 ∧ ok (exec (.crossingSlot 0 0 false) { sending with flight := [l] }) (fun u => u.flight.map (·.stage) == [2]) = true ∧
     ok (exec (.crossingSlot 0 0 false) ({ sending with flight := [l] }.setF (pgD2d 0) 0x100 0 2 0 2)) (fun u => u.flight.map (·.stage) == [3]) = true) ∧
    ok (exec (.xpCrossLate 38 7 0) { sending with flight := [loaf 2 false] }) (fun u => (u.tile 38).task == .faulted && (u.pol 0).stopped && u.flight.isEmpty) = true ∧
    (let s := sending.setAct (pgTile 38) 0xB00 0 1
     s.handshake 38 = true ∧ s.creditOut 38 < 4 ∧ ((s.tile 0).exchCmd 0 7).isSome = true ∧
     ok (exec (.handshakeCredit 38 7 []) (s.onT 0 (fun x => { x with dq := [] }))) (fun u => mapGet (u.tile 38).xp.credits 7 0 == 1) = true) := by decide +kernel

/-- Tile 0's port has one payload loaf for queue 0, which holds `n` loaves in its tail. -/
def pushing (n : Nat) : State := (base.setTile 0 { task := .running, sqOut := [⟨0, 1, 0, 0, true, [7], 2⟩], dq := [(7, [{ word := wSq 1, index := 0, ord := 2, started := true }])] }).setSq 0 {
  prod := some 0, openPkt := some (0, 0), mid := [{ hdr := false, bytes := [1] }], segs := [(1, 0)], head := List.replicate 8 { hdr := false, bytes := [0] },
  tail := List.replicate n { hdr := false, bytes := [2] }, asked := true }

theorem wit_Spill_tail : ok (exec (.sqTailArrival 0) (pushing 7)) (fun u => (u.sq 0).all.length == 17 && (u.tile 0).sqOut.isEmpty) = true ∧
    stays (exec (.sqTailArrival 0) (pushing 8)) (pushing 8) = true ∧
    ok (exec (.sqMiddleRefill 0 false) (pushing 8)) (fun u => decide ((u.sq 0).all = ((pushing 8).sq 0).all)) = true ∧
    ok (exec (.sqMiddleRefill 0 true) (pushing 8)) (fun u => (u.sq 0).error) = true ∧
    ok (exec (.sqFlush 255) (base.setSq 255 { gen := 63, tail := [{ hdr := false, bytes := [2] }] })) (fun u => decide (u.sq 255 = {})) = true ∧
    ok (exec (.sqFlush 0) ((pushing 8).setSq 0 { gen := 1 })) (fun u => u.getF (pgSq 0) 0x18 0 31 16 == 0x1647) = true := by decide +kernel

/-- `s` with an active pool of one field for polder 0, and `n` segments at most for queue 0. -/
def pooled (n : Nat) (s : State) : State := { s.setAct (pgSq 0) 0x104 0 (BitVec.ofNat 64 n) with pools := [(0, ⟨0, 1⟩)] }

theorem wit_Spill_pool : ((pooled 2 (pushing 8)).sq 0).asked = true ∧ (pooled 2 (pushing 8)).segAvail 0 = true ∧
    ok (exec (.sqSegmentRequest 0) (pooled 2 (pushing 8))) (fun u => (u.sq 0).segs.length == 2) = true ∧ (pooled 1 (pushing 8)).segAvail 0 = false ∧
    (pushing 8).owner 4 0 = some 0 ∧ (pushing 8).tileOfSrc 0 = some 0 ∧ ((pushing 8).tile 0).ofOrd 2 ≠ none ∧
    ok (exec (.poolEmpty 0) (pooled 1 (pushing 8))) (fun u => u.getF (pgSq 0) 0x18 0 31 16 == 0x1645) = true := by decide +kernel

/-- Tile 0 with a SNAP in its engine; its image snapshots loaf 0 in set 0, and block 0 is clean. -/
def snapping : State :=
  ((regioned { lined with scr := [(0, 5)] }).setTile 0 { task := .running, dq := [(9, [{ word := wSnap, index := 0, ord := 2, started := true }])] }).setPol 0 {
    image := some { tiles := [⟨0, 0, 0, 0, 0, 0, 0, 0⟩], snaps := [⟨0, 0, 0, 1⟩] }, snaps := [(0, { issued := [0], opened := true, busy := true })] }

theorem wit_Snapshot : ((snapping.pol 0).image).isSome = true ∧ snapping.upsets = [] ∧ (mapGet (snapping.pol 0).snaps 0 {}).opened = true ∧ snapping.storesLeft 0 2 = false ∧
    snapping.snapSlot 0 0 (snapping.snapOpen 0 0) = 0 ∧ (List.range 1536).all (fun a => decide (snapping.xlate 0 a = .hbm a 0) && snapping.sliceDike 0 2 1 a == 0) = true ∧
    ok (exec (.snapCopyComplete 0) snapping) (fun u => decide ((mapGet (u.pol 0).snaps 0 {}).completed = [0]) && (mapGet (u.tile 0).dq 9 []).isEmpty && u.sees 1024 == 5) = true := by
  decide +kernel
/-! The kneader. -/

/-- `s` with node 0 of a 4 × 1 × 1 torus, polder 0's slice of 1 × 1 × 1 and its fabric tenant ID 5. -/
def net (s : State) : State := ((((s.setF pgDev 0x200 0 16 16 1).setReg pgDev 0x204 0 (BitVec.ofNat 64 (4 + 1 * 2 ^ 6 + 1 * 2 ^ 12))).setAct pgPld 0x118 0
  (BitVec.ofNat 64 (1 * 2 ^ 14 + 1 * 2 ^ 19 + 1 * 2 ^ 25))).setAct pgPld 0x114 0 5)

/-- A declaration of descriptor 255 of kneader slot rank 0: kind `kind`, FP32, tile 0, loaf 0 to loaf 1. -/
def decl (kind : Nat) : KDecl := ⟨0, 255, kind, 0, 0, 9, 0, 1, 0, 1, 1, 1, 1, 1⟩

/-- Polder 0's image declares `decl kind`, and descriptor 255 of slot 0 is selected and staged; `form` is its byte 3. -/
def posting (kind form : Nat) : State :=
  let s := (net base).setPol 0 { image := some { tiles := [⟨0, 0, 0, 0, 0, 0, 0, 0⟩], kneads := [decl 1] } }
  let w (s : State) (k v : Nat) : State := s.setF (pgKnd 0) (0x120 + 4 * k) 0 31 0 v
  w (w (w (w (w (w (w (s.setReg (pgKnd 0) 0x110 0 0xFF00) 0 (kind + form * 2 ^ 24)) 1 0xFFFF) 2 1) 3 (1 + 1 * 2 ^ 16)) 4 1) 5 1) 6 0x010101

theorem wit_Kneader_post : (posting 1 0).slotThrough 0 0 0 = some 0 ∧ (posting 1 0).slotPol 0 0 = some 0 ∧ declMatch (decl 1) (postDesc ((posting 1 0).staged64 0)) = true ∧
    (posting 1 0).postForm 0 ((posting 1 0).staged64 0) (postDesc ((posting 1 0).staged64 0)) = true ∧ (posting 1 0).kinst 0 255 = none ∧
    ((posting 1 0).kdesc 0 0 255).ready < (postDesc ((posting 1 0).staged64 0)).readyCount ∧
    ok (exec (.kndPost 0 0) (posting 1 0)) (fun u => (u.kdesc 0 0 255).valid && u.getF (pgKnd 0) 0x164 0 31 16 == 0) = true ∧
    declMatch (decl 1) (postDesc ((posting 4 0).staged64 0)) = false ∧
    ok (exec (.kndPost 0 0) (posting 4 0)) (fun u => u.getF (pgKnd 0) 0x164 0 31 16 == 0x1241 && !(u.kdesc 0 0 255).valid) = true ∧
    (posting 1 1).postForm 0 ((posting 1 1).staged64 0) (postDesc ((posting 1 1).staged64 0)) = false ∧
    ok (exec (.kndPost 0 0) (posting 1 1)) (fun u => u.getF (pgKnd 0) 0x164 0 31 16 == 0x1240) = true ∧
    ok (exec (.kndPost 0 0) ((posting 1 0).setKinst 0 255 { desc := 255, num := 1, state := 2 })) (fun u => u.getF (pgKnd 0) 0x164 0 31 16 == 0x1242) = true := by
  decide +kernel

/-- Tile 0 has a KFLAG of 1 in its trigger queue; descriptor 255 is a global barrier of one device that needs `n`. -/
def flagging (n : Nat) : State := (net (base.setTile 0 { task := .running, dq := [(5, [{ word := wKflag, index := 0, ord := 2 }])] })).setKnd 0 {
  descs := [(255, { valid := true, kind := 6, readyCount := n })] }

theorem wit_Kneader_kflag : (flagging 2).kOf 0 wKflag.toNat = some (0, 0, 255) ∧ (flagging 2).slotPol 0 0 = some 0 ∧
    ok (exec (.kflagAccept 0) (flagging 2)) (fun u => (u.kdesc 0 0 255).ready == 1 && (mapGet (u.tile 0).dq 5 []).isEmpty && u.kinst 0 255 == none) = true ∧
    (flagging 1).kdims 0 ((flagging 1).kdesc 0 0 255) = [] ∧ (flagging 1).quiesced 0 0 = false ∧ ((flagging 1).pol 0).stopped = false ∧ (flagging 1).kinst 0 255 = none ∧
    ok (exec (.kflagAccept 0) (flagging 1)) (fun u => (u.kdesc 0 0 255).ready == 0 && (u.kinst 0 255).map (fun i => (i.num, i.state, i.doneAt)) == some (1, 2, some 0)) = true := by
  decide +kernel

/-- A message of type `ty` for descriptor 255, instance 1 of the tenant's slot rank `slot`. -/
def msg (ty slot : Nat) : KMsg := ⟨5, ty, slot, 255, 0, 1, 0, 0⟩
/-- `m` waits at kneader 0 while instance 1 of descriptor 255, in state `st` (0: none), has half 0; `gx` is the group's size. -/
def told (m : KMsg) (st gx : Nat) : State := (net (base.setAct pgPld 0x118 0 (BitVec.ofNat 64 (2 * 2 ^ 14 + 1 * 2 ^ 19 + 1 * 2 ^ 25)))).setKnd 0 {
  descs := [(255, { valid := true, kind := 1, readyCount := 1, gx := gx, srcLen := 1, ptiles := 1, done := 0 })], inMsgs := [(0, 7, m)],
  insts := if st = 0 then [] else [(255, { desc := 255, num := 1, state := st, half := 0, readySent := [0], sent := true, buf := List.replicate 4 { bytes := zeros 512 } })] }

theorem wit_Kneader_msgs_stray : [(1, Instr.kndReady 0), (2, .kndArrive 0), (3, .kndDone 0), (4, .kndAbortMsg 0)].all (fun r =>
    stays (exec r.2 base) base && ok (exec r.2 (told (msg r.1 63) 0 1)) (fun u => (u.knd 0).inMsgs.isEmpty && u.getF (pgKnd 0) 0x1A4 0 31 0 == 1) &&
    (told (msg r.1 63) 0 1).slotFor 0 5 63 == none) = true := by decide +kernel

theorem wit_Kneader_msgs_over : [(1, Instr.kndReady 0), (2, .kndArrive 0), (3, .kndDone 0), (4, .kndAbortMsg 0)].all (fun r =>
    let s := told { msg r.1 0 with inst := 0 } 0 1
    s.slotFor 0 5 0 == some (0, 0) && !s.passes 0 (s.kdesc 0 0 255) { msg r.1 0 with inst := 0 } 0 && s.msgFate 0 255 0 == 2 &&
    ok (exec r.2 s) (fun u => (u.knd 0).inMsgs.isEmpty)) = true := by decide +kernel

theorem wit_Kneader_msgs_wave : [(2, Instr.kndArrive 0), (3, .kndDone 0)].all (fun r =>
    let s := told (msg r.1 0) 2 1
    !s.passes 0 (s.kdesc 0 0 255) (msg r.1 0) 0 && (msg r.1 0).origin == (s.kpos 0 (s.kdesc 0 0 255) 0 + 1) % s.kgroup 0 (s.kdesc 0 0 255) 0 &&
    ok (exec r.2 s) (fun u => (u.kinst 0 255).map (fun i => (i.seen, i.lagR)) == some ([(r.1, 0, 0)], if r.1 = 2 then [7] else []))) = true := by decide +kernel

theorem wit_Kneader_msgs_ready : let s := told (msg 1 0) 2 2
    s.passes 0 (s.kdesc 0 0 255) (msg 1 0) 0 = false ∧ (s.kdims 0 (s.kdesc 0 0 255))[0]? = some 0 ∧ 0 < s.kgroup 0 (s.kdesc 0 0 255) 0 - 1 ∧
    (s.kinst 0 255).all (fun i => decide (i.got.length < ((s.stepIn 0 (s.kdesc 0 0 255) i 0).map (partLen 0)).foldl (· + ·) 0)) = true ∧
    ok (exec (.kndReady 0) s) (fun u => (u.kinst 0 255).map (fun i => (i.readySeen, i.state)) == some ([0], 2)) = true := by decide +kernel

theorem wit_Kneader_msgs_abort : ok (exec (.kndAbortMsg 0) (told (msg 4 0) 2 1)) (fun u => (u.pol 0).stopped && (u.kinst 0 255).map (·.state) == some 5) = true := by
  decide +kernel

/-- A DATA flit of descriptor 255 of the tenant's slot rank `slot`. -/
def flit (slot : Nat) : Flit := { res := false, dst := 0, dstDie := 0, src := 0, srcDie := 0, ftid := 5, kword := slot + 255 * 64, payload := zeros 512 }
/-- `told`, with a flit in place of the message. -/
def flew (slot st : Nat) : State := let s := told (msg 1 0) st 2; s.setKnd 0 { s.knd 0 with inMsgs := [], inFlits := [flit slot] }

theorem wit_Kneader_flits : (flew 63 2).slotFor 0 5 63 = none ∧
    ok (exec (.kndDataFlit 0) (flew 63 2)) (fun u => (u.knd 0).inFlits.isEmpty && u.getF (pgKnd 0) 0x1A4 0 31 0 == 1) = true ∧
    (flew 0 5).slotFor 0 5 0 = some (0, 0) ∧ (flew 0 5).flitFate 0 0 0 (flit 0) = 2 ∧ ok (exec (.kndDataFlit 0) (flew 0 5)) (fun u => (u.knd 0).inFlits.isEmpty) = true ∧
    (let s := flew 0 2
     s.slotPol 0 0 = some 0 ∧ bitsOf (flit 0).kword 15 14 = 0 ∧ bitsOf (flit 0).kword 16 16 = 0 ∧ bitsOf (flit 0).kword 21 17 = 0 ∧ bitsOf (flit 0).kword 13 6 = 255 ∧
     (s.kinst 0 255).all (fun i => decide (i.got.length + 1 < ((s.stepIn 0 (s.kdesc 0 0 255) i 0).map (partLen 0)).foldl (· + ·) 0)) = true ∧
     ok (exec (.kndDataFlit 0) s) (fun u => (u.kinst 0 255).map (fun i => (i.got.length, i.state)) == some (1, 2)) = true) := by decide +kernel

/-- A one-device instance of descriptor 255 in state `st` with its result, of tile 0's loaf 1; block 0 is clean. -/
def resulting (st : Nat) : State := (net { lined with hbm := [(0, 6)] }).setKnd 0 {
  descs := [(255, { valid := true, kind := 1, readyCount := 1, srcLen := 1, dstLo := 1, dstLen := 1, ptiles := 1 })],
  insts := [(255, { desc := 255, num := 1, state := st, buf := [{ bytes := List.replicate 512 3 }] })] }

theorem wit_Kneader_commit : (resulting 2).firstInst 0 0 (fun x i => i.state == 2 && i.half == 4 && !x.barrier) = some 255 ∧
    (resulting 2).kdims 0 ((resulting 2).kdesc 0 0 255) = [] ∧
    (List.range 512).all (fun a => decide ((resulting 2).xlate 0 a = .hbm a 0) && (resulting 2).sliceDike 0 1 1 a == 0 && (resulting 2).sliceDike 0 1 0 a == 0) = true ∧
    ok (exec (.kndShadowComplete 0 0) (resulting 2)) (fun u => (u.kinst 0 255).map (fun i => (i.state, i.buf)) == some (4, []) && u.sees 511 == 3) = true ∧
    (resulting 4).firstInst 0 0 (fun _ i => i.state == 4) = some 255 ∧ (resulting 4).tileOf 0 0 = some 0 ∧ ((resulting 4).tile 0).task ≠ .clearing ∧
    ((resulting 4).tile 0).orderBad 512 true = false ∧
    ok (exec (.kndCommitComplete 0 0) (resulting 4)) (fun u => (u.kdesc 0 0 255).done == 1 && (u.kinst 0 255).map (·.state) == some 0 && memGet u.scr 512 == 6 &&
      memGet u.scr 511 == 0 && u.reg (pgKnd 0) 0x178 0 == 1) = true := by decide +kernel

theorem wit_Kneader_aborts : ok (exec (.kndAbort 0 0) (resulting 2)) (fun u => (u.kinst 0 255).map (·.state) == some 5 && (u.pol 0).stopped) = true ∧
    ok (exec (.kndQuiesce 0 0 255) base) (fun u => (u.knd 0).quiesce == some (0, 255)) = true ∧
    stays (exec (.kndQuiesce 0 0 1) (base.setKnd 0 { quiesce := some (1, 3) })) (base.setKnd 0 { quiesce := some (1, 3) }) = true ∧
    stays (exec (.quiesceExpiry 0) (base.setKnd 0 { quiesce := some (0, 1) })) (base.setKnd 0 { quiesce := some (0, 1) }) = true ∧
    ok (exec (.quiesceExpiry 0) (base.setKnd 0 { quiesce := some (0, 0) })) (fun u => (u.knd 0).quiesce == none) = true := by decide +kernel

/-- An instance of slot 0 past its deadline of one frame; `ab` is the slot's abort bit. -/
def overdue (ab : Nat) : State := ((net base).setReg (pgKnd 0) 0x108 0 (BitVec.ofNat 64 (1 + ab * 65536))).setKnd 0 {
  descs := [(255, { valid := true, kind := 1 })], insts := [(255, { desc := 255, num := 1, state := 2, frames := 1 })] }

theorem wit_Kneader_deadline : (overdue 0).firstInst 0 0 (fun _ i => i.active && i.state != 4 && i.doneAt.isNone && !i.late && decide ((overdue 0).getF (pgKnd 0) 0x108 0 15 0 ≠ 0) &&
      decide ((overdue 0).getF (pgKnd 0) 0x108 0 15 0 ≤ i.frames)) = some 255 ∧
    ok (exec (.kndDeadline 0 0) (overdue 0)) (fun u => (u.kinst 0 255).map (·.late) == some true && u.getF (pgKnd 0) 0x18 0 31 16 == 0x1247 && !(u.pol 0).stopped) = true ∧
    ok (exec (.kndDeadline 0 0) (overdue 1)) (fun u => (u.kinst 0 255).map (·.state) == some 5 && (u.pol 0).stopped) = true := by decide +kernel

/-- Tiles 0 and 38 are the members of frame barrier 9 (descriptor 255); both run, tile 0 stands at it, and the instance has `i`. -/
def barred (i : KInst) (beat : Nat) : State :=
  (((net { base with beat := beat }).setTile 0 { task := .running, fbarAt := some 9, cmdIndex := 3, cmdrLen := 16 }).setTile 38 { task := .running }).setPol 0 {
    image := some { stepBar := 0xFFFF, tiles := [⟨0, 0, 0, 0, 0, 0, 0, 0⟩, ⟨1, 0, 0, 0, 0, 0, 0, 0⟩], kneads := [{ decl 7 with ptiles := 2 }] } } |>.setKnd 0 {
    descs := [(255, { valid := true, kind := 7, ptiles := 2, readyCount := 1 })], insts := [(255, i)] }

theorem wit_Barriers_arrive : (barred { desc := 255, num := 1, state := 2 } 0).barHome 0 9 = some (0, 255) ∧ (barred { desc := 255, num := 1, state := 2 } 0).ownerOr 0 = 0 ∧
    (barred { desc := 255, num := 1, state := 2 } 0).tileOf 0 1 = some 38 ∧
    ok (exec (.fbarArrival 0) (barred { desc := 255, num := 1, state := 2 } 0)) (fun u => (u.kinst 0 255).map (fun i => (i.arrived, i.doneAt)) == some ([0], none)) = true ∧
    (barred { desc := 255, num := 1, state := 2, arrived := [38] } 5).kdims 0 ((barred { desc := 255, num := 1, state := 2, arrived := [38] } 5).kdesc 0 0 255) = [] ∧
    ok (exec (.fbarArrival 0) (barred { desc := 255, num := 1, state := 2, arrived := [38] } 5)) (fun u =>
      (u.kinst 0 255).map (fun i => (i.arrived, i.doneAt)) == some ([38, 0], some 5)) = true := by decide +kernel

/-- Barrier 9 complete at beat 5, with tile 0 arrived. -/
def complete (beat : Nat) : State := barred { desc := 255, num := 1, state := 2, arrived := [0], doneAt := some 5 } beat

theorem wit_Barriers_release : (complete 8).slotPol 0 0 = some 0 ∧ ((complete 8).pol 0).gateHolds 9 = false ∧ ((complete 8).pol 0).releaseAt 9 5 = releaseBeat 5 ∧
    (complete (releaseBeat 5)).firstInst 0 0 (fun x i => x.kind == 7 && i.active && (match i.doneAt with | some c => decide (releaseBeat c ≤ releaseBeat 5) | none => false)) = some 255 ∧
    ok (exec (.frameBarrierRelease 0 0) (complete (releaseBeat 5))) (fun u => (u.tile 0).fbarAt == none && (u.tile 0).beatRef == releaseBeat 5 && (u.kdesc 0 0 255).done == 1) = true ∧
    stays (exec (.frameBarrierRelease 0 0) (complete (releaseBeat 5 - 1))) (complete (releaseBeat 5 - 1)) = true := by decide +kernel

/-- A global barrier that completed at beat 5. -/
def global (beat : Nat) : State := (net { base with beat := beat }).setKnd 0 {
  descs := [(255, { valid := true, kind := 6, readyCount := 1 })], insts := [(255, { desc := 255, num := 1, state := 2, doneAt := some 5 })] }

theorem wit_Barriers_global : ok (exec (.barrierCompletion 0 0) (global 9)) (fun u => (u.kdesc 0 0 255).done == 1 && (u.kinst 0 255).map (·.state) == some 0) = true ∧
    stays (exec (.barrierCompletion 0 0) (global 8)) (global 8) = true := by decide +kernel

/-! Links. -/

/-- Port `pt` in a state, enabled and with its cable. -/
def linked (pt st : Nat) : State := ((net base).setF (pgLnk pt) 0x100 0 2 0 st).setPort pt { present := true }

/-- A control flit whose identity word is `id`. -/
def ctlOf (id : Nat) : List Byte := zeros 0x30 ++ natLE 4 id ++ zeros 0x200

theorem wit_Ports_train : (linked 31 0).getF (pgLnk 31) 0x104 0 0 0 = 1 ∧ ok (exec (.lnkSignalDetect 31) (linked 31 0)) (fun u => u.lnkState 31 == 1 && (u.port 31).tries == 1) = true ∧
    stays (exec (.lnkSignalDetect 31) (linked 31 1)) (linked 31 1) = true ∧
    ok (exec (.fullTrainingEnd 31 true) (linked 31 1)) (fun u => u.lnkState 31 == 2 && decide ((u.port 31).credits = [160, 160, 32, 32]) && (u.port 31).present) = true ∧
    ok (exec (.fullTrainingEnd 31 false) ((linked 31 1).setPort 31 { tries := 2 })) (fun u => u.lnkState 31 == 1 && (u.port 31).tries == 1) = true ∧
    ok (exec (.fullTrainingEnd 31 false) (linked 31 1)) (fun u => u.lnkState 31 == 0 && u.getF (pgLnk 31) 0x18 0 31 16 == 0x1310) = true ∧
    stays (exec (.fullTrainingEnd 31 true) (linked 31 3)) (linked 31 3) = true ∧
    (linked 31 2).nodeValid = true ∧ bitOf ((linked 31 2).wantPeer 31) 19 = true ∧ ctl (ctlOf ((linked 31 2).wantPeer 31)) 0x30 4 % 2 ^ 21 = (linked 31 2).wantPeer 31 ∧
    ok (exec (.lnkCtlFlit 31 true (ctlOf ((linked 31 2).wantPeer 31))) (linked 31 2)) (fun u => u.lnkState 31 == 3) = true ∧
    ok (exec (.lnkCtlFlit 31 true (ctlOf (2 ^ 19))) (linked 31 2)) (fun u => u.lnkState 31 == 5 && u.getF (pgLnk 31) 0x18 0 31 16 == 0x1313) = true ∧
    stays (exec (.lnkCtlFlit 31 false []) (linked 31 2)) (linked 31 2) = true := by decide +kernel

/-- A flit with an lseq for node 1. -/
def dataFlit (n : Nat) : Flit := { flit 0 with lseq := n, dst := 1024 }
/-- Port 0 UP with a flit to replay; port 8, its sibling on die 1, is polder 0's too and in state `st`. -/
def paired (st : Nat) : State :=
  { ((((linked 0 3).setF (pgLnk 8) 0x100 0 2 0 st).setAct pgPld 0x104 (2 * 4096 + 8) 64).setPort 0 { present := true, replay := [dataFlit 9] }) with rt := [(1024, 61)] }

theorem wit_Ports_leave : (paired 3).owner 2 0 = some 0 ∧ (paired 3).sibling 0 0 [dataFlit 9] = some 8 ∧
    ok (exec (.lnkLockLoss 0) (paired 3)) (fun u => u.lnkState 0 == 4 && (u.port 0).left && u.getF (pgLnk 0) 0x100 0 22 18 == 8 && u.getF (pgLnk 0) 0x18 0 31 16 == 0x1316) = true ∧
    (paired 0).sibling 0 0 [dataFlit 9] = none ∧
    ok (exec (.lnkLockLoss 0) (paired 0)) (fun u => u.lnkState 0 == 4 && (u.port 0).replay.isEmpty && u.getF (pgLnk 0) 0x18 0 31 16 == 0x1317) = true ∧
    stays (exec (.lnkLockLoss 31) (linked 31 0)) (linked 31 0) = true ∧ ok (exec (.lnkRetrain 0) (paired 0)) (fun u => u.lnkState 0 == 4) = true ∧
    stays (exec (.lnkRetrain 31) (linked 31 4)) (linked 31 4) = true ∧
    ok (exec (.lnkEnable 31 false) (linked 31 0)) (fun u => u.lnkState 31 == 6 && u.getF (pgLnk 31) 0x104 0 0 0 == 0) = true ∧
    ok (exec (.lnkEnable 31 true) (linked 31 6)) (fun u => u.lnkState 31 == 0) = true ∧
    ok (exec (.cblPrsntChange 0 false) (paired 0)) (fun u => u.lnkState 0 == 0 && !(u.port 0).present && u.getF (pgLnk 0) 0x18 0 31 16 == 0x1310) = true := by decide +kernel

theorem wit_Ports_retrain : ok (exec (.retrainEnd 31 true 0 0) (linked 31 4)) (fun u => u.lnkState 31 == 3 && u.getF (pgLnk 31) 0x100 0 4 3 == 0 && u.getF (pgLnk 31) 0x18 0 31 16 == 0x1319) = true ∧
    ok (exec (.retrainEnd 31 true 255 0) ((linked 31 4).setF (pgLnk 31) 0x108 0 8 8 1)) (fun u => u.lnkState 31 == 3 && u.getF (pgLnk 31) 0x100 0 4 3 == 3) = true ∧
    ok (exec (.retrainEnd 31 true 255 255) (linked 31 4)) (fun u => u.lnkState 31 == 1) = true ∧ ok (exec (.retrainEnd 31 false 0 0) (linked 31 4)) (fun u => u.lnkState 31 == 1) = true ∧
    stays (exec (.retrainEnd 31 true 0 0) (linked 31 3)) (linked 31 3) = true ∧
    (let s := ((paired 3).setF (pgLnk 0) 0x100 0 17 17 1).setF (pgLnk 0) 0x100 0 22 18 8
     ok (exec (.portRestored 0) s) (fun u => u.getF (pgLnk 0) 0x100 0 17 17 == 0 && u.getF (pgLnk 0) 0x18 0 31 16 == 0x1312) = true ∧
     stays (exec (.portRestored 0) (s.setPort 8 { replay := [dataFlit 1] })) (s.setPort 8 { replay := [dataFlit 1] }) = true) ∧
    stays (exec (.portRestored 31) (linked 31 0)) (linked 31 0) = true := by decide +kernel

/-- The header of a DATA_BE flit of tenant `ft` from and to node 0, lseq 0, fseq `fs`. -/
def hdr (ft fs : Nat) : Nat := 2 + ft * 2 ^ 48 + fs * 2 ^ 80
/-- Port 0 UP, with the flow of `hdr 5 _` known and expecting 7. -/
def flowing : State := { linked 0 3 with flows := [(0, [((flitOf (hdr 5 0) []).flow, { epoch := 0, expected := 7 })])] }

theorem wit_Ports_flits : bitsOf (hdr 5 7) 2 0 = 2 ∧ (flitOf (hdr 5 7) []).lseq = 0 ∧
    (flowing.ftidPols 5).find? (fun p => flowing.holdsPort p 0 && flowing.inSlice p 0) = some 0 ∧ flowing.nextHop 0 0 = none ∧
    ok (exec (.lnkDataFlit 0 true (hdr 5 7) [] 0xE000) flowing) (fun u => (u.port 0).expSeq == 1 && (u.knd 0).inFlits.length == 1) = true ∧
    ok (exec (.lnkDataFlit 0 true (hdr 5 8) [] 0xE000) flowing) (fun u => (u.port 0).expSeq == 1 && (u.knd 0).inFlits.isEmpty) = true ∧
    ok (exec (.lnkDataFlit 0 true (hdr 6 7) [] 0xE000) flowing) (fun u => (u.port 0).expSeq == 1 && (u.knd 0).inFlits.isEmpty && u.getF (pgLnk 0) 0x148 0 31 0 == 1) = true ∧
    ok (exec (.lnkDataFlit 0 false (hdr 5 7) [] 0) flowing) (fun u => (u.port 0).badSeq == some 0 && (u.port 0).discarding) = true ∧
    ok (exec (.lnkDataFlit 0 false (hdr 5 7) [] 0) (flowing.setPort 0 { badSeq := some 0 })) (fun u => u.lnkState 0 == 4) = true ∧
    stays (exec (.lnkDataFlit 0 true (hdr 5 7 + 16) [] 0) flowing) flowing = true := by decide +kernel

theorem wit_Ports_ctl : let s := (linked 0 3).setPort 0 { replay := [dataFlit 0, dataFlit 1] }
    ok (exec (.lnkCtlFlit 0 true (zeros 0x20 ++ natLE 8 3 ++ natLE 8 4 ++ natLE 4 (s.wantPeer 0) ++ zeros 0x200)) s) (fun u => u.lnkState 0 == 3 &&
      decide ((u.port 0).replay = [dataFlit 1])) = true ∧
    bitOf (ctl (zeros 0x20 ++ natLE 8 3 ++ natLE 8 4 ++ natLE 4 (s.wantPeer 0) ++ zeros 0x200) 0x10 4) 12 = false := by decide +kernel

theorem wit_Torus : base.anyUp = false ∧ ok (exec (.devNodeWrite 0x13FFF) base) (fun u => u.getF pgDev 0x200 0 13 0 == 0x3FFF && u.getF pgDev 0x200 0 16 16 == 1) = true ∧
    ok (exec (.devTorusWrite 0x3FFFF) base) (fun u => u.getF pgDev 0x204 0 17 0 == 0x3FFFF) = true ∧ (linked 31 3).anyUp = true ∧
    ok (exec (.devNodeWrite 1) (linked 31 3)) (fun u => u.getF pgDev 0x18 0 31 16 == 0x0131 && u.getF pgDev 0x200 0 13 0 == 0) = true ∧
    ok (exec (.devTorusWrite 1) (linked 31 3)) (fun u => u.getF pgDev 0x18 0 31 16 == 0x0131) = true ∧
    ok (exec (.routeTableWrite 16383 63) { base with untrusted := [7 * 65536 + 16383] }) (fun u => (List.range 4).all (fun d => mapGet u.rt (d * 16384 + 16383) 0 == 63) && u.untrusted.isEmpty) = true ∧
    ok (exec (.frameLoad (2 ^ 63 + 5)) base) (fun u => u.frameLoad == some 5) = true ∧
    ok (exec (.frameLoad (2 ^ 63 + 5)) { base with armF := some 3 }) (fun u => u.frameLoad == none && u.getF pgDev 0x18 0 31 16 == 0x0130) = true ∧
    stays (exec (.frameLoad 5) base) base = true := by decide +kernel

/-! Die-to-die links. -/

/-- Instance `i` and its peer UP with 8 bundles. -/
def d2dUp (i : Nat) : State :=
  [i, d2dPeer i].foldl (fun (s : State) k => (s.setF (pgD2d k) 0x100 0 2 0 2).setF (pgD2d k) 0x100 0 11 8 8) base

theorem wit_D2d_flits : (d2dUp 7).d2dUp 7 = true ∧ (d2dUp 7).getF (pgD2d 7) 0x110 7 28 28 = 0 ∧ ((d2dUp 7).d2dl 7).laneErr = [] ∧
    ok (exec (.d2dFlit 7 4 0 3 5 7 [] false) (d2dUp 7)) (fun u => mapFind? (u.d2dl 6).accepted ((0 * 4 + 3) * 8 + 4) == some 5) = true ∧
    ok (exec (.d2dFlit 7 4 0 3 5 7 [] false) ((d2dUp 7).setD2d 6 { accepted := [((0 * 4 + 3) * 8 + 4, 5)] })) (fun u => (u.d2dl 6).accepted == [((0 * 4 + 3) * 8 + 4, 5)]) = true ∧
    ok (exec (.d2dFlit 7 4 0 3 5 7 [] true) (d2dUp 7)) (fun u => (u.d2dl 7).failedOnce == [((0 * 4 + 3) * 8 + 4) * 65536 + 5] && u.reg (pgD2d (d2dPeer 7)) 0x118 0 == 1) = true ∧
    ok (exec (.d2dFlit 7 4 0 3 5 7 [] true) ((d2dUp 7).setD2d 7 { failedOnce := [((0 * 4 + 3) * 8 + 4) * 65536 + 5] })) (fun u => u.d2dState 7 == 3 &&
      u.d2dState (d2dPeer 7) == 3 && u.getF (pgD2d 7) 0x100 0 11 8 == 7 && u.getF (pgD2d 7) 0x110 7 28 28 == 1 && u.getF (pgD2d 7) 0x18 0 31 16 == 0x1102) = true := by decide +kernel

/-- Instance 7 spares lane 63 of bundle 7 by spare `sp`, at a stage. -/
def sparing (sp st : Nat) : State := (d2dUp 7).setD2d 7 { sparing := some (7, 63, sp, st) }

theorem wit_D2d_sparing : ok (exec (.d2dSpareReq 7 7 63) (sparing 0 0)) (fun u => (u.d2dl 7).sparing == some (7, 63, 0, 1)) = true ∧
    ok (exec (.d2dSpareTrained 7 true) (sparing 0 1)) (fun u => (u.d2dl 7).sparing == some (7, 63, 0, 2)) = true ∧ (sparing 0 1).freeSpare 7 7 1 = some 1 ∧
    ok (exec (.d2dSpareTrained 7 false) (sparing 0 1)) (fun u => (u.d2dl 7).sparing == some (7, 63, 1, 0)) = true ∧ (sparing 3 1).freeSpare 7 7 4 = none ∧
    ok (exec (.d2dSpareTrained 7 false) (sparing 3 1)) (fun u => u.getF (pgD2d 7) 0x110 7 28 28 == 1 && (u.d2dl 7).sparing == none) = true ∧
    ok (exec (.d2dSpareGo 7) (sparing 3 2)) (fun u => u.spareLane 7 7 3 == 63 && u.getF (pgD2d 7) 0x100 0 21 16 == 1) = true ∧
    stays (exec (.d2dSpareReq 7 7 63) (d2dUp 7)) (d2dUp 7) = true ∧ stays (exec (.d2dSpareTrained 7 true) (d2dUp 7)) (d2dUp 7) = true ∧
    stays (exec (.d2dSpareGo 7) (d2dUp 7)) (d2dUp 7) = true := by decide +kernel

theorem wit_D2d_links : [Instr.d2dNoFlitTimeout 7, .d2dFail 7].all (fun c => ok (exec c (d2dUp 7)) (fun u => u.d2dState 7 == 4 && u.d2dState (d2dPeer 7) == 4)) = true ∧
    stays (exec (.d2dNoFlitTimeout 7) base) base = true ∧
    (let s := after (exec (.d2dFail 7) (d2dUp 7))
     stays (exec (.d2dFail 7) s) s = true ∧ ok (exec (.d2dRetrain 7) s) (fun u => u.d2dState 7 == 1 && u.d2dState (d2dPeer 7) == 1 && (u.d2dl 7).retraining) = true ∧
     ok (exec (.linkRestored 7) (after (exec (.d2dRetrain 7) s))) (fun u => u.d2dState 7 == 2 && u.d2dState (d2dPeer 7) == 2 && u.getF (pgD2d 7) 0x18 0 31 16 == 0x1106) = true ∧
     stays (exec (.linkRestored 7) s) s = true) ∧
    stays (exec (.d2dRetrain 7) (d2dUp 7)) (d2dUp 7) = true := by decide +kernel

theorem wit_D2d_routes : base.routeOf 0 1 = 2 ∧ ok (exec (.d2dRouteNotice 0) base) (fun u => u.notices.contains 0 && u.unreach.contains 1) = true ∧
    ok (exec (.d2dRouteSwitch 0 3) { base with notices := [0, 1, 2, 3] }) (fun u => u.route 0 3 == base.routeOf 0 3) = true ∧
    stays (exec (.d2dRouteSwitch 0 3) { base with notices := [0, 1, 2] }) { base with notices := [0, 1, 2] } = true := by decide +kernel
/-! The mode-arm page. -/

/-- Tile `t` clears. -/
def clr (s : State) (t : Nat) : Bool := (s.tile t).task == .clearing

/-- Every polder of `base` with the slice of one node staged, and an ftid for polder 0. -/
def armable : State :=
  (List.range 64).foldl (fun s p => s.setReg pgPld 0x118 p (BitVec.ofNat 64 (1 * 2 ^ 14 + 1 * 2 ^ 19 + 1 * 2 ^ 25)))
    (((net { base with beat := 100, frame := 7 }).setF pgPld 0x114 0 15 0 5).setF pgArm 0x108 0 55 0 116)

theorem wit_Arms_beat : armable.armFail = none ∧ armable.armState = 0 ∧ armable.frameLoad = none ∧ decide (armable.getF pgArm 0x108 0 55 0 < armable.beat + 16) = false ∧
    ok (exec .armBeat armable) (fun u => u.armB == some 116 && u.armState == 1 && u.getF pgArm 0x104 0 31 16 == 0) = true ∧
    ok (exec .armBeat { armable with beat := 101 }) (fun u => u.armState == 0 && u.getF pgArm 0x104 0 31 16 == 0x0540 && u.getF pgArm 0x18 0 31 16 == 0x0540) = true := by decide +kernel

theorem wit_Arms_busy : ok (exec .armBeat { armable with frameLoad := some 1 }) (fun u => u.getF pgArm 0x104 0 31 16 == 0x0541) = true ∧
    ok (exec .armFrame (armable.setF pgArm 0x104 0 1 0 3)) (fun u => u.getF pgArm 0x104 0 31 16 == 0x0541 && u.armState == 3) = true := by decide +kernel

theorem wit_Arms_frame : ok (exec .armFrame (armable.setF pgArm 0x110 0 47 0 9)) (fun u => u.armF == some 9 && u.armState == 2) = true ∧
    ok (exec .armFrame (armable.setF pgArm 0x110 0 47 0 8)) (fun u => u.getF pgArm 0x104 0 31 16 == 0x0540) = true := by decide +kernel

theorem wit_Arms_checks : (armable.setReg pgPld 0x118 63 0).armFail = some (2, 63, 5) ∧
    ok (exec .armBeat (armable.setReg pgPld 0x118 63 0)) (fun u => u.getF pgArm 0x104 0 31 16 == 0x0542 &&
      u.reg pgArm 0x11C 0 == BitVec.ofNat 64 (2 + 63 * 2 ^ 8 + 5 * 2 ^ 19)) = true := by decide +kernel

/-- `base` with an activation armed for beat 20. -/
def armed (beat st : Nat) : State := { base with beat := beat, armB := some 20 }.setF pgArm 0x104 0 1 0 st

theorem wit_Arms_disarm : (armed 16 1).armBeat = some 20 ∧ ok (exec .disarm (armed 16 1)) (fun u => u.armB == none && u.armState == 0) = true ∧
    ok (exec .disarm (armed 17 1)) (fun u => u.armB == some 20 && u.getF pgArm 0x104 0 31 16 == 0x0543) = true ∧
    ok (exec .disarm (armed 16 3)) (fun u => u.getF pgArm 0x104 0 31 16 == 0x0543) = true := by decide +kernel

/-- `base` with sleep staged for tile 4863, not active. -/
def stagedTile : State := { base.setF (pgTile 4861) 0x20 0 0 0 1 with staged := [regKey (pgTile 4861) 0x20 0] }

theorem wit_Arms_discard : stagedTile.getF (pgTile 4861) 0x20 0 0 0 = 1 ∧
    ok (exec .armCtrlDiscard stagedTile) (fun u => u.staged.isEmpty && u.getF (pgTile 4861) 0x20 0 0 0 == 0) = true ∧
    ok (exec .armCtrlDiscard (stagedTile.setF pgArm 0x104 0 1 0 1)) (fun u => u.staged.length == 1 && u.getF pgArm 0x104 0 31 16 == 0x0541) = true ∧
    ((List.range 4).filter (fun i => bitOf 9 i)).length = 2 ∧ ok (exec (.armCtrlMulti 9) base) (fun u => u.getF pgArm 0x104 0 31 16 == 0x0548) = true ∧
    stays (exec (.armCtrlMulti 8) base) base = true := by decide +kernel

/-- `stagedTile` with its activation armed for beat 20. -/
def dueAt (beat : Nat) : State := { stagedTile with beat := beat, armB := some 20 }.setF pgArm 0x104 0 1 0 1

theorem wit_Activation : (dueAt 19).actDue = false ∧ stays (exec .activation (dueAt 19)) (dueAt 19) = true ∧ (dueAt 20).actDue = true ∧
    ok (exec .activation (dueAt 20)) (fun u => u.armB == none && u.armState == 3 && u.gen == 1 && u.staged.isEmpty && u.part (pgTile 4861) == 1 &&
      u.reg pgArm 0x120 0 == 20) = true ∧
    ok (exec .activationComplete (armed 20 3)) (fun u => u.armState == 0 && u.getF pgArm 0x18 0 31 16 == 0x0544) = true ∧
    stays (exec .activationComplete (armed 20 1)) (armed 20 1) = true := by decide +kernel

/-- A rejoin of tile 0, stale, by polder `p`. -/
def rejoining (p : Nat) : State := { base.setF (pgTile 0) 0x24 0 2 2 1 with rejoin := some (pgTile 0, p, 0) }

theorem wit_Rejoin : bitOf (2 ^ 31 + pgTile 0) 31 = true ∧ ok (exec (.rejoin (2 ^ 31 + 63 * 2 ^ 16 + pgTile 0)) base) (fun u => u.rejoin == some (pgTile 0, 63, 0)) = true ∧
    stays (exec (.rejoin 5) base) base = true ∧ stays (exec .rejoinApply base) base = true ∧ (rejoining 0).unitOwner (pgTile 0) = (0, 0) ∧
    ok (exec .rejoinApply (rejoining 0)) (fun u => u.rejoin == none && !u.stale (pgTile 0) && clr u 0 && u.reg pgArm 0x138 0 == 0) = true ∧
    ok (exec .rejoinApply (rejoining 1)) (fun u => u.rejoin == none && u.stale (pgTile 0) && u.reg pgArm 0x138 0 == 0x0546) = true := by decide +kernel

/-- Polder 63 with a load in progress. -/
def loadingP (ab : Bool) : State := base.setPol 63 { loading := some { tag := 1, addr := 0, length := 512, lead := 0, abort := ab }, prot := some (0, 512) }

theorem wit_Load_abandon : ok (exec (.loadAbandon 63) (loadingP true)) (fun u => (u.pol 63).loading.isNone && (u.pol 63).prot == none) = true ∧
    stays (exec (.loadAbandon 63) (loadingP false)) (loadingP false) = true := by decide +kernel

/-! Resets, unit parts and the vote. -/

/-- `base` with a reset of domain 2, polder 0, in progress; tile 0 clears or not. -/
def resetting (t : TaskState) : State := { (base.setTile 0 { task := t }).setReg pgDev 0x31C 0 5 with inReset := [0], resetTarget := 0 }

theorem wit_Reset_requests : (resetting .idle).getF pgDev 0x31C 0 0 0 = 1 ∧
    [(Instr.tileReset (pgTile 0), 1), (.polderReset 0, 2), (.dieCoreReset 3, 3), (.deviceCoreReset [], 4), (.coldReset [], 5)].all (fun c =>
      ok (exec c.1 (resetting .idle)) (fun u => u.getF pgDev 0x31C 0 31 16 == 0x0147 && u.getF pgDev 0x31C 0 3 1 == c.2 && u.getF pgDev 0x31C 0 0 0 == 1)) = true ∧
    ok (exec (.polderReset 64) base) (fun u => u.getF pgDev 0x31C 0 31 16 == 0x0147 && u.getF pgDev 0x31C 0 0 0 == 0) = true ∧
    ok (exec (.dieCoreReset 4) base) (fun u => u.getF pgDev 0x31C 0 31 16 == 0x0147) = true ∧
    (resetting .clearing).resetClears = true ∧ stays (exec .resetDone (resetting .clearing)) (resetting .clearing) = true ∧ (resetting .idle).resetClears = false ∧
    ok (exec .resetDone (resetting .idle)) (fun u => u.getF pgDev 0x31C 0 0 0 == 0 && u.inReset.isEmpty && u.getF pgDev 0x18 0 31 16 == 0x0141) = true ∧
    ok (exec .resetDone { base with inReset := [63] }) (fun u => u.inReset.isEmpty) = true := by decide +kernel

theorem wit_Resets_tile : base.getF pgDev 0x31C 0 0 0 = 0 ∧ base.armState ≠ 3 ∧ (running []).tileOfPage (pgTile 0) = some 0 ∧ (running []).tileOwner 0 = some 0 ∧
    ok (exec (.tileReset (pgTile 0)) (running [])) (fun u => clr u 0 && (u.pol 0).stopped && u.getF pgDev 0x31C 0 0 0 == 1) = true ∧
    ok (exec (.tileReset (pgTile 4861)) base) (fun u => clr u 4861 && u.resetTarget == pgTile 4861 && !(u.pol 0).stopped) = true := by decide +kernel

theorem wit_Resets_polder : (base.tilesOf 0).contains 0 = true ∧
    ok (exec (.polderReset 0) base) (fun u => clr u 0 && (u.pol 0).flowEpoch == 1 && decide (u.inReset = [0]) && u.resetTarget == 0) = true ∧
    ok (exec (.polderReset 63) base) (fun u => !clr u 0 && (u.pol 63).flowEpoch == 1 && decide (u.inReset = [63])) = true := by decide +kernel

theorem wit_Resets_cold : ok (exec (.coldReset []) (running [])) (fun u => u.tiles.isEmpty && u.hbm.isEmpty && u.beat == 0 && u.getF pgDev 0x100 0 2 0 == b2n base.module.pwrGood) = true := by decide +kernel

theorem wit_Units : (pageBlock pgDev).isSome = true ∧ base.part (pgLnk 31) = 0 ∧
    ok (exec (.unitFence (pgLnk 31)) base) (fun u => u.part (pgLnk 31) == 2 && u.getF pgDev 0x18 0 31 16 == 0x0144) = true ∧
    (let s := base.setF (pgTile 0) 0x24 0 1 0 2
     s.part (pgTile 0) = 2 ∧ stays (exec (.unitFence (pgTile 0)) s) s = true ∧
     ok (exec (.unitUnfence (pgTile 0)) s) (fun u => u.part (pgTile 0) == 0 && !u.stale (pgTile 0)) = true ∧
     ok (exec (.unitUnfence (pgTile 0)) (s.setF (pgTile 0) 0x28 0 31 16 9)) (fun u => u.stale (pgTile 0)) = true ∧
     ok (exec (.unitRepair (pgTile 0)) s) (fun u => u.part (pgTile 0) == 3) = true ∧ stays (exec (.repairDone (pgTile 0) true) s) s = true) ∧
    [Instr.unitUnfence (pgTile 0), .unitRepair (pgTile 0)].all (fun c => ok (exec c base) (fun u => u.part (pgTile 0) == 0 && u.getF pgDev 0x18 0 31 16 == 0x0147)) = true ∧
    (let s := base.setF (pgTile 0) 0x24 0 1 0 3
     ok (exec (.repairDone (pgTile 0) true) s) (fun u => u.part (pgTile 0) == 0 && clr u 0 && u.getF pgDev 0x348 (pgTile 0) 9 8 == 1 && u.getF pgDev 0x18 0 31 16 == 0x0145) = true ∧
     ok (exec (.repairDone (pgTile 0) false) s) (fun u => u.part (pgTile 0) == 2 && !clr u 0 && u.getF pgDev 0x348 (pgTile 0) 9 8 == 2 && u.getF pgDev 0x18 0 31 16 == 0x0146) = true) := by decide +kernel

theorem wit_Votes : 143 < voteSize 0 ∧ ok (exec (.voteSweep 0 143 [64, 64, 64, 64] [0, 1, 2, 3]) base) (fun u => u.owner 0 143 == some 0 && u.untrusted.isEmpty) = true ∧
    ok (exec (.voteSweep 7 16383 [61, 61, 61, 61] [0, 1, 2, 3]) base) (fun u => (List.range 4).all (fun d => mapGet u.rt (d * 16384 + 16383) 0 == 61)) = true ∧
    voteWinner [64, 64, 127, 5] [0, 1, 2, 3] = none ∧
    ok (exec (.voteSweep 3 0 [64, 64, 127, 5] [0, 1, 2, 3]) base) (fun u => decide (u.untrusted = [3 * 65536]) && (u.pol 0).stopped && (u.pol 63).stopped && !(u.pol 5).stopped) = true ∧
    stays (exec (.voteSweep 0 144 [0, 0, 0, 0] [0, 1, 2, 3]) base) base = true ∧ voteWinner [7, 7, 7, 5] [0, 1, 2] = some 7 ∧ voteWinner [7, 7, 7, 5] [0, 1, 3] = none ∧
    ok (exec (.retirementMapWrite 3) (base.setReg (pgDie 3) 0x400 0 9)) (fun u => mapGet u.module.retireMap 3 0 == 9) = true := by decide +kernel

theorem test_spare_tile_sleeps : base.tileOfPage (pgTile 4863) = none ∧ ok (exec (.tileReset (pgTile 4863)) base) (fun u => u.getF pgDev 0x31C 0 31 16 == 0x0147) = true := by decide +kernel
/-! Host requests. -/

/-- `base` with INTAKE `p` enabled in state `st`, its function live, and one request fetched. -/
def taking (p st : Nat) (s : State) : State :=
  (((((s.setF (pgIntake p) 0x100 0 0 0 1).setIn p st).setFn p { enabled := true, bme := true }).setF (pgIntake p) 0x114 0 31 0 1).setF (pgIntake p) 0x118 0 31 0 1).setReg
    (pgIntake p) 0x128 0 0x8000

/-- A request entry from its opcode, flags and the fields at 8, 0x10 and 0x18. -/
def req (op fl a b c : Nat) : List Byte := natLE 1 op ++ natLE 1 fl ++ zeros 2 ++ natLE 4 7 ++ natLE 8 a ++ natLE 8 b ++ natLE 4 c

theorem wit_Intakes_switch : base.bootState = 4 ∧ ok (exec (.intakeEnable 63) base) (fun u => u.getF (pgIntake 63) 0x100 0 0 0 == 1 && u.inState 63 == 3) = true ∧
    ok (exec (.intakeEnable 63) (base.setFn 63 { bme := true })) (fun u => u.inState 63 == 1) = true ∧
    ok (exec (.intakeEnable 63) (taking 63 4 base)) (fun u => u.inState 63 == 4 && u.rqIdx 63 0x118 == 0) = true ∧ stays (exec (.intakeEnable 0) (stage 3)) (stage 3) = true ∧
    ok (exec (.intakeDisable 63) (taking 63 1 base)) (fun u => u.inState 63 == 0) = true ∧
    ok (exec (.intakeDisable 63) ((taking 63 2 base).setIntake 63 { entry := some [] })) (fun u => u.inState 63 == 5) = true := by decide +kernel

theorem wit_Intakes_rings : (taking 63 1 base).module.powerDown = false ∧ (taking 63 1 base).rqLog 63 = 4 ∧
    ok (exec (.rqDoorbell 63 16) (taking 63 1 base)) (fun u => u.rqIdx 63 0x118 == 16 && u.inState 63 == 1) = true ∧
    ok (exec (.rqDoorbell 63 17) (taking 63 1 base)) (fun u => u.rqIdx 63 0x118 == 1 && u.inState 63 == 4 && u.getF (pgIntake 63) 0x104 0 31 16 == 0x0667) = true ∧
    ok (exec (.ringFault 0) (taking 0 3 base)) (fun u => u.inState 0 == 4 && u.getF (pgIntake 0) 0x104 0 31 16 == 0x0662) = true ∧
    stays (exec (.ringFault 0) base) base = true := by decide +kernel

/-- A record. -/
def rec1 : Record := { recType := 1, length := 64, body := [7] }

theorem wit_Intakes_backlog : base.canPost 63 = false ∧ stays (exec (.recordBacklogDrain 63) base) base = true ∧ (taking 63 1 base).canPost 63 = true ∧
    ok (exec (.recordBacklogDrain 63) ((taking 63 1 base).setIntake 63 { backlog := [rec1] })) (fun u => (u.intake 63).backlog.isEmpty && u.rqIdx 63 0x138 == 1 &&
      u.hostOut.length == 2) = true ∧
    ok (exec (.recordBacklogDrain 63) ((taking 63 1 base).setIntake 63 { lostPend := 5 })) (fun u => (u.intake 63).lostPend == 0 && u.recSeq == base.recSeq + 1) = true := by
  decide +kernel

/-- Tile 0 with a MOVE LOAD begun, from host window 0 of polder 0. -/
def hostLoading : State :=
  let i : IssuedCmd := { word := wLoad, index := 0, ord := 2, started := true, walkers := [(1, { space := 4 }), (2, {})] }
  (taking 0 1 (base.setF (pgIntake 0) 0x150 0 7 0 (64 + 34))).setTile 0 {
    task := .running, segs := [{ base := 0x3000_0000_0000, bound := 0x10000, rd := true, wr := true }], dq := [(0, [i])],
    sb := [⟨false, true, 0x3000_0000_0000 / 128, 0x3000_0000_0000 / 128 + 3, 0, 2⟩, ⟨true, false, 0, 0, 0, 2⟩] }

theorem wit_HostWindow : (hostLoading.hostWaiter 0).isSome = true ∧
    ok (exec (.hostWindowReadComplete 0 false [] []) hostLoading) (fun u => (u.tile 0).task == .faulted && u.getF (pgIntake 0) 0x18 0 31 16 == 0x0660) = true ∧
    base.hostWaiter 4863 = none ∧ stays (exec (.hostWindowReadComplete 4863 true [] []) base) base = true := by decide +kernel

/-- The bytes that host memory gives for `hostLoading`. -/
def given : List (Nat × List Byte) := [(0x3000_0000_0000, List.replicate 512 9)]

theorem wit_HostWindow_load : (match hostLoading.hostWaiter 0 with
    | some (0, i) =>
      let sl := opSlots i.word.toNat i.count
      hostLoading.fnLive ((hostLoading.tile 0).ctx / 1024 % 64) && cClass i.word.toNat == 1 && cOp i.word.toNat == 0 && !cCvt i.word.toNat && !cIsStore i.word.toNat && i.count != 0 &&
      ((hostLoading.tile 0).firstBad i true).isNone && decide ((i.walker (sl.getD 1 ⟨false, 0, 0, .any, 0⟩)).space < 4) && !(sl.getD 3 ⟨false, 0, 0, .any, 0⟩).used &&
      !(sl.getD 5 ⟨false, 0, 0, .any, 0⟩).used &&
      (match hostLoading.readSlots 0 (fun _ => 8) (hostLoading.ownerOr 0) i given [(0, sl.getD 0 ⟨false, 0, 0, .any, 0⟩), (2, sl.getD 2 ⟨false, 0, 0, .any, 0⟩),
          (4, sl.getD 4 ⟨false, 0, 0, .any, 0⟩)] with
       | (.ok [_, _, _], s1) => decide (mapGet (s1.tile 0).dq 0 [] = [i]) && (s1.tile 0).outs.isEmpty
       | _ => false)
    | _ => false) = true ∧
    ok (exec (.hostWindowReadComplete 0 true given []) hostLoading) (fun u => memGet u.scr (scrKey 0 511) == 9 && (mapGet (u.tile 0).dq 0 []).all (·.finished)) = true := by
  decide +kernel

/-- Polder 0 has an image of one tile, LOADED, and its run is gated at step 4. -/
def runnableP (s : State) : State :=
  ((taking 0 1 s).setTile 0 { task := .loaded, cmdrLen := 1 }).setPol 0 { image := some { tiles := [⟨0, 0, 0, 0, 0, 0, 0, 0⟩], snaps := [⟨0, 0, 0, 1⟩] }, gate := some 4 }

/-- The result that INTAKE 0 writes for its request. -/
def answered (u : State) (r : Nat) : Bool :=
  u.rqIdx 0 0x11C == 1 && u.inState 0 == 1 && (u.intake 0).entry.isNone && u.hostOut.any (fun w => w.fn == 0 && w.addr == 2 && decide (w.bytes = natLE 2 r))

theorem wit_Requests : let s := taking 0 1 base
    s.canStart 0 (req 0 0 0 0 0) (fun o => o == 0) = true ∧ s.runnable 0 = false ∧ s.canStart 0 (req 255 0 0 0 0) (fun o => decide (6 < o)) = true ∧
    ok (exec (.nopReq 0 (req 0 0 0 0 0)) s) (answered · 0) = true ∧ ok (exec (.badRequest 0 (req 7 0 0 0 0)) s) (answered · 0x0663) = true ∧
    ok (exec (.badRequest 0 (req 255 0 0 0 0)) s) (answered · 0x0663) = true ∧ ok (exec (.run 0 (req 2 0 0 0 0)) s) (answered · 0x0664) = true ∧
    ok (exec (.restore 0 (req 4 0 0 0 0) []) s) (answered · 0x0664) = true ∧ ok (exec (.step 0 (req 3 0 5 0 0)) s) (answered · 0x0665) = true ∧
    stays (exec (.badRequest 0 (req 6 0 0 0 0)) s) s = true ∧ stays (exec (.nopReq 0 (req 0 0 0 0 0)) base) base = true := by decide +kernel

theorem wit_Requests_run : let s := runnableP base
    s.runnable 0 = true ∧ s.canStart 0 (req 2 1 9 0 0) (fun o => o == 2) = true ∧
    ok (exec (.run 0 (req 2 1 9 0 0)) s) (fun u => answered u 0 && (u.tile 0).task == .running && (u.tile 0).beatRef == s.startBeat (s.beat + 4) && (u.pol 0).seed == 9 &&
      (u.pol 0).step == 0xFFFF_FFFF && (u.pol 0).gate == some 0xFFFF_FFFF) = true ∧
    ok (exec (.run 0 (req 2 0 9 5 0)) s) (fun u => (u.pol 0).step == 4 && (u.pol 0).gate == none) = true ∧
    ok (exec (.step 0 (req 3 0 5 0 0)) s) (fun u => answered u 0 && (u.pol 0).gate == some 5) = true ∧
    ok (exec (.step 0 (req 3 0 6 0 0)) s) (fun u => answered u 0x0665 && (u.pol 0).gate == some 4) = true := by decide +kernel

theorem wit_Copy : let s := taking 0 1 { lined with hbm := [(0, 9)] }
    let e := req 5 1 0x9000 0 128
    s.canStart 0 e (fun o => o == 5) = true ∧ reqField e 0x18 4 % 128 = 0 ∧ s.inRankRun 0 (reqField e 0x10 8) (reqField e 0x18 4) = true ∧
    ((s.begun 0 e).copyLines 0 0x9000 0 true [] 1).1 = 0 ∧ ok (exec (.copy 0 e [] 1) s) (fun u => answered u 0 && u.hostOut.any (fun w => w.addr == 0x9000 && w.bytes.head? == some 9)) = true ∧
    ok (exec (.copy 0 e [] 0) s) (answered · 0x0666) = true ∧
    ok (exec (.copy 0 (req 5 0 0x9000 0 128) [7] 9) s) (fun u => answered u 0 && u.sees 0 == 7) = true := by decide +kernel

theorem wit_ResetReq : let s := taking 0 1 base
    s.canStart 0 (req 6 0 0 0 0) (fun o => o == 6) = true ∧ ok (exec (.resetReq 0 (req 6 0 0 0 0)) s) (fun u => clr u 0 && decide (u.inReset = [0]) && (u.intake 0).entry.isSome) = true ∧
    ok (exec (.resetReq 0 (req 6 0 0 0 0)) (s.setReg pgDev 0x31C 0 5)) (fun u => answered u 0x0147 && !clr u 0) = true := by decide +kernel

theorem wit_Load_begins : let s := taking 0 1 base
    let e := req 1 0 0 513 0
    s.canStart 0 e (fun o => o == 1) = true ∧ (s.tilesOf 0).all (fun t => (s.tile t).task != .running) = true ∧ s.loadWait = [] ∧ s.armChanges 0 = false ∧
    (s.polDies 0).all (fun d => !s.loaderBusy [] d) = true ∧
    ok (exec (.load 0 e) s) (fun u => (u.pol 0).loading == some { tag := 7, addr := 0, length := 513, lead := 0 } && (u.pol 0).prot == some (0, 1024) && clr u 0 && !u.sealed 0) = true ∧
    (let w := after (exec (.load 0 e) s); clr w 0 && stays (exec (.loadDone 0 false 0 0) w) w) = true ∧
    stays (exec (.loadDone 63 false 0 0) s) s = true := by decide +kernel

theorem wit_Load_ends : let s := loadingP false
    (s.tilesOf 63).all (fun t => !clr s t) = true ∧ ok (exec (.loadDone 63 true 9 0) s) (fun u => (u.pol 63).loading.isNone && u.sealed 63 && (u.pol 63).image.isNone) = true ∧
    bitOf (2 ^ 31 + 63) 31 = true ∧ bitsOf (2 ^ 31 + 63) 5 0 = 63 ∧ ok (exec (.loadAbort 0 (2 ^ 31 + 63)) s) (fun u => (u.pol 63).loading.map (·.abort) == some true) = true ∧
    ok (exec (.loadAbort 3 (2 ^ 31 + 63)) s) (fun u => (u.pol 63).loading.map (·.abort) == some false) = true ∧ stays (exec (.loadAbort 0 63) s) s = true := by decide +kernel

/-! PCIe functions. -/

/-- VF 63 is there, in IDLE. -/
def withVf (st : Nat) : State := taking 63 st base

theorem wit_Pcie_power : (withVf 1).fnThere 63 = true ∧ ok (exec (.d3hotEntry 63) (withVf 1)) (fun u => (u.fn 63).d3hot && u.inState 63 == 3) = true ∧
    ok (exec (.busMasterEnableChange 63 false) (withVf 2)) (fun u => !(u.fn 63).bme && u.inState 63 == 3) = true ∧
    ok (exec (.d3hotEntry 63) (withVf 4)) (fun u => u.inState 63 == 4) = true ∧
    ok (exec (.d0Entry 63) ((withVf 3).setFn 63 { enabled := true, bme := true, d3hot := true })) (fun u => !(u.fn 63).d3hot && u.inState 63 == 1) = true ∧
    ok (exec (.busMasterEnableChange 63 true) (((withVf 3).setFn 63 { enabled := true }).setIntake 63 { entry := some [] })) (fun u => (u.fn 63).bme && u.inState 63 == 2) = true ∧
    (withVf 3).rqOwed 63 ≤ 2 ^ (withVf 3).rqLog 63 ∧ base.fnThere 1 = false ∧ stays (exec (.d0Entry 1) base) base = true := by decide +kernel

theorem wit_Pcie_vfs : ok (exec (.vfEnableChange true 62) (withVf 1)) (fun u => (u.fn 62).enabled && !(u.fn 63).enabled && u.numVfs == 62) = true ∧
    ok (exec (.vfEnableChange true 63) (withVf 1)) (fun u => (u.fn 63).enabled && (u.fn 63).bme) = true ∧
    ok (exec (.flrVf 63) (withVf 1)) (fun u => (u.fn 63).enabled && !(u.fn 63).bme && u.getF (pgIntake 63) 0x100 0 0 0 == 0) = true ∧
    exec (.flrVf 0) base = .fault .noSuchUnit ∧ base.bootState = 4 ∧ (stage 2).bootState = 2 := ⟨by decide +kernel, by decide +kernel, by decide +kernel, rfl, by decide +kernel, by decide +kernel⟩

theorem wit_Pcie_resets : let s := { stage 2 with fns := [(0, { bme := true })], module := { (stage 2).module with perst := false } }
    s.module.perst = false ∧ [Instr.perstAssert, .hotReset, .secondaryBusReset, .pcieLinkDown].all (fun c => ok (exec c s) (fun u => u.fns.isEmpty && u.numVfs == 0)) = true ∧
    ok (exec .perstAssert s) (fun u => u.module.perst) = true ∧ (stage 2).module.perst = true ∧ stays (exec .perstAssert (stage 2)) (stage 2) = true ∧
    ok (exec .perstDeassert (stage 2)) (fun u => !u.module.perst && u.module.portTrained == (stage 2).module.pwrGood) = true := by decide +kernel

/-- A sealed slot of step 7 for an image of digest 0, whose one tile has no loaves to restore: s3 is 5. -/
def slotBytes : List Byte :=
  let body := zeros (0x40 + 24) ++ [5] ++ zeros 423
  let head := [0x53, 0x4E, 0x50, 0x31] ++ zeros 4 ++ natLE 4 7 ++ zeros 20 ++ natLE 8 512 ++ zeros 464
  head ++ natLE 8 (crc64 (head ++ body)) ++ body

/-- Polder 0's snapshot region on die 0 holds that slot. -/
def restorable : State :=
  (runnableP (regioned { lined with hbm := memWrite [] 0 slotBytes })).setPol 0 { image := some { tiles := [⟨0, 0, 0, 0, 0, 0, 0, 0⟩], snaps := [⟨0, 0, 0, 0⟩] } }

set_option maxRecDepth 1000000 in
theorem wit_Restore : restorable.canStart 0 (req 4 0 7 0 0) (fun o => o == 4) = true ∧ restorable.runnable 0 = true ∧ restorable.snapDies 0 = [0] ∧
    ok (exec (.restore 0 (req 4 0 8 0 0) []) restorable) (answered · 0x1077) = true ∧ ok (exec (.restore 0 (req 4 0 7 0 0) [0]) restorable) (answered · 0x1076) = true := by decide +kernel

set_option maxRecDepth 1000000 in
theorem wit_Restore_checks : (match (restorable.pol 0).image with
     | some im => (match (restorable.begun 0 (req 4 0 7 0 0)).checkSnap 0 0 7 im false with | (.ok b, _) => b.length == 512 | _ => false)
     | none => false) = true := by decide +kernel
/-! Registers. -/

/-- `base` with the host link trained and VF 63 there. -/
def hosted : State := { base with module := { base.module with portTrained := true }, fns := [(63, { enabled := true })] }

/-- A 4-byte or 8-byte write of the PF at offset `o` of a page. -/
def wr (pg o size v : Nat) : Instr := .registerWrite 0 (pg * 4096 + o) size v

theorem wit_Writes_refused : base.decodes 0 = false ∧ stays (exec (wr pgWeir 0x100 4 1) base) base = true ∧ hosted.decodes 0 = true ∧ hosted.decodes 63 = true ∧
    goodSize 6 4 = false ∧ goodSize 4 8 = false ∧ goodSize 0 2 = false ∧
    ok (exec (wr pgWeir 0x104 8 1) hosted) (fun u => u.getF pgDev 0x18 0 31 16 == 0x0151) = true ∧
    hosted.barPage 0 (6 * 4096) = none ∧ stays (exec (wr 6 0 4 1) hosted) hosted = true ∧ hosted.barPage 63 (5 * 4096) = none ∧
    stays (exec (.registerWrite 63 (5 * 4096) 4 1) hosted) hosted = true ∧
    (let s := hosted.setPol 0 { loading := some { tag := 7, addr := 0, length := 512, lead := 0 } }
     s.barPage 0 (pgTile 0 * 4096 + 0x20) = some (pgTile 0) ∧ s.loadFenced (pgTile 0) = true ∧ stays (exec (wr (pgTile 0) 0x20 4 1) s) s = true) ∧
    (let s := hosted.setF pgDev 0x100 0 2 0 3
     s.pageAnswers pgWeir = false ∧ stays (exec (wr pgWeir 0x100 4 1) s) s = true) := by decide +kernel

theorem wit_Writes_halves : hosted.barPage 0 (pgArm * 4096 + 0x108) = some pgArm ∧ (regHalf .arm 0x108).map (fun r => (r.1.off, r.2)) = some (0x108, 1) ∧
    (regHalf .arm 0x10C).map (fun r => (r.1.off, r.2)) = some (0x108, 2) ∧
    ok (exec (wr pgArm 0x108 4 (2 ^ 32 + 7)) hosted) (fun u => mapFind? u.lowHeld (pgArm * 4096 + 0x108) == some 7 && u.reg pgArm 0x108 0 == 0) = true ∧
    (let s := after (exec (wr pgArm 0x108 4 7) hosted)
     mapFind? s.lowHeld (pgArm * 4096 + 0x108) = some 7 ∧ 7 < 2 ^ 32 ∧
     ok (exec (wr pgArm 0x10C 4 5) s) (fun u => u.reg pgArm 0x108 0 == BitVec.ofNat 64 (7 + 5 * 2 ^ 32) && u.lowHeld.isEmpty) = true) ∧
    (let s := taking 63 1 hosted
     s.getF (pgIntake 63) 0x100 0 0 0 = 1 ∧ s.decodes 0 = true ∧
     ok (exec (wr (pgIntake 63) 0x108 8 9) s) (fun u => u.reg (pgIntake 63) 0x108 0 == 0 && u.getF (pgIntake 63) 0x18 0 31 16 == 0x0661) = true) := by decide +kernel

/-- The WEIR registers that the last clause is about, with and without staged fields. -/
def plain (r : RegSpec) : Bool := !r.wide && decide (0x100 ≤ r.off) && decide (r.off < 4096) && r.off % 4 == 0 && r.fields.all (·.acc != .lk)

theorem wit_Writes_weir : (blockRegs .weir).any (fun r => plain r && r.fields.any (·.acc == .st) && (regAt .weir r.off).map (·.off) == some r.off) = true ∧
    (blockRegs .weir).any (fun r => plain r && !r.fields.any (·.acc == .st)) = true ∧
    ok (exec (wr pgWeir 0x110 4 0x40_00FF) hosted) (fun u => u.reg pgWeir 0x110 0 == 0x40_00FF && decide (u.staged = [regKey pgWeir 0x110 0])) = true ∧
    (let s := hosted.setF pgArm 0x104 0 1 0 1
     s.armBusy = true ∧ ok (exec (wr pgWeir 0x110 4 5) s) (fun u => u.reg pgWeir 0x110 0 == s.reg pgWeir 0x110 0 && u.getF pgWeir 0x18 0 31 16 == 0x037D) = true) := by
  decide +kernel

theorem wit_Reads : stays (exec (.barRead 63 0 4) base) base = true ∧ ok (exec (.barRead 63 2 4) hosted) (fun u => u.readData == 0xFFFF_FFFF && u.getF pgDev 0x18 0 31 16 == 0x0151) = true ∧
    ok (exec (.barRead 0 (6 * 4096) 4) { hosted with readData := 9 }) (fun u => u.readData == 0) = true ∧
    hosted.barPage 63 0x100 = some (pgIntake 63) ∧ (regHalf .intake 0x100).map (·.2) = some 0 ∧ (regHalf .intake 0x108).map (·.2) = some 1 ∧ (regHalf .intake 0x10C).map (·.2) = some 2 ∧
    ok (exec (.barRead 63 0x100 4) (taking 63 1 hosted)) (fun u => u.readData == 1) = true ∧
    ok (exec (.barRead 63 0x108 4) (hosted.setReg (pgIntake 63) 0x108 0 (BitVec.ofNat 64 (5 + 9 * 2 ^ 32)))) (fun u => u.readData == 5 && decide (u.hiCap = [(pgIntake 63 * 4096 + 0x108, 9)])) = true ∧
    ok (exec (.barRead 63 0x10C 4) { hosted with hiCap := [(pgIntake 63 * 4096 + 0x108, 9)] }) (fun u => u.readData == 9 && u.hiCap.isEmpty) = true := by decide +kernel

theorem wit_Jtag : hosted.module.jtagRegs = false ∧ ok (exec (.jtagRegisterAccess true (pgArm * 4096 + 0x108) 8 7) { hosted with module := { hosted.module with jtagOut := 5 } })
      (fun u => u.module.jtagOut == 0 && u.reg pgArm 0x108 0 == 0) = true ∧
    (let s := { hosted with module := { hosted.module with jtagRegs := true } }
     s.decodes 0 = true ∧ ok (exec (.jtagRegisterAccess true (pgArm * 4096 + 0x108) 8 7) s) (fun u => u.reg pgArm 0x108 0 == 7) = true ∧
     ok (exec (.jtagRegisterAccess false (pgArm * 4096 + 0x108) 8 0) (s.setReg pgArm 0x108 0 7)) (fun u => u.module.jtagOut == 7) = true) := by decide +kernel

/-- `base` at beat 6 with the trace of die 3 on, and watch slot 15 sampling SC counter 0x30 of slice 0 of die 3 every third beat. -/
def watching (beat : Nat) : State :=
  (((({ base with beat := beat }.setF (pgTrace 3) 0x100 0 0 0 1).setF (pgTrace 3) 0x100 0 20 20 1).setReg (pgTrace 3) 0x184 15
    (BitVec.ofNat 64 (pgSc 48 + 2 ^ 15 + 0x30 * 2 ^ 16))).setF (pgTrace 3) 0x188 15 15 0 3).setReg (pgSc 48) 0x30 0 77

theorem wit_Counters : ok (exec (.counterClear (pgSc 48)) (watching 6)) (fun u => u.reg (pgSc 48) 0x30 0 == 0 && u.reg (pgTrace 3) 0x184 15 == (watching 6).reg (pgTrace 3) 0x184 15) = true ∧
    (watching 6).getF (pgTrace 3) 0x184 15 15 15 = 1 ∧ (watching 6).beat % max 1 ((watching 6).getF (pgTrace 3) 0x188 15 15 0) = 0 ∧
    (List.range 15).all (fun j => (watching 6).getF (pgTrace 3) 0x184 j 15 15 == 0) = true ∧ (watching 6).getF (pgTrace 3) 0x100 0 20 20 = 1 ∧
    ok (exec (.watchSample 3) (watching 6)) (fun u => (u.ring 3).fill == 1 && (u.ring 3).seq == 1) = true ∧
    (watching 6).watched 3 (pgSc 48) 0x30 = 77 ∧ stays (exec (.watchSample 3) (watching 7)) (watching 7) = true := by decide +kernel

/-! Management. -/

/-- The mailbox in a state, with a request of `n` bytes. -/
def mbox (st n : Nat) : State := (base.setF pgMbox 0x104 0 1 0 st).setF pgMbox 0x108 0 10 0 n

theorem wit_Mailbox : [(0, 1), (2, 1024)].all (fun q => ok (exec .mboxSend (mbox q.1 q.2)) (fun u => u.mboxState == 1)) = true ∧
    [(0, 0), (2, 1025)].all (fun q => ok (exec .mboxSend (mbox q.1 q.2)) (fun u => u.mboxState == 3 && u.getF pgMbox 0x104 0 15 8 == 1)) = true ∧
    [1, 3].all (fun st => stays (exec .mboxSend (mbox st 1)) (mbox st 1)) = true ∧ ok (exec .mboxAbort (mbox 1 1)) (fun u => u.mboxState == 0) = true ∧
    ok (exec (.mboxResponse 0 [7]) (mbox 1 1)) (fun u => u.mboxState == 2 && decide (u.module.mboxRsp = [7]) && u.getF pgMbox 0x104 0 26 16 == 1) = true ∧
    [1, 255].all (fun e => ok (exec (.mboxResponse e [7]) (mbox 1 1)) (fun u => u.mboxState == 3 && u.getF pgMbox 0x104 0 15 8 == e)) = true ∧
    ok (exec .mboxTimeout (mbox 1 1)) (fun u => u.mboxState == 3 && u.getF pgMbox 0x104 0 15 8 == 3) = true ∧ stays (exec .mboxTimeout (mbox 2 1)) (mbox 2 1) = true := by decide +kernel

/-- `hosted` with the Steward's firmware running. -/
def managed : State := { hosted with module := { hosted.module with hotswap := true, stewardOk := true } }

theorem wit_Firmware : base.updates 1 = false ∧ managed.updates 0 = false ∧ managed.updates 4 = false ∧ [1, 3].all managed.updates = true ∧
    ok (exec (.fwUpdateTransfer 3 5 [7]) managed) (fun u => memGet (mapGet u.module.flash 3 {}).staged 5 == 7) = true ∧
    ok (exec (.verifyComplete 3 true true 65537) managed) (fun u => (mapGet u.module.flash 3 {}).next == 1 - (mapGet managed.module.flash 3 {}).inUse &&
      (mapGet u.module.flash 3 {}).inUse == (mapGet managed.module.flash 3 {}).inUse) = true ∧
    ok (exec (.verifyComplete 1 true false 9) managed) (fun u => (mapGet u.module.flash 1 {}).staged.isEmpty && (mapGet u.module.flash 1 {}).next == (mapGet managed.module.flash 1 {}).next) = true ∧
    stays (exec (.verifyComplete 4 true true 1) managed) managed = true := by decide +kernel

theorem wit_Management : base.answers 0 = false ∧ [0, 1, 3].all managed.answers = true ∧ managed.answers 2 = false ∧ (managed.setF pgMbox 0x104 0 1 0 1).answers 2 = true ∧
    stays (exec (.getSensorReading 0 31) base) base = true ∧
    ok (exec (.getSensorReading 0 31) managed) (fun u => u.mgmtOut.head?.map (·.values) == some [managed.level]) = true ∧
    ok (exec (.getVersion 3) managed) (fun u => u.mgmtOut.head?.map (·.values) == some [1, 2]) = true ∧
    ok (exec (.setEndpointId 1 255) managed) (fun u => mapGet u.module.eids 1 0 == 255) = true ∧
    [600, 1200].all (fun v => ok (exec (.setNumericEffecterValue 0 1 v) managed) (fun u => u.getF pgPwr 0x100 0 7 0 == v / 5 && u.mgmtOut.head?.map (·.refused) == some false)) = true ∧
    [(1, 595), (1, 1205), (1, 601), (2, 5), (2, 17), (3, 600)].all (fun q => ok (exec (.setNumericEffecterValue 0 q.1 q.2) managed) (fun u => u.mgmtOut.head?.map (·.refused) == some true)) = true ∧
    [6, 16].all (fun v => ok (exec (.setNumericEffecterValue 0 2 v) managed) (fun u => u.getF pgPwr 0x114 0 4 0 == v && u.mgmtOut.head?.map (·.refused) == some false)) = true := by
  decide +kernel

theorem wit_Spdm : ok (exec (.negotiateAlgorithms 3 0x80 2) managed) (fun u => decide (u.module.algs = [3]) && u.mgmtOut.head?.map (·.refused) == some false) = true ∧
    ok (exec (.negotiateAlgorithms 3 0x7F 2) managed) (fun u => u.module.algs.isEmpty && u.mgmtOut.head?.map (·.refused) == some true) = true ∧
    ok (exec (.challenge 3 0 [5, 6]) managed) (fun u => u.mgmtOut.head?.map (fun a => (a.refused, a.bytes.take 2, a.bytes.length)) == some (false, [5, 6], 98)) = true ∧
    ok (exec (.challenge 3 1 [5]) managed) (fun u => u.mgmtOut.head?.map (·.refused) == some true) = true ∧ measured 255 = some [1, 2, 3, 4] ∧ measured 5 = none ∧
    ok (exec (.getMeasurements 3 4 [5]) managed) (fun u => u.mgmtOut.head?.map (fun a => (a.bytes.length, a.values)) == some (145, [4, 4])) = true := by decide +kernel

/-! Errors, records and numbers. -/

theorem wit_Faults : base.getF pgArm 0x18 0 0 0 = 0 ∧ (base.err pgArm 65535).getF pgArm 0x18 0 31 16 = 65535 ∧ (base.err pgArm 65535).getF pgArm 0x1C 0 15 0 = 65535 ∧
    ((base.err pgArm 7).err pgArm 8).getF pgArm 0x18 0 31 16 = 8 ∧ ((base.err pgArm 7).err pgArm 8).getF pgArm 0x1C 0 15 0 = 7 ∧ ((base.err pgArm 7).err pgArm 8).getF pgArm 0x18 0 1 1 = 1 ∧
    base.getF pgDev 0x300 0 48 48 = 0 ∧ (base.fault { code := 7, cls := 4, page := pgArm, detail := [] }).getF pgDev 0x300 0 47 32 = 7 ∧
    ((base.fault { code := 7, cls := 3, page := pgArm, detail := [] }).fault { code := 8, cls := 4, page := pgArm, detail := [] }).getF pgDev 0x300 0 47 32 = 7 ∧
    ((base.fault { code := 7, cls := 3, page := pgArm, detail := [] }).fault { code := 8, cls := 4, page := pgArm, detail := [] }).getF pgDev 0x310 0 31 0 = 1 := by decide +kernel

theorem wit_Records : (taking 63 1 base).canPost 63 = true ∧ ((taking 63 1 base).postTo 63 rec1).rqIdx 63 0x138 = 1 ∧ (((taking 63 1 base).postTo 63 rec1).pol 63).heartbeat = 1 ∧
    ((taking 63 1 base).postTo 63 rec1).hostOut.map (fun w => (w.fn, w.addr)) = [(63, 0x8000 + 120), (63, 0x8000)] ∧
    ((base.postTo 63 rec1).intake 63).backlog = [rec1] ∧
    (((base.setIntake 63 { backlog := List.replicate 63 rec1 }).postTo 63 rec1).intake 63).backlog.length = 64 ∧
    (((base.setIntake 63 { backlog := List.replicate 64 rec1 }).postTo 63 rec1).intake 63).lostPend = 1 := by decide +kernel

theorem wit_Numbers : (List.replicate 128 (2 ^ 32 - 1)).length = epl 9 ∧ unpackLoaf 9 (packLoaf 9 (List.replicate 128 (2 ^ 32 - 1))) = List.replicate 128 (2 ^ 32 - 1) ∧
    roundTo .rne 5 0 1 = (2, true) ∧ roundTo .rne 7 0 1 = (4, true) ∧ roundTo .rtz 7 0 1 = (3, true) ∧ roundTo .rne 6 0 1 = (3, false) ∧
    decodeElem 7 false 15 = .fin true 3 1 ∧ roundFloat 7 .rne 3 1 = (7, false) ∧
    (mmElem .int ([255, 2].map (decodeElem 8 false)) ([128, 3].map (decodeElem 8 false)) 0 0 (2 ^ 32 - 1)).1 = 133 ∧ (laneInt 1 (2 ^ 32 - 1) 2 0).1 = 1 ∧
    decodeElem 0 false 0x7FC0_0001 = .nan ∧ (laneFloat 0 0 1 0x7FC0_0001 0 0 0).1 = canonNaN 0 := by decide +kernel
/-! Loads. -/

set_option maxRecDepth 1000000

/-- The bytes of an image without tiles up to its first section: the header (magic, version 1, both flags, length 0x820, six sections, task 0, one
column, a slice of 1 × 1 × 1, step barrier 0, one frame a step, 16 of memory allowance, its CRC) and the section table. -/
def front : List Byte :=
  [71, 89, 73, 49, 1, 0, 3, 0, 32, 8, 0, 0, 6, 0, 0, 0, 1, 0, 0, 0, 1, 1, 1, 0, 0, 0, 1, 0, 16, 0, 0, 0, 207, 53, 130, 179] ++ zeros 220 ++
  [2, 0, 0, 0, 0, 0, 0, 0, 0, 0, 0, 0, 0, 0, 0, 0, 3, 0, 0, 0, 0, 0, 0, 0, 0, 0, 0, 0, 0, 0, 0, 0, 6, 0, 0, 0, 0, 0, 0, 0, 0, 0, 0, 0, 0, 0, 0, 0] ++
  [1, 0, 0, 0, 0, 4, 0, 0, 7, 0, 0, 0, 165, 70, 61, 211, 9, 0, 0, 0, 0, 8, 0, 0, 32, 0, 0, 0, 138, 106, 129, 163, 10, 0, 0, 0, 0, 6, 0, 0, 12, 0, 0, 0, 87, 205, 62, 69]
/-- PLACEMENT: one column, group 0. -/
def placement : List Byte := [1, 0, 0, 0, 0, 0, 0]
/-- CURPROF. -/
def curprof : List Byte := [1, 0, 1, 0, 1, 0, 0, 0, 1, 0, 0, 0]
/-- KNEAD: a frame barrier. -/
def knead : List Byte := [0, 0, 7, 0, 255, 0, 0, 0, 0, 0, 1, 0, 0, 0, 0, 0, 0, 0, 0, 0, 0, 0, 0, 0, 1, 0, 0, 0, 0, 0, 0, 0]
/-- The image, whose other sections are empty. -/
def imageBytes : List Byte := front ++ zeros 672 ++ placement ++ zeros 505 ++ curprof ++ zeros 500 ++ knead
def image : Img := { b := imageBytes.toArray, len := 0x820 }
/-- The image at polder address 0 of `base`, whose lines are fresh no more. -/
def imaged : State := { net base with clean := [0], hbm := memWrite [] 0 imageBytes }
/-- A LOAD of it. -/
def loadReq : LoadReq := { tag := 7, addr := 0, length := 0x820, lead := 0 }
/-- That LOAD in progress, every tile clear. -/
def loading : State := imaged.setPol 0 { loading := some loadReq, prot := some (0, 0xA00) }
/-- What LOAD_DONE reads the image from. -/
def flushed (s : State) : State := ((s.bound 4 0).foldl State.flushQ s).setReg (pgDie 0) 0x320 0 (BitVec.ofNat 64 0x1FFF_FFFF_FFFF)
/-- What LOAD_DONE reads. -/
def reading : Option Img × State := (flushed loading).readImage 0 loadReq false

theorem reading_reads : reading.1.map (fun m => (m.b.toList, m.len)) = some (imageBytes, 0x820) := by decide +kernel

theorem image_gap (k : Nat) (h : 0x160 ≤ k) (h2 : k < 0x400) : image.b.getD k 0 = 0 := by
  obtain ⟨j, rfl⟩ := Nat.exists_eq_add_of_le h
  have e : image.b.getD (0x160 + j) 0 = imageBytes[0x160 + j]?.getD 0 := by simp [image, Array.getD_eq_getD_getElem?]
  have d : imageBytes = front ++ (zeros 672 ++ (placement ++ (zeros 505 ++ (curprof ++ (zeros 500 ++ knead))))) := by simp [imageBytes]
  have l : front.length = 0x160 := by decide +kernel
  rw [e, d, List.getElem?_append_right (by omega), l, Nat.add_sub_cancel_left, List.getElem?_append_left (by simp [zeros]; omega)]
  have z : ∀ (n i : Nat), (List.replicate n (0 : Byte))[i]?.getD 0 = 0 := by
    intro n i; by_cases c : i < n <;> simp [c]
  exact z 672 j
theorem leNat_zeros : ∀ n, leNat (List.replicate n 0) = 0
  | 0 => rfl
  | n + 1 => by rw [List.replicate_succ, leNat, leNat_zeros n]; rfl
theorem image_zero (o w : Nat) (h : 0x160 ≤ o) (h2 : o + w ≤ 0x400) : image.u o w = 0 := by
  have : (List.range w).map (fun i => image.b.getD (o + i) 0) = List.replicate w 0 := by
    rw [List.eq_replicate_iff]
    refine ⟨by simp, fun b hb => ?_⟩
    obtain ⟨i, hi, rfl⟩ := List.mem_map.1 hb
    have := List.mem_range.1 hi
    exact image_gap _ (by omega) (by omega)
  rw [Img.u, this, leNat_zeros]
theorem image_table : image.checkTable = [] := by
  unfold Img.checkTable
  have l : image.secs.length = 6 := by decide +kernel
  simp only [List.append_eq_nil_iff, List.map_eq_nil_iff, List.filter_eq_nil_iff]
  refine ⟨⟨by decide +kernel, ?_⟩, by decide +kernel⟩
  intro i hi
  have := List.mem_range.1 hi
  by_cases c : 6 ≤ i
  · simp [image_zero (0x100 + 16 * i) 16 (by omega) (by omega)]
  · simp [l, c]

theorem image_magic : image.checkMagic = [] := by decide +kernel
theorem image_crcs : image.checkCrcs = [] := by decide +kernel
theorem image_header : image.checkHeader = [] := by decide +kernel
/-- A check that finds nothing leaves the result to those after it. -/
theorem runChecks_nil (f : Unit → List Rej) (fs : List (Unit → List Rej)) (h : f () = []) : runChecks (f :: fs) = runChecks fs := by
  simp [runChecks, h, firstRej]
theorem image_reads : image.readChecks = none := by
  unfold Img.readChecks
  rw [runChecks_nil (fun _ => image.checkMagic) _ image_magic, runChecks_nil (fun _ => image.checkHeader) _ image_header, runChecks_nil (fun _ => image.checkTable) _ image_table, 
    runChecks_nil (fun _ => image.checkCrcs) _ image_crcs, runChecks]
theorem image_places : reading.2.verifyPlaces 0 image = none := by decide +kernel
theorem image_vtiles : image.vtiles = [] := by decide +kernel
theorem image_tiles : reading.2.verifyTiles 0 0 image [] 0 0 = none := by decide +kernel
theorem loading_clear : (loading.tilesOf 0).all (fun t => !clr loading t) = true ∧ loading.loadWait = [] := by decide +kernel

theorem wit_Load_installs : (∃ m s2, reading = (some m, s2) ∧ m.readChecks = none ∧ s2.verifyPlaces 0 m = none ∧
    s2.verifyTiles 0 0 m m.vtiles 0 0 = none) ∧ (loading.tilesOf 0).all (fun t => !clr loading t) = true ∧ loading.loadWait = [] := by
  have e : reading.1 = some image := by
    have h := reading_reads
    cases q : reading.1 with
    | none => rw [q] at h; cases h
    | some m =>
      rw [q] at h
      obtain ⟨b, n⟩ := m
      simp only [Option.map_some, Option.some.injEq, Prod.mk.injEq] at h
      obtain ⟨h1, h2⟩ := h
      subst h2
      rw [← Array.toArray_toList (xs := b), h1]
      rfl
  have v := image_tiles
  rw [← image_vtiles] at v
  have q : reading = (some image, reading.2) := by rw [← e]
  exact ⟨⟨image, reading.2, q, image_reads, image_places, v⟩, loading_clear⟩

end Sys2Proof.Tests
end

section
/-!
SUPPORT. The register store under the operations that count, record and post: which entries each one leaves as they are.
-/
namespace Sys2Proof.Machine

/-! Entries of the store. -/

/-- A page outside those that an operation can write reads as before. -/
theorem RegsOff.reg_eq {ps : List Nat} {s u : State} {pg off sel : Nat} (h : RegsOff ps s u) (hp : pg ∉ ps) (ho : off < 4096) (hs : sel < 32768) :
    u.reg pg off sel = s.reg pg off sel := by
  unfold State.reg
  rw [h _ (by rwa [keyPage_regKey pg off sel ho hs])]

theorem getF_of_reg_eq {s u : State} {pg off sel : Nat} (h : u.reg pg off sel = s.reg pg off sel) (hi lo : Nat) :
    u.getF pg off sel hi lo = s.getF pg off sel hi lo := by
  rw [State.getF, State.getF, h]

/-- Writing a register leaves every register at another offset, of whichever page. -/
theorem reg_setReg_offset (s : State) (pg off sel pg' off' sel' : Nat) (v : Word) (hne : off ≠ off') (ho : off < 4096) (hs : sel < 32768)
    (ho' : off' < 4096) (hs' : sel' < 32768) : (s.setReg pg off sel v).reg pg' off' sel' = s.reg pg' off' sel' :=
  reg_setReg_other _ _ _ _ _ _ _ _ fun e => hne (regKey_inj ho hs ho' hs' e).2.1

theorem fld_lt (v : Word) (hi lo : Nat) : fld v hi lo < 2 ^ (hi + 1 - lo) := Nat.mod_lt _ (Nat.two_pow_pos _)

/-! Frames of the updates of one or two parts. -/

theorem sameBut_regs (s : State) (x : SMap Word) : s.sameBut [.regs] { s with regs := x } := by
  intro f hf
  cases f with
  | regs => simp at hf
  | _ => rfl

theorem sameBut_regs_staged (s : State) (x : SMap Word) (y : List Nat) : s.sameBut [.regs, .staged] { s with regs := x, staged := y } := by
  intro f hf
  cases f with
  | regs => simp at hf
  | staged => simp at hf
  | _ => rfl

theorem sameBut_lowHeld (s : State) (x : SMap Nat) : s.sameBut [.lowHeld] { s with lowHeld := x } := by
  intro f hf
  cases f with
  | lowHeld => simp at hf
  | _ => rfl

/-! Counters and error codes (R437, R438). -/

/-- Counting an event changes only the common counters, at 0x30 to 0x5F. -/
theorem countEv_reg (s : State) (pg ev n pg' off sel : Nat) (hc : off < 0x30 ∨ 0x60 ≤ off) (ho : off < 4096) (hs : sel < 32768) :
    (s.countEv pg ev n).reg pg' off sel = s.reg pg' off sel := by
  unfold State.countEv
  split
  · rfl
  · refine List.foldlRecOn (motive := fun st : State => st.reg pg' off sel = s.reg pg' off sel) _ _ rfl ?_
    intro st hst i hi
    have hi : i < 6 := List.mem_range.1 hi
    have hbump : (st.bump pg (0x30 + 8 * i) 0 n).reg pg' off sel = s.reg pg' off sel :=
      (reg_setReg_offset st pg (0x30 + 8 * i) 0 pg' off sel _ (by omega) (by omega) (by omega) ho hs).trans hst
    simp only [apply_ite (fun u : State => u.reg pg' off sel), hbump, hst, ite_self]

/-- A recorded code stands in PG_ERR.last. -/
theorem err_last (s : State) (pg code : Nat) : (s.err pg code).getF pg 0x18 0 31 16 = code % 2 ^ 16 := by
  have last (w : Word) : fld (setFld w 31 16 code) 31 16 = code % 2 ^ 16 := fld_setFld_same w 31 16 code (by omega) (by omega)
  rw [State.getF, State.err, countEv_reg _ _ _ _ _ _ _ (by omega) (by omega) (by omega)]
  split
  · rw [reg_setReg_same, last]
  · rw [reg_setReg_offset _ _ _ _ _ _ _ _ (by omega) (by omega) (by omega) (by omega) (by omega), reg_setReg_same, last]

/-- Recording a code changes only PG_ERR, PG_ERR_FIRST and the common counters. -/
theorem err_reg (s : State) (pg code pg' off sel : Nat) (hne : off ≠ 0x18 ∧ off ≠ 0x1C) (hc : off < 0x30 ∨ 0x60 ≤ off) (ho : off < 4096) (hs : sel < 32768) :
    (s.err pg code).reg pg' off sel = s.reg pg' off sel := by
  rw [State.err, countEv_reg _ _ _ _ _ _ _ hc ho hs]
  split
  · exact reg_setReg_offset _ _ _ _ _ _ _ _ hne.1.symm (by omega) (by omega) ho hs
  · exact (reg_setReg_offset _ _ _ _ _ _ _ _ hne.2.symm (by omega) (by omega) ho hs).trans
      (reg_setReg_offset _ _ _ _ _ _ _ _ hne.1.symm (by omega) (by omega) ho hs)

theorem err_sameBut (s : State) (pg code : Nat) : s.sameBut [.regs] (s.err pg code) := by
  obtain ⟨r, e⟩ := err_parts s pg code
  rw [e]
  exact sameBut_regs s r

/-! Records (R398 to R400, R446, R470). -/

/-- A trace record changes registers of its die's TRACE page alone. -/
theorem traceRec_reg (s : State) (d kind src ctx : Nat) (p : List Byte) (pg off sel : Nat) (hp : pg ≠ pgTrace d) (ho : off < 4096) (hs : sel < 32768) :
    (s.traceRec d kind src ctx p).reg pg off sel = s.reg pg off sel :=
  RegsOff.reg_eq (ps := [pgTrace d]) (RegsOff.traceRec (RegsOff.refl _ s) (List.mem_singleton_self _)) (by simpa using hp) ho hs

/-- Keeping the first fault changes registers of the DEV page alone. -/
theorem noteFault_regsOff (s : State) (f : FaultInfo) : RegsOff [pgDev] s (s.noteFault f) := by
  have hp : pgDev ∈ [pgDev] := List.mem_singleton_self _
  unfold State.noteFault
  split
  · exact RegsOff.refl _ s
  · split
    · exact (RegsOff.refl _ s).sat hp (by omega) (by omega)
    · exact ((RegsOff.refl _ s).setReg hp (by omega) (by omega)).setReg hp (by omega) (by omega)

theorem noteFault_reg (s : State) (f : FaultInfo) (pg off sel : Nat) (hp : pg ≠ pgDev) (ho : off < 4096) (hs : sel < 32768) :
    (s.noteFault f).reg pg off sel = s.reg pg off sel :=
  (noteFault_regsOff s f).reg_eq (by simpa using hp) ho hs

/-- Posting a record changes only INTAKE_REC_TAIL and INTAKE_REC_STATUS, at 0x138 and 0x13C. -/
theorem postTo_reg (s : State) (p : Nat) (r : Record) (pg off sel : Nat) (hne : off ≠ 0x138 ∧ off ≠ 0x13C) (ho : off < 4096) (hs : sel < 32768) :
    (s.postTo p r).reg pg off sel = s.reg pg off sel := by
  have backlog (st : State) (v : Word) : (st.setReg (pgIntake p) 0x13C 0 v).reg pg off sel = st.reg pg off sel :=
    reg_setReg_offset _ _ _ _ _ _ _ _ hne.2.symm (by omega) (by omega) ho hs
  unfold State.postTo
  simp only
  split
  · exact reg_setReg_offset _ _ _ _ _ _ _ _ hne.1.symm (by omega) (by omega) ho hs
  · split
    · exact backlog _ _
    · exact (backlog _ _).trans (backlog _ _)

theorem post_reg (s : State) (p : Option Nat) (r : Record) (pg off sel : Nat) (hne : off ≠ 0x138 ∧ off ≠ 0x13C) (ho : off < 4096) (hs : sel < 32768) :
    (s.post p r).reg pg off sel = s.reg pg off sel := by
  have pf : (({ s with recSeq := s.recSeq + 1 } : State).postTo 0 r).reg pg off sel = s.reg pg off sel := postTo_reg _ _ _ _ _ _ hne ho hs
  unfold State.post
  cases p with
  | none => exact pf
  | some n =>
    simp only
    split
    · exact pf
    · exact (postTo_reg _ _ _ _ _ _ hne ho hs).trans pf

/-- Beside what recording its code does, a fault record changes registers of the DEV and TRACE pages and the record ring's alone. -/
theorem fault_reg (s : State) (f : FaultInfo) (pg off sel : Nat) (hd : pg ≠ pgDev) (ht : pg ≠ pgTrace (pageDie f.page))
    (hne : off ≠ 0x138 ∧ off ≠ 0x13C) (ho : off < 4096) (hs : sel < 32768) : (s.fault f).reg pg off sel = (s.err f.page f.code).reg pg off sel := by
  rw [State.fault, post_reg _ _ _ _ _ _ hne ho hs, noteFault_reg _ _ _ _ _ hd ho hs, traceRec_reg _ _ _ _ _ _ _ _ _ ht ho hs]

end Sys2Proof.Machine
end

section
/-!
SUPPORT. Register writes through a BAR: which of them reach a page, and what the access there does with them (R431 to R436).
-/
namespace Sys2Proof.Machine

/-! What a write reaches. -/

theorem exec_registerWrite (s : State) {f : Nat} (off size v : Nat) (hf : f < 64) :
    exec (.registerWrite f off size v) s = .next (effRegisterWrite f off size v s) := by
  show execRegisterWrite f off size v s = _
  rw [execRegisterWrite, onPol, onUnit, if_pos hf]

/-- A function that decodes nothing takes no write. -/
theorem effRegisterWrite_undecoded {s : State} {f : Nat} (off size v : Nat) (hd : s.decodes f = false) : effRegisterWrite f off size v s = s := by
  rw [effRegisterWrite, hd]; rfl

/-- A write of a wrong size or alignment records 0x0151. -/
theorem effRegisterWrite_badSize {s : State} {f off size : Nat} (v : Nat) (hd : s.decodes f = true) (hg : goodSize off size = false) :
    effRegisterWrite f off size v s = s.err pgDev 0x0151 := by
  simp [effRegisterWrite, State.barWrite, hd, hg]

/-- A write that reaches no page, or one that does not take it, does nothing. -/
theorem effRegisterWrite_unanswered {s : State} {f off size : Nat} (v : Nat) (hg : goodSize off size = true)
    (h : ∀ pg, s.barPage f off = some pg → s.pageAnswers pg = false ∨ s.loadFenced pg = true) : effRegisterWrite f off size v s = s := by
  cases hd : s.decodes f with
  | false => exact effRegisterWrite_undecoded off size v hd
  | true =>
    cases hp : s.barPage f off with
    | none => simp [effRegisterWrite, State.barWrite, hd, hg, hp]
    | some pg =>
      have hn : (!s.pageAnswers pg || s.loadFenced pg) = true := by simpa using h pg hp
      simp [effRegisterWrite, State.barWrite, hd, hg, hp, hn]

/-- Every other write is an access of the page it reaches. -/
theorem effRegisterWrite_reaches {s : State} {f off size pg : Nat} (v : Nat) (hd : s.decodes f = true) (hg : goodSize off size = true)
    (hp : s.barPage f off = some pg) (ha : s.pageAnswers pg = true) (hl : s.loadFenced pg = false) :
    effRegisterWrite f off size v s = s.writeAt f pg (off % 4096) size v := by
  simp [effRegisterWrite, State.barWrite, hd, hg, hp, ha, hl]

/-- The PF reaches every page of the device at its own offset. -/
theorem barPage_pf (s : State) {pg o : Nat} (hb : (pageBlock pg).isSome = true) (hpg : pg < 0x8000) (ho : o < 4096) : s.barPage 0 (pg * 4096 + o) = some pg := by
  have hq : (pg * 4096 + o) / 4096 = pg := by omega
  have hr : pg * 4096 + o < 0x800_0000 := by omega
  simp [State.barPage, hq, hr, hb]

/-- The two halves of a 64-bit register lie on one page. -/
theorem barPage_half (s : State) (f : Nat) {off : Nat} (h4 : off % 8 = 4) : s.barPage f (off - 4) = s.barPage f off := by
  have hq : (off - 4) / 4096 = off / 4096 := by omega
  have hr : off - 4 < 0x800_0000 ↔ off < 0x800_0000 := by omega
  simp only [State.barPage, hq, hr]

/-! Halves of a 64-bit register (R434). -/

/-- A low half is at the offset of a 64-bit register. -/
theorem regHalf_low {b : Block} {o : Nat} {r : RegSpec} (h : regHalf b o = some (r, 1)) : regAt b o = some r ∧ r.wide = true := by
  unfold regHalf at h
  cases hr : regAt b o with
  | some r' =>
    cases hw : r'.wide with
    | false => simp [hr, hw] at h
    | true =>
      have e : r' = r := by simpa [hr, hw] using h
      exact ⟨by rw [e], by rw [← e, hw]⟩
  | none =>
    cases hl : (if 4 ≤ o then regAt b (o - 4) else none) with
    | none => simp [hr, hl] at h
    | some r' => cases hw : r'.wide <;> simp [hr, hl, hw] at h

/-- A high half is 4 bytes above the offset of a 64-bit register. -/
theorem regHalf_high {b : Block} {o : Nat} {r : RegSpec} (h : regHalf b o = some (r, 2)) : regAt b (o - 4) = some r ∧ r.wide = true := by
  unfold regHalf at h
  cases hr : regAt b o with
  | some r' => cases hw : r'.wide <;> simp [hr, hw] at h
  | none =>
    by_cases ho : 4 ≤ o
    · cases hl : regAt b (o - 4) with
      | none => simp [hr, ho, hl] at h
      | some r' =>
        cases hw : r'.wide with
        | false => simp [hr, ho, hl, hw] at h
        | true =>
          have e : r' = r := by simpa [hr, ho, hl, hw] using h
          exact ⟨by rw [e], by rw [← e, hw]⟩
    · simp [hr, ho] at h

/-- A 32-bit register has no halves. -/
theorem regHalf_narrow {b : Block} {o : Nat} {r : RegSpec} (h : regAt b o = some r) (hw : r.wide = false) : regHalf b o = some (r, 0) := by
  simp [regHalf, h, hw]

/-! Accesses of a page outside the mailbox's message areas. -/

section
variable {s : State} {f pg o i : Nat} {b : Block} {r : RegSpec}

/-- A 32-bit register takes a write of 4 bytes whole. -/
theorem writeAt_narrow (v : Nat) (hb : pageBlock pg = some (b, i)) (hm : b ≠ .mbox) (hr : regAt b o = some r) (hw : r.wide = false) :
    s.writeAt f pg o 4 v = s.writeReg f pg r (v % 2 ^ 32) := by
  simp [State.writeAt, State.write4, hb, hm, regHalf_narrow hr hw]

/-- A low half waits. -/
theorem writeAt_low (v : Nat) (hb : pageBlock pg = some (b, i)) (hm : b ≠ .mbox) (hr : regHalf b o = some (r, 1)) :
    s.writeAt f pg o 4 v = { s with lowHeld := mapSet s.lowHeld (halfKey pg r) (v % 2 ^ 32) } := by
  simp [State.writeAt, State.write4, hb, hm, hr]

/-- A high half acts with the low half that waits for it. -/
theorem writeAt_high (v : Nat) {lo : Nat} (hb : pageBlock pg = some (b, i)) (hm : b ≠ .mbox) (hr : regHalf b o = some (r, 2))
    (hl : mapFind? s.lowHeld (halfKey pg r) = some lo) :
    s.writeAt f pg o 4 v =
      ({ s with lowHeld := mapDrop s.lowHeld (· == halfKey pg r) } : State).writeReg f pg r (lo + v % 2 ^ 32 * 2 ^ 32) := by
  simp [State.writeAt, State.write4, hb, hm, hr, hl]

/-- A 64-bit register takes a write of 8 bytes whole. -/
theorem writeAt_wide (v : Nat) (hb : pageBlock pg = some (b, i)) (hr : regAt b o = some r) (hw : r.wide = true) :
    s.writeAt f pg o 8 v = ({ s with lowHeld := mapDrop s.lowHeld (· == halfKey pg r) } : State).writeReg f pg r (v % 2 ^ 64) := by
  simp [State.writeAt, hb, hr, hw]

/-- A high half after its low half is the write of 8 bytes that the two make. -/
theorem writeAt_halves (v : Nat) {lo : Nat} (hb : pageBlock pg = some (b, i)) (hm : b ≠ .mbox) (hr : regHalf b o = some (r, 2))
    (hl : mapFind? s.lowHeld (halfKey pg r) = some lo) (hlo : lo < 2 ^ 32) :
    s.writeAt f pg o 4 v = s.writeAt f pg (o - 4) 8 (lo + v % 2 ^ 32 * 2 ^ 32) := by
  obtain ⟨hat, hw⟩ := regHalf_high hr
  have hv : (lo + v % 2 ^ 32 * 2 ^ 32) % 2 ^ 64 = lo + v % 2 ^ 32 * 2 ^ 32 := by omega
  rw [writeAt_high v hb hm hr hl, writeAt_wide _ hb hat hw, hv]

end

/-- Through a BAR as well, whether or not the page takes the two writes: they meet the same page under the same checks. -/
theorem effRegisterWrite_halves {s : State} {f off pg i lo : Nat} {b : Block} {r : RegSpec} (v : Nat) (hp : s.barPage f off = some pg)
    (hb : pageBlock pg = some (b, i)) (hm : b ≠ .mbox) (h4 : off % 8 = 4) (hr : regHalf b (off % 4096) = some (r, 2))
    (hl : mapFind? s.lowHeld (halfKey pg r) = some lo) (hlo : lo < 2 ^ 32) :
    effRegisterWrite f off 4 v s = effRegisterWrite f (off - 4) 8 (lo + v % 2 ^ 32 * 2 ^ 32) s := by
  have hg4 : goodSize off 4 = true := by simp [goodSize]; omega
  have hg8 : goodSize (off - 4) 8 = true := by simp [goodSize]; omega
  have hp8 : s.barPage f (off - 4) = some pg := by rw [barPage_half s f h4, hp]
  have ho : (off - 4) % 4096 = off % 4096 - 4 := by omega
  cases hd : s.decodes f with
  | false => rw [effRegisterWrite_undecoded _ _ _ hd, effRegisterWrite_undecoded _ _ _ hd]
  | true =>
    by_cases hn : s.pageAnswers pg = false ∨ s.loadFenced pg = true
    · have hall (q : Nat) (hq : some pg = some q) : s.pageAnswers q = false ∨ s.loadFenced q = true := Option.some.inj hq ▸ hn
      rw [effRegisterWrite_unanswered _ hg4 (by rwa [hp]), effRegisterWrite_unanswered _ hg8 (by rwa [hp8])]
    · obtain ⟨ha, hf⟩ : s.pageAnswers pg = true ∧ s.loadFenced pg = false := by simpa using hn
      rw [effRegisterWrite_reaches _ hd hg4 hp ha hf, effRegisterWrite_reaches _ hd hg8 hp8 ha hf, ho, writeAt_halves v hb hm hr hl hlo]

end Sys2Proof.Machine
end

section
/-!
SUPPORT. Fields under their access codes (R10, R11), and what a write of a register without LK fields does (R363, R364).
-/
namespace Sys2Proof.Machine

/-- One field after a write, by its access code. -/
theorem fld_writeField (sealedP busy : Bool) (v : Nat) (w : Word) (f : FieldSpec) (h : f.lo ≤ f.hi) (h64 : f.hi < 64) :
    fld (writeField sealedP busy v w f) f.hi f.lo =
      match f.acc with
      | .rw => bitsOf v f.hi f.lo
      | .w1c => fld w f.hi f.lo &&& (2 ^ (f.hi + 1 - f.lo) - 1 - bitsOf v f.hi f.lo)
      | .lk => if sealedP then fld w f.hi f.lo else bitsOf v f.hi f.lo
      | .st => if busy then fld w f.hi f.lo else bitsOf v f.hi f.lo
      | .ro => fld w f.hi f.lo
      | .wo => fld w f.hi f.lo := by
  have set (x : Nat) (hx : x < 2 ^ (f.hi + 1 - f.lo)) : fld (setFld w f.hi f.lo x) f.hi f.lo = x := by
    rw [fld_setFld_same w _ _ x h h64, Nat.mod_eq_of_lt hx]
  have hv : bitsOf v f.hi f.lo < 2 ^ (f.hi + 1 - f.lo) := Nat.mod_lt _ (Nat.two_pow_pos _)
  have hc (y : Nat) : fld w f.hi f.lo &&& y < 2 ^ (f.hi + 1 - f.lo) := Nat.lt_of_le_of_lt Nat.and_le_left (fld_lt w f.hi f.lo)
  unfold writeField
  cases f.acc with
  | rw => exact set _ hv
  | w1c => exact set _ (hc _)
  | lk => cases sealedP with
    | true => rfl
    | false => exact set _ hv
  | st => cases busy with
    | true => rfl
    | false => exact set _ hv
  | ro => rfl
  | wo => rfl

/-- The keys staged once `k` is. -/
def stagedWith (l : List Nat) (k : Nat) : List Nat := if l.contains k then l else l ++ [k]

theorem mem_stagedWith (l : List Nat) (k : Nat) : k ∈ stagedWith l k := by
  unfold stagedWith
  split
  · next h => simpa using h
  · simp

section
variable (s : State) (pg sel v : Nat) (r : RegSpec) (hlk : ∀ f ∈ r.fields, f.acc ≠ .lk)
include hlk

/-- The three ways of a write without LK fields: no ST field; ST fields, none armed; ST fields with an activation armed. -/
theorem writeFields_unlocked : s.writeFields pg sel r v =
    let st := r.fields.any (·.acc == .st)
    let s1 := s.setReg pg r.off sel (r.fields.foldl (writeField false (st && s.armBusy) v) (s.reg pg r.off sel))
    if st = false then s1
    else if s.armBusy = false then ({ s1 with staged := stagedWith s.staged (regKey pg r.off sel) } : State).countEv pg 4 1
    else s1.err pg ((pageBlock pg).elim 0 (fun b => b.1.typeId) * 256 % 65536 + 0x7D) := by
  have hn : r.fields.any (·.acc == .lk) = false := by simpa using hlk
  cases hst : r.fields.any (·.acc == .st) <;> cases hb : s.armBusy <;> simp [State.writeFields, hn, hst, hb, stagedWith]

end

end Sys2Proof.Machine
end

section
/-!
SUPPORT. What a write without LK fields leaves, what a register of the WEIR page selects, and the ring registers of an INTAKE.
-/
namespace Sys2Proof.Machine

section
variable (s : State) (pg sel v : Nat) (r : RegSpec) (hlk : ∀ f ∈ r.fields, f.acc ≠ .lk)
include hlk

/-- The register written takes its fields' new values, whatever the write stages, counts or records beside it. -/
theorem writeFields_reg (hlo : 0x60 ≤ r.off) (hhi : r.off < 4096) (hs : sel < 32768) : (s.writeFields pg sel r v).reg pg r.off sel =
    r.fields.foldl (writeField false (r.fields.any (·.acc == .st) && s.armBusy) v) (s.reg pg r.off sel) := by
  rw [writeFields_unlocked s pg sel v r hlk]
  simp only
  split
  · rw [reg_setReg_same]
  · split
    · rw [countEv_reg _ _ _ _ _ _ _ (.inr hlo) hhi hs]
      exact reg_setReg_same _ _ _ _ _
    · rw [err_reg _ _ _ _ _ _ (by omega) (.inr hlo) hhi hs, reg_setReg_same]

theorem writeFields_sameBut : s.sameBut [.regs, .staged] (s.writeFields pg sel r v) := by
  have parts : ∃ x y, s.writeFields pg sel r v = { s with regs := x, staged := y } := by
    rw [writeFields_unlocked s pg sel v r hlk]
    simp only
    split
    · exact ⟨_, s.staged, rfl⟩
    · split
      · obtain ⟨x, e⟩ := countEv_parts _ pg 4 1
        exact ⟨x, _, e⟩
      · obtain ⟨x, e⟩ := err_parts _ pg _
        exact ⟨x, s.staged, e⟩
  obtain ⟨x, y, e⟩ := parts
  rw [e]
  exact sameBut_regs_staged s x y

/-- ST fields with none armed: the entry is staged. -/
theorem mem_staged_writeFields (hst : r.fields.any (·.acc == .st) = true) (hb : s.armBusy = false) :
    regKey pg r.off sel ∈ (s.writeFields pg sel r v).staged := by
  rw [writeFields_unlocked s pg sel v r hlk]
  simp only [hst, hb, reduceCtorEq, if_false, if_true]
  obtain ⟨x, e⟩ := countEv_parts _ pg 4 1
  rw [e]
  exact mem_stagedWith _ _

/-- No ST fields, or an activation armed: nothing is staged. -/
theorem staged_writeFields_eq (h : r.fields.any (·.acc == .st) = false ∨ s.armBusy = true) : (s.writeFields pg sel r v).staged = s.staged := by
  rw [writeFields_unlocked s pg sel v r hlk]
  simp only
  split
  · rfl
  · next hst =>
    rw [if_neg (by simpa using h.resolve_left hst)]
    obtain ⟨x, e⟩ := err_parts _ pg _
    rw [e]
    rfl

/-- ST fields with an activation armed: the page records its block's code 0x7D. -/
theorem writeFields_armed_last (hst : r.fields.any (·.acc == .st) = true) (hb : s.armBusy = true) :
    (s.writeFields pg sel r v).getF pg 0x18 0 31 16 = ((pageBlock pg).elim 0 (fun b => b.1.typeId) * 256 % 65536 + 0x7D) % 2 ^ 16 := by
  rw [writeFields_unlocked s pg sel v r hlk]
  simp only [hst, hb, Bool.true_eq_false, if_false]
  exact err_last _ _ _

end

/-! The WEIR page. -/

theorem pageBlock_pgWeir : pageBlock pgWeir = some (.weir, 0) := rfl

/-- The select registers of the WEIR page: a die or a polder. -/
theorem weir_sel : ∀ r ∈ blockRegs .weir, r.sel = none ∨ r.sel = some (0x108, 1, 0) ∨ r.sel = some (0x120, 5, 0) := by decide

/-- A WEIR register's selection keeps within its part of a key. -/
theorem selOf_weir_lt (s : State) {r : RegSpec} (hr : r ∈ blockRegs .weir) : s.selOf pgWeir r < 32768 := by
  have hdie : s.getF pgWeir 0x108 0 1 0 < 2 ^ 2 := fld_lt _ 1 0
  have hpol : s.getF pgWeir 0x120 0 5 0 < 2 ^ 6 := fld_lt _ 5 0
  rcases weir_sel r hr with e | e | e
  · simp [State.selOf, e]
  · simp only [State.selOf, e, Nat.reduceEqDiff, and_false, if_false]
    omega
  · simp only [State.selOf, e, and_self, if_true]
    omega

/-- A write of a WEIR register does nothing beside its access codes: no register of the page is a command of its own. -/
theorem writeReg_weir (s : State) (f v : Nat) {r : RegSpec} (ho : 0x100 ≤ r.off) :
    s.writeReg f pgWeir r v = s.writeFields pgWeir (s.selOf pgWeir r) r v := by
  simp only [State.writeReg, pageBlock_pgWeir]
  rw [if_neg (by omega)]

/-- The PF's write of a 32-bit WEIR register reaches it at READY. -/
theorem effRegisterWrite_weir (s : State) (v : Nat) {r : RegSpec} (hd : s.decodes 0 = true) (hb : s.bootState = 4) (hr : regAt .weir r.off = some r)
    (hw : r.wide = false) (hlo : 0x100 ≤ r.off) (hhi : r.off < 4096) (hal : r.off % 4 = 0) :
    effRegisterWrite 0 (pgWeir * 4096 + r.off) 4 v s = s.writeFields pgWeir (s.selOf pgWeir r) r (v % 2 ^ 32) := by
  have hg : goodSize (pgWeir * 4096 + r.off) 4 = true := by simp [goodSize, pgWeir]; omega
  have hp : s.barPage 0 (pgWeir * 4096 + r.off) = some pgWeir := barPage_pf s rfl (by decide) hhi
  have ha : s.pageAnswers pgWeir = true := by simp [State.pageAnswers, pageBlock_pgWeir, hb]
  have ho : (pgWeir * 4096 + r.off) % 4096 = r.off := by omega
  rw [effRegisterWrite_reaches v hd hg hp ha rfl, ho, writeAt_narrow v pageBlock_pgWeir (by decide) hr hw, writeReg_weir _ _ _ hlo]

/-! INTAKE pages. -/

theorem pageBlock_pgIntake {p : Nat} (hp : p < 64) : pageBlock (pgIntake p) = some (.intake, p) := by
  have h0 : pgIntake p - 0x100 = p := Nat.add_sub_cancel_left ..
  have h1 : 0x100 ≤ pgIntake p ∧ pgIntake p < 0x140 := by unfold pgIntake; omega
  unfold pageBlock
  rw [if_neg (by omega), if_neg (by omega), if_neg (by omega), if_neg (by omega), if_neg (by omega), if_neg (by omega), if_pos h1, h0]

/-- An INTAKE's code changes its own page's error registers and none of its ring registers. -/
theorem intakePost_reg (s : State) {p code off : Nat} (b : Bool) (hp : p < 64) (hne : off ≠ 0x138 ∧ off ≠ 0x13C) (ho : off < 4096) :
    (s.intakePost p code b).reg (pgIntake p) off 0 = (s.err (pgIntake p) code).reg (pgIntake p) off 0 := by
  have hdie : pageDie (pgIntake p) = 0 := if_pos (by unfold pgIntake; omega)
  have hdev : pgIntake p ≠ pgDev := by unfold pgIntake pgDev; omega
  have htrace : pgIntake p ≠ pgTrace 0 := by unfold pgIntake pgTrace pgDie; omega
  exact fault_reg s _ _ _ _ hdev (by rw [hdie]; exact htrace) hne ho (by omega)

/-- Register INTAKE_RQ_BASE. -/
def rqBase : RegSpec := ⟨0x108, true, none, [⟨63, 12, .rw, 0⟩]⟩

theorem regAt_rqBase : regAt .intake 0x108 = some rqBase := by decide

/-- A ring register of an enabled INTAKE refuses a write with 0x0661 (R439). -/
theorem writeReg_rqBase (s : State) (f v : Nat) {p : Nat} (hp : p < 64) (hen : s.getF (pgIntake p) 0x100 0 0 0 = 1) :
    s.writeReg f (pgIntake p) rqBase v = s.intakePost p 0x0661 true := by
  simp [State.writeReg, pageBlock_pgIntake hp, State.writeIntake, rqBase, hen]

/-- The PF's write of an enabled INTAKE's INTAKE_RQ_BASE is refused, whatever low half it drops. -/
theorem effRegisterWrite_rqBase (s : State) (v : Nat) {p : Nat} (hp : p < 64) (hd : s.decodes 0 = true) (hen : s.getF (pgIntake p) 0x100 0 0 0 = 1) :
    effRegisterWrite 0 (pgIntake p * 4096 + 0x108) 8 v s =
      ({ s with lowHeld := mapDrop s.lowHeld (· == halfKey (pgIntake p) rqBase) } : State).intakePost p 0x0661 true := by
  have hb := pageBlock_pgIntake hp
  have hg : goodSize (pgIntake p * 4096 + 0x108) 8 = true := by simp [goodSize]; omega
  have hpg : s.barPage 0 (pgIntake p * 4096 + 0x108) = some (pgIntake p) := barPage_pf s (by rw [hb]; rfl) (by unfold pgIntake; omega) (by omega)
  have ha : s.pageAnswers (pgIntake p) = true := by simp [State.pageAnswers, hb, answersEarly]
  have hl : s.loadFenced (pgIntake p) = false := by simp [State.loadFenced, hb]
  have ho : (pgIntake p * 4096 + 0x108) % 4096 = 0x108 := by omega
  rw [effRegisterWrite_reaches v hd hg hpg ha hl, ho, writeAt_wide v hb regAt_rqBase rfl]
  exact writeReg_rqBase _ _ _ hp hen

end Sys2Proof.Machine
end

section
/-!
SUPPORT. The state right after cold reset: every register holds its reset value, current and active.
-/
namespace Sys2Proof.Machine

theorem reset_reg (pg off sel : Nat) : State.reset.reg pg off sel = regReset pg off := rfl

theorem reset_regAct (pg off sel : Nat) : State.reset.regAct pg off sel = regReset pg off := rfl

/-- No entry of a binding table is bound: PLD_BIND's bound bit resets to 0. -/
theorem reset_owner (tb i : Nat) : State.reset.owner tb i = none := by
  have hw : fld (regReset pgPld 0x104) 6 6 = 0 := by decide
  simp [State.owner, reset_regAct, hw]

/-- Every DIE page's DIE_COL_ACTIVE resets to no retired column. -/
theorem regReset_retired : ∀ d < 4, fld (regReset (pgDie d) 0x400) 37 0 = 0 := by decide

end Sys2Proof.Machine
end

section
/-!
PROOFS. The statements on reset and on register writes.
-/
namespace Sys2Proof.Machine

/-- Settles O2: the maps and memories of the reset state are empty, so each part reads as its default, and each register as the reset value of its
table row. -/
theorem resetLeaves : Obligations.ResetLeaves := by
  have hboot : State.reset.bootState = 0 := by
    have h : fld (regReset pgDev 0x100) 2 0 = 0 := by decide
    exact h
  have hlevel : State.reset.level = 16 := by
    have h : fld (regReset pgWeir 0x100) 4 0 = 16 := by decide
    exact h
  exact ⟨⟨memory_nil_wf, memory_nil_wf⟩, rfl, rfl, rfl, hboot, hlevel, fun a => ⟨memGet_nil a, memGet_nil a⟩, fun _ => rfl, reset_owner, regReset_retired,
    reset_reg⟩

/-- Settles O54: every clause is one case of what a BAR write reaches, then the rule of the access, of the field or of the page it acts on. -/
theorem registerWritesActByCode : Obligations.RegisterWritesActByCode := by
  unfold Obligations.RegisterWritesActByCode
  refine ⟨fun s f off size v hf => ⟨?undecoded, ?badSize, ?unanswered, ?lowHalf, ?highHalf, ?ring⟩, fld_writeField, ?weir⟩
  case undecoded =>
    intro hd
    rw [exec_registerWrite s off size v hf, effRegisterWrite_undecoded off size v hd]
  case badSize =>
    intro hd hg
    refine ⟨_, exec_registerWrite s off size v hf, ?_⟩
    rw [effRegisterWrite_badSize v hd hg]
    exact ⟨err_last s pgDev 0x0151, err_sameBut s pgDev 0x0151⟩
  case unanswered =>
    intro hg hn
    rw [exec_registerWrite s off size v hf, effRegisterWrite_unanswered v hg hn]
  case lowHalf =>
    intro pg b i r hd hg hp ha hl hb hm hr
    refine ⟨_, exec_registerWrite s off 4 v hf, ?_⟩
    rw [effRegisterWrite_reaches v hd hg hp ha hl, writeAt_low v hb hm hr]
    exact ⟨mapFind?_mapSet_same _ _ _, sameBut_lowHeld s _⟩
  case highHalf =>
    intro pg b i r lo hp hb hm h4 hr hl hlo
    rw [exec_registerWrite s off 4 v hf, exec_registerWrite s (off - 4) 8 _ hf, effRegisterWrite_halves v hp hb hm h4 hr hl hlo]
  case ring =>
    intro p hp hd hen
    refine ⟨_, exec_registerWrite s (pgIntake p * 4096 + 0x108) 8 v (by omega), ?_⟩
    rw [effRegisterWrite_rqBase s v hp hd hen]
    constructor
    · rw [intakePost_reg _ true hp (by omega) (by omega), err_reg _ _ _ _ _ _ (by omega) (by omega) (by omega) (by omega)]
      rfl
    · exact (getF_of_reg_eq (intakePost_reg _ true hp (by omega) (by omega)) 31 16).trans (err_last _ _ _)
  case weir =>
    intro s r v st hd hboot hr hw hlo hhi hal hlk hst
    have hsel : s.selOf pgWeir r < 32768 := selOf_weir_lt s (List.mem_of_find?_eq_some hr)
    refine ⟨_, exec_registerWrite s (pgWeir * 4096 + r.off) 4 v (by omega), ?_⟩
    rw [effRegisterWrite_weir s v hd hboot hr hw hlo hhi hal]
    subst hst
    exact ⟨writeFields_reg s pgWeir _ _ r hlk (by omega) hhi hsel, writeFields_sameBut s pgWeir _ _ r hlk, mem_staged_writeFields s pgWeir _ _ r hlk,
      staged_writeFields_eq s pgWeir _ _ r hlk, writeFields_armed_last s pgWeir _ _ r hlk⟩

end Sys2Proof.Machine
end

section
/-!
SUPPORT. What a step runs, and which commands the block answers: one lemma per shape of a command's meaning, and the shape of every command.
-/
namespace Sys2Proof.Machine

theorem step_of_pending_nil {s : State} (h : s.pending = []) : step s = .next s := by rw [step, h]

theorem step_of_pending_cons {s : State} {c : Instr} {cs : List Instr} (h : s.pending = c :: cs) : step s = exec c { s with pending := cs } := by
  rw [step, h]

/-- The answer is a next state where `b` holds, and the fault of an absent unit where it does not. -/
def AnswersWhere (b : Bool) (o : Out) : Prop := (b = true → ∃ t, o = .next t) ∧ (b = false → o = .fault .noSuchUnit)

theorem answersWhere_next (t : State) : AnswersWhere true (.next t) := ⟨fun _ => ⟨t, rfl⟩, nofun⟩

theorem answersWhere_ite {b : Bool} {p : Prop} [Decidable p] (h : b = true ↔ p) (t : State) :
    AnswersWhere b (if p then .next t else .fault .noSuchUnit) := by
  constructor
  · intro hb
    exact ⟨t, if_pos (h.1 hb)⟩
  · intro hb
    exact if_neg fun hp => Bool.false_ne_true (hb.symm.trans (h.2 hp))

theorem answersWhere_onUnit (n count : Nat) (f : Unit → State) : AnswersWhere (decide (n < count)) (onUnit n count f) :=
  answersWhere_ite decide_eq_true_iff (f ())

theorem answersWhere_onTile (t : Nat) (f : Unit → State) : AnswersWhere (decide (t < 4864)) (onTile t f) := answersWhere_onUnit t 4864 f
theorem answersWhere_onDie (d : Nat) (f : Unit → State) : AnswersWhere (decide (d < 4)) (onDie d f) := answersWhere_onUnit d 4 f
theorem answersWhere_onPol (p : Nat) (f : Unit → State) : AnswersWhere (decide (p < 64)) (onPol p f) := answersWhere_onUnit p 64 f
theorem answersWhere_onSlice (sl : Nat) (f : Unit → State) : AnswersWhere (decide (sl < 64)) (onSlice sl f) := answersWhere_onUnit sl 64 f
theorem answersWhere_onStack (k : Nat) (f : Unit → State) : AnswersWhere (decide (k < 12)) (onStack k f) := answersWhere_onUnit k 12 f
theorem answersWhere_onQueue (q : Nat) (f : Unit → State) : AnswersWhere (decide (q < 256)) (onQueue q f) := answersWhere_onUnit q 256 f
theorem answersWhere_onPort (p : Nat) (f : Unit → State) : AnswersWhere (decide (p < 32)) (onPort p f) := answersWhere_onUnit p 32 f
theorem answersWhere_onLink (i : Nat) (f : Unit → State) : AnswersWhere (decide (i < 8)) (onLink i f) := answersWhere_onUnit i 8 f
theorem answersWhere_onSensor (r u : Nat) (f : Unit → State) : AnswersWhere (sensorExists r u) (onSensor r u f) :=
  answersWhere_onUnit u (sensorCount r) f
theorem answersWhere_onPath (b n : Nat) (s : State) (f : Unit → State) : AnswersWhere (decide (b < n)) (onPath b n s f) :=
  answersWhere_onUnit b n _

theorem answersWhere_onPage (pg : Nat) (f : Unit → State) : AnswersWhere (pageBlock pg).isSome (onPage pg f) := answersWhere_ite Iff.rfl (f ())

/-- The functions 1 to 63 are the VFs (R428). -/
theorem execFlrVf_answersWhere (n : Nat) (s : State) : AnswersWhere (decide (0 < n) && decide (n < 64)) (execFlrVf n s) := by
  rw [execFlrVf]
  cases n with
  | zero => exact ⟨nofun, fun _ => rfl⟩
  | succ m => exact answersWhere_onPol (m + 1) _

/-- Every command answers where the units it names exist: each meaning is of one of the shapes above, over the unit that `Instr.wf` names. -/
theorem exec_answersWhere (c : Instr) (s : State) : AnswersWhere c.wf (exec c s) := by
  cases c with unfold exec
  | commandFetch | moveLoad | moveStore | mma | mmz | vecMap | vecReduce | convL | convS | convV | exchSend | exchRecv | waitb | fbar | kflag
  | kwait | loop | alu | cmp | pbool | ldi | ldc | stc | amxr | sqOpen | sqPush | sqClose | sqPop | atomAdd | atomMin | atomMax | atomCas | atomSwap
  | atomFinc | lacq | lrel | cntCount | cntMask | cntHist | snap | mark | halt | commandComplete | taskStart | taskStop | tileClear | clearComplete
  | scratchpadWindowWrite | tokenGrant | tokenIdleReturn | exchSlot | exchLoafArrival | xpCrossLate | handshakeCredit | heldStore | commit | discard
  | provFull | sliceAtomic | lockOp | sqTailArrival | kflagAccept | fbarArrival | snapCopyComplete | hostWindowReadComplete | dbgHold | dbgUnhold
  | dbgStep => exact answersWhere_onTile ..
  | nearInvalidate | kndDataFlit | kndReady | kndArrive | kndDone | kndShadowComplete | kndCommitComplete | kndAbortMsg | kndAbort | kndQuiesce
  | quiesceExpiry | kndDeadline | frameBarrierRelease | barrierCompletion | d2dRouteNotice | retirementMapWrite | loadAbort | currentRampRecover
  | dieTempSample | linkTempSample | tracePolderHold | tracePolderRelease | watchSample | traceRead | traceDump | traceDumpDone | traceAnchorCapture =>
    exact answersWhere_onDie ..
  | rampAdmission | rampEnd | loadAbandon | intakeEnable | intakeDisable | rqDoorbell | nopReq | load | loadDone | run | step | restore | copy
  | resetReq | badRequest | recordBacklogDrain | ringFault | d3hotEntry | d0Entry | busMasterEnableChange | registerWrite | barRead =>
    exact answersWhere_onPol ..
  | wcbDrainAge | lockFree => exact answersWhere_onSlice ..
  | scrubZeroBlock | patrolRead | hbmTempSample => exact answersWhere_onStack ..
  | sqMiddleRefill | sqSegmentRequest | poolEmpty | sqFlush => exact answersWhere_onQueue ..
  | lnkDataFlit | lnkCtlFlit | lnkSignalDetect | fullTrainingEnd | retrainEnd | lnkLockLoss | portRestored | lnkEnable | lnkRetrain | cblPrsntChange =>
    exact answersWhere_onPort ..
  | d2dSpareReq | d2dSpareTrained | d2dSpareGo | d2dNoFlitTimeout | d2dFail | d2dRetrain | linkRestored => exact answersWhere_onLink ..
  | freshZeroDone | vrTempSample | vrWarn | vrWarnHoldExpiry | vrWarnClear => exact answersWhere_onUnit ..
  | thermalStep | sensorFail | sensorRecover | thermtrip => exact answersWhere_onSensor ..
  | setEndpointId | getEndpointId | getMctpVersionSupport | getMessageTypeSupport | getEndpointUuid | pldmType0Request | getPdr | getSensorReading
  | getStateSensorReadings | getNumericEffecterValue | setNumericEffecterValue | getVersion | getCapabilities | negotiateAlgorithms | getDigests
  | getCertificate | challenge | getMeasurements => exact answersWhere_onPath ..
  | unitFence | unitUnfence | unitRepair | repairDone | counterClear => exact answersWhere_onPage ..
  | hbmReadReturn => exact answersWhere_ite decide_eq_true_iff _
  | crossingSlot | sliceLoad | sliceStore | kndPost | d2dFlit | d2dRouteSwitch => exact answersWhere_ite (by unfold Instr.wf; simp [and_assoc]) _
  | flrVf n => exact execFlrVf_answersWhere n s
  | armBeat | armFrame | disarm | armCtrlDiscard | armCtrlMulti | activation | activationComplete | rejoin | rejoinApply | tileReset | polderReset
  | dieCoreReset | deviceCoreReset | coldReset | resetDone | voteSweep | flrPf | perstAssert | perstDeassert | hotReset | secondaryBusReset
  | pcieLinkDown | mboxSend | mboxAbort | mboxResponse | pldmPowerDown | fwUpdateTransfer | verifyComplete | pwrCapWrite | pwrShiftWrite
  | hostLevelWrite | capControlTick | capUnmet | levelFall | levelRise | beatBoundary | inputLow | inputLowClear | inputUv | thermtripClear
  | frameBoundary | frameLoad | devNodeWrite | devTorusWrite | routeTableWrite | hotswapOn | hotswapUvlo | hotswapOvp | ovpRecovery | hotswapOcp
  | mateLastRelease | stewardVerified | moduleEnRise | moduleEnFall | powerGood | bootDieFwDone | bootMemoryDone | bootLinksDone | bootStageTimeout
  | polderHoldApply | debugPortLock | debugPortDown | debugPortFrame | jtagBypass | jtagIdcode | jtagSamplePreload | jtagExtest | jtagRegisterAccess
  | vfEnableChange | mboxTimeout | gaugeLogPass => exact answersWhere_next _

end Sys2Proof.Machine
end

section
/-!
SUPPORT. Masks of named parts: what `Keeps` says of a mask, as a frame.
-/
namespace Sys2Proof.Machine

/-- The mask of the named parts, for `Keeps`. -/
def maskOf (fs : List Field) : Nat := fs.foldr (fun f m => 2 ^ f.ctorIdx ||| m) 0

theorem maskOf_testBit {fs : List Field} {f : Field} (hf : f ∉ fs) : (maskOf fs).testBit f.ctorIdx = false := by
  induction fs with
  | nil => exact Nat.zero_testBit _
  | cons g fs ih =>
    obtain ⟨hfg, hfs⟩ := List.ne_and_not_mem_of_not_mem_cons hf
    have hbit : (2 ^ g.ctorIdx).testBit f.ctorIdx = false :=
      Nat.testBit_two_pow_of_ne fun e => hfg (Function.LeftInverse.injective Field.ofNat_ctorIdx e.symm)
    calc (maskOf (g :: fs)).testBit f.ctorIdx = ((2 ^ g.ctorIdx).testBit f.ctorIdx || (maskOf fs).testBit f.ctorIdx) := Nat.testBit_or ..
      _ = false := by rw [hbit, ih hfs, Bool.or_false]

theorem Keeps.sameBut {fs : List Field} {s t : State} (h : Keeps (maskOf fs) s t) : s.sameBut fs t := h.frame fun _ => maskOf_testBit

end Sys2Proof.Machine
end

section
/-!
SUPPORT. What the boundaries of beats and frames change: the state in which their work begins, and the parts that this work leaves as they are.
-/
namespace Sys2Proof.Machine

/-- A map applied to every listed value, where it keeps the value that stands for unlisted ones. -/
theorem mapGet_mapValues {α : Type} (f : α → α) (d : α) (hd : f d = d) (m : SMap α) (k : Nat) :
    mapGet (m.map (fun e => (e.1, f e.2))) k d = f (mapGet m k d) := by
  induction m with
  | nil => exact hd.symm
  | cons e m ih =>
    simp only [mapGet, List.map_cons, mapFind?] at ih ⊢
    split
    · rfl
    · exact ih

/-! Beats (R26, R27, R108). -/

/-- The tile with nothing counted as used at its bank arbiters. -/
def Tile.arbsFreed (x : Tile) : Tile := { x with arbs := x.arbs.map (fun a => (a.1, { a.2 with used := [] })) }

/-- The state in which the work of a beat boundary begins: the durations have counted, the beat has advanced and every bank arbiter is free. -/
def State.beatStart (s : State) : State :=
  { s.countReasons with beat := (s.beat + 1) % 2 ^ 56, tiles := s.countReasons.tiles.map (fun e => (e.1, e.2.arbsFreed)) }

/-- The parts that the work of a beat boundary changes. -/
def beatWork : List Field := [.regs, .freeCtr, .recSeq, .pols, .intakes, .hostOut, .trace, .ports, .sentFlits, .sendSeq, .power]

theorem countReasons_sameBut (s : State) : s.sameBut [.regs, .power] s.countReasons := Keeps.sameBut (State.countReasons_keeps rfl (Keeps.refl _ s))

theorem beatStart_tile (s : State) (t : Nat) : s.beatStart.tile t = (s.tile t).arbsFreed := by
  have htiles : s.countReasons.tiles = s.tiles := countReasons_sameBut s .tiles (by decide)
  calc s.beatStart.tile t = (mapGet s.countReasons.tiles t {}).arbsFreed := mapGet_mapValues Tile.arbsFreed {} rfl _ t
    _ = (s.tile t).arbsFreed := by rw [htiles]; rfl

/-- After its start, a beat boundary measures the weirs, checks the allotments, notes the tiles' peaks, gives the ports their allowances and counts. -/
theorem beatStart_sameBut_effBeat (vr low mean : List Nat) (s : State) : s.beatStart.sameBut beatWork (effBeat vr low mean s) := by
  apply Keeps.sameBut
  refine Keeps.foldl (w := maskOf beatWork) (fun _ _ h => State.beatEvents_keeps rfl h) _ _ (State.lnkBeat_keeps rfl ?_)
  refine Keeps.foldl (w := maskOf beatWork) (fun _ _ h => State.ampNote_keeps rfl h) _ _ ?_
  refine Keeps.foldl (w := maskOf beatWork) (fun _ _ h => State.allotBeat_keeps rfl (State.weigh_keeps rfl h)) _ _ ?_
  refine Keeps.foldl (w := maskOf beatWork) (fun _ v h => ?_) _ _ (Keeps.refl _ _)
  split
  · exact State.setF_keeps rfl h
  · exact h

theorem effBeat_beat (vr low mean : List Nat) (s : State) : (effBeat vr low mean s).beat = (s.beat + 1) % 2 ^ 56 :=
  beatStart_sameBut_effBeat vr low mean s .beat (by decide)

theorem effBeat_tile (vr low mean : List Nat) (s : State) (t : Nat) : (effBeat vr low mean s).tile t = (s.tile t).arbsFreed := by
  have htiles : (effBeat vr low mean s).tiles = s.beatStart.tiles := beatStart_sameBut_effBeat vr low mean s .tiles (by decide)
  rw [← beatStart_tile, State.tile, htiles, State.tile]

theorem effBeat_sameBut (vr low mean : List Nat) (s : State) : s.sameBut (.beat :: .tiles :: beatWork) (effBeat vr low mean s) :=
  Keeps.sameBut (effBeat_keeps rfl (Keeps.refl _ s))

/-! Frames (R28, R321). -/

/-- The state in which the work of a frame boundary begins: the frame counter has advanced or taken the value that waits for it. -/
def State.frameStart (s : State) : State :=
  { s with frame := s.frameLoad.getD ((s.frame + 1) % 2 ^ 48), frameLoad := none, frameAt := s.beat / 1024 * 1024 }

/-- After its start, a frame boundary traces the value it has taken and begins the frame at the ports, the kneaders and the die-to-die links. -/
theorem frameStart_sameBut_effFrame {s : State} (h : s.frameAt / 1024 < s.beat / 1024) :
    s.frameStart.sameBut [.regs, .freeCtr, .trace, .d2d, .ports, .kneaders] (effFrame s) := by
  apply Keeps.sameBut
  rw [effFrame, if_neg (by omega)]
  refine State.d2dFrame_keeps rfl (State.kndFrame_keeps rfl (State.lnkFrame_keeps rfl ?_))
  cases hload : s.frameLoad with
  | some f =>
    have hstart : s.frameStart = { s with frame := f, frameLoad := none, frameAt := s.beat / 1024 * 1024 } := by rw [State.frameStart, hload]; rfl
    rw [hstart]
    exact State.traceRec_keeps rfl (Keeps.refl _ _)
  | none =>
    have hstart : s.frameStart = { s with frame := (s.frame + 1) % 2 ^ 48, frameLoad := none, frameAt := s.beat / 1024 * 1024 } := by
      rw [State.frameStart, hload]; rfl
    rw [hstart]
    exact Keeps.refl _ _

/-- Within the local frame of the last boundary there is no other. -/
theorem effFrame_same {s : State} (h : s.beat / 1024 ≤ s.frameAt / 1024) : effFrame s = s := by rw [effFrame, if_pos h]

/-! The throttle log (R392). -/

/-- A write of GAUGE_LOG_SEL selects, and at the record before the head it marks the log as passed. -/
theorem execGaugeLogPass_eq (idx : Nat) (s : State) : execGaugeLogPass idx s = .next { s.setF pgGauge 0x12C 0 7 0 idx with
    power := if idx % 256 = (s.getF pgGauge 0x128 0 7 0 + 255) % 256 then { s.power with passed := s.power.logN } else s.power } := by
  unfold execGaugeLogPass
  split
  · rfl
  · rfl

end Sys2Proof.Machine
end

section
/-!
PROOFS. The statements on the block as a whole, and on beats, frames and the throttle log.
-/
namespace Sys2Proof.Machine

/-- Settles O1: the queue's two forms. -/
theorem stepRunsFrontCommand : Obligations.StepRunsFrontCommand :=
  ⟨fun _ _ _ => step_of_pending_cons rfl, fun _ => step_of_pending_nil⟩

/-- Settles O4, by the shape of every command's meaning. -/
theorem commandsAnswerWhereTheirUnitsExist : Obligations.CommandsAnswerWhereTheirUnitsExist := exec_answersWhere

/-- Settles O21: each boundary's start sets what the statement names, and the work after it changes other parts. -/
theorem beatsFramesAndTheLogAdvance : Obligations.BeatsFramesAndTheLogAdvance := by
  refine ⟨fun s => ⟨fun vr low mean => ?beat, fun h => ?frame, fun h => ?sameFrame⟩, fun s idx => ?log⟩
  case beat =>
    have rest := effBeat_sameBut vr low mean s
    refine ⟨effBeat vr low mean s, rfl, effBeat_beat vr low mean s, rest .frame (by decide), fun t => ?_, fun t => ?_, rest .scr (by decide),
      rest .hbm (by decide)⟩
    · rw [effBeat_tile]; rfl
    · rw [effBeat_tile]; rfl
  case frame =>
    have rest := frameStart_sameBut_effFrame h
    exact ⟨effFrame s, rfl, rest .frame (by decide), rest .frameLoad (by decide), rest .frameAt (by decide), rest .beat (by decide),
      rest .tiles (by decide)⟩
  case sameFrame => exact congrArg Host.Outcome.next (effFrame_same h)
  case log =>
    refine ⟨_, execGaugeLogPass_eq idx s, getF_setF_same s pgGauge 0x12C 0 7 0 idx (by omega) (by omega), ?passed, ?log, ?ceil,
      Keeps.sameBut (execGaugeLogPass_keeps (w := maskOf [.regs, .power]) rfl (Keeps.refl _ s) _ (execGaugeLogPass_eq idx s))⟩
    all_goals
      dsimp only
      split
      · rfl
      · rfl

end Sys2Proof.Machine
end

section
/-!
SUPPORT. A loaf as one number whose digits are the element codes (R55).
-/
namespace Sys2Proof.Machine

@[simp] theorem natLE_length (n x : Nat) : (natLE n x).length = n := by
  induction n generalizing x with
  | zero => rfl
  | succ n ih => rw [natLE, List.length_cons, ih]

theorem leNat_natLE (n x : Nat) : leNat (natLE n x) = x % 2 ^ (8 * n) := by
  induction n generalizing x with
  | zero => exact (Nat.mod_one x).symm
  | succ n ih =>
    have hpow : 2 ^ (8 * (n + 1)) = 256 * 2 ^ (8 * n) := by rw [Nat.mul_succ, Nat.add_comm, Nat.pow_add]
    rw [hpow, Nat.mod_mul, natLE, leNat, ih, BitVec.toNat_ofNat]

/-- Bytes enough for every bit of a number lose none. -/
theorem leNat_natLE_of_lt {n x k : Nat} (hx : x < 2 ^ k) (hk : k ≤ 8 * n) : leNat (natLE n x) = x := by
  rw [leNat_natLE, Nat.mod_eq_of_lt (Nat.lt_of_lt_of_le hx (Nat.pow_le_pow_right Nat.two_pos hk))]

/-- The number whose digits to the base 2^w are the codes, the first one lowest. -/
def codesNat (w : Nat) (cs : List Nat) : Nat := cs.foldr (fun c acc => c % 2 ^ w + acc * 2 ^ w) 0

theorem codesNat_cons (w c : Nat) (cs : List Nat) : codesNat w (c :: cs) = c % 2 ^ w + codesNat w cs * 2 ^ w := rfl

theorem packLoaf_eq (f : Nat) (cs : List Nat) : packLoaf f cs = natLE 512 (codesNat (fmtWidth f) cs) := rfl

theorem codesNat_lt (w : Nat) (cs : List Nat) : codesNat w cs < 2 ^ (w * cs.length) := by
  induction cs with
  | nil => exact Nat.one_pos
  | cons c cs ih =>
    have hc : c % 2 ^ w < 2 ^ w := Nat.mod_lt c (Nat.two_pow_pos w)
    calc codesNat w (c :: cs) = c % 2 ^ w + codesNat w cs * 2 ^ w := codesNat_cons w c cs
      _ < 2 ^ w + codesNat w cs * 2 ^ w := Nat.add_lt_add_right hc _
      _ = (codesNat w cs + 1) * 2 ^ w := by rw [Nat.succ_mul, Nat.add_comm]
      _ ≤ 2 ^ (w * cs.length) * 2 ^ w := Nat.mul_le_mul_right _ ih
      _ = 2 ^ (w * (c :: cs).length) := by rw [List.length_cons, Nat.mul_succ, Nat.pow_add]

/-- Digit `i` is code `i`. -/
theorem codesNat_digit (w : Nat) (cs : List Nat) (i : Nat) (hi : i < cs.length) : codesNat w cs / 2 ^ (w * i) % 2 ^ w = cs[i] % 2 ^ w := by
  induction cs generalizing i with
  | nil => exact absurd hi (Nat.not_lt_zero i)
  | cons c cs ih =>
    rw [codesNat_cons]
    cases i with
    | zero => rw [Nat.mul_zero, Nat.pow_zero, Nat.div_one, Nat.add_mul_mod_self_right, Nat.mod_mod, List.getElem_cons_zero]
    | succ i =>
      have hc : c % 2 ^ w / 2 ^ w = 0 := Nat.div_eq_of_lt (Nat.mod_lt c (Nat.two_pow_pos w))
      rw [Nat.mul_succ, Nat.add_comm (w * i) w, Nat.pow_add, ← Nat.div_div_eq_div_mul, Nat.add_mul_div_right _ _ (Nat.two_pow_pos w), hc,
        Nat.zero_add, List.getElem_cons_succ]
      exact ih i (Nat.lt_of_succ_lt_succ hi)

/-- The widths and counts of R46 fit a loaf of 4096 bits. -/
theorem loaf_fits : ∀ f ≤ 9, 0 < fmtWidth f ∧ fmtWidth f * epl f ≤ 8 * 512 := by decide

theorem bitsOf_element (v i : Nat) {w : Nat} (hw : 0 < w) : bitsOf v (w * i + w - 1) (w * i) = v / 2 ^ (w * i) % 2 ^ w := by
  rw [bitsOf, Nat.shiftRight_eq_div_pow, show w * i + w - 1 + 1 - w * i = w by omega]

theorem packLoaf_length (f : Nat) (cs : List Nat) : (packLoaf f cs).length = 512 := natLE_length 512 _

/-- The number of a full loaf fits its 512 bytes. -/
theorem leNat_packLoaf {f : Nat} {cs : List Nat} (hf : f ≤ 9) (hlen : cs.length = epl f) : leNat (packLoaf f cs) = codesNat (fmtWidth f) cs := by
  rw [packLoaf_eq]
  exact leNat_natLE_of_lt (codesNat_lt (fmtWidth f) cs) (hlen ▸ (loaf_fits f hf).2)

theorem unpackLoaf_packLoaf {f : Nat} {cs : List Nat} (hf : f ≤ 9) (hlen : cs.length = epl f) (hcs : ∀ c ∈ cs, c < 2 ^ fmtWidth f) :
    unpackLoaf f (packLoaf f cs) = cs := by
  have hw : 0 < fmtWidth f := (loaf_fits f hf).1
  rw [unpackLoaf, leNat_packLoaf hf hlen]
  refine List.ext_getElem (by simp only [List.length_map, List.length_range, hlen]) fun i _ hi => ?_
  rw [List.getElem_map, List.getElem_range, bitsOf_element _ _ hw, codesNat_digit _ _ i hi, Nat.mod_eq_of_lt (hcs _ (List.getElem_mem hi))]

end Sys2Proof.Machine
end

section
/-!
SUPPORT. Rounding to a spacing, and the codes of the float formats as roundings of their values (R48, R63).
-/
namespace Sys2Proof.Machine

/-! The count of spacings. -/

theorem roundTo_of_le {ue e : Int} (h : ue ≤ e) (r : Rnd) (m : Nat) : roundTo r m e ue = (m * 2 ^ (e - ue).toNat, false) := by
  rw [roundTo, if_pos h]

section
variable {m p : Nat} {e ue : Int} (h : e < ue) (hp : p = 2 ^ (ue - e).toNat)
include h hp

theorem roundTo_rtz : (roundTo .rtz m e ue).1 = m / p := by
  rw [roundTo, if_neg (Int.not_le.2 h), hp]

theorem roundTo_rne : (roundTo .rne m e ue).1 = if p < 2 * (m % p) ∨ (2 * (m % p) = p ∧ m / p % 2 = 1) then m / p + 1 else m / p := by
  subst hp
  simp only [roundTo, if_neg (Int.not_le.2 h), Bool.or_eq_true, Bool.and_eq_true, decide_eq_true_eq, beq_iff_eq, gt_iff_lt]

theorem roundTo_exact_iff (r : Rnd) : (roundTo r m e ue).2 = false ↔ m % p = 0 := by
  subst hp
  simp only [roundTo, if_neg (Int.not_le.2 h), bne_eq_false_iff_eq]

/-- Truncation keeps the multiple of the spacing at or below the magnitude. -/
theorem roundTo_rtz_floor : (roundTo .rtz m e ue).1 * p ≤ m ∧ m < ((roundTo .rtz m e ue).1 + 1) * p := by
  have hpos : 0 < p := hp ▸ Nat.two_pow_pos _
  rw [roundTo_rtz h hp]
  exact ⟨Nat.div_mul_le_self m p, Nat.lt_mul_of_div_lt (Nat.lt_succ_self _) hpos⟩

/-- The multiple taken is at most half a spacing away, and the even one in a tie. -/
theorem roundTo_rne_nearest : 2 * (m - (roundTo .rne m e ue).1 * p) ≤ p ∧ 2 * ((roundTo .rne m e ue).1 * p - m) ≤ p ∧
    (2 * (m % p) = p → (roundTo .rne m e ue).1 % 2 = 0) := by
  have hdiv : m / p * p + m % p = m := Nat.div_add_mod' m p
  have hrem : m % p < p := Nat.mod_lt m (hp ▸ Nat.two_pow_pos _)
  have hnext : (m / p + 1) * p = m / p * p + p := Nat.succ_mul ..
  rw [roundTo_rne h hp]
  split
  case isTrue hup =>
    rw [hnext]
    omega
  case isFalse hdown => omega

end

/-! Float codes: their fields, and what they decode to. -/

/-- A float code is a sign, an exponent field and a mantissa field. -/
theorem fmtWidth_eq_fields : ∀ f ≤ 7, fmtWidth f = (fmtParams f).1 + (fmtParams f).2.1 + 1 := by decide

theorem exponentBits_pos : ∀ f ≤ 7, 0 < (fmtParams f).1 := by decide

section
variable {f eb mb bias : Nat} (hf : f ≤ 7) (hpar : fmtParams f = (eb, mb, bias))
include hf hpar

theorem signBit_eq : signBit f = 2 ^ (eb + mb) := by
  rw [signBit, fmtWidth_eq_fields f hf, hpar, Nat.add_sub_cancel]

/-- A code without its sign is its exponent field above its mantissa field. -/
theorem mod_signBit_eq_fields (c : Nat) : c % signBit f = bitsOf c (eb + mb - 1) mb * 2 ^ mb + c % 2 ^ mb := by
  have heb : 0 < eb := by simpa only [hpar] using exponentBits_pos f hf
  rw [signBit_eq hf hpar, Nat.add_comm eb mb, Nat.pow_add, Nat.mod_mul, bitsOf, Nat.shiftRight_eq_div_pow, show mb + eb - 1 + 1 - mb = eb by omega,
    Nat.mul_comm, Nat.add_comm]

theorem bitOf_sign {c : Nat} (hc : c < 2 ^ fmtWidth f) : bitOf c (eb + mb) = decide (signBit f ≤ c) := by
  rw [fmtWidth_eq_fields f hf, hpar] at hc
  rw [signBit_eq hf hpar, bitOf]
  by_cases hle : 2 ^ (eb + mb) ≤ c
  · rw [decide_eq_true hle, Nat.testBit_of_two_pow_le_and_two_pow_add_one_gt hle hc]
  · rw [decide_eq_false hle, Nat.testBit_lt_two_pow (Nat.not_le.1 hle)]

/-- A finite code is subnormal or normal (R48). -/
theorem decodeElem_fin {c m : Nat} {n : Bool} {e : Int} (h : decodeElem f false c = .fin n m e) : n = bitOf c (eb + mb) ∧
    (bitsOf c (eb + mb - 1) mb = 0 ∧ m = c % 2 ^ mb ∧ e = 1 - (bias : Int) - mb ∨
      0 < bitsOf c (eb + mb - 1) mb ∧ m = 2 ^ mb + c % 2 ^ mb ∧ e = (bitsOf c (eb + mb - 1) mb : Int) - bias - mb) := by
  have h8 : (f == 8) = false := beq_false_of_ne (by omega)
  have h9 : (f == 9) = false := beq_false_of_ne (by omega)
  simp only [decodeElem, h8, h9, hpar, Bool.false_eq_true, if_false] at h
  split at h
  case isTrue => cases h
  split at h
  case isTrue => split at h <;> cases h
  split at h
  case isTrue hsub =>
    cases h
    exact ⟨rfl, .inl ⟨eq_of_beq hsub, rfl, rfl⟩⟩
  case isFalse hnorm =>
    cases h
    exact ⟨rfl, .inr ⟨Nat.pos_of_ne_zero fun h0 => hnorm (beq_iff_eq.2 h0), rfl, rfl⟩⟩

end

section
variable {f eb mb bias : Nat} (hpar : fmtParams f = (eb, mb, bias))
include hpar

/-- A magnitude given in units of its own spacing drops nothing: `E` is its binade, or the smallest normal's where it lies below that (R63). -/
theorem roundFloat_of_binade (r : Rnd) {m : Nat} {e E : Int} (hE : max ((floorLog2 m : Int) + e) (1 - (bias : Int)) = E) (he : e = E - mb) :
    roundFloat f r m e = ((E - (1 - (bias : Int))).toNat * 2 ^ mb + m, false) := by
  simp only [roundFloat, hpar, hE]
  rw [roundTo_of_le (by omega), he, Int.sub_self, Int.toNat_zero, Nat.pow_zero, Nat.mul_one]

theorem roundFloat_subnormal (r : Rnd) {m : Nat} (h0 : m ≠ 0) (hm : m < 2 ^ mb) : roundFloat f r m (1 - (bias : Int) - mb) = (m, false) := by
  have hlog : floorLog2 m < mb := (Nat.log2_lt h0).2 hm
  rw [roundFloat_of_binade hpar r (E := 1 - (bias : Int)) (by omega) rfl, Int.sub_self, Int.toNat_zero, Nat.zero_mul, Nat.zero_add]

theorem roundFloat_normal (r : Rnd) {k E : Nat} (hk : k < 2 ^ mb) (hE : 0 < E) :
    roundFloat f r (2 ^ mb + k) ((E : Int) - bias - mb) = (E * 2 ^ mb + k, false) := by
  have hlog : floorLog2 (2 ^ mb + k) = mb := (Nat.log2_eq_iff (by omega)).2 ⟨Nat.le_add_right .., by rw [Nat.pow_succ]; omega⟩
  have hcount : ((E : Int) - bias - (1 - (bias : Int))).toNat = E - 1 := by omega
  rw [roundFloat_of_binade hpar r (E := (E : Int) - bias) (by omega) rfl, hcount, ← Nat.add_assoc, ← Nat.succ_mul, Nat.succ_eq_add_one,
    Nat.sub_add_cancel hE]

end

/-- Every finite non-zero code of a float format is the rounding of its value, and its sign bit says the sign. -/
theorem roundFloat_decodeElem {f c m : Nat} {n : Bool} {e : Int} (r : Rnd) (hf : f ≤ 7) (hc : c < 2 ^ fmtWidth f)
    (h : decodeElem f false c = .fin n m e) (h0 : m ≠ 0) : roundFloat f r m e = (c % signBit f, false) ∧ n = decide (signBit f ≤ c) := by
  obtain ⟨eb, mb, bias, hpar⟩ : ∃ eb mb bias, fmtParams f = (eb, mb, bias) := ⟨_, _, _, rfl⟩
  have hmant : c % 2 ^ mb < 2 ^ mb := Nat.mod_lt c (Nat.two_pow_pos mb)
  obtain ⟨hn, ⟨hfield, rfl, rfl⟩ | ⟨hfield, rfl, rfl⟩⟩ := decodeElem_fin hf hpar h
  all_goals refine ⟨?_, hn.trans (bitOf_sign hf hpar hc)⟩
  · rw [mod_signBit_eq_fields hf hpar, hfield, Nat.zero_mul, Nat.zero_add, roundFloat_subnormal hpar r h0 hmant]
  · rw [mod_signBit_eq_fields hf hpar, roundFloat_normal hpar r hmant hfield]

end Sys2Proof.Machine
end

section
/-!
SUPPORT. Integer chunks and lanes modulo 2^32 (R163, R167, R173), and NaN operands of the float lanes (R50, R173).
-/
namespace Sys2Proof.Machine

/-! Integers. -/

/-- Two's complement reads a number modulo 2^w. -/
theorem sext_emod (w x : Nat) : sext w x % ((2 ^ w : Nat) : Int) = (x : Int) % ((2 ^ w : Nat) : Int) := by
  unfold sext
  split
  · rw [Int.sub_emod_right, Int.natCast_emod, Int.emod_emod]
  · rw [Int.natCast_emod, Int.emod_emod]

theorem toU_sext_add (w x y : Nat) : toU w (sext w x + sext w y) = (x + y) % 2 ^ w := by
  rw [toU, Int.add_emod, sext_emod, sext_emod, ← Int.add_emod, ← Int.natCast_add, ← Int.natCast_emod, Int.toNat_natCast]

theorem laneInt_add (x y a : Nat) : laneInt 1 x y a = wrap32 (sext 32 x + sext 32 y) := rfl

theorem signed_natAbs (a : Int) : signed (decide (a < 0)) a.natAbs = a := by
  unfold signed
  split
  case isTrue h =>
    have hneg : a < 0 := of_decide_eq_true h
    omega
  case isFalse h =>
    have hpos : ¬ a < 0 := fun hneg => h (decide_eq_true hneg)
    omega

theorem signed_mul (n n' : Bool) (m m' : Nat) : signed (n != n') (m * m') = signed n m * signed n' m' := by
  cases n with
  | false => cases n' with
    | false => exact Int.natCast_mul m m'
    | true => exact (congrArg Neg.neg (Int.natCast_mul m m')).trans (Int.mul_neg _ _).symm
  | true => cases n' with
    | false => exact (congrArg Neg.neg (Int.natCast_mul m m')).trans (Int.neg_mul _ _).symm
    | true => exact (Int.natCast_mul m m').trans (Int.neg_mul_neg _ _).symm

theorem decodeElem_int8 (c : Nat) : decodeElem 8 false c = fvOfInt (sext 8 c) 0 := rfl

theorem fvMulExact_fvOfInt (a b : Int) : fvMulExact (fvOfInt a 0) (fvOfInt b 0) = (a * b, 0) := by
  simp only [fvMulExact, fvOfInt, signed_mul, signed_natAbs, Int.add_zero]

theorem dyAdd_same_exponent (a b e : Int) : dyAdd a e b e = (a + b, e) := by
  simp only [dyAdd, Int.min_self, Int.sub_self, Int.toNat_zero, Int.pow_zero, Int.mul_one]

/-- The exact sum of a chunk of INT8 products. -/
theorem longSum_int8 (ps : List (Nat × Nat)) : longSum (ps.map (Prod.map (decodeElem 8 false) (decodeElem 8 false))) =
    ((ps.map fun q => sext 8 q.1 * sext 8 q.2).foldr (· + ·) 0, 0) := by
  induction ps with
  | nil => rfl
  | cons q ps ih =>
    simp only [List.map_cons, List.foldr_cons, Prod.map, longSum, decodeElem_int8, fvMulExact_fvOfInt] at ih ⊢
    rw [ih, dyAdd_same_exponent]

theorem mmElem_int (a b : List FV) (sa sb c : Nat) : (mmElem .int a b sa sb c).1 = toU 32 (sext 32 c + (longSum (a.zip b)).1) := rfl

theorem mmElem_int8 (as bs : List Nat) (sa sb c : Nat) :
    (mmElem .int (as.map (decodeElem 8 false)) (bs.map (decodeElem 8 false)) sa sb c).1 =
      toU 32 (sext 32 c + ((as.zip bs).map (fun q => sext 8 q.1 * sext 8 q.2)).foldr (· + ·) 0) := by
  rw [mmElem_int, List.zip_map, longSum_int8]

/-! NaN operands. -/

section
variable {f x : Nat} (h : decodeElem f false x = .nan)
include h

theorem fvFma_nan_left (y : FV) (z : Option FV) : fvFma f (decodeElem f false x) y z = (canonNaN f, {}) := by
  simp only [h, fvFma]

theorem fvAdd_nan_left (y : FV) : fvAdd f (decodeElem f false x) y = (canonNaN f, {}) := fvFma_nan_left h fvOne (some y)

theorem floatPick_nan_left (wantMax : Bool) (b : Nat) : floatPick f wantMax x b = canonNaN f := by
  simp only [floatPick, h, beq_self_eq_true, Bool.true_or, if_true]

/-- The arithmetic operations give the canonical NaN, since each of the sums, products and comparisons they are made of does. -/
theorem laneFloat_nan (free y z a : Nat) : ∀ vop ∈ [1, 2, 3, 4, 5, 6], (laneFloat free f vop x y z a).1 = canonNaN f := by
  have hadd (v : FV) : (fvAdd f (decodeElem f false x) v).1 = canonNaN f := congrArg Prod.fst (fvAdd_nan_left h v)
  have hmul (v : FV) (w : Option FV) : (fvFma f (decodeElem f false x) v w).1 = canonNaN f := congrArg Prod.fst (fvFma_nan_left h v w)
  simp only [List.forall_mem_cons]
  exact ⟨hadd _, hadd _, hmul _ _, hmul _ _, floatPick_nan_left h true y, floatPick_nan_left h false y, nofun⟩

end

end Sys2Proof.Machine
end

section
/-!
PROOFS. The statement on the number formats.
-/
namespace Sys2Proof.Machine

/-- Settles O60: each part is one rule of the shared arithmetic. -/
theorem numbersPackRoundAndAccumulate : Obligations.NumbersPackRoundAndAccumulate :=
  ⟨fun f cs hf hlen hcs => ⟨unpackLoaf_packLoaf hf hlen hcs, packLoaf_length f cs⟩,
    fun _ _ _ _ h hp => ⟨roundTo_rne_nearest h hp, roundTo_rtz_floor h hp, roundTo_exact_iff h hp⟩,
    fun _ _ _ _ _ r hf hc h h0 => roundFloat_decodeElem r hf hc h h0,
    fun as bs sa sb c _ => mmElem_int8 as bs sa sb c,
    fun x y a _ _ => (congrArg Prod.fst (laneInt_add x y a)).trans (toU_sext_add 32 x y),
    fun free _ vop _ y z a hvop h => laneFloat_nan h free y z a vop hvop⟩

end Sys2Proof.Machine
end

section
/-!
SUPPORT. What every command may change, from the law of its meaning.
-/
namespace Sys2Proof.Machine

/-- A command changes no part but those that `touches` lists for it, and keeps both memories canonical: each meaning does, by its own law. -/
theorem exec_keeps (c : Instr) (s : State) : KeepsO (maskOf (touches c)) s (exec c s) := by
  cases c with (unfold exec; dsimp only [touches])
  | commandFetch => exact execCommandFetch_keeps rfl (.refl _ s)
  | moveLoad => exact execMoveLoad_keeps rfl (.refl _ s)
  | moveStore => exact execMoveStore_keeps rfl (.refl _ s)
  | mma => exact execMma_keeps rfl (.refl _ s)
  | mmz => exact execMmz_keeps rfl (.refl _ s)
  | vecMap => exact execVecMap_keeps rfl (.refl _ s)
  | vecReduce => exact execVecReduce_keeps rfl (.refl _ s)
  | convL => exact execConvL_keeps rfl (.refl _ s)
  | convS => exact execConvS_keeps rfl (.refl _ s)
  | convV => exact execConvV_keeps rfl (.refl _ s)
  | exchSend => exact execExchSend_keeps rfl (.refl _ s)
  | exchRecv => exact execExchRecv_keeps rfl (.refl _ s)
  | waitb => exact execWaitb_keeps rfl (.refl _ s)
  | fbar => exact execFbar_keeps rfl (.refl _ s)
  | kflag => exact execKflag_keeps rfl (.refl _ s)
  | kwait => exact execKwait_keeps rfl (.refl _ s)
  | loop => exact execLoop_keeps rfl (.refl _ s)
  | alu => exact execAlu_keeps rfl (.refl _ s)
  | cmp => exact execCmp_keeps rfl (.refl _ s)
  | pbool => exact execPbool_keeps rfl (.refl _ s)
  | ldi => exact execLdi_keeps rfl (.refl _ s)
  | ldc => exact execLdc_keeps rfl (.refl _ s)
  | stc => exact execStc_keeps rfl (.refl _ s)
  | amxr => exact execAmxr_keeps rfl (.refl _ s)
  | sqOpen => exact execSqOpen_keeps rfl (.refl _ s)
  | sqPush => exact execSqPush_keeps rfl (.refl _ s)
  | sqClose => exact execSqClose_keeps rfl (.refl _ s)
  | sqPop => exact execSqPop_keeps rfl (.refl _ s)
  | atomAdd => exact execAtomAdd_keeps rfl (.refl _ s)
  | atomMin => exact execAtomMin_keeps rfl (.refl _ s)
  | atomMax => exact execAtomMax_keeps rfl (.refl _ s)
  | atomCas => exact execAtomCas_keeps rfl (.refl _ s)
  | atomSwap => exact execAtomSwap_keeps rfl (.refl _ s)
  | atomFinc => exact execAtomFinc_keeps rfl (.refl _ s)
  | lacq => exact execLacq_keeps rfl (.refl _ s)
  | lrel => exact execLrel_keeps rfl (.refl _ s)
  | cntCount => exact execCntCount_keeps rfl (.refl _ s)
  | cntMask => exact execCntMask_keeps rfl (.refl _ s)
  | cntHist => exact execCntHist_keeps rfl (.refl _ s)
  | snap => exact execSnap_keeps rfl (.refl _ s)
  | mark => exact execMark_keeps rfl (.refl _ s)
  | halt => exact execHalt_keeps rfl (.refl _ s)
  | commandComplete => exact execCommandComplete_keeps rfl (.refl _ s)
  | taskStart => exact execTaskStart_keeps rfl (.refl _ s)
  | taskStop => exact execTaskStop_keeps rfl (.refl _ s)
  | tileClear => exact execTileClear_keeps rfl (.refl _ s)
  | clearComplete => exact execClearComplete_keeps rfl (.refl _ s)
  | scratchpadWindowWrite => exact execScratchpadWindowWrite_keeps rfl (.refl _ s)
  | tokenGrant => exact execTokenGrant_keeps rfl (.refl _ s)
  | tokenIdleReturn => exact execTokenIdleReturn_keeps rfl (.refl _ s)
  | rampAdmission => exact execRampAdmission_keeps rfl (.refl _ s)
  | rampEnd => exact execRampEnd_keeps rfl (.refl _ s)
  | exchSlot => exact execExchSlot_keeps rfl (.refl _ s)
  | exchLoafArrival => exact execExchLoafArrival_keeps rfl (.refl _ s)
  | crossingSlot => exact execCrossingSlot_keeps rfl (.refl _ s)
  | xpCrossLate => exact execXpCrossLate_keeps rfl (.refl _ s)
  | handshakeCredit => exact execHandshakeCredit_keeps rfl (.refl _ s)
  | sliceLoad => exact execSliceLoad_keeps rfl (.refl _ s)
  | sliceStore => exact execSliceStore_keeps rfl (.refl _ s)
  | heldStore => exact execHeldStore_keeps rfl (.refl _ s)
  | commit => exact execCommit_keeps rfl (.refl _ s)
  | discard => exact execDiscard_keeps rfl (.refl _ s)
  | provFull => exact execProvFull_keeps rfl (.refl _ s)
  | wcbDrainAge => exact execWcbDrainAge_keeps rfl (.refl _ s)
  | nearInvalidate => exact execNearInvalidate_keeps rfl (.refl _ s)
  | sliceAtomic => exact execSliceAtomic_keeps rfl (.refl _ s)
  | lockOp => exact execLockOp_keeps rfl (.refl _ s)
  | lockFree => exact execLockFree_keeps rfl (.refl _ s)
  | hbmReadReturn => exact execHbmReadReturn_keeps rfl (.refl _ s)
  | freshZeroDone => exact execFreshZeroDone_keeps rfl (.refl _ s)
  | scrubZeroBlock => exact execScrubZeroBlock_keeps rfl (.refl _ s)
  | patrolRead => exact execPatrolRead_keeps rfl (.refl _ s)
  | hbmTempSample => exact execHbmTempSample_keeps rfl (.refl _ s)
  | sqTailArrival => exact execSqTailArrival_keeps rfl (.refl _ s)
  | sqMiddleRefill => exact execSqMiddleRefill_keeps rfl (.refl _ s)
  | sqSegmentRequest => exact execSqSegmentRequest_keeps rfl (.refl _ s)
  | poolEmpty => exact execPoolEmpty_keeps rfl (.refl _ s)
  | sqFlush => exact execSqFlush_keeps rfl (.refl _ s)
  | kndPost => exact execKndPost_keeps rfl (.refl _ s)
  | kflagAccept => exact execKflagAccept_keeps rfl (.refl _ s)
  | kndDataFlit => exact execKndDataFlit_keeps rfl (.refl _ s)
  | kndReady => exact execKndReady_keeps rfl (.refl _ s)
  | kndArrive => exact execKndArrive_keeps rfl (.refl _ s)
  | kndDone => exact execKndDone_keeps rfl (.refl _ s)
  | kndShadowComplete => exact execKndShadowComplete_keeps rfl (.refl _ s)
  | kndCommitComplete => exact execKndCommitComplete_keeps rfl (.refl _ s)
  | kndAbortMsg => exact execKndAbortMsg_keeps rfl (.refl _ s)
  | kndAbort => exact execKndAbort_keeps rfl (.refl _ s)
  | kndQuiesce => exact execKndQuiesce_keeps rfl (.refl _ s)
  | quiesceExpiry => exact execQuiesceExpiry_keeps rfl (.refl _ s)
  | kndDeadline => exact execKndDeadline_keeps rfl (.refl _ s)
  | fbarArrival => exact execFbarArrival_keeps rfl (.refl _ s)
  | frameBarrierRelease => exact execFrameBarrierRelease_keeps rfl (.refl _ s)
  | barrierCompletion => exact execBarrierCompletion_keeps rfl (.refl _ s)
  | snapCopyComplete => exact execSnapCopyComplete_keeps rfl (.refl _ s)
  | lnkDataFlit => exact execLnkDataFlit_keeps rfl (.refl _ s)
  | lnkCtlFlit => exact execLnkCtlFlit_keeps rfl (.refl _ s)
  | lnkSignalDetect => exact execLnkSignalDetect_keeps rfl (.refl _ s)
  | fullTrainingEnd => exact execFullTrainingEnd_keeps rfl (.refl _ s)
  | retrainEnd => exact execRetrainEnd_keeps rfl (.refl _ s)
  | lnkLockLoss => exact execLnkLockLoss_keeps rfl (.refl _ s)
  | portRestored => exact execPortRestored_keeps rfl (.refl _ s)
  | lnkEnable => exact execLnkEnable_keeps rfl (.refl _ s)
  | lnkRetrain => exact execLnkRetrain_keeps rfl (.refl _ s)
  | cblPrsntChange => exact execCblPrsntChange_keeps rfl (.refl _ s)
  | d2dFlit => exact execD2dFlit_keeps rfl (.refl _ s)
  | d2dSpareReq => exact execD2dSpareReq_keeps rfl (.refl _ s)
  | d2dSpareTrained => exact execD2dSpareTrained_keeps rfl (.refl _ s)
  | d2dSpareGo => exact execD2dSpareGo_keeps rfl (.refl _ s)
  | d2dNoFlitTimeout => exact execD2dNoFlitTimeout_keeps rfl (.refl _ s)
  | d2dFail => exact execD2dFail_keeps rfl (.refl _ s)
  | d2dRouteNotice => exact execD2dRouteNotice_keeps rfl (.refl _ s)
  | d2dRouteSwitch => exact execD2dRouteSwitch_keeps rfl (.refl _ s)
  | d2dRetrain => exact execD2dRetrain_keeps rfl (.refl _ s)
  | linkRestored => exact execLinkRestored_keeps rfl (.refl _ s)
  | armBeat => exact execArmBeat_keeps rfl (.refl _ s)
  | armFrame => exact execArmFrame_keeps rfl (.refl _ s)
  | disarm => exact execDisarm_keeps rfl (.refl _ s)
  | armCtrlDiscard => exact execArmCtrlDiscard_keeps rfl (.refl _ s)
  | armCtrlMulti => exact execArmCtrlMulti_keeps rfl (.refl _ s)
  | activation => exact execActivation_keeps rfl (.refl _ s)
  | loadAbandon => exact execLoadAbandon_keeps rfl (.refl _ s)
  | activationComplete => exact execActivationComplete_keeps rfl (.refl _ s)
  | rejoin => exact execRejoin_keeps rfl (.refl _ s)
  | rejoinApply => exact execRejoinApply_keeps rfl (.refl _ s)
  | tileReset => exact execTileReset_keeps rfl (.refl _ s)
  | polderReset => exact execPolderReset_keeps rfl (.refl _ s)
  | dieCoreReset => exact execDieCoreReset_keeps rfl (.refl _ s)
  | deviceCoreReset => exact execDeviceCoreReset_keeps rfl (.refl _ s)
  | coldReset => exact execColdReset_keeps rfl (.refl _ s)
  | resetDone => exact execResetDone_keeps rfl (.refl _ s)
  | unitFence => exact execUnitFence_keeps rfl (.refl _ s)
  | unitUnfence => exact execUnitUnfence_keeps rfl (.refl _ s)
  | unitRepair => exact execUnitRepair_keeps rfl (.refl _ s)
  | repairDone => exact execRepairDone_keeps rfl (.refl _ s)
  | voteSweep => exact execVoteSweep_keeps rfl (.refl _ s)
  | retirementMapWrite => exact execRetirementMapWrite_keeps rfl (.refl _ s)
  | intakeEnable => exact execIntakeEnable_keeps rfl (.refl _ s)
  | intakeDisable => exact execIntakeDisable_keeps rfl (.refl _ s)
  | rqDoorbell => exact execRqDoorbell_keeps rfl (.refl _ s)
  | nopReq => exact execNopReq_keeps rfl (.refl _ s)
  | load => exact execLoad_keeps rfl (.refl _ s)
  | loadDone => exact execLoadDone_keeps rfl (.refl _ s)
  | loadAbort => exact execLoadAbort_keeps rfl (.refl _ s)
  | run => exact execRun_keeps rfl (.refl _ s)
  | step => exact execStep_keeps rfl (.refl _ s)
  | restore => exact execRestore_keeps rfl (.refl _ s)
  | copy => exact execCopy_keeps rfl (.refl _ s)
  | resetReq => exact execResetReq_keeps rfl (.refl _ s)
  | badRequest => exact execBadRequest_keeps rfl (.refl _ s)
  | recordBacklogDrain => exact execRecordBacklogDrain_keeps rfl (.refl _ s)
  | ringFault => exact execRingFault_keeps rfl (.refl _ s)
  | hostWindowReadComplete => exact execHostWindowReadComplete_keeps rfl (.refl _ s)
  | flrPf => exact execFlrPf_keeps rfl (.refl _ s)
  | flrVf => exact execFlrVf_keeps rfl (.refl _ s)
  | perstAssert => exact execPerstAssert_keeps rfl (.refl _ s)
  | perstDeassert => exact execPerstDeassert_keeps rfl (.refl _ s)
  | hotReset => exact execHotReset_keeps rfl (.refl _ s)
  | secondaryBusReset => exact execSecondaryBusReset_keeps rfl (.refl _ s)
  | pcieLinkDown => exact execPcieLinkDown_keeps rfl (.refl _ s)
  | d3hotEntry => exact execD3hotEntry_keeps rfl (.refl _ s)
  | d0Entry => exact execD0Entry_keeps rfl (.refl _ s)
  | busMasterEnableChange => exact execBusMasterEnableChange_keeps rfl (.refl _ s)
  | registerWrite => exact execRegisterWrite_keeps rfl (.refl _ s)
  | counterClear => exact execCounterClear_keeps rfl (.refl _ s)
  | gaugeLogPass => exact execGaugeLogPass_keeps rfl (.refl _ s)
  | mboxSend => exact execMboxSend_keeps rfl (.refl _ s)
  | mboxAbort => exact execMboxAbort_keeps rfl (.refl _ s)
  | mboxResponse => exact execMboxResponse_keeps rfl (.refl _ s)
  | setEndpointId => exact execSetEndpointId_keeps rfl (.refl _ s)
  | getEndpointId => exact execGetEndpointId_keeps rfl (.refl _ s)
  | getMctpVersionSupport => exact execGetMctpVersionSupport_keeps rfl (.refl _ s)
  | getMessageTypeSupport => exact execGetMessageTypeSupport_keeps rfl (.refl _ s)
  | getEndpointUuid => exact execGetEndpointUuid_keeps rfl (.refl _ s)
  | pldmType0Request => exact execPldmType0Request_keeps rfl (.refl _ s)
  | getPdr => exact execGetPdr_keeps rfl (.refl _ s)
  | getSensorReading => exact execGetSensorReading_keeps rfl (.refl _ s)
  | getStateSensorReadings => exact execGetStateSensorReadings_keeps rfl (.refl _ s)
  | getNumericEffecterValue => exact execGetNumericEffecterValue_keeps rfl (.refl _ s)
  | setNumericEffecterValue => exact execSetNumericEffecterValue_keeps rfl (.refl _ s)
  | pldmPowerDown => exact execPldmPowerDown_keeps rfl (.refl _ s)
  | fwUpdateTransfer => exact execFwUpdateTransfer_keeps rfl (.refl _ s)
  | verifyComplete => exact execVerifyComplete_keeps rfl (.refl _ s)
  | getVersion => exact execGetVersion_keeps rfl (.refl _ s)
  | getCapabilities => exact execGetCapabilities_keeps rfl (.refl _ s)
  | negotiateAlgorithms => exact execNegotiateAlgorithms_keeps rfl (.refl _ s)
  | getDigests => exact execGetDigests_keeps rfl (.refl _ s)
  | getCertificate => exact execGetCertificate_keeps rfl (.refl _ s)
  | challenge => exact execChallenge_keeps rfl (.refl _ s)
  | getMeasurements => exact execGetMeasurements_keeps rfl (.refl _ s)
  | pwrCapWrite => exact execPwrCapWrite_keeps rfl (.refl _ s)
  | pwrShiftWrite => exact execPwrShiftWrite_keeps rfl (.refl _ s)
  | hostLevelWrite => exact execHostLevelWrite_keeps rfl (.refl _ s)
  | capControlTick => exact execCapControlTick_keeps rfl (.refl _ s)
  | capUnmet => exact execCapUnmet_keeps rfl (.refl _ s)
  | levelFall => exact execLevelFall_keeps rfl (.refl _ s)
  | levelRise => exact execLevelRise_keeps rfl (.refl _ s)
  | beatBoundary => exact execBeatBoundary_keeps rfl (.refl _ s)
  | currentRampRecover => exact execCurrentRampRecover_keeps rfl (.refl _ s)
  | dieTempSample => exact execDieTempSample_keeps rfl (.refl _ s)
  | vrTempSample => exact execVrTempSample_keeps rfl (.refl _ s)
  | linkTempSample => exact execLinkTempSample_keeps rfl (.refl _ s)
  | thermalStep => exact execThermalStep_keeps rfl (.refl _ s)
  | sensorFail => exact execSensorFail_keeps rfl (.refl _ s)
  | sensorRecover => exact execSensorRecover_keeps rfl (.refl _ s)
  | vrWarn => exact execVrWarn_keeps rfl (.refl _ s)
  | vrWarnHoldExpiry => exact execVrWarnHoldExpiry_keeps rfl (.refl _ s)
  | inputLow => exact execInputLow_keeps rfl (.refl _ s)
  | inputLowClear => exact execInputLowClear_keeps rfl (.refl _ s)
  | inputUv => exact execInputUv_keeps rfl (.refl _ s)
  | thermtrip => exact execThermtrip_keeps rfl (.refl _ s)
  | thermtripClear => exact execThermtripClear_keeps rfl (.refl _ s)
  | frameBoundary => exact execFrameBoundary_keeps rfl (.refl _ s)
  | frameLoad => exact execFrameLoad_keeps rfl (.refl _ s)
  | devNodeWrite => exact execDevNodeWrite_keeps rfl (.refl _ s)
  | devTorusWrite => exact execDevTorusWrite_keeps rfl (.refl _ s)
  | routeTableWrite => exact execRouteTableWrite_keeps rfl (.refl _ s)
  | hotswapOn => exact execHotswapOn_keeps rfl (.refl _ s)
  | hotswapUvlo => exact execHotswapUvlo_keeps rfl (.refl _ s)
  | hotswapOvp => exact execHotswapOvp_keeps rfl (.refl _ s)
  | ovpRecovery => exact execOvpRecovery_keeps rfl (.refl _ s)
  | hotswapOcp => exact execHotswapOcp_keeps rfl (.refl _ s)
  | mateLastRelease => exact execMateLastRelease_keeps rfl (.refl _ s)
  | stewardVerified => exact execStewardVerified_keeps rfl (.refl _ s)
  | moduleEnRise => exact execModuleEnRise_keeps rfl (.refl _ s)
  | moduleEnFall => exact execModuleEnFall_keeps rfl (.refl _ s)
  | powerGood => exact execPowerGood_keeps rfl (.refl _ s)
  | bootDieFwDone => exact execBootDieFwDone_keeps rfl (.refl _ s)
  | bootMemoryDone => exact execBootMemoryDone_keeps rfl (.refl _ s)
  | bootLinksDone => exact execBootLinksDone_keeps rfl (.refl _ s)
  | bootStageTimeout => exact execBootStageTimeout_keeps rfl (.refl _ s)
  | dbgHold => exact execDbgHold_keeps rfl (.refl _ s)
  | dbgUnhold => exact execDbgUnhold_keeps rfl (.refl _ s)
  | dbgStep => exact execDbgStep_keeps rfl (.refl _ s)
  | tracePolderHold => exact execTracePolderHold_keeps rfl (.refl _ s)
  | tracePolderRelease => exact execTracePolderRelease_keeps rfl (.refl _ s)
  | polderHoldApply => exact execPolderHoldApply_keeps rfl (.refl _ s)
  | watchSample => exact execWatchSample_keeps rfl (.refl _ s)
  | traceRead => exact execTraceRead_keeps rfl (.refl _ s)
  | traceDump => exact execTraceDump_keeps rfl (.refl _ s)
  | traceDumpDone => exact execTraceDumpDone_keeps rfl (.refl _ s)
  | traceAnchorCapture => exact execTraceAnchorCapture_keeps rfl (.refl _ s)
  | debugPortLock => exact execDebugPortLock_keeps rfl (.refl _ s)
  | debugPortDown => exact execDebugPortDown_keeps rfl (.refl _ s)
  | debugPortFrame => exact execDebugPortFrame_keeps rfl (.refl _ s)
  | jtagBypass => exact execJtagBypass_keeps rfl (.refl _ s)
  | jtagIdcode => exact execJtagIdcode_keeps rfl (.refl _ s)
  | jtagSamplePreload => exact execJtagSamplePreload_keeps rfl (.refl _ s)
  | jtagExtest => exact execJtagExtest_keeps rfl (.refl _ s)
  | jtagRegisterAccess => exact execJtagRegisterAccess_keeps rfl (.refl _ s)
  | vfEnableChange => exact execVfEnableChange_keeps rfl (.refl _ s)
  | barRead => exact execBarRead_keeps rfl (.refl _ s)
  | mboxTimeout => exact execMboxTimeout_keeps rfl (.refl _ s)
  | vrWarnClear => exact execVrWarnClear_keeps rfl (.refl _ s)

/-- Every command keeps both memories canonical. -/
theorem exec_sound {c : Instr} {s t : State} (hs : s.Sound) (h : exec c s = .next t) : t.Sound := (exec_keeps c s t h).sound hs

end Sys2Proof.Machine
end

section
/-!
SUPPORT. Reading memory: each byte of a read, and the cells that a canonical memory has.
-/
namespace Sys2Proof.Machine

theorem memGet_cons_same (a : Nat) (b : Byte) (m : List Host.Cell) : memGet ((a, b) :: m) a = b := if_pos rfl

theorem memGet_cons_other {k a : Nat} (h : k ≠ a) (b : Byte) (m : List Host.Cell) : memGet ((k, b) :: m) a = memGet m a := if_neg h

/-- A walk over rising cells at or above `a` reads byte after byte. -/
theorem memWalk_eq_map {n : Nat} {m : List Host.Cell} {a : Nat} (hm : m.Pairwise (fun x y => x.1 < y.1)) (ha : ∀ c ∈ m, a ≤ c.1) :
    memWalk n m a = (List.range n).map (fun i => memGet m (a + i)) := by
  induction n generalizing m a with
  | zero => rfl
  | succ n ih =>
    have hsucc (m : List Host.Cell) : (List.range (n + 1)).map (fun i => memGet m (a + i)) =
        memGet m a :: (List.range n).map (fun i => memGet m (a + 1 + i)) := by
      rw [List.range_succ_eq_map, List.map_cons, List.map_map]
      simp only [Function.comp_def, Nat.succ_eq_add_one, Nat.add_zero, Nat.add_comm, Nat.add_left_comm]
    rw [hsucc]
    cases m with
    | nil => rw [memWalk, ih List.Pairwise.nil nofun, memGet_nil]
    | cons c m =>
      obtain ⟨k, b⟩ := c
      obtain ⟨hk, hm'⟩ := List.pairwise_cons.1 hm
      rw [memWalk]
      split
      case isTrue h =>
        subst h
        rw [ih hm' fun c hc => hk c hc, memGet_cons_same]
        exact congrArg _ (List.map_congr_left fun i _ => (memGet_cons_other (by omega) b m).symm)
      case isFalse h =>
        have hak : a < k := Nat.lt_of_le_of_ne (ha (k, b) List.mem_cons_self) (Ne.symm h)
        have habove : ∀ c ∈ (k, b) :: m, a + 1 ≤ c.1 := List.forall_mem_cons.2 ⟨hak, fun c hc => Nat.lt_trans hak (hk c hc)⟩
        rw [ih hm habove, memGet_absent fun c hc => Nat.ne_of_gt (habove c hc)]

/-- A read gives the bytes that stand at its addresses. -/
theorem memRead_eq_map {m : List Host.Cell} (hm : Memory.wf m = true) (a n : Nat) : memRead m a n = (List.range n).map (fun i => memGet m (a + i)) := by
  obtain ⟨hrise, -⟩ := (Memory.wf_iff m).1 hm
  rw [memRead, memWalk_eq_map (hrise.filter _) fun c hc => of_decide_eq_true (List.mem_filter.1 hc).2]
  refine List.map_congr_left fun i _ => memGet_filter fun c _ hc => ?_
  simp [hc]

/-- A byte after a write: the byte written where it was written, else the byte as before. -/
theorem memGet_memWrite (m : List Host.Cell) (a : Nat) (bs : List Byte) (x : Nat) :
    memGet (memWrite m a bs) x = if a ≤ x ∧ x < a + bs.length then bs.getD (x - a) 0 else memGet m x := by
  split
  case isTrue h =>
    obtain ⟨hlo, hhi⟩ := h
    obtain ⟨i, rfl⟩ := Nat.exists_eq_add_of_le hlo
    rw [memGet_memWrite_same (by omega), Nat.add_sub_cancel_left]
  case isFalse h => exact memGet_memWrite_other (by omega)

/-- The cells of a canonical memory are the bytes that do not read as zero. -/
theorem mem_iff_memGet {m : List Host.Cell} (hm : Memory.wf m = true) (c : Host.Cell) : c ∈ m ↔ memGet m c.1 = c.2 ∧ c.2 ≠ 0 := by
  obtain ⟨hrise, hnz⟩ := (Memory.wf_iff m).1 hm
  clear hm
  induction m with
  | nil => exact ⟨nofun, fun ⟨h, h0⟩ => absurd h.symm h0⟩
  | cons d m ih =>
    obtain ⟨k, b⟩ := d
    obtain ⟨hk, hrise'⟩ := List.pairwise_cons.1 hrise
    obtain ⟨hb, hnz'⟩ := List.forall_mem_cons.1 hnz
    have ih := ih hrise' hnz'
    obtain ⟨k', b'⟩ := c
    rw [List.mem_cons, Prod.mk.injEq]
    by_cases h : k = k'
    · subst h
      have hnot : (k, b') ∉ m := fun hc => Nat.lt_irrefl k (hk _ hc)
      rw [memGet_cons_same]
      constructor
      · intro hc
        obtain ⟨-, rfl⟩ := hc.resolve_right hnot
        exact ⟨rfl, hb⟩
      · exact fun ⟨hc, _⟩ => .inl ⟨rfl, hc.symm⟩
    · rw [memGet_cons_other h, ih]
      exact or_iff_right fun e => h e.1.symm

/-- Cells at rising addresses are distinct. -/
theorem nodup_of_rising {m : List Host.Cell} (h : m.Pairwise fun x y => x.1 < y.1) : m.Nodup :=
  h.imp fun hlt e => Nat.ne_of_lt hlt (congrArg Prod.fst e)

/-- Two canonical memories that read alike have the same cells, in the same order. -/
theorem memory_ext {m n : List Host.Cell} (hm : Memory.wf m = true) (hn : Memory.wf n = true) (h : ∀ a, memGet m a = memGet n a) : m = n := by
  obtain ⟨hrm, -⟩ := (Memory.wf_iff m).1 hm
  obtain ⟨hrn, -⟩ := (Memory.wf_iff n).1 hn
  have hperm : m.Perm n := (List.perm_ext_iff_of_nodup (nodup_of_rising hrm) (nodup_of_rising hrn)).2 fun c => by
    rw [mem_iff_memGet hm, mem_iff_memGet hn, h]
  exact hperm.eq_of_pairwise (fun _ _ _ _ h1 h2 => absurd h1 (Nat.lt_asymm h2)) hrm hrn

end Sys2Proof.Machine
end

section
/-!
SUPPORT. Two's complement: the numbers of the scalar core as words.
-/
namespace Sys2Proof.Machine

/-- A word's number read as two's complement is the word's integer. -/
theorem sext_toNat {w : Nat} (a : BitVec w) : sext w a.toNat = a.toInt := by
  have hlt : a.toNat % 2 ^ w = a.toNat := Nat.mod_eq_of_lt a.isLt
  rw [sext, hlt, BitVec.toInt_eq_msb_cond, BitVec.msb_eq_getLsbD_last]
  rfl

/-- Reducing an integer gives the word it wraps to. -/
theorem toU_eq_ofInt (w : Nat) (x : Int) : toU w x = (BitVec.ofInt w x).toNat := (BitVec.toNat_ofInt ..).symm

theorem toU_toInt {w : Nat} (a : BitVec w) : toU w a.toInt = a.toNat := by rw [toU_eq_ofInt, BitVec.ofInt_toInt]

section
variable (a b : BitVec 64)

/-- SUB's number. The kernel does not evaluate the closed form of the case by itself, so the case is found by its number. -/
theorem aluFn_one (a b : Nat) : aluFn 0x01 a b = (a + 2 ^ 64 - b) % 2 ^ 64 := by
  generalize hfn : 0x01 = fn
  unfold aluFn
  split
  case h_2 => rfl
  all_goals grind

theorem aluFn_sub : aluFn 0x01 a.toNat b.toNat = (a - b).toNat := by
  have hb := b.isLt
  rw [BitVec.toNat_sub, aluFn_one, show a.toNat + 2 ^ 64 - b.toNat = 2 ^ 64 - b.toNat + a.toNat by omega]

theorem aluFn_shl : aluFn 0x03 a.toNat b.toNat = (a <<< (b.toNat % 64)).toNat := by
  rw [BitVec.toNat_shiftLeft, Nat.shiftLeft_eq]
  rfl

theorem aluFn_shr : aluFn 0x04 a.toNat b.toNat = (a >>> (b.toNat % 64)).toNat := by
  rw [BitVec.toNat_ushiftRight, Nat.shiftRight_eq_div_pow]
  rfl

theorem aluFn_sar : aluFn 0x05 a.toNat b.toNat = (a.sshiftRight (b.toNat % 64)).toNat := by
  rw [BitVec.sshiftRight, Int.shiftRight_eq_div_pow, ← toU_eq_ofInt, ← sext_toNat]
  rfl

theorem aluFn_smin : aluFn 0x09 a.toNat b.toNat = (if a.slt b then a else b).toNat :=
  calc aluFn 0x09 a.toNat b.toNat = toU 64 (min (sext 64 a.toNat) (sext 64 b.toNat)) := rfl
    _ = toU 64 (if a.slt b then a else b).toInt := by
      simp only [sext_toNat, BitVec.slt, decide_eq_true_eq, apply_ite BitVec.toInt]
      exact congrArg (toU 64) (by omega)
    _ = _ := toU_toInt _

theorem aluFn_umin : aluFn 0x0A a.toNat b.toNat = (if a.ult b then a else b).toNat :=
  calc aluFn 0x0A a.toNat b.toNat = min a.toNat b.toNat := rfl
    _ = _ := by
      simp only [BitVec.ult, decide_eq_true_eq, apply_ite BitVec.toNat]
      split <;> omega

theorem aluFn_smax : aluFn 0x0B a.toNat b.toNat = (if a.slt b then b else a).toNat :=
  calc aluFn 0x0B a.toNat b.toNat = toU 64 (max (sext 64 a.toNat) (sext 64 b.toNat)) := rfl
    _ = toU 64 (if a.slt b then b else a).toInt := by
      simp only [sext_toNat, BitVec.slt, decide_eq_true_eq, apply_ite BitVec.toInt]
      exact congrArg (toU 64) (by omega)
    _ = _ := toU_toInt _

theorem aluFn_umax : aluFn 0x0C a.toNat b.toNat = (if a.ult b then b else a).toNat :=
  calc aluFn 0x0C a.toNat b.toNat = max a.toNat b.toNat := rfl
    _ = _ := by
      simp only [BitVec.ult, decide_eq_true_eq, apply_ite BitVec.toNat]
      split <;> omega

theorem cmpFn_eq : cmpFn 0 a.toNat b.toNat = decide (a = b) := decide_eq_decide.2 BitVec.toNat_inj

theorem cmpFn_ne : cmpFn 1 a.toNat b.toNat = decide (a ≠ b) :=
  calc cmpFn 1 a.toNat b.toNat = !cmpFn 0 a.toNat b.toNat := rfl
    _ = _ := by rw [cmpFn_eq, decide_not]

/-- The signed conditions. -/
theorem cmpFn_signed : cmpFn 2 a.toNat b.toNat = a.slt b ∧ cmpFn 3 a.toNat b.toNat = a.sle b ∧ cmpFn 4 a.toNat b.toNat = b.slt a ∧
    cmpFn 5 a.toNat b.toNat = b.sle a := by
  simp only [cmpFn, sext_toNat]
  exact ⟨rfl, rfl, rfl, rfl⟩

end

end Sys2Proof.Machine
end

section
/-!
PROOFS. The statements on both memories and on the scalar core's arithmetic.
-/
namespace Sys2Proof.Machine

/-- Settles O3: the queue is no part of either memory, and every command keeps them canonical. -/
theorem everyStepKeepsMemoriesSound : Obligations.EveryStepKeepsMemoriesSound := by
  intro s t hs h
  cases hq : s.pending with
  | nil =>
    rw [step_of_pending_nil hq] at h
    cases h
    exact hs
  | cons c cs =>
    rw [step_of_pending_cons hq] at h
    exact exec_sound (s := { s with pending := cs }) hs h

/-- Settles O6: a write, a zeroing and a read byte by byte, and canonical memories by their cells. -/
theorem memoryReadsWhatWasWritten : Obligations.MemoryReadsWhatWasWritten :=
  ⟨fun m hm => ⟨memGet_memWrite m, fun _ _ _ => memGet_memZero, memRead_eq_map hm⟩, fun _ _ => memory_ext⟩

/-- Settles O10, function by function. -/
theorem aluAndCmpFunctionsAreTable416 : Obligations.AluAndCmpFunctionsAreTable416 := by
  intro a b
  obtain ⟨hslt, hsle, hsgt, hsge⟩ := cmpFn_signed a b
  exact ⟨(BitVec.toNat_add a b).symm, aluFn_sub a b, (BitVec.toNat_mul a b).symm, aluFn_shl a b, aluFn_shr a b, aluFn_sar a b, (BitVec.toNat_and a b).symm,
    (BitVec.toNat_or a b).symm, (BitVec.toNat_xor a b).symm, aluFn_smin a b, aluFn_umin a b, aluFn_smax a b, aluFn_umax a b, cmpFn_eq a b, cmpFn_ne a b,
    hslt, hsle, hsgt, hsge, rfl, rfl, rfl, rfl⟩

end Sys2Proof.Machine
end

section
/-!
SUPPORT. The head command through steps 1 to 4 of R88: one equation per way it can end.
-/
namespace Sys2Proof.Machine

/-- The tile runs its task, and nothing asked of it holds its issue. -/
def State.issues (s : State) (t : Nat) : Prop :=
  (s.tile t).task = .running ∧ (s.tile t).stopReq = false ∧ (s.tile t).haltIssued = false ∧ (s.tile t).fbarAt = none ∧ s.part (pgTile t) = 0

/-- Command `w` is at the head of the tile's queue, inside its region. -/
def Tile.heads (x : Tile) (w : CmdWord) : Prop :=
  x.cmdIndex < x.cmdrLen ∧ x.queue.find? (fun e => e.1 == x.cmdIndex) = some (x.cmdIndex, w)

/-- The state once the breakpoints on the head command's index were looked at and none is enabled. -/
def State.looked (s : State) (t : Nat) : State := if (s.tile t).brkSeen then s else s.onT t (fun x => { x with brkSeen := true })

theorem looked_of_brkSeen {s : State} {t : Nat} (h : (s.tile t).brkSeen = true) : s.looked t = s := if_pos h

theorem looked_tile (s : State) (t : Nat) : (s.looked t).tile t = { s.tile t with brkSeen := true } := by
  unfold State.looked
  split
  case isTrue h => rw [← h]
  case isFalse => exact onT_tile s t _

theorem onlyTile_refl (s : State) (t : Nat) : s.onlyTile s t := ⟨fun _ _ => rfl, fun f _ => by cases f <;> rfl⟩

theorem onlyTile_setTile (s : State) (t : Nat) (x : Tile) : s.onlyTile (s.setTile t x) t :=
  ⟨fun _ hk => State.tile_setTile_other _ _ _ _ (Ne.symm hk), Keeps.sameBut (Keeps.set_tiles rfl (Keeps.refl _ s))⟩

theorem onlyTile_onT (s : State) (t : Nat) (f : Tile → Tile) : s.onlyTile (s.onT t f) t := onlyTile_setTile s t _

theorem looked_onlyTile (s : State) (t : Nat) : s.onlyTile (s.looked t) t := by
  unfold State.looked
  split
  · exact onlyTile_refl s t
  · exact onlyTile_onT s t _

theorem looked_dbgHeld {s : State} {t : Nat} (h : s.getF (pgTile t) 0xE00 0 0 0 ≠ 1) : (s.looked t).dbgHeld t = false := by
  have hsame : (s.looked t).getF (pgTile t) 0xE00 0 0 0 = s.getF (pgTile t) 0xE00 0 0 0 := by
    unfold State.looked
    split <;> rfl
  simp only [State.dbgHeld, hsame, beq_eq_false_iff_ne.2 h, Bool.false_and]

theorem looked_hasStream (s : State) (t : Nat) : (s.looked t).hasStream t = s.hasStream t := by
  unfold State.hasStream
  rw [looked_tile, State.looked]
  split <;> rfl

/-- With no breakpoint enabled, none hits. -/
theorem brkCheck_disabled {s : State} {t : Nat} (h : ∀ b, b < 2 → s.getF (pgTile t) (0xE08 + 4 * b) 0 0 0 ≠ 1) (kind v idx : Nat) :
    s.brkCheck t kind v idx = s := by
  have hoff (b : Nat) (hb : b < 2) : ¬ fld (s.reg (pgTile t) (0xE08 + 4 * b) 0) 0 0 = 1 := h b hb
  simp only [State.brkCheck, List.range_succ_eq_map, List.range_zero, List.map_nil, List.map_cons, List.foldl_cons, List.foldl_nil]
  rw [if_neg (c := fld (s.reg _ (0xE08 + 4 * 0) 0) 0 0 = 1 ∧ _) fun hb => hoff 0 (by omega) hb.1, if_neg fun hb => hoff 1 (by omega) hb.1]

/-- Step 4 of R88 for a command `c` that decodes and whose predicate passes, read at tile `x`: the waits for its loop's register and its own, its count,
and its checks. -/
def State.headOperands (s : State) (t : Nat) (x : Tile) (c idx : Nat) : Except State (State × Head) :=
  let at_ : CmdAt := { index := idx, cls := cClass c, unit := unitOf c }
  let owed := match x.loops with | l :: _ => if l.owed then some l else none | [] => none
  let stuck := match owed with | some l => x.pendS.any (fun p => p.1 == l.sidx) | none => false
  if stuck then .error (s.stall t 2)
  else
    let s2 := match owed with
      | some _ => s.onT t (fun y => y.payOwed)
      | none => s
    let y := s2.tile t
    let wait := (readsS c ++ [writesS c]).any (fun r => r != 0 && y.pendS.any (fun p => p.1 == r)) || (cClass c == 12 && y.pendS != [])
    if wait then .error (s2.stall t 2)
    else
      let e := y.count c
      let ic := y.issueCode c e
      if ic ≠ 0 then .error (s2.taskFault t y.progress ic at_)
      else match y.ranges c idx with
        | none => .error (s2.taskFault t y.progress 0x201A at_)
        | some rs => .ok (s2, ⟨c, idx, e, rs⟩)

theorem headFor_notRunning {s : State} {t : Nat} (h : (s.tile t).task ≠ .running) (cls op : Nat) : s.headFor t cls op = .error s := by
  unfold State.headFor
  exact if_pos (.inl h)

/-- What becomes of the head command for the row of its class and operation: it faults its task, is skipped, or goes on to its operands. -/
theorem headFor_eq {s : State} {t : Nat} {w : CmdWord} (hi : s.issues t) (hh : (s.tile t).heads w)
    (hb : (s.tile t).brkSeen = true ∨ ∀ b, b < 2 → s.getF (pgTile t) (0xE08 + 4 * b) 0 0 0 ≠ 1) (hd : s.getF (pgTile t) 0xE00 0 0 0 ≠ 1) :
    s.headFor t (cClass w.toNat) (cOp w.toNat) =
      let x := s.tile t
      let code := decodeCode w.toNat x.cmdIndex x.cmdrLen (x.loops.map (·.last)) (s.hasStream t)
      if code ≠ 0 then
        .error ((s.looked t).taskFault t x.progress code { index := x.cmdIndex, cls := cClass w.toNat, unit := unitOf w.toNat })
      else if x.p (cPred w.toNat) == (cPneg w.toNat == 1) then .error ((s.looked t).passed t x.cmdIndex (x.cmdIndex + 1) (cClass w.toNat) 0x11)
      else (s.looked t).headOperands t x w.toNat x.cmdIndex := by
  obtain ⟨hrun, hstop, hhalt, hbar, hpart⟩ := hi
  obtain ⟨hlen, hq⟩ := hh
  have hlook : (if (s.tile t).brkSeen = true then s else (s.brkCheck t 0 (s.tile t).cmdIndex (s.tile t).cmdIndex).onT t fun y => { y with brkSeen := true }) =
      s.looked t := by
    unfold State.looked
    split
    case isTrue => rfl
    case isFalse h => rw [brkCheck_disabled (hb.resolve_left h)]
  unfold State.headFor
  simp only [hrun, hstop, hhalt, hbar, hpart, hq, Nat.not_le.2 hlen, hlook, looked_dbgHeld hd, looked_hasStream, Option.map_some, ne_eq,
    not_true_eq_false, Bool.false_eq_true, Option.isSome_none, or_self, and_false, if_false]
  rfl

/-- A command reads no register that is pending, and is no snapshot beside one. -/
theorem Tile.not_waits {x : Tile} {c : Nat} (hr : ∀ r, r ∈ readsS c ++ [writesS c] → r ≠ 0 → ∀ q, q ∈ x.pendS → q.1 ≠ r)
    (h12 : cClass c = 12 → x.pendS = []) :
    ((readsS c ++ [writesS c]).any (fun r => r != 0 && x.pendS.any (fun p => p.1 == r)) || (cClass c == 12 && x.pendS != [])) = false := by
  rw [Bool.or_eq_false_iff, List.any_eq_false]
  constructor
  · intro r hmem hbusy
    obtain ⟨h0, q, hq, hqr⟩ : r ≠ 0 ∧ ∃ q ∈ x.pendS, q.1 = r := by simpa using hbusy
    exact hr r hmem h0 q hq hqr
  · simpa using h12

/-- Operands in order, no loop's number owed: the command is ready. -/
theorem headOperands_ready {s : State} {t c idx : Nat} {x : Tile} {rs : List SbEntry} (hl : ∀ l, x.loops.head? = some l → l.owed = false)
    (hr : ∀ r, r ∈ readsS c ++ [writesS c] → r ≠ 0 → ∀ q, q ∈ (s.tile t).pendS → q.1 ≠ r) (h12 : cClass c = 12 → (s.tile t).pendS = [])
    (hic : (s.tile t).issueCode c ((s.tile t).count c) = 0) (hrs : (s.tile t).ranges c idx = some rs) :
    s.headOperands t x c idx = .ok (s, ⟨c, idx, (s.tile t).count c, rs⟩) := by
  have howed : (match x.loops with | l :: _ => if l.owed then some l else none | [] => none) = none := by
    cases hx : x.loops with
    | nil => rfl
    | cons l ls => exact if_neg (ne_true_of_eq_false (hl l (by rw [hx]; rfl)))
  unfold State.headOperands
  simp only [howed, Tile.not_waits hr h12, hic, hrs, Bool.false_eq_true, ne_eq, not_true_eq_false, if_false]

/-- A skipped command changes nothing of its tile but its place in the region. -/
theorem passed_wentByOnly {s : State} {t idx : Nat} (cls ev : Nat) (hl : (s.tile t).noLoopEnd idx) (hn : idx + 1 < (s.tile t).cmdrLen) (c e : Nat)
    (rs : List SbEntry) : s.wentByOnly (s.passed t idx (idx + 1) cls ev) t ⟨c, idx, e, rs⟩ := by
  obtain ⟨⟨b, q, f, htile⟩, hpass⟩ := passed_next s t idx cls ev hl (.inr hn)
  exact ⟨hpass.wentBy (by rw [htile]) (by rw [htile]) (by rw [htile]), by rw [htile], by rw [htile], by rw [htile], by rw [htile], by rw [htile]⟩

end Sys2Proof.Machine
end

section
/-!
PROOFS. The statements on the head command.
-/
namespace Sys2Proof.Machine

/-- Settles O7: with nothing in its way the head command passes on to its operands, and they are in order. -/
theorem headCommandGetsReady : Obligations.HeadCommandGetsReady := by
  intro s t w rs hrun hstop hhalt hbar hpart hlen hq hb hd hcode hpred hl hr h12 hic hrs
  refine ⟨s.looked t, ?_, looked_tile s t, looked_onlyTile s t⟩
  have hready : (s.looked t).headOperands t (s.tile t) w.toNat (s.tile t).cmdIndex =
      .ok (s.looked t, ⟨w.toNat, (s.tile t).cmdIndex, ((s.looked t).tile t).count w.toNat, rs⟩) := by
    have htile := looked_tile s t
    exact headOperands_ready hl (htile ▸ hr) (htile ▸ h12) (htile ▸ hic) (htile ▸ hrs)
  rw [headFor_eq ⟨hrun, hstop, hhalt, hbar, hpart⟩ ⟨hlen, hq⟩ (.inr hb) hd]
  simp only [hcode, ne_eq, not_true_eq_false, if_false, beq_iff_eq, hpred, hready, looked_tile]
  rfl

/-- Settles O8: the three ways in which the head command does not reach its operands. -/
theorem headCommandIsHeldSkippedOrFaults : Obligations.HeadCommandIsHeldSkippedOrFaults := by
  intro s t cls op
  refine ⟨fun h => headFor_notRunning h cls op, ?_⟩
  rintro w hrun hstop hhalt hbar hpart hseen hd hq rfl rfl hlen
  have heq := headFor_eq ⟨hrun, hstop, hhalt, hbar, hpart⟩ ⟨hlen, hq⟩ (.inl hseen) hd
  rw [looked_of_brkSeen hseen] at heq
  constructor
  · intro hcode
    rw [heq]
    exact ⟨_, if_pos hcode, taskFault_faulted s t _ _ _ hrun⟩
  · intro hcode hpred hnext hloop
    rw [heq]
    refine ⟨_, (if_neg (fun h => h hcode)).trans (if_pos (beq_iff_eq.2 hpred)), passed_wentByOnly _ _ hloop hnext _ _ _⟩

end Sys2Proof.Machine
end

section
/-!
SUPPORT. What a tile's rows share: the row at its tile, scalar registers after a write, and a command that goes by after other work of its row.
-/
namespace Sys2Proof.Machine

theorem onTile_eq_next {t : Nat} (h : t < 4864) (f : Unit → State) : onTile t f = .next (f ()) := if_pos h

theorem scalarRow_ready {s s1 : State} {t cls op : Nat} {h : Head} (hr : s.ready s1 t cls op h) (f : State → Head → State) :
    s.scalarRow t cls op f = f s1 h := by
  obtain ⟨-, hhead, -, -⟩ := hr
  rw [State.scalarRow, hhead]

/-- Writing a scalar register changes the scalar registers alone. -/
theorem Tile.setS_eq (x : Tile) (i v : Nat) : x.setS i v = { x with sregs := (x.setS i v).sregs } := by
  unfold Tile.setS
  split
  · rfl
  · rfl

/-- A scalar register after a write: s0 discards it, the others take 64 bits. -/
theorem Tile.s_setS (x : Tile) (i v r : Nat) : (x.setS i v).s r = if r = i ∧ r ≠ 0 then v % 2 ^ 64 else x.s r := by
  unfold Tile.setS
  split
  case isTrue hi =>
    rw [if_neg]
    rintro ⟨rfl, h0⟩
    exact h0 hi
  case isFalse hi =>
    unfold Tile.s
    by_cases hr : r = i
    · subst hr
      simp [hi]
    · simp [hr, mapGet_mapSet_other _ _ _ _ _ (Ne.symm hr)]

theorem State.wentBy.passing {s u : State} {t : Nat} {h : Head} (hw : s.wentBy u t h) : Passing s u t := by
  obtain ⟨-, -, -, htiles, hregs, hrest⟩ := hw
  refine ⟨htiles, fun k hk => ?_, hrest⟩
  simp only [List.mem_cons, List.not_mem_nil, or_false, not_or] at hk
  exact hregs k hk.1 hk.2

/-- A command that goes by after other work of its row has gone by since before it. -/
theorem Passing.trans_wentBy {s u v : State} {t : Nat} {h : Head} (hp : Passing s u t) (hprog : (u.tile t).progress = (s.tile t).progress)
    (htask : (u.tile t).task = (s.tile t).task) (hw : u.wentBy v t h) : s.wentBy v t h := by
  have hpass := hp.trans hw.passing
  obtain ⟨hidx, hp', ht', -, -, -⟩ := hw
  exact hpass.wentBy hidx (by rw [hp', hprog]) (by rw [ht', htask])

end Sys2Proof.Machine
end

section
/-!
SUPPORT. The scratchpad's banks and the crumb store buffer: what a grant, a write and a read change, and what the crumbs leave in the bank.
-/
namespace Sys2Proof.Machine

theorem memWalk_length (n : Nat) : ∀ (m : List Host.Cell) (a : Nat), (memWalk n m a).length = n := by
  induction n with
  | zero => exact fun _ _ => rfl
  | succ n ih =>
    intro m a
    cases m with
    | nil => rw [memWalk, List.length_cons, ih]
    | cons c m =>
      rw [memWalk]
      split
      · rw [List.length_cons, ih]
      · rw [List.length_cons, ih]

theorem leNat_lt (bs : List Byte) : leNat bs < 2 ^ (8 * bs.length) := by
  induction bs with
  | nil => exact Nat.one_pos
  | cons b bs ih =>
    have hb := b.isLt
    rw [leNat, List.length_cons, Nat.mul_succ, Nat.pow_add]
    omega

theorem leNat_memRead_lt (m : List Host.Cell) (a n : Nat) : leNat (memRead m a n) < 2 ^ (8 * n) := by
  have h := leNat_lt (memRead m a n)
  rwa [memRead, memWalk_length] at h

theorem bankGrant_tile (s : State) (t who a : Nat) : ∃ ar, (s.bankGrant t who a).tile t = { s.tile t with arbs := ar } := by
  unfold State.bankGrant
  dsimp only
  split
  · exact ⟨_, State.tile_setTile_same _ _ _⟩
  · exact ⟨_, State.tile_setTile_same _ _ _⟩

theorem Passing.bankGrant (s : State) (t a : Nat) {who : Nat} (hw : who < 16) : Passing s (s.bankGrant t who a) t := by
  unfold State.bankGrant
  dsimp only
  split
  · exact (Passing.setTile s t _).trans (Passing.bump _ _ _ _ _ (by omega) (by omega))
  · exact Passing.setTile s t _

theorem bankGrant_sameBut (s : State) (t who a : Nat) : s.sameBut [.regs, .tiles] (s.bankGrant t who a) :=
  Keeps.sameBut (State.bankGrant_keeps rfl (Keeps.refl _ s))

/-- A read of bytes without an upset gives them, and beside the grant changes nothing. -/
theorem scrRead_clear {s : State} {t a n : Nat} (who : Nat) (hc : s.clear t a n) :
    s.scrRead t who a n = (some (memRead s.scr (scrKey t a) n), s.bankGrant t who a) := by
  have hrest := bankGrant_sameBut s t who a
  have hscr : (s.bankGrant t who a).scr = s.scr := hrest .scr (by decide)
  have hups : (s.bankGrant t who a).upsets = s.upsets := hrest .upsets (by decide)
  have hhit : s.upsets.filter (fun u => scrKey t a ≤ u.1 && u.1 < scrKey t a + n) = [] :=
    List.filter_eq_nil_iff.2 fun q hq hin => hc q hq (by simpa using hin)
  unfold State.scrRead
  simp only [hups, hhit, if_true, State.scrPeek, hscr]

theorem scrWrite_tile (s : State) (t who a : Nat) (bs : List Byte) : ∃ ar, (s.scrWrite t who a bs).tile t = { s.tile t with arbs := ar } :=
  bankGrant_tile s t who a

theorem scrWrite_tile_other (s : State) {t j : Nat} (a : Nat) {who : Nat} (bs : List Byte) (hw : who < 16) (hj : j ≠ t) :
    (s.scrWrite t who a bs).tile j = s.tile j := (Passing.bankGrant s t a hw).1 j hj

theorem scrWrite_scr (s : State) (t who a : Nat) (bs : List Byte) : (s.scrWrite t who a bs).scr = memWrite s.scr (scrKey t a) bs := by
  have hscr : (s.bankGrant t who a).scr = s.scr := bankGrant_sameBut s t who a .scr (by decide)
  rw [State.scrWrite, State.scrPoke, hscr]

theorem scrWrite_sameBut (s : State) (t who a : Nat) (bs : List Byte) : s.sameBut [.regs, .scr, .upsets, .tiles] (s.scrWrite t who a bs) :=
  Keeps.sameBut (State.scrWrite_keeps rfl (Keeps.refl _ s))

section
variable {s : State} {t : Nat} {k : Crumb} {ks : List Crumb}

theorem crumbWrite_cons (h : (s.tile t).crumbs = k :: ks) :
    s.crumbWrite t = (s.onT t (fun x => { x with crumbs := ks })).scrWrite t 10 k.addr (natLE 8 k.val.toNat) := by rw [State.crumbWrite, h]

theorem crumbWrite_tile (h : (s.tile t).crumbs = k :: ks) : ∃ ar, (s.crumbWrite t).tile t = { s.tile t with crumbs := ks, arbs := ar } := by
  obtain ⟨ar, har⟩ := scrWrite_tile (s.onT t (fun x => { x with crumbs := ks })) t 10 k.addr (natLE 8 k.val.toNat)
  refine ⟨ar, ?_⟩
  rw [crumbWrite_cons h, har, onT_tile]

/-- The oldest crumb's bytes stand in the bank, and the others as before. -/
theorem crumbWrite_memGet (h : (s.tile t).crumbs = k :: ks) (a : Nat) : memGet (s.crumbWrite t).scr a =
    if scrKey t k.addr ≤ a ∧ a < scrKey t k.addr + 8 then (natLE 8 k.val.toNat).getD (a - scrKey t k.addr) 0 else memGet s.scr a := by
  rw [crumbWrite_cons h, scrWrite_scr, memGet_memWrite, natLE_length]
  rfl

end

theorem crumbWrite_tile_other (s : State) {t j : Nat} (hj : j ≠ t) : (s.crumbWrite t).tile j = s.tile j := by
  unfold State.crumbWrite
  split
  · rfl
  · rw [scrWrite_tile_other _ _ _ (by omega) hj, onT_tile_other _ _ _ _ hj]

theorem crumbWrites_tile {t : Nat} (l : List Crumb) : ∀ s : State, (s.tile t).crumbs = l →
    ∃ ar, (l.foldl (fun st _ => st.crumbWrite t) s).tile t = { s.tile t with crumbs := [], arbs := ar } := by
  induction l with
  | nil =>
    intro s h
    exact ⟨(s.tile t).arbs, congrArg (fun cs => ({ s.tile t with crumbs := cs } : Tile)) h⟩
  | cons k ks ih =>
    intro s h
    obtain ⟨ar, hw⟩ := crumbWrite_tile h
    obtain ⟨ar', hf⟩ := ih (s.crumbWrite t) (by rw [hw])
    exact ⟨ar', by rw [List.foldl_cons, hf, hw]⟩

/-- Writing every crumb out empties the buffer and leaves the rest of the tile, beside its bank arbiters. -/
theorem crumbFlush_tile (s : State) (t : Nat) : ∃ ar, (s.crumbFlush t).tile t = { s.tile t with crumbs := [], arbs := ar } :=
  crumbWrites_tile _ s rfl

end Sys2Proof.Machine
end

section
/-!
SUPPORT. Task ends and completions (R85, R103, R116, R156, R157).
-/
namespace Sys2Proof.Machine

theorem exec_commandComplete (s : State) {t : Nat} (ht : t < 4864) (eng : Nat) : exec (.commandComplete t eng []) s = .next (effComplete t eng s) := by
  have h : exec (.commandComplete t eng []) s = .next (effComplete t eng (s.addUpsets t [])) := onTile_eq_next ht fun _ => effComplete t eng (s.addUpsets t [])
  rw [h, addUpsets_nil]

theorem settleTask_onlyTile (s : State) (t : Nat) : s.onlyTile (s.settleTask t) t := by
  unfold State.settleTask
  dsimp only
  split
  · exact onlyTile_refl s t
  · split
    · exact onlyTile_setTile s t _
    · split
      · exact onlyTile_setTile s t _
      · exact onlyTile_refl s t

theorem settleTask_crumbs (s : State) (t : Nat) : ((s.settleTask t).tile t).crumbs = (s.tile t).crumbs := by
  unfold State.settleTask
  dsimp only
  split
  · rfl
  · split
    · rw [State.tile_setTile_same]
    · split
      · rw [State.tile_setTile_same]
      · rfl

/-- With neither a HALT issued nor a stop asked for, a task goes on. -/
theorem settleTask_eq_self {s : State} {t : Nat} (hstop : (s.tile t).stopReq = false) (hhalt : (s.tile t).haltIssued = false) : s.settleTask t = s := by
  unfold State.settleTask
  simp only [hstop, hhalt, Bool.false_eq_true, if_false, ite_self]

end Sys2Proof.Machine
end

section
/-!
SUPPORT. The crumb commands at the head of the queue.
-/
namespace Sys2Proof.Machine

/-- A command that completes at issue and whose effect leaves the registers, predicates, queues, scoreboard and walkers goes by with no more. -/
theorem wentByOnly_of_tile {s u : State} {t : Nat} {h : Head} {x : Tile} {b : Bool} {q : List (Nat × CmdWord)} {n : Nat} (hw : s.wentBy u t h)
    (hu : u.tile t = { x with cmdIndex := h.idx + 1, progress := ((s.tile t).progress + 1) % 2 ^ 64, brkSeen := false, stall := 0, queue := q, fetchNext := n,
                              dbgStep := b })
    (hx : x.sregs = (s.tile t).sregs ∧ x.preds = (s.tile t).preds ∧ x.dq = (s.tile t).dq ∧ x.sb = (s.tile t).sb ∧ x.walkers = (s.tile t).walkers) :
    s.wentByOnly u t h := by
  refine ⟨hw, ?_⟩
  rw [hu]
  exact hx

/-- A command whose effect is a register goes by with it written. -/
theorem issueNow_setS {s : State} {t : Nat} {h : Head} (i v : Nat) (hl : (s.tile t).noLoopEnd h.idx) (hn : h.idx + 1 < (s.tile t).cmdrLen) :
    s.wentBy (s.issueNow t h (fun x => x.setS i v)) t h ∧ ((s.issueNow t h (fun x => x.setS i v)).tile t).crumbs = (s.tile t).crumbs ∧
      ((s.issueNow t h (fun x => x.setS i v)).tile t).preds = (s.tile t).preds ∧
      ∀ r, ((s.issueNow t h (fun x => x.setS i v)).tile t).s r = if r = i ∧ r ≠ 0 then v % 2 ^ 64 else (s.tile t).s r := by
  obtain ⟨⟨b, q, n, htile⟩, hwent⟩ := issueNow_spec s t h (fun x => x.setS i v) (by rw [Tile.setS_eq]) (by rw [Tile.setS_eq]) (by rw [Tile.setS_eq]) hl
    (.inr (by rw [Tile.setS_eq]; exact hn))
  refine ⟨hwent, by rw [htile, Tile.setS_eq], by rw [htile, Tile.setS_eq], fun r => ?_⟩
  rw [htile, ← Tile.s_setS]
  rfl

/-- STC at the head: the crumb stands behind those in the buffer. -/
theorem execStc_ready {s s1 : State} {t a : Nat} {h : Head} (hr : s.ready s1 t 8 5 h) (ha : (s1.tile t).crumbAddr h.c = (a, 0))
    (hw : (s1.tile t).crumbWait a true = false) (hlen : (s1.tile t).crumbs.length < 4) :
    ∃ u, exec (.stc t) s = .next u ∧ s1.wentByOnly u t h ∧
      (u.tile t).crumbs = (s1.tile t).crumbs ++ [⟨a, BitVec.ofNat 64 ((s1.tile t).s (cf h.c 1 20 16)), h.idx, (s1.tile t).progress⟩] := by
  have hexec : exec (.stc t) s = .next (effStc t s) := onTile_eq_next hr.1 fun _ => effStc t s
  have heff : effStc t s = s1.issueNow t h
      (fun y => { y with crumbs := y.crumbs ++ [⟨a, BitVec.ofNat 64 (y.s (cf h.c 1 20 16)), h.idx, y.progress⟩] }) := by
    unfold effStc
    rw [scalarRow_ready hr]
    simp only [ha, hw, Nat.not_le.2 hlen, ne_eq, not_true_eq_false, Bool.false_eq_true, if_false]
  obtain ⟨ht, -, hnext, hloop⟩ := hr
  obtain ⟨⟨b, q, n, htile⟩, hwent⟩ := issueNow_spec s1 t h
    (fun y => { y with crumbs := y.crumbs ++ [⟨a, BitVec.ofNat 64 (y.s (cf h.c 1 20 16)), h.idx, y.progress⟩] }) rfl rfl rfl hloop (.inr hnext)
  rw [hexec, heff]
  exact ⟨_, rfl, wentByOnly_of_tile hwent htile ⟨rfl, rfl, rfl, rfl, rfl⟩, by rw [htile]⟩

/-- LDC at the head: the buffer is written out, and the crumb's number is in the register. -/
theorem execLdc_ready {s s1 : State} {t a : Nat} {h : Head} {ecc : List (Nat × Nat)} (hr : (s.addUpsets t ecc).ready s1 t 8 4 h)
    (ha : (s1.tile t).crumbAddr h.c = (a, 0)) (hw : (s1.tile t).crumbWait a false = false) (hc : (s1.crumbFlush t).clear t a 8) :
    ∃ u, exec (.ldc t ecc) s = .next u ∧ (s1.crumbFlush t).wentBy u t h ∧ (u.tile t).crumbs = [] ∧ (u.tile t).preds = (s1.tile t).preds ∧
      ∀ r, (u.tile t).s r = if r = cf h.c 1 10 6 ∧ r ≠ 0 then leNat (memRead (s1.crumbFlush t).scr (scrKey t a) 8) else (s1.tile t).s r := by
  have hexec : exec (.ldc t ecc) s = .next (effLdc t (s.addUpsets t ecc)) := onTile_eq_next hr.1 fun _ => effLdc t (s.addUpsets t ecc)
  have heff : effLdc t (s.addUpsets t ecc) = ((s1.crumbFlush t).bankGrant t 10 a).issueNow t h
      (fun y => y.setS (cf h.c 1 10 6) (leNat (memRead (s1.crumbFlush t).scr (scrKey t a) 8))) := by
    unfold effLdc
    rw [scalarRow_ready hr]
    simp only [ha, hw, scrRead_clear 10 hc, ne_eq, not_true_eq_false, Bool.false_eq_true, if_false]
  obtain ⟨ht, -, hnext, hloop⟩ := hr
  obtain ⟨ar, hflush⟩ := crumbFlush_tile s1 t
  obtain ⟨ar', hgrant⟩ := bankGrant_tile (s1.crumbFlush t) t 10 a
  have htile : ((s1.crumbFlush t).bankGrant t 10 a).tile t = { s1.tile t with crumbs := [], arbs := ar' } := by rw [hgrant, hflush]
  obtain ⟨hwent, hcrumbs, hpreds, hregs⟩ := issueNow_setS (s := (s1.crumbFlush t).bankGrant t 10 a) (cf h.c 1 10 6)
    (leNat (memRead (s1.crumbFlush t).scr (scrKey t a) 8)) (by rw [Tile.noLoopEnd, htile]; exact hloop) (by rw [htile]; exact hnext)
  have hlt : leNat (memRead (s1.crumbFlush t).scr (scrKey t a) 8) < 2 ^ 64 := leNat_memRead_lt _ _ 8
  rw [hexec, heff]
  refine ⟨_, rfl, (Passing.bankGrant _ t a (by omega)).trans_wentBy (by rw [hgrant]) (by rw [hgrant]) hwent, by rw [hcrumbs, htile],
    by rw [hpreds, htile], fun r => ?_⟩
  rw [hregs, htile, Nat.mod_eq_of_lt hlt]
  rfl

end Sys2Proof.Machine
end

section
/-!
PROOFS. The statement on crumbs.
-/
namespace Sys2Proof.Machine

/-- Settles O11: STC and LDC at the head, and the oldest crumb's write. -/
theorem crumbsAreStoredAndLoaded : Obligations.CrumbsAreStoredAndLoaded := by
  refine ⟨fun s s1 t h a => ⟨execStc_ready, fun ecc => execLdc_ready⟩, fun s t k ks ht hwf hk => ?_⟩
  have heff : effComplete t 10 s = (s.crumbWrite t).settleTask t := if_pos rfl
  obtain ⟨hothers, hrest⟩ := settleTask_onlyTile (s.crumbWrite t) t
  rw [exec_commandComplete s ht, heff]
  refine ⟨_, rfl, ?_, ?_, fun j hj => ?_, fun a => ?_⟩
  · obtain ⟨ar, htile⟩ := crumbWrite_tile hk
    rw [settleTask_crumbs, htile]
  · exact Keeps.sameBut (State.settleTask_keeps rfl (State.crumbWrite_keeps rfl (Keeps.refl _ s)))
  · rw [hothers j hj, crumbWrite_tile_other s hj]
  · have hscr : ((s.crumbWrite t).settleTask t).scr = (s.crumbWrite t).scr := hrest .scr (by decide)
    rw [hscr, crumbWrite_memGet hk]

end Sys2Proof.Machine
end

section
/-!
SUPPORT. A finished command leaves its engine (R85, R103, R157).
-/
namespace Sys2Proof.Machine

/-- The tile once command `i` has left engine `eng`: its entries are gone and its result is in its register. -/
def Tile.left (x : Tile) (eng : Nat) (i : IssuedCmd) : Tile :=
  let y := { x with
    dq := mapSet x.dq eng ((mapGet x.dq eng []).filter (fun k => k.ord != i.ord)), sb := x.sb.filter (fun e => e.ord != i.ord),
    pendS := x.pendS.filter (fun p => p.2 != i.ord), xp := { x.xp with guards := x.xp.guards.filter (fun e => e.ord != i.ord) },
    fpItems := if i.fpLen = 0 then x.fpItems else x.fpItems ++ [(i.ord, i.fpLen, i.fpCrc)] }
  if i.data = [] then y else y.setS (writesS i.word.toNat) (leNat i.data)

section
variable (x : Tile) (eng : Nat) (i : IssuedCmd)

/-- What leaving an engine changes of a tile. -/
theorem Tile.left_eq : ∃ r g f, x.left eng i = { x with
    dq := mapSet x.dq eng ((mapGet x.dq eng []).filter (fun k => k.ord != i.ord)), sb := x.sb.filter (fun e => e.ord != i.ord),
    pendS := x.pendS.filter (fun p => p.2 != i.ord), sregs := r, xp := g, fpItems := f } := by
  unfold Tile.left
  dsimp only
  split
  · exact ⟨_, _, _, rfl⟩
  · rw [Tile.setS_eq]
    exact ⟨_, _, _, rfl⟩

/-- The registers after a command has left: its result where it has one. -/
theorem Tile.left_s (r : Nat) : (x.left eng i).s r = if i.data ≠ [] ∧ r = writesS i.word.toNat ∧ r ≠ 0 then leNat i.data % 2 ^ 64 else x.s r := by
  unfold Tile.left
  by_cases hd : i.data = []
  · simp only [hd, if_true, ne_eq, not_true_eq_false, false_and, if_false]
    rfl
  · simp only [hd, if_false, ne_eq, not_false_eq_true, true_and, Tile.s_setS]
    rfl

end

theorem amxDone_eq_self {s : State} {t : Nat} (h : (s.tile t).amxWait = []) : s.amxDone t = s := by
  simp only [State.amxDone, h, List.foldl_nil]

theorem startFront_nil {s : State} {t eng : Nat} (h : mapGet (s.tile t).dq eng [] = []) : s.startFront t eng = s := by
  unfold State.startFront
  simp only [h]

/-- A command that has finished is not started again. -/
theorem startFront_finished {s : State} {t eng : Nat} {i : IssuedCmd} {q : List IssuedCmd} (h : mapGet (s.tile t).dq eng [] = i :: q)
    (hs : i.started = true) (hf : i.finished = true) : s.startFront t eng = s := by
  unfold State.startFront
  simp only [h, hs, hf, true_or, and_self, if_true]

theorem nextDone_finished {x : Tile} {eng : Nat} {i : IssuedCmd} {q : List IssuedCmd} (h : mapGet x.dq eng [] = i :: q) (hf : i.finished = true) :
    x.nextDone eng = some i := by
  unfold Tile.nextDone
  simp only [h, List.find?_cons, hf, List.head?_cons, ite_self]

/-- The last command of an engine leaves a tile that waits for nothing and is asked nothing: only what `left` says changes. -/
theorem leave_last {s : State} {t eng : Nat} {i : IssuedCmd} (hq : mapGet (s.tile t).dq eng [] = [i]) (hamx : (s.tile t).amxWait = [])
    (hstop : (s.tile t).stopReq = false) (hhalt : (s.tile t).haltIssued = false) : s.leave t eng i = s.onT t (fun x => x.left eng i) := by
  have hleave : s.leave t eng i = (((s.onT t (fun x => x.left eng i)).amxDone t).startFront t eng).settleTask t := rfl
  obtain ⟨r, g, f, htile⟩ := Tile.left_eq (s.tile t) eng i
  rw [← onT_tile s t (fun x => x.left eng i)] at htile
  have hempty : mapGet ((s.onT t (fun x => x.left eng i)).tile t).dq eng [] = [] := by
    rw [htile, mapGet_mapSet_same, hq]
    simp
  rw [hleave, amxDone_eq_self (by rw [htile]; exact hamx), startFront_nil hempty, settleTask_eq_self (by rw [htile]; exact hstop) (by rw [htile]; exact hhalt)]

end Sys2Proof.Machine
end

section
/-!
PROOFS. The statement on completions.
-/
namespace Sys2Proof.Machine

/-- Settles O15: the finished command does not start again, is the next one done, and leaves. -/
theorem commandCompletes : Obligations.CommandCompletes := by
  intro s t eng i ht heng hq hs hf hleft hamx hstop hhalt
  have heff : effComplete t eng s = s.onT t (fun x => x.left eng i) := by
    rw [effComplete, if_neg heng, startFront_finished hq hs hf, State.completeCmd, nextDone_finished hq hf]
    dsimp only
    rw [if_neg (by simp [hf, hleft]), leave_last hq hamx hstop hhalt]
  rw [exec_commandComplete s ht, heff]
  refine ⟨_, rfl, onlyTile_onT s t _, ?_⟩
  rw [onT_tile]
  obtain ⟨r, g, f, htile⟩ := Tile.left_eq (s.tile t) eng i
  have hregs := Tile.left_s (s.tile t) eng i
  refine ⟨?_, fun e he => ?_, ?_, ?_, ?_, ?_, hregs⟩
  · rw [htile, mapGet_mapSet_same, hq]
    simp
  · rw [htile, mapGet_mapSet_other _ _ _ _ _ (Ne.symm he)]
  all_goals rw [htile]

end Sys2Proof.Machine
end

section
/-!
SUPPORT. Command fetches and the scratchpad window (R86, R87, R95, R117, R359, R360).
-/
namespace Sys2Proof.Machine

/-- Where a fetch ends: at the next loaf's end, or the region's. -/
def Tile.fetchStop (x : Tile) : Nat := min ((x.fetchNext / 16 + 1) * 16) x.cmdrLen

/-- The commands from `first` on, `n` of them, that a loaf of the command region holds. -/
def loafCommands (bs : List Byte) (first n : Nat) : List (Nat × CmdWord) :=
  (List.range n).map (fun k => (first + k, BitVec.ofNat 256 (leNat ((bs.drop ((first + k) % 16 * 32)).take 32))))

section
variable {s : State} {t : Nat} (hrun : (s.tile t).task = .running) (hlen : (s.tile t).fetchNext < (s.tile t).cmdrLen) (hpart : s.part (pgTile t) = 0)
include hrun hlen hpart

/-- A fetch of a clean line with room for its commands. -/
theorem effFetch_bytes {s1 : State} {bs : List Byte} (hroom : (s.tile t).queue.length + ((s.tile t).fetchStop - (s.tile t).fetchNext) ≤ 512)
    (hload : s.tileLoad t (s.ownerOr t) ((s.tile t).cmdrBase + (s.tile t).fetchNext / 16 * 512) 512 [] = (.bytes bs, s1)) :
    effFetch t 0 s = s1.onT t (fun y => { y with
      queue := y.queue ++ loafCommands bs (s.tile t).fetchNext ((s.tile t).fetchStop - (s.tile t).fetchNext), fetchNext := (s.tile t).fetchStop }) := by
  unfold State.ownerOr at hload
  unfold Tile.fetchStop at hroom
  unfold effFetch
  simp only [hrun, hpart, Nat.not_le.2 hlen, Nat.not_lt.2 hroom, hload, ne_eq, not_true_eq_false, or_self, if_false]
  rfl

theorem effFetch_full (err : Nat) (hfull : 512 < (s.tile t).queue.length + ((s.tile t).fetchStop - (s.tile t).fetchNext)) : effFetch t err s = s := by
  unfold Tile.fetchStop at hfull
  unfold effFetch
  simp only [hrun, hpart, Nat.not_le.2 hlen, hfull, ne_eq, not_true_eq_false, or_self, if_false, if_true]

end

/-- The page of a tile is neither the DEV page nor a TRACE page. -/
theorem pgTile_ne (t d : Nat) : pgTile t ≠ pgDev ∧ pgTile t ≠ pgTrace d := by
  unfold pgTile pgDev pgTrace pgDie
  omega

/-- A refused window access leaves its code, and nothing of the tiles and scratchpads. -/
theorem windowRefuse_spec (s : State) (t p code : Nat) : (s.windowRefuse t p code).scr = s.scr ∧ (s.windowRefuse t p code).tiles = s.tiles ∧
    (s.windowRefuse t p code).getF (pgTile t) 0x18 0 31 16 = code % 2 ^ 16 := by
  have hrest : s.sameBut [.regs, .freeCtr, .recSeq, .pols, .intakes, .hostOut, .trace] (s.windowRefuse t p code) :=
    Keeps.sameBut (State.windowRefuse_keeps rfl (Keeps.refl _ s))
  refine ⟨hrest .scr (by decide), hrest .tiles (by decide), ?_⟩
  rw [← err_last s (pgTile t) code]
  refine getF_of_reg_eq ?_ 31 16
  obtain ⟨hdev, htrace⟩ := pgTile_ne t (pageDie (pgTile t))
  rw [State.windowRefuse, countEv_reg _ _ _ _ _ _ _ (by omega) (by omega) (by omega), fault_reg _ _ _ _ _ hdev htrace (by omega) (by omega) (by omega)]

theorem effWindow_refused {s : State} {fn t : Nat} (addr : Nat) (data : List Byte) (h : s.tileOwner t ≠ some fn) :
    effWindow fn t addr data s = s.windowRefuse t fn 0x2071 := if_pos h

/-- The owner's write of whole crumbs inside the scratchpad of a tile that serves: discarded while the task runs, else done. -/
theorem effWindow_owner {s : State} {fn t addr : Nat} {data : List Byte} (ho : s.tileOwner t = some fn) (hend : addr + data.length ≤ 0x70000)
    (hne : 0 < data.length) (hn : data.length % 8 = 0) (ha : addr % 8 = 0) (hs : s.serves (pgTile t) = true) (hc : (s.tile t).task ≠ .clearing) :
    effWindow fn t addr data s = if (s.tile t).task = .running then s.err (pgTile t) 0x2019 else s.scrWrite t 13 addr data := by
  unfold effWindow
  simp only [ho, Nat.not_lt.2 hend, Nat.ne_of_gt hne, hn, ha, hs, hc, ne_eq, not_true_eq_false, if_false, and_self, or_true, decide_true, Bool.not_true,
    Bool.false_eq_true, or_self]

end Sys2Proof.Machine
end

section
/-!
PROOFS. The statement on command fetches and the scratchpad window.
-/
namespace Sys2Proof.Machine

/-- Settles O17: a fetch with room and one without, and the window's write, discard and refusal. -/
theorem fetchesAndWindowWrites : Obligations.FetchesAndWindowWrites := by
  refine ⟨fun s s1 t bs ht hrun hlen hpart => ?fetch, fun s fn t addr data ht _ => ?window⟩
  case fetch =>
    have hexec : exec (.commandFetch t 0) s = .next (effFetch t 0 s) := onTile_eq_next ht fun _ => effFetch t 0 s
    rw [hexec]
    constructor
    · intro x stop hroom hload
      rw [effFetch_bytes hrun hlen hpart hroom hload]
      refine ⟨_, rfl, onlyTile_onT s1 t _, ?_⟩
      rw [onT_tile]
      exact ⟨rfl, rfl, rfl, rfl⟩
    · intro hfull
      rw [effFetch_full hrun hlen hpart 0 hfull]
  case window =>
    have hexec : exec (.scratchpadWindowWrite fn t addr data) s = .next (effWindow fn t addr data s) :=
      onTile_eq_next ht fun _ => effWindow fn t addr data s
    rw [hexec]
    constructor
    · intro ho hend hne hn ha hs
      constructor
      · intro hrun hclear
        rw [effWindow_owner ho hend hne hn ha hs hclear, if_neg hrun]
        obtain ⟨ar, htile⟩ := scrWrite_tile s t 13 addr data
        refine ⟨_, rfl, scrWrite_sameBut s t 13 addr data, by rw [htile], fun j hj => scrWrite_tile_other s addr data (by omega) hj, fun a => ?_⟩
        rw [scrWrite_scr, memGet_memWrite]
      · intro hrun
        rw [effWindow_owner ho hend hne hn ha hs (by rw [hrun]; decide), if_pos hrun]
    · intro ho
      rw [effWindow_refused addr data ho]
      exact ⟨_, rfl, windowRefuse_spec s t fn 0x2071⟩

end Sys2Proof.Machine
end

section
/-!
SUPPORT. Commands that enter a dispatch queue: the rows of the engines, and what each does with a ready head command (R88, R89, R101 to R105, R227).
-/
namespace Sys2Proof.Machine

theorem issueRow_ready {s s1 : State} {t cls op : Nat} {ecc : List (Nat × Nat)} {h : Head} (hr : (s.addUpsets t ecc).ready s1 t cls op h) (eng : Nat) :
    s.issueRow t cls op eng ecc = s1.issueTo t eng h := by
  obtain ⟨-, hhead, -, -⟩ := hr
  simp only [State.issueRow, hhead]

/-- A command that conflicts with nothing enters its engine's queue, and starts where it is alone there. -/
theorem issueTo_free {s : State} {t eng : Nat} {h : Head} (hw : (s.tile t).sbWait h.ranges = 0)
    (hroom : (mapGet (s.tile t).dq eng []).length < dqDepth eng) : s.issueTo t eng h =
      if mapGet (s.tile t).dq eng [] = [] then (s.issueCmd t eng h true [] false).startFront t eng else s.issueCmd t eng h true [] false := by
  simp only [State.issueTo, hw, Nat.not_le.2 hroom, ne_eq, not_true_eq_false, if_false]

/-- A command that conflicts stalls. -/
theorem issueTo_waits {s : State} {t eng : Nat} {h : Head} (hw : (s.tile t).sbWait h.ranges ≠ 0) :
    s.issueTo t eng h = s.stall t ((s.tile t).sbWait h.ranges) := if_pos hw

theorem stall_spec (s : State) (t k : Nat) : (s.stall t k).tile t = { s.tile t with stall := k } ∧ s.onlyTile (s.stall t k) t :=
  ⟨onT_tile s t _, onlyTile_onT s t _⟩

theorem State.ready.queued {s s1 : State} {t cls op : Nat} {h : Head} (hr : s.ready s1 t cls op h) (eng : Nat) (sb : Bool) (g : List SbEntry) (d : Bool) :
    s1.queued (s1.issueCmd t eng h sb g d) t eng h sb g d := by
  obtain ⟨-, -, hnext, hloop⟩ := hr
  exact issueCmd_spec s1 t eng h sb g d hloop hnext

/-- The rows that read or write the scratchpad, each with its class, operation and queue; `ecc` are the upsets their reads may meet. -/
def localRows (t : Nat) (ecc : List (Nat × Nat)) : List (Instr × Nat × Nat × Nat) :=
  [(.moveLoad t ecc, 1, 0, 0), (.moveStore t ecc, 1, 1, 1), (.mma t ecc, 2, 0, 2), (.mmz t ecc, 2, 1, 2), (.vecMap t ecc, 3, 0, 3),
   (.vecReduce t ecc, 3, 1, 3), (.convL t ecc, 4, 0, 0), (.convS t ecc, 4, 1, 1), (.convV t ecc, 4, 2, 3), (.cntCount t ecc, 11, 0, 6),
   (.cntMask t ecc, 11, 1, 6), (.cntHist t ecc, 11, 2, 6)]

/-- The rows of the atomic port. -/
def atomRows (t : Nat) : List (Instr × Nat × Nat × Nat) :=
  [(.atomAdd t, 10, 0, 8), (.atomMin t, 10, 1, 8), (.atomMax t, 10, 2, 8), (.atomCas t, 10, 3, 8), (.atomSwap t, 10, 4, 8), (.atomFinc t, 10, 5, 8),
   (.lacq t, 10, 6, 8), (.lrel t, 10, 7, 8)]

/-- The rows of the spill-queue port that read no scratchpad, each with its operation. -/
def sqRows (t : Nat) : List (Instr × Nat) := [(.sqOpen t, 0), (.sqClose t, 2), (.sqPop t, 3)]

/-- The rows of the exchange port. -/
def exchRows (t : Nat) : List (Instr × Nat) := [(.exchSend t, 0), (.exchRecv t, 1)]

section
variable {t : Nat} (ht : t < 4864) (s : State)
include ht

theorem exec_localRow (ecc : List (Nat × Nat)) : ∀ r ∈ localRows t ecc, exec r.1 s = .next (s.issueRow t r.2.1 r.2.2.1 r.2.2.2 ecc) := by
  have hrows : ∀ r ∈ localRows t ecc, exec r.1 s = onTile t (fun _ => s.issueRow t r.2.1 r.2.2.1 r.2.2.2 ecc) := by
    simp only [localRows, List.forall_mem_cons]
    exact ⟨rfl, rfl, rfl, rfl, rfl, rfl, rfl, rfl, rfl, rfl, rfl, rfl, nofun⟩
  exact fun r hr => (hrows r hr).trans (onTile_eq_next ht _)

theorem exec_atomRow : ∀ r ∈ atomRows t, exec r.1 s = .next (s.issueRow t r.2.1 r.2.2.1 r.2.2.2 []) := by
  have hrows : ∀ r ∈ atomRows t, exec r.1 s = onTile t (fun _ => s.issueRow t r.2.1 r.2.2.1 r.2.2.2 []) := by
    simp only [atomRows, List.forall_mem_cons]
    exact ⟨rfl, rfl, rfl, rfl, rfl, rfl, rfl, rfl, nofun⟩
  exact fun r hr => (hrows r hr).trans (onTile_eq_next ht _)

theorem exec_sqRow : ∀ r ∈ sqRows t, exec r.1 s = .next (effSq t r.2 s) := by
  have hrows : ∀ r ∈ sqRows t, exec r.1 s = onTile t (fun _ => effSq t r.2 s) := by
    simp only [sqRows, List.forall_mem_cons]
    exact ⟨rfl, rfl, rfl, nofun⟩
  exact fun r hr => (hrows r hr).trans (onTile_eq_next ht _)

theorem exec_sqPush (ecc : List (Nat × Nat)) : exec (.sqPush t ecc) s = .next (effSq t 1 (s.addUpsets t ecc)) :=
  onTile_eq_next ht fun _ => effSq t 1 (s.addUpsets t ecc)

theorem exec_exchRow : ∀ r ∈ exchRows t, exec r.1 s = .next (effExch t r.2 s) := by
  have hrows : ∀ r ∈ exchRows t, exec r.1 s = onTile t (fun _ => effExch t r.2 s) := by
    simp only [exchRows, List.forall_mem_cons]
    exact ⟨rfl, rfl, nofun⟩
  exact fun r hr => (hrows r hr).trans (onTile_eq_next ht _)

end

section
variable {s s1 : State} {t op : Nat} {h : Head}

/-- A spill-queue command whose rank names a bound queue is its engine's. -/
theorem effSq_bound {q : Nat} (hr : s.ready s1 t 9 op h) (hq : s1.sqOf t h.c = some q) : effSq t op s = s1.issueTo t 7 h := by
  obtain ⟨-, hhead, -, -⟩ := hr
  simp only [effSq, hhead, hq]

theorem effSq_unbound (hr : s.ready s1 t 9 op h) (hq : s1.sqOf t h.c = none) :
    effSq t op s = s1.taskFault t (s1.tile t).progress 0x1640 { index := h.idx, cls := 9 } := by
  obtain ⟨-, hhead, -, -⟩ := hr
  simp only [effSq, hhead, hq]

theorem effExch_ready (hr : s.ready s1 t 5 op h) (hroom : (mapGet (s1.tile t).dq 4 []).length < 16)
    (hg : s1.handshake t = true → (s1.tile t).guardWait ((s1.tile t).guardOf h.c h.idx) = false) :
    effExch t op s = s1.issueCmd t 4 h false (if s1.handshake t then [(s1.tile t).guardOf h.c h.idx] else []) (h.e == 0) := by
  obtain ⟨-, hhead, -, -⟩ := hr
  have hfree : ¬(s1.handshake t = true ∧ (s1.tile t).guardWait ((s1.tile t).guardOf h.c h.idx) = true) :=
    fun ⟨hs, hwait⟩ => Bool.false_ne_true ((hg hs).symm.trans hwait)
  simp only [effExch, hhead, hfree, dqDepth, Nat.not_le.2 hroom, if_false]

theorem effKflag_ready {k : Nat × Nat × Nat} (hr : s.ready s1 t 6 2 h) (hk : s1.kOf t h.c = some k) (hroom : (mapGet (s1.tile t).dq 5 []).length < 4)
    (hg : ∀ r, r ∈ h.ranges → ∀ g, g ∈ (s1.tile t).xp.guards → r.conflicts g = false) : effKflag t s = s1.issueCmd t 5 h false [] false := by
  obtain ⟨-, hhead, -, -⟩ := hr
  have hfree : h.ranges.any (fun r => (s1.tile t).xp.guards.any (fun g => r.conflicts g)) = false := by
    simpa only [List.any_eq_false, Bool.not_eq_true] using hg
  simp only [effKflag, hhead, hk, hfree, dqDepth, Nat.not_le.2 hroom, Bool.false_eq_true, if_false]

/-- The window of a die's snapshots once tile `t`'s SNAP has issued. -/
def SnapWin.issue (w : SnapWin) (t : Nat) : SnapWin :=
  { w with issued := if w.issued.contains t then w.issued else w.issued ++ [t], completed := w.completed.filter (· != t), busy := true }

theorem SnapWin.issue_spec (w : SnapWin) (t : Nat) : t ∈ (w.issue t).issued ∧ t ∉ (w.issue t).completed ∧ (w.issue t).busy = true := by
  refine ⟨?_, fun hmem => ?_, rfl⟩
  · unfold SnapWin.issue
    dsimp only
    split
    case isTrue hin => exact List.contains_iff_mem.1 hin
    case isFalse => exact List.mem_append_right _ (List.mem_singleton_self t)
  · obtain ⟨-, hne⟩ := List.mem_filter.1 hmem
    exact bne_iff_ne.1 hne rfl

/-- A SNAP whose polder's region is in order and whose engine is free enters the engine, and the step window has it. -/
theorem effSnap_ready {b : Nat} (hr : s.ready s1 t 12 0 h) (hb : s1.snapBase (tDie t) (s1.ownerOr t) = some b)
    (hrun : s1.inRankRun (s1.ownerOr t) b (2 * s1.snapSize (tDie t) (s1.ownerOr t)) = true) (hw : (s1.tile t).sbWait h.ranges = 0)
    (hq : mapGet (s1.tile t).dq 9 [] = []) :
    effSnap t s = (s1.issueCmd t 9 h true [] false).onSnapWin (s1.ownerOr t) (tDie t) (fun w => w.issue t) := by
  obtain ⟨-, hhead, -, -⟩ := hr
  simp only [effSnap, hhead, hb, hrun, hw, hq, Bool.not_true, Bool.false_eq_true, ne_eq, not_true_eq_false, if_false]
  rfl

end

theorem onSnapWin_pol_other (s : State) {p k : Nat} (d : Nat) (f : SnapWin → SnapWin) (hk : k ≠ p) : (s.onSnapWin p d f).pol k = s.pol k :=
  State.pol_setPol_other _ _ _ _ (Ne.symm hk)

theorem onSnapWin_snaps (s : State) (p d : Nat) (f : SnapWin → SnapWin) :
    mapGet ((s.onSnapWin p d f).pol p).snaps d {} = f (mapGet (s.pol p).snaps d {}) := by
  rw [State.onSnapWin, State.pol_setPol_same, mapGet_mapSet_same]

end Sys2Proof.Machine
end

section
/-!
PROOFS. The statement on commands that enter dispatch queues.
-/
namespace Sys2Proof.Machine

/-- Settles O14: each engine's row takes a ready command to the engine's queue, where its own checks let it pass. -/
theorem commandsEnterTheirEnginesQueues : Obligations.CommandsEnterTheirEnginesQueues := by
  refine ⟨fun s s1 t ecc h i cls op eng hi hr => ?engines, fun s s1 t ecc h i op hi => ?spill, fun s s1 t h i op => ⟨fun hi hr hroom hg => ?exch,
    fun k hr hk hroom hg => ?kflag⟩, fun s s1 t b ecc h hr hb hrun hw hq => ?snap⟩
  case engines =>
    have hexec : exec i s = .next (s.issueRow t cls op eng ecc) := by
      rcases hi with hi | ⟨rfl, hi⟩
      · exact exec_localRow hr.1 s ecc _ hi
      · exact exec_atomRow hr.1 s _ hi
    rw [hexec, issueRow_ready hr eng]
    refine ⟨fun hw hroom => ⟨_, hr.queued eng true [] false, ?_⟩, fun hw => ⟨_, rfl, ?_⟩⟩
    · rw [issueTo_free hw hroom]
    · rw [issueTo_waits hw]
      exact stall_spec s1 t _
  case spill =>
    obtain ⟨v, hexec, hr⟩ : ∃ v : State, exec i s = .next (effSq t op v) ∧ v.ready s1 t 9 op h := by
      rcases hi with ⟨-, hi, hr⟩ | ⟨rfl, rfl, hr⟩
      · exact ⟨s, exec_sqRow hr.1 s _ hi, hr⟩
      · exact ⟨_, exec_sqPush hr.1 s ecc, hr⟩
    rw [hexec]
    refine ⟨fun q hq hw hroom => ⟨_, hr.queued 7 true [] false, ?_⟩, fun hq hrun => ⟨_, rfl, ?_⟩⟩
    · rw [effSq_bound hr hq, issueTo_free hw hroom]
    · rw [effSq_unbound hr hq]
      exact (taskFault_faulted s1 t _ _ _ hrun).1
  case exch =>
    rw [exec_exchRow hr.1 s _ hi, effExch_ready hr hroom hg]
    exact ⟨_, rfl, hr.queued 4 false _ _⟩
  case kflag =>
    have hexec : exec (.kflag t) s = .next (effKflag t s) := onTile_eq_next hr.1 fun _ => effKflag t s
    rw [hexec, effKflag_ready hr hk hroom hg]
    exact ⟨_, rfl, hr.queued 5 false [] false⟩
  case snap =>
    have hexec : exec (.snap t ecc) s = .next (effSnap t (s.addUpsets t ecc)) := onTile_eq_next hr.1 fun _ => effSnap t (s.addUpsets t ecc)
    rw [hexec, effSnap_ready hr hb hrun hw hq]
    refine ⟨_, _, hr.queued 9 true [] false, rfl, rfl, Keeps.sameBut (State.onSnapWin_keeps rfl (Keeps.refl _ _)), fun p hp => onSnapWin_pol_other _ _ _ hp, ?_⟩
    rw [onSnapWin_snaps]
    exact SnapWin.issue_spec _ t

end Sys2Proof.Machine
end

section
/-!
SUPPORT. The scalar commands that write a register or a predicate (R74, R84, R147, R148, R150).
-/
namespace Sys2Proof.Machine

theorem bitsOf_lt (v hi lo : Nat) : bitsOf v hi lo < 2 ^ (hi + 1 - lo) := Nat.mod_lt _ (Nat.two_pow_pos _)

/-- Writing a predicate changes the predicates alone. -/
theorem Tile.setP_eq (x : Tile) (i : Nat) (v : Bool) : x.setP i v = { x with preds := (x.setP i v).preds } := by
  unfold Tile.setP
  split
  · rfl
  · rfl

/-- The mask that clears predicate `i` leaves the other seven. -/
theorem testBit_predMask : ∀ i < 8, ∀ p < 8, (255 - 2 ^ i).testBit p = !decide (i = p) := by decide

/-- A predicate after a write: p0 discards it. -/
theorem Tile.p_setP (x : Tile) {i p : Nat} (v : Bool) (hi : i < 8) (hp : p < 8) : (x.setP i v).p p = if p = i ∧ p ≠ 0 then v else x.p p := by
  by_cases h0 : i = 0
  · rw [if_neg fun h => h.2 (h.1.trans h0), Tile.setP, if_pos h0]
  · have hbit : (x.setP i v).preds.testBit p = if p = i then v else x.preds.testBit p := by
      rw [Tile.setP, if_neg h0]
      cases v
      · simp [Nat.testBit_and, testBit_predMask i hi p hp, eq_comm (a := i), Bool.and_comm]
      · simp [Nat.testBit_or, Nat.testBit_two_pow, eq_comm (a := i), Bool.or_comm]
    unfold Tile.p
    rw [hbit]
    by_cases h : p = i
    · simp [h, h0]
    · simp [h]

section
variable {s s1 : State} {t : Nat} {h : Head}

/-- Only what an effect makes of its tile counts. -/
theorem issueNow_congr {f g : Tile → Tile} (hfg : f (s.tile t) = g (s.tile t)) : s.issueNow t h f = s.issueNow t h g := by
  unfold State.issueNow State.onT
  rw [hfg]

/-- A command whose effect is a register of 64 bits leaves the predicates, and it goes by. -/
theorem issueNow_writesS {cls op i v : Nat} (hr : s.ready s1 t cls op h) (hv : v < 2 ^ 64) :
    s1.wentBy (s1.issueNow t h (fun x => x.setS i v)) t h ∧ ((s1.issueNow t h (fun x => x.setS i v)).tile t).preds = (s1.tile t).preds ∧
      ∀ r, ((s1.issueNow t h (fun x => x.setS i v)).tile t).s r = if r = i ∧ r ≠ 0 then v else (s1.tile t).s r := by
  obtain ⟨-, -, hnext, hloop⟩ := hr
  obtain ⟨hwent, -, hpreds, hregs⟩ := issueNow_setS i v hloop hnext
  exact ⟨hwent, hpreds, fun r => by rw [hregs, Nat.mod_eq_of_lt hv]⟩

/-- A command whose effect is a predicate leaves the registers, and it goes by. -/
theorem issueNow_writesP {cls op i : Nat} {v : Bool} (hr : s.ready s1 t cls op h) (hi : i < 8) :
    s1.wentBy (s1.issueNow t h (fun x => x.setP i v)) t h ∧ ((s1.issueNow t h (fun x => x.setP i v)).tile t).sregs = (s1.tile t).sregs ∧
      ∀ p, p < 8 → ((s1.issueNow t h (fun x => x.setP i v)).tile t).p p = if p = i ∧ p ≠ 0 then v else (s1.tile t).p p := by
  obtain ⟨-, -, hnext, hloop⟩ := hr
  obtain ⟨⟨b, q, n, htile⟩, hwent⟩ := issueNow_spec s1 t h (fun x => x.setP i v) (by rw [Tile.setP_eq]) (by rw [Tile.setP_eq]) (by rw [Tile.setP_eq]) hloop
    (.inr (by rw [Tile.setP_eq]; exact hnext))
  refine ⟨hwent, by rw [htile, Tile.setP_eq], fun p hp => ?_⟩
  rw [htile, ← Tile.p_setP _ v hi hp]
  rfl

theorem execAlu_ready (hr : s.ready s1 t 8 0 h) : ∃ u, exec (.alu t) s = .next u ∧ s1.wentBy u t h ∧ (u.tile t).preds = (s1.tile t).preds ∧
    ∀ r, (u.tile t).s r = if r = cf h.c 1 10 6 ∧ r ≠ 0
      then aluFn (cf h.c 1 5 0) ((s1.tile t).s (cf h.c 1 15 11)) ((s1.tile t).opB h.c) % 2 ^ 64 else (s1.tile t).s r := by
  have hexec : exec (.alu t) s = .next (effAlu t s) := onTile_eq_next hr.1 fun _ => effAlu t s
  have heff : effAlu t s = s1.issueNow t h
      (fun x => x.setS (cf h.c 1 10 6) (aluFn (cf h.c 1 5 0) ((s1.tile t).s (cf h.c 1 15 11)) ((s1.tile t).opB h.c))) := by
    unfold effAlu
    rw [scalarRow_ready hr]
    exact issueNow_congr rfl
  obtain ⟨ht, -, hnext, hloop⟩ := hr
  rw [hexec, heff]
  obtain ⟨hwent, -, hrest⟩ := issueNow_setS (s := s1) _ _ hloop hnext
  exact ⟨_, rfl, hwent, hrest⟩

theorem execLdi_ready (hr : s.ready s1 t 8 3 h) : ∃ u, exec (.ldi t) s = .next u ∧ s1.wentBy u t h ∧ (u.tile t).preds = (s1.tile t).preds ∧
    ∀ r, (u.tile t).s r = if r = cf h.c 1 10 6 ∧ r ≠ 0 then cw h.c 2 + 2 ^ 32 * cw h.c 3 else (s1.tile t).s r := by
  have hexec : exec (.ldi t) s = .next (effLdi t s) := onTile_eq_next hr.1 fun _ => effLdi t s
  have heff : effLdi t s = s1.issueNow t h (fun x => x.setS (cf h.c 1 10 6) (cw h.c 2 + 2 ^ 32 * cw h.c 3)) := by
    unfold effLdi
    rw [scalarRow_ready hr, Nat.mul_comm]
  have h2 : cw h.c 2 < 2 ^ 32 := bitsOf_lt ..
  have h3 : cw h.c 3 < 2 ^ 32 := bitsOf_lt ..
  exact ⟨_, hexec.trans (congrArg _ heff), issueNow_writesS hr (by omega)⟩

theorem execCmp_ready (hr : s.ready s1 t 8 1 h) : ∃ u, exec (.cmp t) s = .next u ∧ s1.wentBy u t h ∧ (u.tile t).sregs = (s1.tile t).sregs ∧
    ∀ p, p < 8 → (u.tile t).p p = if p = cf h.c 1 10 8 ∧ p ≠ 0
      then cmpFn (cf h.c 1 3 0) ((s1.tile t).s (cf h.c 1 15 11)) ((s1.tile t).opB h.c) else (s1.tile t).p p := by
  have hexec : exec (.cmp t) s = .next (effCmp t s) := onTile_eq_next hr.1 fun _ => effCmp t s
  have heff : effCmp t s = s1.issueNow t h
      (fun x => x.setP (cf h.c 1 10 8) (cmpFn (cf h.c 1 3 0) ((s1.tile t).s (cf h.c 1 15 11)) ((s1.tile t).opB h.c))) := by
    unfold effCmp
    rw [scalarRow_ready hr]
    exact issueNow_congr rfl
  exact ⟨_, hexec.trans (congrArg _ heff), issueNow_writesP hr (bitsOf_lt ..)⟩

theorem execPbool_ready (hr : s.ready s1 t 8 2 h) : ∃ u, exec (.pbool t) s = .next u ∧ s1.wentBy u t h ∧ (u.tile t).sregs = (s1.tile t).sregs ∧
    ∀ p, p < 8 → (u.tile t).p p = if p = cf h.c 1 10 8 ∧ p ≠ 0
      then pboolFn (cf h.c 1 1 0) ((s1.tile t).p (cf h.c 1 13 11)) ((s1.tile t).p (cf h.c 1 16 14)) else (s1.tile t).p p := by
  have hexec : exec (.pbool t) s = .next (effPbool t s) := onTile_eq_next hr.1 fun _ => effPbool t s
  have heff : effPbool t s = s1.issueNow t h
      (fun x => x.setP (cf h.c 1 10 8) (pboolFn (cf h.c 1 1 0) ((s1.tile t).p (cf h.c 1 13 11)) ((s1.tile t).p (cf h.c 1 16 14)))) := by
    unfold effPbool
    rw [scalarRow_ready hr]
    exact issueNow_congr rfl
  exact ⟨_, hexec.trans (congrArg _ heff), issueNow_writesP hr (bitsOf_lt ..)⟩

/-- AMXR while a conversion before it names its slot: the register is pending. -/
theorem execAmxr_waits (hr : s.ready s1 t 8 6 h)
    (hbusy : (mapGet (s1.tile t).dq (unitEng (cf h.c 1 23 22)) []).any (fun i => i.namesAmax (cf h.c 1 23 22) (cf h.c 1 25 24)) = true) :
    ∃ u, exec (.amxr t) s = .next u ∧ s1.wentBy u t h ∧ (u.tile t).sregs = (s1.tile t).sregs ∧
      (u.tile t).amxWait = (s1.tile t).amxWait ++ [(cf h.c 1 23 22, cf h.c 1 25 24, cf h.c 1 10 6, (s1.tile t).progress)] := by
  have hexec : exec (.amxr t) s = .next (effAmxr t s) := onTile_eq_next hr.1 fun _ => effAmxr t s
  have heff : effAmxr t s = s1.issueNow t h (fun y => { y with
      amxWait := y.amxWait ++ [(cf h.c 1 23 22, cf h.c 1 25 24, cf h.c 1 10 6, y.progress)],
      pendS := if cf h.c 1 10 6 = 0 then y.pendS else y.pendS ++ [(cf h.c 1 10 6, y.progress)] }) := by
    unfold effAmxr
    rw [scalarRow_ready hr]
    exact if_pos hbusy
  obtain ⟨-, -, hnext, hloop⟩ := hr
  obtain ⟨⟨b, q, n, htile⟩, hwent⟩ := issueNow_spec s1 t h (fun y => { y with
      amxWait := y.amxWait ++ [(cf h.c 1 23 22, cf h.c 1 25 24, cf h.c 1 10 6, y.progress)],
      pendS := if cf h.c 1 10 6 = 0 then y.pendS else y.pendS ++ [(cf h.c 1 10 6, y.progress)] }) rfl rfl rfl hloop (.inr hnext)
  exact ⟨_, hexec.trans (congrArg _ heff), hwent, by rw [htile], by rw [htile]⟩

/-- AMXR with no conversion before it that names its slot: the slot's bits are in the register. -/
theorem execAmxr_reads (hr : s.ready s1 t 8 6 h)
    (hfree : ¬ (mapGet (s1.tile t).dq (unitEng (cf h.c 1 23 22)) []).any (fun i => i.namesAmax (cf h.c 1 23 22) (cf h.c 1 25 24)) = true) :
    ∃ u, exec (.amxr t) s = .next u ∧ s1.wentBy u t h ∧ ∀ r, (u.tile t).s r = if r = cf h.c 1 10 6 ∧ r ≠ 0
      then s1.getF (pgTile t) (unitBase (cf h.c 1 23 22) + 4 * cf h.c 1 25 24) 0 31 0 else (s1.tile t).s r := by
  have hexec : exec (.amxr t) s = .next (effAmxr t s) := onTile_eq_next hr.1 fun _ => effAmxr t s
  have heff : effAmxr t s = s1.issueNow t h
      (fun y => y.setS (cf h.c 1 10 6) (s1.getF (pgTile t) (unitBase (cf h.c 1 23 22) + 4 * cf h.c 1 25 24) 0 31 0)) := by
    unfold effAmxr
    rw [scalarRow_ready hr]
    exact if_neg hfree
  have hlt : s1.getF (pgTile t) (unitBase (cf h.c 1 23 22) + 4 * cf h.c 1 25 24) 0 31 0 < 2 ^ 32 := fld_lt ..
  have hlt' : s1.getF (pgTile t) (unitBase (cf h.c 1 23 22) + 4 * cf h.c 1 25 24) 0 31 0 < 2 ^ 64 := by omega
  obtain ⟨hwent, -, hregs⟩ := issueNow_writesS (i := cf h.c 1 10 6) hr hlt'
  exact ⟨_, hexec.trans (congrArg _ heff), hwent, hregs⟩

end

end Sys2Proof.Machine
end

section
/-!
PROOFS. The statement on scalar commands.
-/
namespace Sys2Proof.Machine

/-- Settles O9: each row writes the one register or predicate that its command names, and goes by. -/
theorem scalarCommandsWriteTheirDestination : Obligations.ScalarCommandsWriteTheirDestination := by
  refine ⟨fun s s1 t h => ⟨execAlu_ready, execLdi_ready⟩, ⟨fun x y => ⟨rfl, rfl, by cases x <;> cases y <;> rfl, rfl⟩, fun s s1 t h => ⟨execCmp_ready, execPbool_ready⟩⟩,
    fun s s1 t h hr => ?_⟩
  by_cases hbusy : (mapGet (s1.tile t).dq (unitEng (cf h.c 1 23 22)) []).any (fun i => i.namesAmax (cf h.c 1 23 22) (cf h.c 1 25 24)) = true
  · obtain ⟨u, hu, hwent, hwaits⟩ := execAmxr_waits hr hbusy
    exact ⟨u, hu, hwent, by rw [if_pos hbusy]; exact hwaits⟩
  · obtain ⟨u, hu, hwent, hreads⟩ := execAmxr_reads hr hbusy
    exact ⟨u, hu, hwent, by rw [if_neg hbusy]; exact hreads⟩

end Sys2Proof.Machine
end

section
/-!
SUPPORT. The waits of SYNC, marks and halts at the head of the queue (R142 to R144, R155, R156).
-/
namespace Sys2Proof.Machine

section
variable {s s1 : State} {t : Nat} {h : Head}

/-- A command with no effect of its own goes by and leaves its tile's registers, predicates, queues, scoreboard and walkers. -/
theorem issueNow_id (hl : (s.tile t).noLoopEnd h.idx) (hn : h.idx + 1 < (s.tile t).cmdrLen) : s.wentByOnly (s.issueNow t h id) t h := by
  obtain ⟨⟨b, q, n, htile⟩, hwent⟩ := issueNow_spec s t h id rfl rfl rfl hl (.inr hn)
  exact wentByOnly_of_tile hwent htile ⟨rfl, rfl, rfl, rfl, rfl⟩

/-- What counting and recording beside the tiles leaves: a command that goes by after it has gone by since before it. -/
theorem Passing.issueNow_id {u : State} (hp : Passing s u t) (htile : u.tile t = s.tile t) (hl : (s.tile t).noLoopEnd h.idx)
    (hn : h.idx + 1 < (s.tile t).cmdrLen) : s.wentByOnly (u.issueNow t h id) t h := by
  obtain ⟨hwent, hrest⟩ := Machine.issueNow_id (s := u) (h := h) (by rw [htile]; exact hl) (by rw [htile]; exact hn)
  exact ⟨hp.trans_wentBy (by rw [htile]) (by rw [htile]) hwent, by rw [← htile]; exact hrest⟩

theorem execWaitb_ready (hr : s.ready s1 t 6 0 h) : ∃ u, exec (.waitb t) s = .next u ∧
    (if s1.handshake t = true ∨ (s1.tile t).beatRef + h.e ≤ s1.beat then s1.wentByOnly u t h
     else u.tile t = { s1.tile t with stall := 6 } ∧ s1.onlyTile u t) := by
  have hexec : exec (.waitb t) s = .next (effWaitb t s) := onTile_eq_next hr.1 fun _ => effWaitb t s
  refine ⟨_, hexec, ?_⟩
  unfold effWaitb
  rw [scalarRow_ready hr]
  obtain ⟨-, -, hnext, hloop⟩ := hr
  dsimp only
  by_cases hh : s1.handshake t = true
  · rw [if_pos (.inl hh), if_pos hh]
    exact issueNow_id hloop hnext
  · rw [if_neg hh]
    by_cases hb : s1.beat < (s1.tile t).beatRef + h.e
    · rw [if_neg (not_or.2 ⟨hh, Nat.not_le.2 hb⟩), if_pos hb]
      exact stall_spec s1 t 6
    · rw [if_pos (.inr (by omega)), if_neg hb]
      split
      · exact issueNow_id hloop hnext
      · exact ((Passing.bump s1 t 0xE18 0 1 (by omega) (by omega)).trans (Passing.countEv _ t 0x24 1)).issueNow_id (countEv_tile ..) hloop hnext

theorem execKwait_ready {d slot desc : Nat} (hr : s.ready s1 t 6 3 h) (hk : s1.kOf t h.c = some (d, slot, desc)) : ∃ u, exec (.kwait t) s = .next u ∧
    (if h.e ≤ (s1.kdesc d slot desc).done then s1.wentByOnly u t h else u.tile t = { s1.tile t with stall := 6 } ∧ s1.onlyTile u t) := by
  have hexec : exec (.kwait t) s = .next (effKwait t s) := onTile_eq_next hr.1 fun _ => effKwait t s
  have heff : effKwait t s = if h.e ≤ (s1.kdesc d slot desc).done then s1.issueNow t h id else s1.stall t 6 := by
    unfold effKwait
    simp only [hr.2.1, hk]
  refine ⟨_, hexec, ?_⟩
  rw [heff]
  obtain ⟨-, -, hnext, hloop⟩ := hr
  split
  · exact issueNow_id hloop hnext
  · exact stall_spec s1 t 6

theorem execFbar_ready (hr : s.ready s1 t 6 1 h) :
    ∃ u, exec (.fbar t) s = .next u ∧ s1.onlyTile u t ∧ (u.tile t).stall = 6 ∧ (u.tile t).cmdIndex = (s1.tile t).cmdIndex ∧
      (if (s1.tile t).quiet
       then (u.tile t).fbarAt = some (cf h.c 1 15 0) ∧ (u.tile t).tokM = 0 ∧ (u.tile t).tokV = 0 ∧ (u.tile t).fpItems = [] ∧
         (u.tile t).stepFps = (s1.tile t).stepFps ++ [(u.tile t).fpFrame]
       else (u.tile t).fbarAt = (s1.tile t).fbarAt ∧ (u.tile t).stepFps = (s1.tile t).stepFps) := by
  have hexec : exec (.fbar t) s = .next (effFbar t s) := onTile_eq_next hr.1 fun _ => effFbar t s
  refine ⟨_, hexec, ?_⟩
  unfold effFbar
  rw [scalarRow_ready hr]
  dsimp only
  by_cases hq : (s1.tile t).quiet = true
  · rw [if_neg (by simp [hq])]
    refine ⟨onlyTile_setTile s1 t _, ?_⟩
    rw [if_pos hq, State.tile_setTile_same]
    exact ⟨rfl, rfl, rfl, rfl, rfl, rfl, rfl⟩
  · rw [if_pos (by simp [hq])]
    obtain ⟨htile, honly⟩ := stall_spec s1 t 6
    refine ⟨honly, ?_⟩
    rw [if_neg hq, htile]
    exact ⟨rfl, rfl, rfl, rfl⟩

/-- MARK's trace record, where tracing is on, leaves the tiles and the breakpoints' registers. -/
theorem execMark_ready (hr : s.ready s1 t 13 0 h) (hoff : ∀ b, b < 2 → s1.getF (pgTile t) (0xE08 + 4 * b) 0 0 0 ≠ 1) :
    ∃ u, exec (.mark t) s = .next u ∧ s1.wentByOnly u t h := by
  have hexec : exec (.mark t) s = .next (effMark t s) := onTile_eq_next hr.1 fun _ => effMark t s
  refine ⟨_, hexec, ?_⟩
  unfold effMark
  rw [scalarRow_ready hr]
  obtain ⟨-, -, hnext, hloop⟩ := hr
  dsimp only
  split
  · rw [brkCheck_disabled]
    · exact (Passing.traceRec s1 t _ _ _ _).issueNow_id (traceRec_tile ..) hloop hnext
    · intro b hb
      rw [getF_of_reg_eq (traceRec_reg s1 _ _ _ _ _ _ _ _ (pgTile_ne t _).2 (by omega) (by omega))]
      exact hoff b hb
  · rw [brkCheck_disabled hoff]
    exact issueNow_id hloop hnext

/-- A task that runs, with nothing in flight and its HALT issued, halts. -/
theorem settleTask_halts (hrun : (s.tile t).task = .running) (hq : (s.tile t).quiet = true) (hh : (s.tile t).haltIssued = true) :
    s.settleTask t = s.setTile t { s.tile t with task := .halted, haltIssued := false, stopReq := false, tokM := 0, tokV := 0, loops := [] } := by
  unfold State.settleTask
  simp [hrun, hq, hh]

/-- A task with something in flight goes on. -/
theorem settleTask_busy (hq : (s.tile t).quiet ≠ true) : s.settleTask t = s := by
  unfold State.settleTask
  simp [hq]

theorem execHalt_ready (ht : t < 4864) (hhead : s.headFor t 14 0 = .ok (s1, h)) (hloop : (s1.tile t).noLoopEnd h.idx) (hrun : (s1.tile t).task = .running) :
    ∃ u, exec (.halt t) s = .next u ∧ (∀ k, k ≠ t → u.tile k = s1.tile k) ∧ s1.sameBut [.tiles, .regs, .trace, .freeCtr] u ∧
      (if (s1.tile t).quiet then (u.tile t).task = .halted ∧ (u.tile t).haltIssued = false ∧ (u.tile t).tokM = 0 ∧ (u.tile t).tokV = 0
       else (u.tile t).task = .running ∧ (u.tile t).haltIssued = true) := by
  have hexec : exec (.halt t) s = .next (effHalt t s) := onTile_eq_next ht fun _ => effHalt t s
  refine ⟨_, hexec, ?_⟩
  unfold effHalt State.scalarRow
  rw [hhead]
  dsimp only
  obtain ⟨⟨b, q, n, htile⟩, hwent⟩ := issueNow_spec s1 t h (fun x => { x with haltIssued := true }) rfl rfl rfl hloop (.inl rfl)
  have hpass := hwent.passing
  have hquiet : ((s1.issueNow t h (fun x => { x with haltIssued := true })).tile t).quiet = (s1.tile t).quiet := by rw [htile]; rfl
  by_cases hq : (s1.tile t).quiet = true
  · rw [settleTask_halts (by rw [htile]; exact hrun) (hquiet.trans hq) (by rw [htile]), if_pos hq, State.tile_setTile_same]
    obtain ⟨hothers, -, hrest⟩ := hpass.trans (Passing.setTile _ t _)
    exact ⟨hothers, hrest, rfl, rfl, rfl, rfl⟩
  · rw [settleTask_busy (by rw [hquiet]; exact hq), if_neg hq, htile]
    obtain ⟨hothers, -, hrest⟩ := hpass
    exact ⟨hothers, hrest, hrun, rfl⟩

end

end Sys2Proof.Machine
end

section
/-!
PROOFS. The statement on waits, marks and halts.
-/
namespace Sys2Proof.Machine

/-- Settles O12: each row at the head of the queue, by what it waits for. FBAR's clauses are those of log entry 47. -/
theorem waitsMarksAndHaltsActAtIssue : Obligations.WaitsMarksAndHaltsActAtIssue :=
  ⟨fun _ _ _ _ => ⟨execWaitb_ready, fun _ _ _ => execKwait_ready⟩, fun _ _ _ _ => execFbar_ready, fun _ _ _ _ => ⟨execMark_ready, execHalt_ready⟩⟩

end Sys2Proof.Machine
end

section
/-!
SUPPORT. Hardware loops (R145, R146): how a loop opens, repeats and closes.
-/
namespace Sys2Proof.Machine

section
variable {s s1 : State} {t : Nat} {h : Head}

/-- The tile with a loop opened over the `len` commands behind the one at `idx`, its index register at 0. -/
def Tile.openLoop (x : Tile) (idx len total sidx : Nat) : Tile :=
  ({ x with loops := { first := idx + 1, last := idx + len, total := total, iter := 0, sidx := sidx } :: x.loops }).setS sidx 0

/-- Opening a loop changes the open loops and the index register alone. -/
theorem Tile.openLoop_eq (x : Tile) (idx len total sidx : Nat) : x.openLoop idx len total sidx = { x with
    loops := { first := idx + 1, last := idx + len, total := total, iter := 0, sidx := sidx } :: x.loops,
    sregs := (x.openLoop idx len total sidx).sregs } := Tile.setS_eq _ _ _

theorem Tile.s_openLoop (x : Tile) (idx len total sidx r : Nat) : (x.openLoop idx len total sidx).s r = if r = sidx then 0 else x.s r := by
  rw [Tile.openLoop, Tile.s_setS]
  by_cases hr : r = sidx
  · rcases Nat.eq_zero_or_pos r with h0 | h0
    · rw [if_neg (by omega), if_pos hr, Tile.s, if_pos h0]
    · rw [if_pos ⟨hr, by omega⟩, if_pos hr, Nat.zero_mod]
  · rw [if_neg (hr ·.1), if_neg hr]
    rfl

/-- LOOP with a count opens its loop and goes by: its body lies behind it. -/
theorem effLoop_opens (hhead : s.headFor t 7 0 = .ok (s1, h)) (hlen : 0 < cf h.c 1 23 0) (hnext : h.idx + cf h.c 1 23 0 + 1 < (s1.tile t).cmdrLen)
    (he : 0 < h.e) : s1.wentBy (effLoop t s) t h ∧
      ((effLoop t s).tile t).loops =
        { first := h.idx + 1, last := h.idx + cf h.c 1 23 0, total := h.e, iter := 0, sidx := cf h.c 1 28 24 } :: (s1.tile t).loops ∧
      ∀ r, ((effLoop t s).tile t).s r = if r = cf h.c 1 28 24 then 0 else (s1.tile t).s r := by
  have heff : effLoop t s = (s1.onT t (fun x => x.openLoop h.idx (cf h.c 1 23 0) h.e (cf h.c 1 28 24))).passed t h.idx (h.idx + 1) 7 0x10 := by
    unfold effLoop State.scalarRow
    rw [hhead]
    exact if_neg (by omega)
  have hopen := onT_tile s1 t (fun x => x.openLoop h.idx (cf h.c 1 23 0) h.e (cf h.c 1 28 24))
  obtain ⟨⟨b, q, n, htile⟩, hpass⟩ := passed_next (s1.onT t (fun x => x.openLoop h.idx (cf h.c 1 23 0) h.e (cf h.c 1 28 24))) t h.idx 7 0x10
    (by
      rw [hopen, Tile.openLoop_eq]
      rintro l ⟨⟩
      dsimp only
      omega)
    (.inr (by rw [hopen, Tile.openLoop_eq]; dsimp only; omega))
  rw [hopen] at htile
  rw [heff]
  refine ⟨((Passing.onT s1 t _).trans hpass).wentBy ?_ ?_ ?_, ?_, fun r => ?_⟩
  · rw [htile]
  · rw [htile, Tile.openLoop_eq]
  · rw [htile, Tile.openLoop_eq]
  · rw [htile, Tile.openLoop_eq]
  · rw [htile, ← Tile.s_openLoop _ h.idx _ h.e]
    rfl

/-- LOOP with a count of 0 passes its body by. -/
theorem effLoop_skips (hhead : s.headFor t 7 0 = .ok (s1, h)) (hnext : h.idx + cf h.c 1 23 0 + 1 < (s1.tile t).cmdrLen) (he : h.e = 0)
    (hloop : (s1.tile t).noLoopEnd (h.idx + cf h.c 1 23 0)) : ((effLoop t s).tile t).cmdIndex = h.idx + cf h.c 1 23 0 + 1 ∧
      ((effLoop t s).tile t).loops = (s1.tile t).loops ∧ ((effLoop t s).tile t).sregs = (s1.tile t).sregs ∧
      (∀ k, k ≠ t → (effLoop t s).tile k = s1.tile k) ∧ s1.sameBut [.tiles, .regs, .trace, .freeCtr] (effLoop t s) := by
  have heff : effLoop t s = s1.passed t h.idx (h.idx + cf h.c 1 23 0 + 1) 7 0x10 := by
    unfold effLoop State.scalarRow
    rw [hhead]
    exact if_pos he
  obtain ⟨q, n, hskip⟩ := Tile.pass_eq (s1.tile t) h.idx (h.idx + cf h.c 1 23 0 + 1) hloop
  obtain ⟨⟨b, htile⟩, hothers, -, hrest⟩ := passed_spec s1 t h.idx (h.idx + cf h.c 1 23 0 + 1) 7 0x10 (.inr (by rw [hskip]; exact hnext))
  rw [heff]
  refine ⟨?_, ?_, ?_, hothers, hrest⟩ <;> rw [htile, hskip]

end

section
variable {x : Tile} {l : LoopCtx} {ls : List LoopCtx}

/-- The tile as the loops that end at its command meet it. -/
def Tile.passing (x : Tile) (next : Nat) : Tile := { x with cmdIndex := next, progress := (x.progress + 1) % 2 ^ 64, brkSeen := false, stall := 0 }

/-- Behind the loops' advance, passing a command settles only the queue. -/
theorem Tile.pass_eq_advance (x : Tile) (idx next : Nat) :
    ∃ q f, x.pass idx next = { Tile.loopAdvance 5 (next - 1) (x.passing next) with queue := q, fetchNext := f } := ⟨_, _, rfl⟩

/-- A loop that goes on: its next iteration, with that one's number in the index register. -/
theorem loopAdvance_repeats (n : Nat) (hl : x.loops = l :: ls) (hpend : ∀ q, q ∈ x.pendS → q.1 ≠ l.sidx) (hmore : l.iter + 1 < l.total) :
    ∃ q f, Tile.loopAdvance (n + 1) l.last x = ({ x with
      loops := { l with iter := l.iter + 1, owed := false } :: ls, cmdIndex := l.first, queue := q, fetchNext := f } : Tile).setS l.sidx (l.iter + 1) := by
  have hfree : x.pendS.any (fun p => p.1 == l.sidx) = false := by
    simpa using fun a b hab => hpend (a, b) hab
  unfold Tile.loopAdvance
  simp only [hl, hfree, hmore, ne_eq, not_true_eq_false, if_false, if_true, Bool.false_and, Bool.false_eq_true]
  split
  · exact ⟨x.queue, x.fetchNext, rfl⟩
  · exact ⟨_, _, rfl⟩

/-- A loop that is over closes, and the one around it does not end here. -/
theorem loopAdvance_closes (n : Nat) (hl : x.loops = l :: ls) (houter : ∀ q, ls.head? = some q → q.last ≠ l.last) (hdone : l.total ≤ l.iter + 1) :
    Tile.loopAdvance (n + 1) l.last x = { x with loops := ls } := by
  unfold Tile.loopAdvance
  simp only [hl, Nat.not_lt.2 hdone, ne_eq, not_true_eq_false, if_false]
  exact loopAdvance_none n l.last _ houter

theorem pass_repeats (hl : x.loops = l :: ls) (hpend : ∀ q, q ∈ x.pendS → q.1 ≠ l.sidx) (hmore : l.iter + 1 < l.total) :
    (x.pass l.last (l.last + 1)).cmdIndex = l.first ∧ (x.pass l.last (l.last + 1)).loops = { l with iter := l.iter + 1, owed := false } :: ls ∧
      (x.pass l.last (l.last + 1)).progress = (x.progress + 1) % 2 ^ 64 ∧
      ∀ r, (x.pass l.last (l.last + 1)).s r = if r = l.sidx ∧ r ≠ 0 then (l.iter + 1) % 2 ^ 64 else x.s r := by
  obtain ⟨q, f, hpass⟩ := x.pass_eq_advance l.last (l.last + 1)
  obtain ⟨q', f', hadv⟩ := loopAdvance_repeats (x := x.passing (l.last + 1)) 4 hl hpend hmore
  rw [Nat.add_sub_cancel, hadv] at hpass
  refine ⟨?_, ?_, ?_, fun r => ?_⟩
  · rw [hpass, Tile.setS_eq]
  · rw [hpass, Tile.setS_eq]
  · rw [hpass, Tile.setS_eq]
    rfl
  · rw [hpass]
    exact Tile.s_setS _ _ _ _

theorem pass_closes (hl : x.loops = l :: ls) (houter : ∀ q, ls.head? = some q → q.last ≠ l.last) (hdone : l.total ≤ l.iter + 1) :
    (x.pass l.last (l.last + 1)).cmdIndex = l.last + 1 ∧ (x.pass l.last (l.last + 1)).loops = ls ∧
      (x.pass l.last (l.last + 1)).progress = (x.progress + 1) % 2 ^ 64 ∧ (x.pass l.last (l.last + 1)).sregs = x.sregs := by
  obtain ⟨q, f, hpass⟩ := x.pass_eq_advance l.last (l.last + 1)
  rw [Nat.add_sub_cancel, loopAdvance_closes (x := x.passing (l.last + 1)) 4 hl houter hdone] at hpass
  rw [hpass]
  exact ⟨rfl, rfl, rfl, rfl⟩

end

end Sys2Proof.Machine
end

section
/-!
PROOFS. The statement on loops.
-/
namespace Sys2Proof.Machine

/-- Settles O13: LOOP with a count and without one, and the end of a body with iterations left and without. -/
theorem loopsOpenRepeatAndClose : Obligations.LoopsOpenRepeatAndClose := by
  refine ⟨fun s s1 t h ht hhead hlen hnext => ?_, fun x l ls hl hpend houter => ⟨fun hmore => ?_, fun hdone => ?_, ?_⟩⟩
  · have hexec : exec (.loop t) s = .next (effLoop t s) := onTile_eq_next ht fun _ => effLoop t s
    exact ⟨_, hexec, effLoop_opens hhead hlen hnext, effLoop_skips hhead hnext⟩
  · obtain ⟨hidx, hloops, -, hregs⟩ := pass_repeats hl hpend hmore
    exact ⟨hidx, hloops, hregs⟩
  · obtain ⟨hidx, hloops, -, hregs⟩ := pass_closes hl houter hdone
    exact ⟨hidx, hloops, hregs⟩
  · rcases Nat.lt_or_ge (l.iter + 1) l.total with hmore | hdone
    · obtain ⟨-, -, hprog, -⟩ := pass_repeats hl hpend hmore
      exact hprog
    · obtain ⟨-, -, hprog, -⟩ := pass_closes hl houter hdone
      exact hprog

end Sys2Proof.Machine
end

section
/-!
SUPPORT. Line work at the slices (R249, R250, R253, R278): filling and draining lines counts, and moves lines; it leaves the rest of every slice and the
registers that are not counters.
-/
namespace Sys2Proof.Machine

/-- The offsets at which tiles, slices and controllers count: the common counters, hits and misses, controller bytes, ports and banks. -/
def counterOff (off : Nat) : Prop := (0x30 ≤ off ∧ off < 0x60) ∨ off ∈ [0x130, 0x138, 0x140, 0x148, 0x168, 0x708]

/-- Of the registers, only those at the counters' offsets may differ. -/
def CountersOnly (s u : State) : Prop := ∀ pg off sel, ¬ counterOff off → off < 4096 → sel < 32768 → u.reg pg off sel = s.reg pg off sel

section
variable {s u v : State}

theorem CountersOnly.refl (s : State) : CountersOnly s s := fun _ _ _ _ _ _ => rfl

theorem CountersOnly.trans (h : CountersOnly s u) (g : CountersOnly u v) : CountersOnly s v :=
  fun pg off sel hc ho hs => (g pg off sel hc ho hs).trans (h pg off sel hc ho hs)

theorem CountersOnly.of_regs (h : u.regs = s.regs) : CountersOnly s u := fun pg off sel _ _ _ => by rw [State.reg, h]; rfl

theorem CountersOnly.bump (s : State) (pg n : Nat) {off sel : Nat} (hc : counterOff off) (ho : off < 4096) (hs : sel < 32768) :
    CountersOnly s (s.bump pg off sel n) := fun _ _ _ hc' ho' hs' =>
  reg_setReg_offset s _ _ _ _ _ _ _ (fun e => hc' (e ▸ hc)) ho hs ho' hs'

theorem CountersOnly.countEv (s : State) (pg ev n : Nat) : CountersOnly s (s.countEv pg ev n) := fun _ off _ hc ho hs =>
  countEv_reg s pg ev n _ _ _ (by unfold counterOff at hc; omega) ho hs

end

/-- Of the slices, only lines may differ, and of the registers only counters. -/
def LineWork (s u : State) : Prop := (∀ k, ∃ ls, u.slice k = { s.slice k with lines := ls }) ∧ CountersOnly s u

section
variable {s u v : State}

theorem LineWork.trans (h : LineWork s u) (g : LineWork u v) : LineWork s v :=
  ⟨fun k => by
    obtain ⟨ls, hls⟩ := h.1 k
    obtain ⟨ls', hls'⟩ := g.1 k
    exact ⟨ls', by rw [hls', hls]⟩, h.2.trans g.2⟩

theorem LineWork.of_slices (h : u.slices = s.slices) (hc : CountersOnly s u) : LineWork s u :=
  ⟨fun k => ⟨(s.slice k).lines, by rw [State.slice, h]; rfl⟩, hc⟩

theorem LineWork.refl (s : State) : LineWork s s := .of_slices rfl (.refl s)

/-- The committed entries of every slice stand as before. -/
theorem LineWork.wcb (h : LineWork s u) (k : Nat) : (u.slice k).wcb = (s.slice k).wcb := by
  obtain ⟨ls, hls⟩ := h.1 k
  rw [hls]

theorem LineWork.stopped (h : LineWork s u) (k : Nat) : (u.slice k).stopped = (s.slice k).stopped := by
  obtain ⟨ls, hls⟩ := h.1 k
  rw [hls]

end

theorem LineWork.setLines (s : State) (sl : Nat) (ls : SMap LineSt) : LineWork s (s.setSlice sl { s.slice sl with lines := ls }) := by
  refine ⟨fun k => ?_, .of_regs rfl⟩
  by_cases hk : sl = k
  · exact ⟨ls, by rw [← hk, State.slice_setSlice_same]⟩
  · exact ⟨(s.slice k).lines, State.slice_setSlice_other _ _ _ _ hk⟩

theorem LineWork.bump (s : State) (pg n : Nat) {off sel : Nat} (hc : counterOff off) (ho : off < 4096) (hs : sel < 32768) :
    LineWork s (s.bump pg off sel n) := .of_slices rfl (.bump s pg n hc ho hs)

theorem LineWork.countEv (s : State) (pg ev n : Nat) : LineWork s (s.countEv pg ev n) := by
  refine .of_slices ?_ (.countEv s pg ev n)
  obtain ⟨r, hr⟩ := countEv_parts s pg ev n
  rw [hr]

/-- An event with its own counter and among the common ones. -/
theorem LineWork.count (s : State) (pg ev n : Nat) {off : Nat} (hc : counterOff off) (ho : off < 4096) :
    LineWork s ((s.bump pg off 0 n).countEv pg ev 1) := (LineWork.bump s pg n hc ho (by omega)).trans (.countEv _ pg ev 1)

theorem LineWork.portGrant (s : State) (sl ln : Nat) {who : Nat} (hw : who < 32) : LineWork s (s.portGrant sl who ln) :=
  .bump s _ _ (by simp [counterOff]) (by omega) (by omega)

theorem LineWork.fill (s : State) (sl ln : Nat) (x : LineSt) : LineWork s (s.fill sl ln x) := by
  unfold State.fill
  dsimp only
  split
  · exact .setLines s sl _
  · split
    · exact .setLines s sl _
    · have hset : ∀ ls, LineWork s ((drawFree s).2.setSlice sl { s.slice sl with lines := ls }) :=
        fun ls => (LineWork.of_slices (u := (drawFree s).2) rfl (.of_regs rfl)).trans (.setLines _ sl ls)
      split
      · exact (hset _).trans (.count _ _ _ _ (by simp [counterOff]) (by omega))
      · exact hset _

theorem LineWork.touch (s : State) (sl ln : Nat) (count : Bool) : LineWork s (s.touch sl ln count) := by
  unfold State.touch
  dsimp only
  split
  · split
    · exact .count s _ _ _ (by simp [counterOff]) (by omega)
    · exact .refl s
  · refine LineWork.trans ?_ (.fill _ sl ln _)
    have hmiss : LineWork s (if count then (s.bump (pgSc sl) 0x138 0 1).countEv (pgSc sl) 0x11 1 else s) := by
      split
      · exact .count s _ _ _ (by simp [counterOff]) (by omega)
      · exact .refl s
    split
    · exact hmiss
    · exact hmiss.trans ((LineWork.count _ _ _ _ (by simp [counterOff]) (by omega)).trans (.portGrant _ sl ln (by omega)))

/-- The state with the line of a committed entry resident, before its bytes are put into it. -/
def State.drainFill (s : State) (sl : Nat) (e : WcbEntry) : State :=
  let s1 := if imgCovers e.img 0 128 then s else s.touch sl e.line false
  s1.fill sl e.line { (mapFind? (s1.slice sl).lines e.line).getD { kind := .home } with dirty := true }

theorem LineWork.drainFill (s : State) (sl : Nat) (e : WcbEntry) : LineWork s (s.drainFill sl e) := by
  refine LineWork.trans ?_ (.fill _ sl e.line _)
  split
  · exact .refl s
  · exact .touch s sl e.line false

theorem drainFill_sameBut (s : State) (sl : Nat) (e : WcbEntry) : s.sameBut [.regs, .freeCtr, .slices] (s.drainFill sl e) := by
  refine Keeps.sameBut (State.fill_keeps rfl ?_)
  split
  · exact Keeps.refl _ s
  · exact State.touch_keeps rfl (Keeps.refl _ s)

/-- The bytes of a committed entry put into its line: a whole one's line is no longer poisoned (R263). -/
def State.putLine (s : State) (e : WcbEntry) : State := { s with
  hbm := memWrite s.hbm (e.line * 128) (imgApply e.img (memRead s.hbm (e.line * 128) 128)),
  poison := if imgCovers e.img 0 128 then s.poison.filter (· != e.line) else s.poison }

theorem drain_eq (s : State) (sl : Nat) (e : WcbEntry) : s.drain sl e = ((s.drainFill sl e).putLine e).countEv (pgSc sl) 0x15 1 := rfl

theorem LineWork.putLine (s : State) (e : WcbEntry) : LineWork s (s.putLine e) := .of_slices rfl (.of_regs rfl)

theorem LineWork.drain (s : State) (sl : Nat) (e : WcbEntry) : LineWork s (s.drain sl e) := by
  rw [drain_eq]
  exact ((LineWork.drainFill s sl e).trans (.putLine _ e)).trans (.countEv _ _ _ _)

/-- A drain writes its entry's bytes over its line, and no line becomes poisoned. -/
theorem drain_memory (s : State) (sl : Nat) (e : WcbEntry) :
    (s.drain sl e).hbm = memWrite s.hbm (e.line * 128) (imgApply e.img (memRead s.hbm (e.line * 128) 128)) ∧
      ∀ ln, ln ∈ (s.drain sl e).poison → ln ∈ s.poison := by
  have hbm : (s.drainFill sl e).hbm = s.hbm := drainFill_sameBut s sl e .hbm (by decide)
  have hpoison : (s.drainFill sl e).poison = s.poison := drainFill_sameBut s sl e .poison (by decide)
  rw [drain_eq]
  obtain ⟨r, hr⟩ := countEv_parts ((s.drainFill sl e).putLine e) (pgSc sl) 0x15 1
  rw [hr]
  refine ⟨by rw [← hbm]; rfl, fun ln hln => ?_⟩
  dsimp only [State.putLine] at hln
  rw [hpoison] at hln
  split at hln
  · exact (List.mem_filter.1 hln).1
  · exact hln

end Sys2Proof.Machine
end

section
/-!
SUPPORT. The bytes that loads see (R251 to R253): draining a line's committed entry changes none of them.
-/
namespace Sys2Proof.Machine

theorem homeSlice_line (a : Nat) : homeSlice (a / 128 * 128) = homeSlice a := by
  have hstack : daStack (a / 128 * 128) = daStack a := by unfold daStack; omega
  have hline : daLine (a / 128 * 128) = daLine a := by unfold daLine; omega
  rw [homeSlice, hstack, hline, homeSlice]

theorem sees_congr {s u : State} {a : Nat} (hw : (u.slice (homeSlice a)).wcb = (s.slice (homeSlice a)).wcb) (hm : memGet u.hbm a = memGet s.hbm a) :
    u.sees a = s.sees a := by
  unfold State.sees
  rw [hw, hm]

/-- Where a line has no committed entry, loads see HBM. -/
theorem sees_of_no_entry {s : State} {a : Nat} (h : (s.slice (homeSlice a)).wcb.find? (fun e => e.line == a / 128) = none) : s.sees a = memGet s.hbm a := by
  unfold State.sees
  rw [h]

theorem imgApply_getD {img : List (Option Byte)} {bs : List Byte} {i : Nat} (hi : i < img.length) (hb : i < bs.length) :
    (imgApply img bs).getD i 0 = (img.getD i none).getD (bs.getD i 0) := by
  simp [imgApply, List.getD_eq_getElem?_getD, List.getElem?_zipWith, List.getElem?_eq_getElem hi, List.getElem?_eq_getElem hb]

theorem imgApply_length (img : List (Option Byte)) (bs : List Byte) : (imgApply img bs).length = min img.length bs.length := List.length_zipWith

theorem memRead_getD {m : List Host.Cell} (hm : Memory.wf m = true) {a n i : Nat} (hi : i < n) : (memRead m a n).getD i 0 = memGet m (a + i) := by
  simp [memRead_eq_map hm, List.getD_eq_getElem?_getD, hi]

section
variable {s : State} {sl ln : Nat}

/-- Slice `sl` with line `ln`'s committed entry taken out. -/
def State.takeEntry (s : State) (sl ln : Nat) : State := s.setSlice sl { s.slice sl with wcb := (s.slice sl).wcb.filter (fun x => x.line != ln) }

theorem drainLine_none (h : (s.slice sl).wcb.find? (fun e => e.line == ln) = none) : s.drainLine sl ln = s := by rw [State.drainLine, h]

theorem drainLine_some {e : WcbEntry} (h : (s.slice sl).wcb.find? (fun e => e.line == ln) = some e) : s.drainLine sl ln = (s.takeEntry sl ln).drain sl e := by
  rw [State.drainLine, h]
  rfl

theorem takeEntry_wcb : ((s.takeEntry sl ln).slice sl).wcb = (s.slice sl).wcb.filter (fun x => x.line != ln) := by
  rw [State.takeEntry, State.slice_setSlice_same]

/-- The entry taken out, no other line's entry is missed. -/
theorem takeEntry_find? {k n : Nat} (hn : n ≠ ln) :
    ((s.takeEntry sl ln).slice k).wcb.find? (fun e => e.line == n) = (s.slice k).wcb.find? (fun e => e.line == n) := by
  by_cases hk : sl = k
  · rw [← hk, takeEntry_wcb, List.find?_filter]
    congr 1
    funext e
    by_cases he : e.line = n
    · simp [he, hn]
    · simp [he]
  · rw [State.takeEntry, State.slice_setSlice_other _ _ _ _ hk]

/-- A drained line has no committed entry. -/
theorem drainLine_find? : ((s.drainLine sl ln).slice sl).wcb.find? (fun e => e.line == ln) = none := by
  cases h : (s.slice sl).wcb.find? (fun e => e.line == ln) with
  | none => rw [drainLine_none h, h]
  | some e =>
    rw [drainLine_some h, (LineWork.drain _ sl e).wcb, takeEntry_wcb]
    simp

theorem drainLine_poison {n : Nat} (h : n ∈ (s.drainLine sl ln).poison) : n ∈ s.poison := by
  cases he : (s.slice sl).wcb.find? (fun e => e.line == ln) with
  | none => rwa [drainLine_none he] at h
  | some e =>
    rw [drainLine_some he] at h
    exact (drain_memory (s.takeEntry sl ln) sl e).2 n h

/-- A drain moves bytes from the buffer into HBM: loads see what they saw. -/
theorem sees_drainLine (hwf : Memory.wf s.hbm = true) (hhome : homeSlice (ln * 128) = sl) (himg : ∀ e, e ∈ (s.slice sl).wcb → e.img.length = 128) (a : Nat) :
    (s.drainLine sl ln).sees a = s.sees a := by
  cases h : (s.slice sl).wcb.find? (fun e => e.line == ln) with
  | none => rw [drainLine_none h]
  | some e =>
    have hlen : e.img.length = 128 := himg e (List.mem_of_find?_eq_some h)
    have hline : e.line = ln := by simpa using List.find?_some h
    have hbm : (s.drainLine sl ln).hbm = memWrite s.hbm (ln * 128) (imgApply e.img (memRead s.hbm (ln * 128) 128)) := by
      rw [drainLine_some h, (drain_memory _ sl e).1, hline]
      rfl
    have hbytes : (imgApply e.img (memRead s.hbm (ln * 128) 128)).length = 128 := by rw [imgApply_length, hlen, memRead, memWalk_length]; rfl
    by_cases ha : a / 128 = ln
    · have hsl : homeSlice a = sl := by rw [← homeSlice_line, ha, hhome]
      have hbyte : memGet (s.drainLine sl ln).hbm a = (e.img.getD (a % 128) none).getD (memGet s.hbm a) := by
        have hoff : a - ln * 128 = a % 128 := by omega
        rw [hbm, memGet_memWrite, hbytes, if_pos (by omega), hoff, imgApply_getD (by omega) (by rw [memRead, memWalk_length]; omega),
          memRead_getD hwf (by omega), show ln * 128 + a % 128 = a by omega]
      rw [sees_of_no_entry (by rw [hsl, ha]; exact drainLine_find?), hbyte]
      unfold State.sees
      rw [hsl, ha, h]
    · have hbyte : memGet (s.drainLine sl ln).hbm a = memGet s.hbm a := by
        rw [hbm, memGet_memWrite, hbytes, if_neg (by omega)]
      have hfind : ((s.drainLine sl ln).slice (homeSlice a)).wcb.find? (fun e => e.line == a / 128) =
          (s.slice (homeSlice a)).wcb.find? (fun e => e.line == a / 128) := by
        rw [drainLine_some h, (LineWork.drain _ sl e).wcb, takeEntry_find? ha]
      unfold State.sees
      rw [hfind, hbyte]

end

end Sys2Proof.Machine
end

section
/-!
SUPPORT. The integer atomics (R152, Table 8-4) and the lock table (R269 to R272, Table 8-6).
-/
namespace Sys2Proof.Machine

section
variable (a b : BitVec 32) (c : Nat)

theorem toNat_mod_word {w : Nat} (x : BitVec w) : x.toNat % 2 ^ w = x.toNat := Nat.mod_eq_of_lt x.isLt

theorem atomFn_min : atomFn 1 0 a.toNat b.toNat c = (if b.slt a then b else a).toNat :=
  calc atomFn 1 0 a.toNat b.toNat c = (if decide (sext 32 b.toNat < sext 32 a.toNat) then b.toNat else a.toNat) % 2 ^ 32 := rfl
    _ = (if b.slt a then b else a).toNat % 2 ^ 32 := by rw [sext_toNat, sext_toNat, apply_ite BitVec.toNat, BitVec.slt]
    _ = _ := toNat_mod_word _

theorem atomFn_max : atomFn 2 0 a.toNat b.toNat c = (if a.slt b then b else a).toNat :=
  calc atomFn 2 0 a.toNat b.toNat c = (if decide (sext 32 a.toNat < sext 32 b.toNat) then b.toNat else a.toNat) % 2 ^ 32 := rfl
    _ = (if a.slt b then b else a).toNat % 2 ^ 32 := by rw [sext_toNat, sext_toNat, apply_ite BitVec.toNat, BitVec.slt]
    _ = _ := toNat_mod_word _

theorem atomFn_cas (x : BitVec 32) : atomFn 3 0 a.toNat b.toNat x.toNat = (if a = x then b else a).toNat :=
  calc atomFn 3 0 a.toNat b.toNat x.toNat = (if a.toNat = x.toNat then b.toNat else a.toNat) % 2 ^ 32 := rfl
    _ = (if a = x then b else a).toNat % 2 ^ 32 := by simp only [BitVec.toNat_inj, apply_ite BitVec.toNat]
    _ = _ := toNat_mod_word _

end

theorem integerAtomics_eq (a b c : BitVec 32) (w : BitVec 64) :
    atomFn 0 0 a.toNat b.toNat c.toNat = (a + b).toNat ∧ atomFn 1 0 a.toNat b.toNat c.toNat = (if b.slt a then b else a).toNat ∧
      atomFn 2 0 a.toNat b.toNat c.toNat = (if a.slt b then b else a).toNat ∧ atomFn 3 0 a.toNat b.toNat c.toNat = (if a = c then b else a).toNat ∧
      atomFn 4 0 a.toNat b.toNat c.toNat = b.toNat ∧ atomFn 5 0 a.toNat b.toNat c.toNat = (a + 1).toNat ∧ atomFn 5 3 w.toNat 0 0 = (w + 1).toNat :=
  ⟨(BitVec.toNat_add a b).symm, atomFn_min a b _, atomFn_max a b _, atomFn_cas a b c, toNat_mod_word b, (BitVec.toNat_add a 1).symm,
    (BitVec.toNat_add w 1).symm⟩

section
variable {m : SMap LockEntry} {da ctx tile : Nat}

/-- A status word's low four bits are its status. -/
theorem lockWord_status (status : Nat) (owner : Option (Nat × Nat)) (prev : Option Nat) : lockWord status owner prev % 16 = status % 16 := by
  rcases owner with _ | ⟨t, c⟩ <;> rcases prev with _ | q <;> simp only [lockWord] <;> omega

/-- A free address is acquired while an entry is free. -/
theorem lockFn_acquires (hnone : m.find? (fun e => e.2.da == da) = none) (hfree : ∃ k, k < 256 ∧ mapFind? m k = none) :
    ∃ k, mapFind? (lockFn true m da ctx tile).2 k = some { da := da, ctx := ctx, tile := tile } ∧ (lockFn true m da ctx tile).1 % 16 = 0 := by
  obtain ⟨j, hj, hjf⟩ := hfree
  cases hk : (List.range 256).find? (fun k => (mapFind? m k).isNone) with
  | none => simpa [hjf] using List.find?_eq_none.1 hk j (List.mem_range.2 hj)
  | some k =>
    have hfn : lockFn true m da ctx tile = (lockWord 0 (some (tile, ctx)) none, mapSet m k { da := da, ctx := ctx, tile := tile }) := by
      simp only [lockFn, hnone, hk]
      rfl
    exact ⟨k, by rw [hfn]; exact mapFind?_mapSet_same _ _ _, by rw [hfn, lockWord_status]⟩

section
variable {k : Nat} {l : LockEntry} (hfind : m.find? (fun e => e.2.da == da) = some (k, l)) (hheld : l.broken = false)
include hfind hheld

/-- Another's attempt on a held lock leaves the table. -/
theorem lockFn_other (hown : ¬(l.ctx = ctx ∧ l.tile = tile)) (acquire : Bool) : (lockFn acquire m da ctx tile).2 = m := by
  simp only [lockFn, hfind, hheld, hown, Bool.false_eq_true, if_false]

theorem lockFn_owner_again (hown : l.ctx = ctx ∧ l.tile = tile) : (lockFn true m da ctx tile).2 = m := by
  simp only [lockFn, hfind, hheld, hown, Bool.false_eq_true, if_false, and_self, if_true]

theorem lockFn_owner_release (hown : l.ctx = ctx ∧ l.tile = tile) : (lockFn false m da ctx tile).2 = mapDrop m (fun q => q == k) := by
  simp only [lockFn, hfind, hheld, hown, Bool.false_eq_true, if_false, and_self, if_true]

end

end

/-- A key taken out of a map is not in it. -/
theorem mapFind?_mapDrop_same {α : Type} (m : SMap α) (k : Nat) : mapFind? (mapDrop m (fun q => q == k)) k = none := by
  unfold mapDrop
  induction m with
  | nil => rfl
  | cons e m ih =>
    by_cases he : e.1 = k
    · simpa [List.filter_cons, he] using ih
    · simpa [List.filter_cons, he, mapFind?] using ih

/-- LOCK_FREE frees a BROKEN entry only. -/
theorem execLockFree_entry {s : State} {sl : Nat} {l : LockEntry} (hsl : sl < 64)
    (hl : mapFind? (s.slice sl).locks (s.getF (pgSc sl) 0x110 0 7 0) = some l) :
    ∃ u, exec (.lockFree sl) s = .next u ∧ s.sameBut [.slices] u ∧
      mapFind? (u.slice sl).locks (s.getF (pgSc sl) 0x110 0 7 0) = if l.broken then none else some l := by
  have hexec : exec (.lockFree sl) s = .next (effLockFree sl s) := if_pos hsl
  refine ⟨_, hexec, Keeps.sameBut (effLockFree_keeps rfl (Keeps.refl _ s)), ?_⟩
  unfold effLockFree
  simp only [hl]
  split
  · rw [State.slice_setSlice_same]
    exact mapFind?_mapDrop_same _ _
  · exact hl

end Sys2Proof.Machine
end

section
/-!
SUPPORT. The atomic port's front at its home slice (R267 to R270).
-/
namespace Sys2Proof.Machine

/-- What becomes of a command that completes with bytes `d`: it is finished, and they are its result. -/
theorem mem_onCmd {x : Tile} {eng ord : Nat} {f : IssuedCmd → IssuedCmd} {k : IssuedCmd}
    (hk : k ∈ mapGet (x.onCmd eng ord f).dq eng []) (ho : k.ord = ord) : ∃ j, k = f j := by
  rw [Tile.onCmd, mapGet_mapSet_same] at hk
  obtain ⟨j, -, rfl⟩ := List.mem_map.1 hk
  split at ho
  case isTrue hj => exact ⟨j, if_pos hj⟩
  case isFalse hj => exact absurd ho hj

/-- The port's command is finished with `v` for its register, and nothing else of the tile moves. -/
theorem atomDone_spec (s : State) (t : Nat) (i : IssuedCmd) (v : Nat) (fp : List Byte) :
    (∃ q, (s.atomDone t i v fp).tile t = { s.tile t with dq := q }) ∧ s.onlyTile (s.atomDone t i v fp) t ∧
      ∀ k, k ∈ mapGet ((s.atomDone t i v fp).tile t).dq 8 [] → k.ord = i.ord → k.finished = true ∧ k.data = natLE 8 v := by
  refine ⟨⟨_, onT_tile s t _⟩, onlyTile_onT s t _, fun k hk ho => ?_⟩
  rw [State.atomDone, onT_tile] at hk
  obtain ⟨j, rfl⟩ := mem_onCmd hk ho
  split <;> exact ⟨rfl, rfl⟩

section
variable {s : State} {t sz da pa : Nat} {i : IssuedCmd}

theorem execLockOp_front (ht : t < 4864) (hfront : s.atomFront t = some (i, sz, .ok da, pa)) (hop : 6 ≤ cOp i.word.toNat)
    (hdike : s.sliceDike (s.ownerOr t) 0 2 da = 0) (hserves : s.serves (pgSc (homeSlice da)) = true) (hstop : (s.slice (homeSlice da)).stopped = false) :
    ∃ u, exec (.lockOp t) s = .next u ∧ s.sameBut [.slices, .tiles] u ∧ (∀ k, k ≠ t → u.tile k = s.tile k) ∧
      (u.slice (homeSlice da)).locks = (lockFn (cOp i.word.toNat == 6) (s.slice (homeSlice da)).locks da (s.tile t).ctx (s.srcId t)).2 ∧
      ∀ k, k ∈ mapGet (u.tile t).dq 8 [] → k.ord = i.ord → k.finished = true ∧
        k.data = natLE 8 (lockFn (cOp i.word.toNat == 6) (s.slice (homeSlice da)).locks da (s.tile t).ctx (s.srcId t)).1 := by
  have hexec : exec (.lockOp t) s = .next (effLock t s) := onTile_eq_next ht fun _ => effLock t s
  have heff : effLock t s = (s.setSlice (homeSlice da) { s.slice (homeSlice da) with
      locks := (lockFn (cOp i.word.toNat == 6) (s.slice (homeSlice da)).locks da (s.tile t).ctx (s.srcId t)).2 }).atomDone t i
        (lockFn (cOp i.word.toNat == 6) (s.slice (homeSlice da)).locks da (s.tile t).ctx (s.srcId t)).1 [] := by
    unfold effLock
    simp only [hfront, Nat.not_lt.2 hop, hdike, hserves, hstop, ne_eq, not_true_eq_false, if_false, Bool.not_true, Bool.false_eq_true, or_self]
  rw [heff] at hexec
  generalize lockFn (cOp i.word.toNat == 6) (s.slice (homeSlice da)).locks da (s.tile t).ctx (s.srcId t) = r at hexec ⊢
  obtain ⟨-, ⟨hothers, hrest⟩, hdone⟩ := atomDone_spec (s.setSlice (homeSlice da) { s.slice (homeSlice da) with locks := r.2 }) t i r.1 []
  refine ⟨_, hexec, Keeps.sameBut (State.atomDone_keeps rfl (State.setSlice_keeps rfl (Keeps.refl _ s))), hothers, ?_, hdone⟩
  have hslices := hrest .slices (by decide)
  unfold Field.same at hslices
  rw [State.slice, hslices]
  exact congrArg Slice.locks (State.slice_setSlice_same s _ _)

end

end Sys2Proof.Machine
end

section
/-!
SUPPORT. SLICE_ATOMIC (R267, R268): the atomic at its home slice, where nothing refuses it.
-/
namespace Sys2Proof.Machine

/-- The home slice's port granted to tile `t` for the line of `da`. -/
def State.atomicGrant (s : State) (t da : Nat) : State :=
  s.portGrant (homeSlice da) (s.portWho (tDie t) (homeSlice da) (s.logCol (tDie t) (tCol t) / 4)) (da / 128)

/-- The home slice once the line of `da` is ready for an atomic of tile `t`: granted, drained and resident. -/
def State.atomicLine (s : State) (t da : Nat) : State :=
  ((s.atomicGrant t da).drainLine (homeSlice da) (da / 128)).touch (homeSlice da) (da / 128) true

/-- The line of `da` marked dirty at its home slice. -/
def State.dirtyLine (s : State) (da : Nat) : State :=
  s.setSlice (homeSlice da) { s.slice (homeSlice da) with
    lines := (s.slice (homeSlice da)).lines.map (fun e => if e.1 = da / 128 then (e.1, { e.2 with dirty := true }) else e) }

/-- The bytes of an atomic's new value stored, the copies of its line invalidated, and the atomic counted. -/
def State.atomicStore (s : State) (da : Nat) (bs : List Byte) : State :=
  (({ s.dirtyLine da with hbm := memWrite (s.dirtyLine da).hbm da bs }.sendInval (da / 128)).bump (pgSc (homeSlice da)) 0x150 0 1).countEv
    (pgSc (homeSlice da)) 0x14 1

theorem logCol_le (s : State) (d x : Nat) : s.logCol d x ≤ 36 := by
  unfold State.logCol
  split
  · exact Nat.min_le_left _ _
  · exact Nat.le_refl _

theorem portWho_lt (s : State) (d sl : Nat) {who n : Nat} (hw : who < n) (hn : 10 < n) : s.portWho d sl who < n := by
  unfold State.portWho
  dsimp only
  split
  · exact hw
  · split <;> omega

theorem LineWork.atomicGrant (s : State) (t da : Nat) : LineWork s (s.atomicGrant t da) := by
  have hcol := logCol_le s (tDie t) (tCol t)
  exact .portGrant _ _ _ (portWho_lt s _ _ (by omega) (by omega))

section
variable {s : State} {t da : Nat}

theorem atomicLine_sameBut (s : State) (t da : Nat) : s.sameBut [.regs, .freeCtr, .hbm, .slices, .poison] (s.atomicLine t da) :=
  Keeps.sameBut (State.touch_keeps rfl (State.drainLine_keeps rfl (State.portGrant_keeps rfl (Keeps.refl _ s))))

theorem atomicLine_wf (t da : Nat) (h : Memory.wf s.hbm = true) : Memory.wf (s.atomicLine t da).hbm = true :=
  (State.touch_keeps (w := maskOf Field.all) rfl (State.drainLine_keeps rfl (State.portGrant_keeps rfl (Keeps.refl _ s)))).2.1 h

/-- Making the line ready changes no byte that loads see. -/
theorem sees_atomicLine (hs : s.buffersOk) (a : Nat) : (s.atomicLine t da).sees a = s.sees a := by
  obtain ⟨hwf, -, hent⟩ := hs
  have hgrant := LineWork.atomicGrant s t da
  have htouch (u : State) : (u.touch (homeSlice da) (da / 128) true).sees a = u.sees a := by
    have hbm : (u.touch (homeSlice da) (da / 128) true).hbm = u.hbm :=
      Keeps.sameBut (fs := [.regs, .freeCtr, .slices]) (State.touch_keeps rfl (Keeps.refl _ u)) .hbm (by decide)
    exact sees_congr ((LineWork.touch u _ _ _).wcb _) (by rw [hbm])
  rw [State.atomicLine, htouch, sees_drainLine (s := s.atomicGrant t da) hwf (homeSlice_line da)]
  · exact sees_congr (hgrant.wcb _) rfl
  · intro e he
    rw [hgrant.wcb] at he
    exact ((hent _).2 e he).1

/-- The line made ready, loads see its bytes in HBM. -/
theorem sees_atomicLine_line {a : Nat} (ha : a / 128 = da / 128) : (s.atomicLine t da).sees a = memGet (s.atomicLine t da).hbm a := by
  have hsl : homeSlice a = homeSlice da := by rw [← homeSlice_line, ha, homeSlice_line]
  refine sees_of_no_entry ?_
  rw [hsl, ha, State.atomicLine, (LineWork.touch _ _ _ _).wcb]
  exact drainLine_find?

theorem atomicStore_spec (s : State) (da : Nat) (bs : List Byte) : (s.atomicStore da bs).hbm = memWrite s.hbm da bs ∧
    (∀ k, ((s.atomicStore da bs).slice k).wcb = (s.slice k).wcb) ∧ (s.atomicStore da bs).tiles = s.tiles := by
  obtain ⟨r, hr⟩ := countEv_parts (({ s.dirtyLine da with hbm := memWrite (s.dirtyLine da).hbm da bs }.sendInval (da / 128)).bump
    (pgSc (homeSlice da)) 0x150 0 1) (pgSc (homeSlice da)) 0x14 1
  rw [State.atomicStore, hr]
  exact ⟨rfl, (LineWork.setLines s _ _).wcb, rfl⟩

/-- The new value is what loads of its bytes see; loads of others see what they saw. -/
theorem sees_atomicStore {a : Nat} {bs : List Byte} (hs : s.buffersOk) (hin : da % 128 + bs.length ≤ 128) :
    ((s.atomicLine t da).atomicStore da bs).sees a = if da ≤ a ∧ a < da + bs.length then bs.getD (a - da) 0 else s.sees a := by
  obtain ⟨hbm, hwcb, -⟩ := atomicStore_spec (s.atomicLine t da) da bs
  split
  case isTrue ha =>
    have hline : a / 128 = da / 128 := by omega
    have hsl : homeSlice a = homeSlice da := by rw [← homeSlice_line, hline, homeSlice_line]
    have hfind : (((s.atomicLine t da).atomicStore da bs).slice (homeSlice a)).wcb.find? (fun e => e.line == a / 128) = none := by
      rw [hwcb, hsl, hline, State.atomicLine, (LineWork.touch _ _ _ _).wcb]
      exact drainLine_find?
    rw [sees_of_no_entry hfind, hbm, memGet_memWrite, if_pos ha]
  case isFalse ha => rw [sees_congr (hwcb _) (by rw [hbm, memGet_memWrite, if_neg ha]), sees_atomicLine hs]

/-- The old value is the one that loads see. -/
theorem memNat_atomicLine {sz : Nat} (hs : s.buffersOk) (hin : da % 128 + sz ≤ 128) :
    memNat (s.atomicLine t da).hbm da sz = leNat ((List.range sz).map (fun k => s.sees (da + k))) := by
  rw [memNat, memRead_eq_map (atomicLine_wf t da hs.1)]
  refine congrArg leNat (List.map_congr_left fun k hk => ?_)
  have hlt := List.mem_range.1 hk
  rw [← sees_atomicLine_line (by omega), sees_atomicLine hs]

/-- An atomic that nothing refuses: the old value is read, the new one stored, and the command is done with the old. -/
theorem effAtomic_passes {sz pa : Nat} {i : IssuedCmd} (hfront : s.atomFront t = some (i, sz, .ok da, pa)) (hop : cOp i.word.toNat < 6)
    (hdike : s.sliceDike (s.ownerOr t) 0 2 da = 0) (hserves : s.serves (pgSc (homeSlice da)) = true) (hstop : (s.slice (homeSlice da)).stopped = false)
    (hfresh : s.fresh da = false) (hpoison : da / 128 ∉ s.poison) {old new : Nat} (hold : old = memNat (s.atomicLine t da).hbm da sz)
    (hnew : new = atomFn (cOp i.word.toNat) (cf i.word.toNat 1 21 20) old (i.s (cf i.word.toNat 1 9 5) % 2 ^ (8 * sz))
      (i.s (cf i.word.toNat 1 14 10) % 2 ^ (8 * sz))) :
    effAtomic t s = ((s.atomicLine t da).atomicStore da (natLE sz new)).atomDone t i old (natLE 8 pa ++ natLE sz new) := by
  have hclean : ((s.atomicGrant t da).drainLine (homeSlice da) (da / 128)).poison.contains (da / 128) = false :=
    Bool.eq_false_iff.2 fun h => hpoison (drainLine_poison (s := s.atomicGrant t da) (List.contains_iff_mem.1 h))
  unfold State.atomicGrant at hclean
  subst hnew hold
  unfold effAtomic
  simp only [hfront, Nat.not_le.2 hop, hdike, hserves, hstop, hfresh, hclean, ne_eq, not_true_eq_false, if_false, Bool.not_true, Bool.false_eq_true, or_self]
  rfl

/-- SLICE_ATOMIC with nothing in its way. -/
theorem execSliceAtomic_front {sz pa : Nat} {i : IssuedCmd} (ht : t < 4864) (hs : s.buffersOk) (hfront : s.atomFront t = some (i, sz, .ok da, pa))
    (hop : cOp i.word.toNat < 6) (hin : da % 128 + sz ≤ 128) (hdike : s.sliceDike (s.ownerOr t) 0 2 da = 0)
    (hserves : s.serves (pgSc (homeSlice da)) = true) (hstop : (s.slice (homeSlice da)).stopped = false) (hfresh : s.fresh da = false)
    (hpoison : da / 128 ∉ s.poison) :
    let old := leNat ((List.range sz).map (fun k => s.sees (da + k)))
    let new := atomFn (cOp i.word.toNat) (cf i.word.toNat 1 21 20) old (i.s (cf i.word.toNat 1 9 5) % 2 ^ (8 * sz)) (i.s (cf i.word.toNat 1 14 10) % 2 ^ (8 * sz))
    ∃ u, exec (.sliceAtomic t) s = .next u ∧ (∀ a, u.sees a = if da ≤ a ∧ a < da + sz then (natLE sz new).getD (a - da) 0 else s.sees a) ∧
      (∀ k, k ≠ t → u.tile k = s.tile k) ∧ (u.tile t).sregs = (s.tile t).sregs ∧
      ∀ k, k ∈ mapGet (u.tile t).dq 8 [] → k.ord = i.ord → k.finished = true ∧ k.data = natLE 8 old := by
  intro old new
  have hexec : exec (.sliceAtomic t) s = .next (effAtomic t s) := onTile_eq_next ht fun _ => effAtomic t s
  rw [effAtomic_passes hfront hop hdike hserves hstop hfresh hpoison (memNat_atomicLine hs hin).symm (new := new) rfl] at hexec
  obtain ⟨⟨q, htile⟩, ⟨hothers, hrest⟩, hdone⟩ := atomDone_spec ((s.atomicLine t da).atomicStore da (natLE sz new)) t i old (natLE 8 pa ++ natLE sz new)
  obtain ⟨-, -, hstore⟩ := atomicStore_spec (s.atomicLine t da) da (natLE sz new)
  have htiles : ((s.atomicLine t da).atomicStore da (natLE sz new)).tiles = s.tiles := hstore.trans (atomicLine_sameBut s t da .tiles (by decide))
  have htile' (k : Nat) : ((s.atomicLine t da).atomicStore da (natLE sz new)).tile k = s.tile k := by rw [State.tile, htiles]; rfl
  refine ⟨_, hexec, fun a => ?_, fun k hk => (hothers k hk).trans (htile' k), by rw [htile, htile'], hdone⟩
  have hslices := hrest .slices (by decide)
  have hbm := hrest .hbm (by decide)
  unfold Field.same at hslices hbm
  refine (sees_congr (s := (s.atomicLine t da).atomicStore da (natLE sz new)) (by rw [State.slice, hslices, State.slice]) (by rw [hbm])).trans ?_
  rw [sees_atomicStore hs (by rwa [natLE_length]), natLE_length]

end

end Sys2Proof.Machine
end

section
/-!
PROOFS. The statement on atomics and locks.
-/
namespace Sys2Proof.Machine

/-- Settles O29: the atomic at its home slice, the integer functions, and the lock table's commands. -/
theorem atomicsAndLocks : Obligations.AtomicsAndLocks := by
  refine ⟨fun s t sz da pa i => execSliceAtomic_front, integerAtomics_eq, fun s t sz da pa i => execLockOp_front,
    fun m da ctx tile => ⟨lockFn_acquires, fun k l hfind hheld hown => ⟨?_, ?_⟩, fun k l hfind hheld hown => ⟨?_, ?_⟩⟩, fun s sl l => execLockFree_entry⟩
  · exact lockFn_other hfind hheld hown true
  · exact lockFn_other hfind hheld hown false
  · exact lockFn_owner_again hfind hheld hown
  · rw [lockFn_owner_release hfind hheld hown]
    exact mapFind?_mapDrop_same m k

end Sys2Proof.Machine
end

section
/-!
SUPPORT. What decides where an access leads and whether it is served (Table 12-1, R360, R406, R416): work that only counts, moves lines, and stores
bytes leaves it as it was.
-/
namespace Sys2Proof.Machine

theorem State.sameBut.trans {fs : List Field} {s u v : State} (h : s.sameBut fs u) (g : u.sameBut fs v) : s.sameBut fs v := fun f hf => by
  have hu := h f hf
  have hv := g f hf
  cases f <;> exact Eq.trans hv hu

theorem State.sameBut.mono {fs gs : List Field} {s u : State} (h : s.sameBut fs u) (hs : ∀ f, f ∈ fs → f ∈ gs) : s.sameBut gs u :=
  fun f hf => h f fun hm => hf (hs f hm)

/-- The parts in which stores and bank grants work. -/
def storeParts : List Field := [.regs, .freeCtr, .hbm, .tiles, .slices, .zeroing, .waitSt, .poison, .inval]

/-- Which slices have stopped is the same, and of the registers only counters may differ. -/
def SliceWork (s u : State) : Prop := (∀ k, (u.slice k).stopped = (s.slice k).stopped) ∧ CountersOnly s u

/-- Work of stores and bank grants alone. -/
def StoreWork (s u : State) : Prop := SliceWork s u ∧ s.sameBut storeParts u

section
variable {s u v : State}

theorem SliceWork.trans (h : SliceWork s u) (g : SliceWork u v) : SliceWork s v := ⟨fun k => (g.1 k).trans (h.1 k), h.2.trans g.2⟩

theorem LineWork.sliceWork (h : LineWork s u) : SliceWork s u := ⟨h.stopped, h.2⟩

theorem StoreWork.trans (h : StoreWork s u) (g : StoreWork u v) : StoreWork s v := ⟨h.1.trans g.1, h.2.trans g.2⟩

theorem StoreWork.refl (s : State) : StoreWork s s := ⟨(LineWork.refl s).sliceWork, fun f _ => by cases f <;> rfl⟩

section
variable (h : StoreWork s u)
include h

theorem StoreWork.getF_eq (pg : Nat) {off sel : Nat} (hi lo : Nat) (hc : ¬ counterOff off) (ho : off < 4096) (hs : sel < 32768) :
    u.getF pg off sel hi lo = s.getF pg off sel hi lo := getF_of_reg_eq (h.1.2 pg off sel hc ho hs) hi lo

theorem StoreWork.regAct_eq : u.regAct = s.regAct := by
  have hact : u.act = s.act := h.2 .act (by decide)
  funext pg off sel
  rw [State.regAct, hact, State.regAct]

theorem StoreWork.bound_eq : u.bound = s.bound := by
  have hact : u.act = s.act := h.2 .act (by decide)
  funext tb p
  rw [State.bound, hact, State.bound]

theorem StoreWork.sluice_eq : u.sluice = s.sluice := by
  have huntrusted : u.untrusted = s.untrusted := h.2 .untrusted (by decide)
  funext i
  rw [State.sluice, h.regAct_eq, huntrusted, State.sluice]

theorem StoreWork.owner_eq : u.owner = s.owner := by
  have huntrusted : u.untrusted = s.untrusted := h.2 .untrusted (by decide)
  funext tb i
  rw [State.owner, h.regAct_eq, huntrusted, State.owner]

theorem StoreWork.pol_eq : u.pol = s.pol := by
  have hpols : u.pols = s.pols := h.2 .pols (by decide)
  funext p
  rw [State.pol, hpols, State.pol]

theorem StoreWork.retired_eq : u.retired = s.retired :=
  funext fun d => h.getF_eq (pgDie d) 37 0 (by simp [counterOff]) (by omega) (by omega)

theorem StoreWork.logCol_eq : u.logCol = s.logCol := by
  funext d x
  rw [State.logCol, State.liveCols, h.retired_eq, State.logCol, State.liveCols]

theorem StoreWork.snapBase_eq (d : Nat) {p : Nat} (hp : p < 32768) : u.snapBase d p = s.snapBase d p := by
  have hreg : u.reg (pgDie d) 0x428 p = s.reg (pgDie d) 0x428 p := h.1.2 _ _ _ (by simp [counterOff]) (by omega) hp
  rw [State.snapBase, hreg, State.snapBase]

theorem StoreWork.snapSize_eq (d : Nat) {p : Nat} (hp : p < 32768) : u.snapSize d p = s.snapSize d p := by
  rw [State.snapSize, h.getF_eq _ _ _ (by simp [counterOff]) (by omega) hp, State.snapSize]

theorem StoreWork.snapSlot_eq (d : Nat) {p : Nat} (hp : p < 32768) : u.snapSlot d p (u.snapOpen d p) = s.snapSlot d p (s.snapOpen d p) := by
  have hreg : u.reg (pgDie d) 0x434 p = s.reg (pgDie d) 0x434 p := h.1.2 _ _ _ (by simp [counterOff]) (by omega) hp
  rw [State.snapSlot, h.snapBase_eq d hp, h.snapSize_eq d hp, State.snapOpen, hreg, State.snapSlot, State.snapOpen]

theorem StoreWork.snapPlace_eq (p : Nat) (im : Image) (d pt : Nat) : u.snapPlace p im d pt = s.snapPlace p im d pt := by
  have htiles : u.tileOf = s.tileOf := by
    funext p pt
    simp only [State.tileOf, State.ofRank, h.bound_eq, State.physTile, State.physCol, State.liveCols, h.retired_eq]
  simp only [State.snapPlace, State.snapTiles, htiles]

theorem StoreWork.xlate_eq (p a : Nat) : u.xlate p a = s.xlate p a := by
  have hwin (w : Nat) (hw : w < 16) : u.hwinLog p w = s.hwinLog p w := by
    simp only [State.hwinLog, h.getF_eq (pgIntake p) (off := 0x150) (sel := w) 5 0 (by simp [counterOff]) (by omega) (by omega)]
  have hhost (w o : Nat) : (w < 16 ∧ u.hwinLog p w ≠ 0 ∧ o < 2 ^ u.hwinLog p w) = (w < 16 ∧ s.hwinLog p w ≠ 0 ∧ o < 2 ^ s.hwinLog p w) := by
    refine propext (and_congr_right fun hw => ?_)
    rw [hwin w hw]
  simp only [State.xlate, State.ofRank, h.bound_eq, hhost, State.sluiceWin, h.sluice_eq]

theorem StoreWork.inSnapRegion_eq (pa : Nat) {o : Nat} (ho : o < 64) : u.inSnapRegion o pa = s.inSnapRegion o pa := by
  simp only [State.inSnapRegion, h.snapBase_eq _ (show o < 32768 by omega), h.snapSize_eq _ (show o < 32768 by omega)]

theorem StoreWork.serves_eq (pg : Nat) : u.serves pg = s.serves pg := by
  have hpart (hi lo : Nat) : u.getF pg 0x24 0 hi lo = s.getF pg 0x24 0 hi lo := h.getF_eq pg hi lo (by simp [counterOff]) (by omega) (by omega)
  have hrole : u.part pg = s.part pg := by
    unfold State.part
    rw [h.logCol_eq, hpart]
  rw [State.serves, hrole, State.stale, hpart, State.serves, State.stale]

end

end

/-- A bound entry's owner is one of the 64 polders. -/
theorem owner_lt {s : State} {tb i o : Nat} (h : s.owner tb i = some o) : o < 64 := by
  unfold State.owner at h
  dsimp only at h
  split at h
  · cases h
    exact fld_lt _ 5 0
  · cases h

theorem StoreWork.sliceDike_eq {s u : State} (h : StoreWork s u) (p kind op da : Nat) : u.sliceDike p kind op da = s.sliceDike p kind op da := by
  have hpools : u.pools = s.pools := h.2 .pools (by decide)
  have hspill : u.inSpillway = s.inSpillway := by
    funext f
    rw [State.inSpillway, hpools, State.inSpillway]
  have hrank : u.rankOf = s.rankOf := by
    funext tb p i
    rw [State.rankOf, h.bound_eq, State.rankOf]
  have hprot : u.inProt = s.inProt := by
    funext p pa
    rw [State.inProt, h.pol_eq, State.inProt]
  unfold State.sliceDike
  rw [hspill, hrank, hprot, h.owner_eq, h.sluice_eq]
  dsimp only
  cases hown : s.owner 1 (da / 2 ^ 28) with
  | none => rfl
  | some o => simp only [h.inSnapRegion_eq _ (owner_lt hown)]

theorem StoreWork.storable {s u : State} (h : StoreWork s u) {p kind pa n : Nat} (hs : s.storable p kind pa n) : u.storable p kind pa n := fun a hlo hhi => by
  obtain ⟨da, via, hx, hdike, hserves, hstop⟩ := hs a hlo hhi
  exact ⟨da, via, by rw [h.xlate_eq, hx], by rw [h.sliceDike_eq, hdike], by rw [h.serves_eq, hserves], by rw [h.1.1, hstop]⟩

/-- A polder with an address that leads to HBM is one of the 64. -/
theorem pol_lt_of_xlate_hbm {s : State} {p a da via : Nat} (h : s.xlate p a = .hbm da via) : p < 64 := by
  unfold State.xlate at h
  dsimp only at h
  split at h
  · split at h
    case h_1 f hf =>
      obtain ⟨e, he, -⟩ := List.mem_map.1 (List.mem_of_getElem? hf)
      obtain ⟨-, hp⟩ := List.mem_filter.1 he
      have hown : fld e.2 5 0 = p := by simpa using (Bool.and_eq_true_iff.1 hp).2
      exact hown ▸ fld_lt _ 5 0
    case h_2 => cases h
  · split at h
    · split at h <;> cases h
    · split at h
      · cases h
      · split at h
        case h_1 k _ _ _ ff n _ hw =>
          have hmem := List.mem_of_find?_eq_some hw
          have huser := List.find?_some hw
          obtain ⟨i, -, hi⟩ := List.mem_map.1 hmem
          have hp : (s.sluice i).2.2.1 = p := by
            rw [hi]
            simp only [Bool.and_eq_true, beq_iff_eq] at huser
            exact huser.1.2
          rw [← hp]
          unfold State.sluice
          dsimp only
          split
          · exact Nat.zero_lt_succ _
          · exact fld_lt _ 13 8
        case h_2 => cases h

end Sys2Proof.Machine
end

section
/-!
SUPPORT. Stores that nothing refuses (R251, R258): every line is taken, and only the slices, HBM and the stores that wait move.
-/
namespace Sys2Proof.Machine

section
variable {s u : State}

theorem SliceWork.of_slices (h : u.slices = s.slices) (hc : CountersOnly s u) : SliceWork s u := (LineWork.of_slices h hc).sliceWork

theorem SliceWork.setSlice {sl : Nat} {c : Slice} (h : c.stopped = (s.slice sl).stopped) : SliceWork s (s.setSlice sl c) := by
  refine ⟨fun k => ?_, .of_regs rfl⟩
  by_cases hk : sl = k
  · rw [← hk, State.slice_setSlice_same, h]
  · rw [State.slice_setSlice_other _ _ _ _ hk]

theorem SliceWork.highDrain (n sl : Nat) : ∀ s : State, SliceWork s (State.highDrain n sl s) := by
  induction n with
  | zero => exact fun s => (LineWork.refl s).sliceWork
  | succ n ih =>
    intro s
    unfold State.highDrain
    dsimp only
    split
    · exact (LineWork.refl s).sliceWork
    · split
      · exact (LineWork.refl s).sliceWork
      · exact (SliceWork.setSlice (by rfl)).trans ((LineWork.drain _ sl _).sliceWork.trans (ih _))

theorem SliceWork.sendInval (s : State) (ln : Nat) : SliceWork s (s.sendInval ln) := .of_slices rfl (.of_regs rfl)

theorem SliceWork.accept (s : State) (e : WcbEntry) : SliceWork s (s.accept e) := by
  unfold State.accept
  exact ((SliceWork.setSlice (by rfl)).trans (.sendInval _ e.line)).trans (.highDrain 65 _ _)

theorem SliceWork.storeIn (s : State) (w : WaitStore) : SliceWork s (s.storeIn w) := by
  unfold State.storeIn
  split
  · exact .of_slices rfl (.of_regs rfl)
  · exact .accept s _

theorem SliceWork.dropNear (s : State) (d ln : Nat) : SliceWork s (s.dropNear d ln) := by
  unfold State.dropNear
  dsimp only
  split
  · split
    · exact .setSlice rfl
    · exact (LineWork.refl s).sliceWork
  · exact (LineWork.refl s).sliceWork

/-- A store waits, or none but those before it do. -/
theorem storeIn_waitSt (s : State) (w : WaitStore) {x : WaitStore} (h : x ∈ (s.storeIn w).waitSt) : x ∈ s.waitSt ∨ x = w := by
  unfold State.storeIn at h
  split at h
  · exact (List.mem_append.1 h).imp_right List.mem_singleton.1
  · have hsame : (s.accept { line := w.line, img := w.img, pol := w.pol }).waitSt = s.waitSt :=
      Keeps.sameBut (fs := [.regs, .freeCtr, .hbm, .slices, .poison, .inval]) (State.accept_keeps rfl (Keeps.refl _ s)) .waitSt (by decide)
    exact .inl (hsame ▸ h)

end

/-- The pieces of a span lie in it. -/
theorem linePieces_mem {k : Nat} : ∀ {pa n : Nat} {q : Nat × Nat}, q ∈ linePieces k pa n → pa ≤ q.1 ∧ q.1 < pa + n := by
  induction k with
  | zero => exact fun h => nomatch h
  | succ k ih =>
    intro pa n q h
    unfold linePieces at h
    split at h
    · exact nomatch h
    · rcases List.mem_cons.1 h with rfl | h
      · dsimp only
        omega
      · have := ih h
        omega

/-- Work of stores from no tile: none of a tile's stores comes to wait. -/
def Untiled (s u : State) : Prop := StoreWork s u ∧ ∀ x, x ∈ u.waitSt → x ∈ s.waitSt ∨ x.tile = 0xFFFF

/-- A line of a store that nothing refuses: granted, its near copy dropped, and taken at its home slice. -/
theorem Untiled.store {s u : State} (h : Untiled s u) (d sl ln who : Nat) {w : WaitStore} (hwho : who < 32) (hw : w.tile = 0xFFFF) (near : Prop)
    [Decidable near] : Untiled s ((if near then u.portGrant sl who ln else (u.portGrant sl who ln).dropNear d ln).storeIn w) := by
  obtain ⟨hwork, hwait⟩ := h
  have hgrant : SliceWork u (u.portGrant sl who ln) := (LineWork.portGrant u sl ln hwho).sliceWork
  have hslice : SliceWork u (if near then u.portGrant sl who ln else (u.portGrant sl who ln).dropNear d ln) := by
    split
    · exact hgrant
    · exact hgrant.trans (.dropNear _ d ln)
  have hparts : u.sameBut [.regs, .slices] (if near then u.portGrant sl who ln else (u.portGrant sl who ln).dropNear d ln) := by
    split
    · exact Keeps.sameBut (State.portGrant_keeps rfl (Keeps.refl _ u))
    · exact Keeps.sameBut (State.dropNear_keeps rfl (State.portGrant_keeps rfl (Keeps.refl _ u)))
  generalize (if near then u.portGrant sl who ln else (u.portGrant sl who ln).dropNear d ln) = v at hslice hparts
  have hwaits : v.waitSt = u.waitSt := hparts .waitSt (by decide)
  refine ⟨hwork.trans ⟨hslice.trans (.storeIn v w), ?_⟩, fun x hx => ?_⟩
  · exact (hparts.mono (by decide)).trans (Keeps.sameBut (State.storeIn_keeps rfl (Keeps.refl _ v)))
  · rcases storeIn_waitSt v w hx with hx | rfl
    · exact hwait x (hwaits ▸ hx)
    · exact .inr hw

/-- A store into a span that is storable: no line is refused. -/
theorem polStore_storable {s : State} {d p kind pa n : Nat} {bs : List Byte} (hs : s.storable p kind pa n) (hn : bs.length ≤ n) :
    (s.polStore d p kind pa bs).1 = none ∧ Untiled s (s.polStore d p kind pa bs).2 := by
  have hwho : kindWho kind < 32 := by
    unfold kindWho
    split <;> omega
  unfold State.polStore
  refine List.foldlRecOn (motive := fun acc : Option (Nat × Nat) × State => acc.1 = none ∧ Untiled s acc.2) _ _ ⟨rfl, .refl s, fun x hx => .inl hx⟩ ?_
  rintro ⟨e, st⟩ ⟨he, hst⟩ q hq
  obtain ⟨hlo, hhi⟩ := linePieces_mem hq
  obtain ⟨da, via, hx, hdike, hserves, hstop⟩ := hs q.1 hlo (by omega)
  dsimp only at he hst
  subst he
  obtain ⟨hwork, -⟩ := id hst
  simp only [hwork.xlate_eq, hx, hwork.sliceDike_eq, hdike, hwork.serves_eq, hserves, hwork.1.1, hstop, ne_eq, not_true_eq_false, if_false, Bool.not_true,
    Bool.false_eq_true, or_self]
  exact ⟨trivial, hst.store d _ _ _ (portWho_lt st d _ hwho (by omega)) rfl _⟩

end Sys2Proof.Machine
end

section
/-!
SUPPORT. A snapshot's copy (R154, R417): its scratchpad reads, its SNAP's completion, and the step window.
-/
namespace Sys2Proof.Machine

/-- Bank grants of tile `t` alone: its arbiters and counters move. -/
def Granted (s u : State) (t : Nat) : Prop :=
  (∃ ar, u.tile t = { s.tile t with arbs := ar }) ∧ (∀ k, k ≠ t → u.tile k = s.tile k) ∧ s.sameBut [.regs, .tiles] u ∧ CountersOnly s u

section
variable {s u v : State} {t : Nat}

theorem Granted.refl (s : State) (t : Nat) : Granted s s t := ⟨⟨_, rfl⟩, fun _ _ => rfl, fun f _ => by cases f <;> rfl, .refl s⟩

theorem Granted.trans (h : Granted s u t) (g : Granted u v t) : Granted s v t := by
  obtain ⟨⟨ar, hu⟩, hothers, hrest, hctr⟩ := h
  obtain ⟨⟨ar', hv⟩, hothers', hrest', hctr'⟩ := g
  exact ⟨⟨ar', by rw [hv, hu]⟩, fun k hk => (hothers' k hk).trans (hothers k hk), hrest.trans hrest', hctr.trans hctr'⟩

theorem Granted.bankGrant (s : State) (t a : Nat) {who : Nat} (hw : who < 16) : Granted s (s.bankGrant t who a) t := by
  refine ⟨bankGrant_tile s t who a, (Passing.bankGrant s t a hw).1, bankGrant_sameBut s t who a, ?_⟩
  unfold State.bankGrant
  dsimp only
  split
  · exact CountersOnly.trans (.of_regs rfl) (.bump _ _ _ (by simp [counterOff]) (by omega) (by omega))
  · exact .of_regs rfl

theorem Granted.storeWork (h : Granted s u t) : StoreWork s u := by
  obtain ⟨-, -, hrest, hctr⟩ := h
  have hslices : u.slices = s.slices := hrest .slices (by decide)
  exact ⟨.of_slices hslices hctr, hrest.mono (by decide)⟩

/-- A read of a loaf, where no upset stands, gives its bytes. -/
theorem scrRead_loaf (h : u.upsets = []) (t a : Nat) :
    ∃ b, u.scrRead t 12 a 512 = (some b, u.bankGrant t 12 a) ∧ b.length = 512 :=
  ⟨_, scrRead_clear 12 (fun q hq => by simp [h] at hq), memWalk_length ..⟩

end

/-- Reads one after another that all give loaves give them all. -/
theorem foldl_reads {f : Option (List (List Byte)) × State → Nat → Option (List (List Byte)) × State} {P : State → Prop}
    (hf : ∀ bs st l, P st → ∃ b v, f (some bs, st) l = (some (bs ++ [b]), v) ∧ b.length = 512 ∧ P v) (ls : List Nat) :
    ∀ bs st, P st → ∃ cs v, ls.foldl f (some bs, st) = (some cs, v) ∧ cs.flatten.length = bs.flatten.length + 512 * ls.length ∧ P v := by
  induction ls with
  | nil => exact fun bs st h => ⟨bs, st, rfl, rfl, h⟩
  | cons l ls ih =>
    intro bs st h
    obtain ⟨b, v, hv, hb, hP⟩ := hf bs st l h
    obtain ⟨cs, w, hw, hlen, hQ⟩ := ih (bs ++ [b]) v hP
    refine ⟨cs, w, by rw [List.foldl_cons, hv, hw], ?_, hQ⟩
    rw [hlen, List.flatten_append, List.length_append, List.length_cons]
    simp only [List.flatten_cons, List.flatten_nil, List.append_nil, hb]
    omega

/-- The scratchpad loaves of snapshot-set entries, in order. -/
def setLoaves (es : List SnapSet) : List Nat := es.flatMap (fun e => (List.range e.len).map (fun k => e.lo + k))

theorem setLoaves_length (es : List SnapSet) : (setLoaves es).length = es.foldl (fun n e => n + e.len) 0 := by
  simp [setLoaves, List.length_flatMap, List.sum_eq_foldl, List.foldl_map]

theorem regLoaf_length (pt set loaves : Nat) (i : IssuedCmd) : (regLoaf pt set loaves i).length = 512 := by
  simp only [regLoaf, padTo, zeros, List.length_take, List.length_append, List.length_replicate]
  omega

/-- The tile once the AMXR that waits as `w` has taken `v`. -/
def Tile.takeAmx (x : Tile) (w : Nat × Nat × Nat × Nat) (v : Nat) : Tile :=
  { x with amxWait := x.amxWait.filter (· != w), pendS := x.pendS.filter (fun p => p.2 != w.2.2.2) }.setS w.2.2.1 v

theorem Tile.takeAmx_eq (x : Tile) (w : Nat × Nat × Nat × Nat) (v : Nat) : x.takeAmx w v = { x with
    amxWait := x.amxWait.filter (· != w), pendS := x.pendS.filter (fun p => p.2 != w.2.2.2), sregs := (x.takeAmx w v).sregs } := Tile.setS_eq _ _ _

/-- AMXRs that take their values change their tile's waits, pending registers and registers alone. -/
theorem amxDone_tile (s : State) (t : Nat) :
    (∃ a p r, (s.amxDone t).tile t = { s.tile t with amxWait := a, pendS := p, sregs := r }) ∧ s.onlyTile (s.amxDone t) t := by
  unfold State.amxDone
  refine List.foldlRecOn (motive := fun st : State => (∃ a p r, st.tile t = { s.tile t with amxWait := a, pendS := p, sregs := r }) ∧ s.onlyTile st t) _ _
    ⟨⟨_, _, _, rfl⟩, onlyTile_refl s t⟩ ?_
  rintro st ⟨⟨a, p, r, htile⟩, hothers, hrest⟩ w -
  dsimp only
  split
  · exact ⟨⟨a, p, r, htile⟩, hothers, hrest⟩
  · obtain ⟨hothers', hrest'⟩ := onlyTile_onT st t (fun y => y.takeAmx w (st.getF (pgTile t) (unitBase w.1 + 4 * w.2.1) 0 31 0))
    have htake := onT_tile st t (fun y => y.takeAmx w (st.getF (pgTile t) (unitBase w.1 + 4 * w.2.1) 0 31 0))
    rw [Tile.takeAmx_eq, htile] at htake
    exact ⟨⟨_, _, _, htake⟩, fun k hk => (hothers' k hk).trans (hothers k hk), hrest.trans hrest'⟩

/-- The last command of an engine, finished and with nothing left, leaves it; the task goes on. -/
theorem completeCmd_last {s : State} {t eng : Nat} {i : IssuedCmd} (hq : mapGet (s.tile t).dq eng [] = [i]) (hf : i.finished = true)
    (hl : s.storesLeft t i.ord = false) (hstop : (s.tile t).stopReq = false) (hhalt : (s.tile t).haltIssued = false) :
    mapGet ((s.completeCmd t eng).tile t).dq eng [] = [] ∧ ((s.completeCmd t eng).tile t).task = (s.tile t).task ∧ s.onlyTile (s.completeCmd t eng) t := by
  have hleave : s.completeCmd t eng = (((s.onT t (fun x => x.left eng i)).amxDone t).startFront t eng).settleTask t := by
    unfold State.completeCmd
    rw [nextDone_finished hq hf]
    simp only [hf, hl, Bool.not_true, Bool.false_eq_true, or_self, if_false]
    rfl
  obtain ⟨r, g, f, hleft⟩ := Tile.left_eq (s.tile t) eng i
  obtain ⟨⟨a, p, r', htile⟩, honly⟩ := amxDone_tile (s.onT t (fun x => x.left eng i)) t
  rw [onT_tile, hleft] at htile
  have hempty : mapGet (((s.onT t (fun x => x.left eng i)).amxDone t).tile t).dq eng [] = [] := by
    rw [htile, mapGet_mapSet_same, hq]
    simp
  rw [hleave, startFront_nil hempty, settleTask_eq_self (by rw [htile]; exact hstop) (by rw [htile]; exact hhalt)]
  obtain ⟨hothers, hrest⟩ := onlyTile_onT s t (fun x => x.left eng i)
  obtain ⟨hothers', hrest'⟩ := honly
  exact ⟨hempty, by rw [htile], fun k hk => (hothers' k hk).trans (hothers k hk), hrest.trans hrest'⟩

/-- Stores of no tile leave nothing more to store of a tile's command. -/
theorem Untiled.storesLeft {s u : State} {t ord : Nat} (h : Untiled s u) (ht : t < 4864) (houts : (u.tile t).outs = (s.tile t).outs)
    (hl : s.storesLeft t ord = false) : u.storesLeft t ord = false := by
  obtain ⟨-, hwaits⟩ := h
  obtain ⟨hout, hwait⟩ := Bool.or_eq_false_iff.1 hl
  refine Bool.or_eq_false_iff.2 ⟨by rw [houts]; exact hout, List.any_eq_false.2 fun w hw => ?_⟩
  rcases hwaits w hw with hw | hw
  · exact List.any_eq_false.1 hwait w hw
  · have hne : w.tile ≠ t := by omega
    simp [hne]

/-- A SNAP whose copy is written: its tile counts as completed in the step window, the engine's busy mark follows the other tiles, and the command is
finished. -/
def State.snapFinish (s : State) (p d t : Nat) (i : IssuedCmd) : State :=
  let s1 := s.onSnapWin p d (fun w => { w with completed := if w.completed.contains t then w.completed else w.completed ++ [t] })
  (s1.onSnapWin p d (fun w => { w with busy := w.issued.any (fun u => u != t && mapGet (s1.tile u).dq 9 [] != []) })).onT t
    (fun y => y.onCmd 9 i.ord (fun k => { k with started := true, finished := true }))

section
variable (s : State) (p d t : Nat) (i : IssuedCmd)

theorem snapFinish_sameBut : s.sameBut [.tiles, .pols] (s.snapFinish p d t i) := by
  unfold State.snapFinish
  exact Keeps.sameBut (State.onT_keeps rfl (State.onSnapWin_keeps rfl (State.onSnapWin_keeps rfl (Keeps.refl _ s))))

theorem snapFinish_tile :
    (s.snapFinish p d t i).tile t = (s.tile t).onCmd 9 i.ord (fun k => { k with started := true, finished := true }) ∧
      ∀ k, k ≠ t → (s.snapFinish p d t i).tile k = s.tile k :=
  ⟨onT_tile _ t _, fun _ hk => onT_tile_other _ t _ _ hk⟩

/-- The tile counts as completed in the step window. -/
theorem mem_snapFinish_completed : t ∈ (mapGet ((s.snapFinish p d t i).pol p).snaps d {}).completed := by
  unfold State.snapFinish
  dsimp only [State.onT, State.setTile_at_pol]
  rw [onSnapWin_snaps, onSnapWin_snaps]
  dsimp only
  split
  case isTrue h => exact List.contains_iff_mem.1 h
  case isFalse => exact List.mem_append_right _ (List.mem_singleton_self t)

end

end Sys2Proof.Machine
end

section
/-!
PROOFS. The statement on snapshot copies.
-/
namespace Sys2Proof.Machine

section
variable {s : State} {t p pt : Nat} {i : IssuedCmd} {im : Image} {es : List SnapSet}

/-- A copy with nothing in its way: bank grants, then stores of no tile, then the SNAP completes. -/
theorem effSnapCopy_passes (hp : s.ownerOr t = p) (hpt : s.ptileOf p t = pt) (hes : im.setOf pt (cf i.word.toNat 1 7 0) = es)
    (hq : mapGet (s.tile t).dq 9 [] = [i]) (him : (s.pol p).image = some im) (hups : s.upsets = [])
    (hopen : (mapGet (s.pol p).snaps (tDie t) {}).opened = true)
    (hroom : s.storable p 2 (s.snapSlot (tDie t) p (s.snapOpen (tDie t) p) + s.snapPlace p im (tDie t) pt) (512 * (1 + es.foldl (fun n e => n + e.len) 0))) :
    ∃ u v, Granted s u t ∧ Untiled u v ∧ v.tiles = u.tiles ∧ v.scr = u.scr ∧ effSnapCopy t s = (v.snapFinish p (tDie t) t i).completeCmd t 9 := by
  have hlt : p < 32768 := by
    obtain ⟨da, via, hx, -⟩ := hroom _ (Nat.le_refl _) (by omega)
    have := pol_lt_of_xlate_hbm hx
    omega
  unfold effSnapCopy
  simp only [hp, hpt, hes, hq, him]
  generalize hrd : List.foldl _ (some [], s) _ = rd
  obtain ⟨cs, u, rfl, hlen, hgrant⟩ : ∃ cs u, rd = (some cs, u) ∧
      cs.flatten.length = ([] : List (List Byte)).flatten.length + 512 * (setLoaves es).length ∧ Granted s u t := by
    rw [← hrd]
    refine foldl_reads (P := fun v => Granted s v t) (fun bs st l hst => ?_) _ [] s (.refl s t)
    obtain ⟨-, -, hrest, -⟩ := id hst
    have hups' : st.upsets = s.upsets := hrest .upsets (by decide)
    obtain ⟨b, hread, hb⟩ := scrRead_loaf (hups'.trans hups) t (l * 512)
    exact ⟨b, _, by simp only [hread], hb, hst.trans (.bankGrant st t (l * 512) (who := 12) (by omega))⟩
  have hwork := hgrant.storeWork
  have hfits : (regLoaf pt (cf i.word.toNat 1 7 0) (es.foldl (fun n e => n + e.len) 0) i ++ cs.flatten).length ≤
      512 * (1 + es.foldl (fun n e => n + e.len) 0) := by
    rw [List.length_append, regLoaf_length, hlen, setLoaves_length, List.flatten_nil, List.length_nil]
    omega
  obtain ⟨hnone, huntiled⟩ := polStore_storable (d := tDie t) (hwork.storable hroom) hfits
  simp only [hwork.pol_eq, hopen, if_true, hwork.snapSlot_eq _ hlt, hwork.snapPlace_eq]
  generalize hst : u.polStore (tDie t) p 2 _ _ = r at hnone huntiled
  obtain ⟨bad, v⟩ := r
  dsimp only at hnone huntiled
  subst hnone
  have hkeep : u.sameBut [.regs, .freeCtr, .recSeq, .hbm, .pols, .intakes, .hostOut, .trace, .slices, .zeroing, .waitSt, .poison, .inval] v :=
    Keeps.sameBut (Keeps.snd hst (State.polStore_keeps rfl (Keeps.refl _ u)))
  exact ⟨u, v, hgrant, huntiled, hkeep .tiles (by decide), hkeep .scr (by decide), rfl⟩

end

/-- Settles O33: the copy is written whole, its tile counts as completed, and the finished SNAP leaves. -/
theorem snapshotCopiesComplete : Obligations.SnapshotCopiesComplete := by
  intro s t i im ht hq him hups hopen hleft hstop hhalt hroom
  have hexec : exec (.snapCopyComplete t) s = .next (effSnapCopy t s) := onTile_eq_next ht fun _ => effSnapCopy t s
  obtain ⟨u, v, ⟨⟨ar, hgrantTile⟩, hgrantOthers, hgrantRest, -⟩, huntiled, htiles, hscr, heff⟩ :=
    effSnapCopy_passes rfl rfl rfl hq him hups hopen hroom
  have hvTile (k : Nat) : v.tile k = u.tile k := by rw [State.tile, htiles, State.tile]
  have hcompleted := mem_snapFinish_completed v (s.ownerOr t) (tDie t) t i
  have hfinRest := snapFinish_sameBut v (s.ownerOr t) (tDie t) t i
  obtain ⟨htile, hfinOthers⟩ := snapFinish_tile v (s.ownerOr t) (tDie t) t i
  generalize v.snapFinish (s.ownerOr t) (tDie t) t i = w at heff hcompleted hfinRest htile hfinOthers
  have hfinished : w.tile t = { s.tile t with arbs := ar, dq := mapSet (s.tile t).dq 9 [{ i with started := true, finished := true }] } := by
    rw [htile, hvTile, hgrantTile]
    simp only [Tile.onCmd, hq, List.map_cons, List.map_nil, if_true]
  have hdq : mapGet (w.tile t).dq 9 [] = [{ i with started := true, finished := true }] := by rw [hfinished, mapGet_mapSet_same]
  have hnone : w.storesLeft t i.ord = false := by
    have hwaits : u.waitSt = s.waitSt := hgrantRest .waitSt (by decide)
    have hwaits' : w.waitSt = v.waitSt := hfinRest .waitSt (by decide)
    have hstores : v.storesLeft t i.ord = false := huntiled.storesLeft ht (by rw [hvTile]) (by rw [State.storesLeft, hgrantTile, hwaits]; exact hleft)
    rwa [State.storesLeft, hfinished, hwaits', ← show (v.tile t).outs = (s.tile t).outs by rw [hvTile, hgrantTile]]
  obtain ⟨hempty, htask, hothers, hrest⟩ := completeCmd_last hdq rfl hnone (by rw [hfinished]; exact hstop) (by rw [hfinished]; exact hhalt)
  have hpols : (w.completeCmd t 9).pols = w.pols := hrest .pols (by decide)
  have hscrs : (w.completeCmd t 9).scr = s.scr :=
    calc (w.completeCmd t 9).scr = w.scr := hrest .scr (by decide)
      _ = v.scr := hfinRest .scr (by decide)
      _ = u.scr := hscr
      _ = s.scr := hgrantRest .scr (by decide)
  refine ⟨_, hexec.trans (congrArg _ heff), ?_, hempty, by rw [htask, hfinished], hscrs, fun k hk => ?_⟩
  · rw [State.pol, hpols]
    exact hcompleted
  · rw [hothers k hk, hfinOthers k hk, hvTile, hgrantOthers k hk]

end Sys2Proof.Machine
end

section
/-!
SUPPORT. Token grants and returns (R182, R183, R385), the admissions of a proof ramp, and its end (R389).
-/
namespace Sys2Proof.Machine

/-! Tokens. -/

/-- The matrix engine, or the vector unit where `vec`, holds the token of class `cls`. -/
def Tile.withToken (x : Tile) (vec : Bool) (cls : Nat) : Tile := if vec then { x with tokV := cls } else { x with tokM := cls }

section
variable (s : State) (t c : Nat) (vec : Bool)

/-- What the weir notes of a token of tile `t` on die `d`: the tile's peak, the die's current, and the count of grants (R385, R387, R395). -/
def State.tokenNotes (d : Nat) : State := ((s.ampNote t).noteTok d).countEv pgWeir 0x10 1

/-- The token of command `c`'s class stands at its engine, and the weir has noted it. -/
def State.tokenGranted : State := (s.onT t (·.withToken vec (actClass c))).tokenNotes t (tDie t)

/-- The notes are registers; a rounding that the spec leaves open is drawn. -/
theorem tokenNotes_sameBut (d : Nat) : s.sameBut [.regs, .freeCtr] (s.tokenNotes t d) :=
  Keeps.sameBut (State.countEv_keeps rfl (State.noteTok_keeps rfl (State.ampNote_keeps rfl (Keeps.refl _ s))))

theorem tokenNotes_tile (d k : Nat) : (s.tokenNotes t d).tile k = s.tile k := by
  have htiles : (s.tokenNotes t d).tiles = s.tiles := tokenNotes_sameBut s t d .tiles (by decide)
  rw [State.tile, htiles, State.tile]

theorem tokenGranted_tile : (s.tokenGranted t c vec).tile t = (s.tile t).withToken vec (actClass c) := by
  rw [State.tokenGranted, tokenNotes_tile, onT_tile]

theorem tokenGranted_tile_other {k : Nat} (hk : k ≠ t) : (s.tokenGranted t c vec).tile k = s.tile k := by
  rw [State.tokenGranted, tokenNotes_tile, onT_tile_other _ _ _ _ hk]

theorem tokenGranted_sameBut : s.sameBut [.tiles, .regs, .freeCtr] (s.tokenGranted t c vec) := by
  obtain ⟨-, hgrant⟩ := onlyTile_onT s t (·.withToken vec (actClass c))
  exact (hgrant.mono (by decide)).trans ((tokenNotes_sameBut _ t (tDie t)).mono (by decide))

end

/-- The command at the front of an admitted, running tile's queue gets the token it waits for, and starts. -/
theorem effToken_grants {s : State} {t : Nat} {vec : Bool} {i : IssuedCmd} {q : List IssuedCmd}
    (hq : mapGet (s.tile t).dq (if vec then 3 else 2) [] = i :: q) (hnew : i.started = false)
    (htok : (s.tile t).tokenOk (if vec then 3 else 2) i.word.toNat = false) (hadm : (s.tile t).admitAt = none) (hrun : (s.tile t).task = .running)
    (hbeat : (s.tile t).beatRef ≤ s.beat) :
    effToken t vec s = (s.tokenGranted t i.word.toNat vec).startFront t (if vec then 3 else 2) := by
  unfold effToken
  simp only [hq]
  exact if_neg (by simp [hnew, htok, hadm, hrun, hbeat])

theorem exec_tokenGrant (s : State) {t : Nat} (ht : t < 4864) (vec : Bool) : exec (.tokenGrant t vec []) s = .next (effToken t vec s) := by
  have h : exec (.tokenGrant t vec []) s = .next (effToken t vec (s.addUpsets t [])) := onTile_eq_next ht fun _ => effToken t vec (s.addUpsets t [])
  rw [h, addUpsets_nil]

theorem exec_tokenIdleReturn (s : State) {t : Nat} (ht : t < 4864) (vec : Bool) : exec (.tokenIdleReturn t vec) s = .next (effTokIdle t vec s) :=
  onTile_eq_next ht fun _ => effTokIdle t vec s

theorem Tile.idleEng_iff {x : Tile} {eng : Nat} : x.idleEng eng = true ↔ mapGet x.dq eng [] = [] := beq_iff_eq

/-- An idle engine's token goes back. -/
theorem effTokIdle_eq (s : State) (t : Nat) (vec : Bool) :
    effTokIdle t vec s = if (s.tile t).idleEng (if vec then 3 else 2) then s.onT t (·.withToken vec 0) else s := by
  cases vec <;> rfl

theorem effTokIdle_onlyTile (s : State) (t : Nat) (vec : Bool) : s.onlyTile (effTokIdle t vec s) t := by
  rw [effTokIdle_eq]
  exact iteInduction (motive := fun u => s.onlyTile u t) (fun _ => onlyTile_onT s t _) (fun _ => onlyTile_refl s t)

/-- The token of the named engine is 0 where that engine is idle; the other engine's stays. -/
theorem effTokIdle_tokens (s : State) (t : Nat) (vec : Bool) :
    ((effTokIdle t vec s).tile t).tokV = (if vec = true ∧ mapGet (s.tile t).dq 3 [] = [] then 0 else (s.tile t).tokV) ∧
      ((effTokIdle t vec s).tile t).tokM = (if vec = false ∧ mapGet (s.tile t).dq 2 [] = [] then 0 else (s.tile t).tokM) := by
  cases vec
  case false => by_cases hidle : mapGet (s.tile t).dq 2 [] = [] <;> simp [effTokIdle_eq, Tile.idleEng_iff, hidle, onT_tile, Tile.withToken]
  case true => by_cases hidle : mapGet (s.tile t).dq 3 [] = [] <;> simp [effTokIdle_eq, Tile.idleEng_iff, hidle, onT_tile, Tile.withToken]

/-! Proof ramps. -/

theorem onPol_eq_next {p : Nat} (h : p < 64) (f : Unit → State) : onPol p f = .next (f ()) := if_pos h

/-- The tile at place `k` of a ramp's timetable, which waits since beat `b`, is admitted from its cycle on. -/
theorem effAdmit_waiting {s : State} {p d k t adm b : Nat} (hk : (mapGet (s.pol p).ramp d [])[k]? = some (t, adm))
    (hb : (s.tile t).admitAt = some b) :
    effAdmit p d k s = if b + adm / 64 ≤ s.beat then s.onT t (fun x => { x with admitAt := none }) else s := by
  simp only [effAdmit, hk, hb]

theorem effAdmit_admits {s : State} {p d k t adm b : Nat} (hk : (mapGet (s.pol p).ramp d [])[k]? = some (t, adm))
    (hb : (s.tile t).admitAt = some b) :
    s.onlyTile (effAdmit p d k s) t ∧ ((effAdmit p d k s).tile t).admitAt = (if b + adm / 64 ≤ s.beat then none else some b) := by
  rw [effAdmit_waiting hk hb]
  split
  case isTrue => exact ⟨onlyTile_onT s t _, by rw [onT_tile]⟩
  case isFalse => exact ⟨onlyTile_refl s t, hb⟩

/-- A ramp that runs since beat `b` ends once none of its tiles waits and its last admission has passed. -/
theorem effRampEnd_ends {s : State} {p d b : Nat} (hrun : mapFind? (s.pol p).running d = some b)
    (hwait : ∀ e, e ∈ mapGet (s.pol p).ramp d [] → (s.tile e.1).admitAt ≠ some b)
    (hpast : b + (((mapGet (s.pol p).ramp d []).map (·.2)).foldl max 0 + 32) / 64 ≤ s.beat) :
    effRampEnd p d s = { s.setPol p { s.pol p with running := mapDrop (s.pol p).running (fun k => k == d) } with
      power := { s.power with lastRampEnd := some s.beat } } := by
  have hnone : (mapGet (s.pol p).ramp d []).any (fun e => (s.tile e.1).admitAt == some b) = false :=
    List.any_eq_false.2 fun e he => by simpa using hwait e he
  unfold effRampEnd
  simp only [hrun, hnone, Bool.false_eq_true, false_or]
  exact if_neg (Nat.not_lt.2 hpast)

end Sys2Proof.Machine
end

section
/-!
PROOFS. The statement on tokens and proof ramps.
-/
namespace Sys2Proof.Machine

/-- Settles O18: token grants and returns, the admissions of a proof ramp, and its end. -/
theorem tokensAndRamps : Obligations.TokensAndRamps := by
  refine ⟨fun s t vec ht => ⟨fun i q hq hnew htok hadm hrun hbeat => ?_, ?_⟩,
    fun s p d hp => ⟨fun k t adm b hk hb => ?_, fun b hrun hwait hpast => ?_⟩⟩
  · refine ⟨s.tokenGranted t i.word.toNat vec, tokenGranted_tile s t _ vec, fun k hk => tokenGranted_tile_other s t _ vec hk,
      tokenGranted_sameBut s t _ vec, ?_⟩
    rw [exec_tokenGrant s ht, effToken_grants hq hnew htok hadm hrun hbeat]
  · exact ⟨_, exec_tokenIdleReturn s ht vec, effTokIdle_onlyTile s t vec, effTokIdle_tokens s t vec⟩
  · exact ⟨_, onPol_eq_next hp fun _ => effAdmit p d k s, effAdmit_admits hk hb⟩
  · refine ⟨_, onPol_eq_next hp fun _ => effRampEnd p d s, ?_, ?_, Keeps.sameBut (effRampEnd_keeps rfl (Keeps.refl _ s))⟩
    · have hpol : (effRampEnd p d s).pol p = { s.pol p with running := mapDrop (s.pol p).running (fun k => k == d) } := by
        rw [effRampEnd_ends hrun hwait hpast]
        exact State.pol_setPol_same s p _
      rw [hpol]
      exact mapFind?_mapDrop_same _ d
    · rw [effRampEnd_ends hrun hwait hpast]

end Sys2Proof.Machine
end

section
/-!
SUPPORT. Where a polder's tiles stand, and whether it is sealed (R18, R357, R372): the bindings in force, the retired columns, and the seals. Counting,
recording and line work leave them.
-/
namespace Sys2Proof.Machine

/-- The bindings in force are the same, and outside the DEV and TRACE pages so are the registers at the offsets of a die's retired columns (0x400) and of
the polders' seals (0x114). -/
def SameLayout (s u : State) : Prop :=
  u.act = s.act ∧ ∀ pg off sel, off = 0x114 ∨ off = 0x400 → pg ≠ pgDev → (∀ d, pg ≠ pgTrace d) → sel < 32768 →
    u.reg pg off sel = s.reg pg off sel

theorem pgDie_ne (d e : Nat) : pgDie d ≠ pgDev ∧ pgDie d ≠ pgTrace e := by
  unfold pgDev pgTrace pgDie
  omega

theorem pgPld_ne (e : Nat) : pgPld ≠ pgDev ∧ pgPld ≠ pgTrace e := by
  unfold pgPld pgDev pgTrace pgDie
  omega

section
variable {s u v : State}

theorem SameLayout.trans (h : SameLayout s u) (g : SameLayout u v) : SameLayout s v :=
  ⟨g.1.trans h.1, fun pg off sel ho hd ht hs => (g.2 pg off sel ho hd ht hs).trans (h.2 pg off sel ho hd ht hs)⟩

theorem SameLayout.of_eq (hact : u.act = s.act) (hregs : u.regs = s.regs) : SameLayout s u :=
  ⟨hact, fun _ _ _ _ _ _ _ => by rw [State.reg, hregs, State.reg]⟩

theorem SameLayout.refl (s : State) : SameLayout s s := .of_eq rfl rfl

theorem SameLayout.of_counters (hact : u.act = s.act) (hc : CountersOnly s u) : SameLayout s u :=
  ⟨hact, fun pg off sel ho _ _ hs => hc pg off sel (by rcases ho with rfl | rfl <;> simp [counterOff]) (by omega) hs⟩

theorem SameLayout.setReg (s : State) (pg : Nat) {off sel : Nat} (v : Word) (ho : off ≠ 0x114 ∧ off ≠ 0x400) (h4 : off < 4096) (hs : sel < 32768) :
    SameLayout s (s.setReg pg off sel v) :=
  ⟨rfl, fun _ _ _ _ _ _ _ => reg_setReg_offset s _ _ _ _ _ _ _ (by omega) h4 hs (by omega) (by omega)⟩

theorem SameLayout.setF (s : State) (pg : Nat) {off sel : Nat} (hi lo x : Nat) (ho : off ≠ 0x114 ∧ off ≠ 0x400) (h4 : off < 4096) (hs : sel < 32768) :
    SameLayout s (s.setF pg off sel hi lo x) := .setReg s pg _ ho h4 hs

theorem SameLayout.bump (s : State) (pg : Nat) {off sel : Nat} (n : Nat) (ho : off ≠ 0x114 ∧ off ≠ 0x400) (h4 : off < 4096) (hs : sel < 32768) :
    SameLayout s (s.bump pg off sel n) := .setReg s pg _ ho h4 hs

theorem SameLayout.foldl {α : Type} {f : State → α → State} (hf : ∀ st a, SameLayout st (f st a)) (l : List α) (s : State) :
    SameLayout s (l.foldl f s) :=
  List.foldlRecOn (motive := fun st => SameLayout s st) l f (.refl s) fun st h a _ => h.trans (hf st a)

section
variable (h : SameLayout s u)
include h

theorem SameLayout.bound_eq : u.bound = s.bound := by
  funext tb p
  rw [State.bound, h.1, State.bound]

theorem SameLayout.physTile_eq : u.physTile = s.physTile := by
  have hretired : u.retired = s.retired := funext fun d =>
    getF_of_reg_eq (h.2 _ _ _ (.inr rfl) (pgDie_ne d 0).1 (fun e => (pgDie_ne d e).2) (by omega)) 37 0
  funext d y x
  simp only [State.physTile, State.physCol, State.liveCols, hretired]

theorem SameLayout.tileOf_eq : u.tileOf = s.tileOf := by
  funext p pt
  rw [State.tileOf, State.ofRank, h.bound_eq, h.physTile_eq, State.tileOf, State.ofRank]

theorem SameLayout.tilesOf_eq : u.tilesOf = s.tilesOf := by
  funext p
  rw [State.tilesOf, h.bound_eq, h.physTile_eq, State.tilesOf]

theorem SameLayout.sealed_eq {p : Nat} (hp : p < 64) : u.sealed p = s.sealed p := by
  rw [State.sealed, getF_of_reg_eq (h.2 _ _ _ (.inl rfl) (pgPld_ne 0).1 (fun e => (pgPld_ne e).2) (by omega)), State.sealed]

end

end

/-! Counters, codes and records (R398, R437, R438, R446). -/

/-- An operation that may change every part but the active values keeps those. -/
theorem Keeps.act_eq {s u : State} (h : Keeps (maskOf (Field.all.erase .act)) s u) : u.act = s.act := h.1 .act (by decide)

theorem SameLayout.countEv (s : State) (pg ev n : Nat) : SameLayout s (s.countEv pg ev n) :=
  .of_counters (Keeps.act_eq (State.countEv_keeps rfl (Keeps.refl _ s))) (.countEv s pg ev n)

/-- An event with its own counter and among the common ones. -/
theorem SameLayout.count (s : State) (pg : Nat) {off : Nat} (n ev m : Nat) (ho : off ≠ 0x114 ∧ off ≠ 0x400) (h4 : off < 4096) :
    SameLayout s ((s.bump pg off 0 n).countEv pg ev m) := (SameLayout.bump s pg n ho h4 (by omega)).trans (.countEv _ pg ev m)

theorem SameLayout.err (s : State) (pg code : Nat) : SameLayout s (s.err pg code) :=
  ⟨Keeps.act_eq (State.err_keeps rfl (Keeps.refl _ s)), fun _ _ _ _ _ _ hs => err_reg s pg code _ _ _ (by omega) (by omega) (by omega) hs⟩

theorem SameLayout.post (s : State) (p : Option Nat) (r : Record) : SameLayout s (s.post p r) :=
  ⟨Keeps.act_eq (State.post_keeps rfl (Keeps.refl _ s)), fun _ _ _ _ _ _ hs => post_reg s p r _ _ _ (by omega) (by omega) hs⟩

theorem SameLayout.fault (s : State) (f : FaultInfo) : SameLayout s (s.fault f) :=
  ⟨Keeps.act_eq (State.fault_keeps rfl (Keeps.refl _ s)), fun pg off sel ho hd ht hs =>
    (fault_reg s f pg off sel hd (ht _) (by omega) (by omega) hs).trans ((SameLayout.err s f.page f.code).2 pg off sel ho hd ht hs)⟩

theorem SameLayout.poisonRefuse (s : State) (sl p kind da : Nat) : SameLayout s (s.poisonRefuse sl p kind da) := by
  unfold State.poisonRefuse
  exact .fault s _

theorem SameLayout.dikeRefuse (s : State) (sl ee p kind da : Nat) : SameLayout s (s.dikeRefuse sl ee p kind da) :=
  (SameLayout.fault s _).trans (.countEv _ _ _ _)

end Sys2Proof.Machine
end

section
/-!
SUPPORT. The loader's reads and writes of HBM (R251, R252, R263): they leave the layout.
-/
namespace Sys2Proof.Machine

theorem kindWho_lt (kind : Nat) : kindWho kind < 32 := by
  unfold kindWho
  split <;> omega

theorem SameLayout.portGrant (s : State) (d sl ln : Nat) {who : Nat} (hw : who < 32) : SameLayout s (s.portGrant sl (s.portWho d sl who) ln) :=
  .of_counters rfl (LineWork.portGrant s sl ln (portWho_lt s d sl hw (by omega))).2

theorem SameLayout.fill (s : State) (sl ln : Nat) (x : LineSt) : SameLayout s (s.fill sl ln x) :=
  .of_counters (Keeps.act_eq (State.fill_keeps rfl (Keeps.refl _ s))) (LineWork.fill s sl ln x).2

theorem SameLayout.touch (s : State) (sl ln : Nat) (count : Bool) : SameLayout s (s.touch sl ln count) :=
  .of_counters (Keeps.act_eq (State.touch_keeps rfl (Keeps.refl _ s))) (LineWork.touch s sl ln count).2

theorem SameLayout.storeIn (s : State) (w : WaitStore) : SameLayout s (s.storeIn w) :=
  .of_counters (Keeps.act_eq (State.storeIn_keeps rfl (Keeps.refl _ s))) (SliceWork.storeIn s w).2

theorem SameLayout.dropNear (s : State) (d ln : Nat) : SameLayout s (s.dropNear d ln) :=
  .of_counters (Keeps.act_eq (State.dropNear_keeps rfl (Keeps.refl _ s))) (SliceWork.dropNear s d ln).2

theorem SameLayout.drainLine (s : State) (sl ln : Nat) : SameLayout s (s.drainLine sl ln) := by
  refine .of_counters (Keeps.act_eq (State.drainLine_keeps rfl (Keeps.refl _ s))) ?_
  cases h : (s.slice sl).wcb.find? (fun e => e.line == ln) with
  | none => rw [drainLine_none h]; exact .refl s
  | some e => rw [drainLine_some h]; exact (LineWork.drain (s.takeEntry sl ln) sl e).2

/-- A load of a line that is not in the buffer: refused where it is poisoned, else the line is touched. -/
theorem SameLayout.lineRead (s : State) (sl ln p kind da : Nat) (bs : List Byte) :
    SameLayout s (if s.poison.contains ln then (Except.error (0x1520 : Nat), s.poisonRefuse sl p kind da) else (Except.ok bs, s.touch sl ln true)).2 := by
  split
  · exact .poisonRefuse s sl p kind da
  · exact .touch s sl ln true

theorem SameLayout.homeLoad (s : State) (p kind da n : Nat) : SameLayout s (s.homeLoad p kind da n).2 := by
  unfold State.homeLoad
  dsimp only
  split
  · split
    · exact .count s _ _ _ _ (by omega) (by omega)
    · split
      · exact ((SameLayout.drainLine s _ _).trans (.count _ _ _ _ _ (by omega) (by omega))).trans (.lineRead _ _ _ _ _ _ _)
      · exact .lineRead s _ _ _ _ _ _
  · exact .lineRead s _ _ _ _ _ _

theorem SameLayout.lineLoad (s : State) (d p kind da n : Nat) {who : Nat} (hw : who < 32) : SameLayout s (s.lineLoad d p kind who da n).2 := by
  unfold State.lineLoad
  dsimp only
  have hgrant : SameLayout s (if homeSlice da / 16 < 4 then s.portGrant (homeSlice da) (s.portWho d (homeSlice da) who) (da / 128) else s) := by
    split
    · exact .portGrant s d _ _ hw
    · exact .refl s
  generalize (if homeSlice da / 16 < 4 then s.portGrant (homeSlice da) (s.portWho d (homeSlice da) who) (da / 128) else s) = g at hgrant ⊢
  refine hgrant.trans ?_
  split
  · exact .dikeRefuse g _ _ _ _ _
  · split
    · exact .err g _ _
    · split
      · exact .homeLoad g _ _ _ _
      · split
        · exact .poisonRefuse g _ _ _ _
        · split
          · exact .count g _ _ _ _ (by omega) (by omega)
          · have hload := SameLayout.homeLoad g p kind (da / 128 * 128) 128
            split
            case h_1 bs s1 he =>
              rw [he] at hload
              exact (hload.trans (.count s1 _ _ _ _ (by omega) (by omega))).trans (.fill _ _ _ _)
            case h_2 c s1 he =>
              rwa [he] at hload

theorem SameLayout.polLoad (s : State) (d p kind pa n : Nat) : SameLayout s (s.polLoad d p kind pa n).2 := by
  unfold State.polLoad
  refine List.foldlRecOn (motive := fun acc : Except (Nat × Nat) (List Byte) × State => SameLayout s acc.2) _ _ (.refl s) ?_
  rintro ⟨_ | bs, st⟩ hst q -
  · exact hst
  · dsimp only at hst ⊢
    split
    case h_1 da via _ =>
      split
      · exact hst.trans (.dikeRefuse st _ _ _ _ _)
      · have hline := SameLayout.lineLoad st d p kind da q.2 (kindWho_lt kind)
        split
        case h_1 b st1 he =>
          rw [he] at hline
          exact hst.trans hline
        case h_2 c st1 he =>
          rw [he] at hline
          exact hst.trans hline
    case h_2 => exact hst
    case h_3 => exact hst

theorem SameLayout.polStore (s : State) (d p kind pa : Nat) (bs : List Byte) : SameLayout s (s.polStore d p kind pa bs).2 := by
  unfold State.polStore
  refine List.foldlRecOn (motive := fun acc : Option (Nat × Nat) × State => SameLayout s acc.2) _ _ (.refl s) ?_
  rintro ⟨_ | e, st⟩ hst q -
  · dsimp only at hst ⊢
    refine hst.trans ?_
    split
    case h_1 da via _ =>
      split
      · exact .dikeRefuse st _ _ _ _ _
      · split
        · exact .err st _ _
        · have hgrant := SameLayout.portGrant st d (homeSlice da) (da / 128) (kindWho_lt kind)
          refine SameLayout.trans ?_ (.storeIn _ _)
          split
          · exact hgrant
          · exact hgrant.trans (.dropNear _ d _)
    case h_2 =>
      split
      · exact .refl st
      · split
        · exact .of_eq rfl rfl
        · exact .refl st
    case h_3 => exact .refl st
  · exact hst

theorem SameLayout.loaderWrite (s : State) (p pa : Nat) (bs : List Byte) : SameLayout s (s.loaderWrite p pa bs) := by
  unfold State.loaderWrite
  refine .foldl (fun st q => ?_) _ s
  split
  · exact .storeIn st _
  · exact .refl st

end Sys2Proof.Machine
end

section
/-!
SUPPORT. Clearing a polder's tiles (R112), and how a load's report leaves the polders (R210, R402).
-/
namespace Sys2Proof.Machine

/-! Clears. -/

section
variable (s : State) (t : Nat)

theorem cutSq_tile_other (gone : Nat → Bool) {k : Nat} (hk : k ≠ t) : (s.cutSq t gone).tile k = s.tile k := by
  unfold State.cutSq
  dsimp only
  split
  · rfl
  · exact State.tile_setTile_other _ _ _ _ hk.symm

theorem SameLayout.onT (f : Tile → Tile) : SameLayout s (s.onT t f) := .of_eq rfl rfl

theorem SameLayout.breakLocks : SameLayout s (s.breakLocks t) := .of_eq rfl rfl

theorem SameLayout.cutSq (gone : Nat → Bool) : SameLayout s (s.cutSq t gone) := by
  unfold State.cutSq
  dsimp only
  split
  · exact .refl s
  · exact .of_eq rfl rfl

theorem SameLayout.dropHeld (f : Nat → Nat → Bool) : SameLayout s (s.dropHeld t f) := by
  unfold State.dropHeld
  dsimp only
  refine SameLayout.trans ?_ (.foldl (fun st e => ?_) _ _)
  · exact .of_eq rfl rfl
  · split
    · exact .refl st
    · exact (SameLayout.of_eq rfl rfl).trans (.countEv (st.setSlice e.1 _) _ _ _)

theorem dropHeld_tile (f : Nat → Nat → Bool) (k : Nat) : (s.dropHeld t f).tile k = s.tile k := by
  have htiles : (s.dropHeld t f).tiles = s.tiles :=
    Keeps.sameBut (fs := [.regs, .slices, .bridge]) (State.dropHeld_keeps rfl (Keeps.refl _ s)) .tiles (by decide)
  rw [State.tile, htiles, State.tile]

theorem SameLayout.startClear : SameLayout s (s.startClear t) := by
  unfold State.startClear
  dsimp only
  split
  · exact .refl s
  · exact .trans (.trans (.trans (.trans (.cutSq s t _) (.onT _ t _)) (.dropHeld _ t _)) (.breakLocks _ t)) (.setF _ _ _ _ _ (by omega) (by omega) (by omega))

theorem startClear_task (k : Nat) : ((s.startClear t).tile k).task = if k = t then .clearing else (s.tile k).task := by
  unfold State.startClear
  dsimp only
  split
  case isTrue hc =>
    split
    case isTrue hk => rw [hk, hc]
    case isFalse => rfl
  case isFalse =>
    refine (congrArg Tile.task (dropHeld_tile _ t _ k)).trans ?_
    split
    case isTrue hk => rw [hk, State.onT, State.tile_setTile_same]
    case isFalse hk => rw [State.onT, State.tile_setTile_other _ _ _ _ (Ne.symm hk), cutSq_tile_other s t _ hk]

theorem startClear_clears : (s.startClear t).clears t := by rw [State.clears, startClear_task, if_pos rfl]

variable {s}

theorem startClear_keeps_clears {k : Nat} (h : s.clears k) : (s.startClear t).clears k := by
  rw [State.clears, startClear_task]
  split
  · rfl
  · exact h

end

/-- What each step of a fold achieves for its own element, and no step takes away, holds of every element at the end. -/
theorem foldl_achieves {α : Type} {f : State → α → State} {P : State → Prop} {Q : α → State → Prop} (hP : ∀ st a, P st → P (f st a))
    (hself : ∀ st a, P st → Q a (f st a)) (hkeep : ∀ st a b, P st → Q b st → Q b (f st a)) (l : List α) :
    ∀ s, P s → P (l.foldl f s) ∧ (∀ b, b ∈ l ∨ Q b s → Q b (l.foldl f s)) := by
  induction l with
  | nil => exact fun s hs => ⟨hs, fun b hb => hb.resolve_left List.not_mem_nil⟩
  | cons a l ih =>
    intro s hs
    obtain ⟨hend, hall⟩ := ih (f s a) (hP s a hs)
    refine ⟨hend, fun b hb => hall b ?_⟩
    rcases hb with hb | hb
    · rcases List.mem_cons.1 hb with rfl | hb
      · exact .inr (hself s b hs)
      · exact .inl hb
    · exact .inr (hkeep s a b hs hb)

/-- Clearing tiles one by one clears them all, and changes neither the layout nor a polder. -/
theorem foldl_startClear_spec (l : List Nat) (s : State) : SameLayout s (l.foldl (fun st t => st.startClear t) s) ∧
    (l.foldl (fun st t => st.startClear t) s).pols = s.pols ∧ ∀ t, t ∈ l → (l.foldl (fun st t => st.startClear t) s).clears t := by
  refine ⟨.foldl (fun st t => .startClear st t) l s, ?_, fun t ht => ?_⟩
  · exact Keeps.sameBut (fs := [.regs, .freeCtr, .tiles, .slices, .bridge])
      (Keeps.foldl (w := maskOf [.regs, .freeCtr, .tiles, .slices, .bridge]) (fun _ _ => State.startClear_keeps rfl) l s (Keeps.refl _ s))
      .pols (by decide)
  · exact (foldl_achieves (P := fun _ => True) (Q := fun t st => st.clears t) (fun _ _ _ => trivial) (fun st t _ => startClear_clears st t)
      (fun _ t _ _ h => startClear_keeps_clears t h) l s trivial).2 t (.inl ht)

/-! Reports. -/

/-- Of the polders, only heartbeats may differ. -/
def HeartbeatsOnly (s u : State) : Prop := ∀ p, ∃ n, u.pol p = { s.pol p with heartbeat := n }

section
variable {s u v : State}

theorem HeartbeatsOnly.trans (h : HeartbeatsOnly s u) (g : HeartbeatsOnly u v) : HeartbeatsOnly s v := fun p => by
  obtain ⟨m, hm⟩ := h p
  obtain ⟨n, hn⟩ := g p
  exact ⟨n, by rw [hn, hm]⟩

theorem HeartbeatsOnly.of_pols (h : u.pols = s.pols) : HeartbeatsOnly s u := fun p => ⟨(s.pol p).heartbeat, by rw [State.pol, h]; rfl⟩

theorem HeartbeatsOnly.image_eq (h : HeartbeatsOnly s u) (p : Nat) : (u.pol p).image = (s.pol p).image := by
  obtain ⟨n, hn⟩ := h p
  rw [hn]

theorem HeartbeatsOnly.loading_eq (h : HeartbeatsOnly s u) (p : Nat) : (u.pol p).loading = (s.pol p).loading := by
  obtain ⟨n, hn⟩ := h p
  rw [hn]

theorem HeartbeatsOnly.beatHeart (s : State) (q : Nat) : HeartbeatsOnly s (s.beatHeart q) := fun p => by
  by_cases hp : q = p
  · exact ⟨_, by rw [← hp, State.beatHeart, State.pol_setPol_same]⟩
  · exact ⟨(s.pol p).heartbeat, State.pol_setPol_other _ _ _ _ hp⟩

theorem HeartbeatsOnly.postTo (s : State) (q : Nat) (r : Record) : HeartbeatsOnly s (s.postTo q r) := by
  unfold State.postTo
  dsimp only
  split
  · exact (HeartbeatsOnly.of_pols rfl).trans (.beatHeart _ q)
  · split <;> exact .of_pols rfl

theorem HeartbeatsOnly.post (s : State) (q : Option Nat) (r : Record) : HeartbeatsOnly s (s.post q r) := by
  have hpf : HeartbeatsOnly s (({ s with recSeq := s.recSeq + 1 } : State).postTo 0 r) := (HeartbeatsOnly.of_pols rfl).trans (.postTo _ 0 r)
  unfold State.post
  cases q with
  | none => exact hpf
  | some n =>
    dsimp only
    split
    · exact hpf
    · exact hpf.trans (.postTo _ n r)

end

/-- The completion record of a load posted, and the load counted (R210, R211). -/
def State.loadRecorded (s : State) (p lead tag : Nat) (e : LoadEnd) : State :=
  ((s.post (some p) { recType := 2, length := 64, body := e.bytes p tag s.beat }).setReg (pgDie lead) 0x304 0
    (BitVec.ofNat 64 (e.result + p * 2 ^ 16))).bump (pgDie lead) (if e.result = 0 then 0x308 else 0x310) 0 1

section
variable (s : State) (p : Nat)

theorem SameLayout.reqEnd : SameLayout s (s.reqEnd p) := by
  unfold State.reqEnd
  dsimp only
  have hend : SameLayout s ((s.setIntake p { s.intake p with entry := none, result := none }).setF (pgIntake p) 0x104 0 15 8 0) :=
    (SameLayout.of_eq rfl rfl).trans (.setF (s.setIntake p _) _ _ _ _ (by omega) (by omega) (by omega))
  split
  · exact hend.trans (.setF _ _ _ _ _ (by omega) (by omega) (by omega))
  · split
    · exact hend
    · exact hend.trans (.setF _ _ _ _ _ (by omega) (by omega) (by omega))

theorem SameLayout.reqWrite (result : Nat) : SameLayout s (s.reqWrite p result) := by
  unfold State.reqWrite
  dsimp only
  refine SameLayout.trans (SameLayout.trans ?_ (.setF _ _ _ _ _ (by omega) (by omega) (by omega))) (.reqEnd _ p)
  split <;> exact .of_eq rfl rfl

theorem SameLayout.reqDone (result : Nat) : SameLayout s (s.reqDone p result) := by
  unfold State.reqDone
  dsimp only
  split
  · exact .refl s
  · split
    · exact .reqEnd s p
    · split
      · exact .of_eq rfl rfl
      · exact .reqWrite s p result

variable (lead tag : Nat) (e : LoadEnd)

theorem reportLoad_eq : s.reportLoad p lead tag e =
    if (s.loadRecorded p lead tag e).getF (pgIntake p) 0x104 0 15 8 = 1 then (s.loadRecorded p lead tag e).reqDone p e.result
    else s.loadRecorded p lead tag e := rfl

theorem SameLayout.loadRecorded : SameLayout s (s.loadRecorded p lead tag e) :=
  .trans (.trans (.post s _ _) (.setReg _ _ _ (by omega) (by omega) (by omega)))
    (.bump _ _ _ (by split <;> omega) (by split <;> omega) (by omega))

theorem SameLayout.reportLoad : SameLayout s (s.reportLoad p lead tag e) := by
  rw [reportLoad_eq]
  split
  · exact (SameLayout.loadRecorded s p lead tag e).trans (.reqDone _ p _)
  · exact .loadRecorded s p lead tag e

theorem HeartbeatsOnly.reportLoad : HeartbeatsOnly s (s.reportLoad p lead tag e) := by
  have hrecord : HeartbeatsOnly s (s.loadRecorded p lead tag e) := (HeartbeatsOnly.post s _ _).trans (.of_pols rfl)
  rw [reportLoad_eq]
  split
  · exact hrecord.trans (.of_pols (Keeps.sameBut (fs := [.regs, .intakes, .hostOut]) (State.reqDone_keeps rfl (Keeps.refl _ _)) .pols (by decide)))
  · exact hrecord

theorem reportLoad_sameBut : s.sameBut [.regs, .recSeq, .pols, .intakes, .hostOut] (s.reportLoad p lead tag e) :=
  Keeps.sameBut (State.reportLoad_keeps rfl (Keeps.refl _ s))

end

end Sys2Proof.Machine
end

section
/-!
SUPPORT. How a load ends (R201, R210, R212): its record, its rejection, and the installing of an image.
-/
namespace Sys2Proof.Machine

section
variable {s : State} {p : Nat}

theorem sealPol_sealed (s : State) (p : Nat) (on : Bool) : (s.sealPol p on).sealed p = on := by
  rw [State.sealed, State.sealPol, getF_setF_same _ _ _ _ _ _ _ (by omega) (by omega)]
  cases on <;> rfl

theorem sealPol_pol (s : State) (p : Nat) (on : Bool) : (s.sealPol p on).pol = s.pol := rfl

theorem sealPol_tile (s : State) (p : Nat) (on : Bool) : (s.sealPol p on).tile = s.tile := rfl

theorem nextLoads_none (h : s.loadWait = []) : s.nextLoads = s := by rw [State.nextLoads, h, State.startLoads]

section
variable (h : s.loadWait = []) (r : LoadReq) (e : LoadEnd)
include h

/-- With no load waiting, a load's end is its report. -/
theorem endLoad_eq : s.endLoad p r e = (s.setPol p { s.pol p with loading := none }).reportLoad p r.lead r.tag e :=
  nextLoads_none ((reportLoad_sameBut (s.setPol p { s.pol p with loading := none }) p r.lead r.tag e .loadWait (by decide)).trans h)

theorem endLoad_layout : SameLayout s (s.endLoad p r e) := by
  rw [endLoad_eq h]
  exact (SameLayout.of_eq rfl rfl).trans (.reportLoad (s.setPol p _) p _ _ _)

theorem endLoad_tile : (s.endLoad p r e).tile = s.tile := by
  have htiles : (s.endLoad p r e).tiles = s.tiles := by
    rw [endLoad_eq h]
    exact reportLoad_sameBut (s.setPol p _) p _ _ _ .tiles (by decide)
  funext t
  rw [State.tile, htiles, State.tile]

theorem endLoad_loading : ((s.endLoad p r e).pol p).loading = none := by
  rw [endLoad_eq h, (HeartbeatsOnly.reportLoad _ p _ _ _).loading_eq, State.pol_setPol_same]

theorem endLoad_image : ((s.endLoad p r e).pol p).image = (s.pol p).image := by
  rw [endLoad_eq h, (HeartbeatsOnly.reportLoad _ p _ _ _).image_eq, State.pol_setPol_same]

end

/-- The polder of a load that is undone: nothing protected or installed, and sealed, before its tiles clear. -/
def State.loadClosed (s : State) (p : Nat) : State := (s.setPol p { s.pol p with prot := none, image := none }).sealPol p true

/-- A tile that is not IDLE clears. -/
def State.clearBusy (s : State) (t : Nat) : State := if (s.tile t).task = .idle then s else s.startClear t

theorem SameLayout.clearBusy (s : State) (t : Nat) : SameLayout s (s.clearBusy t) := by
  unfold State.clearBusy
  split
  · exact .refl s
  · exact .startClear s t

theorem clearBusy_keeps {w : Nat} {s0 s : State} {t : Nat} (hw : Within (maskOf [.regs, .freeCtr, .tiles, .slices, .bridge]) w) (h : Keeps w s0 s) :
    Keeps w s0 (s.clearBusy t) := by
  unfold State.clearBusy
  split
  · exact h
  · exact State.startClear_keeps hw h

theorem undoLoad_eq (s : State) (p : Nat) : s.undoLoad p = ((s.loadClosed p).tilesOf p).foldl State.clearBusy (s.loadClosed p) := rfl

/-- A load that is undone leaves its polder sealed and without an image. -/
theorem undoLoad_spec (hp : p < 64) : (s.undoLoad p).sealed p = true ∧ ((s.undoLoad p).pol p).image = none ∧ (s.undoLoad p).loadWait = s.loadWait := by
  have hframe : (s.loadClosed p).sameBut [.regs, .freeCtr, .tiles, .slices, .bridge] (s.undoLoad p) := by
    rw [undoLoad_eq]
    exact Keeps.sameBut (Keeps.foldl (fun _ _ => clearBusy_keeps (w := maskOf [.regs, .freeCtr, .tiles, .slices, .bridge]) rfl) _ _ (Keeps.refl _ _))
  have hpols : (s.undoLoad p).pols = (s.loadClosed p).pols := hframe .pols (by decide)
  refine ⟨?_, ?_, hframe .loadWait (by decide)⟩
  · rw [undoLoad_eq, (SameLayout.foldl SameLayout.clearBusy _ _).sealed_eq hp, State.loadClosed, sealPol_sealed]
  · rw [State.pol, hpols]
    exact congrArg Polder.image (State.pol_setPol_same s p _)

/-- A rejected load has ended with nothing installed. -/
theorem rejectLoad_spec (hp : p < 64) (h : s.loadWait = []) (r : LoadReq) (task digest us : Nat) (e : Rej) :
    ((s.rejectLoad p r task digest us e).pol p).loading = none ∧ ((s.rejectLoad p r task digest us e).pol p).image = none ∧
      (s.rejectLoad p r task digest us e).sealed p = true := by
  obtain ⟨hseal, himage, hwait⟩ := undoLoad_spec (s := s) hp
  have hnone := hwait.trans h
  exact ⟨endLoad_loading hnone r _, (endLoad_image hnone r _).trans himage, ((endLoad_layout hnone r _).sealed_eq hp).trans hseal⟩

end

/-! Installing. -/

section
variable (s : State) (p : Nat)

theorem SameLayout.initWrite (pa : Nat) (bs : List Byte) : SameLayout s (s.initWrite p pa bs) := by
  unfold State.initWrite
  split
  · exact .polStore s _ _ _ _ _
  · exact .loaderWrite s p pa bs

theorem SameLayout.initSegs (m : Img) : SameLayout s (s.initSegs p m) := by
  unfold State.initSegs
  refine .foldl (fun st i => .foldl (fun u k => ?_) _ st) _ s
  dsimp only
  split
  · exact .refl u
  · split
    · exact .initWrite u p _ _
    · split
      · exact .initWrite u p _ _
      · exact .refl u

variable (addr : Nat) (m : Img) (v : VTile)

/-- The segment registers of tile `t` that a load writes. -/
def State.loadSegRegs (t : Nat) : State := (List.range 4).foldl (fun st k =>
  (st.setReg (pgTile t) (0x180 + 0x10 * k) 0 (BitVec.ofNat 64 (v.tile.seg k).base)).setReg (pgTile t) (0x188 + 0x10 * k) 0 (v.tile.seg k).boundReg) s

/-- The registers of tile `t` that a load writes (R201 phase 6). -/
def State.loadTileRegs (t : Nat) : State :=
  let pg := pgTile t
  let s1 := ((s.setReg pg 0x108 0 (BitVec.ofNat 64 (ctxId p (m.u 0xE 2)))).setReg pg 0x110 0 (BitVec.ofNat 64 (addr + v.dir.cmdOff))).setReg pg 0x118 0
    (BitVec.ofNat 64 v.dir.cmdLen)
  ((s1.loadSegRegs v t).setReg pg 0xE40 0 (BitVec.ofNat 64 (m.u 0x12 1))).setF pg 0x14 0 11 0 (ceilDiv v.rampWeight 20)

theorem SameLayout.loadSegRegs (t : Nat) : SameLayout s (s.loadSegRegs v t) := by
  refine List.foldlRecOn (motive := SameLayout s) _ _ (.refl s) fun u hu k hk => ?_
  have hk : k < 4 := List.mem_range.1 hk
  exact (hu.trans (.setReg u _ _ (by omega) (by omega) (by omega))).trans (.setReg _ _ _ (by omega) (by omega) (by omega))

theorem SameLayout.loadTileRegs (t : Nat) : SameLayout s (s.loadTileRegs p addr m v t) := by
  unfold State.loadTileRegs
  refine .trans (.trans (.trans ?_ (.loadSegRegs _ v t)) (.setReg _ _ _ (by omega) (by omega) (by omega)))
    (.setF _ _ _ _ _ (by omega) (by omega) (by omega))
  exact .trans (.trans (.setReg _ _ _ (by omega) (by omega) (by omega)) (.setReg _ _ _ (by omega) (by omega) (by omega)))
    (.setReg _ _ _ (by omega) (by omega) (by omega))

theorem loadTileRegs_tile (t : Nat) : (s.loadTileRegs p addr m v t).tile = s.tile := by
  have htiles : (s.loadTileRegs p addr m v t).tiles = s.tiles := Keeps.sameBut (fs := [.regs])
    (State.setF_keeps rfl (State.setReg_keeps rfl (Keeps.foldl (w := maskOf [.regs]) (fun _ _ h => State.setReg_keeps rfl (State.setReg_keeps rfl h)) _ _
      (State.setReg_keeps rfl (State.setReg_keeps rfl (State.setReg_keeps rfl (Keeps.refl _ s))))))) .tiles (by decide)
  funext k
  rw [State.tile, htiles, State.tile]

variable {s p v}

theorem installTile_absent (h : s.tileOf p v.dir.ptile = none) : s.installTile p addr m v = s := by rw [State.installTile, h]

theorem installTile_present {t : Nat} (h : s.tileOf p v.dir.ptile = some t) : s.installTile p addr m v = (s.loadTileRegs p addr m v t).onT t (fun x =>
    { x with task := .loaded, ctx := ctxId p (m.u 0xE 2), walkers := v.tile.walkers, sregs := v.tile.sregs, preds := 1 }) := by
  rw [State.installTile, h]; rfl

theorem SameLayout.installTile : SameLayout s (s.installTile p addr m v) := by
  cases h : s.tileOf p v.dir.ptile with
  | none => rw [installTile_absent addr m h]; exact .refl s
  | some t => rw [installTile_present addr m h]; exact (SameLayout.loadTileRegs s p addr m v t).trans (.onT _ t _)

/-- Installing an entry's tile loads that tile, and takes no other tile out of LOADED. -/
theorem installTile_loads {t : Nat} (h : s.tileOf p v.dir.ptile = some t ∨ (s.tile t).task = .loaded) :
    ((s.installTile p addr m v).tile t).task = .loaded := by
  cases hv : s.tileOf p v.dir.ptile with
  | none =>
    rw [installTile_absent addr m hv]
    exact h.resolve_left (by rw [hv]; exact nofun)
  | some k =>
    rw [installTile_present addr m hv]
    by_cases hk : k = t
    · rw [hk, State.onT, State.tile_setTile_same]
    · rw [State.onT, State.tile_setTile_other _ _ _ _ hk, loadTileRegs_tile]
      exact h.resolve_left (by rw [hv]; exact fun e => hk (Option.some.inj e))

/-- Once every entry is installed, all their tiles are LOADED. -/
theorem foldl_installTile_loads (vs : List VTile) {u : State} (hu : SameLayout s u) {t : Nat} (hv : v ∈ vs) (ht : s.tileOf p v.dir.ptile = some t) :
    ((vs.foldl (fun st v => st.installTile p addr m v) u).tile t).task = .loaded := by
  refine (foldl_achieves (P := SameLayout s) (Q := fun v st => ∀ t, s.tileOf p v.dir.ptile = some t → (st.tile t).task = .loaded)
    (fun st v h => h.trans (.installTile addr m)) (fun st v h t ht => ?_) (fun st v w _ h t ht => ?_) vs u hu).2 v (.inl hv) t ht
  · exact installTile_loads addr m (.inl (h.tileOf_eq ▸ ht))
  · exact installTile_loads addr m (.inr (h t ht))

/-- The image that a load installs. -/
def Img.installed (m : Img) (flags : Nat) : Image :=
  { task := m.u 0xE 2, digest := m.digest, flags := flags, stepBar := m.u 0x18 2, groups := (List.range m.columns).map m.group, tiles := m.dir,
    streams := m.streams, links := m.links, kneads := m.kneads, snaps := m.snaps, profile := m.profs.map (fun q => (q.group, q.pro, q.steps)) }

/-- The kneaders', the links' and the ramps' part of an image installed. -/
def State.installNet (s : State) (p : Nat) (im : Image) (vs : List VTile) : State :=
  ((s.installKneads p im.kneads).installLinks p im.links).installRamps p vs

theorem installNet_tile (s : State) (p : Nat) (im : Image) (vs : List VTile) : (s.installNet p im vs).tile = s.tile := by
  have htiles : (s.installNet p im vs).tiles = s.tiles := Keeps.sameBut (fs := [.regs, .pols, .linkRes, .kneaders])
    (State.installRamps_keeps rfl (State.installLinks_keeps rfl (State.installKneads_keeps rfl (Keeps.refl _ s)))) .tiles (by decide)
  funext t
  rw [State.tile, htiles, State.tile]

section
variable (s : State) (p : Nat) (r : LoadReq) (m : Img) (vs : List VTile) (flags : Nat)

/-- Everything of an image installed but the image itself. -/
def State.installParts : State := (vs.foldl (fun st v => st.installTile p r.addr m v) (s.initSegs p m)).installNet p (m.installed flags) vs

theorem install_eq : s.install p r m vs flags = ((s.installParts p r m vs flags).setPol p { (s.installParts p r m vs flags).pol p with
    image := some (m.installed flags), prot := some (r.addr + (m.sec 3).off, ceilDiv (m.sec 3).size 512 * 512) }).sealPol p true := rfl

theorem install_sealed : (s.install p r m vs flags).sealed p = true := by rw [install_eq, sealPol_sealed]

theorem install_image : ((s.install p r m vs flags).pol p).image = some (m.installed flags) := by
  rw [install_eq, sealPol_pol, State.pol_setPol_same]

theorem install_loadWait : (s.install p r m vs flags).loadWait = s.loadWait :=
  Keeps.sameBut (fs := [.regs, .freeCtr, .recSeq, .hbm, .tiles, .pols, .intakes, .hostOut, .trace, .slices, .zeroing, .waitSt, .poison, .inval, .linkRes,
    .kneaders]) (State.install_keeps rfl (Keeps.refl _ s)) .loadWait (by decide)

theorem install_loads {v : VTile} {t : Nat} (hv : v ∈ vs) (ht : s.tileOf p v.dir.ptile = some t) : ((s.install p r m vs flags).tile t).task = .loaded := by
  rw [install_eq, sealPol_tile, State.setPol_at_tile, State.installParts, installNet_tile]
  exact foldl_installTile_loads r.addr m vs (SameLayout.initSegs s p m) hv ht

/-- An image installed, with what its record says of determinism (R209, R211). -/
def State.installFlagged : State := (s.install p r m vs flags).setReg (pgDie r.lead) 0x320 0 (flagLoc m (detHits vs))

theorem installFlagged_spec (hp : p < 64) : (s.installFlagged p r m vs flags).loadWait = s.loadWait ∧ (s.installFlagged p r m vs flags).sealed p = true ∧
    ((s.installFlagged p r m vs flags).pol p).image = some (m.installed flags) ∧
    ∀ v t, v ∈ vs → s.tileOf p v.dir.ptile = some t → ((s.installFlagged p r m vs flags).tile t).task = .loaded := by
  unfold State.installFlagged
  refine ⟨?_, ?_, ?_, fun v t hv ht => ?_⟩
  · rw [State.setReg_loadWait, install_loadWait]
  · rw [(SameLayout.setReg (s.install p r m vs flags) _ _ (by omega) (by omega) (by omega)).sealed_eq hp, install_sealed]
  · rw [State.setReg_at_pol, install_image]
  · rw [State.setReg_at_tile, install_loads s p r m vs flags hv ht]

end

/-- A load that passed has ended with its image installed, its polder sealed, and its entries' tiles LOADED. -/
theorem finishLoad_spec (hp : p < 64) (h : s.loadWait = []) (r : LoadReq) (us : Nat) (vs : List VTile) :
    ((s.finishLoad p r us m vs).pol p).loading = none ∧
      (∃ flags, ((s.finishLoad p r us m vs).pol p).image = some (m.installed flags)) ∧ (s.finishLoad p r us m vs).sealed p = true ∧
      ∀ v t, v ∈ vs → s.tileOf p v.dir.ptile = some t → ((s.finishLoad p r us m vs).tile t).task = .loaded := by
  obtain ⟨flags, e, heq⟩ : ∃ flags e, s.finishLoad p r us m vs = (s.installFlagged p r m vs flags).endLoad p r e := ⟨_, _, rfl⟩
  obtain ⟨hwait, hseal, himage, hloaded⟩ := installFlagged_spec s p r m vs flags hp
  have hnone := hwait.trans h
  rw [heq]
  refine ⟨endLoad_loading hnone r e, ⟨flags, (endLoad_image hnone r e).trans himage⟩, ((endLoad_layout hnone r e).sealed_eq hp).trans hseal,
    fun v t hv ht => ?_⟩
  rw [endLoad_tile hnone r e]
  exact hloaded v t hv ht

end

end Sys2Proof.Machine
end

section
/-!
SUPPORT. How a load begins, and what LOAD_DONE and LOAD_ABORT find (R200, R201, R210, R212).
-/
namespace Sys2Proof.Machine

/-- A request that can start does its work from the state in which it has begun. -/
theorem request_starts {s : State} {p : Nat} {e : List Byte} {f : Nat → Bool} (h : s.canStart p e f = true) (eff : State → State) :
    s.request p e f eff = eff (s.begun p e) := by rw [State.request, h]; rfl

theorem padTo_length (n : Nat) (bs : List Byte) : (padTo n bs).length = n := by
  simp only [padTo, zeros, List.length_take, List.length_append, List.length_replicate]
  omega

theorem padTo_padTo (n : Nat) (bs : List Byte) : padTo n (padTo n bs) = padTo n bs := by
  rw [padTo, padTo_length, Nat.sub_self, zeros, List.replicate_zero, List.append_nil, List.take_of_length_le (Nat.le_of_eq (padTo_length n bs))]

theorem reqField_padTo (e : List Byte) (o n : Nat) : reqField (padTo 64 e) o n = reqField e o n := by rw [reqField, padTo_padTo, reqField]

section
variable {s : State} {p : Nat}

theorem begun_regsOff (s : State) (p : Nat) (e : List Byte) : RegsOff [pgIntake p] s (s.begun p e) := by
  have hp : pgIntake p ∈ [pgIntake p] := List.mem_singleton_self _
  unfold State.begun State.setIn
  exact ((RegsOff.of_regs (.refl _ s) rfl).setF hp (by omega) (by omega)).setF hp (by omega) (by omega)

theorem SameLayout.begun (s : State) (p : Nat) (e : List Byte) : SameLayout s (s.begun p e) := by
  unfold State.begun State.setIn
  exact .trans (.trans (.of_eq rfl rfl) (.setF (s.setIntake p _) _ _ _ _ (by omega) (by omega) (by omega))) (.setF _ _ _ _ _ (by omega) (by omega) (by omega))

theorem begun_entry (s : State) (p : Nat) (e : List Byte) : ((s.begun p e).intake p).entry = some (padTo 64 e) :=
  congrArg Intake.entry (State.intake_setIntake_same s p _)

/-- What a load's check of armed changes reads is not what a request's start writes (R201 phase 1). -/
theorem begun_armChanges (s : State) (p : Nat) (e : List Byte) : (s.begun p e).armChanges p = s.armChanges p := by
  have hreg {off sel : Nat} (ho : off < 4096) (hs : sel < 32768) : (s.begun p e).reg pgPld off sel = s.reg pgPld off sel :=
    (begun_regsOff s p e).reg_eq (by unfold pgPld pgIntake; simp only [List.mem_singleton]; omega) ho hs
  have hbind : (s.begun p e).bindChanges = s.bindChanges := by
    have hsel (k : Nat) : (s.begun p e).reg pgPld 0x104 (keySel k) = s.reg pgPld 0x104 (keySel k) := hreg (by omega) (Nat.mod_lt _ (by omega))
    unfold State.bindChanges
    simp only [hsel]
    rfl
  have hpol {q : Nat} (hq : q ∈ List.range 64) : (s.begun p e).rotates q = s.rotates q ∧ (s.begun p e).fabricChanges q = s.fabricChanges q := by
    have hq : q < 64 := List.mem_range.1 hq
    have h114 := hreg (off := 0x114) (sel := q) (by omega) (by omega)
    have h118 := hreg (off := 0x118) (sel := q) (by omega) (by omega)
    constructor
    · rw [State.rotates, getF_of_reg_eq h114]; rfl
    · rw [State.fabricChanges, getF_of_reg_eq h114, getF_of_reg_eq h118]; rfl
  have hchanged : (s.begun p e).changedPols = s.changedPols := by
    unfold State.changedPols
    dsimp only
    rw [hbind]
    refine List.filter_congr fun q hq => ?_
    obtain ⟨hrot, hfab⟩ := hpol hq
    rw [hrot, hfab]
  rw [State.armChanges, hchanged]
  rfl

/-- The polder of a load that begins: its request noted, its image's lines protected, and unsealed, before its tiles clear (R201 phase 2). -/
def State.loadOpened (s : State) (p : Nat) (e : List Byte) : State :=
  (s.setPol p { s.pol p with
    loading := some { tag := reqField e 4 4, addr := reqField e 8 8, length := reqField e 0x10 4, lead := s.leadDie p }, image := none, gate := none,
    stopped := false, stopCause := 0, xpFault := false, prot := some (reqField e 8 8, ceilDiv (reqField e 0x10 4) 512 * 512), ramp := [],
    running := [], barRefs := [], snaps := [] }).sealPol p false

theorem beginLoad_eq {e : List Byte} (he : (s.intake p).entry = some e) : s.beginLoad p =
    let u := (s.tilesOf p).foldl (fun st t => st.startClear t) (s.loadOpened p e)
    { u with linkRes := u.linkRes.map (fun x => (x.1, x.2.filter (fun l => l.pol != p))) } := by
  unfold State.beginLoad
  rw [he]
  rfl

/-- A load begins: its tiles clear, its stop and its image are gone, its image's lines are protected, and its polder is open. -/
theorem beginLoad_spec {e : List Byte} (hp : p < 64) (he : (s.intake p).entry = some e) :
    ((s.beginLoad p).pol p).loading = some { tag := reqField e 4 4, addr := reqField e 8 8, length := reqField e 0x10 4, lead := s.leadDie p } ∧
      ((s.beginLoad p).pol p).image = none ∧ ((s.beginLoad p).pol p).stopped = false ∧
      ((s.beginLoad p).pol p).prot = some (reqField e 8 8, ceilDiv (reqField e 0x10 4) 512 * 512) ∧
      (∀ t, t ∈ s.tilesOf p → (s.beginLoad p).clears t) ∧ (s.beginLoad p).sealed p = false := by
  obtain ⟨hlayout, hpols, hclears⟩ := foldl_startClear_spec (s.tilesOf p) (s.loadOpened p e)
  have heq := beginLoad_eq he
  generalize (s.tilesOf p).foldl (fun st t => st.startClear t) (s.loadOpened p e) = u at heq hlayout hpols hclears
  have hpol : (s.beginLoad p).pol p = (s.loadOpened p e).pol p := by
    rw [heq]
    exact congrArg (fun m => mapGet m p {}) hpols
  rw [hpol, State.loadOpened, sealPol_pol, State.pol_setPol_same, heq]
  exact ⟨rfl, rfl, rfl, rfl, hclears, (hlayout.sealed_eq hp).trans (sealPol_sealed _ p false)⟩

/-- A LOAD that nothing holds up begins at once. -/
theorem effLoad_begins {e : List Byte} (hstart : s.canStart p e (fun o => o == 1) = true) (hrun : ∀ t, t ∈ s.tilesOf p → (s.tile t).task ≠ .running)
    (hload : (s.pol p).loading = none) (hwait : s.loadWait = []) (harm : s.armChanges p = false)
    (hfree : ∀ d, d ∈ s.polDies p → s.loaderBusy [] d = false) : effLoad p e s = (s.begun p e).beginLoad p := by
  have haccept : ¬ (((s.begun p e).tilesOf p).any (fun t => ((s.begun p e).tile t).task == .running) = true ∨
      ((s.begun p e).pol p).loading.isSome = true ∨ (s.begun p e).loadWait.contains p = true ∨ (s.begun p e).armChanges p = true) := by
    have hnone : ((s.begun p e).tilesOf p).any (fun t => ((s.begun p e).tile t).task == .running) = false := by
      rw [(SameLayout.begun s p e).tilesOf_eq]
      exact List.any_eq_false.2 fun t ht h => hrun t ht (eq_of_beq h)
    have hpol : ((s.begun p e).pol p).loading = none := hload
    have hw : (s.begun p e).loadWait = [] := hwait
    simp [hnone, hpol, hw, begun_armChanges, harm]
  have hbusy : ((s.begun p e).polDies p).any ((s.begun p e).loaderBusy []) = false := List.any_eq_false.2 fun d hd => Bool.eq_false_iff.1 (hfree d hd)
  unfold effLoad
  rw [request_starts hstart, if_neg haccept]
  generalize hb : s.begun p e = b at hbusy
  have hw : b.loadWait = [] := hb ▸ hwait
  have hqueue : ({ b with loadWait := (b.loadWait ++ [p]).erase p } : State) = b := by
    rw [hw, List.nil_append, List.erase_cons_head, ← hw]
  have hfirst : State.startLoads [p] [] { b with loadWait := b.loadWait ++ [p] } =
      ({ b with loadWait := (b.loadWait ++ [p]).erase p } : State).beginLoad p := if_neg (Bool.eq_false_iff.1 hbusy)
  rw [State.nextLoads]
  refine Eq.trans ?_ (hfirst.trans (congrArg (State.beginLoad · p) hqueue))
  exact congrArg (State.startLoads · [] _) (congrArg (· ++ [p]) hw)

/-! LOAD_ABORT. -/

theorem exec_loadAbort {d : Nat} (hd : d < 4) (val : Nat) : exec (.loadAbort d val) s = .next (effLoadAbort d val s) := if_pos hd

theorem effLoadAbort_unasked {val : Nat} (hgo : bitOf val 31 = false) (d : Nat) : effLoadAbort d val s = s := by simp [effLoadAbort, hgo]

/-- A load in progress notes an abort that its lead die is asked for. -/
theorem effLoadAbort_notes {val : Nat} {r : LoadReq} (hgo : bitOf val 31 = true) (hp : p = bitsOf val 5 0) (hload : (s.pol p).loading = some r) (d : Nat) :
    ((effLoadAbort d val s).pol p).loading = some (if r.lead = d then { r with abort := true } else r) ∧ s.sameBut [.pols] (effLoadAbort d val s) := by
  have heff : effLoadAbort d val s = if r.lead = d then s.setPol p { s.pol p with loading := some { r with abort := true } } else s := by
    simp [effLoadAbort, hgo, ← hp, hload]
  rw [heff]
  split
  · exact ⟨by rw [State.pol_setPol_same], Keeps.sameBut (State.setPol_keeps rfl (Keeps.refl _ s))⟩
  · exact ⟨hload, Keeps.sameBut (Keeps.refl _ s)⟩

/-! LOAD_DONE. -/

theorem exec_loadDone (hp : p < 64) (rf : Bool) (us tm : Nat) : exec (.loadDone p rf us tm) s = .next (effLoadDone p rf us tm s) :=
  onPol_eq_next hp fun _ => effLoadDone p rf us tm s

theorem effLoadDone_idle (h : (s.pol p).loading = none) (rf : Bool) (us tm : Nat) : effLoadDone p rf us tm s = s := by rw [effLoadDone, h]

theorem effLoadDone_waits {r : LoadReq} (h : (s.pol p).loading = some r) (hclear : ∃ t, t ∈ s.tilesOf p ∧ s.clears t) (rf : Bool) (us tm : Nat) :
    effLoadDone p rf us tm s = s := by
  obtain ⟨t, ht, hc⟩ := hclear
  have hany : (s.tilesOf p).any (fun t => (s.tile t).task == .clearing) = true := List.any_eq_true.2 ⟨t, ht, beq_iff_eq.2 hc⟩
  simp only [effLoadDone, h, hany, if_true]

/-- The state from which a load reads its image: the polder's queues flushed, and no DET verdict yet (R211, R291). -/
def State.readingLoad (s : State) (p : Nat) (r : LoadReq) : State :=
  ((s.bound 4 p).foldl State.flushQ s).setReg (pgDie r.lead) 0x320 0 (BitVec.ofNat 64 0x1FFF_FFFF_FFFF)

section
variable {r : LoadReq}

theorem readingLoad_loadWait (s : State) (p : Nat) (r : LoadReq) : (s.readingLoad p r).loadWait = s.loadWait :=
  Keeps.sameBut (fs := [.regs, .sqs])
    (State.setReg_keeps rfl (Keeps.foldl (w := maskOf [.regs, .sqs]) (fun _ _ => State.flushQ_keeps rfl) _ s (Keeps.refl _ s))) .loadWait (by decide)

theorem SameLayout.readingLoad (s : State) (p : Nat) (r : LoadReq) : SameLayout s (s.readingLoad p r) := by
  have hflush : SameLayout s ((s.bound 4 p).foldl State.flushQ s) := .foldl (f := State.flushQ) (fun _ _ => .of_eq rfl rfl) _ s
  exact hflush.trans (.setReg _ (pgDie r.lead) (off := 0x320) (sel := 0) _ (by omega) (by omega) (by omega))

theorem readImage_loadWait (s : State) (p : Nat) (r : LoadReq) (fails : Bool) : (s.readImage p r fails).2.loadWait = s.loadWait :=
  Keeps.sameBut (fs := [.regs, .freeCtr, .recSeq, .hbm, .pols, .intakes, .hostOut, .trace, .slices, .poison])
    (State.readImage_keeps rfl (Keeps.refl _ s)) .loadWait (by decide)

theorem SameLayout.readImage (s : State) (p : Nat) (r : LoadReq) (fails : Bool) : SameLayout s (s.readImage p r fails).2 := by
  unfold State.readImage
  split
  · exact .refl s
  · have hload := SameLayout.polLoad s r.lead p 3 r.addr r.length
    split
    case h_1 bs s1 he => rwa [he] at hload
    case h_2 c s1 he => rwa [he] at hload

/-- An image of which a read fails is not there. -/
theorem readImage_fails (s : State) (p : Nat) (r : LoadReq) : s.readImage p r true = (none, s) := by rw [State.readImage, if_pos (.inl rfl)]

variable (h : (s.pol p).loading = some r) (hany : (s.tilesOf p).any (fun t => (s.tile t).task == .clearing) = false) (habort : r.abort = false)
include h hany habort

/-- An image that cannot be read ends the load with 0x1060. -/
theorem effLoadDone_unread {rf : Bool} {s2 : State} (hread : (s.readingLoad p r).readImage p r rf = (none, s2)) (us tm : Nat) :
    effLoadDone p rf us tm s = s2.rejectLoad p r 0 0 us { code := 0x1060, sect := 0xFFFF } := by
  unfold State.readingLoad at hread
  simp only [effLoadDone, h, hany, habort, hread, Bool.false_eq_true, if_false]

/-- An image that reads and passes every check is installed. -/
theorem effLoadDone_passes {rf : Bool} {m : Img} {s2 : State} (hread : (s.readingLoad p r).readImage p r rf = (some m, s2)) (hchecks : m.readChecks = none)
    (hplaces : s2.verifyPlaces p m = none) (htiles : s2.verifyTiles p r.addr m m.vtiles 0 0 = none) (us : Nat) :
    effLoadDone p rf us 0 s = s2.finishLoad p r us m m.vtiles := by
  unfold State.readingLoad at hread
  simp only [effLoadDone, h, hany, habort, hread, hchecks, hplaces, htiles, Bool.false_eq_true, if_false, if_true]

end

end

end Sys2Proof.Machine
end

section
/-!
PROOFS. The statement on loads.
-/
namespace Sys2Proof.Machine

/-- Settles O52: a LOAD's beginning, the three ways of LOAD_DONE, and what LOAD_ABORT notes. -/
theorem loadsBeginAndEnd : Obligations.LoadsBeginAndEnd := by
  refine fun s p hp => ⟨fun e hstart hrun hload hwait harm hfree => ?begins, fun hidle rf us tm => ?idle, fun r us hload hclear rf tm => ?waits,
    fun r us m s2 hload hclear habort hwait => ?ends, fun d val r hd hgo hpol hload => ?noted, fun d val hd hgo => ?unasked⟩
  case begins =>
    have hexec : exec (.load p e) s = .next (effLoad p e s) := onPol_eq_next hp fun _ => effLoad p e s
    rw [effLoad_begins hstart hrun hload hwait harm hfree] at hexec
    refine ⟨_, hexec, ?_⟩
    have hbegin := beginLoad_spec hp (begun_entry s p e)
    rw [reqField_padTo, reqField_padTo, reqField_padTo, (SameLayout.begun s p e).tilesOf_eq] at hbegin
    exact hbegin
  case idle => rw [exec_loadDone hp, effLoadDone_idle hidle]
  case waits => rw [exec_loadDone hp, effLoadDone_waits hload hclear]
  case ends =>
    have hany : (s.tilesOf p).any (fun t => (s.tile t).task == .clearing) = false := List.any_eq_false.2 fun t ht h => hclear t ht (eq_of_beq h)
    have hreading : (s.readingLoad p r).loadWait = [] := (readingLoad_loadWait s p r).trans hwait
    refine ⟨fun tm => ⟨_, exec_loadDone hp true us tm, ?_⟩, fun hread hchecks hplaces htiles => ⟨_, exec_loadDone hp false us 0, ?_⟩⟩
    · rw [effLoadDone_unread hload hany habort (readImage_fails _ p r)]
      exact rejectLoad_spec hp hreading r 0 0 us _
    · rw [effLoadDone_passes hload hany habort hread hchecks hplaces htiles]
      have hs2 : s2 = ((s.readingLoad p r).readImage p r false).2 := (congrArg Prod.snd hread).symm
      have hwait2 : s2.loadWait = [] := by rw [hs2, readImage_loadWait, hreading]
      have hlayout : SameLayout s s2 := hs2 ▸ (SameLayout.readingLoad s p r).trans (.readImage _ p r false)
      obtain ⟨hdone, ⟨flags, himage⟩, hseal, hloaded⟩ := finishLoad_spec m hp hwait2 r us m.vtiles
      exact ⟨hdone, ⟨_, himage, rfl, rfl⟩, hseal, fun v t hv ht => hloaded v t hv (hlayout.tileOf_eq ▸ ht)⟩
  case noted =>
    exact ⟨_, exec_loadAbort hd val, effLoadAbort_notes hgo hpol hload d⟩
  case unasked => rw [exec_loadAbort hd, effLoadAbort_unasked hgo]

end Sys2Proof.Machine
end

section
/-!
SUPPORT. Placement (R246, R247): an address is a stack, a line index and a byte within the line; the line index is its fields of Table 8-1 side by side.
-/
namespace Sys2Proof.Machine

/-- The index, within its stack, of the line at channel, pc, bank, row and column (Table 8-1, read from the place back to the line). -/
def placeLine (ch pc bank row col : Nat) : Nat := (ch ^^^ (row % 32)) + pc * 32 + col * 64 + bank * 512 + row * 32768

theorem placeDa_eq (k ch pc bank row col : Nat) : placeDa k ch pc bank row col = k * 0x9_0000_0000 + 128 * placeLine ch pc bank row col := rfl

/-! The stack and the line index of an address. -/

theorem daLine_lt (da : Nat) : daLine da < 9216 * 32768 := by
  unfold daLine
  omega

theorem daStack_daLine (da : Nat) : daStack da * 0x9_0000_0000 + 128 * daLine da = da / 128 * 128 := by
  unfold daStack daLine
  omega

theorem daStack_of_line (k : Nat) {l : Nat} (hl : l < 9216 * 32768) : daStack (k * 0x9_0000_0000 + 128 * l) = k := by
  unfold daStack
  omega

theorem daLine_of_line (k : Nat) {l : Nat} (hl : l < 9216 * 32768) : daLine (k * 0x9_0000_0000 + 128 * l) = l := by
  unfold daLine
  omega

/-! The fields of a line index. -/

/-- Table 8-1 in quotients and remainders: the channel's second term is the row's low five bits. -/
theorem daPlace_eq (da : Nat) : daPlace da =
    (daLine da % 32 ^^^ (daLine da / 32768 % 32), daLine da / 32 % 2, daLine da / 512 % 64, daLine da / 32768, daLine da / 64 % 8) := by
  have hrow : daLine da / 32768 < 2 ^ 14 := by
    have := daLine_lt da
    omega
  simp only [daPlace, bitsOf, Nat.shiftRight_eq_div_pow]
  rw [Nat.mod_eq_of_lt hrow]
  simp

/-- The channel's XOR is undone by the same XOR. -/
theorem placeLine_fields (l : Nat) : placeLine (l % 32 ^^^ (l / 32768 % 32)) (l / 32 % 2) (l / 512 % 64) (l / 32768) (l / 64 % 8) = l := by
  rw [placeLine, Nat.xor_assoc, Nat.xor_self, Nat.xor_zero]
  omega

theorem placeLine_lt {ch pc bank row col : Nat} (hch : ch < 32) (hpc : pc < 2) (hbank : bank < 64) (hrow : row < 9216) (hcol : col < 8) :
    placeLine ch pc bank row col < 9216 * 32768 := by
  have hlow : ch ^^^ (row % 32) < 2 ^ 5 := Nat.xor_lt_two_pow hch (Nat.mod_lt _ (by decide))
  unfold placeLine
  omega

theorem fields_placeLine {ch pc bank row col : Nat} (hch : ch < 32) (hpc : pc < 2) (hbank : bank < 64) (hcol : col < 8) :
    placeLine ch pc bank row col % 32 = ch ^^^ (row % 32) ∧ placeLine ch pc bank row col / 32 % 2 = pc ∧
    placeLine ch pc bank row col / 512 % 64 = bank ∧ placeLine ch pc bank row col / 32768 = row ∧ placeLine ch pc bank row col / 64 % 8 = col := by
  have hlow : ch ^^^ (row % 32) < 2 ^ 5 := Nat.xor_lt_two_pow hch (Nat.mod_lt _ (by decide))
  unfold placeLine
  omega

/-! The two ways round. -/

theorem daPlace_bounds (da : Nat) : (daPlace da).1 < 32 ∧ (daPlace da).2.1 < 2 ∧ (daPlace da).2.2.1 < 64 ∧ (daPlace da).2.2.2.1 < 9216 ∧
    (daPlace da).2.2.2.2 < 8 := by
  have hchannel : daLine da % 32 ^^^ (daLine da / 32768 % 32) < 2 ^ 5 := Nat.xor_lt_two_pow (Nat.mod_lt _ (by decide)) (Nat.mod_lt _ (by decide))
  have hrow : daLine da / 32768 < 9216 := Nat.div_lt_of_lt_mul (Nat.mul_comm .. ▸ daLine_lt da)
  rw [daPlace_eq]
  exact ⟨hchannel, Nat.mod_lt _ (by decide), Nat.mod_lt _ (by decide), hrow, Nat.mod_lt _ (by decide)⟩

theorem placeDa_daPlace (da : Nat) :
    placeDa (daStack da) (daPlace da).1 (daPlace da).2.1 (daPlace da).2.2.1 (daPlace da).2.2.2.1 (daPlace da).2.2.2.2 = da / 128 * 128 := by
  rw [daPlace_eq, placeDa_eq, placeLine_fields, daStack_daLine]

theorem daPlace_placeDa (k : Nat) {ch pc bank row col : Nat} (hch : ch < 32) (hpc : pc < 2) (hbank : bank < 64) (hrow : row < 9216) (hcol : col < 8) :
    daPlace (placeDa k ch pc bank row col) = (ch, pc, bank, row, col) := by
  obtain ⟨hlow, hpcBits, hbankBits, hrowBits, hcolBits⟩ := fields_placeLine (row := row) hch hpc hbank hcol
  rw [daPlace_eq, placeDa_eq, daLine_of_line k (placeLine_lt hch hpc hbank hrow hcol), hlow, hpcBits, hbankBits, hrowBits, hcolBits,
    Nat.xor_assoc, Nat.xor_self, Nat.xor_zero]

end Sys2Proof.Machine
end

section
/-!
PROOFS. The statement on placement.
-/
namespace Sys2Proof.Machine

/-- Settles O30: the place of an address leads back to its line, and a place's address back to the place. -/
theorem placementIsOneToOne : Obligations.PlacementIsOneToOne := by
  refine ⟨fun da hda => ?line, fun k ch pc bank row col _ hch hpc hbank hrow hcol => ?place⟩
  case line =>
    obtain ⟨hch, hpc, hbank, hrow, hcol⟩ := daPlace_bounds da
    exact ⟨Nat.div_lt_of_lt_mul (Nat.mul_comm .. ▸ hda), hch, hpc, hbank, hrow, hcol, placeDa_daPlace da⟩
  case place =>
    exact ⟨daStack_of_line k (placeLine_lt hch hpc hbank hrow hcol), daPlace_placeDa k hch hpc hbank hrow hcol⟩

end Sys2Proof.Machine
end

section
/-!
SUPPORT. A spill queue moving on by itself (R280, R289): its loaves go forward, none is lost, changed or overtaken.
-/
namespace Sys2Proof.Machine

/-- Queue `y` is queue `x` after moves inside it: the same loaves in the same order, none of them taken back out of the head, and the error as it was. -/
structure SqQueue.MovedOn (x y : SqQueue) : Prop where
  order : y.all = x.all
  head_le : x.head.length ≤ y.head.length
  error : y.error = x.error

theorem SqQueue.MovedOn.trans {x y z : SqQueue} (h : x.MovedOn y) (k : y.MovedOn z) : x.MovedOn z :=
  ⟨k.order.trans h.order, Nat.le_trans h.head_le k.head_le, k.error.trans h.error⟩

theorem SqQueue.settle_movedOn (n : Nat) (x : SqQueue) : x.MovedOn (SqQueue.settle n x) := by
  fun_induction SqQueue.settle n x with
  | case1 x => exact ⟨rfl, Nat.le_refl _, rfl⟩
  | case2 n x htail => exact ⟨rfl, Nat.le_refl _, rfl⟩
  | case3 n x l ls htail hhead ih =>
    have hmove : x.MovedOn { x with tail := ls, head := x.head ++ [l] } := ⟨by simp [SqQueue.all, htail, hhead.1], by simp, rfl⟩
    exact hmove.trans ih
  | case4 n x l ls htail hhead hroom ih =>
    have hmove : x.MovedOn { x with tail := ls, mid := x.mid ++ [l], segs := putLast x.segs } := ⟨by simp [SqQueue.all, htail], Nat.le_refl _, rfl⟩
    exact hmove.trans ih
  | case5 n x l ls htail hhead hroom => exact ⟨rfl, Nat.le_refl _, rfl⟩

theorem SqQueue.refill_movedOn (x : SqQueue) : x.MovedOn x.refill := by
  have hsplit (n : Nat) (segs : List (Nat × Nat)) :
      x.MovedOn { x with head := x.head ++ x.mid.take n, mid := x.mid.drop n, segs := segs } := ⟨by simp [SqQueue.all], by simp, rfl⟩
  exact (hsplit _ _).trans (SqQueue.settle_movedOn 9 _)

theorem putLast_length (l : List (Nat × Nat)) : (putLast l).length = l.length := by
  fun_induction putLast l with
  | case1 => rfl
  | case2 a b => rfl
  | case3 x xs _ ih => simp [ih]

/-- Moves out of the tail fill segments and take or return none. -/
theorem SqQueue.settle_segs_length (n : Nat) (x : SqQueue) : (SqQueue.settle n x).segs.length = x.segs.length := by
  fun_induction SqQueue.settle n x with
  | case1 x => rfl
  | case2 n x htail => rfl
  | case3 n x l ls htail hhead ih => exact ih
  | case4 n x l ls htail hhead hroom ih => exact ih.trans (putLast_length x.segs)
  | case5 n x l ls htail hhead hroom => rfl

end Sys2Proof.Machine
end

section
/-!
SUPPORT. The spill queues under the operations of the queue engines (R280, R287, R289, R290).
-/
namespace Sys2Proof.Machine

theorem onQueue_eq_next {q : Nat} (h : q < 256) (f : Unit → State) : onQueue q f = .next (f ()) := if_pos h

/-- A command leaves every part of the state that `touches` does not list for it. -/
theorem exec_sameBut {c : Instr} {s u : State} (h : exec c s = .next u) : s.sameBut (touches c) u := Keeps.sameBut (exec_keeps c s u h)

theorem exec_sqTailArrival (s : State) {t : Nat} (ht : t < 4864) : exec (.sqTailArrival t) s = .next (s.sqArrive t) := onTile_eq_next ht fun _ => s.sqArrive t

section
variable (s : State) {q : Nat} (hq : q < 256)
include hq

theorem exec_sqMiddleRefill (err : Bool) : exec (.sqMiddleRefill q err) s = .next (effRefill q err s) := onQueue_eq_next hq fun _ => effRefill q err s
theorem exec_sqSegmentRequest : exec (.sqSegmentRequest q) s = .next (s.grantSeg q) := onQueue_eq_next hq fun _ => s.grantSeg q
theorem exec_poolEmpty : exec (.poolEmpty q) s = .next (effPoolEmpty q s) := onQueue_eq_next hq fun _ => effPoolEmpty q s
theorem exec_sqFlush : exec (.sqFlush q) s = .next (effSqFlush q s) := onQueue_eq_next hq fun _ => effSqFlush q s

end

/-! What counting and recording leave alone. -/

theorem countEv_sq (s : State) (pg ev n k : Nat) : (s.countEv pg ev n).sq k = s.sq k := by
  obtain ⟨r, e⟩ := countEv_parts s pg ev n
  rw [e]
  rfl

theorem err_sqs (s : State) (pg code : Nat) : (s.err pg code).sqs = s.sqs := err_sameBut s pg code .sqs (by decide)

theorem err_tile (s : State) (pg code k : Nat) : (s.err pg code).tile k = s.tile k := by
  obtain ⟨r, e⟩ := err_parts s pg code
  rw [e]
  rfl

/-! One queue changed. -/

theorem onSq_sq_same (s : State) (q : Nat) (x : SqQueue) : (s.onSq q x).sq q = x := by
  unfold State.onSq
  dsimp only
  split
  · rw [countEv_sq, State.sq_setSq_same]
  · exact State.sq_setSq_same s q x

theorem onSq_sq_other (s : State) (x : SqQueue) {q k : Nat} (hk : k ≠ q) : (s.onSq q x).sq k = s.sq k := by
  unfold State.onSq
  dsimp only
  split
  · rw [countEv_sq, State.sq_setSq_other _ _ _ _ hk.symm]
  · exact State.sq_setSq_other s q k x hk.symm

theorem onSq_tile (s : State) (q : Nat) (x : SqQueue) (k : Nat) : (s.onSq q x).tile k = s.tile k := by
  unfold State.onSq
  dsimp only
  split
  · rw [countEv_tile, State.setSq_at_tile]
  · rfl

theorem poolLow_sq (s : State) (d p k : Nat) : (s.poolLow d p).sq k = s.sq k := by
  unfold State.poolLow
  dsimp only
  split <;> rfl

/-! The commands of the queue engines. -/

/-- The queue that a refill starts from: with a lasting read error, its oldest loaf of the middle is bad and it is in error (R288). -/
def SqQueue.readBack (x : SqQueue) (err : Bool) : SqQueue :=
  if err then { x with mid := x.mid.modifyHead (fun l => { l with bad := true }), error := true } else x

theorem effRefill_eq {s : State} {q : Nat} (h : (s.sq q).mid ≠ []) (err : Bool) :
    effRefill q err s = s.onSq q ((s.sq q).readBack err).refill := by
  obtain ⟨l, ls, hmid⟩ := List.exists_cons_of_ne_nil h
  cases err <;> simp [effRefill, SqQueue.readBack, hmid]

/-- The queue with one segment more, and its tail moved on into it (R289). -/
def SqQueue.granted (x : SqQueue) : SqQueue := SqQueue.settle 9 { x with segs := x.segs ++ [(0, 0)], asked := false }

theorem SqQueue.granted_all (x : SqQueue) : x.granted.all = x.all := (SqQueue.settle_movedOn 9 _).order

theorem SqQueue.granted_segs_length (x : SqQueue) : x.granted.segs.length = x.segs.length + 1 := by
  rw [SqQueue.granted, SqQueue.settle_segs_length, List.length_append, List.length_singleton]

theorem grantSeg_sq {s : State} {q : Nat} (hask : (s.sq q).asked = true) (havail : s.segAvail q = true) : (s.grantSeg q).sq q = (s.sq q).granted := by
  unfold State.grantSeg
  dsimp only
  rw [if_pos ⟨hask, havail⟩]
  split
  · rw [poolLow_sq]
    exact State.sq_setSq_same ..
  · exact State.sq_setSq_same ..

theorem effSqFlush_idle {s : State} {q : Nat} (hbusy : s.flushBusy q = false) (hprod : s.endRuns (s.sq q).prod = false)
    (hcons : s.endRuns (s.sq q).cons = false) : effSqFlush q s = s.flushQ q := by
  simp [effSqFlush, hbusy, hprod, hcons]

theorem effSqFlush_busy {s : State} {q : Nat} (hbusy : s.flushBusy q = true) : effSqFlush q s = s.err (pgSq (q / 16)) 0x1647 := by
  simp [effSqFlush, hbusy]

end Sys2Proof.Machine
end

section
/-!
SUPPORT. A payload loaf at its queue's tail (R280, R282): what the queue and the tile's port hold after it.
-/
namespace Sys2Proof.Machine

/-- The queue after a payload loaf of bytes `bs` has joined its tail and moved on. -/
def SqQueue.joined (x : SqQueue) (bs : List Byte) : SqQueue :=
  SqQueue.settle 9 { x with tail := x.tail ++ [{ hdr := false, bytes := padTo 512 bs }],
                            openPkt := some ((x.openPkt.map (·.1)).getD 0 + 1, (x.openPkt.map (·.2)).getD 0) }

theorem SqQueue.joined_all (x : SqQueue) (bs : List Byte) : (x.joined bs).all = x.all ++ [{ hdr := false, bytes := padTo 512 bs }] := by
  rw [SqQueue.joined, (SqQueue.settle_movedOn 9 _).order]
  exact (List.append_assoc ..).symm

/-- Item `a` has left the port of tile `t`, which has `rest` still to send; with its last item the command is finished. -/
def State.portSent (s : State) (t : Nat) (a : SqItem) (rest : List SqItem) : State :=
  let s1 := s.onT t (fun y => { y with sqOut := rest })
  if a.last then s1.onT t (fun y => y.onCmd 7 a.ord (fun k => { k with finished := true })) else s1

theorem portSent_sq (s : State) (t : Nat) (a : SqItem) (rest : List SqItem) (q : Nat) : (s.portSent t a rest).sq q = s.sq q := by
  unfold State.portSent
  dsimp only
  split <;> rfl

theorem portSent_tile_other (s : State) {t k : Nat} (a : SqItem) (rest : List SqItem) (hk : k ≠ t) : (s.portSent t a rest).tile k = s.tile k := by
  unfold State.portSent
  dsimp only
  split
  · rw [onT_tile_other _ _ _ _ hk, onT_tile_other _ _ _ _ hk]
  · exact onT_tile_other _ _ _ _ hk

theorem portSent_sqOut (s : State) (t : Nat) (a : SqItem) (rest : List SqItem) : ((s.portSent t a rest).tile t).sqOut = rest := by
  unfold State.portSent
  dsimp only
  split
  · rw [onT_tile, Tile.onCmd, onT_tile]
  · rw [onT_tile]

section
variable {s : State} {t : Nat} {a : SqItem} {rest : List SqItem} (hout : (s.tile t).sqOut = a :: rest) (hgen : a.gen = (s.sq a.q).gen) (hkind : a.kind = 1)
include hout hgen hkind

theorem sqArrive_payload (hroom : (s.sq a.q).tail.length < 8) :
    s.sqArrive t = ((s.onSq a.q ((s.sq a.q).joined a.bytes)).countEv (pgSq (a.q / 16)) 0x10 1).portSent t a rest := by
  have hclose : ¬ a.kind = 2 := by omega
  have hopen : ¬ a.kind = 0 := by omega
  simp only [State.sqArrive, hout, hgen, hclose, hopen, Nat.not_le.2 hroom, ne_eq, not_true_eq_false, if_false]
  rfl

/-- A loaf in front of a full tail waits. -/
theorem sqArrive_full (hfull : 8 ≤ (s.sq a.q).tail.length) : s.sqArrive t = s := by
  have hclose : ¬ a.kind = 2 := by omega
  simp only [State.sqArrive, hout, hgen, hclose, hfull, ne_eq, not_true_eq_false, if_false, if_true]

end

end Sys2Proof.Machine
end

section
/-!
SUPPORT. The fault of a producer whose queue finds its pool exhausted (R283, R289, R293).
-/
namespace Sys2Proof.Machine

/-- A spill-queue code faults the issuing tile where its task runs. -/
theorem sqFault_task {s : State} {t : Nat} (hrun : (s.tile t).task = .running) (i : IssuedCmd) (q code : Nat) :
    ((s.sqFault t i q code).tile t).task = .faulted := by
  rw [State.sqFault, err_tile]
  exact (taskFault_faulted s t i.ord code i.at_ hrun).1

/-- A counter elsewhere in its page leaves the code that a queue's page shows. -/
theorem sat_last (s : State) (pg pg' off sel n : Nat) (hne : off ≠ 0x18) (ho : off < 4096) (hs : sel < 32768) :
    (s.sat pg' off sel 31 0 n).getF pg 0x18 0 31 16 = s.getF pg 0x18 0 31 16 :=
  getF_of_reg_eq (reg_setReg_offset s pg' off sel pg 0x18 0 _ hne ho hs (by omega) (by omega)) 31 16

/-- With no segment to be had, the producer that waits with an OPEN or PUSH at the full tail faults with 0x1645. -/
theorem effPoolEmpty_faults {s : State} {q p src t : Nat} {a : SqItem} {rest : List SqItem} {i : IssuedCmd} (hask : (s.sq q).asked = true)
    (havail : s.segAvail q = false) (howner : s.owner 4 q = some p) (hprod : (s.sq q).prod = some src) (htile : s.tileOfSrc src = some t)
    (hout : (s.tile t).sqOut = a :: rest) (hitem : a.q = q ∧ a.kind ≠ 2 ∧ a.gen = (s.sq q).gen) (hfull : 8 ≤ (s.sq q).tail.length)
    (hcmd : (s.tile t).ofOrd a.ord = some i) :
    effPoolEmpty q s = (s.sqFault t i q 0x1645).sat (pgSq (q / 64 * 4 + p / 16)) 0x190 (p % 16) 31 0 1 := by
  obtain ⟨hqueue, hkind, hgen⟩ := hitem
  have hheld : ¬ (a.q ≠ q ∨ a.kind = 2 ∨ a.gen ≠ (s.sq q).gen ∨ (s.sq q).tail.length < 8) := by
    rintro (h | h | h | h)
    · exact h hqueue
    · exact hkind h
    · exact h hgen
    · exact Nat.not_lt.2 hfull h
  simp only [effPoolEmpty, hask, havail, howner, hprod, htile, hout, hheld, hcmd, Bool.not_true, Bool.false_eq_true, if_false]

end Sys2Proof.Machine
end

section
/-!
PROOFS. The statement on spill queues.
-/
namespace Sys2Proof.Machine

/-- Settles O32: every move inside a queue keeps its loaves in order (`SqQueue.MovedOn`); what joins, flushes and faults is told by one equation each. -/
theorem spillQueuesKeepTheirOrder : Obligations.SpillQueuesKeepTheirOrder := by
  refine fun s => ⟨fun t a rest ht hout hgen hkind hroom => ?joins, fun t a rest ht hout hkind hgen hfull => ?waits,
    fun q hq hmid => ⟨?refills, ?fails⟩, fun q hq hask havail => ?grants, fun q hq hbusy hprod hcons => ?flushes, fun q hq hbusy => ?refused,
    fun q p src t a rest i hq hask havail howner hprod htile hout hqueue hkind hgen hfull hcmd hrun => ?exhausted⟩
  case joins =>
    have hexec := exec_sqTailArrival s ht
    have hframe : s.sameBut [.regs, .tiles, .sqs] (s.sqArrive t) := exec_sameBut hexec
    rw [sqArrive_payload hout hgen hkind hroom] at hexec hframe
    refine ⟨_, hexec, ?_, portSent_sqOut .., fun k hk => ?_, fun k hk => ?_, hframe⟩
    · rw [portSent_sq, countEv_sq, onSq_sq_same, SqQueue.joined_all]
    · rw [portSent_sq, countEv_sq, onSq_sq_other _ _ hk]
    · rw [portSent_tile_other _ _ _ hk, countEv_tile, onSq_tile]
  case waits => rw [exec_sqTailArrival s ht, sqArrive_full hout hgen hkind hfull]
  case refills =>
    have hexec := exec_sqMiddleRefill s hq false
    have hframe : s.sameBut [.regs, .sqs] (effRefill q false s) := exec_sameBut hexec
    have hmoved : (s.sq q).MovedOn ((s.sq q).readBack false).refill := SqQueue.refill_movedOn (s.sq q)
    rw [effRefill_eq hmid] at hexec hframe
    refine ⟨_, hexec, ?_, ?_, fun k hk => onSq_sq_other s _ hk, hframe⟩
    · rw [onSq_sq_same, hmoved.order]
    · rw [onSq_sq_same]
      exact hmoved.head_le
  case fails =>
    have hexec := exec_sqMiddleRefill s hq true
    refine ⟨_, hexec, ?_, exec_sameBut hexec⟩
    rw [effRefill_eq hmid, onSq_sq_same, (SqQueue.refill_movedOn _).error]
    rfl
  case grants =>
    have hexec := exec_sqSegmentRequest s hq
    refine ⟨_, hexec, ?_, ?_, exec_sameBut hexec⟩
    · rw [grantSeg_sq hask havail, SqQueue.granted_all]
    · rw [grantSeg_sq hask havail, SqQueue.granted_segs_length]
  case flushes =>
    refine ⟨s.flushQ q, ?_, State.sq_setSq_same .., Keeps.sameBut (State.flushQ_keeps rfl (Keeps.refl _ s))⟩
    rw [exec_sqFlush s hq, effSqFlush_idle hbusy hprod hcons]
  case refused =>
    refine ⟨s.err (pgSq (q / 16)) 0x1647, ?_, err_sqs .., err_last ..⟩
    rw [exec_sqFlush s hq, effSqFlush_busy hbusy]
  case exhausted =>
    refine ⟨_, exec_poolEmpty s hq, ?_⟩
    rw [effPoolEmpty_faults hask havail howner hprod htile hout ⟨hqueue, hkind, hgen⟩ hfull hcmd]
    refine ⟨sqFault_task hrun i q 0x1645, ?_⟩
    rw [sat_last _ _ _ _ _ _ (by omega) (by omega) (by omega), State.sqFault]
    exact err_last ..

end Sys2Proof.Machine
end

section
/-!
SUPPORT. The torus registers and the route table (R312, R313, R321).
-/
namespace Sys2Proof.Machine

/-! Commands without a unit number. -/

theorem exec_devNodeWrite (s : State) (val : Nat) : exec (.devNodeWrite val) s =
    .next (if s.anyUp then s.err pgDev 0x0131 else (s.setF pgDev 0x200 0 13 0 val).setF pgDev 0x200 0 16 16 (val / 65536)) := rfl

theorem exec_devTorusWrite (s : State) (val : Nat) :
    exec (.devTorusWrite val) s = .next (if s.anyUp then s.err pgDev 0x0131 else s.setF pgDev 0x204 0 17 0 val) := rfl

theorem exec_frameLoad (s : State) (val : Nat) : exec (.frameLoad val) s = .next (if !bitOf val 63 then s
    else if s.frameLoad.isSome ∨ s.armF.isSome then s.err pgDev 0x0130 else { s with frameLoad := some (val % 2 ^ 48) }) := rfl

/-! The route table. -/

/-- The route table with `v` as the entry of node `n` in the copies of the dies `ds` (R313). -/
def rtSet (n v : Nat) (ds : List Nat) (m : SMap Nat) : SMap Nat := ds.foldl (fun m d => mapSet m (d * 16384 + n) v) m

theorem rtSet_same {n v d : Nat} {ds : List Nat} (hd : d ∈ ds) (m : SMap Nat) : mapGet (rtSet n v ds m) (d * 16384 + n) 0 = v := by
  induction ds using List.reverseRecOn with
  | nil => cases hd
  | append_singleton ds e ih =>
    rw [rtSet, List.foldl_append, List.foldl_cons, List.foldl_nil]
    by_cases he : e = d
    · rw [he, mapGet_mapSet_same]
    · rw [mapGet_mapSet_other _ _ _ _ _ (by omega)]
      exact ih ((List.mem_append.1 hd).resolve_right fun h => he (List.mem_singleton.1 h).symm)

theorem rtSet_other {n k : Nat} (hn : n < 16384) (hk : k < 16384) (hne : k ≠ n) (v d : Nat) (ds : List Nat) (m : SMap Nat) :
    mapGet (rtSet n v ds m) (d * 16384 + k) 0 = mapGet m (d * 16384 + k) 0 :=
  List.foldlRecOn (motive := fun m' => mapGet m' (d * 16384 + k) 0 = mapGet m (d * 16384 + k) 0) ds _ rfl
    fun _ h _ _ => (mapGet_mapSet_other _ _ _ _ _ (by omega)).trans h

theorem exec_routeTableWrite (s : State) {node : Nat} (hn : node < 16384) (entry : Nat) : exec (.routeTableWrite node entry) s =
    .next { s with rt := rtSet node (entry % 64) (List.range 4) s.rt, untrusted := s.untrusted.filter (· != 7 * 65536 + node) } := by
  show execRouteTableWrite node entry s = _
  rw [execRouteTableWrite, Nat.mod_eq_of_lt hn]
  rfl

end Sys2Proof.Machine
end

section
/-!
PROOFS. The statement on the torus registers, route entries and frame loads.
-/
namespace Sys2Proof.Machine

/-- Settles O41: one equation per command; what the error code leaves alone comes from `err_reg`. -/
theorem torusRegistersAndFrameLoads : Obligations.TorusRegistersAndFrameLoads := by
  intro s val node
  refine ⟨fun hdown => ⟨?node, ?torus⟩, fun hup c hc => ?refused, fun hnode => ?route, fun hgo hload harm => ?load, fun hgo hbusy => ?busy, fun hgo => ?noGo⟩
  case node =>
    have hexec := exec_devNodeWrite s val
    rw [if_neg (by simp [hdown])] at hexec
    refine ⟨_, hexec, ?_, ?_, exec_sameBut hexec⟩
    · rw [getF_setF_field _ _ _ _ _ _ _ _ _ (by omega) (by omega), getF_setF_same _ _ _ _ _ _ _ (by omega) (by omega)]
    · exact getF_setF_same _ _ _ _ _ _ _ (by omega) (by omega)
  case torus =>
    have hexec := exec_devTorusWrite s val
    rw [if_neg (by simp [hdown])] at hexec
    exact ⟨_, hexec, getF_setF_same _ _ _ _ _ _ _ (by omega) (by omega), exec_sameBut hexec⟩
  case refused =>
    have hexec : exec c s = .next (s.err pgDev 0x0131) := by
      rcases List.mem_pair.1 hc with rfl | rfl
      · rw [exec_devNodeWrite, if_pos hup]
      · rw [exec_devTorusWrite, if_pos hup]
    exact ⟨_, hexec, err_last .., err_reg _ _ _ _ _ _ (by omega) (by omega) (by omega) (by omega),
      err_reg _ _ _ _ _ _ (by omega) (by omega) (by omega) (by omega), err_sameBut _ _ _⟩
  case route =>
    have hexec := exec_routeTableWrite s hnode val
    refine ⟨_, hexec, fun d hd => rtSet_same (List.mem_range.2 hd) s.rt, fun d n hn hne => rtSet_other hnode hn hne _ d _ s.rt, fun k => ?_, exec_sameBut hexec⟩
    simp [List.mem_filter]
  case load =>
    have hexec : exec (.frameLoad val) s = .next { s with frameLoad := some (val % 2 ^ 48) } := by
      rw [exec_frameLoad, hgo, hload, harm]
      rfl
    exact ⟨_, hexec, rfl, Keeps.sameBut (Keeps.set_frameLoad (w := maskOf [.frameLoad]) rfl (.refl _ s))⟩
  case busy =>
    have hexec := exec_frameLoad s val
    rw [if_neg (by simp [hgo]), if_pos (by simpa [Option.isSome_iff_ne_none] using hbusy)] at hexec
    exact ⟨_, hexec, err_last .., err_sameBut _ _ _⟩
  case noGo => rw [exec_frameLoad, hgo]; rfl

end Sys2Proof.Machine
end

section
/-!
SUPPORT. The page and the state of a Ryulon port, its records, and the torus as its dike and its routing see it (R305 to R316, R398).
-/
namespace Sys2Proof.Machine

theorem onPort_eq_next {p : Nat} (h : p < 32) (f : Unit → State) : onPort p f = .next (f ()) := if_pos h

section
variable (s : State) {pt : Nat} (hpt : pt < 32)
include hpt

theorem exec_lnkSignalDetect : exec (.lnkSignalDetect pt) s = .next (if s.lnkState pt ≠ 0 ∨ !s.lnkOn pt ∨ !(s.port pt).present then s
    else (s.setLnk pt 1).setPort pt { s.port pt with tries := 1 }) := onPort_eq_next hpt fun _ => _
theorem exec_fullTrainingEnd (ok : Bool) : exec (.fullTrainingEnd pt ok) s = .next (effTrainEnd pt ok s) := onPort_eq_next hpt fun _ => effTrainEnd pt ok s
theorem exec_lnkCtlFlit (crcOk : Bool) (bs : List Byte) : exec (.lnkCtlFlit pt crcOk bs) s = .next (effCtl pt crcOk bs s) :=
  onPort_eq_next hpt fun _ => effCtl pt crcOk bs s
theorem exec_lnkDataFlit (crcOk : Bool) (hdr : Nat) (pay : List Byte) (piggy : Nat) :
    exec (.lnkDataFlit pt crcOk hdr pay piggy) s = .next (effDataFlit pt crcOk hdr pay piggy s) :=
  onPort_eq_next hpt fun _ => effDataFlit pt crcOk hdr pay piggy s

end

/-- Writing a register leaves every register at another offset (selection 0 of both). -/
theorem reg_setReg_at (s : State) (pg off pg' off' : Nat) (v : Word) (hne : off ≠ off' := by omega) (ho : off < 4096 := by omega)
    (ho' : off' < 4096 := by omega) : (s.setReg pg off 0 v).reg pg' off' 0 = s.reg pg' off' 0 :=
  reg_setReg_offset s pg off 0 pg' off' 0 v hne ho (by omega) ho' (by omega)

/-! A port's page. -/

theorem pgLnk_ne (pt d : Nat) : pgLnk pt ≠ pgDev ∧ pgLnk pt ≠ pgTrace d := by
  unfold pgLnk pgDev pgTrace pgDie
  omega

theorem lnkState_of_reg_eq {s u : State} {pt : Nat} (h : u.reg (pgLnk pt) 0x100 0 = s.reg (pgLnk pt) 0x100 0) : u.lnkState pt = s.lnkState pt :=
  getF_of_reg_eq h 2 0

theorem lnkState_setLnk (s : State) (pt : Nat) {st : Nat} (h : st < 8) : (s.setLnk pt st).lnkState pt = st :=
  (getF_setF_same _ _ _ _ _ _ _ (by omega) (by omega)).trans (Nat.mod_eq_of_lt h)

theorem setLnk_sameBut (s : State) (pt st : Nat) : s.sameBut [.regs] (s.setLnk pt st) := sameBut_regs s _

theorem setPort_sameBut (s : State) (pt : Nat) (x : Port) : s.sameBut [.ports] (s.setPort pt x) := Keeps.sameBut (State.setPort_keeps rfl (.refl _ s))

/-! A port's records. -/

section
variable (s : State) (pt code cls action half lseq pol : Nat)

/-- Beside PG_ERR, PG_ERR_FIRST and the counters of events and records, posting a code leaves the ports' registers alone. -/
theorem lnkPost_reg (q : Nat) {off : Nat} (hne : off ≠ 0x18 ∧ off ≠ 0x1C := by omega) (hpost : off ≠ 0x138 ∧ off ≠ 0x13C := by omega)
    (hc : off < 0x30 ∨ 0x60 ≤ off := by omega) (ho : off < 4096 := by omega) : (s.lnkPost pt code cls action half lseq pol).reg (pgLnk q) off 0 = s.reg (pgLnk q) off 0 := by
  rw [State.lnkPost, fault_reg _ _ _ _ _ (pgLnk_ne q 0).1 (pgLnk_ne q _).2 hpost ho (by omega)]
  exact err_reg _ _ _ _ _ _ hne hc ho (by omega)

theorem lnkPost_last : (s.lnkPost pt code cls action half lseq pol).getF (pgLnk pt) 0x18 0 31 16 = code % 2 ^ 16 := by
  rw [State.lnkPost, State.getF, fault_reg _ _ _ _ _ (pgLnk_ne pt 0).1 (pgLnk_ne pt _).2 (by omega) (by omega) (by omega)]
  exact err_last ..

theorem lnkPost_sameBut : s.sameBut [.regs, .freeCtr, .recSeq, .pols, .intakes, .hostOut, .trace] (s.lnkPost pt code cls action half lseq pol) :=
  Keeps.sameBut (State.lnkPost_keeps rfl (.refl _ s))

theorem lnkPost_port (k : Nat) : (s.lnkPost pt code cls action half lseq pol).port k = s.port k := by
  have hports : (s.lnkPost pt code cls action half lseq pol).ports = s.ports := lnkPost_sameBut s pt code cls action half lseq pol .ports (by decide)
  rw [State.port, hports, State.port]

end

/-! The torus. -/

/-- What the ports read of the torus is the same: the bindings in force and their faults, and the DEV page. -/
structure SameNet (s u : State) : Prop where
  act : u.act = s.act
  untrusted : u.untrusted = s.untrusted
  badFtids : u.badFtids = s.badFtids
  dev : ∀ off, off < 4096 → u.reg pgDev off 0 = s.reg pgDev off 0

theorem SameNet.setPort (s : State) (pt : Nat) (x : Port) : SameNet s (s.setPort pt x) := ⟨rfl, rfl, rfl, fun _ _ => rfl⟩

theorem SameNet.setReg (s : State) (pt : Nat) {off : Nat} (v : Word) (ho : off < 4096) : SameNet s (s.setReg (pgLnk pt) off 0 v) :=
  ⟨rfl, rfl, rfl, fun _ ho' => reg_setReg_other _ _ _ _ _ _ _ _ fun e => (pgLnk_ne pt 0).1 (regKey_inj ho (by omega) ho' (by omega) e).1⟩

section
variable {s u v : State}

theorem SameNet.trans (h : SameNet s u) (g : SameNet u v) : SameNet s v :=
  ⟨g.act.trans h.act, g.untrusted.trans h.untrusted, g.badFtids.trans h.badFtids, fun off ho => (g.dev off ho).trans (h.dev off ho)⟩

section
variable (h : SameNet s u)
include h

theorem SameNet.getF_eq {off : Nat} (ho : off < 4096) (hi lo : Nat) : u.getF pgDev off 0 hi lo = s.getF pgDev off 0 hi lo :=
  getF_of_reg_eq (h.dev off ho) hi lo

theorem SameNet.torus_eq : u.torus = s.torus := by simp only [State.torus, h.getF_eq (off := 0x204) (by omega)]

theorem SameNet.nodeId_eq : u.nodeId = s.nodeId := h.getF_eq (by omega) 13 0

theorem SameNet.nodeValid_eq : u.nodeValid = s.nodeValid := by
  rw [State.nodeValid, State.torusOk, h.torus_eq, h.getF_eq (by omega), State.nodeValid, State.torusOk]

theorem SameNet.dimSize_eq : u.dimSize = s.dimSize := by
  funext d
  rw [State.dimSize, h.torus_eq, State.dimSize]

theorem SameNet.wantPeer_eq (pt : Nat) : u.wantPeer pt = s.wantPeer pt := by
  simp only [State.wantPeer, State.neighbour, h.nodeId_eq, h.dimSize_eq]

end

end

end Sys2Proof.Machine
end

section
/-!
SUPPORT. Training and the meeting with the neighbour (R305, R307, R308).
-/
namespace Sys2Proof.Machine

section
variable {s : State} {pt : Nat}

theorem lnkOn_iff : s.lnkOn pt = true ↔ s.getF (pgLnk pt) 0x104 0 0 0 = 1 := beq_iff_eq

theorem effTrainEnd_idle (h : s.lnkState pt ≠ 1) (ok : Bool) : effTrainEnd pt ok s = s := if_pos h

/-- A port's link layer at its start (R305): the cable and what its sibling has to send are kept. -/
def Port.fresh (x : Port) : Port := { present := x.present, left := true, gate := x.gate, dikePosted := x.dikePosted, skewFrame := x.skewFrame }

/-- A port that has locked: in NODE_WAIT, at full width, with no neighbour known. -/
def State.locked (s : State) (pt : Nat) : State :=
  ((((s.setPort pt (s.port pt).fresh).setLnk pt 2).setF (pgLnk pt) 0x100 0 3 3 0).setF (pgLnk pt) 0x100 0 4 4 0).setReg (pgLnk pt) 0x110 0 0

theorem locked_lnkState (s : State) (pt : Nat) : (s.locked pt).lnkState pt = 2 := by
  rw [State.locked, lnkState_of_reg_eq (reg_setReg_at ..), State.lnkState,
    getF_setF_field _ _ _ _ _ _ _ _ _ (by omega) (by omega), getF_setF_field _ _ _ _ _ _ _ _ _ (by omega) (by omega)]
  exact lnkState_setLnk _ pt (by omega)

theorem locked_port (s : State) (pt : Nat) : (s.locked pt).port pt = (s.port pt).fresh := State.port_setPort_same s pt _

theorem locked_sameBut (s : State) (pt : Nat) : s.sameBut [.regs, .ports] (s.locked pt) :=
  ((setPort_sameBut s pt _).mono (by decide)).trans ((sameBut_regs _ _).mono (by decide))

theorem effTrainEnd_locks (h : s.lnkState pt = 1) : effTrainEnd pt true s = s.locked pt := by
  rw [effTrainEnd, if_neg (not_not_intro h), if_pos rfl, State.locked, Port.fresh]

theorem effTrainEnd_retries (h : s.lnkState pt = 1) (htries : 1 < (s.port pt).tries) :
    effTrainEnd pt false s = s.setPort pt { s.port pt with tries := (s.port pt).tries - 1 } := by
  rw [effTrainEnd, if_neg (not_not_intro h), if_neg Bool.false_ne_true, if_pos htries]

theorem effTrainEnd_gives_up (h : s.lnkState pt = 1) (htries : (s.port pt).tries ≤ 1) :
    effTrainEnd pt false s = ((s.setPort pt { s.port pt with tries := 0 }).setLnk pt 0).lnkPost pt 0x1310 2 0 0 0 0xFF := by
  rw [effTrainEnd, if_neg (not_not_intro h), if_neg Bool.false_ne_true, if_neg (Nat.not_lt.2 htries)]

/-! Control flits. -/

/-- The identity that a control flit bears. -/
def ctlId (bs : List Byte) : Nat := ctl bs 0x30 4 % 2 ^ 21

/-- A port keeps a valid identity in LNK_PEER. -/
def State.heardPeer (s : State) (pt id : Nat) : State := if bitOf id 19 then s.setReg (pgLnk pt) 0x110 0 (BitVec.ofNat 64 id) else s

theorem SameNet.heardPeer (s : State) (pt id : Nat) : SameNet s (s.heardPeer pt id) := by
  unfold State.heardPeer
  split
  · exact .setReg s pt _ (by omega)
  · exact ⟨rfl, rfl, rfl, fun _ _ => rfl⟩

theorem heardPeer_sameBut (s : State) (pt id : Nat) : s.sameBut [.regs] (s.heardPeer pt id) := by
  unfold State.heardPeer
  split
  · exact sameBut_regs s _
  · exact sameBut_regs s s.regs

theorem heardPeer_port (s : State) (pt id k : Nat) : (s.heardPeer pt id).port k = s.port k := by
  have hports : (s.heardPeer pt id).ports = s.ports := heardPeer_sameBut s pt id .ports (by decide)
  rw [State.port, hports, State.port]

theorem heardPeer_lnkState (s : State) (pt id : Nat) : (s.heardPeer pt id).lnkState pt = s.lnkState pt := by
  unfold State.heardPeer
  split
  · exact lnkState_of_reg_eq (reg_setReg_at ..)
  · rfl

theorem effCtl_bad (pt : Nat) (bs : List Byte) (s : State) : effCtl pt false bs s = s := by simp [effCtl]

variable {bs : List Byte}

section
variable (hwait : s.lnkState pt = 2) (hnode : s.nodeValid = true) (hvalid : bitOf (ctlId bs) 19 = true)
include hwait hnode hvalid

/-- A port in NODE_WAIT judges a valid identity by the torus as it stood. -/
theorem effCtl_nodeWait : effCtl pt true bs s = if ctlId bs = s.wantPeer pt then
      ((s.heardPeer pt (ctlId bs)).setLnk pt 3).setPort pt { s.port pt with left := false }
    else (s.heardPeer pt (ctlId bs)).miswired pt := by
  have hnet := SameNet.heardPeer s pt (ctlId bs)
  have hact : ¬ ((!(s.heardPeer pt (ctlId bs)).nodeValid) = true ∨ (!bitOf (ctlId bs) 19) = true) := by simp [hnet.nodeValid_eq, hnode, hvalid]
  calc effCtl pt true bs s
    _ = if ctlId bs = (s.heardPeer pt (ctlId bs)).wantPeer pt then
          ((s.heardPeer pt (ctlId bs)).setLnk pt 3).setPort pt { (s.heardPeer pt (ctlId bs)).port pt with left := false }
        else (s.heardPeer pt (ctlId bs)).miswired pt := by
      unfold effCtl
      rw [if_neg (by simp [hwait]), if_pos hwait]
      exact if_neg hact
    _ = _ := by rw [hnet.wantPeer_eq, heardPeer_port]

theorem effCtl_meets (hpeer : ctlId bs = s.wantPeer pt) :
    effCtl pt true bs s = ((s.heardPeer pt (ctlId bs)).setLnk pt 3).setPort pt { s.port pt with left := false } := by
  rw [effCtl_nodeWait hwait hnode hvalid, if_pos hpeer]

/-- The wrong neighbour: the port was not UP, so it has nothing to hand on. -/
theorem effCtl_miswired (hpeer : ctlId bs ≠ s.wantPeer pt) :
    effCtl pt true bs s = ((s.heardPeer pt (ctlId bs)).setLnk pt 5).lnkPost pt 0x1313 1 0 0 0 0xFF := by
  have hdown : (s.heardPeer pt (ctlId bs)).lnkState pt ≠ 3 := by rw [heardPeer_lnkState, hwait]; omega
  rw [effCtl_nodeWait hwait hnode hvalid, if_neg hpeer, State.miswired, if_neg hdown]

end

theorem reg_heardPeer (s : State) (pt : Nat) {id : Nat} (hvalid : bitOf id 19 = true) : (s.heardPeer pt id).reg (pgLnk pt) 0x110 0 = BitVec.ofNat 64 id := by
  rw [State.heardPeer, if_pos hvalid, reg_setReg_same]

end

end Sys2Proof.Machine
end

section
/-!
PROOFS. The statement on training and the neighbour.
-/
namespace Sys2Proof.Machine

/-- Settles O38: one equation for each end of a training and each identity; `lnkPost_reg` keeps the state that a port had set before its record. -/
theorem portsTrainAndMeetTheirPeer : Obligations.PortsTrainAndMeetTheirPeer := by
  intro s pt hpt
  refine ⟨fun hdown hon hcable => ?starts, fun hheld => ?held, fun htrain => ?locks, fun htrain htries => ?retries, fun htrain htries => ?givesUp,
    fun hidle ok => ?idle, fun bs hwait hnode hvalid => ⟨fun hpeer => ?meets, fun hpeer => ?miswired⟩, fun bs => ?bad⟩
  case starts =>
    have hexec := exec_lnkSignalDetect s hpt
    rw [if_neg (by simp [hdown, lnkOn_iff.2 hon, hcable])] at hexec
    refine ⟨_, hexec, ?_, State.port_setPort_same .., exec_sameBut hexec⟩
    exact lnkState_setLnk s pt (by omega)
  case held =>
    have hoff : s.getF (pgLnk pt) 0x104 0 0 0 = 0 → s.lnkOn pt = false := fun h => by
      rw [State.lnkOn, h]
      rfl
    rw [exec_lnkSignalDetect s hpt, if_pos]
    rcases hheld with h | h | h
    · exact .inl h
    · exact .inr (.inl (by rw [hoff h]; rfl))
    · exact .inr (.inr (by rw [h]; rfl))
  case locks =>
    have hexec := exec_fullTrainingEnd s hpt true
    rw [effTrainEnd_locks htrain] at hexec
    have hport := locked_port s pt
    refine ⟨_, hexec, locked_lnkState s pt, ?_, ?_, ?_, ?_, ?_, locked_sameBut s pt⟩ <;> rw [hport] <;> rfl
  case retries =>
    have hexec := exec_fullTrainingEnd s hpt false
    rw [effTrainEnd_retries htrain htries] at hexec
    exact ⟨_, hexec, State.port_setPort_same .., setPort_sameBut s pt _⟩
  case givesUp =>
    have hexec := exec_fullTrainingEnd s hpt false
    rw [effTrainEnd_gives_up htrain htries] at hexec
    refine ⟨_, hexec, ?_, lnkPost_last ..⟩
    rw [lnkState_of_reg_eq (lnkPost_reg ..), lnkState_setLnk _ _ (by omega)]
  case idle => rw [exec_fullTrainingEnd s hpt, effTrainEnd_idle hidle]
  case meets =>
    have hexec := exec_lnkCtlFlit s hpt true bs
    rw [effCtl_meets hwait hnode hvalid hpeer] at hexec
    refine ⟨_, hexec, lnkState_setLnk _ pt (by omega), State.port_setPort_same .., ?_, ?_⟩
    · rw [← hpeer, State.setPort_reg, ← reg_heardPeer s pt hvalid]
      exact reg_setReg_at ..
    · have hregs := (heardPeer_sameBut s pt (ctlId bs)).trans (setLnk_sameBut _ pt 3)
      exact (hregs.mono (by decide)).trans ((setPort_sameBut _ pt _).mono (by decide))
  case miswired =>
    have hexec := exec_lnkCtlFlit s hpt true bs
    rw [effCtl_miswired hwait hnode hvalid hpeer] at hexec
    refine ⟨_, hexec, ?_, lnkPost_last ..⟩
    rw [lnkState_of_reg_eq (lnkPost_reg ..), lnkState_setLnk _ _ (by omega)]
  case bad => rw [exec_lnkCtlFlit s hpt, effCtl_bad]

end Sys2Proof.Machine
end

section
/-!
SUPPORT. DATA flits at an UP port: how one is taken, passes the dike and meets its flow (R303, R304, R314, R316, R317).
-/
namespace Sys2Proof.Machine

/-! What the dike and the routing read. -/

section
variable {s u : State} (h : SameNet s u)
include h

theorem SameNet.regAct_eq : u.regAct = s.regAct := by
  funext pg off sel
  rw [State.regAct, h.act, State.regAct]

theorem SameNet.bound_eq : u.bound = s.bound := by
  funext tb p
  rw [State.bound, h.act, State.bound]

theorem SameNet.holdsPort_eq : u.holdsPort = s.holdsPort := by
  funext p pt
  simp only [State.holdsPort, State.owner, h.regAct_eq, h.untrusted]

theorem SameNet.ftidPols_eq : u.ftidPols = s.ftidPols := by
  have hsluice : u.sluice = s.sluice := funext fun i => by simp only [State.sluice, h.regAct_eq, h.untrusted]
  funext f
  simp only [State.ftidPols, State.ftid, State.getA, hsluice, h.regAct_eq, h.badFtids]

theorem SameNet.sliceDim_eq : u.sliceDim = s.sliceDim := by
  funext p d
  unfold State.sliceDim
  rw [h.regAct_eq, h.bound_eq]

theorem SameNet.inSlice_eq : u.inSlice = s.inSlice := by
  have hpos : u.slicePos = s.slicePos := by
    funext p d c
    rw [State.slicePos, h.dimSize_eq, h.sliceDim_eq, State.slicePos]
  funext p n
  rw [State.inSlice, hpos, h.sliceDim_eq, State.inSlice]

theorem SameNet.nextHop_eq : u.nextHop = s.nextHop := by
  funext dst sgn
  simp only [State.nextHop, h.nodeId_eq, h.dimSize_eq]

end

/-- The polder whose dike passes a flit at port `pt`, if any (R316). -/
def State.dikePol (s : State) (pt : Nat) (f : Flit) : Option Nat := (s.ftidPols f.ftid).find? (fun p => s.holdsPort p pt && s.inSlice p f.src)

theorem SameNet.dikePol_eq {s u : State} (h : SameNet s u) (pt : Nat) (f : Flit) : u.dikePol pt f = s.dikePol pt f := by
  rw [State.dikePol, h.ftidPols_eq, h.holdsPort_eq, h.inSlice_eq, State.dikePol]

/-! Taking a flit. -/

/-- A port after a good flit in its place in the order. -/
def Port.took (x : Port) (f : Flit) (piggy : Nat) : Port :=
  { x.piggy piggy with
    expSeq := (x.expSeq + 1) % 4096
    badSeq := none
    discarding := false
    returned := x.returned.set (classVc f.res f.vc) ((x.returned.getD (classVc f.res f.vc) 0 + 1) % 65536) }

theorem Port.piggy_gate (x : Port) (w : Nat) : (x.piggy w).gate = x.gate := by
  unfold Port.piggy Port.credit Port.acked
  dsimp only
  split <;> split <;> rfl

theorem Port.took_gate (x : Port) (f : Flit) (w : Nat) : (x.took f w).gate = x.gate := x.piggy_gate w

/-- The device after port `pt` has taken a good flit, before its dike sees it. -/
def State.takes (s : State) (pt : Nat) (f : Flit) (piggy : Nat) : State :=
  let s1 := (s.setPort pt ((s.port pt).took f piggy)).bump (pgLnk pt) 0x140 0 1
  if (s.port pt).badSeq.isSome then s1.bump (pgLnk pt) 0x130 0 1 else s1

section
variable (s : State) (pt : Nat) (f : Flit) (piggy : Nat)

/-- Beside the port, taking a flit writes only LNK_RX_FLITS (0x140) and, after a replay, LNK_REPLAYS (0x130). -/
theorem takes_eq : ∃ r, s.takes pt f piggy = { s.setPort pt ((s.port pt).took f piggy) with regs := r } := by
  unfold State.takes
  dsimp only
  split <;> exact ⟨_, rfl⟩

theorem takes_port : (s.takes pt f piggy).port pt = (s.port pt).took f piggy := by
  obtain ⟨r, e⟩ := takes_eq s pt f piggy
  rw [e]
  exact State.port_setPort_same s pt _

theorem takes_port_other {k : Nat} (hk : k ≠ pt) : (s.takes pt f piggy).port k = s.port k := by
  obtain ⟨r, e⟩ := takes_eq s pt f piggy
  rw [e]
  exact State.port_setPort_other s pt k _ hk.symm

theorem takes_sameBut : s.sameBut [.regs, .ports] (s.takes pt f piggy) := by
  obtain ⟨r, e⟩ := takes_eq s pt f piggy
  rw [e]
  exact ((setPort_sameBut s pt _).mono (by decide)).trans ((sameBut_regs _ r).mono (by decide))

theorem SameNet.takes : SameNet s (s.takes pt f piggy) := by
  have hcount : SameNet s ((s.setPort pt ((s.port pt).took f piggy)).bump (pgLnk pt) 0x140 0 1) := (SameNet.setPort s pt _).trans (.setReg _ pt _ (by omega))
  unfold State.takes
  dsimp only
  split
  · exact hcount.trans (.setReg _ pt _ (by omega))
  · exact hcount

theorem takes_knd (d : Nat) : (s.takes pt f piggy).knd d = s.knd d := by
  have hkneaders : (s.takes pt f piggy).kneaders = s.kneaders := takes_sameBut s pt f piggy .kneaders (by decide)
  rw [State.knd, hkneaders, State.knd]

theorem takes_reg {off : Nat} (hne : off ≠ 0x130 := by omega) (ho : off < 4096 := by omega) : (s.takes pt f piggy).reg (pgLnk pt) off 0 =
    (s.bump (pgLnk pt) 0x140 0 1).reg (pgLnk pt) off 0 := by
  unfold State.takes
  dsimp only
  split
  · exact reg_setReg_at ..
  · rfl

end

theorem pumpPort_empty {s : State} {pt : Nat} (h : (s.port pt).gate = []) : s.pumpPort pt = s := by
  rw [State.pumpPort, h]
  rfl

/-- A retrain that a flit's second failure starts is counted at the DEV page, which leaves the port's state as the retrain set it. -/
theorem lasting_startRetrain_lnkState (s : State) {pt : Nat} (hpt : pt < 32) : ((s.startRetrain pt).lasting (pgLnk pt)).lnkState pt = 4 := by
  have hsel : pgLnk pt < 32768 := by unfold pgLnk pgDie; omega
  have hreg : ((s.startRetrain pt).lasting (pgLnk pt)).reg (pgLnk pt) 0x100 0 = (s.startRetrain pt).reg (pgLnk pt) 0x100 0 :=
    reg_setReg_offset _ _ _ _ _ _ _ _ (by omega) (by omega) hsel (by omega) (by omega)
  rw [lnkState_of_reg_eq hreg, State.startRetrain, lnkState_setLnk s pt (by omega)]

section
variable {s : State} {pt hdr piggy : Nat} {pay : List Byte} {f : Flit} (hf : f = flitOf hdr pay) (hup : s.lnkState pt = 3)
  (hdata : bitsOf hdr 2 0 = 1 ∨ bitsOf hdr 2 0 = 2)
include hf hup hdata

theorem effDataFlit_bad (hseq : f.lseq = (s.port pt).expSeq) (hfirst : (s.port pt).badSeq ≠ some f.lseq) :
    effDataFlit pt false hdr pay piggy s = s.setPort pt { s.port pt with badSeq := some f.lseq, discarding := true } := by
  subst hf
  unfold effDataFlit
  dsimp only
  rw [if_neg (by omega), if_pos (by rfl), if_neg hfirst, if_pos hseq]

theorem effDataFlit_bad_again (hagain : (s.port pt).badSeq = some f.lseq) :
    effDataFlit pt false hdr pay piggy s = (s.startRetrain pt).lasting (pgLnk pt) := by
  subst hf
  unfold effDataFlit
  dsimp only
  rw [if_neg (by omega), if_pos (by rfl), if_pos hagain]

theorem effDataFlit_outOfOrder (hseq : f.lseq ≠ (s.port pt).expSeq) : effDataFlit pt true hdr pay piggy s = s := by
  subst hf
  unfold effDataFlit
  dsimp only
  rw [if_neg (by omega), if_neg (by decide), if_pos hseq]

theorem effDataFlit_taken (hseq : f.lseq = (s.port pt).expSeq) :
    effDataFlit pt true hdr pay piggy s = ((s.takes pt f piggy).ingress pt f).pumpPort pt := by
  subst hf
  unfold effDataFlit
  dsimp only
  rw [if_neg (by omega), if_neg (by decide), if_neg (not_not_intro hseq)]
  rfl

end

/-! The dike and the flow. -/

section
variable {s : State} {pt : Nat} {f : Flit}

theorem ingress_refused (h : s.dikePol pt f = none) : s.ingress pt f = s.linkDike pt 0xFF := by
  rw [State.dikePol] at h
  rw [State.ingress, h]

theorem ingress_arrived {p : Nat} (h : s.dikePol pt f = some p) (hreset : p ∉ s.inReset) (hhere : s.nextHop f.dst f.sgn = none) :
    s.ingress pt f = s.deliver pt f := by
  rw [State.dikePol] at h
  simp [State.ingress, h, hreset, hhere]

/-- A flow's entry after it has seen a flit. -/
def State.setFlow (s : State) (f : Flit) (e : FlowEntry) : State :=
  { s with flows := mapSet s.flows f.dstDie (mapSet (mapGet s.flows f.dstDie []) f.flow e) }

theorem setFlow_entry (s : State) (f : Flit) (e : FlowEntry) : mapFind? (mapGet (s.setFlow f e).flows f.dstDie []) f.flow = some e := by
  rw [State.setFlow, mapGet_mapSet_same, mapFind?_mapSet_same]

theorem setFlow_port (s : State) (f : Flit) (e : FlowEntry) (k : Nat) : (s.setFlow f e).port k = s.port k := rfl

theorem setFlow_knd (s : State) (f : Flit) (e : FlowEntry) (d : Nat) : (s.setFlow f e).knd d = s.knd d := rfl

theorem setFlow_reg (s : State) (f : Flit) (e : FlowEntry) (pg off sel : Nat) : (s.setFlow f e).reg pg off sel = s.reg pg off sel := rfl

/-- The kneader of the flit's die gets it. -/
def State.handOver (s : State) (f : Flit) : State :=
  (s.setKnd f.dstDie { s.knd f.dstDie with inFlits := (s.knd f.dstDie).inFlits ++ [f] }).bump (pgKnd f.dstDie) 0x190 0 1

theorem handOver_port (s : State) (f : Flit) (k : Nat) : (s.handOver f).port k = s.port k := rfl

theorem handOver_flows (s : State) (f : Flit) : (s.handOver f).flows = s.flows := rfl

theorem handOver_inFlits (s : State) (f : Flit) : ((s.handOver f).knd f.dstDie).inFlits = (s.knd f.dstDie).inFlits ++ [f] :=
  congrArg Kneader.inFlits (State.knd_setKnd_same s f.dstDie _)

/-- Handing a flit over counts it in its kneader's page, at 0x190. -/
theorem handOver_reg (s : State) (f : Flit) (pg : Nat) {off : Nat} (hne : off ≠ 0x190 := by omega) (ho : off < 4096 := by omega) :
    (s.handOver f).reg pg off 0 = s.reg pg off 0 := reg_setReg_at ..

theorem deliver_known {e : FlowEntry} (he : mapFind? (mapGet s.flows f.dstDie []) f.flow = some e) (hepoch : e.epoch = f.epoch) :
    s.deliver pt f = if f.fseq = e.expected then (s.setFlow f { e with expected := (e.expected + 1) % 65536 }).handOver f else s.setFlow f e := by
  have hage : (f.epoch + 64 - e.epoch) % 64 = 0 := by omega
  unfold State.deliver
  dsimp only
  simp only [he]
  rw [hage, if_neg (by omega), if_pos rfl]
  rfl

theorem deliver_known_port {e : FlowEntry} (he : mapFind? (mapGet s.flows f.dstDie []) f.flow = some e) (hepoch : e.epoch = f.epoch) (k : Nat) :
    (s.deliver pt f).port k = s.port k := by
  rw [deliver_known he hepoch]
  split
  · rw [handOver_port, setFlow_port]
  · exact setFlow_port ..

/-! A refused flit. -/

theorem getF_sat_same (s : State) (pg off sel hi lo n : Nat) (h : lo ≤ hi) (h64 : hi < 64) :
    (s.sat pg off sel hi lo n).getF pg off sel hi lo = min (s.getF pg off sel hi lo + n) (2 ^ (hi + 1 - lo) - 1) := by
  rw [State.sat, getF_setF_same _ _ _ _ _ _ _ h h64]
  have := Nat.two_pow_pos (hi + 1 - lo)
  exact Nat.mod_eq_of_lt (by omega)

/-- A dropped flit is counted. -/
def State.dikeCount (s : State) (pt : Nat) : State := (s.sat (pgLnk pt) 0x148 0 31 0 1).countEv (pgLnk pt) 5 1

theorem linkDike_eq (s : State) (pt pol : Nat) : s.linkDike pt pol = if ((s.dikeCount pt).port pt).dikePosted then s.dikeCount pt
    else ((s.dikeCount pt).setPort pt { (s.dikeCount pt).port pt with dikePosted := true }).lnkPost pt 0x1314 1 0 0 0 pol := rfl

theorem dikeCount_port (s : State) (pt k : Nat) : (s.dikeCount pt).port k = s.port k := by
  obtain ⟨r, e⟩ := countEv_parts (s.sat (pgLnk pt) 0x148 0 31 0 1) (pgLnk pt) 5 1
  rw [State.dikeCount, e]
  rfl

theorem dikeCount_dropped (s : State) (pt : Nat) :
    (s.dikeCount pt).getF (pgLnk pt) 0x148 0 31 0 = min (s.getF (pgLnk pt) 0x148 0 31 0 + 1) (2 ^ 32 - 1) :=
  (getF_of_reg_eq (countEv_reg _ _ _ _ _ _ _ (by omega) (by omega) (by omega)) 31 0).trans (getF_sat_same s _ _ _ _ _ _ (by omega) (by omega))

/-- The dike posts at most once per frame, and notes it at the port (R316). -/
theorem linkDike_port (s : State) (pt pol : Nat) : ∃ b, (s.linkDike pt pol).port pt = { s.port pt with dikePosted := b } := by
  rw [linkDike_eq]
  split
  · exact ⟨(s.port pt).dikePosted, dikeCount_port s pt pt⟩
  · exact ⟨true, by rw [lnkPost_port, State.port_setPort_same, dikeCount_port]⟩

theorem linkDike_dropped (s : State) (pt pol : Nat) :
    (s.linkDike pt pol).getF (pgLnk pt) 0x148 0 31 0 = min (s.getF (pgLnk pt) 0x148 0 31 0 + 1) (2 ^ 32 - 1) := by
  rw [linkDike_eq, ← dikeCount_dropped]
  split
  · rfl
  · exact getF_of_reg_eq (lnkPost_reg ..) 31 0

theorem linkDike_sameBut (s : State) (pt pol : Nat) :
    s.sameBut [.regs, .freeCtr, .recSeq, .pols, .intakes, .hostOut, .trace, .ports] (s.linkDike pt pol) := Keeps.sameBut (State.linkDike_keeps rfl (.refl _ s))

/-! A good flit. -/

theorem takes_gate (hgate : (s.port pt).gate = []) (piggy : Nat) : ((s.takes pt f piggy).port pt).gate = [] := by
  rw [takes_port, Port.took_gate, hgate]

/-- A flit for this device is delivered, and nothing waits at the port to be sent. -/
theorem takes_delivered {p : Nat} {e : FlowEntry} (hgate : (s.port pt).gate = []) (hdike : s.dikePol pt f = some p) (hreset : p ∉ s.inReset)
    (hhere : s.nextHop f.dst f.sgn = none) (he : mapFind? (mapGet s.flows f.dstDie []) f.flow = some e) (hepoch : e.epoch = f.epoch) (piggy : Nat) :
    ((s.takes pt f piggy).ingress pt f).pumpPort pt =
      if f.fseq = e.expected then ((s.takes pt f piggy).setFlow f { e with expected := (e.expected + 1) % 65536 }).handOver f
      else (s.takes pt f piggy).setFlow f e := by
  have hnet := SameNet.takes s pt f piggy
  have hparts := takes_sameBut s pt f piggy
  have hresets : (s.takes pt f piggy).inReset = s.inReset := hparts .inReset (by decide)
  have hflows : (s.takes pt f piggy).flows = s.flows := hparts .flows (by decide)
  rw [← hflows] at he
  rw [ingress_arrived (by rw [hnet.dikePol_eq, hdike]) (by rwa [hresets]) (by rw [hnet.nextHop_eq, hhere]), ← deliver_known he hepoch]
  exact pumpPort_empty (by rw [deliver_known_port he hepoch, takes_gate hgate])

/-- A flit that no dike passes is dropped. -/
theorem takes_refused (hgate : (s.port pt).gate = []) (hdike : s.dikePol pt f = none) (piggy : Nat) :
    ((s.takes pt f piggy).ingress pt f).pumpPort pt = (s.takes pt f piggy).linkDike pt 0xFF := by
  rw [ingress_refused (by rw [(SameNet.takes s pt f piggy).dikePol_eq, hdike])]
  obtain ⟨b, hport⟩ := linkDike_port (s.takes pt f piggy) pt 0xFF
  exact pumpPort_empty (by rw [hport, takes_gate hgate])

end

end Sys2Proof.Machine
end

section
/-!
SUPPORT. Control flits at an UP port: acknowledgements, credits and frame marks (R301, R303, R322).
-/
namespace Sys2Proof.Machine

/-! The port. -/

/-- A port after the acknowledgement and the credits of a control flit (R301). -/
def Port.credited (x : Port) (bs : List Byte) : Port :=
  (List.range 4).foldl (fun y i => Port.creditTo y i (ctl bs (0x14 + 2 * i) 2)) (x.acked (bitsOf (ctl bs 0x10 4) 11 0))

/-- A port after it has dropped the barrier messages that a control flit acknowledges. -/
def Port.dropMsgs (x : Port) (bs : List Byte) : Port :=
  { x with msgs := x.msgs.filter (fun e => 32768 ≤ (bitsOf (ctl bs 0x38 4) 15 0 + 65536 - e.1) % 65536) }

/-- A port after what a control flit acknowledges and gives back. -/
def Port.heard (x : Port) (bs : List Byte) : Port := (x.credited bs).dropMsgs bs

theorem Port.dropMsgs_flits (x : Port) (bs : List Byte) : (x.dropMsgs bs).replay = x.replay ∧ (x.dropMsgs bs).gate = x.gate := ⟨rfl, rfl⟩

theorem Port.acked_gate (x : Port) (a : Nat) : (x.acked a).gate = x.gate := rfl

theorem Port.creditTo_flits (x : Port) (i c : Nat) : (x.creditTo i c).replay = x.replay ∧ (x.creditTo i c).gate = x.gate := by
  have hcases : x.creditTo i c = x.credit i ((c + 65536 - x.credSeen.getD i 0) % 65536) ∨ x.creditTo i c = x := ite_eq_or_eq ..
  rcases hcases with h | h <;> rw [h] <;> exact ⟨rfl, rfl⟩

/-- Credits move no flit. -/
theorem Port.credits_flits (bs : List Byte) (l : List Nat) (x : Port) :
    (l.foldl (fun y i => Port.creditTo y i (ctl bs (0x14 + 2 * i) 2)) x).replay = x.replay ∧
      (l.foldl (fun y i => Port.creditTo y i (ctl bs (0x14 + 2 * i) 2)) x).gate = x.gate := by
  refine List.foldlRecOn (motive := fun y : Port => y.replay = x.replay ∧ y.gate = x.gate) l _ ⟨rfl, rfl⟩ ?_
  intro y hy i _
  obtain ⟨hreplay, hgate⟩ := y.creditTo_flits i (ctl bs (0x14 + 2 * i) 2)
  exact ⟨hreplay.trans hy.1, hgate.trans hy.2⟩

/-- Only the acknowledged flits leave the replay buffer. -/
theorem Port.heard_flits (x : Port) (bs : List Byte) :
    (x.heard bs).replay = (x.acked (bitsOf (ctl bs 0x10 4) 11 0)).replay ∧ (x.heard bs).gate = x.gate := by
  rw [Port.heard, (Port.dropMsgs_flits ..).1, (Port.dropMsgs_flits ..).2, Port.credited, (Port.credits_flits ..).1, (Port.credits_flits ..).2, Port.acked_gate]
  exact ⟨rfl, rfl⟩

/-! Frame marks. -/

/-- The device after port `pt` has noted a new frame mark. -/
def State.marked (s : State) (pt fr bt : Nat) : State :=
  ((((drawFree s).2.setReg (pgLnk pt) 0x158 0 (BitVec.ofNat 64 fr)).setReg (pgLnk pt) 0x160 0 (BitVec.ofNat 64 bt)).setReg (pgLnk pt) 0x168 0
    (BitVec.ofNat 64 ((drawFree s).2.beat % 2 ^ 56 + (drawFree s).1 % 64 * 2 ^ 56))).countEv (pgLnk pt) 0x14 1

section
variable (s : State) (pt fr bt : Nat)

theorem marked_port (k : Nat) : (s.marked pt fr bt).port k = s.port k := by
  obtain ⟨r, e⟩ := countEv_parts ((((drawFree s).2.setReg (pgLnk pt) 0x158 0 (BitVec.ofNat 64 fr)).setReg (pgLnk pt) 0x160 0 (BitVec.ofNat 64 bt)).setReg
    (pgLnk pt) 0x168 0 (BitVec.ofNat 64 ((drawFree s).2.beat % 2 ^ 56 + (drawFree s).1 % 64 * 2 ^ 56))) (pgLnk pt) 0x14 1
  rw [State.marked, e]
  rfl

/-- Noting a mark writes the three registers of the latest mark, and counts. -/
theorem marked_reg {off : Nat} (hc : off < 0x30 ∨ 0x60 ≤ off := by omega) (ho : off < 4096 := by omega) (hne : off ≠ 0x168 := by omega) :
    (s.marked pt fr bt).reg (pgLnk pt) off 0 =
    ((s.setReg (pgLnk pt) 0x158 0 (BitVec.ofNat 64 fr)).setReg (pgLnk pt) 0x160 0 (BitVec.ofNat 64 bt)).reg (pgLnk pt) off 0 := by
  rw [State.marked, countEv_reg _ _ _ _ _ _ _ hc ho (by omega), reg_setReg_at ..]
  rfl

theorem marked_lnkState : (s.marked pt fr bt).lnkState pt = s.lnkState pt := by
  refine lnkState_of_reg_eq ?_
  rw [marked_reg s pt fr bt, reg_setReg_at .., reg_setReg_at ..]

theorem marked_frame (h : fr < 2 ^ 56) : (s.marked pt fr bt).getF (pgLnk pt) 0x158 0 55 0 = fr := by
  rw [State.getF, marked_reg s pt fr bt, reg_setReg_at .., reg_setReg_same, fld_ofNat _ _ _ (by omega)]
  omega

theorem marked_beat (h : bt < 2 ^ 56) : (s.marked pt fr bt).getF (pgLnk pt) 0x160 0 55 0 = bt := by
  rw [State.getF, marked_reg s pt fr bt, reg_setReg_same, fld_ofNat _ _ _ (by omega)]
  omega

/-- The skew of a mark is posted where it is above its limit and was not posted in the last 1024 frames (R322). -/
def State.skewDue (s : State) (pt fr : Nat) : Bool :=
  decide (s.getF pgDev 0x218 0 7 0 < (fr - s.frame) + (s.frame - fr) ∧
    (match (s.port pt).skewFrame with | some f => decide (f + 1024 ≤ s.frame) | none => true) = true)

/-- The device after port `pt` has posted a skew. -/
def State.skewed (s : State) (pt : Nat) : State := (s.setPort pt { s.port pt with skewFrame := some s.frame }).lnkPost pt 0x1318 1 0 0 0 0xFF

theorem frameMark_new (h : ¬(s.getF (pgLnk pt) 0x158 0 55 0 = fr ∧ s.getF (pgLnk pt) 0x160 0 55 0 = bt)) : s.frameMark pt fr bt =
    if (s.marked pt fr bt).skewDue pt fr then (s.marked pt fr bt).skewed pt else s.marked pt fr bt := by
  simp only [State.skewDue, decide_eq_true_eq]
  exact if_neg h

/-- A frame mark is a repeat, or is noted, or is noted and posts its skew. -/
theorem frameMark_cases : (s.frameMark pt fr bt = s ∧ s.getF (pgLnk pt) 0x158 0 55 0 = fr ∧ s.getF (pgLnk pt) 0x160 0 55 0 = bt) ∨
    s.frameMark pt fr bt = s.marked pt fr bt ∨ s.frameMark pt fr bt = (s.marked pt fr bt).skewed pt := by
  by_cases hrep : s.getF (pgLnk pt) 0x158 0 55 0 = fr ∧ s.getF (pgLnk pt) 0x160 0 55 0 = bt
  · exact .inl ⟨if_pos hrep, hrep⟩
  · rw [frameMark_new s pt fr bt hrep]
    exact .inr ((ite_eq_or_eq _ _ _).symm)

theorem frameMark_flits : ((s.frameMark pt fr bt).port pt).replay = (s.port pt).replay ∧ ((s.frameMark pt fr bt).port pt).gate = (s.port pt).gate := by
  rcases frameMark_cases s pt fr bt with ⟨h, -⟩ | h | h <;> rw [h]
  · exact ⟨rfl, rfl⟩
  · rw [marked_port]
    exact ⟨rfl, rfl⟩
  · rw [State.skewed, lnkPost_port, State.port_setPort_same, marked_port]
    exact ⟨rfl, rfl⟩

/-- After a mark, the port's registers show it, whether it is new or a repeat. -/
theorem frameMark_shows (hfr : fr < 2 ^ 56) (hbt : bt < 2 ^ 56) : (s.frameMark pt fr bt).lnkState pt = s.lnkState pt ∧
    (s.frameMark pt fr bt).getF (pgLnk pt) 0x158 0 55 0 = fr ∧ (s.frameMark pt fr bt).getF (pgLnk pt) 0x160 0 55 0 = bt := by
  have hmarked := And.intro (marked_lnkState s pt fr bt) (And.intro (marked_frame s pt fr bt hfr) (marked_beat s pt fr bt hbt))
  have hskewed {off : Nat} (hoff : 0x100 ≤ off ∧ off < 4096) (hpost : off ≠ 0x138 ∧ off ≠ 0x13C) :
      ((s.marked pt fr bt).skewed pt).reg (pgLnk pt) off 0 = (s.marked pt fr bt).reg (pgLnk pt) off 0 :=
    lnkPost_reg ..
  rcases frameMark_cases s pt fr bt with ⟨h, hrep⟩ | h | h <;> rw [h]
  · exact ⟨rfl, hrep⟩
  · exact hmarked
  · rw [lnkState_of_reg_eq (hskewed (by omega) (by omega)), getF_of_reg_eq (hskewed (by omega) (by omega)), getF_of_reg_eq (hskewed (by omega) (by omega))]
    exact hmarked

end

/-! The flit. -/

section
variable {s : State} {pt : Nat} {bs : List Byte}

theorem effCtl_up (hup : s.lnkState pt = 3) (hpeer : ctlId bs = s.wantPeer pt) : effCtl pt true bs s = (s.heardPeer pt (ctlId bs)).ctlUp pt bs := by
  have hsame : ctlId bs = (s.heardPeer pt (ctlId bs)).wantPeer pt := by rw [(SameNet.heardPeer s pt (ctlId bs)).wantPeer_eq, hpeer]
  unfold effCtl
  dsimp only
  rw [if_neg (by simp [hup]), if_neg (by omega)]
  exact if_neg (not_not_intro hsame)

theorem ctlUp_eq : s.ctlUp pt bs =
    ((List.range (min 14 (bitsOf (ctl bs 0x38 4) 19 16))).foldl (fun st k => st.takeBarrier pt (ctlMsg bs (0x50 + 32 * k)))
      ((if bitOf (ctl bs 0x10 4) 12 then (s.setPort pt ((s.port pt).heard bs)).resend pt (((s.port pt).heard bs).replay.filter
          (fun f => (f.lseq + 4096 - bitsOf (ctl bs 0x10 4) 24 13) % 4096 < 2048)) else s.setPort pt ((s.port pt).heard bs)).frameMark pt
        (ctl bs 0x20 8 % 2 ^ 48) (ctl bs 0x28 8 % 2 ^ 56))).pumpPort pt := rfl

/-- A control flit without a NAK and without barrier messages, at a port that has nothing to send. -/
theorem ctlUp_quiet (hgate : (s.port pt).gate = []) (hack : bitOf (ctl bs 0x10 4) 12 = false) (hmsgs : bitsOf (ctl bs 0x38 4) 19 16 = 0) :
    s.ctlUp pt bs = (s.setPort pt ((s.port pt).heard bs)).frameMark pt (ctl bs 0x20 8 % 2 ^ 48) (ctl bs 0x28 8 % 2 ^ 56) := by
  rw [ctlUp_eq, hack, hmsgs, if_neg Bool.false_ne_true, Nat.min_zero, List.range_zero, List.foldl_nil]
  refine pumpPort_empty ?_
  rw [(frameMark_flits ..).2, State.port_setPort_same, (Port.heard_flits ..).2, hgate]

end

end Sys2Proof.Machine
end

section
/-!
PROOFS. The statement on the flits of an UP port.
-/
namespace Sys2Proof.Machine

/-- Settles O40: a good flit is taken (`State.takes`), which the dike and the routing do not see (`SameNet.takes`); then it is delivered or dropped. With
an empty gate the port sends nothing after it. -/
theorem portsDeliverFlitsInOrder : Obligations.PortsDeliverFlitsInOrder := by
  intro s pt hdr piggy pay bs f hpt hf hup hdata
  refine ⟨fun hseq hfirst => ?bad, fun hagain => ?badAgain, fun hseq => ?outOfOrder, fun hseq hgate => ⟨fun p e hdike hreset hhere he hepoch _ => ?arrives,
    fun hdike => ?refused⟩, fun hpeer hgate hack hmsgs => ?control⟩
  case bad =>
    have hexec := exec_lnkDataFlit s hpt false hdr pay piggy
    rw [effDataFlit_bad hf hup hdata hseq hfirst] at hexec
    exact ⟨_, hexec, State.port_setPort_same .., setPort_sameBut s pt _⟩
  case badAgain =>
    have hexec := exec_lnkDataFlit s hpt false hdr pay piggy
    rw [effDataFlit_bad_again hf hup hdata hagain] at hexec
    exact ⟨_, hexec, lasting_startRetrain_lnkState s hpt, fun k => rfl⟩
  case outOfOrder => rw [exec_lnkDataFlit s hpt, effDataFlit_outOfOrder hf hup hdata hseq]
  case arrives =>
    have hexec := exec_lnkDataFlit s hpt true hdr pay piggy
    rw [effDataFlit_taken hf hup hdata hseq, takes_delivered hgate hdike hreset hhere he hepoch] at hexec
    have hkneaders : (s.takes pt f piggy).kneaders = s.kneaders := takes_sameBut s pt f piggy .kneaders (by decide)
    have hcount : (s.takes pt f piggy).reg (pgLnk pt) 0x140 0 = s.reg (pgLnk pt) 0x140 0 + 1 :=
      (takes_reg s pt f piggy).trans (reg_bump_same ..)
    by_cases hnext : f.fseq = e.expected
    · rw [if_pos hnext] at hexec
      refine ⟨_, hexec, ?_, ?_, fun k hk => ?_, fun _ => ⟨?_, ?_⟩, fun h => absurd hnext h⟩
      · rw [handOver_port, setFlow_port, takes_port, Port.took]
      · rw [handOver_reg .., setFlow_reg, hcount]
      · rw [handOver_port, setFlow_port, takes_port_other _ _ _ _ hk]
      · rw [handOver_inFlits, setFlow_knd, takes_knd]
      · rw [handOver_flows, setFlow_entry]
    · rw [if_neg hnext] at hexec
      refine ⟨_, hexec, ?_, hcount, fun k hk => ?_, fun h => absurd h hnext, fun _ => hkneaders⟩
      · rw [setFlow_port, takes_port, Port.took]
      · rw [setFlow_port, takes_port_other _ _ _ _ hk]
  case refused =>
    have hexec := exec_lnkDataFlit s hpt true hdr pay piggy
    rw [effDataFlit_taken hf hup hdata hseq, takes_refused hgate hdike] at hexec
    have hparts := ((takes_sameBut s pt f piggy).mono (by decide)).trans (linkDike_sameBut (s.takes pt f piggy) pt 0xFF)
    obtain ⟨b, hport⟩ := linkDike_port (s.takes pt f piggy) pt 0xFF
    refine ⟨_, hexec, ?_, hparts .kneaders (by decide), hparts .flows (by decide), ?_⟩
    · rw [hport, takes_port, Port.took]
    · have hdrops : (s.takes pt f piggy).reg (pgLnk pt) 0x148 0 = s.reg (pgLnk pt) 0x148 0 := (takes_reg s pt f piggy).trans (reg_setReg_at ..)
      rw [linkDike_dropped, getF_of_reg_eq hdrops]
  case control =>
    have hexec := exec_lnkCtlFlit s hpt true bs
    rw [effCtl_up hup hpeer, ctlUp_quiet (by rw [heardPeer_port, hgate]) hack hmsgs, heardPeer_port] at hexec
    obtain ⟨hstate, hframe, hbeat⟩ := frameMark_shows ((s.heardPeer pt (ctlId bs)).setPort pt ((s.port pt).heard bs)) pt (ctl bs 0x20 8 % 2 ^ 48)
      (ctl bs 0x28 8 % 2 ^ 56) (by omega) (by omega)
    refine ⟨_, hexec, ?_, ?_, hframe, hbeat⟩
    · rw [hstate]
      exact (heardPeer_lnkState s pt _).trans hup
    · rw [(frameMark_flits ..).1, State.port_setPort_same, (Port.heard_flits ..).1, Port.acked]

end Sys2Proof.Machine
end

section
/-!
CERTIFICATE. The frame of every command (O5).
-/
namespace Sys2Proof.Machine

/-- No command lists the queue among the parts it may change. -/
theorem pending_not_mem_touches (c : Instr) : Field.pending ∉ touches c :=
  of_decide_eq_false (by cases c <;> rfl)

/-- Settles O5: each command's law bounds what it changes by `touches`, which never lists the queue. -/
theorem commandsTouchOnlyTheirParts : Obligations.CommandsTouchOnlyTheirParts := by
  intro c s t h
  have hparts : s.sameBut (touches c) t := exec_sameBut h
  exact ⟨hparts .pending (pending_not_mem_touches c), hparts⟩

end Sys2Proof.Machine
end

section
/-!
CERTIFICATE. Arms and disarms (O44).
-/
namespace Sys2Proof.Machine

/-- The state after cold reset with the mode-arm page's first common counter (PG_CNT_SEL, R437) set to count recorded codes, event 3 of R467. -/
def countingCodes : State := State.reset.setReg pgArm 0x60 0 3

/-- A refusal of two control bits at once counts its code (R437) in the page's counter that counts codes. -/
theorem armCtrlMulti_counts_code :
    exec (.armCtrlMulti 3) countingCodes = .next (countingCodes.armRefuse 0x0548) ∧
      mapFind? (countingCodes.armRefuse 0x0548).regs (regKey pgArm 0x30 0) = some 1 ∧
      mapFind? countingCodes.regs (regKey pgArm 0x30 0) = none :=
  ⟨rfl, by decide +kernel, by decide +kernel⟩

/-- Refutes O44: a refusal with 0x0548 records a code, and a common counter that counts recorded codes (R437, R467) moves on with it, though it is none of
PLD_ARM_STATUS, PG_ERR and PG_ERR_FIRST. -/
theorem not_armsAndDisarms : ¬ Obligations.ArmsAndDisarms := by
  unfold Obligations.ArmsAndDisarms
  rintro ⟨-, h⟩
  obtain ⟨-, -, -, -, -, -, hmulti⟩ := h countingCodes
  obtain ⟨u, hu, -, -, -, -, hkeep⟩ := hmulti 3 (by decide)
  obtain ⟨hexec, hafter, hbefore⟩ := armCtrlMulti_counts_code
  obtain rfl : countingCodes.armRefuse 0x0548 = u := Host.Outcome.next.inj (hexec.symm.trans hu)
  have hsame := hkeep (regKey pgArm 0x30 0) (by decide)
  rw [hafter, hbefore] at hsame
  exact absurd hsame (by decide)

end Sys2Proof.Machine
end

section
/-!
SUPPORT. Which offsets an operation writes, on whichever page: the counterpart of `RegsOff`, which names the pages.
-/
namespace Sys2Proof.Machine

/-- Every register at an offset that is not in `os` is the same, of every page. -/
def OffsOnly (os : List Nat) (s u : State) : Prop := ∀ pg off sel, off ∉ os → off < 4096 → sel < 32768 → u.reg pg off sel = s.reg pg off sel

/-- The offsets of the six common counters (R437). -/
def counterOffs : List Nat := [0x30, 0x38, 0x40, 0x48, 0x50, 0x58]

/-- What recording a code writes: PG_ERR, PG_ERR_FIRST and the common counters. -/
def errOffs : List Nat := 0x18 :: 0x1C :: counterOffs

/-- What posting a record writes: INTAKE_REC_TAIL and INTAKE_REC_STATUS. -/
def postOffs : List Nat := [0x138, 0x13C]

/-- What a fault record writes: the code, the trace ring's state and drops, DEV_FAULT_CONTEXT, and the record ring. -/
def faultOffs : List Nat := errOffs ++ [0x110, 0x120, 0x300, 0x308, 0x310] ++ postOffs

namespace OffsOnly

theorem refl (os : List Nat) (s : State) : OffsOnly os s s := fun _ _ _ _ _ _ => rfl

theorem trans {os : List Nat} {s u v : State} (h : OffsOnly os s u) (g : OffsOnly os u v) : OffsOnly os s v :=
  fun pg off sel hn ho hs => (g pg off sel hn ho hs).trans (h pg off sel hn ho hs)

theorem mono {os qs : List Nat} {s u : State} (h : OffsOnly os s u) (hsub : os ⊆ qs) : OffsOnly qs s u :=
  fun pg off sel hn => h pg off sel fun hm => hn (hsub hm)

/-- An update of other parts of the state writes no register. -/
theorem of_regs {os : List Nat} {s u v : State} (h : OffsOnly os s u) (e : v.regs = u.regs) : OffsOnly os s v := fun pg off sel hn ho hs => by
  rw [← h pg off sel hn ho hs, State.reg, e, State.reg]

theorem getF {os : List Nat} {s u : State} (h : OffsOnly os s u) (pg : Nat) {off sel : Nat} (hi lo : Nat)
    (hn : off ∉ os ∧ off < 4096 ∧ sel < 32768) : u.getF pg off sel hi lo = s.getF pg off sel hi lo := getF_of_reg_eq (h pg off sel hn.1 hn.2.1 hn.2.2) hi lo

theorem foldl {α : Type} {os : List Nat} {f : State → α → State} (hf : ∀ st a, OffsOnly os st (f st a)) (l : List α) (s : State) :
    OffsOnly os s (l.foldl f s) :=
  List.foldlRecOn (motive := fun st => OffsOnly os s st) l f (refl os s) fun st h a _ => h.trans (hf st a)

section
variable {os : List Nat} {s0 s : State} {off sel : Nat}

theorem setReg (h : OffsOnly os s0 s) (pg : Nat) (v : Word) (hm : off ∈ os) (hs : off < 4096 ∧ sel < 32768) :
    OffsOnly os s0 (s.setReg pg off sel v) := fun pg' off' sel' hn ho' hs' =>
  (reg_setReg_offset s pg off sel pg' off' sel' v (fun e => hn (e ▸ hm)) hs.1 hs.2 ho' hs').trans (h pg' off' sel' hn ho' hs')

theorem ite {c : Prop} [Decidable c] {u : State} (h : OffsOnly os s0 s) (g : OffsOnly os s0 u) : OffsOnly os s0 (if c then s else u) := by
  split
  · exact h
  · exact g

theorem countEv (h : OffsOnly os s0 s) (pg ev n : Nat) (hsub : counterOffs ⊆ os) : OffsOnly os s0 (s.countEv pg ev n) := by
  have hmem : ∀ i < 6, 0x30 + 8 * i ∈ counterOffs := by decide
  refine ite h (List.foldlRecOn (motive := fun st => OffsOnly os s0 st) _ _ h fun st hst i hi => ?_)
  have hi : i < 6 := List.mem_range.1 hi
  exact ite (hst.setReg pg _ (hsub (hmem i hi)) (by omega)) hst

theorem err (h : OffsOnly os s0 s) (pg code : Nat) (hsub : errOffs ⊆ os) : OffsOnly os s0 (s.err pg code) := by
  have hlast (v : Word) : OffsOnly os s0 (s.setReg pg 0x18 0 v) := h.setReg pg v (hsub (by decide)) (by omega)
  exact (ite (hlast _) ((hlast _).setReg pg _ (hsub (by decide)) (by omega))).countEv pg 3 1 (List.Subset.trans (by decide) hsub)

theorem ringPut (h : OffsOnly os s0 s) (d : Nat) (r : List Byte) (hsub : 0x110 :: 0x120 :: counterOffs ⊆ os) : OffsOnly os s0 (s.ringPut d r) := by
  have hcount : counterOffs ⊆ os := List.Subset.trans (by decide) hsub
  have hring (g : TraceRing) : OffsOnly os s0 (s.setRing d g) := h.of_regs rfl
  exact ite ((hring _).countEv _ _ _ hcount)
    (ite ((((hring _).setReg _ _ (hsub (by decide)) (by omega)).setReg _ _ (hsub (by decide)) (by omega)).countEv _ _ _ hcount)
      (((hring _).setReg _ _ (hsub (by decide)) (by omega)).countEv _ _ _ hcount))

theorem traceRec (h : OffsOnly os s0 s) (d kind src ctx : Nat) (p : List Byte) (hsub : 0x110 :: 0x120 :: counterOffs ⊆ os) :
    OffsOnly os s0 (s.traceRec d kind src ctx p) := by
  have hfree : OffsOnly os s0 (drawFree s).2 := h.of_regs rfl
  unfold State.traceRec
  dsimp only
  refine ite h (ringPut ?_ d _ hsub)
  exact ite ((hfree.ringPut d _ hsub).of_regs rfl) hfree

theorem noteFault (h : OffsOnly os s0 s) (f : FaultInfo) (hsub : [0x300, 0x308, 0x310] ⊆ os) : OffsOnly os s0 (s.noteFault f) :=
  ite h (ite (h.setReg pgDev _ (hsub (by decide)) (by omega))
    ((h.setReg pgDev _ (hsub (by decide)) (by omega)).setReg pgDev _ (hsub (by decide)) (by omega)))

theorem slotWrite (h : OffsOnly os s0 s) (p : Nat) (r : Record) (hsub : postOffs ⊆ os) : OffsOnly os s0 (s.slotWrite p r) :=
  have htail : OffsOnly os s0 (((s.hostWrite p _ _).hostWrite p _ _).setReg (pgIntake p) 0x138 0 _) :=
    (h.of_regs (v := (s.hostWrite p _ _).hostWrite p _ _) rfl).setReg _ _ (hsub (by decide)) (by omega)
  htail.of_regs rfl

theorem postTo (h : OffsOnly os s0 s) (p : Nat) (r : Record) (hsub : postOffs ⊆ os) : OffsOnly os s0 (s.postTo p r) := by
  have hstatus (k : Intake) (v : Word) : OffsOnly os s0 ((s.setIntake p k).setReg (pgIntake p) 0x13C 0 v) :=
    (h.of_regs (v := s.setIntake p k) rfl).setReg _ _ (hsub (by decide)) (by omega)
  exact ite (h.slotWrite p r hsub) (ite (hstatus _ _) ((hstatus _ _).setReg _ _ (hsub (by decide)) (by omega)))

theorem post (h : OffsOnly os s0 s) (p : Option Nat) (r : Record) (hsub : postOffs ⊆ os) : OffsOnly os s0 (s.post p r) := by
  have hpf : OffsOnly os s0 (({ s with recSeq := s.recSeq + 1 } : State).postTo 0 r) :=
    (h.of_regs (v := { s with recSeq := s.recSeq + 1 }) rfl).postTo 0 r hsub
  cases p with
  | none => exact hpf
  | some n => exact ite hpf (hpf.postTo n r hsub)

theorem fault (h : OffsOnly os s0 s) (f : FaultInfo) (hsub : faultOffs ⊆ os) : OffsOnly os s0 (s.fault f) :=
  (((h.err _ _ (List.Subset.trans (by decide) hsub)).traceRec _ _ _ _ _ (List.Subset.trans (by decide) hsub)).noteFault f
    (List.Subset.trans (by decide) hsub)).post _ _ (List.Subset.trans (by decide) hsub)

end

end OffsOnly

/-- The code of a fault record stands in PG_ERR.last of its page. -/
theorem fault_last (s : State) (f : FaultInfo) : (s.fault f).getF f.page 0x18 0 31 16 = f.code % 2 ^ 16 := by
  have hafter : OffsOnly (0x110 :: 0x120 :: 0x300 :: 0x308 :: 0x310 :: 0x138 :: 0x13C :: counterOffs) (s.err f.page f.code) (s.fault f) :=
    (((OffsOnly.refl _ _).traceRec _ _ _ _ _ (by decide)).noteFault f (by decide)).post f.pol _ (by decide)
  rw [hafter.getF _ _ _ (by decide), err_last]

end Sys2Proof.Machine
end

section
/-!
CERTIFICATE. The counters of a page and the watch network (O56).
-/
namespace Sys2Proof.Machine

/-! Clearing the counters (R437). -/

theorem exec_counterClear {s : State} {pg : Nat} (h : (pageBlock pg).isSome = true) : exec (.counterClear pg) s = .next (s.clearCounters pg) := if_pos h

/-- A register that a loop sets to 0 for one of the elements reads 0 after it. -/
theorem foldl_setReg_zero (pg : Nat) (l : List Nat) (s : State) {i : Nat} (hi : i ∈ l) :
    (l.foldl (fun st i => st.setReg pg (0x30 + 8 * i) 0 0) s).reg pg (0x30 + 8 * i) 0 = 0 := by
  refine (foldl_achieves (P := fun _ => True) (Q := fun i st => st.reg pg (0x30 + 8 * i) 0 = 0) (fun _ _ h => h) (fun st a _ => reg_setReg_same ..)
    (fun st a b _ hb => ?_) l s trivial).2 i (.inl hi)
  by_cases h : regKey pg (0x30 + 8 * a) 0 = regKey pg (0x30 + 8 * b) 0
  · rw [State.reg, State.setReg, h, mapFind?_mapSet_same]
    rfl
  · rw [reg_setReg_other _ _ _ _ _ _ _ _ h, hb]

theorem foldl_setReg_find (pg : Nat) (l : List Nat) (s : State) {key : Nat} (hk : ∀ i ∈ l, key ≠ regKey pg (0x30 + 8 * i) 0) :
    mapFind? (l.foldl (fun st i => st.setReg pg (0x30 + 8 * i) 0 0) s).regs key = mapFind? s.regs key :=
  List.foldlRecOn (motive := fun st : State => mapFind? st.regs key = mapFind? s.regs key) l _ rfl fun _ hst i hi =>
    (mapFind?_mapSet_other _ _ _ _ (hk i hi).symm).trans hst

/-! The trace ring (R469, R470). -/

/-- A ring with the record `r` put into its slot at HEAD. -/
def TraceRing.put (g : TraceRing) (r : List Byte) : TraceRing :=
  { g with recs := mapSet g.recs g.head r, head := (g.head + 1) % 524288, fill := g.fill + 1, seq := g.seq + 1 }

theorem ringPut_room {s : State} {d : Nat} (hroom : (s.ring d).fill < 524288) (r : List Byte) : (s.ringPut d r).ring d = (s.ring d).put r := by
  rw [State.ringPut, if_pos hroom]
  obtain ⟨g, e⟩ := countEv_parts (s.setRing d ((s.ring d).put r)) (pgTrace d) 0x10 1
  exact (congrArg (State.ring · d) e).trans (State.ring_setRing_same ..)

/-- A record of no task that capture takes, with none dropped before it, is the one put into the ring. -/
theorem traceRec_captured {s : State} {d kind : Nat} (hon : s.getF (pgTrace d) 0x100 0 0 0 = 1)
    (hkind : s.getF (pgTrace d) 0x100 0 (16 + kind) (16 + kind) = 1) (hdrop : (s.ring d).dropPend = 0) (src : Nat) (p : List Byte) :
    s.traceRec d kind src 0xFFFF p = (drawFree s).2.ringPut d (traceBytes kind d src 0xFFFF (s.ring d).seq s.beat (drawFree s).1 p) := by
  have hring : (drawFree s).2.ring d = s.ring d := rfl
  unfold State.traceRec
  dsimp only
  rw [if_neg (by simp [hon, hkind]), if_neg (by rw [hring, hdrop]; omega)]
  rfl

/-! The watch network (R468). -/

theorem exec_watchSample {s : State} {d : Nat} (hd : d < 4) : exec (.watchSample d) s = .next (effWatch d s) := if_pos hd

/-- A slot is due where it is enabled and its period divides the beat. -/
def State.watchDue (s : State) (d k : Nat) : Prop :=
  s.getF (pgTrace d) 0x184 k 15 15 = 1 ∧ s.beat % max 1 (s.getF (pgTrace d) 0x188 k 15 0) = 0

theorem watchSlot_idle {s : State} {d k : Nat} (h : ¬ s.watchDue d k) : s.watchSlot d k = s := if_neg h

theorem watchSlot_due {s : State} {d k : Nat} (h : s.watchDue d k) : s.watchSlot d k = s.traceRec d 4 (pgTrace d) 0xFFFF
    (natLE 2 (s.getF (pgTrace d) 0x184 k 14 0) ++ natLE 2 (s.getF (pgTrace d) 0x184 k 27 16) ++ natLE 1 k ++ zeros 3 ++
      natLE 8 (s.watched d (s.getF (pgTrace d) 0x184 k 14 0) (s.getF (pgTrace d) 0x184 k 27 19 * 8))) := if_pos h

theorem foldl_watchSlot_idle {s : State} {d : Nat} {l : List Nat} (h : ∀ k ∈ l, ¬ s.watchDue d k) : l.foldl (fun st k => st.watchSlot d k) s = s :=
  List.foldlRecOn (motive := fun st => st = s) l _ rfl fun st hst k hk => by
    rw [hst]
    exact watchSlot_idle (h k hk)

/-- Where one slot alone is due, the sample is that slot's record. -/
theorem effWatch_one {s : State} {d k : Nat} (hk : k < 16) (hothers : ∀ j, j < 16 → j ≠ k → s.getF (pgTrace d) 0x184 j 15 15 = 0) :
    effWatch d s = s.watchSlot d k := by
  obtain ⟨l, r, hsplit⟩ := List.append_of_mem (List.mem_range.2 hk)
  have hnodup : (l ++ k :: r).Nodup := hsplit ▸ List.nodup_range
  obtain ⟨hkl, hkr⟩ : k ∉ l ∧ k ∉ r := by
    simp only [List.nodup_append, List.nodup_cons] at hnodup
    exact ⟨fun hl => hnodup.2.2 k hl k (List.mem_cons_self ..) rfl, hnodup.2.1.1⟩
  have hoff {j : Nat} (hj : j ∈ l ++ k :: r) (hne : j ≠ k) : s.getF (pgTrace d) 0x184 j 15 15 = 0 :=
    hothers j (List.mem_range.1 (hsplit ▸ hj)) hne
  have hregs : OffsOnly (0x110 :: 0x120 :: counterOffs) s (s.watchSlot d k) :=
    .ite ((OffsOnly.refl _ s).traceRec _ _ _ _ _ (List.Subset.refl _)) (.refl _ s)
  have hbefore : l.foldl (fun st k => st.watchSlot d k) s = s := foldl_watchSlot_idle fun j hj hdue => by
    have := hoff (List.mem_append_left _ hj) fun e => hkl (e ▸ hj)
    exact absurd hdue.1 (by omega)
  rw [effWatch, hsplit, List.foldl_append, List.foldl_cons, hbefore]
  refine foldl_watchSlot_idle fun j hj hdue => ?_
  have := hoff (List.mem_append_right _ (List.mem_cons_of_mem _ hj)) fun e => hkr (e ▸ hj)
  have hj16 : j < 16 := List.mem_range.1 (hsplit ▸ List.mem_append_right _ (List.mem_cons_of_mem _ hj))
  exact absurd hdue.1 (by rw [hregs.getF (pgTrace d) 15 15 ⟨by decide, by omega, by omega⟩]; omega)

/-- Settles O56: the loop over the counters sets each of them; of the loop over the slots only the slot that is due acts (`effWatch_one`). -/
theorem countersClearAndAreWatched : Obligations.CountersClearAndAreWatched := by
  refine ⟨fun s pg hpg => ⟨_, exec_counterClear hpg, fun i hi => foldl_setReg_zero pg _ s (List.mem_range.2 hi),
    fun k hk => foldl_setReg_find pg _ s fun i hi => hk i (List.mem_range.1 hi), exec_sameBut (exec_counterClear hpg)⟩,
    fun s d hd => ⟨fun hidle => ?idle, fun k hk hen hper hothers hon hkind hroom hdrop => ?due⟩⟩
  case idle =>
    rw [exec_watchSample hd, effWatch, foldl_watchSlot_idle fun k hk hdue => ?_]
    obtain ⟨hen, hper⟩ := hdue
    rcases hidle k (List.mem_range.1 hk) with h | h
    · exact absurd hen (by omega)
    · exact h hper
  case due =>
    have hexec := exec_watchSample (s := s) hd
    rw [effWatch_one hk hothers, watchSlot_due ⟨hen, hper⟩, traceRec_captured hon hkind hdrop] at hexec
    have hring := ringPut_room (s := (drawFree s).2) (d := d) hroom (traceBytes 4 d (pgTrace d) 0xFFFF (s.ring d).seq s.beat (drawFree s).1
      (natLE 2 (s.getF (pgTrace d) 0x184 k 14 0) ++ natLE 2 (s.getF (pgTrace d) 0x184 k 27 16) ++ natLE 1 k ++ zeros 3 ++
        natLE 8 (s.watched d (s.getF (pgTrace d) 0x184 k 14 0) (s.getF (pgTrace d) 0x184 k 27 19 * 8))))
    have hframe : s.sameBut [.regs, .freeCtr, .trace] _ := exec_sameBut hexec
    refine ⟨_, (drawFree s).1, hexec, ?_, ?_, hframe.mono (by decide), ?_⟩
    · rw [hring]; rfl
    · rw [hring]; rfl
    · rw [hring]; exact mapFind?_mapSet_same ..

end Sys2Proof.Machine
end

section
/-!
CERTIFICATE. The mailbox and firmware updates (O57).
-/
namespace Sys2Proof.Machine

/-! The mailbox (R452). -/

/-- What MBOX_STATUS shows once it is set: the state, the error and the length of the answer. -/
theorem setMbox_shows (s : State) (st err len : Nat) : (s.setMbox st err len).mboxState = st % 4 ∧
    (s.setMbox st err len).getF pgMbox 0x104 0 15 8 = err % 256 ∧ (s.setMbox st err len).getF pgMbox 0x104 0 26 16 = len % 2 ^ 11 := by
  refine ⟨?_, ?_, ?_⟩
  all_goals
    simp only [State.mboxState, State.setMbox, getF_setReg_same]
    rw [fld_ofNat _ _ _ (by omega)]
    omega

theorem exec_mboxSend (s : State) : exec .mboxSend s = .next (effMboxSend s) := rfl
theorem exec_mboxAbort (s : State) : exec .mboxAbort s = .next (s.setMbox 0 0 0) := rfl
theorem exec_mboxResponse (s : State) (err : Nat) (data : List Byte) : exec (.mboxResponse err data) s = .next (effMboxResponse err data s) := rfl
theorem exec_mboxTimeout (s : State) : exec .mboxTimeout s = .next (if s.mboxState = 1 then s.setMbox 3 3 0 else s) := rfl

section
variable {s : State}

theorem effMboxSend_ignored (h : s.mboxState = 1 ∨ s.mboxState = 3) : effMboxSend s = s := if_pos (by omega)

theorem effMboxSend_taken (h : s.mboxState = 0 ∨ s.mboxState = 2) : effMboxSend s =
    if s.getF pgMbox 0x108 0 10 0 = 0 ∨ 1024 < s.getF pgMbox 0x108 0 10 0 then s.setMbox 3 1 0 else s.setMbox 1 0 0 := if_neg (by omega)

theorem effMboxResponse_idle (h : s.mboxState ≠ 1) (err : Nat) (data : List Byte) : effMboxResponse err data s = s := if_pos h

theorem effMboxResponse_refused (h : s.mboxState = 1) {err : Nat} (he : err ≠ 0) (data : List Byte) : effMboxResponse err data s = s.setMbox 3 err 0 := by
  rw [effMboxResponse, if_neg (not_not_intro h), if_pos he]

theorem effMboxResponse_answered (h : s.mboxState = 1) (data : List Byte) : effMboxResponse 0 data s =
    (s.onModule (fun m => { m with mboxRsp := data.take 1024 })).setMbox 2 0 (min data.length 1024) := by
  rw [effMboxResponse, if_neg (not_not_intro h), if_neg (not_not_intro rfl)]

end

/-! Firmware updates (R454, R457). -/

theorem exec_fwUpdateTransfer (s : State) (comp off : Nat) (data : List Byte) : exec (.fwUpdateTransfer comp off data) s = .next (effFwTransfer comp off data s) := rfl
theorem exec_verifyComplete (s : State) (comp : Nat) (a b : Bool) (v : Nat) : exec (.verifyComplete comp a b v) s = .next (effVerify comp a b v s) := rfl

theorem onFlash_same (m : Module) (comp : Nat) (f : FlashComp → FlashComp) : mapGet (m.onFlash comp f).flash comp {} = f (mapGet m.flash comp {}) :=
  mapGet_mapSet_same ..

theorem onFlash_other (m : Module) {comp k : Nat} (f : FlashComp → FlashComp) (h : k ≠ comp) : mapGet (m.onFlash comp f).flash k {} = mapGet m.flash k {} :=
  mapGet_mapSet_other _ _ _ _ _ h.symm

section
variable {s : State} {comp : Nat}

theorem effFwTransfer_taken (h : s.updates comp = true) (off : Nat) (data : List Byte) : effFwTransfer comp off data s =
    s.onModule (fun m => m.onFlash comp (fun c => { c with staged := memWrite c.staged off data })) := if_neg (by simp [h])

theorem effVerify_taken (h : s.updates comp = true) (a b : Bool) (ver : Nat) : effVerify comp a b ver s = s.onModule (fun m => m.onFlash comp (fun c =>
    if a && b then { c with versions := mapSet c.versions (1 - c.inUse) (ver % 65536), next := 1 - c.inUse, staged := [] } else { c with staged := [] })) :=
  if_neg (by simp [h])

end

/-- Settles O57: one equation for each command and case; a flash component is read back by `onFlash_same` and `onFlash_other`. -/
theorem mailboxAndFirmware : Obligations.MailboxAndFirmware := by
  refine ⟨fun s => ⟨fun hfree => ?send, fun hbusy => ?ignored, ?abort, fun data hbusy => ⟨?answered,
    fun err he1 he => ?refused⟩, fun hbusy => ?timeout, fun hidle => ?idle⟩,
    fun s comp => ⟨fun hno => ⟨fun off data => ?noTransfer, fun a b v => ?noVerify⟩,
    fun hyes => ⟨fun off data => ?transfer, fun ver => ?good, fun a b ver hbad => ?bad⟩⟩⟩
  case send =>
    refine ⟨_, exec_mboxSend s, exec_sameBut (exec_mboxSend s), ?_⟩
    rw [effMboxSend_taken hfree]
    split
    · rw [if_neg (by omega)]
      exact (setMbox_shows ..).1
    · rw [if_pos (by omega)]
      exact ⟨(setMbox_shows ..).1, (setMbox_shows ..).2.1⟩
  case ignored => rw [exec_mboxSend, effMboxSend_ignored hbusy]
  case abort => exact ⟨_, exec_mboxAbort s, (setMbox_shows ..).1, exec_sameBut (exec_mboxAbort s)⟩
  case answered =>
    have hexec := exec_mboxResponse s 0 data
    rw [effMboxResponse_answered hbusy] at hexec
    obtain ⟨hstate, -, hlen⟩ := setMbox_shows (s.onModule (fun m => { m with mboxRsp := data.take 1024 })) 2 0 (min data.length 1024)
    exact ⟨_, hexec, hstate, rfl, hlen.trans (Nat.mod_eq_of_lt (by omega)), exec_sameBut hexec⟩
  case refused =>
    have hexec := exec_mboxResponse s err data
    rw [effMboxResponse_refused hbusy (by omega)] at hexec
    obtain ⟨hstate, herr, -⟩ := setMbox_shows s 3 err 0
    exact ⟨_, hexec, hstate, herr.trans (Nat.mod_eq_of_lt he), sameBut_regs s _⟩
  case timeout =>
    have hexec := exec_mboxTimeout s
    rw [if_pos hbusy] at hexec
    obtain ⟨hstate, herr, -⟩ := setMbox_shows s 3 3 0
    exact ⟨_, hexec, hstate, herr, exec_sameBut hexec⟩
  case idle =>
    refine ⟨?_, fun err data => ?_⟩
    · rw [exec_mboxTimeout, if_neg hidle]
    · rw [exec_mboxResponse, effMboxResponse_idle hidle]
  case noTransfer => rw [exec_fwUpdateTransfer, effFwTransfer, hno]; rfl
  case noVerify => rw [exec_verifyComplete, effVerify, hno]; rfl
  case transfer =>
    have hexec := exec_fwUpdateTransfer s comp off data
    rw [effFwTransfer_taken hyes] at hexec
    exact ⟨_, hexec, onFlash_same .., fun k hk => onFlash_other _ _ hk, exec_sameBut hexec⟩
  case good =>
    have hexec := exec_verifyComplete s comp true true ver
    rw [effVerify_taken hyes] at hexec
    refine ⟨_, hexec, ?_, ?_, ?_, exec_sameBut hexec⟩
    all_goals simp [State.onModule, onFlash_same]
  case bad =>
    have hexec := exec_verifyComplete s comp a b ver
    rw [effVerify_taken hyes, hbad] at hexec
    exact ⟨_, hexec, onFlash_same .., exec_sameBut hexec⟩

end Sys2Proof.Machine
end

section
/-!
CERTIFICATE. Management requests (O58).
-/
namespace Sys2Proof.Machine

/-! Which registers a change of a ceiling writes (R376, R392). -/

/-- What the throttle log, a ceiling and its episode write: a record and a code, GAUGE_LOG_STATUS, the level and the reason masks. -/
def ceilOffs : List Nat := [0x100, 0x104, 0x128] ++ faultOffs

namespace OffsOnly

variable {s0 s : State}

theorem powerPost (h : OffsOnly ceilOffs s0 s) (pg code cls unit : Nat) : OffsOnly ceilOffs s0 (s.powerPost pg code cls unit) := h.fault _ (by decide)

theorem retarget (h : OffsOnly ceilOffs s0 s) : OffsOnly ceilOffs s0 s.retarget :=
  (((h.setReg _ _ (by decide) (by omega)).setReg _ _ (by decide) (by omega)).setReg _ _ (by decide) (by omega)).setReg _ _ (by decide) (by omega)

theorem beginEpisode (h : OffsOnly ceilOffs s0 s) (r u low peak : Nat) : OffsOnly ceilOffs s0 (s.beginEpisode r u low peak) := by
  unfold State.beginEpisode
  extract_lets w s1
  have h1 : OffsOnly ceilOffs s0 s1 := h.of_regs rfl
  split
  · exact h1.powerPost _ _ _ _
  · exact h1

theorem logEpisode (h : OffsOnly ceilOffs s0 s) (e : Episode) : OffsOnly ceilOffs s0 (s.logEpisode e) := by
  unfold State.logEpisode
  extract_lets w bs lost s1 s2 s3
  have h1 : OffsOnly ceilOffs s0 s1 := h.of_regs rfl
  have h2 : OffsOnly ceilOffs s0 s2 := (h1.setReg _ _ (by decide) (by omega)).setReg _ _ (by decide) (by omega)
  have h3 : OffsOnly ceilOffs s0 s3 := h2.post _ _ (by decide)
  exact ite ((h3.setReg _ _ (by decide) (by omega)).powerPost _ _ _ _) h3

theorem endEpisode (h : OffsOnly ceilOffs s0 s) (r u : Nat) : OffsOnly ceilOffs s0 (s.endEpisode r u) := by
  unfold State.endEpisode
  split
  · exact h
  · apply logEpisode
    exact h.of_regs rfl

theorem setCeil (h : OffsOnly ceilOffs s0 s) (r u c peak : Nat) : OffsOnly ceilOffs s0 (s.setCeil r u c peak) := by
  unfold State.setCeil
  extract_lets c' w s1 was now low s2
  have h1 : OffsOnly ceilOffs s0 s1 := h.of_regs rfl
  have hpeak : OffsOnly ceilOffs s0 (s1.notePeak r u peak) := h1.of_regs rfl
  have hlow : OffsOnly ceilOffs s0 ((low s1).notePeak r u peak) := h1.of_regs rfl
  have h2 : OffsOnly ceilOffs s0 s2 := ite (h1.beginEpisode _ _ _ _) (ite (hpeak.endEpisode _ _) hlow)
  exact h2.retarget

end OffsOnly

/-- A change of the host level reaches no PWR_CFG. -/
theorem hostLevel_reg (s : State) (pg sel : Nat) (hs : sel < 32768) : s.hostLevel.reg pg 0x114 sel = s.reg pg 0x114 sel :=
  (OffsOnly.refl ceilOffs s).setCeil _ _ _ _ pg 0x114 sel (by decide) (by omega) hs

/-! A request on a path (R451). -/

section
variable {s : State} {b n : Nat} (hb : b < n)
include hb

theorem onPath_taken (h : s.answers b = true) (f : Unit → State) : onPath b n s f = .next (f ()) := by
  rw [onPath, onUnit, if_pos hb, if_pos h]

theorem onPath_silent (h : s.answers b = false) (f : Unit → State) : onPath b n s f = .next s := by
  rw [onPath, onUnit, if_pos hb, h]
  rfl

end

/-! The requests that act (R451, R453, R455). -/

section
variable {s : State} {b : Nat} (h : s.answers b = true)
include h

theorem exec_setEndpointId (hb : b < 3) (eid : Nat) : exec (.setEndpointId b eid) s = .next (effSetEid b eid s) :=
  onPath_taken hb h fun _ => effSetEid b eid s

theorem exec_setNumericEffecterValue (hb : b < 3) (id v : Nat) : exec (.setNumericEffecterValue b id v) s = .next (effSetEffecter b id v s) :=
  onPath_taken hb h fun _ => effSetEffecter b id v s

theorem exec_negotiateAlgorithms (hb : b < 4) (asym hash : Nat) : exec (.negotiateAlgorithms b asym hash) s = .next (effNegotiate b asym hash s) :=
  onPath_taken hb h fun _ => effNegotiate b asym hash s

theorem exec_challenge (hb : b < 4) (slot : Nat) (nonce : List Byte) : exec (.challenge b slot nonce) s = .next (if slot = 0 then
    s.signed b .challenge [] nonce 96 else s.answer { binding := b, kind := .challenge, refused := true }) :=
  onPath_taken hb h fun _ => if slot = 0 then s.signed b .challenge [] nonce 96 else s.answer { binding := b, kind := .challenge, refused := true }

theorem exec_getMeasurements (hb : b < 4) {idx : Nat} {is : List Nat} (hm : measured idx = some is) (nonce : List Byte) :
    exec (.getMeasurements b idx nonce) s = .next (s.signed b .measurements (4 :: is) nonce (48 * is.length + 96)) := by
  show execGetMeasurements b idx nonce s = _
  rw [execGetMeasurements, hm]
  exact onPath_taken hb h fun _ => s.signed b .measurements (4 :: is) nonce (48 * is.length + 96)

end

/-- Another state with the answer sent is the next one. -/
theorem valueAnswer_mgmtOut (s : State) (b : Nat) (k : MgmtKind) (v : Option (List Nat)) :
    (s.valueAnswer b k v).mgmtOut = { binding := b, kind := k, refused := v.isNone, values := v.getD [] } :: s.mgmtOut := rfl

/-- The list of negotiated paths with path `b` in it. -/
theorem mem_algs_insert (l : List Nat) (b : Nat) : b ∈ (if l.contains b then l else l ++ [b]) := by
  split
  · next hb => exact List.contains_iff_mem.1 hb
  · exact List.mem_append_right _ (List.mem_singleton_self b)

/-- Settles O58: a request is answered as `onPath` says; the settings act through their registers, which the answer leaves alone. -/
theorem managementAnswersAndSettings : Obligations.ManagementAnswersAndSettings := by
  refine ⟨fun s b x c a n hb hc => ?answers, fun s b h => ⟨fun hb => ⟨fun eid => ?eid, fun v h1 h2 h5 => ?cap, fun v h1 h2 => ?level, fun id v hn1 hn2 => ?refused⟩,
    fun hb => ⟨fun asym hash => ?negotiate, fun nonce => ?challenge, fun slot nonce hslot => ?noSlot, fun idx nonce is hm => ?measure⟩⟩⟩
  case answers =>
    have hexec : exec c s = onPath b n s (fun _ => s.answer a) := by
      simp only [List.mem_cons, Prod.mk.injEq, List.not_mem_nil, or_false] at hc
      rcases hc with ⟨rfl, rfl, rfl⟩ | ⟨rfl, rfl, rfl⟩ | ⟨rfl, rfl, rfl⟩ | ⟨rfl, rfl, rfl⟩ | ⟨rfl, rfl, rfl⟩ | ⟨rfl, rfl, rfl⟩ | ⟨rfl, rfl, rfl⟩ |
        ⟨rfl, rfl, rfl⟩ | ⟨rfl, rfl, rfl⟩ | ⟨rfl, rfl, rfl⟩ | ⟨rfl, rfl, rfl⟩ | ⟨rfl, rfl, rfl⟩ | ⟨rfl, rfl, rfl⟩ | ⟨rfl, rfl, rfl⟩ | ⟨rfl, rfl, rfl⟩ |
        ⟨rfl, rfl, rfl⟩ | ⟨rfl, rfl, rfl⟩ <;> rfl
    exact ⟨fun h => ⟨_, hexec.trans (onPath_taken hb h _), rfl, Keeps.sameBut (State.answer_keeps (w := maskOf [.mgmtOut]) rfl (.refl _ s))⟩,
      fun h => hexec.trans (onPath_silent hb h _)⟩
  case eid =>
    have hexec := exec_setEndpointId h hb eid
    have hframe : s.sameBut [.mgmtOut, .module] _ := exec_sameBut hexec
    exact ⟨_, hexec, mapGet_mapSet_same .., fun k hk => mapGet_mapSet_other _ _ _ _ _ hk.symm, rfl, hframe.mono (by decide)⟩
  case cap =>
    have hexec := exec_setNumericEffecterValue h hb 1 v
    rw [effSetEffecter, if_pos ⟨rfl, h1, h2, h5⟩] at hexec
    refine ⟨_, _, hexec, ?_, valueAnswer_mgmtOut .., rfl⟩
    have hset : (s.setF pgPwr 0x100 0 7 0 (v / 5)).capChanged.getF pgPwr 0x100 0 7 0 = v / 5 % 2 ^ 8 :=
      (getF_setF_other _ _ _ _ _ _ _ _ _ _ _ _ (by decide)).trans (getF_setF_same _ _ _ _ _ _ _ (by omega) (by omega))
    exact hset.trans (Nat.mod_eq_of_lt (by omega))
  case level =>
    have hexec := exec_setNumericEffecterValue h hb 2 v
    rw [effSetEffecter, if_neg (by omega), if_pos ⟨rfl, h1, h2⟩] at hexec
    have hset : (s.setF pgPwr 0x114 0 4 0 v).hostLevel.getF pgPwr 0x114 0 4 0 = v % 2 ^ 5 :=
      (getF_of_reg_eq (hostLevel_reg _ _ _ (by omega)) 4 0).trans (getF_setF_same _ _ _ _ _ _ _ (by omega) (by omega))
    have hsent : (s.setF pgPwr 0x114 0 4 0 v).hostLevel.mgmtOut = s.mgmtOut :=
      Keeps.sameBut (fs := [.regs, .freeCtr, .recSeq, .pols, .intakes, .hostOut, .trace, .power])
        (State.hostLevel_keeps rfl (State.setF_keeps rfl (.refl _ s))) .mgmtOut (by decide)
    exact ⟨_, _, hexec, hset.trans (Nat.mod_eq_of_lt (by omega)), (valueAnswer_mgmtOut ..).trans (congrArg _ hsent), rfl⟩
  case refused =>
    have hexec := exec_setNumericEffecterValue h hb id v
    rw [effSetEffecter, if_neg hn1, if_neg hn2] at hexec
    exact ⟨_, _, hexec, valueAnswer_mgmtOut .., rfl, Keeps.sameBut (State.valueAnswer_keeps (w := maskOf [.mgmtOut]) rfl (.refl _ s))⟩
  case negotiate =>
    have hexec := exec_negotiateAlgorithms h hb asym hash
    rw [effNegotiate] at hexec
    split at hexec
    · next hset =>
      have hmem : b ∈ (if s.module.algs.contains b then s.module.algs else s.module.algs ++ [b]) := mem_algs_insert _ b
      exact ⟨_, _, hexec, rfl, iff_of_false Bool.false_ne_true (not_not_intro hmem), iff_of_true hmem (by simpa using hset)⟩
    · next hset =>
      have hmem : b ∉ s.module.algs.filter (· != b) := by simp
      exact ⟨_, _, hexec, rfl, iff_of_true rfl hmem, iff_of_false hmem (by simpa using hset)⟩
  case challenge =>
    have hexec := exec_challenge h hb 0 nonce
    rw [if_pos rfl] at hexec
    exact ⟨_, _, hexec, rfl, rfl, List.take_left .., by simp, exec_sameBut hexec⟩
  case noSlot =>
    have hexec := exec_challenge h hb slot nonce
    rw [if_neg hslot] at hexec
    exact ⟨_, _, hexec, rfl, rfl⟩
  case measure =>
    have hexec := exec_getMeasurements h hb hm nonce
    refine ⟨_, _, hexec, rfl, by simp, ?_, exec_sameBut hexec⟩
    exact (congrArg (List.take · _) rfl).trans (List.take_left' (by simp [Nat.add_comm]))

end Sys2Proof.Machine
end

section
/-!
CERTIFICATE. Codes, fault records and the record rings (O59).
-/
namespace Sys2Proof.Machine

/-! A code (R438). -/

/-- Recording a code is the writes of PG_ERR and, where none stood, PG_ERR_FIRST; the count of the event reaches neither. -/
theorem err_reg_last (s : State) (pg code : Nat) : (s.err pg code).reg pg 0x18 0 =
    setFld (if s.getF pg 0x18 0 0 0 = 1 then setFld (s.reg pg 0x18 0) 1 1 1 else setFld (s.reg pg 0x18 0) 0 0 1) 31 16 code := by
  rw [State.err, countEv_reg _ _ _ _ _ _ _ (by omega) (by omega) (by omega), State.getF]
  split
  · exact reg_setReg_same ..
  · rw [reg_setReg_at .., reg_setReg_same]

theorem err_reg_first (s : State) (pg code : Nat) : (s.err pg code).reg pg 0x1C 0 =
    if s.getF pg 0x18 0 0 0 = 1 then s.reg pg 0x1C 0 else BitVec.ofNat 64 (code % 65536 + s.beat % 65536 * 65536) := by
  rw [State.err, countEv_reg _ _ _ _ _ _ _ (by omega) (by omega) (by omega), State.getF]
  split
  · exact reg_setReg_at ..
  · exact reg_setReg_same ..

/-- PG_ERR holds one code or more than one: `err` is set, and `more` where one stood. -/
theorem err_flags (s : State) (pg code : Nat) : (s.err pg code).getF pg 0x18 0 0 0 = 1 ∧ (s.getF pg 0x18 0 0 0 = 1 → (s.err pg code).getF pg 0x18 0 1 1 = 1) := by
  have hlow (w : Word) {i : Nat} (hi : i < 16) : fld (setFld w 31 16 code) i i = fld w i i := fld_setFld_other _ _ _ _ _ _ (by omega) (by omega)
  rw [State.getF, err_reg_last, hlow _ (by omega)]
  by_cases hstood : s.getF pg 0x18 0 0 0 = 1
  · refine ⟨?_, fun _ => ?_⟩
    · rw [if_pos hstood, fld_setFld_other _ _ _ _ _ _ (by omega) (by omega)]
      exact hstood
    · rw [State.getF, err_reg_last, hlow _ (by omega), if_pos hstood]
      exact fld_setFld_same _ _ _ _ (by omega) (by omega)
  · refine ⟨?_, fun h => absurd h hstood⟩
    rw [if_neg hstood]
    exact fld_setFld_same _ _ _ _ (by omega) (by omega)

/-! A fault record (R398, R400). -/

theorem postTo_sameBut (s : State) (p : Nat) (r : Record) : s.sameBut [.regs, .pols, .intakes, .hostOut] (s.postTo p r) :=
  Keeps.sameBut (State.postTo_keeps rfl (.refl _ s))

theorem post_recSeq (s : State) (p : Option Nat) (r : Record) : (s.post p r).recSeq = s.recSeq + 1 := by
  have hto (st : State) (n : Nat) : (st.postTo n r).recSeq = st.recSeq := postTo_sameBut st n r .recSeq (by decide)
  unfold State.post
  split
  · split
    · exact hto ..
    · exact (hto ..).trans (hto ..)
  · exact hto ..

theorem fault_sameBut (s : State) (f : FaultInfo) : s.sameBut [.regs, .freeCtr, .recSeq, .pols, .intakes, .hostOut, .trace] (s.fault f) :=
  Keeps.sameBut (State.fault_keeps rfl (.refl _ s))

/-- A fault record is kept and posted after its code and its trace record, which reach no part of DEV_FAULT_CONTEXT. -/
theorem fault_posts (s : State) (f : FaultInfo) : ∃ u r, s.fault f = (u.noteFault f).post f.pol r ∧ s.sameBut [.regs, .freeCtr, .trace] u ∧
    OffsOnly ([0x110, 0x120] ++ errOffs) s u :=
  ⟨_, _, rfl, Keeps.sameBut (State.traceRec_keeps rfl (State.err_keeps rfl (.refl _ s))),
    ((OffsOnly.refl _ s).err f.page f.code (by decide)).traceRec _ _ _ _ _ (by decide)⟩

theorem fault_recSeq (s : State) (f : FaultInfo) : (s.fault f).recSeq = s.recSeq + 1 := by
  obtain ⟨u, r, hfault, hframe, -⟩ := fault_posts s f
  have hnote : u.sameBut [.regs] (u.noteFault f) := Keeps.sameBut (State.noteFault_keeps rfl (.refl _ u))
  rw [hfault, post_recSeq, hnote .recSeq (by decide), hframe .recSeq (by decide)]

/-- What a fault record leaves in DEV_FAULT_CONTEXT is what keeping it leaves there. -/
theorem fault_context (s : State) (f : FaultInfo) : ∃ u, OffsOnly ([0x110, 0x120] ++ errOffs) s u ∧ u.beat = s.beat ∧
    OffsOnly postOffs (u.noteFault f) (s.fault f) := by
  obtain ⟨u, r, hfault, hframe, hregs⟩ := fault_posts s f
  exact ⟨u, hregs, hframe .beat (by decide), hfault ▸ (OffsOnly.refl _ _).post f.pol r (by decide)⟩

section
variable {s : State} {f : FaultInfo}

/-- The first record of class TASK or POLDER is kept. -/
theorem noteFault_first (hcls : f.cls = 3 ∨ f.cls = 4) (hfree : s.getF pgDev 0x300 0 48 48 = 0) : s.noteFault f =
    (s.setReg pgDev 0x300 0 (BitVec.ofNat 64 (f.ctx % 2 ^ 16 + f.tile % 2 ^ 13 * 2 ^ 16 + f.code % 2 ^ 16 * 2 ^ 32 + 2 ^ 48))).setReg
      pgDev 0x308 0 (BitVec.ofNat 64 (s.beat % 2 ^ 56)) := by
  rw [State.noteFault, if_neg (by omega), if_neg (by omega)]

/-- A later one is counted. -/
theorem noteFault_later (hcls : f.cls = 3 ∨ f.cls = 4) (hheld : s.getF pgDev 0x300 0 48 48 = 1) : s.noteFault f = s.sat pgDev 0x310 0 31 0 1 := by
  rw [State.noteFault, if_neg (by omega), if_pos hheld]

theorem fault_first (hcls : f.cls = 3 ∨ f.cls = 4) (hfree : s.getF pgDev 0x300 0 48 48 = 0) :
    (s.fault f).reg pgDev 0x300 0 = BitVec.ofNat 64 (f.ctx % 2 ^ 16 + f.tile % 2 ^ 13 * 2 ^ 16 + f.code % 2 ^ 16 * 2 ^ 32 + 2 ^ 48) ∧
      (s.fault f).reg pgDev 0x308 0 = BitVec.ofNat 64 (s.beat % 2 ^ 56) := by
  obtain ⟨u, hregs, hbeat, hpost⟩ := fault_context s f
  have hnote := noteFault_first hcls ((hregs.getF pgDev 48 48 (by decide)).trans hfree)
  refine ⟨?_, ?_⟩
  · rw [hpost _ _ _ (by decide) (by omega) (by omega), hnote, reg_setReg_at .., reg_setReg_same]
  · rw [hpost _ _ _ (by decide) (by omega) (by omega), hnote, reg_setReg_same, hbeat]

theorem fault_later (hcls : f.cls = 3 ∨ f.cls = 4) (hheld : s.getF pgDev 0x300 0 48 48 = 1) : (s.fault f).reg pgDev 0x300 0 = s.reg pgDev 0x300 0 ∧
    (s.fault f).reg pgDev 0x308 0 = s.reg pgDev 0x308 0 ∧
    (s.fault f).getF pgDev 0x310 0 31 0 = min (s.getF pgDev 0x310 0 31 0 + 1) (2 ^ 32 - 1) := by
  obtain ⟨u, hregs, hbeat, hpost⟩ := fault_context s f
  have hnote := noteFault_later hcls ((hregs.getF pgDev 48 48 (by decide)).trans hheld)
  have hkept {off : Nat} (hoff : off = 0x300 ∨ off = 0x308) : (u.sat pgDev 0x310 0 31 0 1).reg pgDev off 0 = u.reg pgDev off 0 := reg_setReg_at ..
  refine ⟨?_, ?_, ?_⟩
  · rw [hpost _ _ _ (by decide) (by omega) (by omega), hnote, hkept (.inl rfl), hregs _ _ _ (by decide) (by omega) (by omega)]
  · rw [hpost _ _ _ (by decide) (by omega) (by omega), hnote, hkept (.inr rfl), hregs _ _ _ (by decide) (by omega) (by omega)]
  · rw [hpost.getF _ _ _ (by decide), hnote, getF_sat_same _ _ _ _ _ _ _ (by omega) (by omega), hregs.getF _ _ _ (by decide)]

end

/-! A record ring (R446). -/

section
variable {s : State} {p : Nat}

theorem postTo_written (hempty : (s.intake p).backlog = []) (hcan : s.canPost p = true) (r : Record) : s.postTo p r = s.slotWrite p r :=
  if_pos ⟨hempty, hcan⟩

theorem postTo_waits (h : (s.intake p).backlog ≠ [] ∨ s.canPost p = false) (hroom : (s.intake p).backlog.length < 64) (r : Record) : s.postTo p r =
    (s.setIntake p { s.intake p with backlog := (s.intake p).backlog ++ [r] }).setF (pgIntake p) 0x13C 0 6 0 ((s.intake p).backlog.length + 1) := by
  have hno : ¬((s.intake p).backlog = [] ∧ s.canPost p = true) := fun hboth => h.elim (absurd hboth.1) (by simp [hboth.2])
  exact (if_neg hno).trans (if_pos hroom)

theorem postTo_lost (hfull : 64 ≤ (s.intake p).backlog.length) (r : Record) : s.postTo p r =
    ((s.setIntake p { s.intake p with lostPend := (s.intake p).lostPend + 1 }).sat (pgIntake p) 0x13C 0 31 16 1).orReg (pgIntake p) 0x13C 0 0x80 := by
  have hno : ¬((s.intake p).backlog = [] ∧ s.canPost p = true) := fun hboth => absurd hfull (by simp [hboth.1])
  exact (if_neg hno).trans (if_neg (by omega))

end

theorem slotWrite_sameBut (s : State) (p : Nat) (r : Record) : s.sameBut [.regs, .pols, .hostOut] (s.slotWrite p r) :=
  Keeps.sameBut (State.slotWrite_keeps rfl (.refl _ s))

/-- A record written advances the ring's tail. -/
theorem slotWrite_tail (s : State) (p : Nat) (r : Record) : (s.slotWrite p r).rqIdx p 0x138 = (s.rqIdx p 0x138 + 1) % 2 ^ 32 :=
  (getF_setF_same _ _ _ _ _ _ _ (by omega) (by omega)).trans (Nat.mod_mod ..)

theorem slotWrite_heartbeat (s : State) (p : Nat) (r : Record) : ((s.slotWrite p r).pol p).heartbeat = ((s.pol p).heartbeat + 1) % 2 ^ 64 :=
  congrArg Polder.heartbeat (State.pol_setPol_same ..)

/-- The host gets the body of the record, then its trailer. -/
theorem slotWrite_hostOut (s : State) (p : Nat) (r : Record) : (s.slotWrite p r).hostOut =
    { fn := p, addr := (s.reg (pgIntake p) 0x128 0).toNat + s.rqIdx p 0x138 % 2 ^ s.recLog p * 128 + 120,
      bytes := natLE 2 r.recType ++ natLE 2 r.length ++ zeros 3 ++ natLE 1 ((s.rqIdx p 0x138 / 2 ^ s.recLog p + 1) % 2) } ::
    { fn := p, addr := (s.reg (pgIntake p) 0x128 0).toNat + s.rqIdx p 0x138 % 2 ^ s.recLog p * 128, bytes := padTo 120 r.body } :: s.hostOut := rfl

/-- The phase stands in the last byte of a record's trailer. -/
theorem trailer_phase (typ len phase : Nat) : (natLE 2 typ ++ natLE 2 len ++ zeros 3 ++ natLE 1 phase).getD 7 0 = BitVec.ofNat 8 phase := rfl

/-- Settles O59: a code by `err_reg_last` and `err_reg_first`, a fault record by `fault_first` and `fault_later`, a record by the case of its ring. -/
theorem faultsAndRecords : Obligations.FaultsAndRecords := by
  refine ⟨⟨fun s pg code hcode => ⟨?last, (err_flags s pg code).1, fun hfree => ⟨?first, ?beat⟩, fun hheld => ⟨(err_flags s pg code).2 hheld, ?kept⟩,
    err_sameBut s pg code⟩, fun s f => ⟨fault_recSeq s f, fault_sameBut s f, fun hcls hfree => ?context, fun hcls hheld => fault_later hcls hheld⟩⟩,
    fun s p r hp => ⟨fun hempty hcan => ?written, fun hwait hroom => ?waits, fun hfull => ?lost⟩⟩
  case last => exact (err_last ..).trans (Nat.mod_eq_of_lt hcode)
  case first =>
    rw [State.getF, err_reg_first, if_neg (by omega), fld_ofNat _ _ _ (by omega)]
    omega
  case beat =>
    rw [State.getF, err_reg_first, if_neg (by omega), fld_ofNat _ _ _ (by omega)]
    omega
  case kept => rw [err_reg_first, if_pos hheld]
  case context =>
    obtain ⟨hcontext, hbeat⟩ := fault_first hcls hfree
    refine ⟨?_, ?_, ?_, ?_, hbeat⟩
    all_goals
      rw [State.getF, hcontext, fld_ofNat _ _ _ (by omega)]
      omega
  case written =>
    rw [postTo_written hempty hcan]
    exact ⟨slotWrite_tail s p r, slotWrite_heartbeat s p r, slotWrite_sameBut s p r, _, _, slotWrite_hostOut s p r, rfl, rfl, rfl, trailer_phase .., rfl, rfl⟩
  case waits =>
    rw [postTo_waits hwait hroom]
    refine ⟨congrArg Intake.backlog (State.intake_setIntake_same ..), ?_, Keeps.sameBut (State.setF_keeps rfl (State.setIntake_keeps rfl (.refl _ s)))⟩
    rw [getF_setF_same _ _ _ _ _ _ _ (by omega) (by omega)]
    omega
  case lost =>
    have hintake := State.intake_setIntake_same s p { s.intake p with lostPend := (s.intake p).lostPend + 1 }
    rw [postTo_lost hfull]
    exact ⟨congrArg Intake.lostPend hintake, (congrArg Intake.backlog hintake).trans rfl,
      Keeps.sameBut (State.orReg_keeps rfl (State.sat_keeps rfl (State.setIntake_keeps rfl (.refl _ s))))⟩

end Sys2Proof.Machine
end

section
/-!
CERTIFICATE. Register reads and JTAG access (O55).
-/
namespace Sys2Proof.Machine

/-! What a BAR read reaches (R431, R434, R435). -/

theorem exec_barRead (s : State) {f : Nat} (off size : Nat) (hf : f < 64) : exec (.barRead f off size) s = .next (effBarRead f off size s) := if_pos hf

theorem effBarRead_undecoded {s : State} {f : Nat} (off size : Nat) (hd : s.decodes f = false) : effBarRead f off size s = s := by
  rw [effBarRead, hd]; rfl

section
variable {s : State} {f off size : Nat} (hd : s.decodes f = true)
include hd

theorem effBarRead_decoded : effBarRead f off size s = { (s.barRead f off size).2 with readData := (s.barRead f off size).1 } := if_pos hd

theorem effBarRead_badSize (hg : goodSize off size = false) : effBarRead f off size s = { s.err pgDev 0x0151 with readData := 0xFFFF_FFFF } := by
  rw [effBarRead_decoded hd, State.barRead, hg]; rfl

/-- No page, or one that does not answer yet: the read returns 0. -/
theorem effBarRead_unanswered (hg : goodSize off size = true) (hno : ∀ pg, s.barPage f off = some pg → s.pageAnswers pg = false) :
    effBarRead f off size s = { s with readData := 0 } := by
  have hread : s.barRead f off size = (0, s) := by
    rw [State.barRead, hg]
    cases hpg : s.barPage f off with
    | none => rfl
    | some pg => simp only [hno pg hpg]; rfl
  rw [effBarRead_decoded hd, hread]

/-- A read of 4 bytes of a page that answers is a read of that page. -/
theorem effBarRead_answered {pg : Nat} (hoff : off % 4 = 0) (hpg : s.barPage f off = some pg) (ha : s.pageAnswers pg = true) :
    effBarRead f off 4 s = { (s.read4 f pg (off % 4096)).2 with readData := (s.read4 f pg (off % 4096)).1 } := by
  have hgood : goodSize off 4 = true := by simp [goodSize, hoff]
  have hread : s.barRead f off 4 = s.read4 f pg (off % 4096) := by
    simp only [State.barRead, hgood, hpg, ha]; rfl
  rw [effBarRead_decoded hd, hread]

end

/-! A read of 4 bytes at an offset of a page: the whole of a register, or a half of one (R434). -/

section
variable {s : State} {f pg o i : Nat} {b : Block} {r : RegSpec} (hb : pageBlock pg = some (b, i)) (hmbox : b ≠ .mbox) (hdie : ¬(b = .die ∧ o = 0x300))
include hb hmbox hdie

theorem read4_whole (htrace : ¬(b = .trace ∧ o = 0x15C)) (hr : regHalf b o = some (r, 0)) : s.read4 f pg o = (s.view 0 f pg r, s) := by
  simp [State.read4, hb, hmbox, hdie, htrace, hr]

theorem read4_low (hr : regHalf b o = some (r, 1)) :
    s.read4 f pg o = (s.view 0 f pg r % 2 ^ 32, { s with hiCap := mapSet s.hiCap (halfKey pg r) (s.view 0 f pg r / 2 ^ 32) }) := by
  simp [State.read4, hb, hmbox, hdie, hr]

theorem read4_high (hr : regHalf b o = some (r, 2)) {c : Nat} (hc : mapFind? s.hiCap (halfKey pg r) = some c) :
    s.read4 f pg o = (c, { s with hiCap := mapDrop s.hiCap (· == halfKey pg r) }) := by
  simp [State.read4, hb, hmbox, hdie, hr, hc]

end

/-! JTAG accesses (R473). -/

theorem exec_jtagRegisterAccess (s : State) (wr : Bool) (off size v : Nat) :
    exec (.jtagRegisterAccess wr off size v) s = .next (effJtagAccess wr off size v s) := rfl

theorem effJtagAccess_bypass {s : State} (h : s.module.jtagRegs = false) (wr : Bool) (off size v : Nat) : effJtagAccess wr off size v s = s.jtag 0 := by
  rw [effJtagAccess, h]; rfl

theorem jtag_sameBut (s : State) (v : Nat) : s.sameBut [.module] (s.jtag v) := Keeps.sameBut (State.jtag_keeps rfl (.refl _ s))

section
variable {s : State} (h : s.module.jtagRegs = true)
include h

theorem effJtagAccess_write (off size v : Nat) : effJtagAccess true off size v s = s.barWrite 0 off size v := by
  rw [effJtagAccess, h]; rfl

theorem effJtagAccess_read (off size v : Nat) : effJtagAccess false off size v s = (s.barRead 0 off size).2.jtag (s.barRead 0 off size).1 := by
  rw [effJtagAccess, h]; rfl

end

theorem sameBut_readData (s : State) (v : Nat) : s.sameBut [.readData] { s with readData := v } := Keeps.sameBut (Keeps.set_readData rfl (.refl _ s))

theorem sameBut_readData_hiCap (s : State) (v : Nat) (m : SMap Nat) : s.sameBut [.readData, .hiCap] { s with hiCap := m, readData := v } := by
  intro f hf
  cases f with
  | hiCap => simp at hf
  | readData => simp at hf
  | _ => rfl

/-- Settles O55: one equation for each case of a BAR read; JTAG reads and writes are BAR accesses of the PF. -/
theorem readsShowTheirRegister : Obligations.ReadsShowTheirRegister := by
  intro s f off hf
  refine ⟨fun size hd => ?undecoded, fun size hd hg => ?badSize, fun size hd hg hno => ?unanswered,
    fun pg b i r hd hoff hpg ha hb hmbox hdie htrace => ⟨fun hr => ?whole, fun hr => ?low, fun c hr hc => ?high⟩, fun wr size v hno => ?bypass,
    fun size v hyes hd => ⟨?write, ?read⟩⟩
  case undecoded => rw [exec_barRead s off size hf, effBarRead_undecoded off size hd]
  case badSize =>
    have hexec := exec_barRead s off size hf
    rw [effBarRead_badSize hd hg] at hexec
    exact ⟨_, hexec, rfl, err_last s pgDev 0x0151, Keeps.sameBut (Keeps.set_readData rfl (State.err_keeps rfl (.refl _ s)))⟩
  case unanswered =>
    have hexec := exec_barRead s off size hf
    rw [effBarRead_unanswered hd hg hno] at hexec
    exact ⟨_, hexec, rfl, sameBut_readData s 0⟩
  case whole =>
    have hexec := exec_barRead s off 4 hf
    rw [effBarRead_answered hd hoff hpg ha, read4_whole hb hmbox hdie htrace hr] at hexec
    exact ⟨_, hexec, rfl, sameBut_readData s _⟩
  case low =>
    have hexec := exec_barRead s off 4 hf
    rw [effBarRead_answered hd hoff hpg ha, read4_low hb hmbox hdie hr] at hexec
    exact ⟨_, hexec, rfl, mapFind?_mapSet_same .., sameBut_readData_hiCap s _ _⟩
  case high =>
    have hexec := exec_barRead s off 4 hf
    rw [effBarRead_answered hd hoff hpg ha, read4_high hb hmbox hdie hr hc] at hexec
    exact ⟨_, hexec, rfl, mapFind?_mapDrop_same .., sameBut_readData_hiCap s _ _⟩
  case bypass =>
    have hexec := exec_jtagRegisterAccess s wr off size v
    rw [effJtagAccess_bypass hno] at hexec
    exact ⟨_, hexec, rfl, jtag_sameBut s 0⟩
  case write => rw [exec_jtagRegisterAccess, effJtagAccess_write hyes, exec_registerWrite _ _ _ _ (by omega), effRegisterWrite, if_pos hd]
  case read =>
    have hexec := exec_jtagRegisterAccess s false off size v
    rw [effJtagAccess_read hyes] at hexec
    have hread := exec_barRead s off size (f := 0) (by omega)
    rw [effBarRead_decoded hd] at hread
    exact ⟨_, _, hexec, hread, rfl⟩

end Sys2Proof.Machine
end

section
/-!
CERTIFICATE. Debug hold and step of tiles and polders (O22).
-/
namespace Sys2Proof.Machine

theorem exec_dbgHold (s : State) {t : Nat} (ht : t < 4864) : exec (.dbgHold t) s = .next (s.holdTile t) := onTile_eq_next ht fun _ => s.holdTile t
theorem exec_dbgUnhold (s : State) {t : Nat} (ht : t < 4864) : exec (.dbgUnhold t) s = .next (s.unholdTile t) := onTile_eq_next ht fun _ => s.unholdTile t
theorem exec_dbgStep (s : State) {t : Nat} (ht : t < 4864) : exec (.dbgStep t) s = .next (s.stepTile t) := onTile_eq_next ht fun _ => s.stepTile t

/-! Hold and step of a tile (R462, R463). -/

section
variable {s : State} {t : Nat}

theorem holdTile_handshake (h : s.handshake t = true) : s.holdTile t = s.setF (pgTile t) 0xE00 0 0 0 1 := if_pos h

theorem holdTile_static (h : s.handshake t = false) : s.holdTile t = s.err (pgTile t) 0x2050 := if_neg (by simp [h])

theorem stepTile_static (h : s.handshake t = false) : s.stepTile t = s.err (pgTile t) 0x2050 := if_pos (by simp [h])

theorem held_of (h : s.handshake t = true) (hhold : s.getF (pgTile t) 0xE00 0 0 0 = 1) (hrun : (s.tile t).task = .running) : s.held t = true := by
  rw [State.held, hhold, h, hrun]
  rfl

/-- A step of a held tile marks it as stepping; one in progress is marked already. -/
theorem stepTile_held (h : s.handshake t = true) (hheld : s.held t = true) :
    (s.stepTile t).tile t = { s.tile t with dbgStep := true } ∧ s.onlyTile (s.stepTile t) t := by
  have hmode : ¬((!s.handshake t) = true) := by simp [h]
  by_cases hstep : (s.tile t).dbgStep = true
  · have hsame : s.stepTile t = s := by rw [State.stepTile, if_neg hmode, if_neg (by simp [hstep])]
    rw [hsame, ← hstep]
    exact ⟨rfl, onlyTile_refl s t⟩
  · rw [State.stepTile, if_neg hmode, if_pos ⟨hheld, by simpa using hstep⟩]
    exact ⟨onT_tile .., onlyTile_onT s t _⟩

end

/-! Hold and release of a polder (R465). -/

/-- One tile of a polder hold or release. -/
def State.debugTile (s : State) (hold : Bool) (t : Nat) : State := if hold then s.holdTile t else s.unholdTile t

/-- What TILE_DBG_CTRL.hold of a held or released tile shows. -/
def holdBit (hold : Bool) : Nat := if hold then 1 else 0

theorem effHoldApply_due {s : State} {p b : Nat} {hold : Bool} (hs : s.holds = [(p, hold, b)]) (hb : b ≤ s.beat) :
    effHoldApply s = (s.tilesOf p).foldl (fun u t => u.debugTile hold t) { s with holds := [] } := by
  have hnow : s.holds.filter (fun h => decide (h.2.2 ≤ s.beat)) = [(p, hold, b)] := by simp [hs, hb]
  have hlater : s.holds.filter (fun h => decide (s.beat < h.2.2)) = [] := by simp [hs, hb]
  unfold effHoldApply
  dsimp only
  rw [hnow, hlater]
  rfl

theorem effHoldApply_early {s : State} {p b : Nat} {hold : Bool} (hs : s.holds = [(p, hold, b)]) (hb : s.beat < b) : effHoldApply s = s := by
  have hnow : s.holds.filter (fun h => decide (h.2.2 ≤ s.beat)) = [] := by simp [hs, hb]
  have hlater : s.holds.filter (fun h => decide (s.beat < h.2.2)) = s.holds := by simp [hs, hb]
  unfold effHoldApply
  dsimp only
  rw [hnow, hlater]
  rfl

section
variable {s : State} {hold : Bool}

theorem debugTile_handshake (s : State) (hold : Bool) (t k : Nat) : (s.debugTile hold t).handshake k = s.handshake k := by
  have hact : (s.debugTile hold t).act = s.act := by
    unfold State.debugTile State.holdTile
    split
    · split
      · rfl
      · exact err_sameBut s _ _ .act (by decide)
    · rfl
  rw [State.handshake, State.handshake, State.getA, State.getA, State.regAct, State.regAct, hact]

theorem debugTile_self {t : Nat} (h : s.handshake t = true) : (s.debugTile hold t).getF (pgTile t) 0xE00 0 0 0 = holdBit hold := by
  cases hold with
  | true => exact (congrArg (State.getF · _ _ _ _ _) (holdTile_handshake h)).trans (getF_setF_same _ _ _ _ _ _ _ (by omega) (by omega))
  | false => exact getF_setF_same _ _ _ _ _ _ _ (by omega) (by omega)

/-- A tile that shows the hold or its release shows it after another tile's turn, and after its own. -/
theorem debugTile_keeps_bit {a b : Nat} (h : s.getF (pgTile b) 0xE00 0 0 0 = holdBit hold) : (s.debugTile hold a).getF (pgTile b) 0xE00 0 0 0 = holdBit hold := by
  have hset (x : Nat) (hx : x % 2 ^ 1 = holdBit hold) : (s.setF (pgTile a) 0xE00 0 0 0 x).getF (pgTile b) 0xE00 0 0 0 = holdBit hold := by
    by_cases hpg : pgTile a = pgTile b
    · rw [hpg]
      exact (getF_setF_same _ _ _ _ _ _ _ (by omega) (by omega)).trans hx
    · exact (getF_setF_other _ _ _ _ _ _ _ _ _ _ _ _ fun e => hpg (regKey_inj (by omega) (by omega) (by omega) (by omega) e).1).trans h
  cases hold with
  | true =>
    by_cases hmode : s.handshake a = true
    · exact (congrArg (State.getF · _ _ _ _ _) (holdTile_handshake hmode)).trans (hset 1 rfl)
    · have herr : s.debugTile true a = s.err (pgTile a) 0x2050 := holdTile_static (by simpa using hmode)
      rw [herr, ((OffsOnly.refl errOffs s).err _ _ (by decide)).getF _ _ _ (by decide), h]
  | false => exact hset 0 rfl

/-- A polder hold or release reaches every tile in handshake mode. -/
theorem foldl_debugTile (l : List Nat) {t : Nat} (ht : t ∈ l) (h : s.handshake t = true) :
    (l.foldl (fun u t => u.debugTile hold t) s).getF (pgTile t) 0xE00 0 0 0 = holdBit hold := by
  have hall := (foldl_achieves (P := fun u => ∀ k, u.handshake k = s.handshake k)
    (Q := fun t u => s.handshake t = true → u.getF (pgTile t) 0xE00 0 0 0 = holdBit hold)
    (fun u a hu k => (debugTile_handshake u hold a k).trans (hu k)) (fun u a hu ha => debugTile_self ((hu a).trans ha))
    (fun u a b _ hb hmode => debugTile_keeps_bit (hb hmode)) l s fun _ => rfl).2
  exact hall t (.inl ht) h

end

/-- Settles O22: a tile's hold and step by its mode; a polder's hold or release by the loop over its tiles (`foldl_debugTile`). -/
theorem holdsAndStepsAct : Obligations.HoldsAndStepsAct := by
  refine ⟨fun s t ht => ⟨fun hmode => ?hold, fun hmode => ?discarded, ?release, fun hmode hhold hrun => ?step, fun hmode => ?noStep⟩,
    fun s p => ⟨⟨_, rfl, rfl⟩, ⟨_, rfl, rfl⟩, fun d h0 hd => ⟨?otherHold, ?otherRelease⟩, fun hold b hs hb => ?due, fun hold b hs hb => ?early⟩⟩
  case hold =>
    have hexec := exec_dbgHold s ht
    rw [holdTile_handshake hmode] at hexec
    exact ⟨_, hexec, getF_setF_same _ _ _ _ _ _ _ (by omega) (by omega), exec_sameBut hexec,
      fun key hk => (RegsOff.refl [pgTile t] s).setF (List.mem_singleton_self _) (by omega) (by omega) key (by simpa using hk)⟩
  case discarded =>
    have hexec := exec_dbgHold s ht
    rw [holdTile_static hmode] at hexec
    exact ⟨_, hexec, ((OffsOnly.refl errOffs s).err _ _ (by decide)).getF _ _ _ (by decide), err_last .., err_sameBut s _ _⟩
  case release => exact ⟨_, exec_dbgUnhold s ht, getF_setF_same _ _ _ _ _ _ _ (by omega) (by omega), exec_sameBut (exec_dbgUnhold s ht)⟩
  case step =>
    obtain ⟨htile, hother⟩ := stepTile_held hmode (held_of hmode hhold hrun)
    exact ⟨_, exec_dbgStep s ht, htile, hother⟩
  case noStep =>
    have hexec := exec_dbgStep s ht
    rw [stepTile_static hmode] at hexec
    exact ⟨_, hexec, err_last .., err_sameBut s _ _⟩
  case otherHold => exact (if_pos hd).trans (congrArg Host.Outcome.next (if_neg (by omega)))
  case otherRelease => exact (if_pos hd).trans (congrArg Host.Outcome.next (if_neg (by omega)))
  case due =>
    have hexec : exec .polderHoldApply s = .next (effHoldApply s) := rfl
    have hparts := exec_sameBut hexec
    rw [effHoldApply_due hs hb] at hexec hparts
    refine ⟨_, hexec, ?_, hparts, fun t ht hmode => foldl_debugTile _ ht hmode⟩
    exact List.foldlRecOn (motive := fun u : State => u.holds = []) _ _ rfl fun u hu t _ => by
      have hkeep : u.sameBut [.regs] (u.debugTile hold t) := by
        unfold State.debugTile State.holdTile
        split
        · split
          · exact sameBut_regs u _
          · exact err_sameBut u _ _
        · exact sameBut_regs u _
      exact (hkeep .holds (by decide)).trans hu
  case early =>
    have hexec : exec .polderHoldApply s = .next (effHoldApply s) := rfl
    rw [hexec, effHoldApply_early hs hb]

end Sys2Proof.Machine
end

section
/-!
CERTIFICATE. The trace ring's readers, the anchor, the debug port and JTAG (O23).
-/
namespace Sys2Proof.Machine

/-! The ring (R470, R471). -/

section
variable {s : State} {d : Nat} (hd : d < 4)
include hd

theorem exec_traceRead : exec (.traceRead d) s = .next (effTraceRead d s) := if_pos hd
theorem exec_traceDump : exec (.traceDump d) s = .next (effDump d s) := if_pos hd
theorem exec_traceDumpDone (fail : Bool) : exec (.traceDumpDone d fail) s = .next (effDumpDone d fail s) := if_pos hd
theorem exec_traceAnchorCapture : exec (.traceAnchorCapture d) s = .next (effAnchor d s) := if_pos hd

end

/-- Writing records once more changes a register alone. -/
theorem traceRoom_sameBut (s : State) (d : Nat) : s.sameBut [.regs] (s.traceRoom d) := Keeps.sameBut (State.traceRoom_keeps rfl (.refl _ s))

theorem ring_of_trace {s u : State} (h : u.trace = s.trace) (d : Nat) : u.ring d = s.ring d := by rw [State.ring, State.ring, h]

theorem traceRoom_ring (s : State) (d : Nat) : (s.traceRoom d).ring d = s.ring d := ring_of_trace (traceRoom_sameBut s d .trace (by decide)) d

theorem advance_full {g : TraceRing} (h : 0 < g.fill) :
    g.advance = { g with recs := mapDrop g.recs (· == g.tail), tail := (g.tail + 1) % 524288, fill := g.fill - 1 } := if_neg (by omega)

theorem advance_fill (g : TraceRing) : g.advance.fill = g.fill - 1 := by
  unfold TraceRing.advance
  split
  · omega
  · rfl

theorem advance_dumpTo (g : TraceRing) : g.advance.dumpTo = g.dumpTo := by
  unfold TraceRing.advance
  split <;> rfl

section
variable {s : State} {d : Nat}

/-- A ring that the debug port does not read gives its record at TAIL. -/
theorem effTraceRead_taken (hport : s.tracePort d = false) (hrec : 0 < (s.ring d).fill) :
    (effTraceRead d s).readData = leNat ((padTo 32 (mapGet (s.ring d).recs (s.ring d).tail [])).drop 28) ∧
      (effTraceRead d s).ring d = (s.ring d).advance := by
  have htail : s.traceTail d = padTo 32 (mapGet (s.ring d).recs (s.ring d).tail []) := if_neg (by simp [hport]; omega)
  unfold effTraceRead
  dsimp only
  rw [if_neg (by simp [hport])]
  refine ⟨?_, (traceRoom_ring _ d).trans (State.ring_setRing_same ..)⟩
  rw [← htail]
  exact traceRoom_sameBut _ d .readData (by decide)

/-- A ring that is empty or that the debug port reads gives zeros and keeps its records. -/
theorem effTraceRead_none (h : s.tracePort d = true ∨ (s.ring d).fill = 0) : (effTraceRead d s).readData = 0 ∧ (effTraceRead d s).ring d = s.ring d := by
  have hzero : leNat ((s.traceTail d).drop 28) = 0 := by
    rw [State.traceTail, if_pos (Or.comm.1 h)]
    rfl
  unfold effTraceRead
  dsimp only
  rw [hzero]
  split
  · exact ⟨rfl, rfl⟩
  · next hport =>
    have hempty : (s.ring d).advance = s.ring d := if_pos (h.resolve_left hport)
    exact ⟨traceRoom_sameBut _ d .readData (by decide), (traceRoom_ring _ d).trans ((State.ring_setRing_same ..).trans hempty)⟩

end

/-- Sending `n` records takes them off the ring, with one write to the host for each. -/
theorem dumpRecs_spec (d n : Nat) (s : State) : ((State.dumpRecs n d s).ring d).fill = (s.ring d).fill - n ∧
    ((State.dumpRecs n d s).ring d).dumpTo = (s.ring d).dumpTo ∧ (State.dumpRecs n d s).hostOut.length = s.hostOut.length + n := by
  induction n generalizing s with
  | zero => exact ⟨rfl, rfl, rfl⟩
  | succ n ih =>
    rw [State.dumpRecs]
    obtain ⟨hfill, hdump, hout⟩ := ih ((s.hostWrite 0 ((s.reg (pgTrace d) 0x160 0).toNat + 32 * (s.ring d).tail)
      (padTo 32 (mapGet (s.ring d).recs (s.ring d).tail []))).setRing d (s.ring d).advance)
    rw [State.ring_setRing_same, advance_fill] at hfill
    rw [State.ring_setRing_same, advance_dumpTo] at hdump
    have hsent (a : Nat) (bs : List Byte) : ((s.hostWrite 0 a bs).setRing d (s.ring d).advance).hostOut.length = s.hostOut.length + 1 := rfl
    refine ⟨hfill.trans (by omega), hdump, ?_⟩
    rw [hout, hsent]
    omega

section
variable {s : State} {d : Nat}

theorem effDump_starts (hidle : (s.ring d).dumpTo = none) (hport : s.tracePort d = false) :
    effDump d s = s.setRing d { s.ring d with dumpTo := some (s.ring d).seq } := by
  rw [effDump, if_neg (by simp [hidle]), if_neg (by simp [hport])]

/-- A dump that failed, or that the PF can no longer write, records 0x1702. -/
theorem effDumpDone_failed {upTo : Nat} (hdump : (s.ring d).dumpTo = some upTo) :
    effDumpDone d true s = (s.setRing d { s.ring d with dumpTo := none }).tracePost d 0x1702 := by
  simp only [effDumpDone, hdump]
  rfl

theorem effDumpDone_sent {upTo : Nat} (hdump : (s.ring d).dumpTo = some upTo) (hlive : s.fnLive 0 = true) : effDumpDone d false s =
    (State.dumpRecs (upTo - ((s.ring d).seq - (s.ring d).fill)) d (s.setRing d { s.ring d with dumpTo := none })).traceRoom d := by
  simp only [effDumpDone, hdump, hlive]
  rfl

end

/-- A TRACE code stands in its page. -/
theorem tracePost_last (s : State) (d code : Nat) : (s.tracePost d code).getF (pgTrace d) 0x18 0 31 16 = code % 2 ^ 16 := fault_last s _

/-! The debug port (R472). -/

theorem exec_debugPortLock (s : State) : exec .debugPortLock s = .next (s.setF (pgTrace 0) 0x1A8 0 1 0 2) := rfl
theorem exec_debugPortDown (s : State) :
    exec .debugPortDown s = .next (if s.dbgPort = 2 then (s.setF (pgTrace 0) 0x1A8 0 1 0 0).tracePost 0 0x1703 else s) := rfl
theorem exec_debugPortFrame (s : State) : exec .debugPortFrame s = .next (effDebugFrame s) := rfl

/-- At most `n` records are taken from a ring. -/
theorem takeRecs_fill (n : Nat) (g : TraceRing) : g.fill - n ≤ (takeRecs n g).2.fill := by
  induction n generalizing g with
  | zero => exact Nat.le_refl _
  | succ n ih =>
    rw [takeRecs]
    split
    · next h => omega
    · have hrest := ih g.advance
      rw [advance_fill] at hrest
      exact Nat.le_trans (by omega) hrest

/-- The die in turn is one of the four, whatever rings hold records. -/
theorem find_die_lt (k : Nat) (ready : Nat → Bool) : (((List.range 4).map (fun j => (k + 1 + j) % 4)).find? ready).getD ((k + 1) % 4) < 4 := by
  cases hfind : ((List.range 4).map (fun j => (k + 1 + j) % 4)).find? ready with
  | none => exact Nat.mod_lt _ (by omega)
  | some d =>
    obtain ⟨j, -, rfl⟩ := List.mem_map.1 (List.mem_of_find?_eq_some hfind)
    exact Nat.mod_lt _ (by omega)

/-- A frame of an UP port: the next sequence number, a die of the four, one frame more, and at most seven records fewer in that die's ring. -/
theorem effDebugFrame_up {s : State} (h : s.dbgPort = 2) : ∃ d, d < 4 ∧ (effDebugFrame s).module.dbgSeq = (s.module.dbgSeq + 1) % 65536 ∧
    (effDebugFrame s).module.dbgDie = d ∧ (effDebugFrame s).module.dbgOut.length = s.module.dbgOut.length + 1 ∧
    (s.ring d).fill - 7 ≤ ((effDebugFrame s).ring d).fill := by
  have hroom (st : State) (k : Nat) : (st.traceRoom k).module = st.module := traceRoom_sameBut st k .module (by decide)
  unfold effDebugFrame
  rw [if_neg (not_not_intro h)]
  extract_lets m ready d
  have htaken : (s.ring d).fill - 7 ≤ (if ready d then takeRecs 7 (s.ring d) else ([], s.ring d)).2.fill := by
    split
    · exact takeRecs_fill 7 _
    · exact Nat.sub_le ..
  generalize (if ready d then takeRecs 7 (s.ring d) else ([], s.ring d)) = taken at htaken
  obtain ⟨recs, g⟩ := taken
  have hout : ((s.setRing d g).traceRoom d).module.dbgOut = s.module.dbgOut := congrArg Module.dbgOut (hroom (s.setRing d g) d)
  have hring : ((s.setRing d g).traceRoom d).ring d = g := (traceRoom_ring _ d).trans (State.ring_setRing_same ..)
  exact ⟨d, find_die_lt _ ready, rfl, rfl, congrArg (List.length · + 1) hout, htaken.trans_eq (congrArg TraceRing.fill hring.symm)⟩

/-! JTAG (R473). -/

section
variable {s : State} (pins : Nat)

theorem effSample_acts (h : s.module.moduleEn = false) :
    effSample pins s = ((drawFree s).2.jtag (drawFree s).1).onModule (fun m => { m with bscan := pins }) := if_neg (by simp [h])

theorem effExtest_acts (h : s.module.moduleEn = false) :
    effExtest pins s = ((drawFree s).2.jtag (drawFree s).1).onModule (fun m => { m with driven := some m.bscan, bscan := pins }) := if_neg (by simp [h])

end

/-- Settles O23: one equation per command; a dump by `dumpRecs_spec`, a frame of the debug port by `effDebugFrame_up`. -/
theorem traceAnchorAndDebugPort : Obligations.TraceAnchorAndDebugPort := by
  refine ⟨fun s d hd => ⟨fun hport hrec => ?read, fun hnone => ?noRead, fun hidle hport => ?dump, fun n hdump hlive hn hle => ?done, fun hdump => ?failed⟩,
    fun s => ⟨?anchor, fun d h0 hd => ?noAnchor, ?lock, fun hup => ?down, fun hdown => ⟨?notUp, ?noFrame⟩, fun hup => ?frame⟩,
    fun s pins => ⟨⟨_, rfl, rfl⟩, ⟨_, rfl, rfl, Keeps.sameBut (State.jtag_keeps rfl (.refl _ s))⟩, fun hlow => ⟨?sample, ?extest⟩, fun hhigh => ⟨?sampleBypass, ?extestBypass⟩⟩⟩
  case read =>
    obtain ⟨hdata, hring⟩ := effTraceRead_taken hport hrec
    refine ⟨_, exec_traceRead hd, hdata, ?_, ?_, ?_, exec_sameBut (exec_traceRead hd)⟩
    all_goals rw [hring, advance_full hrec]
  case noRead => exact ⟨_, exec_traceRead hd, effTraceRead_none hnone⟩
  case dump =>
    have hexec := exec_traceDump (s := s) hd
    rw [effDump_starts hidle hport] at hexec
    exact ⟨_, hexec, Keeps.sameBut (State.setRing_keeps rfl (.refl _ s)), State.ring_setRing_same ..⟩
  case done =>
    obtain ⟨upTo, hupTo⟩ := Option.ne_none_iff_exists'.1 hdump
    have hexec := exec_traceDumpDone (s := s) hd false
    rw [effDumpDone_sent hupTo hlive, show upTo - ((s.ring d).seq - (s.ring d).fill) = n by rw [hn, hupTo]; rfl] at hexec
    obtain ⟨hfill, hdumpTo, hout⟩ := dumpRecs_spec d n (s.setRing d { s.ring d with dumpTo := none })
    have hroom := traceRoom_sameBut (State.dumpRecs n d (s.setRing d { s.ring d with dumpTo := none })) d
    rw [State.ring_setRing_same] at hfill hdumpTo
    refine ⟨_, hexec, ?_, ?_, ?_, Keeps.sameBut (State.traceRoom_keeps rfl (State.dumpRecs_keeps rfl (State.setRing_keeps rfl (.refl _ s))))⟩
    · rw [traceRoom_ring, hdumpTo]
    · rw [traceRoom_ring, hfill]
    · rw [hroom .hostOut (by decide), hout]
      rfl
  case failed =>
    obtain ⟨upTo, hupTo⟩ := Option.ne_none_iff_exists'.1 hdump
    have hexec := exec_traceDumpDone (s := s) hd true
    rw [effDumpDone_failed hupTo] at hexec
    exact ⟨_, hexec, tracePost_last ..⟩
  case anchor =>
    refine ⟨_, exec_traceAnchorCapture (s := s) (d := 0) (by omega), ?_, reg_setReg_same .., exec_sameBut (exec_traceAnchorCapture (by omega))⟩
    exact (reg_setReg_at ..).trans (reg_setReg_same ..)
  case noAnchor => rw [exec_traceAnchorCapture hd, effAnchor, if_pos (by omega)]
  case lock => exact ⟨_, exec_debugPortLock s, getF_setF_same _ _ _ _ _ _ _ (by omega) (by omega), exec_sameBut (exec_debugPortLock s)⟩
  case down =>
    have hexec := exec_debugPortDown s
    rw [if_pos hup] at hexec
    have hkept : OffsOnly faultOffs (s.setF (pgTrace 0) 0x1A8 0 1 0 0) ((s.setF (pgTrace 0) 0x1A8 0 1 0 0).tracePost 0 0x1703) :=
      (OffsOnly.refl _ _).fault _ (List.Subset.refl _)
    exact ⟨_, hexec, (hkept.getF _ _ _ (by decide)).trans (getF_setF_same _ _ _ _ _ _ _ (by omega) (by omega)), tracePost_last ..⟩
  case notUp => rw [exec_debugPortDown, if_neg hdown]
  case noFrame => rw [exec_debugPortFrame, effDebugFrame, if_pos hdown]
  case frame =>
    obtain ⟨d, hd, hseq, hdie, hout, hfill⟩ := effDebugFrame_up hup
    exact ⟨_, d, exec_debugPortFrame s, hseq, hdie, hd, hout, hfill, exec_sameBut (exec_debugPortFrame s)⟩
  case sample =>
    have hexec : exec (.jtagSamplePreload pins) s = .next (effSample pins s) := rfl
    have hparts : s.sameBut [.freeCtr, .module] _ := exec_sameBut hexec
    rw [effSample_acts pins hlow] at hexec hparts
    exact ⟨_, hexec, rfl, rfl, hparts.mono (by decide)⟩
  case extest =>
    have hexec : exec (.jtagExtest pins) s = .next (effExtest pins s) := rfl
    have hparts : s.sameBut [.freeCtr, .module] _ := exec_sameBut hexec
    rw [effExtest_acts pins hlow] at hexec hparts
    exact ⟨_, hexec, rfl, rfl, hparts.mono (by decide)⟩
  case sampleBypass => exact congrArg Host.Outcome.next (if_pos hhigh)
  case extestBypass => exact congrArg Host.Outcome.next (if_pos hhigh)

end Sys2Proof.Machine
end

section
/-!
CERTIFICATE. The input switch, the rails, trips and power-good (O24).
-/
namespace Sys2Proof.Machine

/-! Loss of power (R275, R429, R458, R484). -/

/-- What a cold reset leaves: both memories are lost, and the MODULE_EN pin is as it was. -/
theorem cold_spec (s : State) : s.cold.scr = [] ∧ s.cold.hbm = [] ∧ s.cold.module.moduleEn = s.module.moduleEn := by
  unfold State.cold
  extract_lets m keep base s1 s2
  have hpins : Keeps (maskOf [.regs, .slices]) s1 s2 := by
    refine Keeps.foldl (fun st e hst => Keeps.foldl (fun u r hu => Keeps.foldl (fun v c hv => ?_) _ _ ?_) _ _ hst) _ _ (.refl _ s1)
    · exact State.setSlice_keeps rfl hv
    · exact State.sat_keeps rfl hu
  have hmaps : s1.sameBut [.regs, .slices] (m.retireMap.foldl (fun st e =>
      (st.setReg (pgDie e.1) 0x400 0 (BitVec.ofNat 64 e.2)).setReg (pgDie e.1) 0x410 0 (BitVec.ofNat 64 e.2)) s2) := by
    refine Keeps.sameBut (Keeps.foldl (fun st e hst => ?_) _ _ hpins)
    exact State.setReg_keeps rfl (State.setReg_keeps rfl hst)
  have hmodule := hmaps .module (by decide)
  exact ⟨hmaps .scr (by decide), hmaps .hbm (by decide), (congrArg Module.moduleEn hmodule).trans rfl⟩

/-- The device without its rails. -/
theorem railsOff_spec (s : State) : s.railsOff.scr = [] ∧ s.railsOff.hbm = [] ∧ s.railsOff.module.moduleEn = s.module.moduleEn ∧
    s.railsOff.module.pwrGood = false ∧ s.railsOff.module.railsOn = false := by
  obtain ⟨hscr, hhbm, hen⟩ := cold_spec s
  exact ⟨hscr, hhbm, hen, rfl, rfl⟩

theorem inputLost_on {s : State} (h : s.module.hotswap = true) : s.inputLost =
    { s.railsOff with module := { s.railsOff.module with hotswap := false, stewardOk := false, stewardFailed := false, thermtrip := false } } :=
  if_neg (by simp [h])

theorem inputLost_hotswap (s : State) : s.inputLost.module.hotswap = false := by
  by_cases h : s.module.hotswap = true
  · rw [inputLost_on h]
  · have hoff : s.inputLost = s := if_pos (by simpa using h)
    rw [hoff]
    simpa using h

theorem inputLost_rails {s : State} (h : s.module.hotswap = true) : s.inputLost.module.railsOn = false := by rw [inputLost_on h]; rfl

/-- A graceful power-down ends without power. -/
theorem graceful_spec {s : State} (h : s.module.pwrGood = true) : s.graceful.scr = [] ∧ s.graceful.hbm = [] ∧
    s.graceful.module.moduleEn = s.module.moduleEn ∧ s.graceful.module.pwrGood = false ∧ s.graceful.module.railsOn = false := by
  have hpolders : s.shutPolders.module.moduleEn = s.module.moduleEn := by
    have hstops : Keeps (maskOf [.regs, .freeCtr, .recSeq, .tiles, .pols, .intakes, .hostOut, .trace, .flight, .ports, .kneaders])
        ({ s with module := { s.module with powerDown := true } } : State) s.shutPolders := by
      unfold State.shutPolders
      refine Keeps.foldl (fun st p h => ?_) _ _ (State.fault_keeps rfl (.refl _ _))
      split
      · exact State.polderStop_keeps rfl h
      · exact h
    have hmodule := hstops.sameBut .module (by decide)
    exact (congrArg Module.moduleEn hmodule).trans rfl
  have hslices : s.shutPolders.shutSlices.module = s.shutPolders.module :=
    Keeps.sameBut (fs := [.regs, .freeCtr, .hbm, .slices, .poison]) (State.shutSlices_keeps rfl (.refl _ _)) .module (by decide)
  rw [State.graceful, if_neg (by simp [h])]
  obtain ⟨hscr, hhbm, hen, hgood, hrails⟩ := railsOff_spec s.shutPolders.shutSlices
  exact ⟨hscr, hhbm, hen.trans ((congrArg Module.moduleEn hslices).trans hpolders), hgood, hrails⟩

/-- The rails start unless the Steward, MODULE_EN or a trip holds them. -/
theorem startRails_railsOn (s : State) :
    s.startRails.module.railsOn = (s.module.railsOn || (s.module.stewardOk && s.module.moduleEn && !s.module.thermtrip)) := by
  unfold State.startRails
  split
  · next h => simp [h]
  · next h =>
    have hno : (s.module.stewardOk && s.module.moduleEn && !s.module.thermtrip) = false := by simpa [and_assoc] using h
    rw [hno, Bool.or_false]

theorem startRails_others (s : State) : s.startRails.module.moduleEn = s.module.moduleEn ∧ s.startRails.module.stewardOk = s.module.stewardOk ∧
    s.startRails.module.slot = s.module.slot := by
  unfold State.startRails
  split
  · exact ⟨rfl, rfl, rfl⟩
  · exact ⟨rfl, rfl, rfl⟩

/-! The commands (R456 to R458, R484 to R488). -/

theorem exec_hotswapOn (s : State) : exec .hotswapOn s = .next (effHotswapOn s) := rfl
theorem exec_hotswapUvlo (s : State) : exec .hotswapUvlo s = .next (s.inputOff (fun m => { m with ocpLatched := false })) := rfl
theorem exec_hotswapOvp {s : State} (h : s.module.hotswap = true) : exec .hotswapOvp s = .next (s.inputOff (fun m => { m with ovp := true })) :=
  congrArg Host.Outcome.next (if_pos h)
theorem exec_hotswapOcp {s : State} (h : s.module.hotswap = true) : exec .hotswapOcp s = .next (s.inputOff (fun m => { m with ocpLatched := true })) :=
  congrArg Host.Outcome.next (if_pos h)
theorem exec_mateLastRelease (s : State) :
    exec .mateLastRelease s = .next (s.inputOff (fun m => { m with mateLast := false, ovp := false, ocpLatched := false })) := rfl
theorem exec_ovpRecovery {s : State} (h : s.module.ovp = true) :
    exec .ovpRecovery s = .next (s.onModule (fun m => { m with ovp := false, hotswap := m.hotswap || (m.mateLast && !m.ocpLatched) })) :=
  congrArg Host.Outcome.next (if_neg (by simp [h]))
theorem exec_moduleEnRise (s : State) : exec .moduleEnRise s = .next (s.onModule (fun m => { m with moduleEn := true })).startRails := rfl
theorem exec_stewardVerified {s : State} {k : Nat} (hk : k < 2) (hon : s.module.hotswap = true) (hno : s.module.stewardOk = false) :
    exec (.stewardVerified k) s = .next (s.onModule (fun m => { m with stewardOk := true, slot := k, fallback := m.fallback || (mapGet m.flash 1 {}).inUse != k })).startRails :=
  congrArg Host.Outcome.next ((if_neg (by simp [hon, hno])).trans (if_neg (by omega)))
theorem exec_thermtrip (s : State) {r k : Nat} (hk : k < sensorCount r) : exec (.thermtrip r k) s = .next (s.thermTrip r k) := if_pos hk
theorem exec_thermtripClear {s : State} (h : s.module.moduleEn = false) :
    exec .thermtripClear s = .next (if s.module.thermtrip then s.onModule (fun m => { m with thermtrip := false }) else s) :=
  congrArg Host.Outcome.next (by simp [effTripClear, h])
theorem exec_moduleEnFall (s : State) : exec .moduleEnFall s = .next (effModuleEnFall s) := rfl
theorem exec_pldmPowerDown (s : State) : exec .pldmPowerDown s = .next s.graceful := rfl
theorem exec_inputUv (s : State) : exec .inputUv s = .next (s.fault { code := 0x0203, page := pgPwr, cls := 6, detail := detOther 0xFF [] }).graceful := rfl

theorem thermTrip_trips {s : State} {r k : Nat} (hon : s.module.railsOn = true) (hno : s.module.thermtrip = false) : s.thermTrip r k =
    { s.railsOff with module := { s.railsOff.module with thermtrip := true, tripLog := s.module.tripLog ++ [(r, k)] } } := if_neg (by simp [hon, hno])

/-- The fall of MODULE_EN ends power-good, and with it both memories' contents. -/
theorem effModuleEnFall_spec (s : State) : (effModuleEnFall s).module.moduleEn = false ∧ (effModuleEnFall s).module.pwrGood = false ∧
    (s.module.pwrGood = true → (effModuleEnFall s).scr = []) := by
  unfold effModuleEnFall
  dsimp only
  by_cases hgood : s.module.pwrGood = true
  · obtain ⟨hscr, -, hen, hend, -⟩ := graceful_spec (s := s.onModule (fun m => { m with moduleEn := false })) hgood
    rw [if_pos hgood]
    exact ⟨hen, hend, fun _ => hscr⟩
  · rw [if_neg hgood]
    split
    · obtain ⟨-, -, hen, hend, -⟩ := railsOff_spec (s.onModule (fun m => { m with moduleEn := false }))
      exact ⟨hen, hend, fun h => absurd h hgood⟩
    · exact ⟨rfl, Bool.eq_false_of_not_eq_true hgood, fun h => absurd h hgood⟩

/-- Settles O24: the input switch by `inputLost_on`, the ends of power by `railsOff_spec` and `graceful_spec`, the rails' start by `startRails_railsOn`. -/
theorem inputAndRailsFollowTheirPins : Obligations.InputAndRailsFollowTheirPins := by
  refine ⟨fun s => ⟨?on, ⟨_, exec_hotswapUvlo s, inputLost_hotswap s, rfl⟩, fun h => ⟨_, exec_hotswapOvp h, inputLost_hotswap s, rfl, inputLost_rails h⟩,
    fun h => ⟨_, exec_hotswapOcp h, inputLost_hotswap s, rfl, inputLost_rails h⟩, ⟨_, exec_mateLastRelease s, inputLost_hotswap s, rfl, rfl, rfl⟩,
    fun h => ⟨_, exec_ovpRecovery h, rfl, exec_sameBut (exec_ovpRecovery h), rfl⟩⟩,
    fun s => ⟨?rise, fun k hk hon hno => ?steward, fun r k hk hon hno => ?trip, fun hen => ?clear, ?fall, fun hgood => ⟨?down, ?undervoltage⟩⟩⟩
  case on =>
    refine ⟨_, exec_hotswapOn s, ?_, exec_sameBut (exec_hotswapOn s), ?_⟩
    all_goals
      unfold effHotswapOn
      split
      · rfl
      · rfl
  case rise =>
    obtain ⟨hen, -, -⟩ := startRails_others (s.onModule (fun m => { m with moduleEn := true }))
    refine ⟨_, exec_moduleEnRise s, hen, exec_sameBut (exec_moduleEnRise s), ?_⟩
    rw [startRails_railsOn]
    simp [State.onModule]
  case steward =>
    have hexec := exec_stewardVerified hk hon hno
    obtain ⟨-, hok, hslot⟩ := startRails_others (s.onModule (fun m => { m with stewardOk := true, slot := k, fallback := m.fallback || (mapGet m.flash 1 {}).inUse != k }))
    refine ⟨_, hexec, hok, hslot, ?_, exec_sameBut hexec⟩
    rw [startRails_railsOn]
    simp [State.onModule]
  case trip =>
    have hexec := exec_thermtrip s hk
    rw [thermTrip_trips hon hno] at hexec
    obtain ⟨hscr, hhbm, -, hgood, hrails⟩ := railsOff_spec s
    exact ⟨_, hexec, rfl, hrails, hgood, rfl, hscr, hhbm⟩
  case clear =>
    refine ⟨_, exec_thermtripClear hen, ?_, exec_sameBut (exec_thermtripClear hen)⟩
    split
    · rfl
    · next h => simpa using h
  case fall =>
    obtain ⟨hen, hgood, hscr⟩ := effModuleEnFall_spec s
    exact ⟨_, exec_moduleEnFall s, hen, hgood, fun _ => hscr⟩
  case down =>
    obtain ⟨hscr, hhbm, -, hend, hrails⟩ := graceful_spec hgood
    exact ⟨_, exec_pldmPowerDown s, hend, hrails, hscr, hhbm⟩
  case undervoltage =>
    have hmodule : (s.fault { code := 0x0203, page := pgPwr, cls := 6, detail := detOther 0xFF [] }).module = s.module :=
      fault_sameBut s _ .module (by decide)
    obtain ⟨hscr, hhbm, -, hend, hrails⟩ := graceful_spec ((congrArg Module.pwrGood hmodule).trans hgood)
    exact ⟨_, exec_inputUv s, hend, hrails, hscr, hhbm⟩

end Sys2Proof.Machine
end

section
/-!
CERTIFICATE. Boot (O25).
-/
namespace Sys2Proof.Machine

theorem exec_powerGood (s : State) : exec .powerGood s = .next (effPowerGood s) := rfl
theorem exec_bootDieFwDone (s : State) (f : Bool) : exec (.bootDieFwDone f) s = .next (effBootFw f s) := rfl
theorem exec_bootMemoryDone (s : State) (ppr : List Nat) : exec (.bootMemoryDone ppr) s = .next (effBootMemory ppr s) := rfl
theorem exec_bootLinksDone (s : State) (ms : Nat) : exec (.bootLinksDone ms) s = .next (effBootLinks ms s) := rfl
theorem exec_bootStageTimeout (s : State) (reason ms : Nat) : exec (.bootStageTimeout reason ms) s = .next (effBootFail reason ms s) := rfl

theorem bootState_setF (s : State) {n : Nat} (hn : n < 8) : (s.setF pgDev 0x100 0 2 0 n).bootState = n :=
  (getF_setF_same _ _ _ _ _ _ _ (by omega) (by omega)).trans (Nat.mod_eq_of_lt (by omega))

/-- The state of boot is its own field of DEV_BOOT_STATUS. -/
theorem bootState_setF_field (s : State) (hi lo x : Nat) (hlo : 2 < lo) (hle : lo ≤ hi) : (s.setF pgDev 0x100 0 hi lo x).bootState = s.bootState :=
  getF_setF_field _ _ _ _ _ _ _ _ _ hle (.inl hlo)

theorem bootState_of_reg_eq {s u : State} (h : u.reg pgDev 0x100 0 = s.reg pgDev 0x100 0) : u.bootState = s.bootState := getF_of_reg_eq h 2 0

section
variable {s : State}

theorem effPowerGood_on (hon : s.module.railsOn = true) (hno : s.module.pwrGood = false) : effPowerGood s =
    ((s.onModule (fun m => { m with pwrGood := true, portTrained := !m.perst })).setF pgDev 0x100 0 2 0 1).setF pgDev 0x100 0 16 16 (b2n s.module.fallback) :=
  if_neg (by simp [hon, hno])

/-- DIE_FW ends in MEMORY; a component that came from its other slot is remembered. -/
theorem effBootFw_spec (h : s.bootState = 1) (f : Bool) : (effBootFw f s).bootState = 2 ∧ (effBootFw f s).module.fallback = (s.module.fallback || f) := by
  rw [effBootFw, if_neg (by omega)]
  cases f with
  | false => exact ⟨bootState_setF s (by omega), (Bool.or_false _).symm⟩
  | true => exact ⟨(bootState_setF_field _ _ _ _ (by omega) (by omega)).trans (bootState_setF s (by omega)), (Bool.or_true _).symm⟩

/-- MEMORY ends with every byte zero, every block fresh and every tile idle, whatever the repairs did. -/
theorem effBootMemory_spec (h : s.bootState = 2) (ppr : List Nat) : (effBootMemory ppr s).bootState = 3 ∧ (effBootMemory ppr s).hbm = [] ∧
    (effBootMemory ppr s).scr = [] ∧ (effBootMemory ppr s).clean = [] ∧ (effBootMemory ppr s).tiles = [] := by
  unfold effBootMemory
  rw [if_neg (by omega)]
  extract_lets s1 s2
  have hrepair : s1.sameBut [.regs, .freeCtr, .recSeq, .pols, .intakes, .hostOut, .trace, .slices, .stackSt] (s2.repairRows ppr) := by
    refine Keeps.sameBut (State.repairRows_keeps rfl (Keeps.foldl (fun st k hst => ?_) _ _ (.refl _ s1)))
    exact State.setF_keeps rfl hst
  exact ⟨bootState_setF _ (by omega), hrepair .hbm (by decide), hrepair .scr (by decide), hrepair .clean (by decide), hrepair .tiles (by decide)⟩

end

/-- What the BOOT record writes: the record ring's tail or its status. -/
theorem OffsOnly.postFirst (s : State) (r : Record) : OffsOnly postOffs s (s.postFirst r) := by
  unfold State.postFirst
  extract_lets k s1
  have h1 : OffsOnly postOffs s s1 := (OffsOnly.refl _ s).of_regs rfl
  split
  · exact h1.postTo 0 r (List.Subset.refl _)
  · exact (h1.of_regs (v := s1.setIntake 0 _) rfl).setReg _ _ (by decide) (by omega)

/-- LINKS ends in READY with the boot time; the codes and records that follow reach neither register. -/
theorem effBootLinks_spec {s : State} (h : s.bootState = 3) (ms : Nat) : (effBootLinks ms s).bootState = 4 ∧
    (effBootLinks ms s).getF pgDev 0x104 0 31 0 = ms % 2 ^ 32 ∧ (effBootLinks ms s).module.tripLog = [] := by
  unfold effBootLinks
  rw [if_neg (by omega)]
  extract_lets m s1 s2 code s3 body s4
  have h3 : OffsOnly faultOffs s2 s3 := .ite ((OffsOnly.refl _ s2).err _ _ (by decide)) (.refl _ s2)
  have h4 : OffsOnly faultOffs s2 s4 := h3.trans ((OffsOnly.postFirst s3 _).mono (by decide))
  have hend : OffsOnly faultOffs s2 (m.tripLog.foldl (fun st e => st.fault { code := 0x0206, page := pgPwr, cls := 6, detail := detOther 0xFF [e.1, e.2] }) s4) :=
    h4.trans (OffsOnly.foldl (fun st e => (OffsOnly.refl _ st).fault _ (List.Subset.refl _)) _ _)
  have hstate : s2.bootState = 4 := (bootState_of_reg_eq (reg_setReg_at ..)).trans (bootState_setF s1 (by omega))
  have htime : s2.getF pgDev 0x104 0 31 0 = ms % 2 ^ 32 := getF_setF_same _ _ _ _ _ _ _ (by omega) (by omega)
  exact ⟨(hend.getF pgDev 2 0 (by decide)).trans hstate, (hend.getF pgDev 31 0 (by decide)).trans htime, rfl⟩

/-- A stage that fails ends boot with its reason. -/
theorem effBootFail_spec {s : State} (hlo : 0 < s.bootState) (hhi : s.bootState < 4) (reason ms : Nat) : (effBootFail reason ms s).bootState = 5 ∧
    (effBootFail reason ms s).getF pgDev 0x100 0 15 8 = reason % 2 ^ 8 ∧ (effBootFail reason ms s).getF pgDev 0x18 0 31 16 = 0x0153 := by
  rw [effBootFail, if_neg (by omega)]
  have hfault (u : State) (f : FaultInfo) : OffsOnly faultOffs u (u.fault f) := (OffsOnly.refl _ u).fault f (List.Subset.refl _)
  refine ⟨?_, ?_, fault_last _ _⟩
  · refine ((hfault _ _).getF pgDev 2 0 (by decide)).trans ((bootState_of_reg_eq (reg_setReg_at ..)).trans ?_)
    exact (bootState_setF_field _ _ _ _ (by omega) (by omega)).trans (bootState_setF s (by omega))
  · refine ((hfault _ _).getF pgDev 15 8 (by decide)).trans ((getF_of_reg_eq (reg_setReg_at ..) 15 8).trans ?_)
    exact getF_setF_same _ _ _ _ _ _ _ (by omega) (by omega)

/-- Settles O25: what each stage's end leaves. -/
theorem bootRunsThroughItsStages : Obligations.BootRunsThroughItsStages := by
  intro s
  refine ⟨fun hon hno => ?powerGood, fun f h => ?dieFw, fun ppr h => ?memory, fun ms h => ⟨_, exec_bootLinksDone s ms, effBootLinks_spec h ms⟩,
    fun reason ms hlo hhi => ⟨_, exec_bootStageTimeout s reason ms, effBootFail_spec hlo hhi reason ms⟩⟩
  case powerGood =>
    have hexec := exec_powerGood s
    rw [effPowerGood_on hon hno] at hexec
    exact ⟨_, hexec, (bootState_setF_field _ _ _ _ (by omega) (by omega)).trans (bootState_setF _ (by omega)), rfl, exec_sameBut hexec⟩
  case dieFw =>
    obtain ⟨hstate, hfallback⟩ := effBootFw_spec h f
    exact ⟨_, exec_bootDieFwDone s f, hstate, hfallback, exec_sameBut (exec_bootDieFwDone s f)⟩
  case memory =>
    obtain ⟨hstate, hhbm, hscr, hclean, htiles⟩ := effBootMemory_spec h ppr
    refine ⟨_, exec_bootMemoryDone s ppr, hstate, hhbm, hscr, hclean, fun t => ?_⟩
    rw [State.tile, htiles]
    rfl

end Sys2Proof.Machine
end

section
/-!
CERTIFICATE. Requests that complete at once, RUN and STEP (O50).
-/
namespace Sys2Proof.Machine

section
variable (s : State) {p : Nat} (hp : p < 64) (e : List Byte)
include hp

theorem exec_nopReq : exec (.nopReq p e) s = .next (s.request p e (· == 0) (fun st => st.reqDone p 0)) := if_pos hp
theorem exec_badRequest : exec (.badRequest p e) s = .next (s.request p e (fun o => decide (6 < o)) (fun st => st.reqDone p 0x0663)) := if_pos hp
theorem exec_run : exec (.run p e) s = .next (effRun p e s) := if_pos hp
theorem exec_step : exec (.step p e) s = .next (effStep p e s) := if_pos hp
theorem exec_restore (bad : List Nat) : exec (.restore p e bad) s = .next (effRestore p e bad s) := if_pos hp

end

theorem request_waits {s : State} {p : Nat} {e : List Byte} {f : Nat → Bool} (h : s.canStart p e f = false) (eff : State → State) :
    s.request p e f eff = s := by rw [State.request, h]; rfl

theorem canStart_fnLive {s : State} {p : Nat} {e : List Byte} {f : Nat → Bool} (h : s.canStart p e f = true) : s.fnLive p = true := by
  simp only [State.canStart, Bool.and_eq_true] at h
  exact h.1.1.2

/-! The state in which a request has begun (R440). -/

section
variable (s : State) (p : Nat) (e : List Byte)

theorem begun_inState : (s.begun p e).inState p = 2 :=
  (getF_setF_field _ _ _ _ _ _ _ _ _ (by omega) (by omega)).trans (getF_setF_same _ _ _ _ _ _ _ (by omega) (by omega))

theorem begun_offs : OffsOnly [0x104] s (s.begun p e) :=
  ((OffsOnly.refl [0x104] s).of_regs (v := s.setIntake p _) rfl |>.setReg _ _ (by decide) (by omega)).setReg _ _ (by decide) (by omega)

theorem begun_sameBut : s.sameBut [.regs, .intakes] (s.begun p e) :=
  Keeps.sameBut (State.setF_keeps rfl (State.setIn_keeps rfl (State.setIntake_keeps rfl (.refl _ s))))

theorem begun_runnable : (s.begun p e).runnable p = s.runnable p := by
  have hdir (im : Image) : (s.begun p e).dirTiles p im = s.dirTiles p im := by
    rw [State.dirTiles, State.dirTiles, (SameLayout.begun s p e).tileOf_eq]
  have hpol : (s.begun p e).pol p = s.pol p := rfl
  have htile (t : Nat) : (s.begun p e).tile t = s.tile t := rfl
  unfold State.runnable
  rw [hpol]
  split
  · rfl
  · simp only [hdir, htile]
    rfl

end

/-! The end of a request (R441). -/

section
variable {s : State} {p : Nat}

theorem reqEnd_busy (h : s.inState p = 2) :
    s.reqEnd p = ((s.setIntake p { s.intake p with entry := none, result := none }).setF (pgIntake p) 0x104 0 15 8 0).setIn p 1 := by
  unfold State.reqEnd
  dsimp only
  rw [if_neg (by omega), if_neg (by omega)]

theorem reqEnd_spec (h : s.inState p = 2) : (s.reqEnd p).inState p = 1 ∧ ((s.reqEnd p).intake p).entry = none ∧ (s.reqEnd p).hostOut = s.hostOut ∧
    OffsOnly [0x104] s (s.reqEnd p) := by
  rw [reqEnd_busy h]
  exact ⟨getF_setF_same _ _ _ _ _ _ _ (by omega) (by omega), congrArg Intake.entry (State.intake_setIntake_same ..), rfl,
    (((OffsOnly.refl [0x104] s).of_regs (v := s.setIntake p _) rfl).setReg _ _ (by decide) (by omega)).setReg _ _ (by decide) (by omega)⟩

/-- A result goes into the place of the request in progress, and DONE advances. -/
theorem reqWrite_spec (h : s.inState p = 2) (r : Nat) : (s.reqWrite p r).rqIdx p 0x11C = (s.rqIdx p 0x11C + 1) % 2 ^ 32 ∧
    (s.reqWrite p r).inState p = 1 ∧ ((s.reqWrite p r).intake p).entry = none ∧
    { fn := p, addr := (s.reg (pgIntake p) 0x108 0).toNat + s.rqIdx p 0x11C % 2 ^ s.rqLog p * 64 + 2, bytes := natLE 2 r } ∈ (s.reqWrite p r).hostOut := by
  unfold State.reqWrite
  extract_lets pg done next tally s1 s2
  have hs2 : s2.regs = s.regs ∧ { fn := p, addr := (s.reg pg 0x108 0).toNat + done % 2 ^ s.rqLog p * 64 + 2, bytes := natLE 2 r } ∈ s2.hostOut := by
    by_cases htally : tally = 0
    · have hs2 : s2 = s1 := if_pos htally
      rw [hs2]
      exact ⟨rfl, List.mem_cons_self ..⟩
    · have hs2 : s2 = s1.hostWrite p tally (natLE 8 next) := if_neg htally
      rw [hs2]
      exact ⟨rfl, List.mem_cons_of_mem _ (List.mem_cons_self ..)⟩
  obtain ⟨hregs, hout⟩ := hs2
  have hstate : (s2.setF pg 0x11C 0 31 0 next).inState p = 2 := by
    refine (getF_of_reg_eq (reg_setReg_at ..) 2 0).trans (Eq.trans ?_ h)
    rw [State.inState, State.getF, State.getF, State.reg, State.reg, hregs]
  obtain ⟨hidle, hentry, hsame, hoffs⟩ := reqEnd_spec hstate
  refine ⟨?_, hidle, hentry, hsame ▸ hout⟩
  rw [State.rqIdx, hoffs.getF _ _ _ (by decide), getF_setF_same _ _ _ _ _ _ _ (by omega) (by omega)]
  exact Nat.mod_mod ..

end

/-- A request that is done in a state with the INTAKE as it began has completed. -/
theorem reqDone_completed {s v : State} {p : Nat} {e : List Byte} (hlive : s.fnLive p = true) (hfns : v.fns = s.fns)
    (hintake : v.intake p = (s.begun p e).intake p) (hregs : ∀ off, off < 4096 → v.reg (pgIntake p) off 0 = (s.begun p e).reg (pgIntake p) off 0)
    (r : Nat) : s.completed (v.reqDone p r) p r := by
  have hreg {off : Nat} (hne : off ≠ 0x104) (ho : off < 4096) : v.reg (pgIntake p) off 0 = s.reg (pgIntake p) off 0 :=
    (hregs off ho).trans (begun_offs s p e _ _ _ (by simpa using hne) ho (by omega))
  have hbusy : v.inState p = 2 := (getF_of_reg_eq (hregs 0x104 (by omega)) 2 0).trans (begun_inState s p e)
  have hentry : (v.intake p).entry = some (padTo 64 e) := (congrArg Intake.entry hintake).trans (begun_entry s p e)
  have hvlive : v.fnLive p = true := by
    rw [State.fnLive, State.fn, hfns]
    exact hlive
  have hdone : v.rqIdx p 0x11C = s.rqIdx p 0x11C := getF_of_reg_eq (hreg (by omega) (by omega)) 31 0
  have hlog : v.rqLog p = s.rqLog p := by rw [State.rqLog, State.rqLog, getF_of_reg_eq (hreg (by omega) (by omega))]
  have hwrite : v.reqDone p r = v.reqWrite p r := by
    unfold State.reqDone
    simp only [hentry]
    rw [if_neg (by omega), if_neg (by simp [hvlive])]
  obtain ⟨hidx, hstate, hnone, hout⟩ := reqWrite_spec hbusy r
  rw [hdone] at hidx
  rw [hdone, hlog, hreg (by omega) (by omega)] at hout
  rw [hwrite]
  exact ⟨hidx, hstate, hnone, _, hout, rfl, rfl, rfl⟩

theorem reqDone_sameBut (s : State) (p r : Nat) : s.sameBut [.regs, .intakes, .hostOut] (s.reqDone p r) := Keeps.sameBut (State.reqDone_keeps rfl (.refl _ s))

theorem setPol_reqDone_pol (s : State) (p r : Nat) (x : Polder) : ((s.setPol p x).reqDone p r).pol p = x := by
  rw [State.pol, reqDone_sameBut _ p r .pols (by decide)]
  exact State.pol_setPol_same ..

/-- A request that is done as it has begun: what it completes with, and what it leaves alone. -/
theorem begun_reqDone {s : State} {p : Nat} {e : List Byte} (hlive : s.fnLive p = true) (r : Nat) :
    s.completed ((s.begun p e).reqDone p r) p r ∧ s.sameBut [.regs, .intakes, .hostOut] ((s.begun p e).reqDone p r) :=
  ⟨reqDone_completed (v := s.begun p e) hlive rfl rfl (fun _ _ => rfl) r, ((begun_sameBut s p e).mono (by decide)).trans (reqDone_sameBut _ p r)⟩

/-! RUN and STEP (R442, R443). -/

/-- A started task runs from its first command, with the start's beat as its reference; no other tile changes. -/
theorem startTask_spec (s : State) (t b : Nat) : ((s.startTask t b).tile t).task = .running ∧ ((s.startTask t b).tile t).beatRef = b ∧
    ((s.startTask t b).tile t).cmdIndex = 0 ∧ s.onlyTile (s.startTask t b) t := by
  obtain ⟨g, hcapture⟩ : ∃ g, s.capture t = s.onT t g := by
    unfold State.capture
    exact ⟨_, rfl⟩
  obtain ⟨f, hstart, hf⟩ : ∃ f, s.startTask t b = (s.capture t).onT t f ∧ ∀ x, (f x).task = .running ∧ (f x).beatRef = b ∧ (f x).cmdIndex = 0 := by
    unfold State.startTask
    exact ⟨_, rfl, fun x => ⟨rfl, rfl, rfl⟩⟩
  obtain ⟨htask, hbeat, hindex⟩ := hf ((s.capture t).tile t)
  obtain ⟨hother1, hparts1⟩ := onlyTile_onT s t g
  obtain ⟨hother2, hparts2⟩ := onlyTile_onT (s.onT t g) t f
  rw [hstart, onT_tile]
  rw [hcapture] at htask hbeat hindex ⊢
  exact ⟨htask, hbeat, hindex, fun k hk => (hother2 k hk).trans (hother1 k hk), hparts1.trans hparts2⟩

/-- Starting tasks one by one starts every one of them, and changes nothing but their tiles. -/
theorem foldl_startTask (l : List Nat) (s : State) (b : Nat) :
    (∀ t ∈ l, ((l.foldl (fun st t => st.startTask t b) s).tile t).task = .running ∧ ((l.foldl (fun st t => st.startTask t b) s).tile t).beatRef = b ∧
      ((l.foldl (fun st t => st.startTask t b) s).tile t).cmdIndex = 0) ∧
    (∀ t, t ∉ l → (l.foldl (fun st t => st.startTask t b) s).tile t = s.tile t) ∧ s.sameBut [.tiles] (l.foldl (fun st t => st.startTask t b) s) := by
  refine ⟨fun t ht => ?_, fun t ht => ?_, ?_⟩
  · refine (foldl_achieves (P := fun _ => True) (Q := fun t st => (st.tile t).task = .running ∧ (st.tile t).beatRef = b ∧ (st.tile t).cmdIndex = 0)
      (fun _ _ h => h) (fun st t _ => ?_) (fun st a t _ hq => ?_) l s trivial).2 t (.inl ht)
    · obtain ⟨htask, hbeat, hindex, -⟩ := startTask_spec st t b
      exact ⟨htask, hbeat, hindex⟩
    · obtain ⟨htask, hbeat, hindex, hother, -⟩ := startTask_spec st a b
      by_cases h : t = a
      · subst h
        exact ⟨htask, hbeat, hindex⟩
      · rw [hother t h]
        exact hq
  · refine List.foldlRecOn (motive := fun st : State => st.tile t = s.tile t) l _ rfl fun st hst a ha => ?_
    obtain ⟨-, -, -, hother, -⟩ := startTask_spec st a b
    exact (hother t fun e => ht (e ▸ ha)).trans hst
  · refine List.foldlRecOn (motive := fun st : State => s.sameBut [.tiles] st) l _ (fun f _ => by cases f <;> rfl) fun st hst a _ => ?_
    obtain ⟨-, -, -, -, hparts⟩ := startTask_spec st a b
    exact hst.trans hparts

/-- What a ramp's start changes: when the tiles of `ts` are admitted, and which dies of polder `p` run a ramp. -/
def RampOnly (p : Nat) (ts : List Nat) (u v : State) : Prop :=
  (∀ t, ∃ a, v.tile t = { u.tile t with admitAt := a }) ∧ (∀ t, t ∉ ts → v.tile t = u.tile t) ∧ (∃ m, v.pol p = { u.pol p with running := m }) ∧
    RegsOff [pgWeir] u v

namespace RampOnly

variable {p : Nat} {ts : List Nat} {u v w : State}

theorem refl (p : Nat) (ts : List Nat) (u : State) : RampOnly p ts u u := ⟨fun _ => ⟨_, rfl⟩, fun _ _ => rfl, ⟨_, rfl⟩, RegsOff.refl _ u⟩

theorem trans (h : RampOnly p ts u v) (g : RampOnly p ts v w) : RampOnly p ts u w := by
  obtain ⟨h1, h2, ⟨m, h3⟩, h4⟩ := h
  obtain ⟨g1, g2, ⟨n, g3⟩, g4⟩ := g
  refine ⟨fun t => ?_, fun t ht => (g2 t ht).trans (h2 t ht), ⟨n, by rw [g3, h3]⟩, h4.trans g4⟩
  obtain ⟨a, ha⟩ := h1 t
  obtain ⟨b, hb⟩ := g1 t
  exact ⟨b, by rw [hb, ha]⟩

theorem foldl {α : Type} {f : State → α → State} (l : List α) (hf : ∀ st, ∀ a ∈ l, RampOnly p ts st (f st a)) (u : State) : RampOnly p ts u (l.foldl f u) :=
  List.foldlRecOn (motive := fun st => RampOnly p ts u st) l f (refl p ts u) fun st hst a ha => hst.trans (hf st a ha)

theorem admitAt (u : State) {t : Nat} (ht : t ∈ ts) (b : Nat) : RampOnly p ts u (u.onT t (fun x => { x with admitAt := some b })) := by
  refine ⟨fun k => ?_, fun k hk => onT_tile_other _ _ _ _ fun e => hk (e ▸ ht), ⟨_, rfl⟩, (RegsOff.refl _ u).of_regs rfl⟩
  by_cases h : k = t
  · exact ⟨some b, h ▸ onT_tile ..⟩
  · exact ⟨_, onT_tile_other _ _ _ _ h⟩

theorem runs (u : State) (d b : Nat) (hd : d < 4) :
    RampOnly p ts u ((u.setPol p { u.pol p with running := mapSet (u.pol p).running d b }).bump pgWeir 0x130 d 1) :=
  ⟨fun _ => ⟨_, rfl⟩, fun _ _ => rfl, ⟨_, State.pol_setPol_same ..⟩,
    ((RegsOff.refl _ u).of_regs (v := u.setPol p _) rfl).bump (List.mem_singleton_self _) (by omega) (by omega)⟩

theorem startRamp (u : State) (p : Nat) (ts : List Nat) (b : Nat) : RampOnly p ts u (u.startRamp p ts b) := by
  refine foldl _ (fun st d hd => ?_) u
  dsimp only
  split
  · exact refl p ts st
  · refine (foldl _ (fun st1 t ht => admitAt st1 ?_ b) st).trans (runs _ d b (List.mem_range.1 hd))
    exact List.contains_iff_mem.1 (List.mem_filter.1 ht).2

end RampOnly

section
variable {s : State} {p : Nat} {im : Image}

/-- A RUN's work on a polder with an image: its tasks start, then their ramp. -/
theorem runPol_image (him : (s.pol p).image = some im) (seed start : Nat) (gated : Bool) : s.runPol p seed start gated =
    ((s.dirTiles p im).foldl (fun st t => st.startTask t (s.startBeat (s.beat + 4)))
      (s.setPol p { s.pol p with seed := seed, step := (start + 2 ^ 32 - 1) % 2 ^ 32, started := start,
                                 gate := if gated then some ((start + 2 ^ 32 - 1) % 2 ^ 32) else none })).startRamp p (s.dirTiles p im)
        (s.startBeat (s.beat + 4)) := by
  unfold State.runPol
  rw [him]

/-- What a RUN leaves: its loaded tiles running from one beat, no other tile changed, and the polder's seed, step and gate. -/
theorem runPol_spec (him : (s.pol p).image = some im) (seed start : Nat) (gated : Bool) :
    (∀ t ∈ s.dirTiles p im, ((s.runPol p seed start gated).tile t).task = .running ∧
      ((s.runPol p seed start gated).tile t).beatRef = s.startBeat (s.beat + 4) ∧ ((s.runPol p seed start gated).tile t).cmdIndex = 0) ∧
    (∀ t, t ∉ s.dirTiles p im → (s.runPol p seed start gated).tile t = s.tile t) ∧
    (((s.runPol p seed start gated).pol p).seed = seed ∧ ((s.runPol p seed start gated).pol p).step = (start + 2 ^ 32 - 1) % 2 ^ 32 ∧
      ((s.runPol p seed start gated).pol p).gate = if gated then some ((start + 2 ^ 32 - 1) % 2 ^ 32) else none) ∧
    RegsOff [pgWeir] s (s.runPol p seed start gated) := by
  rw [runPol_image him]
  generalize hb : s.startBeat (s.beat + 4) = b
  generalize hx : ({ s.pol p with seed := seed, step := (start + 2 ^ 32 - 1) % 2 ^ 32, started := start,
                                  gate := if gated then some ((start + 2 ^ 32 - 1) % 2 ^ 32) else none } : Polder) = x
  obtain ⟨hrun, hrest, hparts⟩ := foldl_startTask (s.dirTiles p im) (s.setPol p x) b
  generalize hv : (s.dirTiles p im).foldl (fun st t => st.startTask t b) (s.setPol p x) = v at hrun hrest hparts
  obtain ⟨hadmit, hkept, ⟨m, hpol⟩, hregs⟩ := RampOnly.startRamp v p (s.dirTiles p im) b
  have hvpol : v.pol p = x := by
    rw [State.pol, hparts .pols (by decide)]
    exact State.pol_setPol_same ..
  refine ⟨fun t ht => ?_, fun t ht => (hkept t ht).trans (hrest t ht), ?_, ?_⟩
  · obtain ⟨a, ha⟩ := hadmit t
    rw [ha]
    exact hrun t ht
  · rw [hpol, hvpol, ← hx]
    exact ⟨rfl, rfl, rfl⟩
  · exact (((RegsOff.refl _ s).of_regs (v := s.setPol p x) rfl).of_regs (hparts .regs (by decide))).trans hregs

end

section
variable {s : State} {p : Nat} {e : List Byte}

/-- A STEP that is not the next one of a gated run. -/
theorem effStep_refused (hyes : s.canStart p e (fun o => o == 3) = true)
    (hno : ∀ g, (s.pol p).gate = some g → reqField e 8 4 ≠ (g + 1) % 2 ^ 32) : effStep p e s = (s.begun p e).reqDone p 0x0665 := by
  have hpol : (s.begun p e).pol p = s.pol p := rfl
  rw [effStep, request_starts hyes, hpol]
  dsimp only
  split
  · next g hg => exact if_neg (hno g hg)
  · rfl

theorem effStep_next {g : Nat} (hyes : s.canStart p e (fun o => o == 3) = true) (hg : (s.pol p).gate = some g) (hnext : reqField e 8 4 = (g + 1) % 2 ^ 32) :
    effStep p e s = ((s.begun p e).setPol p { s.pol p with gate := some ((g + 1) % 2 ^ 32), gateAt := s.beat }).reqDone p 0 := by
  have hpol : (s.begun p e).pol p = s.pol p := rfl
  have hbeat : (s.begun p e).beat = s.beat := rfl
  rw [effStep, request_starts hyes, hpol, hg, hbeat]
  dsimp only
  rw [if_pos hnext, hnext]

theorem effRun_refused (hyes : s.canStart p e (fun o => o == 2) = true) (hno : s.runnable p = false) : effRun p e s = (s.begun p e).reqDone p 0x0664 := by
  rw [effRun, request_starts hyes, begun_runnable]
  exact if_pos (by simp [hno])

theorem effRun_accepted (hyes : s.canStart p e (fun o => o == 2) = true) (hrun : s.runnable p = true) : effRun p e s =
    ((s.begun p e).runPol p (reqField e 8 8) (reqField e 0x10 4) (bitOf (reqField e 1 1) 0)).reqDone p 0 := by
  rw [effRun, request_starts hyes, begun_runnable]
  exact if_neg (by simp [hrun])

theorem effRestore_refused (hyes : s.canStart p e (fun o => o == 4) = true) (hno : s.runnable p = false) (bad : List Nat) :
    effRestore p e bad s = (s.begun p e).reqDone p 0x0664 := by
  rw [effRestore, request_starts hyes, begun_runnable, hno]

end

/-- Settles O50: `begun_reqDone` for the requests that complete as they begin; RUN and STEP complete after their work, which leaves the INTAKE alone. -/
theorem requestsCompleteRunAndStep : Obligations.RequestsCompleteRunAndStep := by
  refine ⟨fun s p r e bad c op hp hc => ⟨fun hno => ?waits, fun hyes hrun hgate => ?refused⟩,
    fun s p e im hp => ⟨fun hyes hrun him => ?run, fun g hyes hg hnext => ?step⟩⟩
  case waits =>
    simp only [List.mem_cons, Prod.mk.injEq, List.not_mem_nil, or_false] at hc
    rcases hc with ⟨rfl, -, rfl⟩ | ⟨rfl, -, rfl⟩ | ⟨rfl, -, rfl⟩ | ⟨rfl, -, rfl⟩ | ⟨rfl, -, rfl⟩
    · rw [exec_nopReq s hp, request_waits hno]
    · rw [exec_badRequest s hp, request_waits hno]
    · rw [exec_run s hp, effRun, request_waits hno]
    · rw [exec_restore s hp, effRestore, request_waits hno]
    · rw [exec_step s hp, effStep, request_waits hno]
  case refused =>
    have hexec : exec c s = .next ((s.begun p e).reqDone p r) := by
      simp only [List.mem_cons, Prod.mk.injEq, List.not_mem_nil, or_false] at hc
      rcases hc with ⟨rfl, rfl, rfl⟩ | ⟨rfl, rfl, rfl⟩ | ⟨rfl, rfl, rfl⟩ | ⟨rfl, rfl, rfl⟩ | ⟨rfl, rfl, rfl⟩
      · rw [exec_nopReq s hp, request_starts hyes]
      · rw [exec_badRequest s hp, request_starts hyes]
      · rw [exec_run s hp, effRun_refused hyes (hrun rfl)]
      · rw [exec_restore s hp, effRestore_refused hyes (hrun rfl)]
      · rw [exec_step s hp, effStep_refused hyes (hgate rfl)]
    exact ⟨_, hexec, begun_reqDone (canStart_fnLive hyes) r⟩
  case run =>
    have hexec := exec_run s hp e
    rw [effRun_accepted hyes hrun] at hexec
    have hpage : pgIntake p ∉ [pgWeir] := by unfold pgIntake pgWeir; simp only [List.mem_singleton]; omega
    have hdir : (s.begun p e).dirTiles p im = s.dirTiles p im := by rw [State.dirTiles, State.dirTiles, (SameLayout.begun s p e).tileOf_eq]
    obtain ⟨hstarted, hrest, hpol, hregs⟩ := runPol_spec (s := s.begun p e) (p := p) him (reqField e 8 8) (reqField e 0x10 4) (bitOf (reqField e 1 1) 0)
    have hparts : (s.begun p e).sameBut [.regs, .tiles, .pols] _ :=
      Keeps.sameBut (State.runPol_keeps (a0 := p) (a1 := reqField e 8 8) (a2 := reqField e 0x10 4) (a3 := bitOf (reqField e 1 1) 0) rfl (.refl _ _))
    generalize (s.begun p e).runPol p (reqField e 8 8) (reqField e 0x10 4) (bitOf (reqField e 1 1) 0) = v at hexec hstarted hrest hpol hregs hparts
    have hdone := reqDone_sameBut v p 0
    have htile (t : Nat) : (v.reqDone p 0).tile t = v.tile t := by rw [State.tile, State.tile, hdone .tiles (by decide)]
    have hvpol : (v.reqDone p 0).pol p = v.pol p := by rw [State.pol, State.pol, hdone .pols (by decide)]
    refine ⟨_, hexec, ?_, fun t ht => ?_, fun t ht => ?_, ?_⟩
    · refine reqDone_completed (canStart_fnLive hyes) (hparts .fns (by decide)) ?_ (fun off ho => hregs.reg_eq hpage ho (by omega)) 0
      rw [State.intake, State.intake, hparts .intakes (by decide)]
    · rw [htile]
      exact hstarted t (hdir ▸ ht)
    · rw [htile, hrest t (hdir ▸ ht)]
      rfl
    · rw [hvpol]
      exact hpol
  case step =>
    have hexec := exec_step s hp e
    rw [effStep_next hyes hg hnext] at hexec
    have hdone := reqDone_sameBut ((s.begun p e).setPol p { s.pol p with gate := some ((g + 1) % 2 ^ 32), gateAt := s.beat }) p 0
    have hpol := setPol_reqDone_pol (s.begun p e) p 0 { s.pol p with gate := some ((g + 1) % 2 ^ 32), gateAt := s.beat }
    have hcompleted := reqDone_completed (v := (s.begun p e).setPol p { s.pol p with gate := some ((g + 1) % 2 ^ 32), gateAt := s.beat })
      (canStart_fnLive hyes) rfl rfl (fun _ _ => rfl) 0
    refine ⟨_, hexec, hcompleted, ?_, ?_, hdone .tiles (by decide)⟩
    · exact congrArg Polder.gate hpol
    · exact congrArg Polder.gateAt hpol

end Sys2Proof.Machine
end

section
/-!
CERTIFICATE. Reset requests that are refused, and the end of a reset (O46).
-/
namespace Sys2Proof.Machine

/-- What the end of a request writes: INTAKE_STATUS and DONE. -/
def reqOffs : List Nat := [0x104, 0x11C]

namespace OffsOnly

variable {s0 s : State}

theorem reqEnd (h : OffsOnly reqOffs s0 s) (p : Nat) : OffsOnly reqOffs s0 (s.reqEnd p) := by
  unfold State.reqEnd
  extract_lets k s1
  have h1 : OffsOnly reqOffs s0 s1 := (h.of_regs (v := s.setIntake p _) rfl).setReg _ _ (by decide) (by omega)
  have hstate (n : Nat) : OffsOnly reqOffs s0 (s1.setIn p n) := h1.setReg _ _ (by decide) (by omega)
  exact ite (hstate 0) (ite h1 (hstate 1))

theorem reqWrite (h : OffsOnly reqOffs s0 s) (p r : Nat) : OffsOnly reqOffs s0 (s.reqWrite p r) := by
  unfold State.reqWrite
  extract_lets pg done next tally s1 s2
  have h2 : OffsOnly reqOffs s0 s2 := ite (h.of_regs rfl) (h.of_regs rfl)
  exact (h2.setReg _ _ (by decide) (by omega)).reqEnd p

theorem reqDone (h : OffsOnly reqOffs s0 s) (p r : Nat) : OffsOnly reqOffs s0 (s.reqDone p r) := by
  unfold State.reqDone
  dsimp only
  split
  · exact h
  · exact ite (h.reqEnd p) (ite (h.of_regs rfl) (h.reqWrite p r))

end OffsOnly

/-! Reset requests (R411, R413). -/

theorem exec_tileReset (s : State) (pg : Nat) : exec (.tileReset pg) s = .next (effTileReset pg s) := rfl
theorem exec_polderReset (s : State) (p : Nat) : exec (.polderReset p) s = .next (effPolderReset p s) := rfl
theorem exec_dieCoreReset (s : State) (d : Nat) : exec (.dieCoreReset d) s = .next (effDieReset d s) := rfl
theorem exec_deviceCoreReset (s : State) (os : List Nat) : exec (.deviceCoreReset os) s = .next (effDeviceReset os s) := rfl
theorem exec_coldReset (s : State) (os : List Nat) : exec (.coldReset os) s = .next (effColdReset os s) := rfl
theorem exec_resetDone (s : State) : exec .resetDone s = .next (effResetDone s) := rfl

theorem refuseReq_sameBut (s : State) : s.sameBut [.regs, .freeCtr, .recSeq, .pols, .intakes, .hostOut, .trace] s.refuseReq :=
  Keeps.sameBut (State.refuseReq_keeps rfl (.refl _ s))

theorem refuseReq_offs (s : State) : OffsOnly faultOffs s s.refuseReq := (OffsOnly.refl _ s).fault _ (List.Subset.refl _)

/-- A reset request that is refused: DEV_RESET_STATUS shows its domain and why, and the record is posted. -/
def State.resetRefused (s : State) (dom : Nat) : State := ((s.setF pgDev 0x31C 0 3 1 dom).setF pgDev 0x31C 0 31 16 0x0147).refuseReq

theorem resetReq_refused {s : State} {ok : Bool} (h : s.getF pgDev 0x31C 0 0 0 = 1 ∨ s.armState = 3 ∨ ok = false) (dom tg : Nat) (eff : State → State) :
    s.resetReq dom tg ok eff = s.resetRefused dom := if_pos (by simpa using h)

theorem resetRefused_spec (s : State) {dom : Nat} (hdom : dom < 8) : (s.resetRefused dom).getF pgDev 0x31C 0 31 16 = 0x0147 ∧
    (s.resetRefused dom).getF pgDev 0x31C 0 3 1 = dom ∧ (s.resetRefused dom).getF pgDev 0x31C 0 0 0 = s.getF pgDev 0x31C 0 0 0 ∧
    (s.resetRefused dom).getF pgDev 0x18 0 31 16 = 0x0147 ∧
    s.sameBut [.regs, .freeCtr, .recSeq, .pols, .intakes, .hostOut, .trace] (s.resetRefused dom) := by
  have hkept (hi lo : Nat) : (s.resetRefused dom).getF pgDev 0x31C 0 hi lo =
      ((s.setF pgDev 0x31C 0 3 1 dom).setF pgDev 0x31C 0 31 16 0x0147).getF pgDev 0x31C 0 hi lo := (refuseReq_offs _).getF pgDev hi lo (by decide)
  refine ⟨?_, ?_, ?_, fault_last _ _, ?_⟩
  · exact (hkept 31 16).trans (getF_setF_same _ _ _ _ _ _ _ (by omega) (by omega))
  · rw [hkept 3 1, getF_setF_field _ _ _ _ _ _ _ _ _ (by omega) (by omega), getF_setF_same _ _ _ _ _ _ _ (by omega) (by omega)]
    exact Nat.mod_eq_of_lt (by omega)
  · rw [hkept 0 0, getF_setF_field _ _ _ _ _ _ _ _ _ (by omega) (by omega), getF_setF_field _ _ _ _ _ _ _ _ _ (by omega) (by omega)]
  · exact (((sameBut_regs s _).trans (sameBut_regs _ _)).mono (by decide)).trans (refuseReq_sameBut _)

/-! The end of a reset (R413). -/

section
variable {s : State} (hclear : s.resetClears = false)
include hclear

theorem effResetDone_idle (hidle : s.getF pgDev 0x31C 0 0 0 = 0) : effResetDone s = { s with inReset := [] } := by
  rw [effResetDone, if_neg (by simp [hclear]), if_pos hidle]

/-- The reset in progress ends: busy is 0, its record is posted, and no polder is in reset. -/
theorem effResetDone_busy (hbusy : s.getF pgDev 0x31C 0 0 0 = 1) : (effResetDone s).getF pgDev 0x31C 0 0 0 = 0 ∧ (effResetDone s).inReset = [] ∧
    (effResetDone s).getF pgDev 0x18 0 31 16 = 0x0141 ∧ (effResetDone s).tiles = s.tiles := by
  unfold effResetDone
  rw [if_neg (by simp [hclear]), if_neg (by omega)]
  extract_lets dom ps pol s1
  have hposted : OffsOnly faultOffs (({ s with inReset := [] } : State).setF pgDev 0x31C 0 0 0 0) s1 := (OffsOnly.refl _ _).fault _ (List.Subset.refl _)
  have hparts : ({ s with inReset := [] } : State).sameBut [.regs, .freeCtr, .recSeq, .pols, .intakes, .hostOut, .trace] s1 :=
    Keeps.sameBut (State.fault_keeps rfl (State.setF_keeps rfl (.refl _ _)))
  have hreqs : OffsOnly reqOffs s1 (ps.foldl (fun st p => if st.getF (pgIntake p) 0x104 0 15 8 = 6 then st.reqDone p 0 else st) s1) :=
    OffsOnly.foldl (fun st p => .ite ((OffsOnly.refl _ st).reqDone p 0) (.refl _ st)) _ _
  have hrest : s1.sameBut [.regs, .intakes, .hostOut] (ps.foldl (fun st p => if st.getF (pgIntake p) 0x104 0 15 8 = 6 then st.reqDone p 0 else st) s1) := by
    refine Keeps.sameBut (Keeps.foldl (fun st p hst => ?_) _ _ (.refl _ s1))
    split
    · exact State.reqDone_keeps rfl hst
    · exact hst
  refine ⟨?_, ?_, ?_, ?_⟩
  · rw [hreqs.getF _ _ _ (by decide), hposted.getF _ _ _ (by decide), getF_setF_same _ _ _ _ _ _ _ (by omega) (by omega)]
    rfl
  · exact (hrest .inReset (by decide)).trans (hparts .inReset (by decide))
  · rw [hreqs.getF _ _ _ (by decide)]
    exact fault_last _ _
  · exact (hrest .tiles (by decide)).trans (hparts .tiles (by decide))

end

/-- Settles O46: a refused request by `resetRefused_spec`, the end of a reset by `effResetDone_busy`. -/
theorem resetRequestsStartAndEnd : Obligations.ResetRequestsStartAndEnd := by
  refine ⟨fun s c dom tg os there hc hno => ?refused, fun s => ⟨fun hclear => ?waits, fun hclear hbusy => ⟨_, exec_resetDone s, effResetDone_busy hclear hbusy⟩,
    fun hclear hidle => ?nothing⟩⟩
  case refused =>
    have hexec : exec c s = .next (s.resetRefused dom) ∧ dom < 8 := by
      simp only [List.mem_cons, Prod.mk.injEq, List.not_mem_nil, or_false] at hc
      rcases hc with ⟨rfl, rfl, rfl⟩ | ⟨rfl, rfl, rfl⟩ | ⟨rfl, rfl, rfl⟩ | ⟨rfl, rfl, rfl⟩ | ⟨rfl, rfl, rfl⟩
      · rw [exec_tileReset, effTileReset, resetReq_refused hno]
        exact ⟨rfl, by omega⟩
      · rw [exec_polderReset, effPolderReset, resetReq_refused hno]
        exact ⟨rfl, by omega⟩
      · rw [exec_dieCoreReset, effDieReset, resetReq_refused hno]
        exact ⟨rfl, by omega⟩
      · rw [exec_deviceCoreReset, effDeviceReset, resetReq_refused hno]
        exact ⟨rfl, by omega⟩
      · have hcold : s.getF pgDev 0x31C 0 0 0 = 1 ∨ s.armState = 3 := by simpa using hno
        rw [exec_coldReset, effColdReset, if_pos hcold, resetReq_refused (.inr (.inr rfl))]
        exact ⟨rfl, by omega⟩
    obtain ⟨hexec, hdom⟩ := hexec
    obtain ⟨hwhy, hshown, hbusy, hcode, hparts⟩ := resetRefused_spec s hdom
    exact ⟨_, hexec, hwhy, hshown, hbusy, hcode, hparts .tiles (by decide), hparts .hbm (by decide), hparts .inReset (by decide)⟩
  case waits => rw [exec_resetDone, effResetDone, if_pos hclear]
  case nothing =>
    have hexec := exec_resetDone s
    rw [effResetDone_idle hclear hidle] at hexec
    exact ⟨_, hexec, rfl, Keeps.sameBut (Keeps.set_inReset (w := maskOf [.inReset]) rfl (.refl _ s))⟩

end Sys2Proof.Machine
end

section
/-!
SUPPORT. What aborts, polder stops, fences and clears write, and what they leave of the polders.
-/
namespace Sys2Proof.Machine

/-- What the abort of an instance writes beside its record: the kneader's count of aborts, KND_ERR_INFO and KND_ERR_INST. -/
def abortOffs : List Nat := faultOffs ++ [0x180, 0x19C, 0x1A0]

/-- What the start of a clear writes: TILE_CLEAR and, at the slices, the count of discarded stores. -/
def clearOffs : List Nat := 0x7F4 :: counterOffs

/-- What fencing a unit writes. -/
def fenceOffs : List Nat := 0x24 :: faultOffs

namespace OffsOnly

variable {s0 s : State}

/-- An operation on other parts of the state writes no register. -/
theorem of_sameBut {os : List Nat} {u : State} {fs : List Field} (h : OffsOnly os s0 s) (hs : s.sameBut fs u) (hf : Field.regs ∉ fs) : OffsOnly os s0 u :=
  h.of_regs (hs .regs hf)

theorem abortInst (h : OffsOnly abortOffs s0 s) (d key code reason : Nat) : OffsOnly abortOffs s0 (s.abortInst d key code reason) := by
  unfold State.abortInst
  split
  · exact h
  · next i _ =>
    split
    · exact h
    · extract_lets slot desc p x ph s1 s2
      have hsent : OffsOnly abortOffs s0 (s1.sendAborts d slot desc p i.num code) :=
        (h.of_regs (v := s1) rfl).of_sameBut (Keeps.sameBut (fs := [.ports]) (State.sendAborts_keeps rfl (.refl _ s1))) (by decide)
      have h2 : OffsOnly abortOffs s0 s2 :=
        (((hsent.setReg _ _ (by decide) (by omega)).setReg _ _ (by decide) (by omega)).setReg _ _ (by decide) (by omega))
      exact h2.fault _ (by decide)

theorem abortPolder (h : OffsOnly abortOffs s0 s) (p code : Nat) : OffsOnly abortOffs s0 (s.abortPolder p code) :=
  h.trans (foldl (fun _ _ => foldl (fun st2 key => (refl _ st2).abortInst _ key code code) _ _) _ s)

theorem polderStop (h : OffsOnly abortOffs s0 s) (p cause : Nat) (abort : Bool) : OffsOnly abortOffs s0 (s.polderStop p cause abort) := by
  unfold State.polderStop
  split
  · exact h
  · extract_lets n pol s1 s2 s3
    have h2 : OffsOnly abortOffs s0 s2 := (h.of_regs (v := s1) rfl).of_sameBut
      (Keeps.sameBut (fs := [.freeCtr, .tiles]) (State.stopTiles_keeps rfl (.refl _ s1))) (by decide)
    exact (ite (h2.abortPolder p _) h2).fault _ (by decide)

theorem fenceUnit (h : OffsOnly fenceOffs s0 s) (pg : Nat) : OffsOnly fenceOffs s0 (s.fenceUnit pg) :=
  ite h ((h.setReg _ _ (by decide) (by omega)).fault _ (by decide))

theorem wakeUnit (h : OffsOnly fenceOffs s0 s) (pg : Nat) : OffsOnly fenceOffs s0 (s.wakeUnit pg) := by
  have hwake : OffsOnly fenceOffs s0 (s.setF pg 0x24 0 1 0 0) := h.setReg _ _ (by decide) (by omega)
  exact ite ((hwake.setReg _ _ (by decide) (by omega)).fault _ (by decide)) hwake

theorem dropHeld (h : OffsOnly clearOffs s0 s) (t : Nat) (f : Nat → Nat → Bool) : OffsOnly clearOffs s0 (s.dropHeld t f) := by
  unfold State.dropHeld
  extract_lets gone b s1
  refine (h.of_regs (v := s1) rfl).trans (foldl (fun st e => ?_) _ s1)
  exact ite (refl _ st) (((refl _ st).of_regs (v := st.setSlice e.1 _) rfl).countEv _ _ _ (by decide))

theorem startClear (h : OffsOnly clearOffs s0 s) (t : Nat) : OffsOnly clearOffs s0 (s.startClear t) := by
  have hcut : OffsOnly clearOffs s0 (s.cutSq t (fun _ => true)) :=
    h.of_sameBut (Keeps.sameBut (fs := [.freeCtr, .tiles]) (State.cutSq_keeps rfl (.refl _ s))) (by decide)
  unfold State.startClear
  split
  · exact h
  · extract_lets s1
    have h1 : OffsOnly clearOffs s0 s1 := by
      apply dropHeld
      exact hcut.of_regs rfl
    exact (h1.of_regs (v := s1.breakLocks t) rfl).setReg _ _ (by decide) (by omega)

end OffsOnly

/-! Polders. -/

theorem HeartbeatsOnly.refl (s : State) : HeartbeatsOnly s s := .of_pols rfl

theorem HeartbeatsOnly.fault (s : State) (f : FaultInfo) : HeartbeatsOnly s (s.fault f) := by
  obtain ⟨u, r, hfault, hframe, -⟩ := fault_posts s f
  have hnote : u.sameBut [.regs] (u.noteFault f) := Keeps.sameBut (State.noteFault_keeps rfl (.refl _ u))
  rw [hfault]
  exact (HeartbeatsOnly.of_pols ((hnote .pols (by decide)).trans (hframe .pols (by decide)))).trans (.post _ _ _)

theorem HeartbeatsOnly.foldl {α : Type} {f : State → α → State} (hf : ∀ st a, HeartbeatsOnly st (f st a)) (l : List α) (s : State) :
    HeartbeatsOnly s (l.foldl f s) :=
  List.foldlRecOn (motive := fun st => HeartbeatsOnly s st) l f (.refl s) fun st h a _ => h.trans (hf st a)

theorem HeartbeatsOnly.abortInst (s : State) (d key code reason : Nat) : HeartbeatsOnly s (s.abortInst d key code reason) := by
  unfold State.abortInst
  split
  · exact .refl s
  · next i _ =>
    split
    · exact .refl s
    · extract_lets slot desc p x ph s1 s2
      have hsent : (s1.sendAborts d slot desc p i.num code).pols = s.pols :=
        Keeps.sameBut (fs := [.ports]) (State.sendAborts_keeps rfl (.refl _ s1)) .pols (by decide)
      exact (HeartbeatsOnly.of_pols (u := s2) hsent).trans (.fault _ _)

theorem HeartbeatsOnly.abortPolder (s : State) (p code : Nat) : HeartbeatsOnly s (s.abortPolder p code) :=
  .foldl (fun st _ => .foldl (fun st2 key => .abortInst st2 _ key code code) _ st) _ s

theorem HeartbeatsOnly.fenceUnit (s : State) (pg : Nat) : HeartbeatsOnly s (s.fenceUnit pg) := by
  unfold State.fenceUnit
  split
  · exact .refl s
  · exact (HeartbeatsOnly.of_pols rfl).trans (.fault (s.setF pg 0x24 0 1 0 2) _)

section
variable {s u : State}

theorem HeartbeatsOnly.stopped_eq (h : HeartbeatsOnly s u) (p : Nat) : (u.pol p).stopped = (s.pol p).stopped := by
  obtain ⟨n, hn⟩ := h p
  rw [hn]

end

/-- Of the polders, a stop changes but `p` and heartbeats: `p` is stopped, with no other field changed but the cause. -/
theorem polderStop_pol (s : State) (p cause : Nat) (abort : Bool) : ∃ c, ∀ q, ∃ n, (s.polderStop p cause abort).pol q =
    { s.pol q with stopped := if q = p then true else (s.pol q).stopped, stopCause := if q = p then c else (s.pol q).stopCause, heartbeat := n } := by
  unfold State.polderStop
  split
  · next hs =>
    refine ⟨(s.pol p).stopCause, fun q => ⟨(s.pol q).heartbeat, ?_⟩⟩
    by_cases hq : q = p
    · rw [if_pos hq, if_pos hq, hq, ← hs]
    · rw [if_neg hq, if_neg hq]
  · extract_lets n pol s1 s2 s3
    have h2 : HeartbeatsOnly s1 s2 := .of_pols (Keeps.sameBut (fs := [.freeCtr, .tiles]) (State.stopTiles_keeps rfl (.refl _ s1)) .pols (by decide))
    have h3 : HeartbeatsOnly s1 s3 := by
      refine h2.trans ?_
      cases abort with
      | true => exact .abortPolder s2 p 0x1248
      | false => exact .refl s2
    refine ⟨cause, fun q => ?_⟩
    obtain ⟨n, hn⟩ := h3.trans (.fault s3 _) q
    refine ⟨n, hn.trans ?_⟩
    by_cases hq : q = p
    · rw [if_pos hq, if_pos hq, hq, State.pol_setPol_same]
    · rw [if_neg hq, if_neg hq, State.pol_setPol_other _ _ _ _ (Ne.symm hq)]
      rfl

theorem polderStop_stopped (s : State) (p cause : Nat) (abort : Bool) : ((s.polderStop p cause abort).pol p).stopped = true := by
  obtain ⟨c, h⟩ := polderStop_pol s p cause abort
  obtain ⟨n, hn⟩ := h p
  rw [hn]
  exact if_pos rfl

theorem polderStop_keeps_stopped {s : State} {q : Nat} (h : (s.pol q).stopped = true) (p cause : Nat) (abort : Bool) :
    ((s.polderStop p cause abort).pol q).stopped = true := by
  obtain ⟨c, hall⟩ := polderStop_pol s p cause abort
  obtain ⟨n, hn⟩ := hall q
  rw [hn, h]
  exact ite_self _

end Sys2Proof.Machine
end

section
/-!
CERTIFICATE. Fence, unfence, repair, votes and the retirement map (O48).
-/
namespace Sys2Proof.Machine

/-! The part of a unit (R405, R406). -/

theorem pageBlock_lt {pg : Nat} (h : (pageBlock pg).isSome = true) : pg < 32768 := by
  by_contra hge
  have hdie : 4 ≤ pg / 0x1000 - 1 := by omega
  have hnone : pageBlock pg = none := by
    unfold pageBlock
    simp only [hdie, if_true]
    rw [if_neg (by omega), if_neg (by omega), if_neg (by omega), if_neg (by omega), if_neg (by omega), if_neg (by omega), if_neg (by omega),
      if_neg (by omega), if_neg (by omega)]
  rw [hnone] at h
  exact absurd h (by decide)

theorem SameLayout.logCol_eq {s u : State} (h : SameLayout s u) : u.logCol = s.logCol := by
  have hretired : u.retired = s.retired := funext fun d =>
    getF_of_reg_eq (h.2 _ _ _ (.inr rfl) (pgDie_ne d 0).1 (fun e => (pgDie_ne d e).2) (by omega)) 37 0
  have hlive : u.liveCols = s.liveCols := funext fun d => by rw [State.liveCols, hretired, State.liveCols]
  funext d x
  rw [State.logCol, hlive, State.logCol]

/-- A part that the page itself holds. -/
theorem part_of_field {s : State} {pg w : Nat} (h : s.getF pg 0x24 0 1 0 = w) (hw : w ≠ 0) : s.part pg = w := by
  unfold State.part
  dsimp only
  rw [h]
  split
  · exact if_neg fun hc => hw hc.1
  · rfl

theorem SameLayout.part_eq {s u : State} (h : SameLayout s u) {pg : Nat} (hreg : u.reg pg 0x24 0 = s.reg pg 0x24 0) : u.part pg = s.part pg := by
  unfold State.part
  rw [getF_of_reg_eq hreg, h.logCol_eq]

theorem setPart_part (s : State) (pg : Nat) {n : Nat} (h0 : n ≠ 0) (h4 : n < 4) : (s.setF pg 0x24 0 1 0 n).part pg = n :=
  part_of_field ((getF_setF_same _ _ _ _ _ _ _ (by omega) (by omega)).trans (Nat.mod_eq_of_lt (by omega))) h0

/-- A code recorded on one page leaves the codes of the others. -/
theorem fault_last_other (s : State) (f : FaultInfo) {pg : Nat} (h : pg ≠ f.page) : (s.fault f).getF pg 0x18 0 31 16 = s.getF pg 0x18 0 31 16 := by
  have hafter : OffsOnly (0x110 :: 0x120 :: 0x300 :: 0x308 :: 0x310 :: 0x138 :: 0x13C :: counterOffs) (s.err f.page f.code) (s.fault f) :=
    (((OffsOnly.refl _ _).traceRec _ _ _ _ _ (by decide)).noteFault f (by decide)).post f.pol _ (by decide)
  have herr : RegsOff [f.page] s (s.err f.page f.code) := (RegsOff.refl _ s).err (List.mem_singleton_self _)
  rw [hafter.getF _ _ _ (by decide), getF_of_reg_eq (herr.reg_eq (by simpa using h) (by omega) (by omega))]

section
variable {s : State} {pg : Nat}

theorem fenceUnit_fenced (h : s.part pg = 2) : s.fenceUnit pg = s := if_pos h

theorem fenceUnit_spec (h : s.part pg ≠ 2) : (s.fenceUnit pg).part pg = 2 ∧ (s.fenceUnit pg).getF pgDev 0x18 0 31 16 = 0x0144 := by
  rw [State.fenceUnit, if_neg h]
  refine ⟨part_of_field ?_ (by omega), fault_last _ _⟩
  rw [((OffsOnly.refl faultOffs _).fault _ (List.Subset.refl _)).getF _ _ _ (by decide), getF_setF_same _ _ _ _ _ _ _ (by omega) (by omega)]
  rfl

/-- A unit that wakes is ACTIVE, and stale where it was or where it missed an activation. -/
theorem wakeUnit_spec (s : State) (pg : Nat) : (s.wakeUnit pg).getF pg 0x24 0 1 0 = 0 ∧ (s.wakeUnit pg).stale pg = (s.stale pg || (s.missedGen pg).isSome) := by
  have hwake : (s.setF pg 0x24 0 1 0 0).getF pg 0x24 0 1 0 = 0 := getF_setF_same _ _ _ _ _ _ _ (by omega) (by omega)
  have hstale : (s.setF pg 0x24 0 1 0 0).getF pg 0x24 0 2 2 = s.getF pg 0x24 0 2 2 := getF_setF_field _ _ _ _ _ _ _ _ _ (by omega) (by omega)
  unfold State.wakeUnit
  dsimp only
  split
  · next hmissed =>
    have hkept (hi lo : Nat) : (((s.setF pg 0x24 0 1 0 0).setF pg 0x24 0 2 2 1).armPost 0x0545 none [pg]).getF pg 0x24 0 hi lo =
        ((s.setF pg 0x24 0 1 0 0).setF pg 0x24 0 2 2 1).getF pg 0x24 0 hi lo :=
      ((OffsOnly.refl faultOffs _).fault _ (List.Subset.refl _)).getF _ _ _ (by decide)
    refine ⟨?_, ?_⟩
    · rw [hkept, getF_setF_field _ _ _ _ _ _ _ _ _ (by omega) (by omega), hwake]
    · rw [State.stale, hkept, getF_setF_same _ _ _ _ _ _ _ (by omega) (by omega), hmissed, Bool.or_true]
      rfl
  · next hkept =>
    refine ⟨hwake, ?_⟩
    rw [State.stale, hstale, Bool.eq_false_of_not_eq_true hkept, Bool.or_false, State.stale]

end

/-! The commands of DEV_UNIT_CTRL (R406, R407). -/

section
variable {s : State} {pg : Nat} (hb : (pageBlock pg).isSome = true)
include hb

theorem exec_unitFence : exec (.unitFence pg) s = .next (s.fenceUnit pg) := if_pos hb
theorem exec_unitUnfence : exec (.unitUnfence pg) s = .next (if s.part pg = 2 then s.wakeUnit pg else s.refuseReq) := if_pos hb
theorem exec_unitRepair : exec (.unitRepair pg) s = .next (if s.part pg = 2 then s.setF pg 0x24 0 1 0 3 else s.refuseReq) := if_pos hb
theorem exec_repairDone (pass : Bool) : exec (.repairDone pg pass) s = .next (effRepairDone pg pass s) := if_pos hb

end

/-- The state in which the DEV block refuses a request keeps every unit's part. -/
theorem refuseReq_part (s : State) (pg : Nat) : s.refuseReq.part pg = s.part pg :=
  (SameLayout.fault s _).part_eq ((refuseReq_offs s) _ _ _ (by decide) (by omega) (by omega))

/-- What the records of a repair's end write, with the column's note. -/
theorem OffsOnly.colPending (s : State) (t : Nat) : OffsOnly (0x408 :: faultOffs) s (s.colPending t false) := by
  unfold State.colPending
  extract_lets pg s1 m
  have h1 : OffsOnly (0x408 :: faultOffs) s s1 := .refl _ s
  exact .ite h1 ((h1.setReg _ _ (by decide) (by omega)).fault _ (by decide))

/-- The note of a column neither changes a tile nor the code of the DEV page. -/
theorem colPending_spec (s : State) (t : Nat) : (s.colPending t false).tiles = s.tiles ∧
    (s.colPending t false).getF pgDev 0x18 0 31 16 = s.getF pgDev 0x18 0 31 16 := by
  unfold State.colPending
  dsimp only
  rw [if_neg Bool.false_ne_true]
  split
  · exact ⟨rfl, rfl⟩
  · exact ⟨fault_sameBut _ _ .tiles (by decide), (fault_last_other _ _ (pgDie_ne _ 0).1.symm).trans (getF_of_reg_eq (reg_setReg_at ..) 31 16)⟩

/-- A tile of a unit that passed its repair clears. -/
def State.clearUnit (s : State) (pg : Nat) : State := match pageBlock pg with | some (.tile, t) => s.startClear t | _ => s

theorem clearUnit_offs (s : State) (pg : Nat) : OffsOnly clearOffs s (s.clearUnit pg) := by
  unfold State.clearUnit
  split
  · exact (OffsOnly.refl _ s).startClear _
  · exact .refl _ s

theorem clearUnit_clears (s : State) {pg t : Nat} (h : pageBlock pg = some (.tile, t)) : (s.clearUnit pg).clears t := by
  unfold State.clearUnit
  rw [h]
  exact startClear_clears s t

section
variable {s : State} {pg : Nat} (h : s.part pg = 3)
include h

theorem effRepairDone_passed : effRepairDone pg true s =
    (((s.setF pgDev 0x348 pg 9 8 1).clearUnit pg).wakeUnit pg).fault { code := 0x0145, page := pgDev, detail := detOther 0xFF [pg] } :=
  if_neg (not_not_intro h)

theorem effRepairDone_failed : effRepairDone pg false s = match pageBlock pg with
    | some (.tile, t) => (((s.setF pgDev 0x348 pg 9 8 2).setF pg 0x24 0 1 0 2).fault
      { code := 0x0146, page := pgDev, cls := 2, action := 3, detail := detOther 0xFF [pg] }).colPending t false
    | _ => ((s.setF pgDev 0x348 pg 9 8 2).setF pg 0x24 0 1 0 2).fault { code := 0x0146, page := pgDev, cls := 2, action := 3, detail := detOther 0xFF [pg] } :=
  if_neg (not_not_intro h)

/-- A repair that passes: the unit is ACTIVE, its result and code stand, and its tile clears. -/
theorem repair_passed (hpg : pg < 32768) : (effRepairDone pg true s).getF pg 0x24 0 1 0 = 0 ∧ (effRepairDone pg true s).getF pgDev 0x348 pg 9 8 = 1 ∧
    (effRepairDone pg true s).getF pgDev 0x18 0 31 16 = 0x0145 ∧ ∀ t, pageBlock pg = some (.tile, t) → (effRepairDone pg true s).clears t := by
  rw [effRepairDone_passed h]
  generalize hu : (s.setF pgDev 0x348 pg 9 8 1).clearUnit pg = u
  have hrecord := (OffsOnly.refl faultOffs (u.wakeUnit pg)).fault { code := 0x0145, page := pgDev, detail := detOther 0xFF [pg] } (List.Subset.refl _)
  refine ⟨?_, ?_, fault_last _ _, fun t ht => ?_⟩
  · rw [hrecord.getF _ _ _ (by decide)]
    exact (wakeUnit_spec u pg).1
  · rw [hrecord.getF _ _ _ ⟨by decide, by omega, hpg⟩, ((OffsOnly.refl _ u).wakeUnit pg).getF _ _ _ ⟨by decide, by omega, hpg⟩, ← hu,
      (clearUnit_offs _ pg).getF _ _ _ ⟨by decide, by omega, hpg⟩, getF_setF_same _ _ _ _ _ _ _ (by omega) (by omega)]
    rfl
  · have hclears : u.clears t := hu ▸ clearUnit_clears _ ht
    have htiles : ((u.wakeUnit pg).fault { code := 0x0145, page := pgDev, detail := detOther 0xFF [pg] }).tiles = u.tiles :=
      (fault_sameBut _ _ .tiles (by decide)).trans (Keeps.sameBut (fs := [.regs, .freeCtr, .recSeq, .pols, .intakes, .hostOut, .trace])
        (State.wakeUnit_keeps rfl (.refl _ u)) .tiles (by decide))
    rw [State.clears, State.tile, htiles]
    exact hclears

/-- A repair that fails: the unit is FENCED again, its result and code stand, and no tile changes. -/
theorem repair_failed (hpg : pg < 32768) : (effRepairDone pg false s).part pg = 2 ∧ (effRepairDone pg false s).getF pgDev 0x348 pg 9 8 = 2 ∧
    (effRepairDone pg false s).getF pgDev 0x18 0 31 16 = 0x0146 ∧ (effRepairDone pg false s).tiles = s.tiles := by
  rw [effRepairDone_failed h]
  generalize hu : ((s.setF pgDev 0x348 pg 9 8 2).setF pg 0x24 0 1 0 2).fault
    { code := 0x0146, page := pgDev, cls := 2, action := 3, detail := detOther 0xFF [pg] } = u
  have hoffs : OffsOnly faultOffs ((s.setF pgDev 0x348 pg 9 8 2).setF pg 0x24 0 1 0 2) u := hu ▸ (OffsOnly.refl _ _).fault _ (List.Subset.refl _)
  have hpart : u.getF pg 0x24 0 1 0 = 2 := (hoffs.getF _ _ _ (by decide)).trans (getF_setF_same _ _ _ _ _ _ _ (by omega) (by omega))
  have hresult : u.getF pgDev 0x348 pg 9 8 = 2 := by
    rw [hoffs.getF _ _ _ ⟨by decide, by omega, hpg⟩, getF_setF_other _ _ _ _ _ _ _ _ _ _ _ _ fun e => by have := (regKey_inj (by omega) (by omega) (by omega) hpg e).2.1; omega]
    exact getF_setF_same _ _ _ _ _ _ _ (by omega) (by omega)
  have hcode : u.getF pgDev 0x18 0 31 16 = 0x0146 := hu ▸ fault_last _ _
  have htiles : u.tiles = s.tiles := hu ▸ fault_sameBut _ _ .tiles (by decide)
  split
  · next t _ =>
    have hnote := OffsOnly.colPending u t
    obtain ⟨hsame, hkept⟩ := colPending_spec u t
    exact ⟨part_of_field ((hnote.getF _ _ _ (by decide)).trans hpart) (by omega), (hnote.getF _ _ _ ⟨by decide, by omega, hpg⟩).trans hresult, hkept.trans hcode,
      hsame.trans htiles⟩
  · exact ⟨part_of_field hpart (by omega), hresult, hcode, htiles⟩

end

/-! The vote (R408 to R410). -/

theorem exec_voteSweep (s : State) (tb i : Nat) (cs ok : List Nat) : exec (.voteSweep tb i cs ok) s = .next (effVote tb i cs ok s) := rfl

theorem voteWinner_agree {v : Nat} {ok : List Nat} (h : ∀ d, d < 4 → d ∈ ok) : voteWinner [v, v, v, v] ok = some v := by
  have hok : ok.contains 0 = true ∧ ok.contains 1 = true ∧ ok.contains 2 = true ∧ ok.contains 3 = true := by
    simp only [List.contains_iff_mem]
    exact ⟨h 0 (by omega), h 1 (by omega), h 2 (by omega), h 3 (by omega)⟩
  obtain ⟨h0, h1, h2, h3⟩ := hok
  simp [voteWinner, List.range_succ, -List.contains_eq_mem, h0, h1, h2, h3]

/-- Of four good copies that agree, none is repaired and nothing is recorded. -/
theorem effVote_agree {s : State} {tb i v : Nat} {ok : List Nat} (hi : i < voteSize tb) (h : ∀ d, d < 4 → d ∈ ok) :
    effVote tb i [v, v, v, v] ok s = s.voteWrite tb i v := by
  unfold effVote
  rw [if_neg (by simp only [List.length_cons, List.length_nil]; omega)]
  simp only [voteWinner_agree h]
  refine List.foldlRecOn (motive := fun st => st = s.voteWrite tb i v) _ _ rfl fun st hst d hd => ?_
  have hd : d < 4 := List.mem_range.1 hd
  have hcopy : [v, v, v, v].getD d 0 = v := by
    have hall : ∀ d < 4, [v, v, v, v].getD d 0 = v := fun d hd => by
      match d, hd with
      | 0, _ | 1, _ | 2, _ | 3, _ => rfl
    exact hall d hd
  rw [if_neg (by simp [h d hd]), if_neg (not_not_intro hcopy)]
  exact hst

theorem effVote_split {s : State} {tb i : Nat} {cs ok : List Nat} (hi : i < voteSize tb) (hlen : cs.length = 4) (hnone : voteWinner cs ok = none) :
    ∃ f, effVote tb i cs ok s = (s.fault f).distrust tb i cs := by
  unfold effVote
  rw [if_neg (by omega)]
  simp only [hnone]
  exact ⟨_, rfl⟩

theorem voteWrite_table {s : State} {tb i v : Nat} (h : tb < 5) : fld ((s.voteWrite tb i v).regAct pgPld 0x104 (tb * 4096 + i)) 6 0 = v % 128 := by
  rw [State.voteWrite, if_pos h, State.regAct, State.setAct, mapFind?_mapSet_same]
  exact fld_setFld_same _ _ _ _ (by omega) (by omega)

theorem voteWrite_route (s : State) (i v : Nat) {d : Nat} (hd : d < 4) : mapGet (s.voteWrite 7 i v).rt (d * 16384 + i) 0 = v % 64 :=
  rtSet_same (n := i) (List.mem_range.2 hd) s.rt

/-- What a stop and a fence leave of what a vote speaks of: the tables as they are, and stopped polders stopped. -/
def OnlyStops (s u : State) : Prop := u.untrusted = s.untrusted ∧ u.act = s.act ∧ u.rt = s.rt ∧ ∀ q, (s.pol q).stopped = true → (u.pol q).stopped = true

namespace OnlyStops

variable {s u v : State}

theorem refl (s : State) : OnlyStops s s := ⟨rfl, rfl, rfl, fun _ h => h⟩

theorem trans (h : OnlyStops s u) (g : OnlyStops u v) : OnlyStops s v := by
  obtain ⟨h1, h2, h3, h4⟩ := h
  obtain ⟨g1, g2, g3, g4⟩ := g
  exact ⟨g1.trans h1, g2.trans h2, g3.trans h3, fun q hq => g4 q (h4 q hq)⟩

theorem foldl {α : Type} {f : State → α → State} (hf : ∀ st a, OnlyStops st (f st a)) (l : List α) (s : State) : OnlyStops s (l.foldl f s) :=
  List.foldlRecOn (motive := fun st => OnlyStops s st) l f (refl s) fun st h a _ => h.trans (hf st a)

theorem of_sameBut {fs : List Field} (h : s.sameBut fs u) (hp : HeartbeatsOnly s u) (hf : .untrusted ∉ fs ∧ .act ∉ fs ∧ .rt ∉ fs) : OnlyStops s u :=
  ⟨h .untrusted hf.1, h .act hf.2.1, h .rt hf.2.2, fun q hq => (hp.stopped_eq q).trans hq⟩

theorem fault (s : State) (f : FaultInfo) : OnlyStops s (s.fault f) := of_sameBut (fault_sameBut s f) (.fault s f) (by decide)

theorem fenceUnit (s : State) (pg : Nat) : OnlyStops s (s.fenceUnit pg) :=
  of_sameBut (fs := [.regs, .freeCtr, .recSeq, .pols, .intakes, .hostOut, .trace]) (Keeps.sameBut (State.fenceUnit_keeps rfl (.refl _ s))) (.fenceUnit s pg)
    (by decide)

theorem polderStop (s : State) (p cause : Nat) (abort : Bool) : OnlyStops s (s.polderStop p cause abort) := by
  have hparts : s.sameBut [.regs, .freeCtr, .recSeq, .tiles, .pols, .intakes, .hostOut, .trace, .flight, .ports, .kneaders] (s.polderStop p cause abort) :=
    Keeps.sameBut (State.polderStop_keeps rfl (.refl _ s))
  exact ⟨hparts .untrusted (by decide), hparts .act (by decide), hparts .rt (by decide), fun q hq => polderStop_keeps_stopped hq p cause abort⟩

end OnlyStops

/-- Every polder of a list stops. -/
theorem foldl_polderStop_stopped (l : List Nat) (s : State) (cause : Nat) {p : Nat} (hp : p ∈ l) :
    ((l.foldl (fun st p => st.polderStop p cause true) s).pol p).stopped = true :=
  (foldl_achieves (P := fun _ => True) (Q := fun p st => (st.pol p).stopped = true) (fun _ _ h => h) (fun st p _ => polderStop_stopped st p cause true)
    (fun _ a _ _ hb => polderStop_keeps_stopped hb a cause true) l s trivial).2 p (.inl hp)

/-- An untrusted entry: it is noted, no table changes, and the owners that its copies name stop. -/
theorem distrust_spec (s : State) (tb i : Nat) (cs : List Nat) : tb * 65536 + i ∈ (s.distrust tb i cs).untrusted ∧ (s.distrust tb i cs).act = s.act ∧
    (s.distrust tb i cs).rt = s.rt ∧ ∀ c, tb < 5 → c ∈ cs → bitOf c 6 = true → ((s.distrust tb i cs).pol (c % 64)).stopped = true := by
  unfold State.distrust
  extract_lets stop named s0 s1
  have hstops (htb : tb < 5) : s0 = named.foldl (fun st p => st.polderStop p 0x0143 true) s := if_pos htb
  have h0 : OnlyStops s s0 := by
    by_cases htb : tb < 5
    · rw [hstops htb]
      exact .foldl (fun st p => .polderStop st p _ _) named s
    · have hnone : s0 = s := if_neg htb
      rw [hnone]
      exact .refl s
  have hnamed (c : Nat) (htb : tb < 5) (hc : c ∈ cs) (hbit : bitOf c 6 = true) : (s0.pol (c % 64)).stopped = true := by
    have hmem : c % 64 ∈ named := List.mem_eraseDups.2 (List.mem_map.2 ⟨c, List.mem_filter.2 ⟨hc, hbit⟩, rfl⟩)
    rw [hstops htb]
    exact foldl_polderStop_stopped named s 0x0143 hmem
  have hnoted : tb * 65536 + i ∈ s1.untrusted := by
    show tb * 65536 + i ∈ if s0.untrusted.contains (tb * 65536 + i) then s0.untrusted else s0.untrusted ++ [tb * 65536 + i]
    split
    · next h => exact List.contains_iff_mem.1 h
    · exact List.mem_append_right _ (List.mem_singleton_self _)
  obtain ⟨-, hact, hrt, -⟩ := h0
  suffices hrest : ∀ u, OnlyStops s1 u → tb * 65536 + i ∈ u.untrusted ∧ u.act = s.act ∧ u.rt = s.rt ∧
      ∀ c, tb < 5 → c ∈ cs → bitOf c 6 = true → (u.pol (c % 64)).stopped = true by
    apply hrest
    split
    · refine OnlyStops.foldl (fun st y => ?_) _ s1
      split
      · exact .fenceUnit st _
      · exact .refl st
    · exact .fenceUnit s1 _
    · exact .trans (u := { s1 with badFtids := mapSet s1.badFtids i ((cs.map (· % 65536)).eraseDups) }) ⟨rfl, rfl, rfl, fun _ h => h⟩ (.polderStop _ i 0x0143 true)
    · exact .refl s1
  intro u ⟨huntrusted, huact, hurt, hustop⟩
  exact ⟨huntrusted ▸ hnoted, huact.trans hact, hurt.trans hrt, fun c htb hc hbit => hustop _ (hnamed c htb hc hbit)⟩

/-- Settles O48: a unit's part by the page's own field (`part_of_field`); an agreeing vote by `effVote_agree`, an untrusted entry by `distrust_spec`. -/
theorem unitsAndVotes : Obligations.UnitsAndVotes := by
  refine ⟨fun s pg hb => ⟨fun hpart => ⟨_, exec_unitFence hb, fenceUnit_spec hpart⟩, fun hpart => ⟨?fenced, ?unfence, ?repair⟩, fun hpart c hc => ?refused,
    fun hpart => ⟨⟨_, exec_repairDone hb true, repair_passed hpart (pageBlock_lt hb)⟩, ⟨_, exec_repairDone hb false, repair_failed hpart (pageBlock_lt hb)⟩⟩,
    fun hpart ok => ?noRepair⟩,
    fun s tb i v cs ok hlen hi => ⟨fun hcs hok => ?agree, fun hnone => ?split, fun j hj => ?beyond, fun d hd => ?retire⟩⟩
  case fenced => rw [exec_unitFence hb, fenceUnit_fenced hpart]
  case unfence =>
    have hexec := exec_unitUnfence (s := s) hb
    rw [if_pos hpart] at hexec
    exact ⟨_, hexec, wakeUnit_spec s pg⟩
  case repair =>
    have hexec := exec_unitRepair (s := s) hb
    rw [if_pos hpart] at hexec
    exact ⟨_, hexec, setPart_part s pg (by omega) (by omega), sameBut_regs s _⟩
  case refused =>
    have hexec : exec c s = .next s.refuseReq := by
      rcases List.mem_pair.1 hc with rfl | rfl
      · rw [exec_unitUnfence hb, if_neg hpart]
      · rw [exec_unitRepair hb, if_neg hpart]
    exact ⟨_, hexec, refuseReq_part s pg, fault_last s _, refuseReq_sameBut s .tiles (by decide)⟩
  case noRepair => rw [exec_repairDone hb, effRepairDone, if_pos hpart]
  case agree =>
    subst hcs
    have hexec := exec_voteSweep s tb i [v, v, v, v] ok
    rw [effVote_agree hi hok] at hexec
    refine ⟨_, hexec, Keeps.sameBut (State.voteWrite_keeps rfl (.refl _ s)), voteWrite_table, fun htb d hd => ?_⟩
    subst htb
    exact voteWrite_route s i v hd
  case split =>
    obtain ⟨f, hf⟩ := effVote_split (s := s) hi hlen hnone
    have hexec := exec_voteSweep s tb i cs ok
    rw [hf] at hexec
    obtain ⟨hnoted, hact, hrt, hstop⟩ := distrust_spec (s.fault f) tb i cs
    exact ⟨_, hexec, hnoted, hact.trans (fault_sameBut s f .act (by decide)), hrt.trans (fault_sameBut s f .rt (by decide)), hstop⟩
  case beyond => rw [exec_voteSweep, effVote, if_pos (.inl hj)]
  case retire =>
    have hexec : exec (.retirementMapWrite d) s = .next { s with module := { s.module with retireMap := mapSet s.module.retireMap d (s.retired d) } } := if_pos hd
    exact ⟨_, hexec, mapGet_mapSet_same .., exec_sameBut hexec⟩

end Sys2Proof.Machine
end

section
/-!
CERTIFICATE. Resets of domains and of PCIe functions (O47, O53). A polder reset abandons the polder's load, and the next waiting load then begins: it
unseals its polder. Nothing in a state bounds the numbers of the polders whose loads wait, and the seal of a number that is no polder's is another
register: here the retired columns of die 0. The tiles that the reset then clears are not those that the polder had.
-/
namespace Sys2Proof.Machine

/-- The number at which the seals' registers (PLD 0x114) reach DIE_COL_RETIRED of die 0. -/
def strayPolder : Nat := ((pgDie 0 - pgPld) * 4096 + 0x400 - 0x114) * 32768

theorem regKey_strayPolder : regKey pgPld 0x114 strayPolder = regKey (pgDie 0) 0x400 0 := by decide

/-- Polder 1 has device column 20 and a load in progress; column 17 of die 0 is retired, and a load of `strayPolder` waits. -/
def strayLoad : State :=
  { ((State.reset.setAct pgPld 0x104 20 65).setReg (pgDie 0) 0x400 0 (BitVec.ofNat 64 (2 ^ 17))) with
    pols := [(1, { loading := some { tag := 0, addr := 0, length := 0, lead := 0 } })]
    intakes := [(strayPolder, { entry := some [] })]
    loadWait := [strayPolder] }

/-- Tile 21 is polder 1's. -/
theorem strayLoad_tile : 21 ∈ strayLoad.tilesOf 1 := by decide +kernel

/-- The reset of polder 1 leaves its tile 21 IDLE: column 17 is back, and column 20 is another one. -/
theorem polderReset_strayLoad : ((effPolderReset 1 strayLoad).tile 21).task = .idle := by decide +kernel

theorem flrVf_strayLoad : ((effFlrVf 1 strayLoad).tile 21).task = .idle := by decide +kernel

theorem not_clears_of_idle {s : State} {t : Nat} (h : (s.tile t).task = .idle) : ¬ s.clears t := fun hc => absurd (h.symm.trans hc) (by decide)

/-- Refutes O47: the reset of polder 1 in `strayLoad` does not clear its tile 21 (`polderReset_strayLoad`). -/
theorem not_resetsClearTheirDomain : ¬ Obligations.ResetsClearTheirDomain := by
  intro h
  obtain ⟨-, hpolder, -⟩ := h strayLoad (by decide +kernel) (by decide +kernel)
  obtain ⟨u, hu, hclears, -⟩ := hpolder 1 (by omega)
  obtain rfl : effPolderReset 1 strayLoad = u := Host.Outcome.next.inj ((exec_polderReset strayLoad 1).symm.trans hu)
  exact not_clears_of_idle polderReset_strayLoad (hclears 21 strayLoad_tile)

theorem exec_flrVf (s : State) {n : Nat} (h0 : n ≠ 0) (hn : n < 64) : exec (.flrVf n) s = .next (effFlrVf n s) := (if_neg h0).trans (if_pos hn)

/-- Refutes O53: the function level reset of VF 1 in `strayLoad` does not clear its tile 21 (`flrVf_strayLoad`). -/
theorem not_pcieFunctions : ¬ Obligations.PcieFunctions := by
  rintro ⟨-, h⟩
  obtain ⟨hvf, -⟩ := h strayLoad
  obtain ⟨u, hu, -, -, -, -, -, hclears⟩ := hvf 1 (by omega) (by omega)
  obtain rfl : effFlrVf 1 strayLoad = u := Host.Outcome.next.inj ((exec_flrVf strayLoad (by omega) (by omega)).symm.trans hu)
  exact not_clears_of_idle flrVf_strayLoad (hclears 21 strayLoad_tile)

end Sys2Proof.Machine
end

section
/-!
SUPPORT. What a unit takes at an activation (R367), and the end of an abandoned load (R212).
-/
namespace Sys2Proof.Machine

/-! Staged values that are taken. -/

theorem keyOff_regKey {pg off sel : Nat} (ho : off < 4096) (hs : sel < 32768) : keyOff (regKey pg off sel) = off := by
  unfold keyOff regKey
  omega

/-- A register's value under its key. -/
def State.keyReg (s : State) (k : Nat) : Word := (mapFind? s.regs k).getD (regReset (keyPage k) (keyOff k))

theorem keyReg_regKey (s : State) {pg off sel : Nat} (ho : off < 4096) (hs : sel < 32768) : s.keyReg (regKey pg off sel) = s.reg pg off sel := by
  rw [State.keyReg, keyPage_regKey _ _ _ ho hs, keyOff_regKey ho hs, State.reg]

/-- Outside the parts (0x24) no register differs. -/
def PartsOnly (s u : State) : Prop := ∀ k, keyOff k ≠ 0x24 → mapFind? u.regs k = mapFind? s.regs k

namespace PartsOnly

variable {s u v : State}

theorem refl (s : State) : PartsOnly s s := fun _ _ => rfl

theorem trans (h : PartsOnly s u) (g : PartsOnly u v) : PartsOnly s v := fun k hk => (g k hk).trans (h k hk)

theorem keyReg_eq (h : PartsOnly s u) {k : Nat} (hk : keyOff k ≠ 0x24) : u.keyReg k = s.keyReg k := by rw [State.keyReg, h k hk, State.keyReg]

theorem offs (h : PartsOnly s u) : OffsOnly [0x24] s u := fun pg off sel hn ho hs => by
  have hne : off ≠ 0x24 := fun e => hn (List.mem_singleton.2 e)
  rw [← keyReg_regKey u ho hs, h.keyReg_eq (by rwa [keyOff_regKey ho hs]), keyReg_regKey s ho hs]

end PartsOnly

/-- A staged key's value becomes its active one. -/
def State.takeKey (s : State) (pg k : Nat) : State := { s with act := mapSet s.act k ((mapFind? s.regs k).getD (regReset pg (keyOff k))) }

theorem foldl_takeKey (pg : Nat) (l : List Nat) : ∀ s : State,
    (∀ k, mapFind? (l.foldl (fun st k => st.takeKey pg k) s).act k =
      if k ∈ l then some ((mapFind? s.regs k).getD (regReset pg (keyOff k))) else mapFind? s.act k) ∧
    s.sameBut [.act] (l.foldl (fun st k => st.takeKey pg k) s) := by
  induction l with
  | nil => exact fun s => ⟨fun k => rfl, Keeps.sameBut (fs := [.act]) (.refl _ s)⟩
  | cons a l ih =>
    intro s
    obtain ⟨hact, hframe⟩ := ih (s.takeKey pg a)
    have hkey : s.sameBut [.act] (s.takeKey pg a) := Keeps.sameBut (Keeps.set_act (w := maskOf [.act]) rfl (.refl _ s))
    refine ⟨fun k => (hact k).trans ?_, hkey.trans hframe⟩
    show (if k ∈ l then some ((mapFind? s.regs k).getD (regReset pg (keyOff k))) else mapFind? (mapSet s.act a _) k) = _
    by_cases hk : k ∈ l
    · rw [if_pos hk, if_pos (List.mem_cons_of_mem _ hk)]
    · rw [if_neg hk]
      by_cases hka : k = a
      · rw [hka, mapFind?_mapSet_same, if_pos List.mem_cons_self]
      · rw [mapFind?_mapSet_other _ _ _ _ (Ne.symm hka), if_neg (by simp [hka, hk])]

theorem takeStaged_sameBut (s : State) (pg : Nat) : s.sameBut [.regs, .act, .staged] (s.takeStaged pg) :=
  Keeps.sameBut (State.takeStaged_keeps rfl (.refl _ s))

/-- A unit takes its page's staged values, and no others. -/
theorem takeStaged_spec (s : State) (pg : Nat) : (∀ k, k ∈ (s.takeStaged pg).staged ↔ k ∈ s.staged ∧ keyPage k ≠ pg) ∧
    (∀ k, mapFind? (s.takeStaged pg).act k = if k ∈ s.staged ∧ keyPage k = pg then some (s.keyReg k) else mapFind? s.act k) ∧
    PartsOnly s (s.takeStaged pg) := by
  unfold State.takeStaged
  extract_lets ks s1 s2
  obtain ⟨hact, hframe⟩ := foldl_takeKey pg ks s
  have hks (k : Nat) : k ∈ ks ↔ k ∈ s.staged ∧ keyPage k = pg := by simp [ks]
  have hstaged : s1.staged = s.staged := hframe .staged (by decide)
  have hregs : s2.regs = s.regs := hframe .regs (by decide)
  have h2 : (∀ k, k ∈ s2.staged ↔ k ∈ s.staged ∧ keyPage k ≠ pg) ∧
      ∀ k, mapFind? s2.act k = if k ∈ s.staged ∧ keyPage k = pg then some (s.keyReg k) else mapFind? s.act k := by
    refine ⟨fun k => ?_, fun k => (hact k).trans ?_⟩
    · show k ∈ s1.staged.filter (fun k => keyPage k != pg) ↔ _
      rw [hstaged]
      simp
    · by_cases hk : k ∈ ks
      · have hpage := (hks k).1 hk
        rw [if_pos hk, if_pos hpage, State.keyReg, hpage.2]
      · rw [if_neg hk, if_neg fun h => hk ((hks k).2 h)]
  obtain ⟨hleft, htaken⟩ := h2
  split
  · refine ⟨hleft, htaken, fun k hk => ?_⟩
    have hne : regKey pg 0x24 0 ≠ k := fun e => hk (by rw [← e, keyOff_regKey (by omega) (by omega)])
    exact (mapFind?_mapSet_other _ _ _ _ hne).trans (congrArg (mapFind? · k) hregs)
  · exact ⟨hleft, htaken, fun k _ => congrArg (mapFind? · k) hregs⟩

/-- Several units take their pages' staged values. -/
theorem foldl_takeStaged_spec (l : List Nat) : ∀ s : State, (∀ k, k ∈ (l.foldl State.takeStaged s).staged ↔ k ∈ s.staged ∧ keyPage k ∉ l) ∧
    (∀ k, k ∈ s.staged → keyPage k ∈ l → keyOff k ≠ 0x24 → mapFind? (l.foldl State.takeStaged s).act k = some (s.keyReg k)) ∧
    (∀ k, k ∉ s.staged ∨ keyPage k ∉ l → mapFind? (l.foldl State.takeStaged s).act k = mapFind? s.act k) ∧ PartsOnly s (l.foldl State.takeStaged s) := by
  induction l with
  | nil => exact fun s => ⟨fun k => by simp, fun k _ hk _ => absurd hk List.not_mem_nil, fun k _ => rfl, .refl s⟩
  | cons pg l ih =>
    intro s
    obtain ⟨hleft, htaken, hrest, hparts⟩ := ih (s.takeStaged pg)
    obtain ⟨hleft1, hact1, hparts1⟩ := takeStaged_spec s pg
    refine ⟨fun k => ?_, fun k hk hpage hoff => ?_, fun k hk => ?_, hparts1.trans hparts⟩
    · rw [List.foldl_cons, hleft, hleft1, List.mem_cons, not_or, and_assoc]
    · by_cases hlater : keyPage k ∈ l ∧ keyPage k ≠ pg
      · exact (htaken k ((hleft1 k).2 ⟨hk, hlater.2⟩) hlater.1 hoff).trans (congrArg some (hparts1.keyReg_eq hoff))
      · have hpg : keyPage k = pg := by
          by_contra hne
          exact hlater ⟨(List.mem_cons.1 hpage).resolve_left hne, hne⟩
        exact (hrest k (.inl fun hmem => ((hleft1 k).1 hmem).2 hpg)).trans ((hact1 k).trans (if_pos ⟨hk, hpg⟩))
    · have hnow : ¬(k ∈ s.staged ∧ keyPage k = pg) := fun ⟨hmem, hpg⟩ => hk.elim (· hmem) fun h => h (hpg ▸ List.mem_cons_self)
      have hlater : k ∉ (s.takeStaged pg).staged ∨ keyPage k ∉ l := by
        rw [hleft1]
        exact hk.imp (fun h hmem => h hmem.1) fun h hmem => h (List.mem_cons_of_mem _ hmem)
      exact (hrest k hlater).trans ((hact1 k).trans (if_neg hnow))

/-! Loads that begin elsewhere while one ends. -/

/-- A polder whose load has ended, and that has no image and protects nothing. -/
def State.idlePol (s : State) (p : Nat) : Prop := (s.pol p).loading = none ∧ (s.pol p).image = none ∧ (s.pol p).prot = none

theorem beginLoad_pol_other (s : State) {p q : Nat} (h : q ≠ p) : (s.beginLoad q).pol p = s.pol p := by
  unfold State.beginLoad
  split
  · rfl
  · extract_lets r src s1 s2
    have h2 : s2.pols = (s1.sealPol q false).pols := (foldl_startClear_spec (s1.tilesOf q) (s1.sealPol q false)).2.1
    show mapGet s2.pols p {} = _
    rw [h2]
    exact State.pol_setPol_other s q p _ h

theorem startLoads_pol_other {p : Nat} (ps : List Nat) : ∀ (seen : List Nat) (s : State), p ∉ ps → (State.startLoads ps seen s).pol p = s.pol p := by
  induction ps with
  | nil => exact fun _ _ _ => rfl
  | cons q ps ih =>
    intro seen s hp
    have hq : q ≠ p := fun e => hp (e ▸ List.mem_cons_self)
    have hps : p ∉ ps := fun h => hp (List.mem_cons_of_mem _ h)
    unfold State.startLoads
    split
    · exact ih _ s hps
    · exact (ih _ _ hps).trans (beginLoad_pol_other _ hq)

/-- A load in progress that is abandoned ends: nothing of it loads, is installed or protected (R212). -/
theorem abandonLoad_idlePol {s : State} {p : Nat} {r : LoadReq} (hload : (s.pol p).loading = some r) (hwait : p ∉ s.loadWait) :
    (s.abandonLoad p).idlePol p := by
  have hundone : (s.undoLoad p).pols = (s.loadClosed p).pols ∧ (s.undoLoad p).loadWait = s.loadWait := by
    have hframe : (s.loadClosed p).sameBut [.regs, .freeCtr, .tiles, .slices, .bridge] (s.undoLoad p) := by
      rw [undoLoad_eq]
      exact Keeps.sameBut (Keeps.foldl (fun _ _ => clearBusy_keeps (w := maskOf [.regs, .freeCtr, .tiles, .slices, .bridge]) rfl) _ _ (.refl _ _))
    exact ⟨hframe .pols (by decide), hframe .loadWait (by decide)⟩
  obtain ⟨hpols, hwait1⟩ := hundone
  have hclosed : (s.undoLoad p).pol p = { s.pol p with prot := none, image := none } := by
    rw [State.pol, hpols]
    exact State.pol_setPol_same s p _
  unfold State.abandonLoad
  rw [hload]
  dsimp only
  generalize hu : (s.undoLoad p).setPol p { (s.undoLoad p).pol p with loading := none } = u
  have hupol : u.pol p = { s.pol p with prot := none, image := none, loading := none } := by rw [← hu, State.pol_setPol_same, hclosed]
  have hend : (s.undoLoad p).endLoad p r { result := 0x1061 } = (u.reportLoad p r.lead r.tag { result := 0x1061 }).nextLoads := by rw [← hu, State.endLoad]
  have huwait : (u.reportLoad p r.lead r.tag { result := 0x1061 }).loadWait = s.loadWait := by
    rw [reportLoad_sameBut u p r.lead r.tag _ .loadWait (by decide), ← hu]
    exact hwait1
  obtain ⟨n, hn⟩ := HeartbeatsOnly.reportLoad u p r.lead r.tag { result := 0x1061 } p
  have hpol : ((s.undoLoad p).endLoad p r { result := 0x1061 }).pol p = { u.pol p with heartbeat := n } := by
    rw [hend, State.nextLoads, startLoads_pol_other _ _ _ (huwait ▸ hwait), hn]
  rw [State.idlePol, hpol, hupol]
  exact ⟨rfl, rfl, rfl⟩

end Sys2Proof.Machine
end

section
/-!
CERTIFICATE. Activations, rejoins and abandoned loads (O45).
-/
namespace Sys2Proof.Machine

theorem exec_activation (s : State) : exec .activation s = .next (effActivation s) := rfl
theorem exec_activationComplete (s : State) : exec .activationComplete s = .next (effActivated s) := rfl
theorem exec_rejoin (s : State) (val : Nat) : exec (.rejoin val) s =
    .next (if !bitOf val 31 then s else { s with rejoin := some (bitsOf val 14 0, bitsOf val 21 16, s.getF pgArm 0x134 0 15 0) }) := rfl
theorem exec_rejoinApply (s : State) : exec .rejoinApply s = .next (effRejoin s) := rfl
theorem exec_loadAbandon (s : State) {p : Nat} (hp : p < 64) : exec (.loadAbandon p) s = .next (match (s.pol p).loading with
    | some r => if r.abort then s.abandonLoad p else s
    | none => s) := if_pos hp

/-! What an activation leaves armed (R367). -/

/-- What an activation may change once the staged values are taken. -/
def afterSwitch : List Field := [.regs, .act, .freeCtr, .recSeq, .hbm, .tiles, .pols, .intakes, .hostOut, .trace, .slices, .bridge, .clean, .zeroing,
  .waitSt, .poison, .sqs, .pools, .sendSeq, .linkRes, .kneaders]

/-- An activation that is due takes the arm away, whatever it changes. -/
theorem effActivation_disarms {s : State} (h : s.actDue = true) : (effActivation s).armB = none ∧ (effActivation s).armF = none := by
  unfold effActivation
  rw [if_neg (by simp [h])]
  extract_lets ps ch eps rot pools s1 s2
  split
  next s3 n _ =>
  extract_lets s4 s5 s6 s7 s8 s9 s10 s11 s12
  have h6 : Keeps (maskOf afterSwitch) s5 s6 := Keeps.foldl (fun _ _ => State.unloadPol_keeps (w := maskOf afterSwitch) rfl) _ _ (.refl _ s5)
  have h7 : Keeps (maskOf afterSwitch) s5 s7 := Keeps.foldl (fun _ _ hst => State.clearTiles_keeps (w := maskOf afterSwitch) rfl
    (Keeps.foldl (fun _ _ => State.emptySlot_keeps (w := maskOf afterSwitch) rfl) _ _ hst)) _ _ h6
  have h8 : Keeps (maskOf afterSwitch) s5 s8 := Keeps.foldl (fun _ _ => State.renewField_keeps (w := maskOf afterSwitch) rfl) _ _ h7
  have h9 : Keeps (maskOf afterSwitch) s5 s9 := Keeps.foldl (fun _ _ => Keeps.set_linkRes (w := maskOf afterSwitch) rfl) _ _ h8
  have h10 : Keeps (maskOf afterSwitch) s5 s10 := State.flushChanged_keeps (w := maskOf afterSwitch) rfl h9
  have h11 : Keeps (maskOf afterSwitch) s5 s11 := Keeps.foldl (fun _ _ => State.rotateKey_keeps (w := maskOf afterSwitch) rfl) _ _
    (Keeps.foldl (fun _ _ => State.newEpoch_keeps (w := maskOf afterSwitch) rfl) _ _ h10)
  have h12 : Keeps (maskOf afterSwitch) s5 s12 := Keeps.foldl (fun _ _ hst => State.checkPools_keeps (w := maskOf afterSwitch) rfl
    (State.retireCols_keeps (w := maskOf afterSwitch) rfl hst)) _ _ h11
  have hrest : s5.sameBut afterSwitch (s12.traceRec 0 7 pgArm 0xFFFF (natLE 2 s12.gen ++ natLE 2 n)) :=
    Keeps.sameBut (State.traceRec_keeps (w := maskOf afterSwitch) rfl h12)
  exact ⟨hrest .armB (by decide), hrest .armF (by decide)⟩

/-! An activation that moves nothing between polders. -/

theorem stopMoved_retired (s : State) (d : Nat) : s.stopMoved d (s.retired d) = s := by
  have hnone : s.movedCols d (s.retired d) = [] := by
    unfold State.movedCols
    rw [List.map_eq_nil_iff, List.filter_eq_nil_iff]
    intro x hx
    have hlt : x < 36 := List.mem_range.1 hx
    simp [State.physCol, hlt, State.liveCols]
  unfold State.stopMoved
  rw [hnone]
  rfl

theorem beforeSwitch_quiet {s : State} (hq : s.quietStage) : s.beforeSwitch [] [] = s := by
  obtain ⟨-, -, -, -, hmodes, hcols⟩ := hq
  have hmoved : (List.range 4).foldl (fun st d => st.stopMoved d (st.stagedRetire d)) s = s := by
    refine List.foldlRecOn (motive := fun st => st = s) _ _ rfl fun st hst d hd => ?_
    rw [hst, (hcols d (List.mem_range.1 hd)).1, stopMoved_retired]
  unfold State.beforeSwitch
  simp only [hmoved, hmodes, List.foldl_nil]

/-- The staged values taken. -/
def State.taken (s : State) : State := s.takers.foldl State.takeStaged s.advanceGen.1.retrust

/-- The staged values taken, the arm gone, and ACTIVATING with the activation's beat. -/
def State.switched (s : State) : State :=
  (({ s.taken with armB := none, armF := none, notTaken := s.advanceGen.2 } : State).setF pgArm 0x104 0 1 0 3).setReg pgArm 0x120 0
    (BitVec.ofNat 64 (s.beat % 2 ^ 56))

/-- The columns that the active mask retires, and the checks of the pools, die by die. -/
def State.colsChecked (s : State) : State := (List.range 4).foldl (fun st d => (st.retireCols d).checkPools d) s

theorem effActivation_quiet {s : State} (h : s.actDue = true) (hq : s.quietStage) : effActivation s =
    s.switched.colsChecked.traceRec 0 7 pgArm 0xFFFF (natLE 2 s.switched.colsChecked.gen ++ natLE 2 s.advanceGen.2) := by
  have hbefore := beforeSwitch_quiet hq
  obtain ⟨hps, hch, hpools, hwakers, -, -⟩ := hq
  unfold effActivation
  rw [if_neg (by simp [h])]
  simp only [hps, hch, hpools, List.filter_nil, List.foldl_nil, List.map_nil, hbefore, hwakers, State.flushChanged]
  rfl

/-! The generation moves on; the values are taken. -/

theorem advanceGen_spec (s : State) : s.advanceGen.1.gen = (s.gen + 1) % 65536 ∧
    ∀ k, keyOff k ≠ 0x28 → k ≠ regKey pgArm 0x118 0 → mapFind? s.advanceGen.1.regs k = mapFind? s.regs k := by
  unfold State.advanceGen
  extract_lets odd s1
  refine ⟨?_, fun k hk hgen => ?_⟩
  · show (s1.setF pgArm 0x118 0 31 16 _).getF pgArm 0x118 0 31 16 = _
    rw [getF_setF_same _ _ _ _ _ _ _ (by omega) (by omega)]
    omega
  · show mapFind? (mapSet s1.regs (regKey pgArm 0x118 0) _) k = _
    rw [mapFind?_mapSet_other _ _ _ _ hgen.symm]
    refine List.foldlRecOn (motive := fun st : State => mapFind? st.regs k = mapFind? s.regs k) _ _ rfl fun st hst pg _ => ?_
    split
    · exact hst
    · have hne : regKey pg 0x28 0 ≠ k := fun e => hk (by rw [← e, keyOff_regKey (by omega) (by omega)])
      exact (mapFind?_mapSet_other _ _ _ _ hne).trans hst

theorem advanceGen_sameBut (s : State) : s.sameBut [.regs] s.advanceGen.1 := Keeps.sameBut (State.advanceGen_keeps rfl (.refl _ s))

theorem retrust_sameBut (s : State) : s.sameBut [.untrusted, .badFtids] s.retrust := Keeps.sameBut (State.retrust_keeps rfl (.refl _ s))

/-- What the units that take an activation have staged is active, and nothing else changes of the staged and active values. -/
theorem taken_spec (s : State) : (∀ k, k ∈ s.taken.staged ↔ k ∈ s.staged ∧ keyPage k ∉ s.takers) ∧
    (∀ k, k ∈ s.staged → keyPage k ∈ s.takers → keyPage k ≠ pgArm → keyOff k ≠ 0x24 → keyOff k ≠ 0x28 → mapFind? s.taken.act k = some (s.keyReg k)) ∧
    (∀ k, k ∉ s.staged ∨ keyPage k ∉ s.takers → mapFind? s.taken.act k = mapFind? s.act k) ∧ PartsOnly s.advanceGen.1 s.taken := by
  obtain ⟨hleft, htaken, hrest, hparts⟩ := foldl_takeStaged_spec s.takers s.advanceGen.1.retrust
  have hgen := advanceGen_sameBut s
  have htrust := retrust_sameBut s.advanceGen.1
  have hstaged : s.advanceGen.1.retrust.staged = s.staged := (htrust .staged (by decide)).trans (hgen .staged (by decide))
  have hact : s.advanceGen.1.retrust.act = s.act := (htrust .act (by decide)).trans (hgen .act (by decide))
  have hregs : s.advanceGen.1.retrust.regs = s.advanceGen.1.regs := htrust .regs (by decide)
  rw [hstaged] at hleft htaken hrest
  refine ⟨hleft, fun k hk hpage harm hpart hmiss => (htaken k hk hpage hpart).trans ?_, fun k hk => (hrest k hk).trans (congrArg (mapFind? · k) hact),
    fun k hk => (hparts k hk).trans (congrArg (mapFind? · k) hregs)⟩
  have hne : k ≠ regKey pgArm 0x118 0 := fun e => harm (by rw [e, keyPage_regKey _ _ _ (by omega) (by omega)])
  rw [State.keyReg, hregs, (advanceGen_spec s).2 k hmiss hne, State.keyReg]

theorem taken_sameBut (s : State) : s.sameBut [.regs, .act, .staged, .untrusted, .badFtids] s.taken := by
  unfold State.taken
  exact Keeps.sameBut (Keeps.foldl (fun _ _ => State.takeStaged_keeps (w := maskOf [.regs, .act, .staged, .untrusted, .badFtids]) rfl) _ _
    (State.retrust_keeps rfl (State.advanceGen_keeps rfl (.refl _ s))))

/-! The columns and pools of an activation that retires none. -/

/-- The active mask retires no further column of a die. -/
def State.noRetire (s : State) : Prop := ∀ d, d < 4 → s.retired d ||| s.getA (pgDie d) 0x410 0 37 0 = s.retired d

theorem retireCols_noRetire {s : State} {d : Nat} (h : s.retired d ||| s.getA (pgDie d) 0x410 0 37 0 = s.retired d) : s.retireCols d = s := by
  unfold State.retireCols
  dsimp only
  rw [h]
  have hnone : (List.range 38).filter (fun x => (s.retired d).testBit x && !(s.retired d).testBit x) = [] := by
    rw [List.filter_eq_nil_iff]
    intro x _
    simp
  rw [hnone]
  rfl

/-- What the checks of the pools write: the low marks, and codes. -/
def poolOffs : List Nat := 0x18C :: errOffs

theorem OffsOnly.poolLow {s0 s : State} (h : OffsOnly poolOffs s0 s) (d p : Nat) : OffsOnly poolOffs s0 (s.poolLow d p) :=
  ite (h.setReg _ _ (by decide) (by omega)) h

theorem OffsOnly.checkPools (s : State) (d : Nat) : OffsOnly poolOffs s (s.checkPools d) := by
  unfold State.checkPools
  refine List.foldlRecOn (motive := fun acc : State × Nat => OffsOnly poolOffs s acc.1) _ _ (.refl _ s) fun acc hacc p _ => ?_
  obtain ⟨st, sum⟩ := acc
  dsimp only at hacc ⊢
  split
  · exact hacc.of_regs rfl
  · split
    · apply OffsOnly.poolLow
      exact hacc.of_regs rfl
    · refine OffsOnly.err ?_ _ _ (List.subset_cons_self _ _)
      exact hacc.of_regs rfl

theorem checkPools_sameBut (s : State) (d : Nat) : s.sameBut [.regs, .pools] (s.checkPools d) := Keeps.sameBut (State.checkPools_keeps rfl (.refl _ s))

theorem noRetire_checkPools {s : State} (h : s.noRetire) (d : Nat) : (s.checkPools d).noRetire := fun e he => by
  have hact : (s.checkPools d).act = s.act := checkPools_sameBut s d .act (by decide)
  rw [State.retired, (OffsOnly.checkPools s d).getF _ _ _ (by decide), State.getA, State.regAct, hact]
  exact h e he

theorem colsChecked_spec {s : State} (h : s.noRetire) : OffsOnly poolOffs s s.colsChecked ∧ s.sameBut [.regs, .pools] s.colsChecked := by
  have hall : s.colsChecked.noRetire ∧ OffsOnly poolOffs s s.colsChecked ∧ s.sameBut [.regs, .pools] s.colsChecked := by
    refine List.foldlRecOn (motive := fun st => st.noRetire ∧ OffsOnly poolOffs s st ∧ s.sameBut [.regs, .pools] st) _ _
      ⟨h, .refl _ s, Keeps.sameBut (.refl _ s)⟩ fun st ⟨hnone, hoffs, hframe⟩ d hd => ?_
    rw [retireCols_noRetire (hnone d (List.mem_range.1 hd))]
    exact ⟨noRetire_checkPools hnone d, hoffs.trans (.checkPools st d), hframe.trans (checkPools_sameBut st d)⟩
  exact hall.2

/-- What an activation that moves nothing between polders writes up to the checks of columns and pools. -/
def switchOffs : List Nat := [0x24, 0x28, 0x104, 0x118, 0x120]

theorem switched_offs (s : State) : OffsOnly switchOffs s s.switched := by
  have hgen : OffsOnly switchOffs s s.advanceGen.1 := by
    have hodd : OffsOnly switchOffs s (s.oddPages.foldl (fun st pg => if (st.missedGen pg).isSome then st else st.setF pg 0x28 0 31 16 st.gen) s) :=
      .foldl (fun st pg => .ite (.refl _ st) ((OffsOnly.refl _ st).setReg _ _ (by decide) (by omega))) _ s
    exact hodd.setReg _ _ (by decide) (by omega)
  have htaken : OffsOnly switchOffs s s.taken := hgen.trans ((taken_spec s).2.2.2.offs.mono (by decide))
  have hdisarmed : OffsOnly switchOffs s ({ s.taken with armB := none, armF := none, notTaken := s.advanceGen.2 } : State) := htaken.of_regs rfl
  exact (hdisarmed.setReg pgArm _ (by decide) (by omega)).setReg pgArm _ (by decide) (by omega)

theorem switched_armState (s : State) : s.switched.armState = 3 := by
  unfold State.armState State.switched
  rw [getF_of_reg_eq (reg_setReg_offset _ _ _ _ _ _ _ _ (by omega) (by omega) (by omega) (by omega) (by omega))]
  exact getF_setF_same _ _ _ _ _ _ _ (by omega) (by omega)

theorem switched_gen (s : State) : s.switched.gen = (s.gen + 1) % 65536 := by
  have hafter : OffsOnly [0x24, 0x104, 0x120] s.advanceGen.1 s.switched := by
    have htaken : OffsOnly [0x24, 0x104, 0x120] s.advanceGen.1 s.taken := (taken_spec s).2.2.2.offs.mono (by decide)
    have hdisarmed : OffsOnly [0x24, 0x104, 0x120] s.advanceGen.1 ({ s.taken with armB := none, armF := none, notTaken := s.advanceGen.2 } : State) :=
      htaken.of_regs rfl
    exact (hdisarmed.setReg pgArm _ (by decide) (by omega)).setReg pgArm _ (by decide) (by omega)
  exact (hafter.getF pgArm 31 16 (by decide)).trans (advanceGen_spec s).1

/-- The staged masks that retire nothing retire nothing once they are active. -/
theorem switched_noRetire {s : State} (hcols : ∀ d, d < 4 → s.stagedRetire d = s.retired d ∧ s.retired d ||| s.getA (pgDie d) 0x410 0 37 0 = s.retired d) :
    s.switched.noRetire := fun d hd => by
  obtain ⟨hstaged, hactive⟩ := hcols d hd
  obtain ⟨-, htaken, hrest, -⟩ := taken_spec s
  have hret : s.switched.retired d = s.retired d := (switched_offs s).getF _ _ _ (by decide)
  have hpage : keyPage (regKey (pgDie d) 0x410 0) = pgDie d := keyPage_regKey _ _ _ (by omega) (by omega)
  have hoff : keyOff (regKey (pgDie d) 0x410 0) = 0x410 := keyOff_regKey (by omega) (by omega)
  have harm : pgDie d ≠ pgArm := by
    unfold pgDie pgArm
    omega
  by_cases hk : regKey (pgDie d) 0x410 0 ∈ s.staged ∧ keyPage (regKey (pgDie d) 0x410 0) ∈ s.takers
  · have hact : s.switched.getA (pgDie d) 0x410 0 37 0 = s.getF (pgDie d) 0x410 0 37 0 := by
      have hval : s.switched.regAct (pgDie d) 0x410 0 = s.reg (pgDie d) 0x410 0 := by
        show (mapFind? s.taken.act (regKey (pgDie d) 0x410 0)).getD _ = _
        rw [htaken _ hk.1 hk.2 (by rw [hpage]; exact harm) (by rw [hoff]; decide) (by rw [hoff]; decide), keyReg_regKey s (by omega) (by omega)]
        rfl
      rw [State.getA, hval, State.getF]
    rw [hret, hact]
    exact hstaged
  · have hact : s.switched.getA (pgDie d) 0x410 0 37 0 = s.getA (pgDie d) 0x410 0 37 0 := by
      have hval : s.switched.regAct (pgDie d) 0x410 0 = s.regAct (pgDie d) 0x410 0 := by
        show (mapFind? s.taken.act (regKey (pgDie d) 0x410 0)).getD _ = _
        rw [hrest _ (not_and_or.1 hk)]
        rfl
      rw [State.getA, hval, State.getA]
    rw [hret, hact]
    exact hactive

/-- What an activation that moves nothing between polders leaves of what `switched` holds: all but the pools and the trace ring. -/
theorem effActivation_after {s : State} (h : s.actDue = true) (hq : s.quietStage) : s.switched.sameBut [.regs, .freeCtr, .trace, .pools] (effActivation s) ∧
    OffsOnly (0x110 :: 0x120 :: poolOffs) s.switched (effActivation s) ∧ (effActivation s).reg pgArm 0x120 0 = s.switched.reg pgArm 0x120 0 := by
  rw [effActivation_quiet h hq]
  obtain ⟨-, -, -, -, -, hcols⟩ := hq
  obtain ⟨hoffs, hframe⟩ := colsChecked_spec (switched_noRetire hcols)
  generalize s.switched.colsChecked = u at hoffs hframe
  refine ⟨?_, ?_, ?_⟩
  · have htrace : u.sameBut [.regs, .freeCtr, .trace] (u.traceRec 0 7 pgArm 0xFFFF (natLE 2 u.gen ++ natLE 2 s.advanceGen.2)) :=
      Keeps.sameBut (State.traceRec_keeps rfl (.refl _ u))
    exact (hframe.mono (by decide)).trans (htrace.mono (by decide))
  · exact (hoffs.mono (by decide)).trans ((OffsOnly.refl _ u).traceRec _ _ _ _ _ (by decide))
  · rw [traceRec_reg _ _ _ _ _ _ _ _ _ (by decide) (by omega) (by omega)]
    exact hoffs _ _ _ (by decide) (by omega) (by omega)

/-- An activation that moves nothing between polders: what the units that take it have staged is active, and no tile or polder changes. -/
theorem effActivation_quiet_spec {s : State} (h : s.actDue = true) (hq : s.quietStage) : (effActivation s).armState = 3 ∧
    (effActivation s).gen = (s.gen + 1) % 65536 ∧ (effActivation s).reg pgArm 0x120 0 = BitVec.ofNat 64 (s.beat % 2 ^ 56) ∧
    (effActivation s).staged = s.taken.staged ∧ (effActivation s).act = s.taken.act ∧ (effActivation s).tiles = s.tiles ∧
    (effActivation s).pols = s.pols := by
  obtain ⟨hframe, hoffs, hbeat⟩ := effActivation_after h hq
  have htaken := taken_sameBut s
  exact ⟨(hoffs.getF _ _ _ (by decide)).trans (switched_armState s), (hoffs.getF _ _ _ (by decide)).trans (switched_gen s),
    hbeat.trans (reg_setReg_same _ _ _ _ _), hframe .staged (by decide), hframe .act (by decide),
    (hframe .tiles (by decide)).trans (htaken .tiles (by decide)), (hframe .pols (by decide)).trans (htaken .pols (by decide))⟩

/-- The completion (R370): IDLE again, with its record. -/
theorem effActivated_spec {s : State} (h : s.armState = 3) : (effActivated s).armState = 0 ∧ (effActivated s).getF pgArm 0x18 0 31 16 = 0x0544 ∧
    (effActivated s).gen = s.gen := by
  rw [effActivated, if_neg (not_not_intro h)]
  have hposted (v : State) (vals : List Nat) : OffsOnly faultOffs v (v.armPost 0x0544 none vals) := (OffsOnly.refl _ v).fault _ (List.Subset.refl _)
  refine ⟨?_, fault_last _ _, ?_⟩
  · rw [State.armState, (hposted _ _).getF _ _ _ (by decide)]
    exact getF_setF_same _ _ _ _ _ _ _ (by omega) (by omega)
  · rw [State.gen, (hposted _ _).getF _ _ _ (by decide)]
    exact getF_of_reg_eq (reg_setReg_offset _ _ _ _ _ _ _ _ (by omega) (by omega) (by omega) (by omega) (by omega)) 31 16

/-! Rejoins (R368). -/

section
variable {s : State} {pg p ep : Nat}

/-- The unit's own generation is gone: it has the device's. -/
def State.dropGen (s : State) (pg : Nat) : State := { s with regs := s.regs.filter (fun e => e.1 != regKey pg 0x28 0) }

/-- A stale unit back under its owner: its tile clears, it has taken what its page had staged, and it is stale no more. -/
def State.rejoined (s : State) (pg : Nat) : State :=
  (((((({ s with rejoin := none } : State).clearUnit pg).dropGen pg).takeStaged pg).setF pg 0x24 0 2 2 0)).setReg pgArm 0x138 0 0

theorem effRejoin_passes (hr : s.rejoin = some (pg, p, ep)) (hpart : s.part pg = 0) (hstale : s.stale pg = true) (ho : s.unitOwner pg = (p, ep)) :
    effRejoin s = s.rejoined pg := by
  unfold effRejoin
  rw [hr]
  exact if_pos ⟨hpart, hstale, ho⟩

theorem effRejoin_refused (hr : s.rejoin = some (pg, p, ep)) (hno : s.part pg ≠ 0 ∨ s.unitOwner pg ≠ (p, ep)) :
    effRejoin s = (({ s with rejoin := none } : State).setReg pgArm 0x138 0 0x0546).armPost 0x0546 none [pg] := by
  unfold effRejoin
  rw [hr]
  exact if_neg fun ⟨hpart, _, ho⟩ => hno.elim (· hpart) (· ho)

theorem clearUnit_sameBut (s : State) (pg : Nat) : s.sameBut [.regs, .freeCtr, .tiles, .slices, .bridge] (s.clearUnit pg) := by
  unfold State.clearUnit
  split
  · exact Keeps.sameBut (State.startClear_keeps rfl (.refl _ s))
  · exact Keeps.sameBut (.refl _ s)

theorem rejoined_spec (s : State) (pg : Nat) : (s.rejoined pg).rejoin = none ∧ (s.rejoined pg).stale pg = false ∧ (s.rejoined pg).reg pgArm 0x138 0 = 0 ∧
    (∀ k, k ∈ (s.rejoined pg).staged ↔ k ∈ s.staged ∧ keyPage k ≠ pg) ∧ ∀ t, pageBlock pg = some (.tile, t) → (s.rejoined pg).clears t := by
  have hclear := clearUnit_sameBut ({ s with rejoin := none } : State) pg
  have htile (t : Nat) (ht : pageBlock pg = some (.tile, t)) := clearUnit_clears ({ s with rejoin := none } : State) ht
  unfold State.rejoined
  generalize ({ s with rejoin := none } : State).clearUnit pg = u at hclear htile
  have htake := takeStaged_sameBut (u.dropGen pg) pg
  have hstaged : (u.dropGen pg).staged = s.staged := hclear .staged (by decide)
  obtain ⟨hleft, -, -⟩ := takeStaged_spec (u.dropGen pg) pg
  rw [hstaged] at hleft
  refine ⟨(htake .rejoin (by decide)).trans (hclear .rejoin (by decide)), ?_, reg_setReg_same _ _ _ _ _, hleft, fun t ht => ?_⟩
  · have hbit : ((((u.dropGen pg).takeStaged pg).setF pg 0x24 0 2 2 0).setReg pgArm 0x138 0 0).getF pg 0x24 0 2 2 = 0 :=
      (getF_of_reg_eq (reg_setReg_offset _ _ _ _ _ _ _ _ (by omega) (by omega) (by omega) (by omega) (by omega)) 2 2).trans
        (getF_setF_same _ _ _ _ _ _ _ (by omega) (by omega))
    rw [State.stale, hbit]
    rfl
  · show (mapGet ((u.dropGen pg).takeStaged pg).tiles t {}).task = .clearing
    rw [htake .tiles (by decide)]
    exact htile t ht

/-- A record for an INTAKE writes registers of that INTAKE only. -/
theorem postTo_regsOff (s : State) (p : Nat) (r : Record) : RegsOff [pgIntake p] s (s.postTo p r) := by
  have hp : pgIntake p ∈ [pgIntake p] := List.mem_singleton_self _
  have hslot : RegsOff [pgIntake p] s (s.slotWrite p r) :=
    RegsOff.of_regs (((RegsOff.refl _ s).of_regs (v := (s.hostWrite p _ _).hostWrite p _ _) rfl).setReg hp (by omega) (by omega)) rfl
  have hstatus (k : Intake) (v : Word) : RegsOff [pgIntake p] s ((s.setIntake p k).setReg (pgIntake p) 0x13C 0 v) :=
    ((RegsOff.refl _ s).of_regs (v := s.setIntake p k) rfl).setReg hp (by omega) (by omega)
  unfold State.postTo
  dsimp only
  split
  · exact hslot
  · split
    · exact hstatus _ _
    · exact (hstatus _ _).setReg hp (by omega) (by omega)

/-- A record that no polder gets leaves PLD_REJOIN_STATUS. -/
theorem fault_rejoinStatus (s : State) {f : FaultInfo} (hpol : f.pol = none) : (s.fault f).reg pgArm 0x138 0 = s.reg pgArm 0x138 0 := by
  obtain ⟨u, r, hfault, -, hoffs⟩ := fault_posts s f
  have hpost : RegsOff [pgIntake 0] (u.noteFault f) ((u.noteFault f).post none r) :=
    (RegsOff.of_regs (v := { u.noteFault f with recSeq := (u.noteFault f).recSeq + 1 }) (.refl _ _) rfl).trans (postTo_regsOff _ 0 r)
  rw [hfault, hpol, hpost.reg_eq (by decide) (by omega) (by omega), noteFault_reg _ _ _ _ _ (by decide) (by omega) (by omega)]
  exact hoffs _ _ _ (by decide) (by omega) (by omega)

/-- A refused rejoin: the code in PLD_REJOIN_STATUS, and no unit or tile changes. -/
theorem rejoinRefused_spec (s : State) (pg : Nat) {u : State}
    (hu : (({ s with rejoin := none } : State).setReg pgArm 0x138 0 0x0546).armPost 0x0546 none [pg] = u) :
    u.rejoin = none ∧ u.reg pgArm 0x138 0 = 0x0546 ∧ u.stale pg = s.stale pg ∧ u.tiles = s.tiles := by
  have hframe : (({ s with rejoin := none } : State).setReg pgArm 0x138 0 0x0546).sameBut [.regs, .freeCtr, .recSeq, .pols, .intakes, .hostOut, .trace] u := by
    rw [← hu]
    exact fault_sameBut _ _
  refine ⟨hframe .rejoin (by decide), ?_, ?_, hframe .tiles (by decide)⟩
  · rw [← hu, State.armPost, fault_rejoinStatus _ rfl, reg_setReg_same]
  · rw [← hu, State.stale, State.armPost, ((OffsOnly.refl faultOffs _).fault _ (List.Subset.refl _)).getF _ _ _ (by decide),
      getF_of_reg_eq (reg_setReg_offset _ _ _ _ _ _ _ _ (by omega) (by omega) (by omega) (by omega) (by omega)) 2 2]
    rfl

end

/-- Settles O45: an activation that moves nothing by `effActivation_quiet_spec` and `taken_spec`, a rejoin by `rejoined_spec`, an abandoned load by
`abandonLoad_idlePol`. -/
theorem activationAndRejoin : Obligations.ActivationAndRejoin := by
  refine ⟨fun s => ⟨fun h => ?notDue, fun h => ⟨_, exec_activation s, effActivation_disarms h⟩, fun h hq => ?quiet,
    fun h => ⟨_, exec_activationComplete s, effActivated_spec h⟩, fun h => ?notActing⟩,
    fun s => ⟨fun val h => ?go, fun val h => ?noGo, fun h => ?none, fun pg p ep hr => ⟨fun hpart hstale ho => ?passes, fun hno => ?refused⟩,
      fun p r hp hload habort hwait => ?abandons, fun p hp hno => ?stays⟩⟩
  case notDue => rw [exec_activation, effActivation, if_pos (by simp [h])]
  case quiet =>
    obtain ⟨hstate, hgen, hbeat, hstaged, hact, htiles, hpols⟩ := effActivation_quiet_spec h hq
    obtain ⟨hleft, htaken, hrest, -⟩ := taken_spec s
    refine ⟨_, exec_activation s, hstate, hgen, hbeat, hstaged ▸ hleft, ?_, ?_, htiles, hpols⟩
    · rw [hact]
      exact htaken
    · rw [hact]
      exact hrest
  case notActing => rw [exec_activationComplete, effActivated, if_pos h]
  case go =>
    have hexec := exec_rejoin s val
    rw [if_neg (by simp [h])] at hexec
    exact ⟨_, hexec, rfl, Keeps.sameBut (Keeps.set_rejoin (w := maskOf [.rejoin]) rfl (.refl _ s))⟩
  case noGo => rw [exec_rejoin, if_pos (by simp [h])]
  case none => rw [exec_rejoinApply, effRejoin, h]
  case passes =>
    have hexec := exec_rejoinApply s
    rw [effRejoin_passes hr hpart hstale ho] at hexec
    exact ⟨_, hexec, rejoined_spec s pg⟩
  case refused =>
    have hexec := exec_rejoinApply s
    rw [effRejoin_refused hr hno] at hexec
    exact ⟨_, hexec, rejoinRefused_spec s pg rfl⟩
  case abandons =>
    have hexec := exec_loadAbandon s hp
    simp only [hload, habort, if_true] at hexec
    exact ⟨_, hexec, abandonLoad_idlePol hload hwait⟩
  case stays =>
    rw [exec_loadAbandon s hp]
    split
    · next r hload => rw [hno r hload, if_neg Bool.false_ne_true]
    · rfl

end Sys2Proof.Machine
end

section
/-!
CERTIFICATE. Commits, aborts, quiesces and deadlines of instances (O36). A kneader's instances are a list of keys and instances, and nothing in a state
keeps a key from being listed twice. A deadline goes by the first listed instance that meets its condition, an abort by the first of the key.
-/
namespace Sys2Proof.Machine

/-- An instance that has ended. -/
def endedInst : KInst := { desc := 0, num := 0, state := 0 }

/-- Kneader 0 lists two instances of descriptor 0 of slot 0: one that has ended, and one in progress past the deadline of one frame, whose slot aborts
(KND_SLOT_CFG). Slot 0 is polder 1's. -/
def twiceListed : State :=
  ((State.reset.setAct pgPld 0x104 (3 * 4096) 65).setReg (pgKnd 0) 0x108 0 0x10001).setKnd 0
    { insts := [(0, endedInst), (0, { desc := 0, num := 1, state := 2, frames := 1 })] }

theorem twiceListed_overdue : twiceListed.firstInst 0 0 (fun _ i => i.active && i.state != 4 && i.doneAt.isNone && !i.late &&
    decide (twiceListed.getF (pgKnd 0) 0x108 0 15 0 ≠ 0) && decide (twiceListed.getF (pgKnd 0) 0x108 0 15 0 ≤ i.frames)) = some 0 := by decide +kernel

/-- The deadline aborts nothing: the instance that its key names first has ended. -/
theorem deadline_twiceListed : (effDeadline 0 0 twiceListed).kinst 0 0 = some endedInst := by decide +kernel

/-- Refutes O36: past the deadline in `twiceListed`, the instance that KND_DEADLINE's key names does not abort (`deadline_twiceListed`). -/
theorem not_kneaderCommitsAndAborts : ¬ Obligations.KneaderCommitsAndAborts := by
  rintro ⟨-, h⟩
  obtain ⟨-, -, -, -, -, hdeadline⟩ := h twiceListed 0 1 (by omega)
  obtain ⟨-, haborts⟩ := hdeadline 0 0 endedInst (by decide +kernel) rfl twiceListed_overdue
  obtain ⟨u, hu, -, hinst⟩ := haborts (by decide +kernel)
  have hexec : exec (.kndDeadline 0 0) twiceListed = .next (effDeadline 0 0 twiceListed) := rfl
  obtain rfl : effDeadline 0 0 twiceListed = u := Host.Outcome.next.inj (hexec.symm.trans hu)
  exact absurd (deadline_twiceListed.symm.trans hinst) (by decide)

end Sys2Proof.Machine
end

section
/-!
SUPPORT. Kneader descriptors and instances (R327, R331, R342): what is read after a write, which triggers wait, and what a commit changes.
-/
namespace Sys2Proof.Machine

section
variable {s u : State} {d slot desc key : Nat}

theorem kdesc_of_kneaders (h : u.kneaders = s.kneaders) : u.kdesc = s.kdesc := by
  funext d slot desc
  rw [State.kdesc, State.knd, h, State.kdesc, State.knd]

theorem kinst_of_kneaders (h : u.kneaders = s.kneaders) : u.kinst = s.kinst := by
  funext d key
  rw [State.kinst, State.knd, h, State.kinst, State.knd]

@[simp] theorem kdesc_setKdesc_same (x : KDesc) : (s.setKdesc d slot desc x).kdesc d slot desc = x := by
  rw [State.kdesc, State.setKdesc, State.knd_setKnd_same, mapGet_mapSet_same]

theorem kdesc_setKdesc_other (x : KDesc) {slot' desc' : Nat} (h : slot * 256 + desc ≠ slot' * 256 + desc') :
    (s.setKdesc d slot desc x).kdesc d slot' desc' = s.kdesc d slot' desc' := by
  rw [State.kdesc, State.setKdesc, State.knd_setKnd_same, mapGet_mapSet_other _ _ _ _ _ h, State.kdesc]

@[simp] theorem kinst_setKdesc (x : KDesc) (key : Nat) : (s.setKdesc d slot desc x).kinst d key = s.kinst d key := by
  rw [State.kinst, State.setKdesc, State.knd_setKnd_same, State.kinst]

@[simp] theorem kinst_setKinst_same (i : KInst) : (s.setKinst d key i).kinst d key = some i := by
  rw [State.kinst, State.setKinst, State.knd_setKnd_same, mapFind?_mapSet_same]

@[simp] theorem kdesc_setKinst (i : KInst) (slot desc : Nat) : (s.setKinst d key i).kdesc d slot desc = s.kdesc d slot desc := by
  rw [State.kdesc, State.setKinst, State.knd_setKnd_same, State.kdesc]

theorem onKinst_some {i : KInst} (h : s.kinst d key = some i) (f : KInst → KInst) : s.onKinst d key f = s.setKinst d key (f i) := by
  rw [State.onKinst, h]

theorem setKdesc_sameBut (x : KDesc) : s.sameBut [.kneaders] (s.setKdesc d slot desc x) := Keeps.sameBut (State.setKdesc_keeps rfl (.refl _ s))

theorem setKinst_sameBut (i : KInst) : s.sameBut [.kneaders] (s.setKinst d key i) := Keeps.sameBut (State.setKinst_keeps rfl (.refl _ s))

theorem key_div (h : desc < 256) : (slot * 256 + desc) / 256 = slot := by omega

theorem key_mod (h : desc < 256) : (slot * 256 + desc) % 256 = desc := by omega

/-- The first instance of a slot that meets a condition is the slot's. -/
theorem firstInst_slot {f : KDesc → KInst → Bool} (h : s.firstInst d slot f = some key) : key / 256 = slot := by
  obtain ⟨e, hfind, hkey⟩ := Option.map_eq_some_iff.1 h
  have hprop := List.find?_some hfind
  rw [← hkey]
  exact beq_iff_eq.1 (Bool.and_eq_true_iff.1 hprop).1

/-- Whether a descriptor's newest instance is in progress. -/
def State.kbusy (s : State) (d key : Nat) : Bool := match s.kinst d key with | some i => i.active | none => false

theorem kbusy_eq_false (h : ∀ i, s.kinst d key = some i → i.active = false) : s.kbusy d key = false := by
  unfold State.kbusy
  split
  · next i hi => exact h i hi
  · rfl

theorem kbusy_eq {i : KInst} (h : s.kinst d key = some i) : s.kbusy d key = i.active := by rw [State.kbusy, h]

/-! Triggers (R331). -/

/-- Below its ready count, a descriptor triggers nothing; nor does a frame barrier's. -/
theorem tryTrigger_waits (h : (s.kdesc d (key / 256) (key % 256)).ready < (s.kdesc d (key / 256) (key % 256)).readyCount ∨
    (s.kdesc d (key / 256) (key % 256)).kind = 7) : s.tryTrigger d key = s := by
  unfold State.tryTrigger
  dsimp only
  split
  · rfl
  · rw [if_pos (by rcases h with h | h <;> simp [h])]

/-- A global barrier of one device that may trigger takes its ready count off, starts the instance after the completed ones, and is complete at once. -/
theorem tryTrigger_barrier {x : KDesc} {p : Nat} (hx : s.kdesc d (key / 256) (key % 256) = x) (hp : s.slotPol d (key / 256) = some p) (hvalid : x.valid = true)
    (hkind : x.kind = 6) (hcount : 1 ≤ x.readyCount) (hready : x.readyCount ≤ x.ready) (hdims : s.kdims p x = []) (hquiet : s.quiesced d p = false)
    (hstop : (s.pol p).stopped = false) (hidle : ∀ j, s.kinst d key = some j → j.active = false) :
    (s.tryTrigger d key).kdesc d (key / 256) (key % 256) = { x with ready := x.ready - x.readyCount } ∧
      (s.tryTrigger d key).kinst d key = some { desc := key % 256, num := (x.done + 1) % 2 ^ 32, state := 2, doneAt := some s.beat } := by
  let s1 := (s.setKdesc d (key / 256) (key % 256) { x with ready := x.ready - x.readyCount }).newInst d key
  have hinst : s1.kinst d key = some { desc := key % 256, num := (x.done + 1) % 2 ^ 32, state := 2 } := by
    show (State.newInst _ d key).kinst d key = _
    rw [State.newInst, kinst_setKinst_same, kdesc_setKdesc_same]
  have heq : s.tryTrigger d key = s1.setKinst d key { desc := key % 256, num := (x.done + 1) % 2 ^ 32, state := 2, doneAt := some s.beat } := by
    unfold State.tryTrigger
    rw [hp]
    refine (if_neg ?_).trans ((if_pos (by rw [hx, hkind])).trans ?_)
    · rw [hx]
      rintro (h | h | h | h | h | h | h)
      · simp [hvalid] at h
      · exact absurd (h.symm.trans (kbusy_eq_false hidle)) (by decide)
      · omega
      · omega
      · omega
      · simp [hquiet] at h
      · simp [hstop] at h
    · rw [hx]
      have hdims1 : s1.kdims p x = [] := hdims
      exact (if_pos hdims1).trans (onKinst_some hinst _)
  rw [heq]
  exact ⟨by rw [kdesc_setKinst]; exact (kdesc_setKinst _ _ _).trans (kdesc_setKdesc_same _), kinst_setKinst_same _⟩

/-! Commits (R342). -/

/-- An instance that ends with its commit, where nothing triggers again: its completion is counted. -/
theorem kndCommit_spec {i : KInst} {p : Nat} (hi : s.kinst d key = some i) (hp : s.slotPol d (key / 256) = some p)
    (hwaits : (s.kdesc d (key / 256) (key % 256)).ready < (s.kdesc d (key / 256) (key % 256)).readyCount ∨
      (s.kdesc d (key / 256) (key % 256)).kind = 7) :
    ((s.kndCommit d key).kdesc d (key / 256) (key % 256)).done = ((s.kdesc d (key / 256) (key % 256)).done + 1) % 2 ^ 32 ∧
      (s.kndCommit d key).kinst d key = some { desc := i.desc, num := i.num, state := 0 } ∧ s.sameBut [.regs, .kneaders, .pols] (s.kndCommit d key) := by
  generalize hx : s.kdesc d (key / 256) (key % 256) = x at hwaits
  let s1 := (s.setKdesc d (key / 256) (key % 256) { x with done := (x.done + 1) % 2 ^ 32 }).setKinst d key { desc := i.desc, num := i.num, state := 0 }
  let s2 := (s1.bump (pgKnd d) 0x178 0 1).beatHeart p
  have hdesc : s2.kdesc d (key / 256) (key % 256) = { x with done := (x.done + 1) % 2 ^ 32 } :=
    (kdesc_setKinst _ _ _).trans (kdesc_setKdesc_same _)
  have heq : s.kndCommit d key = s2 := by
    have htrigger : s2.tryTrigger d key = s2 := tryTrigger_waits (by rw [hdesc]; exact hwaits)
    unfold State.kndCommit
    dsimp only
    rw [hx, onKinst_some (i := i) (by rw [kinst_setKdesc]; exact hi)]
    show (match s.slotPol d (key / 256) with | some p => _ | none => _) = _
    rw [hp]
    exact htrigger
  rw [heq]
  refine ⟨by rw [hdesc], kinst_setKinst_same _, ?_⟩
  exact Keeps.sameBut (State.beatHeart_keeps rfl (State.bump_keeps rfl (State.setKinst_keeps rfl (State.setKdesc_keeps rfl (.refl _ s)))))

end

end Sys2Proof.Machine
end

section
/-!
CERTIFICATE. Posts and kneader flags (O34).
-/
namespace Sys2Proof.Machine

/-! Posts (R330). -/

theorem exec_kndPost {fn d : Nat} (hfn : fn < 64) (hd : d < 4) (s : State) : exec (.kndPost fn d) s = .next (effKndPost fn d s) := if_pos ⟨hfn, hd⟩

/-- A refused post: its code in the result and in PG_ERR. -/
def State.postRefused (s : State) (d code : Nat) : State := (s.setF (pgKnd d) 0x164 0 31 16 code).err (pgKnd d) code

theorem postRefused_spec (s : State) (d : Nat) {code : Nat} (hcode : code < 2 ^ 16) : (s.postRefused d code).getF (pgKnd d) 0x164 0 31 16 = code ∧
    (s.postRefused d code).getF (pgKnd d) 0x18 0 31 16 = code ∧ s.sameBut [.regs] (s.postRefused d code) := by
  refine ⟨?_, ?_, Keeps.sameBut (State.err_keeps rfl (State.setF_keeps rfl (.refl _ s)))⟩
  · rw [State.postRefused, ((OffsOnly.refl errOffs _).err _ _ (List.Subset.refl _)).getF _ _ _ (by decide),
      getF_setF_same _ _ _ _ _ _ _ (by omega) (by omega)]
    exact Nat.mod_eq_of_lt hcode
  · rw [State.postRefused, err_last]
    exact Nat.mod_eq_of_lt hcode

section
variable {s : State} {fn d slot p desc : Nat} {im : Image} {k : KDecl} (hslot : s.slotThrough fn d (s.getF (pgKnd d) 0x110 0 5 0) = some slot)
  (hdesc : desc = s.getF (pgKnd d) 0x110 0 15 8) (hp : s.slotPol d slot = some p) (him : (s.pol p).image = some im)
  (hk : im.kneads.find? (fun k => k.kslot == s.rankOf 3 p (d * 16 + slot) && k.desc == desc) = some k)
include hslot hdesc hp him hk

/-- A post of a declared descriptor: the checks of R330 in their order. -/
theorem effKndPost_declared : effKndPost fn d s =
    if !declMatch k (postDesc (s.staged64 d)) then s.postRefused d 0x1241
    else if !s.postForm p (s.staged64 d) (postDesc (s.staged64 d)) then s.postRefused d 0x1240
    else if s.kbusy d (slot * 256 + desc) then s.postRefused d 0x1242
    else ((s.setKdesc d slot desc { postDesc (s.staged64 d) with ready := (s.kdesc d slot desc).ready, done := (s.kdesc d slot desc).done }).setF (pgKnd d)
      0x164 0 31 16 0).tryTrigger d (slot * 256 + desc) := by
  subst hdesc
  unfold effKndPost
  dsimp only
  rw [hslot]
  dsimp only
  rw [hp]
  dsimp only
  rw [him]
  dsimp only
  rw [hk]
  rfl

theorem post_installs (hmatch : declMatch k (postDesc (s.staged64 d)) = true) (hform : s.postForm p (s.staged64 d) (postDesc (s.staged64 d)) = true)
    (hidle : ∀ i, s.kinst d (slot * 256 + desc) = some i → i.active = false)
    (hready : (s.kdesc d slot desc).ready < (postDesc (s.staged64 d)).readyCount) :
    (effKndPost fn d s).kdesc d slot desc =
        { postDesc (s.staged64 d) with ready := (s.kdesc d slot desc).ready, done := (s.kdesc d slot desc).done } ∧
      (∀ sl de, de < 256 → (sl, de) ≠ (slot, desc) → (effKndPost fn d s).kdesc d sl de = s.kdesc d sl de) ∧
      (effKndPost fn d s).getF (pgKnd d) 0x164 0 31 16 = 0 ∧ s.sameBut [.regs, .kneaders] (effKndPost fn d s) := by
  have hlt : desc < 256 := hdesc ▸ fld_lt _ 15 8
  generalize hx : ({ postDesc (s.staged64 d) with ready := (s.kdesc d slot desc).ready, done := (s.kdesc d slot desc).done } : KDesc) = x
  have hinstalled : ((s.setKdesc d slot desc x).setF (pgKnd d) 0x164 0 31 16 0).kdesc d slot desc = x := kdesc_setKdesc_same x
  have heq : effKndPost fn d s = (s.setKdesc d slot desc x).setF (pgKnd d) 0x164 0 31 16 0 := by
    have hwaits : ((s.setKdesc d slot desc x).setF (pgKnd d) 0x164 0 31 16 0).tryTrigger d (slot * 256 + desc) =
        (s.setKdesc d slot desc x).setF (pgKnd d) 0x164 0 31 16 0 := by
      refine tryTrigger_waits (.inl ?_)
      rw [key_div hlt, key_mod hlt, hinstalled, ← hx]
      exact hready
    rw [effKndPost_declared hslot hdesc hp him hk, hmatch, hform, hx, kbusy_eq_false hidle]
    exact hwaits
  rw [heq]
  refine ⟨hinstalled, fun sl de hde hne => kdesc_setKdesc_other x fun e => hne ?_, getF_setF_same _ _ _ _ _ _ _ (by omega) (by omega),
    Keeps.sameBut (State.setF_keeps rfl (State.setKdesc_keeps rfl (.refl _ s)))⟩
  have hsl : sl = slot := by omega
  have hde' : de = desc := by omega
  rw [hsl, hde']

theorem post_refused {code : Nat} (hcode : code = (if declMatch k (postDesc (s.staged64 d)) = false then 0x1241
      else if s.postForm p (s.staged64 d) (postDesc (s.staged64 d)) = false then 0x1240 else 0x1242))
    (hbusy : code = 0x1242 → ∃ i, s.kinst d (slot * 256 + desc) = some i ∧ i.active = true) : effKndPost fn d s = s.postRefused d code := by
  rw [effKndPost_declared hslot hdesc hp him hk]
  cases hmatch : declMatch k (postDesc (s.staged64 d)) with
  | false =>
    rw [hmatch] at hcode
    rw [hcode]
    rfl
  | true =>
    cases hform : s.postForm p (s.staged64 d) (postDesc (s.staged64 d)) with
    | false =>
      rw [hmatch, hform] at hcode
      rw [hcode]
      rfl
    | true =>
      rw [hmatch, hform] at hcode
      obtain ⟨i, hi, hactive⟩ := hbusy hcode
      rw [hcode, kbusy_eq hi, hactive]
      rfl

end

/-! Kneader flags (R331). -/

theorem exec_kflagAccept (s : State) {t : Nat} (ht : t < 4864) : exec (.kflagAccept t) s = .next (effKflagAccept t s) :=
  onTile_eq_next ht fun _ => effKflagAccept t s

/-- The kneader trigger queue starts nothing of its own. -/
theorem startFront_kflag (s : State) (t : Nat) : s.startFront t 5 = s := by
  unfold State.startFront
  dsimp only
  split
  · rfl
  · split
    · rfl
    · split
      · rfl
      · rfl

theorem settleTask_dq (s : State) (t : Nat) : ((s.settleTask t).tile t).dq = (s.tile t).dq := by
  unfold State.settleTask
  dsimp only
  split
  · rfl
  · split
    · rw [State.tile_setTile_same]
    · split
      · rw [State.tile_setTile_same]
      · rfl

/-- A finished KFLAG leaves its tile: no other tile and no other part of the state changes, and its queue holds the others. -/
theorem leave_kflag (s : State) (t : Nat) (i : IssuedCmd) : s.onlyTile (s.leave t 5 i) t ∧
    mapGet ((s.leave t 5 i).tile t).dq 5 [] = (mapGet (s.tile t).dq 5 []).filter (fun k => k.ord != i.ord) := by
  have heq : s.leave t 5 i = ((s.onT t (fun x => x.left 5 i)).amxDone t).settleTask t := by
    show (((s.onT t (fun x => x.left 5 i)).amxDone t).startFront t 5).settleTask t = _
    rw [startFront_kflag]
  obtain ⟨hothers1, hrest1⟩ := onlyTile_onT s t (fun x => x.left 5 i)
  obtain ⟨⟨a, q, r, htile⟩, hothers2, hrest2⟩ := amxDone_tile (s.onT t (fun x => x.left 5 i)) t
  obtain ⟨hothers3, hrest3⟩ := settleTask_onlyTile ((s.onT t (fun x => x.left 5 i)).amxDone t) t
  obtain ⟨r', g, f, hleft⟩ := Tile.left_eq (s.tile t) 5 i
  rw [heq]
  refine ⟨⟨fun k hk => (hothers3 k hk).trans ((hothers2 k hk).trans (hothers1 k hk)), (hrest1.trans hrest2).trans hrest3⟩, ?_⟩
  rw [settleTask_dq, htile, onT_tile, hleft]
  exact mapGet_mapSet_same ..

section
variable {s : State} {t d slot desc p : Nat} {i : IssuedCmd} {rest : List IssuedCmd} {x : KDesc} (hq : mapGet (s.tile t).dq 5 [] = i :: rest)
  (hk : s.kOf t i.word.toNat = some (d, slot, desc)) (hx : x = s.kdesc d slot desc)
include hq hk hx

/-- An accepted KFLAG: its count is added, it leaves, and the descriptor may trigger. -/
theorem effKflagAccept_counts (hsum : x.ready + i.count < 2 ^ 32) : effKflagAccept t s =
    ((s.setKdesc d slot desc { x with ready := x.ready + i.count }).leave t 5 { i with finished := true }).tryTrigger d (slot * 256 + desc) := by
  have hmin : min (x.ready + i.count) (2 ^ 32 - 1) = x.ready + i.count := by omega
  unfold effKflagAccept
  rw [hq]
  dsimp only
  rw [hk]
  dsimp only
  rw [← hx, hmin]

end

/-- The state in which the descriptor may trigger: the count is added, and the KFLAG has left its tile's queue. -/
theorem kflag_counted {s u : State} {t d slot desc : Nat} {i : IssuedCmd} {rest : List IssuedCmd} {x : KDesc}
    (hq : mapGet (s.tile t).dq 5 [] = i :: rest) (hrest : ∀ j, j ∈ rest → j.ord ≠ i.ord)
    (hu : (s.setKdesc d slot desc { x with ready := x.ready + i.count }).leave t 5 { i with finished := true } = u) :
    u.kdesc d slot desc = { x with ready := x.ready + i.count } ∧ (∀ key, u.kinst d key = s.kinst d key) ∧ s.sameBut [.tiles, .kneaders] u ∧
      (mapGet (u.tile t).dq 5 []).length = rest.length ∧ (∀ k, k ≠ t → u.tile k = s.tile k) ∧ ∀ p, u.quiesced d p = s.quiesced d p := by
  subst hu
  obtain ⟨⟨hothers, hparts⟩, hdq⟩ := leave_kflag (s.setKdesc d slot desc { x with ready := x.ready + i.count }) t { i with finished := true }
  have hknd := hparts .kneaders (by decide)
  refine ⟨?_, fun key => ?_, ((setKdesc_sameBut _).mono (by decide)).trans (hparts.mono (by decide)), ?_, hothers, fun p => ?_⟩
  · rw [kdesc_of_kneaders hknd, kdesc_setKdesc_same]
  · rw [kinst_of_kneaders hknd, kinst_setKdesc]
  · have hqueue : mapGet ((s.setKdesc d slot desc { x with ready := x.ready + i.count }).tile t).dq 5 [] = i :: rest := hq
    have hall : rest.filter (fun k => k.ord != i.ord) = rest := List.filter_eq_self.2 fun j hj => by simpa using hrest j hj
    rw [hdq, hqueue, List.filter_cons_of_neg (by simp), hall]
  · have hquiesce : ((s.setKdesc d slot desc { x with ready := x.ready + i.count }).knd d).quiesce = (s.knd d).quiesce := by
      rw [State.setKdesc, State.knd_setKnd_same]
    rw [State.quiesced, State.knd, hknd, ← State.knd, hquiesce, State.quiesced]

/-- A group's shape goes by the bindings and slices in force. -/
theorem kdims_of_act {s u : State} (h : u.act = s.act) : u.kdims = s.kdims := by
  have hslice : u.sliceDim = s.sliceDim := by
    funext p d
    unfold State.sliceDim State.regAct State.bound
    rw [h]
  funext p x
  simp only [State.kdims, State.kgroup, hslice]

/-- A descriptor that a command names is one of 256. -/
theorem kOf_desc_lt {s : State} {t c d slot desc : Nat} (h : s.kOf t c = some (d, slot, desc)) : desc < 256 := by
  obtain ⟨k, -, hk⟩ := Option.map_eq_some_iff.1 h
  have hdesc : cf c 1 15 8 = desc := (Prod.mk.inj (Prod.mk.inj hk).2).2
  rw [← hdesc]
  exact Nat.mod_lt _ (by decide)

/-- Settles O34: a post by `post_installs` and `post_refused`, a flag by `kflag_counted` and, where its count is reached, `tryTrigger_barrier`. -/
theorem kneaderPostsAndKflags : Obligations.KneaderPostsAndKflags := by
  refine ⟨fun s fn d slot p desc im k hfn hd hslot hdesc hp him hk => ⟨fun hmatch hform hidle hready =>
      ⟨_, exec_kndPost hfn hd s, post_installs hslot hdesc hp him hk hmatch hform hidle hready⟩, fun code hcode hbusy => ?refused⟩,
    fun s t d slot desc p i rest x ht hq hrest hk hx hp hsum => ⟨fun hbelow => ?counts, fun hvalid hkind hcount hready hdims hquiet hstop hidle => ?triggers⟩⟩
  case refused =>
    have hexec := exec_kndPost hfn hd s
    rw [post_refused hslot hdesc hp him hk hcode hbusy] at hexec
    exact ⟨_, hexec, postRefused_spec s d (by rw [hcode]; split <;> [skip; split] <;> decide)⟩
  case counts =>
    have hlt := kOf_desc_lt hk
    generalize hu : (s.setKdesc d slot desc { x with ready := x.ready + i.count }).leave t 5 { i with finished := true } = u
    obtain ⟨hcounted, hinsts, -, hlen, hothers, -⟩ := kflag_counted hq hrest hu
    have heq : effKflagAccept t s = u := by
      rw [effKflagAccept_counts hq hk hx hsum, hu]
      refine tryTrigger_waits (.inl ?_)
      rw [key_div hlt, key_mod hlt, hcounted]
      exact hbelow
    exact ⟨u, heq ▸ exec_kflagAccept s ht, hcounted, hinsts _, hlen, hothers⟩
  case triggers =>
    have hlt := kOf_desc_lt hk
    generalize hu : (s.setKdesc d slot desc { x with ready := x.ready + i.count }).leave t 5 { i with finished := true } = u
    obtain ⟨hcounted, hinsts, hparts, -, -, hquiesced⟩ := kflag_counted hq hrest hu
    have hexec := exec_kflagAccept s ht
    rw [effKflagAccept_counts hq hk hx hsum, hu] at hexec
    have howner : u.slotPol d slot = some p := by
      rw [State.slotPol, State.owner, State.regAct, hparts .act (by decide), hparts .untrusted (by decide)]
      exact hp
    have hpol : u.pol p = s.pol p := by rw [State.pol, hparts .pols (by decide), State.pol]
    have hbeat : u.beat = s.beat := hparts .beat (by decide)
    have hdims' : u.kdims p { x with ready := x.ready + i.count } = [] := by
      rw [kdims_of_act (hparts .act (by decide))]
      exact hdims
    have hspec := tryTrigger_barrier (s := u) (d := d) (key := slot * 256 + desc) (x := { x with ready := x.ready + i.count }) (p := p)
    rw [key_div hlt, key_mod hlt, hinsts, hbeat, hquiesced, hpol] at hspec
    exact ⟨_, hexec, hspec hcounted howner hvalid hkind hcount hready hdims' hquiet hstop hidle⟩

end Sys2Proof.Machine
end

section
/-!
CERTIFICATE. Frame barriers: arrivals, releases and completions (O37).
-/
namespace Sys2Proof.Machine

/-! Arrivals (R344). -/

theorem exec_fbarArrival (s : State) {t : Nat} (ht : t < 4864) : exec (.fbarArrival t) s = .next (effFbarArrival t s) :=
  onTile_eq_next ht fun _ => effFbarArrival t s

/-- Whether every member tile of a descriptor is among those that arrived. -/
def State.allIn (s : State) (p : Nat) (x : KDesc) (ts : List Nat) : Bool :=
  x.members'.all (fun pt => match s.tileOf p pt with | some u => ts.contains u | none => true)

theorem allIn_eq_false {s : State} {p pt v : Nat} {x : KDesc} {ts : List Nat} (hpt : pt ∈ x.members') (hv : s.tileOf p pt = some v) (hno : v ∉ ts) :
    s.allIn p x ts = false := by
  refine Bool.eq_false_of_not_eq_true fun hall => hno ?_
  have hin := List.all_eq_true.1 hall pt hpt
  rw [hv] at hin
  exact List.contains_iff_mem.1 hin

theorem allIn_eq_true {s : State} {p : Nat} {x : KDesc} {ts : List Nat} (h : ∀ pt v, pt ∈ x.members' → s.tileOf p pt = some v → v ∈ ts) :
    s.allIn p x ts = true := by
  refine List.all_eq_true.2 fun pt hpt => ?_
  split
  · next v hv => exact List.contains_iff_mem.2 (h pt v hpt hv)
  · rfl

section
variable {s : State} {t bar d key p : Nat} {x : KDesc} {i : KInst} (hx : x = s.kdesc d (key / 256) (key % 256)) (hi : s.kinst d key = some i)
  (hp : s.ownerOr t = p) (hat : (s.tile t).fbarAt = some bar) (hhome : s.barHome p bar = some (d, key)) (hactive : i.active = true)
  (hnew : t ∉ i.arrived) (hopen : i.doneAt = none)
include hx hi hp hat hhome hactive hnew hopen

/-- An arrival at a running instance: it is counted, and the last one completes the local part. -/
theorem effFbarArrival_counts : effFbarArrival t s =
    if s.allIn p x (i.arrived ++ [t]) then
      (if s.kdims p x = [] then (s.setKinst d key { i with arrived := i.arrived ++ [t] }).onKinst d key (fun j => { j with doneAt := some s.beat })
      else ((s.setKinst d key { i with arrived := i.arrived ++ [t] }).onKinst d key (fun j => { j with arriveAt := s.beat })).startWave d key 1)
    else s.setKinst d key { i with arrived := i.arrived ++ [t] } := by
  subst hp
  have hcount : ¬(i.arrived.contains t = true ∨ i.doneAt.isSome = true) := by simp [hnew, hopen]
  unfold effFbarArrival
  simp only [hat, hhome, hi, hactive, Bool.not_true, Bool.false_and, Bool.false_eq_true, if_false, if_true]
  rw [if_neg hcount, ← hx]
  rfl

theorem fbarArrival_counted {pt v : Nat} (hpt : pt ∈ x.members') (hv : s.tileOf p pt = some v) (hmiss : v ∉ i.arrived) (hne : v ≠ t) :
    (effFbarArrival t s).kinst d key = some { i with arrived := i.arrived ++ [t] } ∧ s.sameBut [.kneaders] (effFbarArrival t s) := by
  have hall : s.allIn p x (i.arrived ++ [t]) = false := allIn_eq_false hpt hv (by simp [hmiss, hne])
  rw [effFbarArrival_counts hx hi hp hat hhome hactive hnew hopen, hall, if_neg Bool.false_ne_true]
  exact ⟨kinst_setKinst_same _, setKinst_sameBut _⟩

theorem fbarArrival_completes (hlast : ∀ pt v, pt ∈ x.members' → s.tileOf p pt = some v → v ∈ i.arrived ∨ v = t) (hdims : s.kdims p x = []) :
    (effFbarArrival t s).kinst d key = some { i with arrived := i.arrived ++ [t], doneAt := some s.beat } ∧ s.sameBut [.kneaders] (effFbarArrival t s) := by
  have hall : s.allIn p x (i.arrived ++ [t]) = true := allIn_eq_true fun pt v hpt hv => by simpa using hlast pt v hpt hv
  rw [effFbarArrival_counts hx hi hp hat hhome hactive hnew hopen, hall, if_pos rfl, if_pos hdims, onKinst_some (kinst_setKinst_same _)]
  exact ⟨kinst_setKinst_same _, (setKinst_sameBut _).trans (setKinst_sameBut _)⟩

end

/-! Completions of global barriers (R345). -/

theorem exec_barrierCompletion (s : State) {d : Nat} (hd : d < 4) (slot : Nat) : exec (.barrierCompletion d slot) s = .next (effBarrier d slot s) :=
  if_pos hd

/-- Whether an instance was complete at a beat that meets a condition. -/
def KInst.doneBy (i : KInst) (f : Nat → Bool) : Bool := match i.doneAt with | some c => f c | none => false

/-- The first global barrier of a slot whose completion is 4 beats old. -/
def State.barrierDue (s : State) (d slot : Nat) : Option Nat :=
  s.firstInst d slot (fun x i => x.kind == 6 && i.active && i.doneBy (fun c => decide (c + 4 ≤ s.beat)))

theorem effBarrier_none {s : State} {d slot : Nat} (h : s.barrierDue d slot = none) : effBarrier d slot s = s := by
  have heq : effBarrier d slot s = match s.barrierDue d slot with | none => s | some key => s.kndCommit d key := rfl
  rw [heq, h]

theorem effBarrier_some {s : State} {d slot key : Nat} (h : s.barrierDue d slot = some key) : effBarrier d slot s = s.kndCommit d key := by
  have heq : effBarrier d slot s = match s.barrierDue d slot with | none => s | some key => s.kndCommit d key := rfl
  rw [heq, h]

/-- Before beat c + 4 of every complete instance no completion is counted. -/
theorem barrierDue_early {s : State} {d : Nat} (h : ∀ e, e ∈ (s.knd d).insts → ∀ c, e.2.doneAt = some c → s.beat < c + 4) (slot : Nat) :
    s.barrierDue d slot = none := by
  refine Option.map_eq_none_iff.2 (List.find?_eq_none.2 fun e he hmeets => ?_)
  have hdone := (Bool.and_eq_true_iff.1 (Bool.and_eq_true_iff.1 hmeets).2).2
  unfold KInst.doneBy at hdone
  split at hdone
  · next c hc => exact absurd (of_decide_eq_true hdone) (Nat.not_le.2 (h e he c hc))
  · exact absurd hdone (by decide)

/-! Releases (R344, R443). -/

theorem exec_frameBarrierRelease (s : State) {d : Nat} (hd : d < 4) (slot : Nat) : exec (.frameBarrierRelease d slot) s = .next (effRelease d slot s) :=
  if_pos hd

/-- A tile that waits at a frame barrier passes it: the release beat becomes its beat reference. -/
theorem passFbar_spec {s : State} {t : Nat} (r : Nat) (hat : (s.tile t).fbarAt ≠ none) (hend : (s.tile t).cmdIndex + 1 < (s.tile t).cmdrLen)
    (hloop : (s.tile t).noLoopEnd (s.tile t).cmdIndex) : ((s.passFbar t r).tile t).fbarAt = none ∧ ((s.passFbar t r).tile t).beatRef = r ∧
      (∀ k, k ≠ t → (s.passFbar t r).tile k = s.tile k) ∧ s.sameBut [.tiles, .regs, .trace, .freeCtr] (s.passFbar t r) := by
  let s1 := s.setTile t { s.tile t with fbarAt := none, beatRef := r }
  have htile1 : s1.tile t = { s.tile t with fbarAt := none, beatRef := r } := State.tile_setTile_same ..
  have heq : s.passFbar t r = (s1.passed t (s.tile t).cmdIndex ((s.tile t).cmdIndex + 1) 6 0x10).settleTask t := by
    unfold State.passFbar
    exact if_neg (by simpa using hat)
  obtain ⟨⟨b, q, f, htile⟩, hothers, -, hparts⟩ := passed_next s1 t (s.tile t).cmdIndex 6 0x10 (by rw [htile1]; exact hloop) (.inr (by rw [htile1]; exact hend))
  rw [htile1] at htile
  rw [heq]
  generalize s1.passed t (s.tile t).cmdIndex ((s.tile t).cmdIndex + 1) 6 0x10 = u at htile hothers hparts
  obtain ⟨hothers', hparts'⟩ := settleTask_onlyTile u t
  have hset : s.sameBut [.tiles] s1 := Keeps.sameBut (State.setTile_keeps rfl (.refl _ s))
  have hkept : ((u.settleTask t).tile t).fbarAt = (u.tile t).fbarAt ∧ ((u.settleTask t).tile t).beatRef = (u.tile t).beatRef := by
    unfold State.settleTask
    dsimp only
    split
    · exact ⟨rfl, rfl⟩
    · split
      · rw [State.tile_setTile_same]
        exact ⟨rfl, rfl⟩
      · split
        · rw [State.tile_setTile_same]
          exact ⟨rfl, rfl⟩
        · exact ⟨rfl, rfl⟩
  rw [htile] at hkept
  exact ⟨hkept.1, hkept.2, fun k hk => (hothers' k hk).trans ((hothers k hk).trans (State.tile_setTile_other _ _ _ _ hk.symm)),
    (hset.mono (by decide)).trans (hparts.trans (hparts'.mono (by decide)))⟩

theorem passFbar_gone {s : State} {t : Nat} (r : Nat) (h : (s.tile t).fbarAt = none) : s.passFbar t r = s := by
  unfold State.passFbar
  exact if_pos (by rw [h]; rfl)

/-- The arrived tiles pass one by one: each that waits has the release beat as its reference, and one that does not wait is as it was. -/
theorem foldl_passFbar (r : Nat) (ts : List Nat) : ∀ s : State,
    (∀ t, t ∈ ts → (s.tile t).fbarAt ≠ none → (s.tile t).cmdIndex + 1 < (s.tile t).cmdrLen ∧ (s.tile t).noLoopEnd (s.tile t).cmdIndex) →
    (∀ t, t ∈ ts → (s.tile t).fbarAt ≠ none → ((ts.foldl (fun st t => st.passFbar t r) s).tile t).fbarAt = none ∧
      ((ts.foldl (fun st t => st.passFbar t r) s).tile t).beatRef = r) ∧
    (∀ t, (s.tile t).fbarAt = none → (ts.foldl (fun st t => st.passFbar t r) s).tile t = s.tile t) ∧
    s.sameBut [.tiles, .regs, .trace, .freeCtr] (ts.foldl (fun st t => st.passFbar t r) s) := by
  induction ts with
  | nil => exact fun s _ => ⟨fun t ht => absurd ht List.not_mem_nil, fun t _ => rfl, Keeps.sameBut (.refl _ s)⟩
  | cons a ts ih =>
    intro s hgo
    by_cases ha : (s.tile a).fbarAt = none
    · obtain ⟨hpassed, hkept, hparts⟩ := ih s fun t ht => hgo t (List.mem_cons_of_mem _ ht)
      rw [List.foldl_cons, passFbar_gone r ha]
      exact ⟨fun t ht hat => hpassed t ((List.mem_cons.1 ht).resolve_left fun e => hat (e ▸ ha)) hat, hkept, hparts⟩
    · obtain ⟨hgone, href, hothers, hparts1⟩ := passFbar_spec r ha (hgo a List.mem_cons_self ha).1 (hgo a List.mem_cons_self ha).2
      obtain ⟨hpassed, hkept, hparts⟩ := ih (s.passFbar a r) fun t ht hat => by
        have hta : t ≠ a := fun e => hat (e ▸ hgone)
        rw [hothers t hta] at hat ⊢
        exact hgo t (List.mem_cons_of_mem _ ht) hat
      rw [List.foldl_cons]
      refine ⟨fun t ht hat => ?_, fun t hat => ?_, hparts1.trans hparts⟩
      · by_cases hta : t = a
        · rw [hta, hkept a hgone]
          exact ⟨hgone, href⟩
        · rw [← hothers t hta] at hat
          exact hpassed t ((List.mem_cons.1 ht).resolve_left hta) hat
      · have hta : t ≠ a := fun e => ha (e ▸ hat)
        rw [hkept t (by rw [hothers t hta]; exact hat), hothers t hta]

/-- No tile's wait at a barrier and no beat reference differs. -/
def BarKept (s u : State) : Prop := ∀ t, (u.tile t).fbarAt = (s.tile t).fbarAt ∧ (u.tile t).beatRef = (s.tile t).beatRef

namespace BarKept

variable {s u v : State}

theorem trans (h : BarKept s u) (g : BarKept u v) : BarKept s v := fun t => ⟨(g t).1.trans (h t).1, (g t).2.trans (h t).2⟩

theorem of_tiles (h : u.tiles = s.tiles) : BarKept s u := fun t => by
  rw [State.tile, h]
  exact ⟨rfl, rfl⟩

theorem refl (s : State) : BarKept s s := .of_tiles rfl

theorem onT (s : State) (t : Nat) (f : Tile → Tile) (h : (f (s.tile t)).fbarAt = (s.tile t).fbarAt ∧ (f (s.tile t)).beatRef = (s.tile t).beatRef) :
    BarKept s (s.onT t f) := fun k => by
  by_cases hk : k = t
  · rw [hk, onT_tile]
    exact h
  · rw [onT_tile_other _ _ _ _ hk]
    exact ⟨rfl, rfl⟩

theorem startRamp (s : State) (p : Nat) (ts : List Nat) (b : Nat) : BarKept s (s.startRamp p ts b) := fun t => by
  obtain ⟨htiles, -⟩ := RampOnly.startRamp s p ts b
  obtain ⟨a, ha⟩ := htiles t
  rw [ha]
  exact ⟨rfl, rfl⟩

/-- The end of a step changes tiles' fingerprints alone (R415). -/
theorem stepEnd (s : State) (p : Nat) : BarKept s (s.stepEnd p) := by
  unfold State.stepEnd
  extract_lets step s1 ts s2 fp x s3 body
  have h1 : BarKept s s1 := of_tiles (Keeps.sameBut
    (fs := [.regs, .freeCtr, .recSeq, .hbm, .pols, .intakes, .hostOut, .trace, .slices, .zeroing, .waitSt, .poison, .inval])
    (Keeps.foldl (fun _ _ => State.sealDie_keeps (w := maskOf [.regs, .freeCtr, .recSeq, .hbm, .pols, .intakes, .hostOut, .trace, .slices, .zeroing,
      .waitSt, .poison, .inval]) rfl) _ _ (.refl _ s)) .tiles (by decide))
  have h2 : BarKept s1 s2 := List.foldlRecOn (motive := fun st => BarKept s1 st) _ _ (refl s1) fun st hst e _ => hst.trans (onT st e.2 _ ⟨rfl, rfl⟩)
  have h3 : BarKept s2 s3 := of_tiles rfl
  have hpost : BarKept s3 (s3.post (some p) { recType := 4, length := 24, body := body }) :=
    of_tiles (Keeps.sameBut (fs := [.regs, .recSeq, .pols, .intakes, .hostOut]) (State.post_keeps rfl (.refl _ s3)) .tiles (by decide))
  exact ((h1.trans h2).trans h3).trans hpost

end BarKept

/-- The first complete frame barrier of a slot whose release beat has come. -/
def State.releaseDue (s : State) (d slot : Nat) : Option Nat :=
  s.firstInst d slot (fun x i => x.kind == 7 && i.active && i.doneBy (fun c => decide (releaseBeat c ≤ s.beat)))

/-- The arrived tiles have passed, and the barrier's reference is kept. -/
def State.barPassed (s : State) (p : Nat) (ts : List Nat) (bar r : Nat) : State :=
  let s1 := ts.foldl (fun st t => st.passFbar t r) s
  s1.setPol p { s1.pol p with barRefs := mapSet (s1.pol p).barRefs bar r }

/-- A barrier releases, up to the completion it counts. -/
def State.barCounted (s : State) (d slot key p : Nat) (i : KInst) (bar r c : Nat) : State :=
  (if 1 < (s.kdesc d slot (key % 256)).members then (s.barPassed p i.arrived bar r).noteLag p i c else s.barPassed p i.arrived bar r).kndCommit d key

/-- A barrier releases: its tiles, its completion, the ramp, the step where it ends one, and the ports. -/
def State.released (s : State) (d slot key p : Nat) (i : KInst) (bar r c : Nat) (isStep : Bool) : State :=
  let s4 := ((s.barCounted d slot key p i bar r c).startRamp p i.arrived r).traceRec d 8 (pgKnd d) 0xFFFF (natLE 1 p ++ [0] ++ natLE 2 bar ++ natLE 4 i.num)
  let s5 := if isStep then s4.stepEnd p else s4
  (s5.bound 2 p).foldl (fun st pt => (st.newAllowance pt).pumpPort pt) s5

/-- A release by the first due barrier, its polder, its instance and its declaration. -/
theorem effRelease_eq (d slot : Nat) (s : State) : effRelease d slot s =
    match s.releaseDue d slot, s.slotPol d slot with
    | some key, some p =>
      (match s.kinst d key, (s.pol p).image.bind (fun im => im.kneads.find? (fun k => s.barHome p k.bar == some (d, key) && k.kind == 7)) with
      | some i, some k =>
        if (s.pol p).gateHolds k.bar ∨ s.beat < (s.pol p).releaseAt k.bar (i.doneAt.getD 0) then s
        else s.released d slot key p i k.bar ((s.pol p).releaseAt k.bar (i.doneAt.getD 0)) (i.doneAt.getD 0)
          ((((s.pol p).image).map (·.stepBar)) == some k.bar)
      | _, _ => s)
    | _, _ => s := rfl

section
variable {s : State} {d slot key p c : Nat} {i : KInst} {im : Image} {k : KDecl} (hdue : s.releaseDue d slot = some key)
  (hp : s.slotPol d slot = some p) (hi : s.kinst d key = some i) (him : (s.pol p).image = some im)
  (hk : im.kneads.find? (fun k => s.barHome p k.bar == some (d, key) && k.kind == 7) = some k) (hdone : i.doneAt = some c)
include hdue hp hi him hk hdone

theorem effRelease_found : effRelease d slot s =
    if (s.pol p).gateHolds k.bar ∨ s.beat < (s.pol p).releaseAt k.bar c then s
    else s.released d slot key p i k.bar ((s.pol p).releaseAt k.bar c) c ((((s.pol p).image).map (·.stepBar)) == some k.bar) := by
  have hdecl : (s.pol p).image.bind (fun im => im.kneads.find? (fun k => s.barHome p k.bar == some (d, key) && k.kind == 7)) = some k := by
    rw [him]
    exact hk
  rw [effRelease_eq, hdue, hp]
  dsimp only
  rw [hi, hdecl]
  dsimp only
  rw [hdone]
  rfl

/-- A frame barrier that a gate holds, or whose release beat is to come, waits. -/
theorem effRelease_waits (h : (s.pol p).gateHolds k.bar = true ∨ s.beat < (s.pol p).releaseAt k.bar c) : effRelease d slot s = s :=
  (effRelease_found hdue hp hi him hk hdone).trans (if_pos h)

/-- At its release beat a frame barrier releases. -/
theorem effRelease_releases (hgate : (s.pol p).gateHolds k.bar = false) (hbeat : (s.pol p).releaseAt k.bar c ≤ s.beat) : effRelease d slot s =
    s.released d slot key p i k.bar ((s.pol p).releaseAt k.bar c) c ((((s.pol p).image).map (·.stepBar)) == some k.bar) :=
  (effRelease_found hdue hp hi him hk hdone).trans (if_neg (by simp only [hgate, Bool.false_eq_true, false_or]; omega))

end

section
variable {s : State} {d slot key p : Nat} {i : KInst}

/-- Where the arrived tiles may go on, each that waits passes, and no part of the kneaders or the bindings changes. -/
theorem barPassed_spec (bar r : Nat)
    (hgo : ∀ t, t ∈ i.arrived → (s.tile t).cmdIndex + 1 < (s.tile t).cmdrLen ∧ (s.tile t).noLoopEnd (s.tile t).cmdIndex) :
    (∀ t, t ∈ i.arrived → (s.tile t).fbarAt ≠ none → ((s.barPassed p i.arrived bar r).tile t).fbarAt = none ∧
      ((s.barPassed p i.arrived bar r).tile t).beatRef = r) ∧ s.sameBut [.tiles, .regs, .trace, .freeCtr, .pols] (s.barPassed p i.arrived bar r) := by
  obtain ⟨hpassed, -, hparts⟩ := foldl_passFbar r i.arrived s fun t ht _ => hgo t ht
  exact ⟨hpassed, (hparts.mono (by decide)).trans (Keeps.sameBut (State.setPol_keeps rfl (.refl _ _)))⟩

/-- The completion of a released barrier is counted, and its tiles have passed. -/
theorem barCounted_spec (hp : s.slotPol d slot = some p) (hi : s.kinst d key = some i) (hslot : key / 256 = slot)
    (hkind : (s.kdesc d slot (key % 256)).kind = 7) (bar r c : Nat)
    (hgo : ∀ t, t ∈ i.arrived → (s.tile t).cmdIndex + 1 < (s.tile t).cmdrLen ∧ (s.tile t).noLoopEnd (s.tile t).cmdIndex) :
    ((s.barCounted d slot key p i bar r c).kdesc d slot (key % 256)).done = ((s.kdesc d slot (key % 256)).done + 1) % 2 ^ 32 ∧
      ∀ t, t ∈ i.arrived → (s.tile t).fbarAt ≠ none → ((s.barCounted d slot key p i bar r c).tile t).fbarAt = none ∧
        ((s.barCounted d slot key p i bar r c).tile t).beatRef = r := by
  subst hslot
  obtain ⟨hpassed, hparts⟩ := barPassed_spec (p := p) bar r hgo
  unfold State.barCounted
  generalize hu : (if 1 < (s.kdesc d (key / 256) (key % 256)).members then (s.barPassed p i.arrived bar r).noteLag p i c
    else s.barPassed p i.arrived bar r) = u
  have hlag : (s.barPassed p i.arrived bar r).sameBut [.regs] u := by
    rw [← hu]
    split
    · exact Keeps.sameBut (State.noteLag_keeps rfl (.refl _ _))
    · exact Keeps.sameBut (.refl _ _)
  have hall : s.sameBut [.tiles, .regs, .trace, .freeCtr, .pols] u := hparts.trans (hlag.mono (by decide))
  have hdesc := kdesc_of_kneaders (hall .kneaders (by decide))
  have howner : u.slotPol d (key / 256) = some p := by
    rw [State.slotPol, State.owner, State.regAct, hall .act (by decide), hall .untrusted (by decide)]
    exact hp
  obtain ⟨hcount, -, hframe⟩ := kndCommit_spec (s := u) (by rw [kinst_of_kneaders (hall .kneaders (by decide))]; exact hi) howner
    (.inr (by rw [hdesc]; exact hkind))
  rw [hdesc] at hcount
  refine ⟨hcount, fun t ht hat => ?_⟩
  have htiles : (u.kndCommit d key).tiles = (s.barPassed p i.arrived bar r).tiles := (hframe .tiles (by decide)).trans (hlag .tiles (by decide))
  rw [State.tile, htiles]
  exact hpassed t ht hat

theorem stepEnd_sameBut (s : State) (p : Nat) : s.sameBut [.regs, .freeCtr, .recSeq, .hbm, .tiles, .pols, .intakes, .hostOut, .trace, .slices, .zeroing,
    .waitSt, .poison, .inval] (s.stepEnd p) := Keeps.sameBut (State.stepEnd_keeps rfl (.refl _ s))

/-- The end of a step, where a release ends one, changes no kneader, no wait at a barrier and no beat reference. -/
theorem stepEnd_kept (s : State) (p : Nat) (isStep : Bool) : (if isStep then s.stepEnd p else s).kneaders = s.kneaders ∧
    BarKept s (if isStep then s.stepEnd p else s) := by
  cases isStep with
  | true =>
    rw [if_pos rfl]
    exact ⟨stepEnd_sameBut s p .kneaders (by decide), .stepEnd s p⟩
  | false =>
    rw [if_neg Bool.false_ne_true]
    exact ⟨rfl, .refl s⟩

/-- The rest of a release changes no kneader, no wait at a barrier and no beat reference. -/
theorem released_kept (bar r c : Nat) (isStep : Bool) : (s.released d slot key p i bar r c isStep).kneaders = (s.barCounted d slot key p i bar r c).kneaders ∧
    BarKept (s.barCounted d slot key p i bar r c) (s.released d slot key p i bar r c isStep) := by
  unfold State.released
  generalize s.barCounted d slot key p i bar r c = u
  extract_lets s4 s5
  have hramp : u.sameBut [.regs, .tiles, .pols] (u.startRamp p i.arrived r) := Keeps.sameBut (State.startRamp_keeps rfl (.refl _ u))
  have htrace : (u.startRamp p i.arrived r).sameBut [.regs, .freeCtr, .trace] s4 := Keeps.sameBut (State.traceRec_keeps rfl (.refl _ _))
  have hstep : s5.kneaders = s4.kneaders ∧ BarKept s4 s5 := stepEnd_kept s4 p isStep
  clear_value s5
  have hports : s5.sameBut [.regs, .freeCtr, .ports, .sentFlits, .sendSeq] ((s5.bound 2 p).foldl (fun st pt => (st.newAllowance pt).pumpPort pt) s5) :=
    Keeps.sameBut (Keeps.foldl (fun _ _ hst => State.pumpPort_keeps (w := maskOf [.regs, .freeCtr, .ports, .sentFlits, .sendSeq]) rfl
      (State.newAllowance_keeps rfl hst)) _ _ (.refl _ s5))
  refine ⟨?_, ?_⟩
  · rw [hports .kneaders (by decide), hstep.1, htrace .kneaders (by decide), hramp .kneaders (by decide)]
  · exact (((BarKept.startRamp u p _ r).trans (.of_tiles (htrace .tiles (by decide)))).trans hstep.2).trans (.of_tiles (hports .tiles (by decide)))

end

/-- Settles O37: arrivals by `effFbarArrival_counts`, releases by `barCounted_spec` and `released_kept`, completions by `kndCommit_spec`. -/
theorem barriersArriveAndRelease : Obligations.BarriersArriveAndRelease := by
  intro s d slot key p x i hd hx hi
  refine ⟨fun t bar ht hp hat hhome hactive hnew hopen => ⟨fun ⟨pt, v, hpt, hv, hmiss, hne⟩ => ?counted, fun hlast hdims => ?completes⟩,
    fun im k c hp him hk hdone hkind hdue => ⟨fun h => ?waits, fun hgate hbeat hgo => ?releases⟩, fun hp hready hdue => ?completion, fun h => ?early⟩
  case counted => exact ⟨_, exec_fbarArrival s ht, fbarArrival_counted hx hi hp hat hhome hactive hnew hopen hpt hv hmiss hne⟩
  case completes => exact ⟨_, exec_fbarArrival s ht, fbarArrival_completes hx hi hp hat hhome hactive hnew hopen hlast hdims⟩
  case waits => rw [exec_frameBarrierRelease s hd, effRelease_waits hdue hp hi him hk hdone h]
  case releases =>
    have hslot : key / 256 = slot := firstInst_slot hdue
    rw [hslot] at hx
    have hexec := exec_frameBarrierRelease s hd slot
    rw [effRelease_releases hdue hp hi him hk hdone hgate hbeat] at hexec
    obtain ⟨hcount, hpassed⟩ := barCounted_spec hp hi hslot (by rw [← hx]; exact hkind) k.bar ((s.pol p).releaseAt k.bar c) c hgo
    obtain ⟨hknd, hkept⟩ := released_kept (s := s) (d := d) (slot := slot) (key := key) (p := p) (i := i) k.bar ((s.pol p).releaseAt k.bar c) c
      ((((s.pol p).image).map (·.stepBar)) == some k.bar)
    refine ⟨_, hexec, ?_, fun t ht hat => ?_⟩
    · rw [kdesc_of_kneaders hknd, hcount, hx]
    · obtain ⟨hgone, href⟩ := hpassed t ht hat
      exact ⟨(hkept t).1.trans hgone, (hkept t).2.trans href⟩
  case completion =>
    have hslot : key / 256 = slot := firstInst_slot hdue
    have hexec := exec_barrierCompletion s hd slot
    rw [effBarrier_some hdue] at hexec
    obtain ⟨hcount, hended, hframe⟩ := kndCommit_spec hi (hslot ▸ hp) (.inl (by rw [← hx]; exact hready))
    rw [← hx, hslot] at hcount
    exact ⟨_, hexec, hcount, hended, hframe⟩
  case early => rw [exec_barrierCompletion s hd, effBarrier_none (barrierDue_early h slot)]

end Sys2Proof.Machine
end

section
/-!
SUPPORT. The registers of the die-to-die links (R233, R244): D2D_STATUS and D2D_BMAP of every instance, which records and polder stops leave alone.
-/
namespace Sys2Proof.Machine

theorem pgD2d_ne (i e : Nat) : pgD2d i ≠ pgDev ∧ pgD2d i ≠ pgTrace e := by
  unfold pgD2d pgDev pgTrace pgDie
  omega

/-- The two ends of a link have pages of their own. -/
theorem pgD2d_peer_ne : ∀ i < 8, pgD2d i ≠ pgD2d (d2dPeer i) := by decide

theorem d2dPeer_ne : ∀ i < 8, i ≠ d2dPeer i := by decide

/-- D2D_STATUS and D2D_BMAP of every instance are the same. -/
def LinkRegs (s u : State) : Prop := ∀ i off sel, off = 0x100 ∨ off = 0x110 → sel < 32768 → u.reg (pgD2d i) off sel = s.reg (pgD2d i) off sel

namespace LinkRegs

variable {s u v : State}

theorem refl (s : State) : LinkRegs s s := fun _ _ _ _ _ => rfl

theorem trans (h : LinkRegs s u) (g : LinkRegs u v) : LinkRegs s v := fun i off sel ho hs => (g i off sel ho hs).trans (h i off sel ho hs)

theorem of_offs {os : List Nat} (h : OffsOnly os s u) (ho : 0x100 ∉ os ∧ 0x110 ∉ os) : LinkRegs s u := by
  rintro i _ sel (rfl | rfl) hs
  · exact h _ _ _ ho.1 (by omega) hs
  · exact h _ _ _ ho.2 (by omega) hs

theorem of_regs (h : u.regs = s.regs) : LinkRegs s u := .of_offs (os := []) ((OffsOnly.refl [] s).of_regs h) (by decide)

theorem foldl {α : Type} {f : State → α → State} (hf : ∀ st a, LinkRegs st (f st a)) (l : List α) (s : State) : LinkRegs s (l.foldl f s) :=
  List.foldlRecOn (motive := fun st => LinkRegs s st) l f (refl s) fun st h a _ => h.trans (hf st a)

/-- A record writes its code, and registers of pages that no link has. -/
theorem fault (s : State) (f : FaultInfo) : LinkRegs s (s.fault f) := fun i off sel ho hs => by
  have hcode : (s.err f.page f.code).reg (pgD2d i) off sel = s.reg (pgD2d i) off sel := err_reg _ _ _ _ _ _ (by omega) (by omega) (by omega) hs
  rw [fault_reg s f _ _ _ (pgD2d_ne i 0).1 (pgD2d_ne i _).2 (by omega) (by omega) hs, hcode]

theorem abortInst (s : State) (d key code reason : Nat) : LinkRegs s (s.abortInst d key code reason) := by
  unfold State.abortInst
  split
  · exact refl s
  · next i _ =>
    split
    · exact refl s
    · extract_lets slot desc p x ph s1 s2
      have hsent : s1.sameBut [.ports] (s1.sendAborts d slot desc p i.num code) := Keeps.sameBut (State.sendAborts_keeps rfl (.refl _ s1))
      have hnote : OffsOnly [0x180, 0x19C, 0x1A0] s s2 :=
        ((((OffsOnly.refl _ s).of_regs (v := s1) rfl).of_sameBut hsent (by decide)).setReg _ _ (by decide) (by omega)
          |>.setReg _ _ (by decide) (by omega) |>.setReg _ _ (by decide) (by omega))
      exact (of_offs hnote (by decide)).trans (fault s2 _)

theorem polderStop (s : State) (p cause : Nat) (abort : Bool) : LinkRegs s (s.polderStop p cause abort) := by
  unfold State.polderStop
  split
  · exact refl s
  · extract_lets n pol s1 s2 s3
    have h2 : LinkRegs s s2 := of_regs (Keeps.sameBut (fs := [.freeCtr, .tiles]) (State.stopTiles_keeps rfl (.refl _ s1)) .regs (by decide))
    have h3 : LinkRegs s2 s3 := by
      cases abort with
      | true => exact foldl (fun _ _ => foldl (fun st key => abortInst st _ key _ _) _ _) _ s2
      | false => exact refl s2
    exact (h2.trans h3).trans (fault s3 _)

section
variable (h : LinkRegs s u)
include h

theorem getF_eq (i : Nat) {off sel : Nat} (hi lo : Nat) (ho : off = 0x100 ∨ off = 0x110) (hs : sel < 32768) :
    u.getF (pgD2d i) off sel hi lo = s.getF (pgD2d i) off sel hi lo := getF_of_reg_eq (h i off sel ho hs) hi lo

theorem d2dState_eq (i : Nat) : u.d2dState i = s.d2dState i := h.getF_eq i 2 0 (.inl rfl) (by omega)

theorem routeOf_eq : u.routeOf = s.routeOf := by
  have hup : u.linkUp = s.linkUp := funext fun k => by
    rw [State.linkUp, State.d2dUp, h.d2dState_eq, State.linkUp, State.d2dUp]
  funext a b
  rw [State.routeOf, hup, State.routeOf]

end

end LinkRegs

theorem getF_setF_apart (s : State) (pg pg' off sel hi lo x hi' lo' : Nat) (h : lo ≤ hi) (hd : hi' < lo ∨ hi < lo') :
    (s.setF pg off sel hi lo x).getF pg' off sel hi' lo' = s.getF pg' off sel hi' lo' := by
  by_cases hp : pg = pg'
  · rw [← hp, getF_setF_field _ _ _ _ _ _ _ _ _ h hd]
  · exact getF_setF_other _ _ _ _ _ _ _ _ _ _ _ _ fun e => hp (by unfold regKey at e; omega)

/-! The state of a link stands at both ends. -/

section
variable (s : State) {i st : Nat}

theorem d2dBoth_state (hi : i < 8) (hst : st < 8) : (s.d2dBoth i st).d2dState i = st ∧ (s.d2dBoth i st).d2dState (d2dPeer i) = st := by
  have hown : (s.setF (pgD2d i) 0x100 0 2 0 st).getF (pgD2d i) 0x100 0 2 0 = st :=
    (getF_setF_same _ _ _ _ _ _ _ (by omega) (by omega)).trans (Nat.mod_eq_of_lt hst)
  refine ⟨(getF_setF_other _ _ _ _ _ _ _ _ _ _ _ _ fun e => pgD2d_peer_ne i hi ?_).trans hown,
    (getF_setF_same _ _ _ _ _ _ _ (by omega) (by omega)).trans (Nat.mod_eq_of_lt hst)⟩
  exact (regKey_inj (by omega) (by omega) (by omega) (by omega) e).1.symm

theorem d2dBoth_sameBut (i st : Nat) : s.sameBut [.regs] (s.d2dBoth i st) := Keeps.sameBut (State.d2dBoth_keeps rfl (.refl _ s))

theorem d2dBoth_offs (i st : Nat) : OffsOnly [0x100] s (s.d2dBoth i st) :=
  ((OffsOnly.refl _ s).setReg _ _ (by decide) (by omega)).setReg _ _ (by decide) (by omega)

/-- Beside the state, the fields of D2D_STATUS stand. -/
theorem d2dBoth_getF (i st k : Nat) {hi lo : Nat} (h : 2 < lo) : (s.d2dBoth i st).getF (pgD2d k) 0x100 0 hi lo = s.getF (pgD2d k) 0x100 0 hi lo := by
  rw [State.d2dBoth, getF_setF_apart _ _ _ _ _ _ _ _ _ _ (by omega) (.inr h), getF_setF_apart _ _ _ _ _ _ _ _ _ _ (by omega) (.inr h)]

end

theorem d2dPost_sameBut (s : State) (i code cls action b l : Nat) :
    s.sameBut [.regs, .freeCtr, .recSeq, .pols, .intakes, .hostOut, .trace] (s.d2dPost i code cls action b l) := fault_sameBut s _

theorem d2dPost_last (s : State) (i cls action b l : Nat) {code : Nat} (h : code < 2 ^ 16) :
    (s.d2dPost i code cls action b l).getF (pgD2d i) 0x18 0 31 16 = code := (fault_last s _).trans (Nat.mod_eq_of_lt h)

/-! What a die learns of a change (R236). -/

/-- What a die notes of another that it can no longer reach, and the polders that it stops. -/
def State.loseDie (s : State) (d e : Nat) : State :=
  let s1 := { s with unreach := s.unreach ++ [4 * d + e] }.fault { code := 0x1105, page := pgD2d (d2dTo d e), cls := 5, detail := d2dDetail (d2dTo d e) 0 0 e }
  (s1.spanning d e).foldl (fun x p => x.polderStop p 0x2033 true) s1

/-- Die `d` looks at its route to die `e`. -/
def State.checkDie (s : State) (d e : Nat) : State := if e = d ∨ s.routeOf d e ≠ 2 ∨ s.unreach.contains (4 * d + e) then s else s.loseDie d e

/-- Die `d` has learnt of the last change. -/
def State.noticed (s : State) (d : Nat) : State := { s with notices := if s.notices.contains d then s.notices else s.notices ++ [d] }

theorem recompute_eq (s : State) (d : Nat) : s.recompute d = (List.range 4).foldl (fun st e => st.checkDie d e) (s.noticed d) := rfl

theorem LinkRegs.loseDie (s : State) (d e : Nat) : LinkRegs s (s.loseDie d e) := by
  refine LinkRegs.trans ?_ (.foldl (fun st p => .polderStop st p _ _) _ _)
  exact LinkRegs.fault { s with unreach := s.unreach ++ [4 * d + e] } _

theorem LinkRegs.checkDie (s : State) (d e : Nat) : LinkRegs s (s.checkDie d e) := by
  unfold State.checkDie
  split
  · exact .refl s
  · exact .loseDie s d e

theorem LinkRegs.recompute (s : State) (d : Nat) : LinkRegs s (s.recompute d) := by
  rw [recompute_eq]
  exact LinkRegs.trans (.of_regs rfl) (.foldl (fun st e => .checkDie st d e) _ (s.noticed d))

end Sys2Proof.Machine
end

section
/-!
SUPPORT. Bundles and links that fail (R233, R234, R236): what each step leaves in D2D_STATUS and D2D_BMAP.
-/
namespace Sys2Proof.Machine

section
variable (s : State) (i : Nat)

/-- The link's ends FAILED, before their dies learn of it: a sparing is abandoned. -/
def State.linkDown : State :=
  let clean (x : D2DLink) : D2DLink := { x with sparing := none, retraining := false, failedOnce := [] }
  ((s.setD2d i (clean (s.d2dl i))).setD2d (d2dPeer i) (clean (s.d2dl (d2dPeer i)))).d2dBoth i 4

/-- The link's two dies have learnt of its failure. -/
def State.linkLost : State := (({ s with notices := [] }.d2dPost i 0x1103 5 0 0 0).recompute (i / 2)).recompute (d2dPeer i / 2)

theorem failLink_failed (h : s.d2dState i = 4) : s.failLink i = s := if_pos h

theorem failLink_eq (h : s.d2dState i ≠ 4) : s.failLink i = (s.linkDown i).linkLost i := if_neg h

theorem LinkRegs.linkLost : LinkRegs s (s.linkLost i) :=
  (LinkRegs.fault { s with notices := [] } _).trans ((LinkRegs.recompute _ _).trans (.recompute _ _))

theorem linkLost_sameBut : s.sameBut [.regs, .freeCtr, .recSeq, .tiles, .pols, .intakes, .hostOut, .trace, .notices, .unreach, .flight, .ports, .kneaders]
    (s.linkLost i) :=
  Keeps.sameBut (State.recompute_keeps rfl (State.recompute_keeps rfl (State.d2dPost_keeps rfl (Keeps.set_notices rfl (.refl _ s)))))

/-- A link that carries traffic fails at both ends. -/
theorem failLink_up {s : State} {i : Nat} (hi : i < 8) (h : s.d2dUp i = true) : (s.failLink i).d2dState i = 4 ∧ (s.failLink i).d2dState (d2dPeer i) = 4 := by
  have hup : s.d2dState i ≠ 4 := fun e => by simp [State.d2dUp, e] at h
  have hlost := LinkRegs.linkLost (s.linkDown i) i
  rw [failLink_eq s i hup, hlost.d2dState_eq, hlost.d2dState_eq]
  exact d2dBoth_state _ hi (by omega)

/-- A failed link has no sparing. -/
theorem failLink_sparing (h : (s.d2dl i).sparing = none) : ((s.failLink i).d2dl i).sparing = none := by
  by_cases hst : s.d2dState i = 4
  · rw [failLink_failed s i hst, h]
  · have hd2d : ((s.linkDown i).linkLost i).d2d = (s.linkDown i).d2d := linkLost_sameBut (s.linkDown i) i .d2d (by decide)
    have hdown : ((s.linkDown i).d2dl i).sparing = none := by
      by_cases hp : i = d2dPeer i
      · exact (congrArg (fun k => ((s.linkDown i).d2dl k).sparing) hp).trans (congrArg D2DLink.sparing (State.d2dl_setD2d_same ..))
      · exact (congrArg D2DLink.sparing (State.d2dl_setD2d_other _ _ _ _ (Ne.symm hp))).trans (congrArg D2DLink.sparing (State.d2dl_setD2d_same ..))
    rw [failLink_eq s i hst, State.d2dl, hd2d]
    exact hdown

end

/-- Of D2D_BMAP nothing changes, and of D2D_STATUS only the state. -/
def StateOnly (s u : State) : Prop := (∀ k sel, sel < 32768 → u.reg (pgD2d k) 0x110 sel = s.reg (pgD2d k) 0x110 sel) ∧
  ∀ k hi lo, 2 < lo → u.getF (pgD2d k) 0x100 0 hi lo = s.getF (pgD2d k) 0x100 0 hi lo

theorem LinkRegs.stateOnly {s u : State} (h : LinkRegs s u) : StateOnly s u :=
  ⟨fun k sel hs => h k _ sel (.inr rfl) hs, fun k hi lo _ => h.getF_eq k hi lo (.inl rfl) (by omega)⟩

theorem StateOnly.trans {s u v : State} (h : StateOnly s u) (g : StateOnly u v) : StateOnly s v :=
  ⟨fun k sel hs => (g.1 k sel hs).trans (h.1 k sel hs), fun k hi lo hl => (g.2 k hi lo hl).trans (h.2 k hi lo hl)⟩

theorem StateOnly.d2dBoth (s : State) (i st : Nat) : StateOnly s (s.d2dBoth i st) :=
  ⟨fun _ _ hs => d2dBoth_offs s i st _ _ _ (by decide) (by omega) hs, fun k _ _ hl => d2dBoth_getF s i st k hl⟩

theorem StateOnly.failLink (s : State) (i : Nat) : StateOnly s (s.failLink i) := by
  by_cases hst : s.d2dState i = 4
  · rw [failLink_failed s i hst]
    exact (LinkRegs.refl s).stateOnly
  · rw [failLink_eq s i hst]
    refine StateOnly.trans ?_ (LinkRegs.linkLost _ i).stateOnly
    refine StateOnly.trans (LinkRegs.of_regs ?_).stateOnly (.d2dBoth _ i 4)
    rfl

/-! A bundle retires (R233). -/

@[simp] theorem d2dBoth_d2dl (s : State) (i st k : Nat) : (s.d2dBoth i st).d2dl k = s.d2dl k := rfl

/-- The bundle marked retired and counted, before the link's state follows. -/
def State.bundleGone (s : State) (i b : Nat) : State :=
  let x := s.d2dl i
  let keep := match x.sparing with | some (q, _) => q != b | none => false
  ((((s.setF (pgD2d i) 0x110 b 28 28 1).setF (pgD2d i) 0x100 0 11 8 (s.getF (pgD2d i) 0x100 0 11 8 - 1)).setD2d i
    { x with sparing := if keep then x.sparing else none, laneErr := mapDrop x.laneErr (fun k => k / 64 == b) }).lasting (pgD2d i)).d2dPost i 0x1102 2 2 b 0

section
variable {s : State} {i b : Nat}

theorem retireBundle_retired (h : s.getF (pgD2d i) 0x110 b 28 28 = 1) : s.retireBundle i b = s := if_pos h

theorem retireBundle_eq (h : s.getF (pgD2d i) 0x110 b 28 28 ≠ 1) : s.retireBundle i b =
    if s.getF (pgD2d i) 0x100 0 11 8 - 1 < 5 then (s.bundleGone i b).failLink i else (s.bundleGone i b).d2dBoth i 3 := if_neg h

/-- The lasting fault and the record write no register of a link but its code. -/
theorem bundleGone_linkRegs (s : State) {i : Nat} (hi : i < 8) (b : Nat) :
    LinkRegs ((s.setF (pgD2d i) 0x110 b 28 28 1).setF (pgD2d i) 0x100 0 11 8 (s.getF (pgD2d i) 0x100 0 11 8 - 1)) (s.bundleGone i b) := by
  refine LinkRegs.trans ?_ (.fault _ _)
  refine LinkRegs.trans (u := _) (.of_regs ?_) fun k off sel ho hs => reg_setReg_other _ _ _ _ _ _ _ _ fun e => ?_
  · rfl
  · unfold regKey pgDev pgD2d pgDie at e
    omega

theorem bundleGone_reg (hi : i < 8) (hb : b < 8) : (s.bundleGone i b).getF (pgD2d i) 0x110 b 28 28 = 1 ∧
    (s.bundleGone i b).getF (pgD2d i) 0x100 0 11 8 = s.getF (pgD2d i) 0x100 0 11 8 - 1 ∧ (s.bundleGone i b).getF (pgD2d i) 0x18 0 31 16 = 0x1102 := by
  have hcount := fld_lt (s.reg (pgD2d i) 0x100 0) 11 8
  refine ⟨?_, ?_, d2dPost_last _ _ _ _ _ _ (by omega)⟩
  · rw [(bundleGone_linkRegs s hi b).getF_eq i _ _ (.inr rfl) (by omega), getF_setF_other _ _ _ _ _ _ _ _ _ _ _ _ (by unfold regKey; omega),
      getF_setF_same _ _ _ _ _ _ _ (by omega) (by omega)]
    rfl
  · rw [(bundleGone_linkRegs s hi b).getF_eq i _ _ (.inl rfl) (by omega), getF_setF_same _ _ _ _ _ _ _ (by omega) (by omega)]
    unfold State.getF
    omega

theorem bundleGone_sparing (h : (s.d2dl i).sparing = none) : ((s.bundleGone i b).d2dl i).sparing = none := by
  have hpost (u : State) : (u.d2dPost i 0x1102 2 2 b 0).d2d = u.d2d := d2dPost_sameBut u i _ _ _ _ _ .d2d (by decide)
  unfold State.bundleGone
  rw [State.d2dl, hpost]
  refine (congrArg D2DLink.sparing (State.d2dl_setD2d_same ..)).trans ?_
  rw [h]
  rfl

/-- A bundle that was not retired is, whatever becomes of its link. -/
theorem retireBundle_spec (hi : i < 8) (hb : b < 8) (h : s.getF (pgD2d i) 0x110 b 28 28 ≠ 1) (hsp : (s.d2dl i).sparing = none) :
    (s.retireBundle i b).getF (pgD2d i) 0x110 b 28 28 = 1 ∧ ((s.retireBundle i b).d2dl i).sparing = none := by
  have hgone := (bundleGone_reg (s := s) hi hb).1
  have hkept {u : State} (hu : StateOnly (s.bundleGone i b) u) : u.getF (pgD2d i) 0x110 b 28 28 = 1 :=
    (getF_of_reg_eq (hu.1 i b (by omega)) _ _).trans hgone
  rw [retireBundle_eq h]
  split
  · exact ⟨hkept (.failLink _ i), failLink_sparing _ i (bundleGone_sparing hsp)⟩
  · exact ⟨hkept (.d2dBoth _ i 3), by rw [d2dBoth_d2dl, bundleGone_sparing hsp]⟩

/-- With at least 5 bundles left the link is DEGRADED. -/
theorem retireBundle_degraded (hi : i < 8) (hb : b < 8) (h : s.getF (pgD2d i) 0x110 b 28 28 ≠ 1) (hn : 6 ≤ s.getF (pgD2d i) 0x100 0 11 8) :
    (s.retireBundle i b).getF (pgD2d i) 0x110 b 28 28 = 1 ∧ (s.retireBundle i b).getF (pgD2d i) 0x100 0 11 8 = s.getF (pgD2d i) 0x100 0 11 8 - 1 ∧
      (s.retireBundle i b).d2dState i = 3 ∧ (s.retireBundle i b).d2dState (d2dPeer i) = 3 ∧ (s.retireBundle i b).getF (pgD2d i) 0x18 0 31 16 = 0x1102 := by
  obtain ⟨hgone, hcount, hcode⟩ := bundleGone_reg (s := s) hi hb
  obtain ⟨hown, hpeer⟩ := d2dBoth_state (s.bundleGone i b) hi (show 3 < 8 by omega)
  have hboth := d2dBoth_offs (s.bundleGone i b) i 3
  rw [retireBundle_eq h, if_neg (by omega)]
  exact ⟨(hboth.getF _ _ _ ⟨by decide, by omega, by omega⟩).trans hgone, (d2dBoth_getF _ i 3 i (by omega)).trans hcount, hown, hpeer,
    (hboth.getF _ _ _ (by decide)).trans hcode⟩

/-! The spares and their count. -/

/-- The lanes that spares replace, and the count of spares in use, of an instance. -/
def SparesKept (i : Nat) (s u : State) : Prop := (∀ b k, b < 8 → k < 4 → u.spareLane i b k = s.spareLane i b k) ∧
  u.getF (pgD2d i) 0x100 0 21 16 = s.getF (pgD2d i) 0x100 0 21 16

theorem SparesKept.trans {s u v : State} {i : Nat} (h : SparesKept i s u) (g : SparesKept i u v) : SparesKept i s v :=
  ⟨fun b k hb hk => (g.1 b k hb hk).trans (h.1 b k hb hk), g.2.trans h.2⟩

theorem StateOnly.sparesKept {s u : State} (h : StateOnly s u) (i : Nat) : SparesKept i s u :=
  ⟨fun b _ hb _ => getF_of_reg_eq (h.1 i b (by omega)) _ _, h.2 i 21 16 (by omega)⟩

theorem LinkRegs.sparesKept {s u : State} (h : LinkRegs s u) (i : Nat) : SparesKept i s u := h.stateOnly.sparesKept i

theorem SparesKept.bundleGone (s : State) {i : Nat} (hi : i < 8) (b : Nat) : SparesKept i s (s.bundleGone i b) := by
  refine SparesKept.trans ?_ ((bundleGone_linkRegs s hi b).sparesKept i)
  refine ⟨fun b' k hb' hk => ?_, ?_⟩
  · unfold State.spareLane
    rw [getF_setF_other _ _ _ _ _ _ _ _ _ _ _ _ (by unfold regKey; omega)]
    by_cases hsel : b = b'
    · rw [hsel, getF_setF_field _ _ _ _ _ _ _ _ _ (by omega) (by omega)]
    · exact getF_setF_other _ _ _ _ _ _ _ _ _ _ _ _ (by unfold regKey; omega)
  · rw [getF_setF_field _ _ _ _ _ _ _ _ _ (by omega) (by omega), getF_setF_other _ _ _ _ _ _ _ _ _ _ _ _ (by unfold regKey; omega)]

theorem SparesKept.retireBundle (s : State) {i : Nat} (hi : i < 8) (b : Nat) : SparesKept i s (s.retireBundle i b) := by
  by_cases h : s.getF (pgD2d i) 0x110 b 28 28 = 1
  · rw [retireBundle_retired h]
    exact (LinkRegs.refl s).sparesKept i
  · rw [retireBundle_eq h]
    refine (SparesKept.bundleGone s hi b).trans ?_
    split
    · exact (StateOnly.failLink _ i).sparesKept i
    · exact (StateOnly.d2dBoth _ i 3).sparesKept i

end

/-! The next sparing that is due (R233, R245). -/

/-- With no lane errors counted, none is due. -/
theorem nextSparing_quiet {s : State} {i : Nat} (h : (s.d2dl i).laneErr = []) : s.nextSparing i = s := by
  unfold State.nextSparing
  dsimp only
  rw [h]
  exact ite_self _

end Sys2Proof.Machine
end

section
/-!
CERTIFICATE. Die-to-die flits and lane sparing (R231 to R234, R245).
-/
namespace Sys2Proof.Machine

theorem onLink_eq_next {i : Nat} (h : i < 8) (f : Unit → State) : onLink i f = .next (f ()) := if_pos h

theorem setD2d_sameBut (s : State) (i : Nat) (x : D2DLink) : s.sameBut [.d2d] (s.setD2d i x) := Keeps.sameBut (Keeps.set_d2d rfl (.refl _ s))

/-! Flits. -/

/-- The place of a flit's die pair and class in the list of accepted sequence numbers. -/
def flitKey (cls src dst : Nat) : Nat := (src * 4 + dst) * 8 + cls

/-- A flit's name among those that have failed once. -/
def flitName (cls src dst seq : Nat) : Nat := flitKey cls src dst * 65536 + seq % 65536

/-- A flit without lane errors counted at its sender. -/
def State.flitIn (s : State) (i cls : Nat) : State := (s.setD2d i (s.d2dl i)).countEv (pgD2d (d2dPeer i)) (0x10 + cls) 1

/-- The flits of instance `i` that have failed once. -/
def State.setFailed (s : State) (i : Nat) (fs : List Nat) : State := s.setD2d i { s.d2dl i with failedOnce := fs }

/-- The flit counted, and no longer among those that have failed once. -/
def State.flitTaken (s : State) (i cls src dst seq : Nat) : State :=
  (s.flitIn i cls).setFailed i ((s.d2dl i).failedOnce.filter (· != flitName cls src dst seq))

/-- Whether a sequence number is above the last that a die accepted. -/
def State.isNew (s : State) (hub key seq : Nat) : Bool := match mapFind? (s.d2dl hub).accepted key with | some q => decide (q < seq) | none => true

/-- A die accepts a sequence number. -/
def State.acceptSeq (s : State) (hub key seq : Nat) : State := s.setD2d hub { s.d2dl hub with accepted := mapSet (s.d2dl hub).accepted key seq }

section
variable {s : State} {i cls src dst seq b : Nat}

theorem flitIn_sameBut (s : State) (i cls : Nat) : s.sameBut [.regs, .d2d] (s.flitIn i cls) :=
  Keeps.sameBut (State.countEv_keeps rfl (Keeps.set_d2d rfl (.refl _ s)))

theorem flitIn_d2dl (s : State) (i cls k : Nat) : (s.flitIn i cls).d2dl k = s.d2dl k := by
  obtain ⟨r, hr⟩ := countEv_parts (s.setD2d i (s.d2dl i)) (pgD2d (d2dPeer i)) (0x10 + cls) 1
  rw [State.flitIn, hr]
  by_cases hk : i = k
  · exact hk ▸ State.d2dl_setD2d_same ..
  · exact State.d2dl_setD2d_other _ _ _ _ hk

theorem flitIn_offs (s : State) (i cls : Nat) : OffsOnly counterOffs s (s.flitIn i cls) :=
  ((OffsOnly.refl _ s).of_regs (v := s.setD2d i (s.d2dl i)) rfl).countEv _ _ _ (List.Subset.refl _)

/-- Of a link's direction, only the flits that have failed once differ. -/
theorem setFailed_d2dl (s : State) (i k : Nat) (fs : List Nat) :
    ((s.setFailed i fs).d2dl k).accepted = (s.d2dl k).accepted ∧ ((s.setFailed i fs).d2dl k).laneErr = (s.d2dl k).laneErr := by
  by_cases hk : i = k
  · rw [← hk, State.setFailed, State.d2dl_setD2d_same]
    exact ⟨rfl, rfl⟩
  · rw [State.setFailed, State.d2dl_setD2d_other _ _ _ _ hk]
    exact ⟨rfl, rfl⟩

theorem flitTaken_d2dl (s : State) (i cls src dst seq k : Nat) : ((s.flitTaken i cls src dst seq).d2dl k).accepted = (s.d2dl k).accepted ∧
    ((s.flitTaken i cls src dst seq).d2dl k).laneErr = (s.d2dl k).laneErr := by
  rw [← flitIn_d2dl s i cls k]
  exact setFailed_d2dl ..

theorem flitTaken_sameBut (s : State) (i cls src dst seq : Nat) : s.sameBut [.regs, .d2d] (s.flitTaken i cls src dst seq) :=
  (flitIn_sameBut s i cls).trans ((setD2d_sameBut _ _ _).mono (by decide))

theorem LinkRegs.flitTaken (s : State) (i cls src dst seq : Nat) : LinkRegs s (s.flitTaken i cls src dst seq) :=
  LinkRegs.trans (.of_offs (flitIn_offs s i cls) (by decide)) (.of_regs rfl)

theorem isNew_iff {hub key : Nat} : s.isNew hub key seq = true ↔ ∀ q, mapFind? (s.d2dl hub).accepted key = some q → q < seq := by
  unfold State.isNew
  split
  · next q hq => simp [hq]
  · next hq => simp [hq]

theorem acceptSeq_laneErr (s : State) (hub k key seq : Nat) : ((s.acceptSeq hub key seq).d2dl k).laneErr = (s.d2dl k).laneErr := by
  by_cases hk : hub = k
  · rw [← hk, State.acceptSeq, State.d2dl_setD2d_same]
  · rw [State.acceptSeq, State.d2dl_setD2d_other _ _ _ _ hk]

variable (hup : s.d2dUp i = true) (hbun : s.getF (pgD2d i) 0x110 b 28 28 = 0) (herr : (s.d2dl i).laneErr = [])
include hup hbun

theorem effD2dFlit_good : effD2dFlit i cls src dst seq b [] false s =
    (let s2 := s.flitTaken i cls src dst seq
     (if dst == i / 2 && s2.isNew (2 * (i / 2)) (flitKey cls src dst) seq then s2.acceptSeq (2 * (i / 2)) (flitKey cls src dst) seq else s2).nextSparing i) := by
  rw [effD2dFlit, if_neg (by simp [hup, hbun])]
  rfl

theorem effD2dFlit_first (h : flitName cls src dst seq ∉ (s.d2dl i).failedOnce) : effD2dFlit i cls src dst seq b [] true s =
    ((((s.flitIn i cls).setFailed i ((s.d2dl i).failedOnce ++ [flitName cls src dst seq])).bump (pgD2d (d2dPeer i)) 0x118 0 1).countEv
      (pgD2d (d2dPeer i)) 0x15 1).nextSparing i := by
  rw [effD2dFlit, if_neg (by simp [hup, hbun])]
  exact if_neg fun e => h (List.contains_iff_mem.1 e)

theorem effD2dFlit_second (h : flitName cls src dst seq ∈ (s.d2dl i).failedOnce) : effD2dFlit i cls src dst seq b [] true s =
    (s.flitTaken i cls src dst seq).retireBundle i b := by
  rw [effD2dFlit, if_neg (by simp [hup, hbun])]
  exact if_pos (List.contains_iff_mem.2 h)

include herr

/-- A good flit at its destination with a new number is accepted. -/
theorem effD2dFlit_accepts (hdst : dst = i / 2) (hnew : ∀ q, mapFind? (s.d2dl (2 * (i / 2))).accepted (flitKey cls src dst) = some q → q < seq) :
    mapFind? ((effD2dFlit i cls src dst seq b [] false s).d2dl (2 * (i / 2))).accepted (flitKey cls src dst) = some seq := by
  rw [effD2dFlit_good hup hbun]
  extract_lets s2
  obtain ⟨hacc, -⟩ := flitTaken_d2dl s i cls src dst seq (2 * (i / 2))
  obtain ⟨-, hlane⟩ := flitTaken_d2dl s i cls src dst seq i
  have hfresh : s2.isNew (2 * (i / 2)) (flitKey cls src dst) seq = true := isNew_iff.2 (by rwa [hacc])
  rw [hfresh, beq_iff_eq.2 hdst, Bool.and_true, if_pos rfl, nextSparing_quiet ((acceptSeq_laneErr ..).trans (hlane.trans herr)), State.acceptSeq,
    State.d2dl_setD2d_same]
  exact mapFind?_mapSet_same ..

/-- A good flit whose number is not new is dropped. -/
theorem effD2dFlit_drops {q : Nat} (hq : mapFind? (s.d2dl (2 * (i / 2))).accepted (flitKey cls src dst) = some q) (hold : seq ≤ q) :
    ((effD2dFlit i cls src dst seq b [] false s).d2dl (2 * (i / 2))).accepted = (s.d2dl (2 * (i / 2))).accepted := by
  rw [effD2dFlit_good hup hbun]
  extract_lets s2
  obtain ⟨hacc, -⟩ := flitTaken_d2dl s i cls src dst seq (2 * (i / 2))
  obtain ⟨-, hlane⟩ := flitTaken_d2dl s i cls src dst seq i
  have hstale : ¬ s2.isNew (2 * (i / 2)) (flitKey cls src dst) seq = true := fun h =>
    Nat.not_lt.2 hold (isNew_iff.1 h q (by rw [hacc, hq]))
  rw [Bool.eq_false_iff.2 hstale, Bool.and_false, if_neg Bool.false_ne_true, nextSparing_quiet (hlane.trans herr), hacc]

/-- A good flit touches registers and link state alone. -/
theorem effD2dFlit_good_sameBut : s.sameBut [.regs, .d2d] (effD2dFlit i cls src dst seq b [] false s) := by
  rw [effD2dFlit_good hup hbun]
  extract_lets s2
  have hlane := (flitTaken_d2dl s i cls src dst seq i).2.trans herr
  have h2 : s.sameBut [.regs, .d2d] s2 := flitTaken_sameBut s i cls src dst seq
  split
  · rw [nextSparing_quiet ((acceptSeq_laneErr ..).trans hlane)]
    exact h2.trans ((setD2d_sameBut _ _ _).mono (by decide))
  · rw [nextSparing_quiet hlane]
    exact h2

/-- A flit's first failure is noted and counted at its sender. -/
theorem effD2dFlit_first_spec (h : flitName cls src dst seq ∉ (s.d2dl i).failedOnce) :
    ((effD2dFlit i cls src dst seq b [] true s).d2dl i).failedOnce = (s.d2dl i).failedOnce ++ [flitName cls src dst seq] ∧
      (effD2dFlit i cls src dst seq b [] true s).reg (pgD2d (d2dPeer i)) 0x118 0 = s.reg (pgD2d (d2dPeer i)) 0x118 0 + 1 ∧
      s.sameBut [.regs, .d2d] (effD2dFlit i cls src dst seq b [] true s) := by
  rw [effD2dFlit_first hup hbun h]
  generalize hv : (s.flitIn i cls).setFailed i ((s.d2dl i).failedOnce ++ [flitName cls src dst seq]) = v
  have hlink : v.d2dl i = { s.d2dl i with failedOnce := (s.d2dl i).failedOnce ++ [flitName cls src dst seq] } := by
    rw [← hv, State.setFailed, State.d2dl_setD2d_same, flitIn_d2dl]
  have hreg : v.reg (pgD2d (d2dPeer i)) 0x118 0 = s.reg (pgD2d (d2dPeer i)) 0x118 0 := by
    rw [← hv]
    exact flitIn_offs s i cls _ _ _ (by decide) (by omega) (by omega)
  have hparts : s.sameBut [.regs, .d2d] v := hv ▸ (flitIn_sameBut s i cls).trans ((setD2d_sameBut _ _ _).mono (by decide))
  obtain ⟨r, hr⟩ := countEv_parts (v.bump (pgD2d (d2dPeer i)) 0x118 0 1) (pgD2d (d2dPeer i)) 0x15 1
  have hcount : ((v.bump (pgD2d (d2dPeer i)) 0x118 0 1).countEv (pgD2d (d2dPeer i)) 0x15 1).d2dl i = v.d2dl i := by
    rw [hr]
    rfl
  rw [nextSparing_quiet (by rw [hcount, hlink, herr])]
  refine ⟨by rw [hcount, hlink], ?_, hparts.trans ?_⟩
  · rw [countEv_reg _ _ _ _ _ _ _ (by omega) (by omega) (by omega), reg_bump_same, hreg]
    rfl
  · rw [hr]
    exact (sameBut_regs v r).mono (by decide)

omit herr

/-- A flit's second failure retires the bundle; with at least 5 left the link is DEGRADED. -/
theorem effD2dFlit_second_spec (hi : i < 8) (hb : b < 8) (h : flitName cls src dst seq ∈ (s.d2dl i).failedOnce) (hn : 6 ≤ s.getF (pgD2d i) 0x100 0 11 8)
    {u : State} (hu : effD2dFlit i cls src dst seq b [] true s = u) : u.getF (pgD2d i) 0x110 b 28 28 = 1 ∧
      u.getF (pgD2d i) 0x100 0 11 8 = s.getF (pgD2d i) 0x100 0 11 8 - 1 ∧ u.d2dState i = 3 ∧ u.d2dState (d2dPeer i) = 3 ∧
      u.getF (pgD2d i) 0x18 0 31 16 = 0x1102 := by
  rw [effD2dFlit_second hup hbun h] at hu
  have hregs := LinkRegs.flitTaken s i cls src dst seq
  have hbun' : (s.flitTaken i cls src dst seq).getF (pgD2d i) 0x110 b 28 28 ≠ 1 := by
    rw [hregs.getF_eq i _ _ (.inr rfl) (by omega), hbun]
    omega
  have hn' := hregs.getF_eq i (off := 0x100) (sel := 0) 11 8 (.inl rfl) (by omega)
  rw [← hu, ← hn']
  exact retireBundle_degraded hi hb hbun' (by omega)

end

/-! Sparing. -/

section
variable (s : State) {i : Nat} (hi : i < 8)
include hi

theorem exec_d2dSpareReq (b l : Nat) : exec (.d2dSpareReq i b l) s = .next (effSpareReq i b l s) := onLink_eq_next hi fun _ => effSpareReq i b l s
theorem exec_d2dSpareTrained (ok : Bool) : exec (.d2dSpareTrained i ok) s = .next (effSpareTrained i ok s) :=
  onLink_eq_next hi fun _ => effSpareTrained i ok s
theorem exec_d2dSpareGo : exec (.d2dSpareGo i) s = .next (effSpareGo i s) := onLink_eq_next hi fun _ => effSpareGo i s

/-- What starts the next sparing leaves the spares in use and their count. -/
theorem SparesKept.nextSparing : SparesKept i s (s.nextSparing i) := by
  unfold State.nextSparing
  dsimp only
  split
  · exact (LinkRegs.refl s).sparesKept i
  · split
    · exact (LinkRegs.refl s).sparesKept i
    · split
      · exact (LinkRegs.of_regs rfl).sparesKept i
      · exact .retireBundle s hi _

end

section
variable {s : State} {i b l sp : Nat}

/-- The state with the spare's lane switched and counted, before the record. -/
def State.spareIn (s : State) (i b l sp : Nat) : State :=
  ((s.setF (pgD2d i) 0x110 b (7 * sp + 6) (7 * sp) l).sat (pgD2d i) 0x100 0 21 16 1).setD2d i
    { s.d2dl i with sparing := none, laneErr := mapDrop (s.d2dl i).laneErr (fun k => k == b * 64 + l) }

theorem effSpareGo_eq (h : (s.d2dl i).sparing = some (b, l, sp, 2)) : effSpareGo i s = ((s.spareIn i b l sp).d2dPost i 0x1101 2 1 b l).nextSparing i := by
  rw [effSpareGo, h]
  rfl

theorem spareIn_spec (hl : l < 64) (hsp : sp < 4) : (s.spareIn i b l sp).spareLane i b sp = l ∧
    (s.spareIn i b l sp).getF (pgD2d i) 0x100 0 21 16 = min (s.getF (pgD2d i) 0x100 0 21 16 + 1) 63 := by
  have hkeys : regKey (pgD2d i) 0x110 b ≠ regKey (pgD2d i) 0x100 0 := by
    unfold regKey
    omega
  have hcount := getF_setF_other s (pgD2d i) 0x110 b (7 * sp + 6) (7 * sp) l (pgD2d i) 0x100 0 21 16 hkeys
  have hlane := getF_setF_same s (pgD2d i) 0x110 b (7 * sp + 6) (7 * sp) l (by omega) (by omega)
  rw [show 7 * sp + 6 + 1 - 7 * sp = 7 by omega, Nat.mod_eq_of_lt (show l < 2 ^ 7 by omega)] at hlane
  refine ⟨(getF_setF_other _ _ _ _ _ _ _ _ _ _ _ _ hkeys.symm).trans hlane, ?_⟩
  refine (getF_sat_same _ _ _ _ _ _ _ (by omega) (by omega)).trans ?_
  rw [hcount]
  rfl

/-- The switch enters the lane and counts it. -/
theorem effSpareGo_spec (hi : i < 8) (hb : b < 8) (hl : l < 64) (hsp : sp < 4) (h : (s.d2dl i).sparing = some (b, l, sp, 2)) :
    (effSpareGo i s).spareLane i b sp = l ∧ (effSpareGo i s).getF (pgD2d i) 0x100 0 21 16 = min (s.getF (pgD2d i) 0x100 0 21 16 + 1) 63 := by
  obtain ⟨hlane, hcount⟩ := spareIn_spec (s := s) (i := i) (b := b) hl hsp
  have hpost : LinkRegs (s.spareIn i b l sp) ((s.spareIn i b l sp).d2dPost i 0x1101 2 1 b l) := .fault _ _
  obtain ⟨hspares, hused⟩ := (hpost.sparesKept i).trans (SparesKept.nextSparing _ hi)
  rw [effSpareGo_eq h]
  exact ⟨(hspares b sp hb hsp).trans hlane, hused.trans hcount⟩

theorem effSpareReq_mirrors (h : (s.d2dl i).sparing = some (b, l, sp, 0)) :
    effSpareReq i b l s = s.setD2d i { s.d2dl i with sparing := some (b, l, sp, 1) } := by
  rw [effSpareReq, h]
  exact if_pos ⟨rfl, rfl⟩

theorem effSpareTrained_clean (h : (s.d2dl i).sparing = some (b, l, sp, 1)) :
    effSpareTrained i true s = s.setD2d i { s.d2dl i with sparing := some (b, l, sp, 2) } := by
  rw [effSpareTrained, h]
  exact if_pos rfl

theorem effSpareTrained_next {k : Nat} (h : (s.d2dl i).sparing = some (b, l, sp, 1)) (hk : s.freeSpare i b (sp + 1) = some k) :
    effSpareTrained i false s = s.setD2d i { s.d2dl i with sparing := some (b, l, k, 0) } := by
  simp only [effSpareTrained, h, hk, Bool.false_eq_true, if_false]

theorem effSpareTrained_retires (h : (s.d2dl i).sparing = some (b, l, sp, 1)) (hk : s.freeSpare i b (sp + 1) = none) :
    effSpareTrained i false s = (s.setD2d i { s.d2dl i with sparing := none }).retireBundle i b := by
  simp only [effSpareTrained, h, hk, Bool.false_eq_true, if_false]

end

/-- A state of a link's direction set, and nothing else. -/
theorem setD2d_spec (s : State) (i : Nat) (x : D2DLink) : (s.setD2d i x).d2dl i = x ∧ s.sameBut [.d2d] (s.setD2d i x) :=
  ⟨State.d2dl_setD2d_same .., setD2d_sameBut _ _ _⟩

/-- Settles O42: a flit by one equation for each of its cases, the retired bundle by `retireBundle_degraded`, the steps of a sparing by theirs. -/
theorem d2dFlitsAndSparing : Obligations.D2dFlitsAndSparing := by
  refine ⟨fun s i cls src dst seq b hi hb hsrc hdst hcls hup hbun herr => ?flits, fun s i b l sp hi hb hl hsp => ?sparing⟩
  case flits =>
    have hexec (bad : Bool) : exec (.d2dFlit i cls src dst seq b [] bad) s = .next (effD2dFlit i cls src dst seq b [] bad s) :=
      if_pos ⟨hi, hb, hsrc, hdst, hcls⟩
    refine ⟨fun hhere hnew => ?_, fun q hq hold => ?_, fun hfirst => ?_, fun hsecond hn => ?_⟩
    · exact ⟨_, hexec false, effD2dFlit_accepts hup hbun herr hhere hnew, effD2dFlit_good_sameBut hup hbun herr⟩
    · exact ⟨_, hexec false, effD2dFlit_drops hup hbun herr hq hold, effD2dFlit_good_sameBut hup hbun herr⟩
    · exact ⟨_, hexec true, effD2dFlit_first_spec hup hbun herr hfirst⟩
    · exact ⟨_, hexec true, effD2dFlit_second_spec hup hbun hi hb hsecond hn rfl⟩
  case sparing =>
    refine ⟨fun h => ?_, fun h => ⟨?_, fun k hk => ?_, fun hk hbun => ?_⟩, fun h => ?_, fun h => ⟨fun b' l' => ?_, fun ok => ?_, ?_⟩⟩
    · exact ⟨_, (exec_d2dSpareReq s hi b l).trans (congrArg _ (effSpareReq_mirrors h)), setD2d_spec ..⟩
    · exact ⟨_, (exec_d2dSpareTrained s hi true).trans (congrArg _ (effSpareTrained_clean h)), setD2d_spec ..⟩
    · exact ⟨_, (exec_d2dSpareTrained s hi false).trans (congrArg _ (effSpareTrained_next h hk)), setD2d_spec ..⟩
    · refine ⟨_, (exec_d2dSpareTrained s hi false).trans (congrArg _ (effSpareTrained_retires h hk)), retireBundle_spec hi hb ?_ ?_⟩
      · rw [show (s.setD2d i _).getF (pgD2d i) 0x110 b 28 28 = _ from hbun]
        omega
      · exact congrArg D2DLink.sparing (State.d2dl_setD2d_same ..)
    · exact ⟨_, exec_d2dSpareGo s hi, effSpareGo_spec hi hb hl hsp h⟩
    · rw [exec_d2dSpareReq s hi, effSpareReq, h]
    · rw [exec_d2dSpareTrained s hi, effSpareTrained, h]
    · rw [exec_d2dSpareGo s hi, effSpareGo, h]

end Sys2Proof.Machine
end

section
/-!
CERTIFICATE. Die-to-die links that fail and return, and the routes that follow them (R234, R236 to R239).
-/
namespace Sys2Proof.Machine

theorem onDie_eq_next {d : Nat} (h : d < 4) (f : Unit → State) : onDie d f = .next (f ()) := if_pos h

section
variable (s : State) {i : Nat} (hi : i < 8)
include hi

theorem exec_d2dNoFlitTimeout : exec (.d2dNoFlitTimeout i) s = .next (if s.d2dUp i then s.failLink i else s) :=
  onLink_eq_next hi fun _ => if s.d2dUp i then s.failLink i else s
theorem exec_d2dFail : exec (.d2dFail i) s = .next (s.failLink i) := onLink_eq_next hi fun _ => s.failLink i
theorem exec_d2dRetrain : exec (.d2dRetrain i) s = .next (if s.d2dState i = 4 then s.retrainLink i else s) :=
  onLink_eq_next hi fun _ => if s.d2dState i = 4 then s.retrainLink i else s
theorem exec_linkRestored : exec (.linkRestored i) s = .next (effRestored i s) := onLink_eq_next hi fun _ => effRestored i s

end

/-! A die learns of a change (R236). -/

/-- The polders that span two dies are told by the bindings. -/
theorem spanning_of_act {s u : State} (h : u.act = s.act) : u.spanning = s.spanning := by
  have hbound : u.bound = s.bound := funext₂ fun tb p => by rw [State.bound, h, State.bound]
  funext a b
  rw [State.spanning, hbound, State.spanning]

/-- The parts in which polder stops work. -/
def stopParts : List Field := [.regs, .freeCtr, .recSeq, .tiles, .pols, .intakes, .hostOut, .trace, .flight, .ports, .kneaders]

theorem loseDie_parts (s : State) (d e : Nat) : (s.loseDie d e).unreach = s.unreach ++ [4 * d + e] ∧ (s.loseDie d e).notices = s.notices ∧
    (s.loseDie d e).act = s.act := by
  have h : ({ s with unreach := s.unreach ++ [4 * d + e] } : State).sameBut stopParts (s.loseDie d e) :=
    Keeps.sameBut (Keeps.foldl (fun _ _ hst => State.polderStop_keeps (w := maskOf stopParts) rfl hst) _ _ (State.fault_keeps rfl (.refl _ _)))
  exact ⟨h .unreach (by decide), h .notices (by decide), h .act (by decide)⟩

theorem loseDie_onlyStops (s : State) (d e : Nat) : OnlyStops s (s.loseDie d e) :=
  (OnlyStops.fault { s with unreach := s.unreach ++ [4 * d + e] } _).trans (.foldl (fun st p => .polderStop st p _ _) _ _)

/-- The polders that span the die and the one that it lost stop. -/
theorem loseDie_stops {s : State} {d e p : Nat} (hp : p ∈ s.spanning d e) : ((s.loseDie d e).pol p).stopped = true := by
  unfold State.loseDie
  extract_lets s1
  have hact : s1.act = s.act := fault_sameBut { s with unreach := s.unreach ++ [4 * d + e] } _ .act (by decide)
  exact foldl_polderStop_stopped _ s1 _ (by rwa [spanning_of_act hact])

/-- While die `d` goes through the others: its notice stands, links and bindings are as they were, and of each die that it newly lost, the polders that
span the two have stopped. -/
def Noticing (s : State) (d : Nat) (u : State) : Prop := LinkRegs s u ∧ u.act = s.act ∧ d ∈ u.notices ∧
  ∀ e, 4 * d + e ∈ u.unreach → 4 * d + e ∉ s.unreach → ∀ p, p ∈ s.spanning d e → (u.pol p).stopped = true

section
variable {s u : State} {d e : Nat}

theorem noticing_noticed (s : State) (d : Nat) : Noticing s d (s.noticed d) := by
  refine ⟨.of_regs rfl, rfl, ?_, fun e hin hout => absurd hin hout⟩
  show d ∈ if s.notices.contains d then s.notices else s.notices ++ [d]
  split
  · next h => exact List.contains_iff_mem.1 h
  · simp

theorem Noticing.checkDie (h : Noticing s d u) (e : Nat) : Noticing s d (u.checkDie d e) := by
  obtain ⟨hregs, hact, hnotice, hstops⟩ := h
  unfold State.checkDie
  split
  · exact ⟨hregs, hact, hnotice, hstops⟩
  · obtain ⟨hunreach, hnotices, hact'⟩ := loseDie_parts u d e
    refine ⟨hregs.trans (.loseDie u d e), hact'.trans hact, hnotices ▸ hnotice, fun e' hin hout p hp => ?_⟩
    rw [hunreach] at hin
    rcases List.mem_append.1 hin with hold | hnew
    · exact (loseDie_onlyStops u d e).2.2.2 p (hstops e' hold hout p hp)
    · obtain rfl : e' = e := by have := List.mem_singleton.1 hnew; omega
      exact loseDie_stops (by rwa [spanning_of_act hact])

theorem checkDie_notes (hne : e ≠ d) (hroute : u.routeOf d e = 2) : 4 * d + e ∈ (u.checkDie d e).unreach := by
  unfold State.checkDie
  split
  · next h =>
    rcases h with h | h | h
    · exact absurd h hne
    · exact absurd hroute h
    · exact List.contains_iff_mem.1 h
  · rw [(loseDie_parts u d e).1]
    simp

theorem checkDie_keeps_unreach {k : Nat} (h : k ∈ u.unreach) (d e : Nat) : k ∈ (u.checkDie d e).unreach := by
  unfold State.checkDie
  split
  · exact h
  · rw [(loseDie_parts u d e).1]
    exact List.mem_append_left _ h

/-- A die that loses others notes each, and the polders that span the two stop. -/
theorem recompute_spec (s : State) (d : Nat) : d ∈ (s.recompute d).notices ∧ ∀ e, e < 4 → e ≠ d → s.routeOf d e = 2 →
    4 * d + e ∈ (s.recompute d).unreach ∧ (4 * d + e ∉ s.unreach → ∀ p, p ∈ s.spanning d e → ((s.recompute d).pol p).stopped = true) := by
  obtain ⟨⟨-, -, hnotice, hstops⟩, hnotes⟩ := foldl_achieves (P := Noticing s d) (Q := fun e st => e ≠ d → s.routeOf d e = 2 → 4 * d + e ∈ st.unreach)
    (fun st e h => h.checkDie e) (fun st e h hne hroute => checkDie_notes hne (by rw [h.1.routeOf_eq, hroute]))
    (fun st a e _ he hne hroute => checkDie_keeps_unreach (he hne hroute) d a) (List.range 4) (s.noticed d) (noticing_noticed s d)
  rw [recompute_eq]
  refine ⟨hnotice, fun e he hne hroute => ?_⟩
  have hmem := hnotes e (.inl (List.mem_range.2 he)) hne hroute
  exact ⟨hmem, hstops e hmem⟩

/-- A die that reaches every other only notes that it has learnt. -/
theorem recompute_reaching (h : ∀ e, e < 4 → s.routeOf d e ≠ 2) : s.recompute d = s.noticed d := by
  rw [recompute_eq]
  refine List.foldlRecOn (motive := fun st => st = s.noticed d) _ _ rfl ?_
  rintro _ rfl e he
  have hroute : (s.noticed d).routeOf d e ≠ 2 := h e (List.mem_range.1 he)
  exact if_pos (.inr (.inl hroute))

end

/-! Routes (R237, R238, Table 7-8). -/

/-- The route of a pair in the routing tables and, for neighbours, in D2D_STATUS. -/
def State.routed (s : State) (a b : Nat) : State :=
  let s1 := { s with routes := mapSet s.routes (4 * a + b) (s.routeOf a b) }
  if (b + 4 - a) % 4 = 2 then s1 else s1.setF (pgD2d (d2dTo a b)) 0x100 0 24 24 (b2n (s.routeOf a b == 1))

section
variable {s : State} {a b : Nat}

theorem routed_sameBut (s : State) (a b : Nat) : ({ s with routes := mapSet s.routes (4 * a + b) (s.routeOf a b) } : State).sameBut [.regs] (s.routed a b) := by
  unfold State.routed
  extract_lets s1
  split
  · exact Keeps.sameBut (.refl _ s1)
  · exact sameBut_regs s1 _

theorem effRouteSwitch_waits {d : Nat} (hd : d < 4) (h : d ∉ s.notices) : effRouteSwitch a b s = s := by
  refine if_pos (.inr ?_)
  simp only [Bool.not_eq_true', List.all_eq_false]
  exact ⟨d, by interval_cases d <;> simp, fun e => h (List.contains_iff_mem.1 e)⟩

theorem effRouteSwitch_switches (hne : a ≠ b) (h : ∀ d, d < 4 → d ∈ s.notices) : effRouteSwitch a b s =
    if s.routeOf a b = 2 then s.routed a b
    else { s.routed a b with flight := (s.routed a b).flight.map (fun l =>
      if l.stage = 2 ∧ l.handshake ∧ tDie l.src = a ∧ tDie l.dst = b then { l with stage := 3 } else l) } := by
  refine if_neg ?_
  simp [hne, h]

/-- The pair takes its route of Table 7-8; no other route changes, and its held handshake loaves go on. -/
theorem effRouteSwitch_spec (hne : a ≠ b) (hb : b < 4) (h : ∀ d, d < 4 → d ∈ s.notices) : (effRouteSwitch a b s).route a b = s.routeOf a b ∧
    (∀ a' b', b' < 4 → (a', b') ≠ (a, b) → (effRouteSwitch a b s).route a' b' = s.route a' b') ∧
    s.sameBut [.regs, .routes, .flight] (effRouteSwitch a b s) ∧
    (s.routeOf a b ≠ 2 → (effRouteSwitch a b s).flight = s.flight.map (fun l =>
      if l.stage = 2 ∧ l.handshake ∧ tDie l.src = a ∧ tDie l.dst = b then { l with stage := 3 } else l)) ∧
    (s.routeOf a b = 2 → (effRouteSwitch a b s).flight = s.flight) := by
  have hparts := routed_sameBut s a b
  have hflight : (s.routed a b).flight = s.flight := hparts .flight (by decide)
  have hroutes : (effRouteSwitch a b s).routes = mapSet s.routes (4 * a + b) (s.routeOf a b) := by
    rw [effRouteSwitch_switches hne h, apply_ite State.routes, ite_self]
    exact hparts .routes (by decide)
  refine ⟨?_, fun a' b' hb' hpair => ?_, Keeps.sameBut (effRouteSwitch_keeps rfl (.refl _ s)), fun hr => ?_, fun hr => ?_⟩
  · rw [State.route, hroutes, mapGet_mapSet_same]
  · rw [State.route, hroutes]
    refine mapGet_mapSet_other _ _ _ _ _ fun e => hpair ?_
    rw [show a' = a by omega, show b' = b by omega]
  · rw [effRouteSwitch_switches hne h, if_neg hr, hflight]
  · rw [effRouteSwitch_switches hne h, if_pos hr, hflight]

/-- A switch leaves the state and the bundle count of every link. -/
theorem effRouteSwitch_getF (s : State) (a b k : Nat) {hi lo : Nat} (h : hi < 24) :
    (effRouteSwitch a b s).getF (pgD2d k) 0x100 0 hi lo = s.getF (pgD2d k) 0x100 0 hi lo := by
  unfold effRouteSwitch
  extract_lets r s1 s2
  have h2 : s2.getF (pgD2d k) 0x100 0 hi lo = s.getF (pgD2d k) 0x100 0 hi lo := by
    show (if _ then s1 else s1.setF _ _ _ _ _ _).getF _ _ _ _ _ = _
    split
    · rfl
    · exact getF_setF_apart _ _ _ _ _ _ _ _ _ _ (by omega) (.inl h)
  split
  · rfl
  · split
    · exact h2
    · exact h2

end

/-! Retraining (R239). -/

section
variable {s : State} {i : Nat}

theorem retrainLink_spec (hi : i < 8) : (s.retrainLink i).d2dState i = 1 ∧ (s.retrainLink i).d2dState (d2dPeer i) = 1 ∧
    ((s.retrainLink i).d2dl i).retraining = true ∧ s.sameBut [.regs, .d2d] (s.retrainLink i) := by
  unfold State.retrainLink
  obtain ⟨hown, hpeer⟩ := d2dBoth_state ((s.setD2d i { s.d2dl i with retraining := true }).setD2d (d2dPeer i) { s.d2dl (d2dPeer i) with retraining := true })
    hi (show 1 < 8 by omega)
  refine ⟨hown, hpeer, ?_, ?_⟩
  · rw [d2dBoth_d2dl, State.d2dl_setD2d_other _ _ _ _ (d2dPeer_ne i hi).symm, State.d2dl_setD2d_same]
  · exact (((setD2d_sameBut _ _ _).trans (setD2d_sameBut _ _ _)).mono (by decide)).trans ((d2dBoth_sameBut _ _ _).mono (by decide))

/-- The retired bundles of an instance are in use again. -/
def State.bundlesBack (s : State) (i : Nat) : State :=
  (List.range 8).foldl (fun st b => if st.getF (pgD2d i) 0x110 b 28 28 = 1 then st.setF (pgD2d i) 0x110 b 28 28 0 else st) s

theorem d2dFresh_eq (s : State) (i : Nat) : s.d2dFresh i = (((s.bundlesBack i).setF (pgD2d i) 0x100 0 2 0 2).setF (pgD2d i) 0x100 0 11 8 8).setD2d i
    { (s.bundlesBack i).d2dl i with retraining := false, laneErr := [], failedOnce := [] } := rfl

/-- An instance that reports UP has all its bundles and no longer retrains. -/
theorem d2dFresh_spec (s : State) (i : Nat) : (s.d2dFresh i).d2dState i = 2 ∧ (s.d2dFresh i).getF (pgD2d i) 0x100 0 11 8 = 8 ∧
    ((s.d2dFresh i).d2dl i).retraining = false := by
  rw [d2dFresh_eq]
  refine ⟨?_, getF_setF_same _ _ _ _ _ _ _ (by omega) (by omega), congrArg D2DLink.retraining (State.d2dl_setD2d_same ..)⟩
  exact (getF_setF_field _ _ _ _ _ _ _ _ _ (by omega) (by omega)).trans (getF_setF_same _ _ _ _ _ _ _ (by omega) (by omega))

/-- It leaves the other instances' state, bundle count and retraining. -/
theorem d2dFresh_other {k : Nat} (hpg : pgD2d k ≠ pgD2d i) (hk : k ≠ i) (hi lo : Nat) :
    (s.d2dFresh i).getF (pgD2d k) 0x100 0 hi lo = s.getF (pgD2d k) 0x100 0 hi lo ∧ (s.d2dFresh i).d2dl k = s.d2dl k := by
  have hregs : RegsOff [pgD2d i] s (s.d2dFresh i) := by
    have hback : RegsOff [pgD2d i] s (s.bundlesBack i) := foldl_range_off 8 (fun st b hb hst => by
      split
      · exact hst.setF (List.mem_singleton_self _) (by omega) (by omega)
      · exact hst) (.refl _ s)
    exact ((hback.setF (List.mem_singleton_self _) (by omega) (by omega)).setF (List.mem_singleton_self _) (by omega) (by omega)).of_regs rfl
  have hback : s.sameBut [.regs] (s.bundlesBack i) := Keeps.sameBut (Keeps.foldl (fun st b hst => by
      split
      · exact State.setF_keeps rfl hst
      · exact hst) _ _ (.refl _ s))
  refine ⟨getF_of_reg_eq (hregs.reg_eq (by simpa using hpg) (by omega) (by omega)) hi lo, ?_⟩
  rw [d2dFresh_eq, State.d2dl_setD2d_other _ _ _ _ (Ne.symm hk)]
  exact congrArg (fun m => mapGet m k {}) (hback .d2d (by decide))

/-- Both ends report UP. -/
theorem bothFresh_spec (hi : i < 8) {u : State} (hu : (s.d2dFresh i).d2dFresh (d2dPeer i) = u) : u.d2dState i = 2 ∧ u.d2dState (d2dPeer i) = 2 ∧
    u.getF (pgD2d i) 0x100 0 11 8 = 8 ∧ (u.d2dl i).retraining = false := by
  obtain ⟨hstate, hcount, hretrain⟩ := d2dFresh_spec s i
  obtain ⟨hpeer, -, -⟩ := d2dFresh_spec (s.d2dFresh i) (d2dPeer i)
  have hother := d2dFresh_other (s := s.d2dFresh i) (pgD2d_peer_ne i hi) (d2dPeer_ne i hi)
  subst hu
  refine ⟨(hother 2 0).1.trans hstate, hpeer, (hother 11 8).1.trans hcount, ?_⟩
  rw [(hother 0 0).2, hretrain]

/-- Every pair takes its route, once every die has learnt of the link's return. -/
def State.rerouted (s : State) : State :=
  (List.range 4).foldl (fun st a => (List.range 4).foldl (fun st b => effRouteSwitch a b st) st)
    { s with notices := [0, 1, 2, 3], unreach := s.unreach.filter (fun k => s.routeOf (k / 4) (k % 4) == 2) }

theorem rerouted_spec (s : State) : (∀ k hi lo, hi < 24 → s.rerouted.getF (pgD2d k) 0x100 0 hi lo = s.getF (pgD2d k) 0x100 0 hi lo) ∧
    s.rerouted.d2d = s.d2d := by
  have hstep (st : State) (a b : Nat) : (effRouteSwitch a b st).d2d = st.d2d :=
    Keeps.sameBut (fs := [.regs, .routes, .flight]) (effRouteSwitch_keeps rfl (.refl _ st)) .d2d (by decide)
  have hrow (st : State) (a : Nat) : (∀ k hi lo, hi < 24 → ((List.range 4).foldl (fun st b => effRouteSwitch a b st) st).getF (pgD2d k) 0x100 0 hi lo =
      st.getF (pgD2d k) 0x100 0 hi lo) ∧ ((List.range 4).foldl (fun st b => effRouteSwitch a b st) st).d2d = st.d2d :=
    List.foldlRecOn (motive := fun u : State => (∀ k hi lo, hi < 24 → u.getF (pgD2d k) 0x100 0 hi lo = st.getF (pgD2d k) 0x100 0 hi lo) ∧ u.d2d = st.d2d)
      _ _ ⟨fun _ _ _ _ => rfl, rfl⟩ fun u hu b _ =>
        ⟨fun k hi lo h => (effRouteSwitch_getF u a b k h).trans (hu.1 k hi lo h), (hstep u a b).trans hu.2⟩
  exact List.foldlRecOn (motive := fun u : State => (∀ k hi lo, hi < 24 → u.getF (pgD2d k) 0x100 0 hi lo = s.getF (pgD2d k) 0x100 0 hi lo) ∧ u.d2d = s.d2d)
    _ _ ⟨fun _ _ _ _ => rfl, rfl⟩ fun u hu a _ => ⟨fun k hi lo h => ((hrow u a).1 k hi lo h).trans (hu.1 k hi lo h), (hrow u a).2.trans hu.2⟩

theorem effRestored_idle (h : (s.d2dl i).retraining = false) : effRestored i s = s := if_pos (by rw [h]; rfl)

theorem effRestored_eq (h : (s.d2dl i).retraining = true) : effRestored i s =
    ((s.d2dFresh i).d2dFresh (d2dPeer i)).rerouted.d2dPost i 0x1106 1 0 0 0 := if_neg (by simp [h])

/-- A restored link is UP at both ends with all its bundles, and says so. -/
theorem effRestored_spec (hi : i < 8) (h : (s.d2dl i).retraining = true) : (effRestored i s).d2dState i = 2 ∧ (effRestored i s).d2dState (d2dPeer i) = 2 ∧
    (effRestored i s).getF (pgD2d i) 0x100 0 11 8 = 8 ∧ ((effRestored i s).d2dl i).retraining = false ∧
    (effRestored i s).getF (pgD2d i) 0x18 0 31 16 = 0x1106 := by
  rw [effRestored_eq h]
  generalize hv : (s.d2dFresh i).d2dFresh (d2dPeer i) = v
  obtain ⟨hown, hpeer, hcount, hretrain⟩ := bothFresh_spec hi hv
  obtain ⟨hfields, hd2d⟩ := rerouted_spec v
  have hpost : LinkRegs v.rerouted (v.rerouted.d2dPost i 0x1106 1 0 0 0) := .fault _ _
  have hlinks : (v.rerouted.d2dPost i 0x1106 1 0 0 0).d2d = v.d2d := (d2dPost_sameBut _ _ _ _ _ _ _ .d2d (by decide)).trans hd2d
  have hstate (k : Nat) : (v.rerouted.d2dPost i 0x1106 1 0 0 0).d2dState k = v.d2dState k := (hpost.d2dState_eq k).trans (hfields k 2 0 (by omega))
  refine ⟨(hstate i).trans hown, (hstate _).trans hpeer, ?_, ?_, d2dPost_last _ _ _ _ _ _ (by omega)⟩
  · rw [hpost.getF_eq i 11 8 (.inl rfl) (by omega), hfields i 11 8 (by omega), hcount]
  · rw [State.d2dl, hlinks]
    exact hretrain

end

/-- Settles O43: failures by `failLink_up`, a die's notice by `recompute_spec`, a pair's route by `effRouteSwitch_spec`, the link's return by
`retrainLink_spec` and `effRestored_spec`. -/
theorem d2dLinksFailAndReturn : Obligations.D2dLinksFailAndReturn := by
  intro s i hi
  refine ⟨fun hup c hc => ?fails, fun hdown => ?down, fun hfailed => ?failed, fun d hd => ?notice, fun a b ha hb hne hall => ?switch,
    fun a b d ha hb hd hno => ?waits, fun hfailed => ?retrains, fun hnot => ?stays, fun hre => ?restored, fun hre => ?idle⟩
  case fails =>
    simp only [List.mem_cons, List.not_mem_nil, or_false] at hc
    rcases hc with rfl | rfl
    · have hexec := exec_d2dNoFlitTimeout s hi
      rw [if_pos hup] at hexec
      exact ⟨_, hexec, failLink_up hi hup⟩
    · exact ⟨_, exec_d2dFail s hi, failLink_up hi hup⟩
  case down => rw [exec_d2dNoFlitTimeout s hi, hdown, if_neg Bool.false_ne_true]
  case failed => rw [exec_d2dFail s hi, failLink_failed s i hfailed]
  case notice =>
    obtain ⟨hnotice, hlost⟩ := recompute_spec s d
    refine ⟨_, onDie_eq_next hd fun _ => s.recompute d, hnotice, fun h => ?_, hlost⟩
    rw [recompute_reaching h]
    exact Keeps.sameBut (Keeps.set_notices rfl (.refl _ s))
  case switch => exact ⟨_, if_pos ⟨ha, hb⟩, effRouteSwitch_spec hne hb hall⟩
  case waits => exact (if_pos ⟨ha, hb⟩ : execD2dRouteSwitch a b s = _).trans (congrArg _ (effRouteSwitch_waits hd hno))
  case retrains =>
    have hexec := exec_d2dRetrain s hi
    rw [if_pos hfailed] at hexec
    exact ⟨_, hexec, retrainLink_spec hi⟩
  case stays => rw [exec_d2dRetrain s hi, if_neg hnot]
  case restored => exact ⟨_, exec_linkRestored s hi, effRestored_spec hi hre⟩
  case idle => rw [exec_linkRestored s hi, effRestored_idle hre]

end Sys2Proof.Machine
end

section
/-!
SUPPORT. Resident lines, retired rows and zeroed blocks (R241, R249, R258, R264): what each operation leaves of what loads see, of poison and of the patrol.
-/
namespace Sys2Proof.Machine

/-- Line work changes no byte that loads see, where it leaves HBM. -/
theorem LineWork.sees_eq {s u : State} (h : LineWork s u) (hm : u.hbm = s.hbm) (a : Nat) : u.sees a = s.sees a := sees_congr (h.wcb _) (by rw [hm])

/-! Near copies (R241). -/

section
variable (s : State) (d ln : Nat)

theorem dropNear_sameBut : s.sameBut [.slices] (s.dropNear d ln) := Keeps.sameBut (State.dropNear_keeps rfl (.refl _ s))

theorem LineWork.dropNear : LineWork s (s.dropNear d ln) := by
  unfold State.dropNear
  extract_lets sl
  split
  · split
    · exact .setLines s sl _
    · exact .refl s
  · exact .refl s

/-- The die's near copy of the line is gone. -/
theorem dropNear_gone {x : LineSt} (h : mapFind? ((s.dropNear d ln).slice (nearSlice d (ln * 128))).lines ln = some x) : x.kind ≠ .near := by
  unfold State.dropNear at h
  dsimp only at h
  split at h
  · next y hy =>
    split at h
    · rw [State.slice_setSlice_same] at h
      exact absurd (h.symm.trans (mapFind?_mapDrop_same _ ln)) (by simp)
    · next hkind =>
      obtain rfl : y = x := Option.some.inj (hy.symm.trans h)
      exact hkind
  · next hnone => exact absurd (hnone.symm.trans h) (by simp)

end

/-! Fills (R249). -/

section
variable (s : State) (sl ln : Nat)

theorem fill_resident (x : LineSt) : mapFind? ((s.fill sl ln x).slice sl).lines ln = some x := by
  have hset (u : State) (c : Slice) (m : SMap LineSt) : mapFind? ((u.setSlice sl { c with lines := mapSet m ln x }).slice sl).lines ln = some x := by
    rw [State.slice_setSlice_same]
    exact mapFind?_mapSet_same ..
  unfold State.fill
  dsimp only
  split
  · exact hset ..
  · split
    · exact hset ..
    · split
      · generalize hv : (drawFree s).2.setSlice sl _ = v
        have hcount (pg : Nat) : ((v.bump pg 0x148 0 128).countEv pg 0x11 1).slice sl = v.slice sl := by
          obtain ⟨r, hr⟩ := countEv_parts (v.bump pg 0x148 0 128) pg 0x11 1
          rw [hr]
          rfl
        rw [hcount, ← hv]
        exact hset ..
      · exact hset ..

theorem touch_sameBut (count : Bool) : s.sameBut [.regs, .freeCtr, .slices] (s.touch sl ln count) := Keeps.sameBut (State.touch_keeps rfl (.refl _ s))

/-- A line that is not resident is, once touched, a clean HOME line. -/
theorem touch_resident {s : State} {sl ln : Nat} (h : mapFind? (s.slice sl).lines ln = none) (count : Bool) :
    mapFind? ((s.touch sl ln count).slice sl).lines ln = some { kind := .home } := by
  unfold State.touch
  dsimp only
  rw [h, if_neg (by simp)]
  exact fill_resident ..

end

/-! Retired rows (R264). -/

/-- Lines poisoned stay poisoned, and every stack's patrol stands where it stood. -/
def RowWork (s u : State) : Prop := (∀ ln, ln ∈ s.poison → ln ∈ u.poison) ∧ ∀ k, (u.stack k).patrol = (s.stack k).patrol

section
variable {s u v : State}

theorem RowWork.trans (h : RowWork s u) (g : RowWork u v) : RowWork s v := ⟨fun ln hl => g.1 ln (h.1 ln hl), fun k => (g.2 k).trans (h.2 k)⟩

theorem RowWork.of_sameBut {fs : List Field} (h : s.sameBut fs u) (hf : .poison ∉ fs ∧ .stackSt ∉ fs) : RowWork s u := by
  have hpoison : u.poison = s.poison := h .poison hf.1
  have hstack : u.stackSt = s.stackSt := h .stackSt hf.2
  exact ⟨fun ln hl => hpoison ▸ hl, fun k => by rw [State.stack, hstack, State.stack]⟩

theorem RowWork.refl (s : State) : RowWork s s := ⟨fun _ h => h, fun _ => rfl⟩

theorem RowWork.fault (s : State) (f : FaultInfo) : RowWork s (s.fault f) := .of_sameBut (fault_sameBut s f) (by decide)

theorem RowWork.sat (s : State) (pg off sel hi lo n : Nat) : RowWork s (s.sat pg off sel hi lo n) := .of_sameBut (sameBut_regs s _) (by decide)

theorem RowWork.setStack {k : Nat} {x : Stack} (h : x.patrol = (s.stack k).patrol) : RowWork s (s.setStack k x) := by
  refine ⟨fun _ hl => hl, fun j => ?_⟩
  by_cases hj : k = j
  · rw [← hj, State.stack_setStack_same, h]
  · rw [State.stack_setStack_other _ _ _ _ hj]

theorem RowWork.addPoison (s : State) (ls : List Nat) : RowWork s { s with poison := s.poison ++ ls } :=
  ⟨fun _ hl => List.mem_append_left _ hl, fun _ => rfl⟩

/-- The line at an address that could not be read is poisoned. -/
theorem RowWork.poisonLine (s : State) (ln : Nat) : RowWork s { s with poison := if s.poison.contains ln then s.poison else s.poison ++ [ln] } := by
  split
  · exact ⟨fun _ hl => hl, fun _ => rfl⟩
  · exact .addPoison s _

theorem RowWork.retireRow (s : State) (da : Nat) (bad : List Nat) : RowWork s (s.retireRow da bad) := by
  unfold State.retireRow
  extract_lets k x
  split
  next ch pc bank row col _ =>
    extract_lets lns dead s1 pl s2 mask y s3
    split
    · exact .refl s
    · split
      · exact .fault s _
      · have h1 : s.sameBut [.slices] s1 := Keeps.sameBut (Keeps.foldl (fun _ _ hst => Keeps.set_slices (w := maskOf [.slices]) rfl hst) _ _ (.refl _ s))
        have h2 : RowWork s s2 := (RowWork.of_sameBut h1 (by decide)).trans (.addPoison s1 _)
        have h3 : RowWork s2 s3 := (RowWork.setStack (by rfl)).trans (.sat _ _ _ _ _ _ _)
        exact (h2.trans h3).trans (.fault s3 _)

/-- The state of a lasting error's line once it is poisoned and counted. -/
def State.lineLost (s : State) (da : Nat) : State :=
  let s1 := (s.sat (pgHbmc (daStack da)) 0x110 0 63 48 1).lasting (pgHbmc (daStack da))
  { s1 with poison := if s1.poison.contains (da / 128) then s1.poison else s1.poison ++ [da / 128] }

theorem lineLost_mem (s : State) (da : Nat) : da / 128 ∈ (s.lineLost da).poison := by
  unfold State.lineLost
  extract_lets s1
  show da / 128 ∈ if s1.poison.contains (da / 128) then s1.poison else s1.poison ++ [da / 128]
  split
  · next h => exact List.contains_iff_mem.1 h
  · simp

theorem hbmOutcome_lasting_eq (s : State) (da kind : Nat) (bad : List Nat) : s.hbmOutcome da 3 kind bad =
    ((s.lineLost da).fault { code := 0x1420, page := pgHbmc (daStack da), cls := 2, action := 7, detail := daDetail da (s.ofField da) kind }).retireRow da
      (if bad.contains (daPlace da).2.2.2.2 then bad else (daPlace da).2.2.2.2 :: bad) := rfl

theorem RowWork.hbmOutcome (s : State) (da outcome kind : Nat) (bad : List Nat) : RowWork s (s.hbmOutcome da outcome kind bad) := by
  by_cases hlost : outcome = 3
  · rw [hlost, hbmOutcome_lasting_eq]
    have hline : RowWork s (s.lineLost da) := ((RowWork.sat s _ _ _ _ _ _).trans (.sat _ _ _ _ _ _ _)).trans (.poisonLine _ _)
    exact (hline.trans (.fault _ _)).trans (.retireRow _ da _)
  · unfold State.hbmOutcome
    dsimp only
    split
    · split
      · exact ((RowWork.setStack (by rfl)).trans (.sat _ _ _ _ _ _ _)).trans (.retireRow _ da bad)
      · exact (RowWork.setStack (by rfl)).trans (.sat _ _ _ _ _ _ _)
    · exact .sat ..
    · exact absurd rfl hlost
    · exact .refl s

/-- A lasting error poisons its line. -/
theorem hbmOutcome_lasting (s : State) (da kind : Nat) (bad : List Nat) : da / 128 ∈ (s.hbmOutcome da 3 kind bad).poison := by
  rw [hbmOutcome_lasting_eq]
  exact ((RowWork.fault _ _).trans (.retireRow _ da _)).1 _ (lineLost_mem s da)

theorem hbmOutcome_sameBut (s : State) (da outcome kind : Nat) (bad : List Nat) :
    s.sameBut [.regs, .freeCtr, .recSeq, .pols, .intakes, .hostOut, .trace, .slices, .stackSt, .poison] (s.hbmOutcome da outcome kind bad) :=
  Keeps.sameBut (State.hbmOutcome_keeps rfl (.refl _ s))

end

/-! Zeroed blocks (R258). -/

/-- The stores that waited for a block go ahead in the slices, HBM and the line's poison; no block's freshness changes with them. -/
theorem zeroed_spec (s : State) (blk : Nat) : (s.zeroed blk).clean = blk :: s.clean ∧ (s.zeroed blk).zeroing = s.zeroing.filter (· != blk) ∧
    (s.zeroed blk).waitSt = s.waitSt.filter (fun w => w.line * 128 / 2 ^ 21 != blk) ∧ (s.zeroed blk).tiles = s.tiles := by
  unfold State.zeroed
  extract_lets k ready s1
  have h : s1.sameBut [.regs, .freeCtr, .hbm, .slices, .poison, .inval] (ready.foldl (fun st w => st.accept { line := w.line, img := w.img, pol := w.pol }) s1) :=
    Keeps.sameBut (Keeps.foldl (fun _ _ hst => State.accept_keeps (w := maskOf [.regs, .freeCtr, .hbm, .slices, .poison, .inval]) rfl hst) _ _ (.refl _ s1))
  exact ⟨h .clean (by decide), h .zeroing (by decide), h .waitSt (by decide), h .tiles (by decide)⟩

/-- The search passes over listed blocks. -/
theorem firstFresh_eq {clean : List Nat} (m : Nat) : ∀ (n b : Nat), m ≤ n → (∀ j, j < m → b + j ∈ clean) → b + m ∉ clean → firstFresh clean n b = b + m := by
  induction m with
  | zero =>
    intro n b _ _ hno
    cases n with
    | zero => rfl
    | succ n => rw [firstFresh, if_neg (by simpa using hno)]; rfl
  | succ m ih =>
    intro n b hmn hall hno
    cases n with
    | zero => omega
    | succ n =>
      have hb : b ∈ clean := hall 0 (by omega)
      rw [firstFresh, if_pos (List.contains_iff_mem.2 hb), ih n (b + 1) (by omega) ?_ ?_]
      · omega
      · intro j hj
        rw [show b + 1 + j = b + (j + 1) by omega]
        exact hall (j + 1) (by omega)
      · rwa [show b + 1 + m = b + (m + 1) by omega]

/-- A list that holds a run of blocks is at least as long as the run. -/
theorem run_le_length {clean : List Nat} {b m : Nat} (h : ∀ j, j < m → b + j ∈ clean) : m ≤ clean.length := by
  have hnodup : ((List.range m).map (b + ·)).Nodup := List.nodup_range.map fun x y e => by simpa using e
  have hsub : (List.range m).map (b + ·) ⊆ clean := fun x hx => by
    obtain ⟨j, hj, rfl⟩ := List.mem_map.1 hx
    exact h j (List.mem_range.1 hj)
  simpa using (List.subperm_of_subset hnodup hsub).length_le

end Sys2Proof.Machine
end

section
/-!
CERTIFICATE. Fills, poison, zeroing, patrol and invalidations (R241, R258, R261 to R263).
-/
namespace Sys2Proof.Machine

theorem onStack_eq_next {k : Nat} (h : k < 12) (f : Unit → State) : onStack k f = .next (f ()) := if_pos h

/-- An invalidation on its way is used up, with the near copy. -/
theorem effInval_arrives {s : State} {d ln : Nat} (h : (d, ln) ∈ s.inval) : effInval d ln s = { s with inval := s.inval.erase (d, ln) }.dropNear d ln :=
  if_pos (List.contains_iff_mem.2 h)

theorem effInval_none {s : State} {d ln : Nat} (h : (d, ln) ∉ s.inval) : effInval d ln s = s := if_neg fun e => h (List.contains_iff_mem.1 e)

theorem effInval_spec {s : State} {d ln : Nat} (h : (d, ln) ∈ s.inval) : (effInval d ln s).inval = s.inval.erase (d, ln) ∧
    s.sameBut [.inval, .slices] (effInval d ln s) ∧ (∀ a, (effInval d ln s).sees a = s.sees a) ∧
    ∀ x, mapFind? ((effInval d ln s).slice (nearSlice d (ln * 128))).lines ln = some x → x.kind ≠ .near := by
  have hparts : s.sameBut [.inval, .slices] (effInval d ln s) := Keeps.sameBut (effInval_keeps rfl (.refl _ s))
  have hhbm := hparts .hbm (by decide)
  rw [effInval_arrives h] at hparts hhbm ⊢
  have hwork : LineWork s (State.dropNear { s with inval := s.inval.erase (d, ln) } d ln) :=
    (LineWork.of_slices (u := { s with inval := s.inval.erase (d, ln) }) rfl (.of_regs rfl)).trans (.dropNear _ d ln)
  exact ⟨dropNear_sameBut _ d ln .inval (by decide), hparts, hwork.sees_eq hhbm, fun x => dropNear_gone _ d ln⟩

section
variable {s : State} {da : Nat} {bad : List Nat} (hmiss : mapFind? (s.slice (homeSlice da)).lines (da / 128) = none) (hfresh : s.fresh da = false)
include hmiss hfresh

theorem effHbmReturn_fills (outcome : Nat) : effHbmReturn da outcome bad s = (s.touch (homeSlice da) (da / 128) false).hbmOutcome da outcome 0 bad :=
  if_neg (by simp [hmiss, hfresh])

theorem effHbmReturn_clean : mapFind? ((effHbmReturn da 0 bad s).slice (homeSlice da)).lines (da / 128) = some { kind := .home } ∧
    (effHbmReturn da 0 bad s).hbm = s.hbm ∧ (effHbmReturn da 0 bad s).poison = s.poison ∧ (effHbmReturn da 0 bad s).tiles = s.tiles := by
  have hparts := touch_sameBut s (homeSlice da) (da / 128) false
  rw [effHbmReturn_fills hmiss hfresh]
  exact ⟨touch_resident hmiss false, hparts .hbm (by decide), hparts .poison (by decide), hparts .tiles (by decide)⟩

theorem effHbmReturn_lasting : da / 128 ∈ (effHbmReturn da 3 bad s).poison ∧ (effHbmReturn da 3 bad s).hbm = s.hbm := by
  rw [effHbmReturn_fills hmiss hfresh]
  exact ⟨hbmOutcome_lasting .., (hbmOutcome_sameBut _ da 3 0 bad .hbm (by decide)).trans (touch_sameBut s _ _ false .hbm (by decide))⟩

end

/-- The patrol moves on, whatever its read meets. -/
theorem effPatrol_spec {s : State} {k : Nat} (outcome : Nat) (bad : List Nat) (h : s.getF (pgHbmc k) 0x128 0 7 0 ≠ 0) :
    ((effPatrol k outcome bad s).stack k).patrol = ((s.stack k).patrol + 1) % 0x1200_0000 ∧ (effPatrol k outcome bad s).hbm = s.hbm := by
  refine ⟨?_, Keeps.sameBut (fs := [.regs, .freeCtr, .recSeq, .pols, .intakes, .hostOut, .trace, .slices, .stackSt, .poison])
    (effPatrol_keeps rfl (.refl _ s)) .hbm (by decide)⟩
  unfold effPatrol
  rw [if_neg h]
  extract_lets x da nxt s0 dirty s1 s2
  have h0 : (s0.stack k).patrol = nxt := congrArg Stack.patrol (State.stack_setStack_same ..)
  have h1 : s0.sameBut [.regs] s1 := Keeps.sameBut (State.countEv_keeps rfl (State.bump_keeps rfl (State.portGrant_keeps rfl (.refl _ s0))))
  have h2 : s1.sameBut [.regs] s2 := by
    show s1.sameBut [.regs] (if outcome = 1 then _ else s1)
    split
    · exact Keeps.sameBut (State.countEv_keeps rfl (State.bump_keeps rfl (.refl _ s1)))
    · exact Keeps.sameBut (.refl _ s1)
  split
  · exact h0
  · rw [((RowWork.of_sameBut (h1.trans h2) (by decide)).trans (.hbmOutcome s2 da outcome 6 bad)).2 k, h0]

theorem effScrub_next {s : State} {k blk : Nat} (hblk : blk < 18432) (hno : k * 18432 + blk ∉ s.clean) (hall : ∀ b, b < blk → k * 18432 + b ∈ s.clean) :
    effScrub k s = s.zeroed (k * 18432 + blk) := by
  unfold effScrub
  rw [firstFresh_eq blk _ _ (run_le_length hall) hall hno]
  exact if_pos (by omega)

/-- Settles O28: an invalidation by `effInval_spec`, fills by what a touched line and a lasting error leave, zeroing by `zeroed_spec`, and the patrol by
`effPatrol_spec`. -/
theorem hbmReadsZeroingAndInvalidation : Obligations.HbmReadsZeroingAndInvalidation := by
  refine ⟨fun s d ln hd => ?inval, fun s => ⟨fun da bad hda hmiss hfresh => ?fill, fun blk hblk hzero hclean => ?zero, fun k blk hk hblk hno hall => ?scrub,
    fun k outcome bad hk hon => ?patrol, fun k outcome bad hk hoff => ?off⟩⟩
  case inval =>
    have hexec : exec (.nearInvalidate d ln) s = .next (effInval d ln s) := onDie_eq_next hd fun _ => effInval d ln s
    exact ⟨fun h => ⟨_, hexec, effInval_spec h⟩, fun h => by rw [hexec, effInval_none h]⟩
  case fill =>
    have hexec (outcome : Nat) : exec (.hbmReadReturn da outcome bad) s = .next (effHbmReturn da outcome bad s) := if_pos hda
    exact ⟨⟨_, hexec 0, effHbmReturn_clean hmiss hfresh⟩, _, hexec 3, effHbmReturn_lasting hmiss hfresh⟩
  case zero =>
    have hexec : exec (.freshZeroDone blk) s = .next (if s.zeroing.contains blk ∧ !s.clean.contains blk then s.zeroed blk else s) := if_pos hblk
    rw [if_pos (by simp [hzero, hclean])] at hexec
    obtain ⟨hfresh, hgone, hwait, -⟩ := zeroed_spec s blk
    refine ⟨_, hexec, hfresh, ?_, fun w hw => ?_⟩
    · rw [hgone]
      simp
    · rw [hwait] at hw
      simpa using (List.mem_filter.1 hw).2
  case scrub =>
    have hexec : exec (.scrubZeroBlock k) s = .next (effScrub k s) := onStack_eq_next hk fun _ => effScrub k s
    rw [effScrub_next hblk hno hall] at hexec
    obtain ⟨hfresh, -, -, htiles⟩ := zeroed_spec s (k * 18432 + blk)
    exact ⟨_, hexec, hfresh, htiles⟩
  case patrol => exact ⟨_, onStack_eq_next hk fun _ => effPatrol k outcome bad s, effPatrol_spec outcome bad hon⟩
  case off => exact (onStack_eq_next hk fun _ => effPatrol k outcome bad s).trans (congrArg _ (if_pos hoff))

end Sys2Proof.Machine
end

section
/-!
SUPPORT. The write-combining buffers (R251 to R253): work that keeps them in order and changes no byte that loads see, and an accepted store.
-/
namespace Sys2Proof.Machine

/-! The list of slices stays in ascending order. -/

theorem mem_keys_mapSet {α : Type} {m : SMap α} {k x : Nat} {v : α} (h : x ∈ (mapSet m k v).map (·.1)) : x = k ∨ x ∈ m.map (·.1) := by
  induction m with
  | nil => exact .inl (by simpa [mapSet] using h)
  | cons e m ih =>
    obtain ⟨j, w⟩ := e
    unfold mapSet at h
    split at h
    · simpa using h
    · split at h
      · simp only [List.map_cons, List.mem_cons] at h ⊢
        exact h.imp_right .inr
      · simp only [List.map_cons, List.mem_cons] at h ⊢
        rcases h with h | h
        · exact .inr (.inl h)
        · exact (ih h).imp_right .inr

theorem sorted_mapSet {α : Type} {m : SMap α} (k : Nat) (v : α) (h : (m.map (·.1)).Pairwise (· < ·)) : ((mapSet m k v).map (·.1)).Pairwise (· < ·) := by
  induction m with
  | nil => simp [mapSet]
  | cons e m ih =>
    obtain ⟨j, w⟩ := e
    obtain ⟨hj, hm⟩ := List.pairwise_cons.1 h
    unfold mapSet
    split
    · next hk =>
      refine List.pairwise_cons.2 ⟨fun x hx => ?_, h⟩
      rcases List.mem_cons.1 hx with rfl | hx
      · exact hk
      · exact Nat.lt_trans hk (hj x hx)
    · split
      · next hk => exact List.pairwise_cons.2 ⟨fun x hx => hk ▸ hj x hx, hm⟩
      · refine List.pairwise_cons.2 ⟨fun x hx => ?_, ih hm⟩
        rcases mem_keys_mapSet hx with rfl | hx
        · show j < x
          omega
        · exact hj x hx

/-- Where the slices are listed in ascending order, they still are. -/
def SortedWork (s u : State) : Prop := (s.slices.map (·.1)).Pairwise (· < ·) → (u.slices.map (·.1)).Pairwise (· < ·)

section
variable {s u v : State}

theorem SortedWork.trans (h : SortedWork s u) (g : SortedWork u v) : SortedWork s v := fun hs => g (h hs)

theorem SortedWork.of_slices (h : u.slices = s.slices) : SortedWork s u := fun hs => by rwa [h]

theorem SortedWork.setSlice (s : State) (sl : Nat) (c : Slice) : SortedWork s (s.setSlice sl c) := fun hs => sorted_mapSet sl c hs

theorem SortedWork.count (s : State) (pg off n ev m : Nat) : SortedWork s ((s.bump pg off 0 n).countEv pg ev m) :=
  .of_slices (Keeps.sameBut (fs := [.regs]) (State.countEv_keeps rfl (State.bump_keeps rfl (.refl _ s))) .slices (by decide))

theorem SortedWork.fill (s : State) (sl ln : Nat) (x : LineSt) : SortedWork s (s.fill sl ln x) := by
  unfold State.fill
  dsimp only
  split
  · exact .setSlice s sl _
  · split
    · exact .setSlice s sl _
    · have hset (c : Slice) : SortedWork s ((drawFree s).2.setSlice sl c) := (SortedWork.of_slices (u := (drawFree s).2) rfl).trans (.setSlice _ sl c)
      split
      · exact (hset _).trans (.count _ _ _ _ _ _)
      · exact hset _

theorem SortedWork.touch (s : State) (sl ln : Nat) (count : Bool) : SortedWork s (s.touch sl ln count) := by
  unfold State.touch
  dsimp only
  split
  · split
    · exact .count s _ _ _ _ _
    · exact .of_slices rfl
  · refine SortedWork.trans (.of_slices ?_) (.fill _ sl ln _)
    have hmiss : (if count then (s.bump (pgSc sl) 0x138 0 1).countEv (pgSc sl) 0x11 1 else s).slices = s.slices := by
      split
      · exact Keeps.sameBut (fs := [.regs]) (State.countEv_keeps rfl (State.bump_keeps rfl (.refl _ s))) .slices (by decide)
      · rfl
    split
    · exact hmiss
    · exact (Keeps.sameBut (fs := [.regs]) (State.portGrant_keeps rfl (State.countEv_keeps rfl (State.bump_keeps rfl (.refl _ _)))) .slices (by decide)).trans hmiss

theorem SortedWork.dropNear (s : State) (d ln : Nat) : SortedWork s (s.dropNear d ln) := by
  unfold State.dropNear
  extract_lets sl
  split
  · split
    · exact .setSlice s sl _
    · exact .of_slices rfl
  · exact .of_slices rfl

theorem SortedWork.drain (s : State) (sl : Nat) (e : WcbEntry) : SortedWork s (s.drain sl e) := by
  have hfill : SortedWork s (s.drainFill sl e) := by
    unfold State.drainFill
    refine SortedWork.trans ?_ (.fill _ sl e.line _)
    split
    · exact .of_slices rfl
    · exact .touch s sl e.line false
  rw [drain_eq]
  obtain ⟨r, hr⟩ := countEv_parts ((s.drainFill sl e).putLine e) (pgSc sl) 0x15 1
  rw [hr]
  exact hfill.trans (.of_slices rfl)

/-! Work on buffers in order. -/

/-- From buffers in order: they stay so, and loads see what they saw. -/
def BufferWork (s u : State) : Prop := s.buffersOk → u.buffersOk ∧ ∀ a, u.sees a = s.sees a

theorem BufferWork.trans (h : BufferWork s u) (g : BufferWork u v) : BufferWork s v := fun hs => by
  obtain ⟨hu, hsees⟩ := h hs
  obtain ⟨hv, hsees'⟩ := g hu
  exact ⟨hv, fun a => (hsees' a).trans (hsees a)⟩

/-- Work on lines and counters, with HBM left alone. -/
theorem BufferWork.of_lines (h : LineWork s u) (hk : SortedWork s u) (hm : u.hbm = s.hbm) : BufferWork s u := by
  rintro ⟨hwf, hsorted, hent⟩
  exact ⟨⟨hm ▸ hwf, hk hsorted, fun sl => by rw [h.wcb]; exact hent sl⟩, h.sees_eq hm⟩

theorem BufferWork.refl (s : State) : BufferWork s s := fun hs => ⟨hs, fun _ => rfl⟩

theorem BufferWork.touch (s : State) (sl ln : Nat) (count : Bool) : BufferWork s (s.touch sl ln count) :=
  .of_lines (.touch s sl ln count) (.touch s sl ln count) (touch_sameBut s sl ln count .hbm (by decide))

theorem BufferWork.dropNear (s : State) (d ln : Nat) : BufferWork s (s.dropNear d ln) :=
  .of_lines (.dropNear s d ln) (.dropNear s d ln) (dropNear_sameBut s d ln .hbm (by decide))

theorem BufferWork.portGrant (s : State) (sl ln : Nat) {who : Nat} (hw : who < 32) : BufferWork s (s.portGrant sl who ln) :=
  .of_lines (.portGrant s sl ln hw) (.of_slices rfl) rfl

theorem BufferWork.count (s : State) (pg off n ev : Nat) (hc : counterOff off) (ho : off < 4096) : BufferWork s ((s.bump pg off 0 n).countEv pg ev 1) :=
  .of_lines (.count s pg ev n hc ho) (.count s pg off n ev 1)
    (Keeps.sameBut (fs := [.regs]) (State.countEv_keeps rfl (State.bump_keeps rfl (.refl _ s))) .hbm (by decide))

/-- A slice's entries replaced by others of its lines, whole and one a line. -/
theorem buffersOk_setSlice {sl : Nat} {c : Slice} (hs : s.buffersOk) (hn : (c.wcb.map (·.line)).Nodup)
    (he : ∀ e, e ∈ c.wcb → e.img.length = 128 ∧ homeSlice (e.line * 128) = sl) : (s.setSlice sl c).buffersOk := by
  obtain ⟨hwf, hsorted, hent⟩ := hs
  refine ⟨hwf, sorted_mapSet sl c hsorted, fun k => ?_⟩
  by_cases hk : sl = k
  · rw [← hk, State.slice_setSlice_same]
    exact ⟨hn, he⟩
  · rw [State.slice_setSlice_other _ _ _ _ hk]
    exact hent k

theorem BufferWork.drainLine {sl ln : Nat} (hhome : homeSlice (ln * 128) = sl) : BufferWork s (s.drainLine sl ln) := by
  intro hs
  have hent := hs.2.2
  refine ⟨?_, sees_drainLine hs.1 hhome fun e he => ((hent sl).2 e he).1⟩
  cases h : (s.slice sl).wcb.find? (fun e => e.line == ln) with
  | none => rwa [drainLine_none h]
  | some e =>
    rw [drainLine_some h]
    have hout : (s.takeEntry sl ln).buffersOk :=
      buffersOk_setSlice hs ((hent sl).1.sublist (List.filter_sublist.map _)) fun e he => (hent sl).2 e (List.mem_filter.1 he).1
    obtain ⟨hwf', hsorted', hent'⟩ := hout
    refine ⟨?_, SortedWork.drain _ sl e hsorted', fun k => by rw [(LineWork.drain _ sl e).wcb]; exact hent' k⟩
    rw [(drain_memory _ sl e).1]
    exact memWrite_wf _ _ hwf'

/-- The oldest entry drained is its line drained. -/
theorem drain_head {sl : Nat} {e : WcbEntry} {es : List WcbEntry} (hs : s.buffersOk) (h : (s.slice sl).wcb = e :: es) :
    (s.setSlice sl { s.slice sl with wcb := es }).drain sl e = s.drainLine sl e.line := by
  have hrest : (s.slice sl).wcb.filter (fun x => x.line != e.line) = es := by
    obtain ⟨-, -, hent⟩ := hs
    have hnodup := (hent sl).1
    rw [h, List.map_cons, List.nodup_cons] at hnodup
    rw [h, List.filter_cons_of_neg (by simp), List.filter_eq_self]
    exact fun x hx => bne_iff_ne.2 fun e' => hnodup.1 (e' ▸ List.mem_map_of_mem hx)
  rw [drainLine_some (e := e) (by rw [h, List.find?_cons_of_pos (by simp)]), State.takeEntry, hrest]

theorem BufferWork.highDrain (n sl : Nat) : ∀ s : State, BufferWork s (State.highDrain n sl s) := by
  induction n with
  | zero => exact .refl
  | succ n ih =>
    intro s hs
    unfold State.highDrain
    dsimp only
    split
    · exact BufferWork.refl s hs
    · split
      · exact BufferWork.refl s hs
      · next e es h =>
        have hhome : homeSlice (e.line * 128) = sl := ((hs.2.2 sl).2 e (by rw [h]; exact List.mem_cons_self ..)).2
        rw [drain_head hs h]
        exact (BufferWork.drainLine hhome).trans (ih _) hs

end

/-! Line images. -/

theorem lineImg_eq {o : Nat} {bs : List Byte} (h : o + bs.length ≤ 128) :
    lineImg o bs = List.replicate o none ++ bs.map some ++ List.replicate (128 - o - bs.length) none := by
  refine List.take_of_length_le ?_
  simp
  omega

theorem lineImg_length {o : Nat} {bs : List Byte} (h : o + bs.length ≤ 128) : (lineImg o bs).length = 128 := by
  rw [lineImg_eq h]
  simp
  omega

/-- A byte of the image is the store's, or not written. -/
theorem lineImg_getD {o i : Nat} {bs : List Byte} (h : o + bs.length ≤ 128) :
    (lineImg o bs).getD i none = if o ≤ i ∧ i < o + bs.length then some (bs.getD (i - o) 0) else none := by
  rw [lineImg_eq h]
  by_cases hlo : i < o
  · rw [if_neg (by omega), List.append_assoc, List.getD_append _ _ _ _ (by simpa using hlo)]
    simp [List.getD_eq_getElem?_getD, hlo]
  · rw [List.append_assoc, List.getD_append_right _ _ _ _ (by simpa using hlo), List.length_replicate]
    by_cases hhi : i < o + bs.length
    · have hin : i - o < bs.length := by omega
      rw [if_pos (by omega), List.getD_append _ _ _ _ (by simpa using hin)]
      simp [List.getD_eq_getElem?_getD, hin]
    · rw [if_neg (by omega), List.getD_append_right _ _ _ _ (by simp; omega)]
      simp [List.getD_eq_getElem?_getD, List.getElem?_replicate]
      split <;> rfl

theorem imgOver_length {new old : List (Option Byte)} (hn : new.length = 128) (ho : old.length = 128) : (imgOver new old).length = 128 := by
  rw [imgOver, List.length_zipWith, hn, ho]
  rfl

/-- A later byte stands over an earlier one. -/
theorem imgOver_getD {new old : List (Option Byte)} {i : Nat} (hn : i < new.length) (ho : i < old.length) (b : Byte) :
    ((imgOver new old).getD i none).getD b = (new.getD i none).getD ((old.getD i none).getD b) := by
  simp only [imgOver, List.getD_eq_getElem?_getD, List.getElem?_zipWith, List.getElem?_eq_getElem hn, List.getElem?_eq_getElem ho, Option.getD_some]
  cases new[i] <;> rfl

/-- The bytes [o, o + n) of an image, one by one. -/
theorem img_window {img : List (Option Byte)} {o n : Nat} (h : o + n ≤ img.length) :
    (img.drop o).take n = (List.range n).map (fun i => img.getD (o + i) none) := by
  refine List.ext_getElem (by simp; omega) fun i hi _ => ?_
  have hlt : o + i < img.length := by simp at hi; omega
  simp [List.getD_eq_getElem?_getD, hlt]

/-! An accepted store (R251). -/

/-- The buffer of a slice with a store's entry merged into its line's, or as the newest. -/
def mergeEntry (wcb : List WcbEntry) (e : WcbEntry) : List WcbEntry :=
  if wcb.any (fun x => x.line == e.line) then wcb.map (fun x => if x.line = e.line then { x with img := imgOver e.img x.img } else x) else wcb ++ [e]

section
variable {wcb : List WcbEntry} {e : WcbEntry}

theorem mergeEntry_nodup (h : (wcb.map (·.line)).Nodup) : ((mergeEntry wcb e).map (·.line)).Nodup := by
  unfold mergeEntry
  split
  · rw [List.map_map]
    refine (congrArg List.Nodup (List.map_congr_left fun x _ => ?_)).mpr h
    show (if x.line = e.line then { x with img := imgOver e.img x.img } else x).line = x.line
    split <;> rfl
  · next hnone =>
    rw [List.map_append, List.nodup_append]
    refine ⟨h, by simp, fun a ha b hb hab => hnone ?_⟩
    obtain ⟨x, hx, hline⟩ := List.mem_map.1 ha
    obtain rfl : b = e.line := by simpa using hb
    exact List.any_eq_true.2 ⟨x, hx, beq_iff_eq.2 (hline.trans hab)⟩

theorem mem_mergeEntry {x : WcbEntry} (h : x ∈ mergeEntry wcb e) :
    x ∈ wcb ∨ x = e ∨ ∃ y, y ∈ wcb ∧ y.line = e.line ∧ x = { y with img := imgOver e.img y.img } := by
  unfold mergeEntry at h
  split at h
  · obtain ⟨y, hy, hxy⟩ := List.mem_map.1 h
    split at hxy
    · next hline => exact .inr (.inr ⟨y, hy, hline, hxy.symm⟩)
    · exact .inl (hxy ▸ hy)
  · rcases List.mem_append.1 h with h | h
    · exact .inl h
    · exact .inr (.inl (List.mem_singleton.1 h))

/-- What the merged buffer holds of a line. -/
theorem mergeEntry_find? (n : Nat) : (mergeEntry wcb e).find? (fun x => x.line == n) =
    if n = e.line then some (match wcb.find? (fun x => x.line == n) with | some x => { x with img := imgOver e.img x.img } | none => e)
    else wcb.find? (fun x => x.line == n) := by
  unfold mergeEntry
  split
  · next hany =>
    have hp : ((fun x : WcbEntry => x.line == n) ∘ fun x => if x.line = e.line then { x with img := imgOver e.img x.img } else x) = fun x => x.line == n := by
      funext x
      simp only [Function.comp]
      split <;> rfl
    rw [List.find?_map, hp]
    cases hfind : wcb.find? (fun x => x.line == n) with
    | none =>
      split
      · next hn =>
        obtain ⟨x, hx, hline⟩ := List.any_eq_true.1 hany
        exact absurd hline (hn ▸ List.find?_eq_none.1 hfind x hx)
      · rfl
    | some x =>
      obtain rfl : x.line = n := by simpa using List.find?_some hfind
      rw [Option.map_some]
      by_cases hline : x.line = e.line
      · rw [if_pos hline, if_pos hline]
      · rw [if_neg hline, if_neg hline]
  · next hany =>
    rw [List.find?_append]
    split
    · next hn =>
      have hnone : wcb.find? (fun x => x.line == n) = none :=
        List.find?_eq_none.2 fun x hx hline => hany (List.any_eq_true.2 ⟨x, hx, hn ▸ hline⟩)
      rw [hnone, hn]
      simp
    · next hn =>
      rw [List.find?_cons_of_neg (by simpa using Ne.symm hn)]
      simp

end

section
variable {s : State}

/-- The state with a store merged into its home slice's buffer. -/
def State.merged (s : State) (e : WcbEntry) : State :=
  s.setSlice (homeSlice (e.line * 128)) { s.slice (homeSlice (e.line * 128)) with wcb := mergeEntry (s.slice (homeSlice (e.line * 128))).wcb e }

theorem accept_eq (s : State) (e : WcbEntry) : s.accept e = State.highDrain 65 (homeSlice (e.line * 128)) ((s.merged e).sendInval e.line) := rfl

theorem merged_buffersOk {e : WcbEntry} (hs : s.buffersOk) (he : e.img.length = 128) : (s.merged e).buffersOk := by
  have hent := hs.2.2 (homeSlice (e.line * 128))
  refine buffersOk_setSlice hs (mergeEntry_nodup hent.1) fun x hx => ?_
  rcases mem_mergeEntry hx with hx | rfl | ⟨y, hy, hline, rfl⟩
  · exact hent.2 x hx
  · exact ⟨he, rfl⟩
  · exact ⟨imgOver_length he (hent.2 y hy).1, hline ▸ rfl⟩

/-- Of the store's line loads see its bytes over what they saw. -/
theorem sees_merged {e : WcbEntry} (hs : s.buffersOk) (he : e.img.length = 128) (a : Nat) :
    (s.merged e).sees a = if a / 128 = e.line then (e.img.getD (a % 128) none).getD (s.sees a) else s.sees a := by
  have hmod : a % 128 < 128 := Nat.mod_lt _ (by omega)
  by_cases hsl : homeSlice (e.line * 128) = homeSlice a
  · have hwcb : ((s.merged e).slice (homeSlice a)).wcb = mergeEntry (s.slice (homeSlice a)).wcb e := by
      rw [← hsl, State.merged, State.slice_setSlice_same]
    have hhbm : (s.merged e).hbm = s.hbm := rfl
    unfold State.sees
    rw [hwcb, mergeEntry_find?, hhbm]
    by_cases hline : a / 128 = e.line
    · rw [if_pos hline, if_pos hline]
      cases hfind : (s.slice (homeSlice a)).wcb.find? (fun x => x.line == a / 128) with
      | none => rfl
      | some x =>
        have hx : x.img.length = 128 := ((hs.2.2 (homeSlice a)).2 x (List.mem_of_find?_eq_some hfind)).1
        exact imgOver_getD (by omega) (by omega) _
    · rw [if_neg hline, if_neg hline]
  · have hline : a / 128 ≠ e.line := fun h => hsl (by rw [← h, homeSlice_line])
    rw [if_neg hline]
    exact sees_congr (by rw [State.merged, State.slice_setSlice_other _ _ _ _ hsl]) rfl

theorem accept_spec {e : WcbEntry} (hs : s.buffersOk) (he : e.img.length = 128) : (s.accept e).buffersOk ∧
    ∀ a, (s.accept e).sees a = if a / 128 = e.line then (e.img.getD (a % 128) none).getD (s.sees a) else s.sees a := by
  have hinval : BufferWork (s.merged e) ((s.merged e).sendInval e.line) := .of_lines (.of_slices rfl (.of_regs rfl)) (.of_slices rfl) rfl
  obtain ⟨hok, hsees⟩ := (hinval.trans (.highDrain 65 (homeSlice (e.line * 128)) _)) (merged_buffersOk hs he)
  rw [accept_eq]
  exact ⟨hok, fun a => (hsees a).trans (sees_merged hs he a)⟩

end

end Sys2Proof.Machine
end

section
/-!
CERTIFICATE. Loads and stores within one line (R242, R251 to R253, R258).
-/
namespace Sys2Proof.Machine

/-! One line. -/

theorem linePieces_zero (k pa : Nat) : linePieces k pa 0 = [] := by cases k <;> rfl

/-- An access within one line is one piece. -/
theorem linePieces_one {pa n : Nat} (hn : 0 < n) (hin : pa % 128 + n ≤ 128) : linePieces (n / 128 + 2) pa n = [(pa, n)] := by
  rw [linePieces, if_neg (by omega), Nat.min_eq_left (by omega)]
  dsimp only
  rw [Nat.sub_self, linePieces_zero]

/-- An access that is not empty has a first piece. -/
theorem linePieces_first {pa n : Nat} (hn : 0 < n) : ∃ m rest, linePieces (n / 128 + 2) pa n = (pa, m) :: rest := by
  rw [linePieces, if_neg (by omega)]
  exact ⟨_, _, rfl⟩

section
variable {s : State} {da : Nat}

theorem homeSlice_of_line {a : Nat} (h : a / 128 = da / 128) : homeSlice a = homeSlice da := by rw [← homeSlice_line, h, homeSlice_line]

/-- What loads see of a line with a committed entry. -/
theorem sees_of_entry {a : Nat} {e : WcbEntry} (hline : a / 128 = da / 128)
    (h : (s.slice (homeSlice da)).wcb.find? (fun x => x.line == da / 128) = some e) : s.sees a = (e.img.getD (a % 128) none).getD (memGet s.hbm a) := by
  unfold State.sees
  rw [homeSlice_of_line hline, hline, h]

/-! A load at its home slice (R252). -/

/-- What a load from HBM and the touch of its line return and leave. -/
def LoadOk (s : State) (da n : Nat) (r : Acc' × State) : Prop :=
  r.1 = .ok ((List.range n).map (fun k => s.sees (da + k))) ∧ ∀ a, r.2.sees a = s.sees a

/-- A load of bytes that no entry holds reads HBM. -/
theorem loadOk_hbm {n : Nat} (hs : s.buffersOk) (h : ∀ k, k < n → s.sees (da + k) = memGet s.hbm (da + k)) :
    LoadOk s da n (.ok (memRead s.hbm da n), s.touch (homeSlice da) (da / 128) true) := by
  refine ⟨congrArg Except.ok ?_, (BufferWork.touch s _ _ true hs).2⟩
  rw [memRead_eq_map hs.1]
  exact List.map_congr_left fun k hk => (h k (List.mem_range.1 hk)).symm

theorem homeLoad_spec {n : Nat} (p kind : Nat) (hs : s.buffersOk) (hin : da % 128 + n ≤ 128) (hpoison : da / 128 ∉ s.poison) :
    LoadOk s da n (s.homeLoad p kind da n) := by
  have hclean : ¬ s.poison.contains (da / 128) = true := fun h => hpoison (List.contains_iff_mem.1 h)
  unfold State.homeLoad
  dsimp only
  cases hfind : (s.slice (homeSlice da)).wcb.find? (fun x => x.line == da / 128) with
  | none =>
    dsimp only
    rw [if_neg hclean]
    exact loadOk_hbm hs fun k hk => sees_of_no_entry (by rw [homeSlice_of_line (show (da + k) / 128 = da / 128 by omega),
      show (da + k) / 128 = da / 128 by omega, hfind])
  | some e =>
    have hlen : e.img.length = 128 := ((hs.2.2 (homeSlice da)).2 e (List.mem_of_find?_eq_some hfind)).1
    have hwindow := img_window (img := e.img) (o := da % 128) (n := n) (by omega)
    have hbyte (k : Nat) (hk : k < n) : s.sees (da + k) = (e.img.getD (da % 128 + k) none).getD (memGet s.hbm (da + k)) := by
      rw [sees_of_entry (by omega) hfind, show (da + k) % 128 = da % 128 + k by omega]
    dsimp only
    split
    · next hcover =>
      refine ⟨congrArg Except.ok ?_, (BufferWork.count s _ _ _ _ (by simp [counterOff]) (by omega) hs).2⟩
      rw [imgBytes, hwindow, List.map_map]
      refine List.map_congr_left fun k hk => ?_
      rw [imgCovers, hwindow, List.all_eq_true] at hcover
      obtain ⟨b, hb⟩ := Option.isSome_iff_exists.1 (hcover _ (List.mem_map_of_mem hk))
      rw [hbyte k (List.mem_range.1 hk), hb, Function.comp_apply, hb]
      rfl
    · split
      · have hwork : BufferWork s (((s.drainLine (homeSlice da) (da / 128)).bump (pgSc (homeSlice da)) 0x148 0 1).countEv (pgSc (homeSlice da)) 0x13 1) :=
          (BufferWork.drainLine (homeSlice_line da)).trans (.count _ _ _ _ _ (by simp [counterOff]) (by omega))
        have hparts : (s.drainLine (homeSlice da) (da / 128)).sameBut [.regs]
            (((s.drainLine (homeSlice da) (da / 128)).bump (pgSc (homeSlice da)) 0x148 0 1).countEv (pgSc (homeSlice da)) 0x13 1) :=
          Keeps.sameBut (State.countEv_keeps rfl (State.bump_keeps rfl (.refl _ _)))
        generalize ((s.drainLine (homeSlice da) (da / 128)).bump (pgSc (homeSlice da)) 0x148 0 1).countEv (pgSc (homeSlice da)) 0x13 1 = u at hwork hparts
        obtain ⟨hok, hsees⟩ := hwork hs
        have hpoison' : ¬ u.poison.contains (da / 128) = true := fun h => hpoison (drainLine_poison (hparts .poison (by decide) ▸ List.contains_iff_mem.1 h))
        have hslices : u.slices = (s.drainLine (homeSlice da) (da / 128)).slices := hparts .slices (by decide)
        have hgone : (u.slice (homeSlice da)).wcb.find? (fun x => x.line == da / 128) = none := by
          rw [State.slice, hslices]
          exact drainLine_find?
        obtain ⟨hread, hseen⟩ := loadOk_hbm (s := u) (da := da) (n := n) hok fun k hk =>
          sees_of_no_entry (by rw [homeSlice_of_line (show (da + k) / 128 = da / 128 by omega), show (da + k) / 128 = da / 128 by omega, hgone])
        rw [if_neg hpoison']
        refine ⟨hread.trans ?_, fun a => (hseen a).trans (hsees a)⟩
        simp only [hsees]
      · next hmeet =>
        refine loadOk_hbm hs fun k hk => ?_
        rw [imgMeets, hwindow, List.any_eq_true] at hmeet
        have hnone : e.img.getD (da % 128 + k) none = none :=
          Option.not_isSome_iff_eq_none.1 fun hsome => hmeet ⟨_, List.mem_map_of_mem (List.mem_range.2 hk), hsome⟩
        rw [hbyte k hk, hnone]
        rfl

end

/-! Loads of one line (R242, R360). -/

section
variable {s : State} {p d kind pa da n : Nat}

theorem sramError_none (s : State) (d p kind da : Nat) : s.sramError d p kind da 0 = s := by
  unfold State.sramError
  dsimp only
  split <;> rfl

/-- The home slice's port granted for a load or a store of one line. -/
def State.lineGrant (s : State) (d kind da : Nat) : State := s.portGrant (homeSlice da) (s.portWho d (homeSlice da) (kindWho kind)) (da / 128)

theorem LineWork.lineGrant (s : State) (d kind da : Nat) : LineWork s (s.lineGrant d kind da) :=
  .portGrant _ _ _ (portWho_lt s _ _ (kindWho_lt kind) (by omega))

theorem StoreWork.lineGrant (s : State) (d kind da : Nat) : StoreWork s (s.lineGrant d kind da) :=
  ⟨(LineWork.lineGrant s d kind da).sliceWork, State.sameBut.mono (fs := [.regs]) (Keeps.sameBut (State.portGrant_keeps rfl (.refl _ s))) (by decide)⟩

theorem BufferWork.lineGrant (s : State) (d kind da : Nat) : BufferWork s (s.lineGrant d kind da) := .of_lines (.lineGrant s d kind da) (.of_slices rfl) rfl

/-- A load from its home's die that nothing refuses is one at the home slice. -/
theorem lineLoad_home (hd : d < 4) (hhome : homeSlice da / 16 = d) (hdike : s.sliceDike p kind 0 da = 0) (hserves : s.serves (pgSc (homeSlice da)) = true) :
    s.lineLoad d p kind (kindWho kind) da n = (s.lineGrant d kind da).homeLoad p kind da n := by
  have hwork := StoreWork.lineGrant s d kind da
  unfold State.lineLoad
  extract_lets sl g ee
  have hg : g = s.lineGrant d kind da := if_pos (by omega)
  have hpass : ee = 0 := by
    show g.sliceDike p kind 0 da = 0
    rw [hg, hwork.sliceDike_eq, hdike]
  have hon : g.serves (pgSc sl) = true := by rw [hg, hwork.serves_eq, hserves]
  rw [if_neg (by simp [hpass]), if_neg (by simp [hon]), if_pos (.inl hhome), hg]

theorem polLoad_one {via : Nat} (hn : 0 < n) (hin : pa % 128 + n ≤ 128) (hx : s.xlate p pa = .hbm da via) (hvia : via ≠ 2) {bs : List Byte} {u : State}
    (hload : s.lineLoad d p kind (kindWho kind) da n = (.ok bs, u)) : s.polLoad d p kind pa n = (.ok bs, u) := by
  unfold State.polLoad
  rw [linePieces_one hn hin]
  simp only [List.foldl_cons, List.foldl_nil, hx, if_neg hvia, hload, List.nil_append]

theorem effSliceLoad_served (hd : d < 4) (hs : s.buffersOk) (hr : s.reaches p kind 0 pa da n) (hhome : homeSlice da / 16 = d) :
    (effSliceLoad p d kind pa n 0 s).loadData = (List.range n).map (fun k => s.sees (da + k)) ∧ ∀ a, (effSliceLoad p d kind pa n 0 s).sees a = s.sees a := by
  obtain ⟨⟨via, hx, hvia⟩, hn, hin, hoff, hdike, hserves, -, hpoison⟩ := hr
  obtain ⟨hok, hgrant⟩ := BufferWork.lineGrant s d kind da hs
  obtain ⟨hread, hseen⟩ := homeLoad_spec (s := s.lineGrant d kind da) (n := n) p kind hok (by omega) (hpoison.resolve_left (by omega))
  have hline := lineLoad_home (n := n) hd hhome hdike hserves
  cases hload : (s.lineGrant d kind da).homeLoad p kind da n with
  | mk r u =>
    rw [hload] at hread hseen hline
    dsimp only at hread hseen
    rw [hread] at hline
    have heff : effSliceLoad p d kind pa n 0 s =
        { u with loadData := (List.range n).map (fun k => (s.lineGrant d kind da).sees (da + k)) } := by
      unfold effSliceLoad
      simp only [hx, sramError_none, polLoad_one hn hin hx (hvia rfl) hline]
    rw [heff]
    refine ⟨?_, fun a => (hseen a).trans (hgrant a)⟩
    simp only [hgrant]

/-- A load that the dike refuses ends with its first piece. -/
theorem lineLoad_refused (hdike : s.sliceDike p kind 0 da ≠ 0) : ∃ c u, s.lineLoad d p kind (kindWho kind) da n = (.error c, u) ∧ u.hbm = s.hbm := by
  unfold State.lineLoad
  extract_lets sl g ee
  have hgrant : StoreWork s g ∧ g.hbm = s.hbm := by
    show StoreWork s (if sl / 16 < 4 then s.lineGrant d kind da else s) ∧ (if sl / 16 < 4 then s.lineGrant d kind da else s).hbm = s.hbm
    split
    · exact ⟨.lineGrant s d kind da, rfl⟩
    · exact ⟨.refl s, rfl⟩
  have hrefused : ee ≠ 0 := by
    show g.sliceDike p kind 0 da ≠ 0
    rwa [hgrant.1.sliceDike_eq]
  have hhbm (sl' : Nat) : (g.dikeRefuse sl' ee p kind da).hbm = g.hbm :=
    Keeps.sameBut (fs := [.regs, .freeCtr, .recSeq, .pols, .intakes, .hostOut, .trace]) (State.countEv_keeps rfl (State.fault_keeps rfl (.refl _ g))) .hbm
      (by decide)
  rw [if_pos hrefused]
  exact ⟨_, _, rfl, (hhbm _).trans hgrant.2⟩

theorem effSliceLoad_refused {via : Nat} (hx : s.xlate p pa = .hbm da via) (hvia : via ≠ 2) (hn : 0 < n) (hdike : s.sliceDike p kind 0 da ≠ 0) :
    (effSliceLoad p d kind pa n 0 s).loadData = [] ∧ (effSliceLoad p d kind pa n 0 s).hbm = s.hbm := by
  obtain ⟨m, rest, hpieces⟩ := linePieces_first (pa := pa) hn
  obtain ⟨c, u, hline, hhbm⟩ := lineLoad_refused (d := d) (n := m) hdike
  have hload : ∃ e, s.polLoad d p kind pa n = (.error e, u) := by
    unfold State.polLoad
    rw [hpieces]
    simp only [List.foldl_cons, hx, if_neg hvia, hline]
    exact ⟨(c, pa), List.foldlRecOn (motive := fun acc => acc = (Except.error (c, pa), u)) rest _ rfl fun acc hacc q _ => by rw [hacc]⟩
  obtain ⟨e, hload⟩ := hload
  have heff : effSliceLoad p d kind pa n 0 s = { u with loadData := [] } := by
    unfold effSliceLoad
    simp only [hx, sramError_none, hload]
  rw [heff]
  exact ⟨rfl, hhbm⟩

end

/-! Stores of one line (R251, R258). -/

section
variable {s : State} {p d kind pa da : Nat} {data : List Byte}

/-- The home slice as a store finds it: its port granted, and the storing die's near copy dropped. -/
def State.storeGrant (s : State) (d kind da : Nat) : State :=
  if homeSlice da / 16 = d then s.lineGrant d kind da else (s.lineGrant d kind da).dropNear d (da / 128)

theorem BufferWork.storeGrant (s : State) (d kind da : Nat) : BufferWork s (s.storeGrant d kind da) := by
  unfold State.storeGrant
  split
  · exact .lineGrant s d kind da
  · exact (BufferWork.lineGrant s d kind da).trans (.dropNear _ d _)

theorem storeGrant_sameBut (s : State) (d kind da : Nat) : s.sameBut [.regs, .slices] (s.storeGrant d kind da) := by
  unfold State.storeGrant
  split
  · exact Keeps.sameBut (State.portGrant_keeps rfl (.refl _ s))
  · exact Keeps.sameBut (State.dropNear_keeps rfl (State.portGrant_keeps rfl (.refl _ s)))

/-- A store that nothing refuses reaches its home slice. -/
theorem polStore_one (hr : s.reaches p kind 1 pa da data.length) : ∃ w : WaitStore, w.line = da / 128 ∧ w.img = lineImg (da % 128) data ∧
    (s.polStore d p kind pa data).2 = (s.storeGrant d kind da).storeIn w := by
  obtain ⟨⟨via, hx, -⟩, hn, hin, -, hdike, hserves, hstop, -⟩ := hr
  refine ⟨{ line := da / 128, img := lineImg (da % 128) data, pol := (s.owner 1 (da / 2 ^ 28)).getD p, tile := 0xFFFF, path := 0, ord := 0 }, rfl, rfl, ?_⟩
  unfold State.polStore
  rw [linePieces_one hn hin]
  simp only [List.foldl_cons, List.foldl_nil, hx, hdike, hserves, hstop, ne_eq, not_true_eq_false, if_false, Bool.not_true, Bool.false_eq_true, or_self,
    Nat.sub_self, List.drop_zero, List.take_length]
  rfl

theorem fresh_line (s : State) (da : Nat) : s.fresh (da / 128 * 128) = s.fresh da := by
  rw [State.fresh, show da / 128 * 128 / 2 ^ 21 = da / 2 ^ 21 by omega, State.fresh]

/-- A store to a block that is not fresh: exactly its bytes change. -/
theorem polStore_seen (hs : s.buffersOk) (hr : s.reaches p kind 1 pa da data.length) (hfresh : s.fresh da = false) :
    (s.polStore d p kind pa data).2.buffersOk ∧
      ∀ a, (s.polStore d p kind pa data).2.sees a = if da ≤ a ∧ a < da + data.length then data.getD (a - da) 0 else s.sees a := by
  obtain ⟨w, hline, himg, hstore⟩ := polStore_one (d := d) hr
  obtain ⟨-, -, hin, hoff, -⟩ := hr
  have hfits : da % 128 + data.length ≤ 128 := by omega
  obtain ⟨hok, hgrant⟩ := BufferWork.storeGrant s d kind da hs
  have hclean : (s.storeGrant d kind da).clean = s.clean := storeGrant_sameBut s d kind da .clean (by decide)
  have hfresh' : ¬ (s.storeGrant d kind da).fresh (w.line * 128) = true := by
    rw [hline, fresh_line, State.fresh, hclean]
    exact Bool.eq_false_iff.1 hfresh
  obtain ⟨hok', hsees⟩ := accept_spec (e := { line := w.line, img := w.img, pol := w.pol }) hok (himg ▸ lineImg_length hfits)
  rw [hstore, State.storeIn, if_neg hfresh']
  refine ⟨hok', fun a => (hsees a).trans ?_⟩
  dsimp only
  rw [hline, himg, hgrant, lineImg_getD hfits]
  by_cases ha : da ≤ a ∧ a < da + data.length
  · rw [if_pos ha, if_pos (by omega), if_pos (by omega), Option.getD_some, show a % 128 - da % 128 = a - da by omega]
  · rw [if_neg ha]
    split
    · rw [if_neg (by omega), Option.getD_none]
    · rfl

/-- A store to a fresh block waits for its zeroing, unseen. -/
theorem polStore_waits (hs : s.buffersOk) (hr : s.reaches p kind 1 pa da data.length) (hfresh : s.fresh da = true) :
    (∀ a, (s.polStore d p kind pa data).2.sees a = s.sees a) ∧ da / 2 ^ 21 ∈ (s.polStore d p kind pa data).2.zeroing ∧
      (s.polStore d p kind pa data).2.waitSt.length = s.waitSt.length + 1 := by
  obtain ⟨w, hline, -, hstore⟩ := polStore_one (d := d) hr
  obtain ⟨-, hgrant⟩ := BufferWork.storeGrant s d kind da hs
  have hparts := storeGrant_sameBut s d kind da
  have hclean : (s.storeGrant d kind da).clean = s.clean := hparts .clean (by decide)
  have hwait : (s.storeGrant d kind da).waitSt = s.waitSt := hparts .waitSt (by decide)
  have hfresh' : (s.storeGrant d kind da).fresh (w.line * 128) = true := by
    rw [hline, fresh_line, State.fresh, hclean]
    exact hfresh
  rw [hstore, State.storeIn, if_pos hfresh', hline, show da / 128 * 128 / 2 ^ 21 = da / 2 ^ 21 by omega]
  refine ⟨hgrant, ?_, ?_⟩
  · dsimp only
    split
    · next h => exact List.contains_iff_mem.1 h
    · simp
  · simp [hwait]

end

/-- Settles O26: a load by `effSliceLoad_served` and `effSliceLoad_refused`, a store by `polStore_seen` and `polStore_waits`. -/
theorem loadsSeeWhatIsStored : Obligations.LoadsSeeWhatIsStored := by
  refine ⟨fun s p d kind pa da n hp hd hkind hs => ?loads, fun s p d kind pa da data hp hd hkind hs hr => ?stores⟩
  case loads =>
    have hexec : exec (.sliceLoad p d kind pa n 0) s = .next (effSliceLoad p d kind pa n 0 s) := if_pos ⟨hp, hd, hkind⟩
    have hparts : s.sameBut [.regs, .freeCtr, .recSeq, .hbm, .pols, .intakes, .hostOut, .trace, .slices, .poison, .loadData] _ := exec_sameBut hexec
    refine ⟨fun hr hhome => ?_, fun via hx hvia hn hdike => ?_⟩
    · obtain ⟨hdata, hsees⟩ := effSliceLoad_served hd hs hr hhome
      exact ⟨_, hexec, hdata, hsees, hparts .tiles (by decide), hparts .scr (by decide)⟩
    · obtain ⟨hdata, hhbm⟩ := effSliceLoad_refused (d := d) hx hvia hn hdike
      exact ⟨_, hexec, hdata, hhbm, hparts .scr (by decide)⟩
  case stores =>
    have hexec : exec (.sliceStore p d kind pa data) s = .next (s.polStore d p kind pa data).2 := if_pos ⟨hp, hd, hkind⟩
    have hparts : s.sameBut [.regs, .freeCtr, .recSeq, .hbm, .pols, .intakes, .hostOut, .trace, .slices, .zeroing, .waitSt, .poison, .inval] _ :=
      exec_sameBut hexec
    refine ⟨fun hfresh => ?_, fun hfresh => ?_⟩
    · obtain ⟨hok, hsees⟩ := polStore_seen (d := d) hs hr hfresh
      exact ⟨_, hexec, hok, hsees, hparts .tiles (by decide), hparts .scr (by decide)⟩
    · obtain ⟨hsees, hzero, hwait⟩ := polStore_waits (d := d) hs hr hfresh
      exact ⟨_, hexec, hsees, hzero, hwait, hparts .tiles (by decide), hparts .scr (by decide)⟩

end Sys2Proof.Machine
end
